-- ==== Sys2Proof/Word.lean ====
section
/-! DEFINITION. The word types of the device: registers are 32 bits wide (R5), and the four time
formats of R69; and the small types that operands of commands take. -/
namespace Sys2Proof

/-- A register word (R5). -/
abbrev Word := BitVec 32
/-- One byte of a memory, a frame or a record. -/
abbrev Byte := BitVec 8
/-- A 64-bit engine register or address. -/
abbrev DWord := BitVec 64
/-- Bedrock format: [79:16] CD_TB cycles, [15:0] fraction of a cycle (R63, R69). -/
abbrev BT80 := BitVec 80
/-- Served-time format: a count of 2^-16 ns since the PTP epoch, TAI (R69). -/
abbrev WT96 := BitVec 96
/-- PTP format: [79:32] seconds, [31:0] nanoseconds (R69). -/
abbrev PT80 := BitVec 80
/-- NTP format: [63:32] seconds modulo 2^32, [31:0] fraction (R69). -/
abbrev NT64 := BitVec 64

/-- Who sends a register access: the masters of R48 and R17. The control cluster is cluster 63. (DESIGN CHOICE, log 100.) -/
inductive Master where
  | host | jtag | calendar
  | cluster (c : Fin 64)
  deriving DecidableEq, Repr

/-- The size of a bus access (R5 to R7). -/
inductive AccSize where
  | byte | half | word | double
  deriving DecidableEq, Repr

/-- An offset in the 64 MiB of BAR0 (R887). -/
abbrev BAddr := BitVec 26
/-- A read of BAR0: its address and size (R5 to R7, R887). -/
structure ReadAt where
  addr : BAddr
  size : AccSize
  deriving DecidableEq, Repr
/-- A register number field of a Facet instruction (R600). -/
abbrev GReg := BitVec 5

/-- What the correlators, the code discriminators and the loop filters of a GNSS channel give at an integration boundary
(R355, R357, R361). (DESIGN CHOICE, log 45.) -/
structure Integration where
  i : Word                              -- prompt sums I_P and Q_P, signed
  q : Word
  early : Word                          -- envelopes |E|, |L|, |VE| and |VL|
  late : Word
  vEarly : Word
  vLate : Word
  ferr : Word                           -- frequency error that the FLL's discriminator finds, signed, 2^-10 Hz
  cn0 : BitVec 16                       -- power-ratio estimate, 1/256 dB-Hz
  sync : Bool                           -- data-bit or secondary-code sync is found
  symPos : BitVec 16                    -- position in the symbol or secondary code
  secLen : BitVec 16                    -- primary code periods in the secondary code of a pilot
  deriving DecidableEq, Repr

/-- A decoded navigation message unit (R370 to R373). -/
structure NavUnit where
  data : List Byte                      -- its bits, the first in bit 7 of byte 0
  bch : Bool                            -- the BCH code of subframe 1 of a B-CNAV1 frame holds
  fec : BitVec 16
  inverted : Bool
  start : BT80                          -- Bedrock at which its first symbol arrived
  parErr : Bool                         -- a parity error in the decoder state
  deriving DecidableEq, Repr

/-- What one lane's interference meter measured over 10 ms (R334, R404, R406). -/
structure JamLane where
  lane : Fin 8
  words : List Byte                     -- words its receiver placed, from the first sample period of the interval on
  phi : BitVec 16                       -- ceil(-40 log10 SF)
  peak : BitVec 24                      -- strongest bin: centre in kHz, ratio in 0.25 dB
  deriving DecidableEq, Repr

/-- A frame as a port's receiver delivers it, from the destination through the FCS (R466). -/
structure RxFrame where
  data : List Byte
  err : Bool                            -- an error block was received within it
  ecc : Bool                            -- a stored cell has an uncorrectable error
  occ : BitVec 13                       -- cells that other frames hold as it arrives, and once it is gone (R470)
  left : BitVec 13
  blk : DWord                           -- receive block that carried its timestamp point
  codeErr : Nat := 0                    -- invalid or error blocks, FEC codewords corrected and not correctable, and LPI blocks
  fecCorr : Nat := 0                    --   received since the frame before it (R460, R484)
  fecUncorr : Nat := 0
  lpi : Nat := 0
  deriving DecidableEq, Repr

end Sys2Proof
end

