-- ==== Sys2Proof/Syntax.lean ====
section
/-! DEFINITION. The commands the device takes: the table of operations and events, one constructor for each row, with the
operands a sender gives. Numbers of instances are bounded by their types. -/
namespace Sys2Proof
/-- The commands of the device: one constructor for each row of the table of operations and events. -/
inductive Instr where
  /-- REGISTER_WRITE (R10): A write to a register that has no row of its own sets, clears or ignores bits by the register's access type. -/
  | registerWrite (m : Master) (size : AccSize) (addr : BAddr) (v : DWord)
  /-- MULTIWORD_LO_READ (R15): A read of a _LO word returns the live low word and copies the other words of the value into the reading master's shadow. -/
  | multiwordLoRead (m : Master) (r : ReadAt)
  /-- MULTIWORD_HI_WRITE (R19): A write of a _HI word commits the words the same writer has staged for the value, all in one cycle. -/
  | multiwordHiWrite (m : Master) (addr : BAddr) (v : Word)
  /-- READ_CLEAR_COUNTER_READ (R13): A read of an RC counter returns its value and clears it; an increment in the same cycle leaves the counter at 1. -/
  | readClearCounterRead (m : Master) (addr : BAddr) (inc : Bool)
  /-- EVT_FORCE_WRITE (R25): A write of 1 to EVT_FORCE sets the matching EVT_RAW bit through the hardware path. -/
  | evtForceWrite (m : Master) (page : BAddr) (v : Word)
  /-- SOFT_RESET (R28): A write of 1 to CTRL.SOFT_RESET resets the block and its children and wipes their memories; the other CTRL bits of that write are discarded. -/
  | softReset (m : Master) (page : BAddr) (v : Word)
  /-- SOFT_RESET_COMPLETE (R27): When the reset and memory wipe end, SOFT_RESET self-clears and STAT.READY becomes 1. -/
  | softResetComplete (page : BAddr)
  /-- BLOCK_ENABLE (R51): A write of CTRL.EN enables or disables the block; while a parent's EN is 0 its children are held disabled. -/
  | blockEnable (m : Master) (page : BAddr) (v : Word)
  /-- BLOCK_FREEZE (R26): A write of CTRL.FREEZE=1 stops the block and its children at their next safe points; a write of 0 resumes them. -/
  | blockFreeze (m : Master) (page : BAddr) (v : Word)
  /-- FREEZE_SAFE_POINT (R27): The block reaches its safe point after FREEZE=1, and STAT.FROZEN becomes 1. -/
  | freezeSafePoint (page : BAddr)
  /-- CFG_LOCK (R26): A write of 1 to CTRL.CFG_LOCK locks every RWL field of the page until a reset of the block. -/
  | cfgLock (m : Master) (page : BAddr) (v : Word)
  /-- B4MODE_WRITE (R37): A write of SYS_COMPAT.B4MODE is accepted only while every PRT page is disabled, and then selects the B4 register formats. -/
  | b4modeWrite (m : Master) (v : Word)
  /-- BEDROCK_WRAP (R68): In the cycle in which Bedrock wraps, 2^80 is added to OFS so that served time runs on without a step. -/
  | bedrockWrap
  /-- RATE_COMMIT (R73): A write of BDR_RATE_HI commits a RATE change, which is placed at an anchor, queued, merged or held by FREEZE. -/
  | rateCommit (m : Master) (v : Word)
  /-- STEP_COMMIT (R73): A write of BDR_STEP_HI commits an offset step, placed at an anchor beyond the reservation horizon. -/
  | stepCommit (m : Master) (v : Word)
  /-- SLEW_COMMIT (R86): A write of BDR_SLEW_AMT_HI commits a slew, judged at its anchor with the duration then in BDR_SLEW_DUR. -/
  | slewCommit (m : Master) (v : Word)
  /-- SLEW_ABORT (R89): A write of 1 to BDR_CMD.SLEW_ABORT commits an abort of the active slew, or does nothing when no slew is active or outstanding. -/
  | slewAbort (m : Master) (v : Word)
  /-- BDR_CAPTURE (R98): A write of 1 to BDR_CMD.CAPTURE captures Bedrock and its served time in one cycle into BDR_CAPBT and BDR_CAPWT. -/
  | bdrCapture (m : Master) (v : Word)
  /-- CHANGE_ANCHOR (R71): A pending BDR change reaches its anchor and applies its rate, step, abort and slew parts in that order. -/
  | changeAnchor
  /-- SLEW_END (R72): When the slew's elapsed time reaches its duration, the amount is moved into OFS, the slew ends and SLEW_END is raised. -/
  | slewEnd
  /-- BDR_CONVERT (R97): A write of BDR_CVT_IN_HI starts conversion of a WT96 to PT80, residual and NT64; reads within 40 ns stall for the result. -/
  | bdrConvert (m : Master) (v : Word)
  /-- UTC_OFS_WRITE (R93): A write of BDR_UTC_OFS changes TAI_UTC, LEAP or VALID, retains the previous TAI_UTC with its served time, and raises UTC. -/
  | utcOfsWrite (m : Master) (v : Word)
  /-- SLOT_ARM (R108): A write of a slot's CTL with TYPE not 0 copies its due time and parameter entry, checks them, and sets STATE to ARMED or REFUSED. -/
  | slotArm (m : Master) (n : BitVec 12) (v : Word)
  /-- SLOT_CLEAR (R110): A write of a slot's CTL with TYPE 0 returns the slot to EMPTY unless it has been taken. -/
  | slotClear (m : Master) (n : BitVec 12) (v : Word)
  /-- ACT_DISARM (R120): A write of 1 to ACT_DISARM returns every ARMED slot not yet taken to EMPTY. -/
  | actDisarm (m : Master) (v : Word)
  /-- SLOT_TAKE (R111): An armed slot is taken in the first cycle whose served time is at or after its due time, and its lateness and COND are judged. -/
  | slotTake (n : BitVec 12)
  /-- SLOT_STORE_ERROR (R113): A slot whose stored copy is found uncorrectable is taken at once and ended NOT_APPLIED with STORE_ERR. -/
  | slotStoreError (n : BitVec 12)
  /-- ACTION_INITIATE (R116): A taken slot begins its action in its turn in the one-per-cycle initiation queue. -/
  | actionInitiate
  /-- PULSE_WIDTH_END (R117): When the programmed width of a calendar PULSE has elapsed, the GPIO returns to its inactive level. -/
  | pulseWidthEnd (g : Fin 32)
  /-- ACTION_OUTCOME (R114): When a slot's action completes or fails at its target, the slot's STATE and REASON are set to APPLIED or NOT_APPLIED. -/
  | actionOutcome (n : BitVec 12)
  /-- ASY_COMMIT (R131): A write of ASY_CMD.COMMIT commits every staged ASY value to an anchor placed by the BDR anchor rule. -/
  | asyCommit (m : Master) (v : Word)
  /-- UPDATE (R142): A write of ASY_CMD.UPDATE commits a traceable update, accepted at its anchor only with LOCKED=1 and REFTRC=1. -/
  | asyUpdate (m : Master) (v : Word)
  /-- SET_COARSE (R141): A TS code SET_COARSE is committed and, at its anchor, moves the status from UNSET, COARSE or UNTRACEABLE to COARSE. -/
  | setCoarse (m : Master) (v : Word)
  /-- DECLARE_TRACEABLE (R141): A TS code DECLARE_TRACEABLE is committed and at its anchor moves the status to TRACEABLE if warm-up, loop, reference, life cycle, update and limit checks pass. -/
  | declareTraceable (m : Master) (v : Word)
  /-- DECLARE_UNTRACEABLE (R141): A TS code DECLARE_UNTRACEABLE is committed and at its anchor moves TRACEABLE or HOLDOVER to UNTRACEABLE. -/
  | declareUntraceable (m : Master) (v : Word)
  /-- ASY_CHANGE_ANCHOR (R147): An ASY change reaches its anchor and applies its COMMIT, UPDATE and TS parts in order, each checked in the state the earlier leave. -/
  | asyChangeAnchor
  /-- UPDATE_TIMEOUT (R141): When more than ASY_UPD_TO has passed since the last accepted UPDATE, the status moves from TRACEABLE to HOLDOVER. -/
  | updateTimeout
  /-- HOLDOVER_LIMIT_EXCEEDED (R141): When E without port exceeds ASY_HO_LIM in TRACEABLE or HOLDOVER, the status moves to UNTRACEABLE. -/
  | holdoverLimitExceeded
  /-- HOLDOVER_MAX_EXPIRE (R141): When dt in HOLDOVER exceeds ASY_HO_MAX seconds, the status moves to UNTRACEABLE. -/
  | holdoverMaxExpire
  /-- TEMP_SAMPLE (R138): Every 100 ms the selected temperature is sampled and ASY_HO_DTMAX is raised to |T - T_lu| if larger. -/
  | tempSample (sample : Option (BitVec 16))
  /-- TEMP_LOST (R140): When the temperature source produces no sample for 1 s, ASY_HO_DTMAX is set to 0x7FFF and fault TEMP_LOST is raised. -/
  | tempLost
  /-- ASY_E_READ (R971): A read of ASY_E_LO takes an E snapshot and latches EDET, ESTO and HOLD into the reading master's shadow. -/
  | asyERead (m : Master)
  /-- RECORD_PERIODIC (R158): When served time first reaches a new whole second, a PERIODIC (or START) Assay record snapshot is taken. -/
  | recordPeriodic
  /-- RECORD_SIGNED (R163): A write of ASY_STG_DONE marks an entry signed; the device copies it in sequence order to the DRAM and host rings and frees it. -/
  | recordSigned (m : Master) (v : Word)
  /-- RECORD_STALL (R165): An entry not signed within 10 ms of its snapshot raises fault REC_STALL. -/
  | recordStall
  /-- RECORD_ENABLE_WRITE (R165): A write of ASY_REC_CTRL.EN starts snapshots, or with 0 discards every staged entry. -/
  | recordEnableWrite (m : Master) (v : Word)
  /-- ASY_STORE_FAULT (R177): A parity error in the ASY component store makes every evaluation unbounded and moves TRACEABLE or HOLDOVER to UNTRACEABLE. -/
  | asyStoreFault
  /-- BDR_PARAM_FAULT (R101): A parity error in the stored OFS, RATE, ANCH or slew state raises critical fault PARAM and makes the time status UNTRACEABLE. -/
  | bdrParamFault
  /-- ACTIVITY_TIMEOUT (R183): No edge for ACT_Q/4 nominal periods fails the activity monitor and disqualifies the entry. -/
  | activityTimeout (n : Fin 48)
  /-- FREQUENCY_GATE_END (R184): At the end of a frequency gate FOFS is computed and the monitor fails when it exceeds FLIM. -/
  | frequencyGateEnd (n : Fin 48)
  /-- MESSAGE_TIMEOUT (R183): No quality message within MSG_TO fails the message monitor and disqualifies the entry with cause MESSAGE. -/
  | messageTimeout (n : Fin 48)
  /-- QUALIFICATION_TIMER_EXPIRE (R186): When every monitor has passed for QUAL_T without interruption, a QUALIFYING entry becomes QUALIFIED. -/
  | qualificationTimerExpire (n : Fin 48)
  /-- ENTRY_CFG_WRITE (R186): A write of REF_ENTn_CFG enables, disables or forces an entry, moving it between DISQUALIFIED, QUALIFYING and QUALIFIED. -/
  | entryCfgWrite (m : Master) (n : Fin 48) (v : Word)
  /-- ANNOUNCE_DELIVERY (R213): A write of REF_QP_HI commits an Announce to a PTP entry, updating its quality word and judging clockClass, accuracy and consistency. -/
  | announceDelivery (m : Master) (v : Word)
  /-- TOD_BINARY_FRAME (R978): A binary ToD frame received on a bound UART is checked for type, length and CRC and then judged against its pulse window. -/
  | todBinaryFrame (u : Fin 4) (frame : List Byte)
  /-- TOD_FRAME_TIMEOUT (R978): A ToD frame whose 22 bytes do not arrive within 10 ms of its sync is discarded and counted as BAD. -/
  | todFrameTimeout (u : Fin 4)
  /-- TOD_NMEA_SENTENCE (R196): A ZDA or RMC sentence on a bound UART is checked and its time converted to TAI seconds. -/
  | todNmeaSentence (u : Fin 4) (text : List Byte)
  /-- TOD_WINDOW_EXPIRE (R197): A ToD message with no pulse 990 ms after its stop bit is discarded and counted as WINDOW. -/
  | todWindowExpire (u : Fin 4)
  /-- SELECT (R201): A write of REF_LOOPL_SEL with VALID=1 selects a QUALIFIED entry manually and clears the SPENT bits, or is refused with REJ. -/
  | refSelect (m : Master) (l : Fin 8) (v : Word)
  /-- DESELECT (R203): A write of REF_LOOPL_SEL with VALID=0 clears CUR and the SPENT bits and stops automatic selection. -/
  | deselect (m : Master) (l : Fin 8) (v : Word)
  /-- PRIO_WRITE (R210): A write of a PRIO register takes effect in the next cycle and clears the SPENT bits of its four positions. -/
  | prioWrite (m : Master) (l : Fin 8) (b : Bool) (v : Word)
  /-- FALLBACK (R204): In the cycle after the followed entry is disqualified, its positions are marked spent and the loop takes the first unspent qualified position. -/
  | fallback (l : Fin 8)
  /-- FALLBACK_RESCAN (R205): While a loop shows VALID=0 in FALLBACK, the cycle after any entry becomes QUALIFIED the list is scanned again from position 0. -/
  | fallbackRescan (l : Fin 8)
  /-- REF_TABLE_FAULT (R222): A parity error in the REF table disqualifies every entry and deselects every loop. -/
  | refTableFault
  /-- SOLUTION_DELIVERY (R395): A write of ANT_SOL_CTL passes the committed pair to REF and the loops as one measurement and sets the entry's CODE. -/
  | solutionDelivery (m : Master) (v : Word)
  /-- LOOP_MEASUREMENT (R226): A measurement of the followed entry updates the loop's phase and frequency model, phase-slope limiting and lock detector. -/
  | loopMeasurement (l : Fin 8) (n : Fin 48) (b : BT80) (x : WT96) (edges : Word)
  /-- REPORT_INSTANT (R249): At each report instant DPL_FOUT, DPL_TERR and DPL_RPTBT are latched and RPT is raised. -/
  | reportInstant (l : Fin 8)
  /-- FORCE_HO (R238): A write of DPL_CMD.FORCE_HO moves a loop with history into forced HOLDOVER, or is refused with NO_HISTORY. -/
  | forceHo (m : Master) (l : Fin 8) (v : Word)
  /-- RELEASE (R238): A write of DPL_CMD.RELEASE ends forced HOLDOVER, or is refused with NOT_FORCED. -/
  | release (m : Master) (l : Fin 8) (v : Word)
  /-- RESEED (R239): A write of DPL_CMD.RESEED takes p from the next measurement and y from DPL_FRFREQ and clears HO_VALID. -/
  | reseed (m : Master) (l : Fin 8) (v : Word)
  /-- HISTORY_SAMPLE (R262): At the end of each history interval a 64-byte sample is written to the ring and HIST is raised. -/
  | historySample (l : Fin 8)
  /-- DPL_STATE_PAR (R270): A parity error in the loop state puts the loop in FREERUN and freezes its STEER output. -/
  | dplStatePar (l : Fin 8)
  /-- SYN_LOCK (R277): A SYN_CMD LOCK selects a band for the target frequency and enters LOCKING, or is refused with NO_BAND or N_RANGE. -/
  | synLock (m : Master) (n : Fin 4) (v : Word)
  /-- SYN_STOP (R279): A SYN_CMD STOP returns the synthesiser to IDLE. -/
  | synStop (m : Master) (n : Fin 4) (v : Word)
  /-- BMEAS (R276): A SYN_CMD BMEAS in IDLE measures a band's tuning limits against CD_TB, or is refused with BUSY. -/
  | bmeas (m : Master) (n : Fin 4) (v : Word)
  /-- BMEAS_DONE (R276): A band measurement completes, writes SYN_BMEAS, returns to IDLE and raises BMEAS_DONE. -/
  | bmeasDone (n : Fin 4) (lo hi : BitVec 24)
  /-- SYN_LOCK_ACHIEVED (R279): After 1,024 consecutive PFD cycles within the lock window, LOCKING becomes LOCKED and f_app takes the stored target. -/
  | synLockAchieved (n : Fin 4)
  /-- SYN_LOCK_TIMEOUT (R279): A synthesiser not LOCKED within 2 ms of LOCKING goes to LOST. -/
  | synLockTimeout (n : Fin 4)
  /-- LOL (R280): A LOCKED synthesiser whose phase error leaves the window in 4 consecutive PFD cycles goes to LOST and raises fault LOL. -/
  | synLol (n : Fin 4)
  /-- SYN_RELOCK_ATTEMPT (R280): Every 2 ms in LOST the band is selected again and a lock is attempted. -/
  | synRelockAttempt (n : Fin 4)
  /-- SYN_SLEW_STEP (R283): Every 10 µs a slewing synthesiser moves f_app by 2 ppm towards its target. -/
  | synSlewStep (n : Fin 4)
  /-- OUTPUT_SYNC (R298): A write of OUT_CMD.SYNC disables the masked outputs, restarts their dividers on one VCO edge and re-enables them. -/
  | outputSync (m : Master) (v : Word)
  /-- SYNC_DONE (R298): The output alignment completes and SYNC_DONE is raised. -/
  | syncDone
  /-- OUT_CFG_PAR (R317): A parity error in output configuration disables every clock output. -/
  | outCfgPar
  /-- PPS_EDGE (R300): A pulse output drives a leading or trailing edge at the Bedrock value whose served time less Δ reaches the target. -/
  | ppsEdge (n : Fin 4)
  /-- ALIGN (R305): A write of PPS_CMD.ALIGN arms an alignment of the output. -/
  | ppsAlign (m : Master) (v : Word)
  /-- PPS_CFG_WRITE (R307): A write of PPSn_CFG holds MODE, RATE or OFS changes until the next switch instant, and setting EN arms an alignment. -/
  | ppsCfgWrite (m : Master) (n : Fin 4) (v : Word)
  /-- ALIGNED (R305): At the switch instant Δ is cleared, pending changes apply, the next target is chosen and ALIGNED is raised. -/
  | aligned (n : Fin 4)
  /-- TRAIN (R329): A write of GNS_SIF_CMD.TRAIN holds GNSS_FRM high and searches each enabled lane for its phase and word boundary. -/
  | gnsTrain (m : Master) (v : Word)
  /-- TRAIN_DONE (R330): Training ends, lanes not ALIGNED set TRAIN_FAIL, frame pulses resume and TRAIN_DONE is raised. -/
  | trainDone (found : Byte)
  /-- SIF (R332): A lane whose sampling phase has moved more than 2 UI loses ALIGNED and SIF is raised. -/
  | gnsSif (lane : Fin 8)
  /-- LANE_STUCK (R333): No change of word on an ALIGNED lane for 4,096 samples sets STUCK and raises fault LANE_STUCK. -/
  | laneStuck (lane : Fin 8) (stuck : Bool)
  /-- ANT_PWR (R337): ANT_FLT low for 1 ms with AUTO_OFF clears the antenna's power enable and raises APWR and fault ANT_PWR. -/
  | antPwr (a : Fin 4) (low : Bool)
  /-- ACQ_REQUEST (R341): The acquisition engine takes a software or channel request, checks it and captures its snapshot at the next frame boundary. -/
  | acqRequest
  /-- ACQ_RESULT (R342): A search completes, its result is written to the result ring and a handoff is made when the conditions hold. -/
  | acqResult (ratio cn0 : BitVec 16) (dop code : Word) (memErr : Bool)
  /-- CANCEL_ALL (R349): A write of ACQ_CMD.CANCEL_ALL answers every uncaptured software request with CANCELLED. -/
  | cancelAll (m : Master) (v : Word)
  /-- CHANNEL_START (R350): A GCH_CMD START restarts the channel in ACQ_WAIT or aided PULLIN, or is refused with BAD_SIG, BAD_TCOH or STREAM_DOWN. -/
  | channelStart (m : Master) (c : Fin 256) (v : Word)
  /-- CHANNEL_STOP (R352): A GCH_CMD STOP returns the channel to IDLE. -/
  | channelStop (m : Master) (c : Fin 256) (v : Word)
  /-- AIDED_PULLIN_START (R351): At the next served whole second an aided channel takes its aiding code phase and Doppler and begins PULLIN. -/
  | aidedPullinStart (c : Fin 256)
  /-- CHANNEL_INTEGRATION (R361): At each integration boundary the channel's discriminators, loops and lock indicators are updated. -/
  | channelIntegration (c : Fin 256) (x : Integration)
  /-- PULLIN_TIMEOUT (R352): A channel 3 s in PULLIN without reaching TRACK goes to LOST. -/
  | pullinTimeout (c : Fin 256)
  /-- CHANNEL_LANE_LOSS (R352): A channel whose lane has not been ALIGNED for 20 ms goes to LOST. -/
  | channelLaneLoss (c : Fin 256)
  /-- CHANNEL_REACQUIRE (R352): A LOST channel with AUTO_REACQ goes to ACQ_WAIT in the next cycle and queues a request. -/
  | channelReacquire (c : Fin 256)
  /-- MEASUREMENT_EPOCH (R365): At each measurement epoch every channel in PULLIN or TRACK writes a record propagated to b_e, and MREC is raised. -/
  | measurementEpoch
  /-- NAV_RECORD (R374): A decoded navigation message unit is checked and written as a navigation bit record. -/
  | navRecord (c : Fin 256) (x : NavUnit)
  /-- ECONOMY_EVALUATE (R376): At each served whole second economy is evaluated and channels move between TRACK and BURST. -/
  | economyEvaluate
  /-- BURST_START (R377): At s + OFS a BURST channel ungates its correlators and pulls in with predicted NCOs. -/
  | burstStart (c : Fin 256)
  /-- BURST_END (R380): At s + OFS + DUR the burst gives one record, is judged for a miss, and the correlators are gated. -/
  | burstEnd (c : Fin 256)
  /-- JAM_EVALUATE (R404): Every 10 ms the level rise, flatness loss and jamming indicator of each lane are computed and JAM is judged. -/
  | jamEvaluate (lanes : List JamLane)
  /-- GNSS_PPS_ARM (R416): A write of ANT_PPS_BT_HI arms a raw GNSS pulse, computes qErr and emits the qErr message, or is refused. -/
  | gnssPpsArm (m : Master) (v : Word)
  /-- GNSS_PPS_EDGE (R417): GNSS_PPS is driven in edge cycle c and ends WIDTH ms later. -/
  | gnssPpsEdge
  /-- GNSS_PPS_CFG_WRITE (R418): A write of ANT_PPS_CFG with EN=0 cancels a pending pulse whose leading edge has not been driven. -/
  | gnssPpsCfgWrite (m : Master) (v : Word)
  /-- ANT_CFG_PAR (R426): A parity error in the ANT configuration holds SPOOF of both sets at 1. -/
  | antCfgPar
  /-- TDC_EDGE (R432): An edge on a channel's source is counted and, when due and armed, captured and interpolated into a BT80 result. -/
  | tdcEdge (src : BitVec 6) (rise : Bool) (c : BitVec 64) (raw : BitVec 9)
  /-- TDC_RESULT_READ (R438): A read of TDC_CHc_RES_LO removes the oldest result from the FIFO and latches its other words. -/
  | tdcResultRead (m : Master) (c : Fin 32)
  /-- TDC_ARM (R442): A write of TDC_ARM arms SOFTWARE-mode channels for COUNT captures. -/
  | tdcArm (m : Master) (v : Word)
  /-- TDC_GATE_EDGE (R442): An active-going gate edge arms TRIGGER-mode channels for COUNT captures. -/
  | tdcGateEdge (g : Fin 4) (level : Bool)
  /-- TDC_CHANNEL_CFG_WRITE (R444): A write of TDC_CHc_CFG setting EN from 0 to 1 empties the FIFO, resets the edge counter and disarms the channel. -/
  | tdcChannelCfgWrite (m : Master) (c : Fin 32) (v : Word)
  /-- TDC_CAL_START (R447): A write of TDC_CAL_CMD with START runs a code-density test on a disabled channel, or is refused with ENABLED or BUSY. -/
  | tdcCalStart (m : Master) (v : Word)
  /-- CAL_DONE (R447): The linearity test completes, writes the corrections and raises CAL_DONE. -/
  | calDone (corr : List Byte)
  /-- BOUNDARY_VISIT (R510): A lane-scan channel timestamps 64 block boundaries of one lane and the TSU refits that lane's model and re-predicts reserved slots. -/
  | boundaryVisit (l : Fin 16) (rx : Bool) (k : BitVec 64) (p : BT80) (per : DWord)
  /-- LANE_MODEL_EXPIRE (R511): A lane model not visited for 10 µs becomes invalid. -/
  | laneModelExpire (l : Fin 16) (rx : Bool)
  /-- OCXO_RDY_CHANGE (R441): A change of OCXO_RDY raises WARM and, on a fall, moves TRACEABLE or HOLDOVER to UNTRACEABLE. -/
  | ocxoRdyChange (level : Bool)
  /-- GROUP_MODE_WRITE (R454): A write of PRT_GMODE changes the group's mode only while all four pages are disabled. -/
  | groupModeWrite (m : Master) (g : Fin 4) (v : Word)
  /-- LINK_UP (R461): Block lock, alignment and FEC lock held for 1 ms without local fault set LINK_UP. -/
  | linkUp (p : Fin 17)
  /-- LINK_DOWN (R461): Loss of block lock, alignment or FEC lock clears LINK_UP within 10 µs. -/
  | linkDown (p : Fin 17) (lock align fec lf : Bool)
  /-- FRAME_RECEIVE (R466): A received frame is judged by length, FCS and buffer space and counted, then passed whole to classification or dropped. -/
  | frameReceive (p : Fin 17) (f : RxFrame)
  /-- PAUSE_RECEIVE (R479): A received PAUSE is counted and, outside NORMAL, loads the partner pause timer. -/
  | pauseReceive (p : Fin 17) (time : BitVec 16)
  /-- PARTNER_PAUSE_EXPIRE (R479): The partner pause timer reaches zero and the port may start frames again. -/
  | partnerPauseExpire (p : Fin 16)
  /-- PAUSE_REFRESH (R476): While the PAUSE state is set, a PAUSE frame is requested every QUANTA/2 quanta. -/
  | pauseRefresh (p : Fin 16)
  /-- PAUSE_TRANSMIT (R477): A requested PAUSE frame is sent next on the line, ahead of every queued frame. -/
  | pauseTransmit (p : Fin 16)
  /-- MODE_WRITE (R473): A write of PRT_MODE requests a port mode change at the next frame boundaries. -/
  | modeWrite (m : Master) (p : Fin 16) (v : Word)
  /-- MODE_ACT_CHANGE (R480): Once both paths have changed, MODE_ACT takes the new mode and pause state is adjusted. -/
  | modeActChange (p : Fin 16)
  /-- TX_CLOCK_STOP (R464): When the group's transmit clock stops, each port truncates its frame, clears LINK_UP and keeps its queues. -/
  | txClockStop (g : Fin 4)
  /-- TX_CLOCK_START (R465): When the transmit clock starts again, the PCS restarts from idle. -/
  | txClockStart (g : Fin 4)
  /-- FRAME_TRANSMIT (R483): The MAC sends a frame with padding, FCS, preamble and gap, and ends a cut-short frame with an error block. -/
  | frameTransmit (p : Fin 17) (blk : DWord)
  /-- ESMC_RECEIVE (R493): An ESMC PDU is checked, rate-limited and its SSM and eSSM passed to the SE entry, or discarded. -/
  | esmcReceive (p : Fin 16) (data : List Byte)
  /-- ESMC_INFO_TRANSMIT (R495): Once per served second at PHASE ms an information ESMC PDU is sent. -/
  | esmcInfoTransmit (p : Fin 16)
  /-- ESMC_EVENT_TRANSMIT (R495): Within 100 µs of a change of the transmitted SSM or eSSM an event PDU is sent. -/
  | esmcEventTransmit (p : Fin 16)
  /-- RESERVE (R519): A reservation request reaches a TSU, which grants the earliest suitable boundary or refuses with a STATUS. -/
  | tsuReserve (m : Master) (g : Fin 4) (v : Word)
  /-- RESERVATION_CANCEL (R530): A write of TSU_CANCEL releases a reservation before its deadline. -/
  | reservationCancel (m : Master) (g : Fin 4) (v : Word)
  /-- SUBMISSION (R527): A class-6 descriptor naming a handle is accepted into its slot before the deadline, or refused. -/
  | tsuSubmission (p : Fin 17) (desc : List Byte)
  /-- SUBMIT_DEADLINE (R527): A slot reaching its deadline without a submission is missed with NOT_READY. -/
  | submitDeadline (g : Fin 4) (h : BitVec 11)
  /-- LAUNCH (R529): A submitted frame is sent unchanged at its granted boundary. -/
  | tsuLaunch (g : Fin 4) (h : BitVec 11)
  /-- LAUNCH_COMPLETE (R538): A SENT or TRUNCATED completion is posted to CQ after the frame's last block. -/
  | launchComplete (g : Fin 4) (h : BitVec 11)
  /-- TSU_TEMP_SAMPLE (R514): Every 100 ms the TSU samples the die temperature and recomputes the port delays. -/
  | tsuTempSample (g : Fin 4) (t : BitVec 16)
  /-- PHASE_LOST (R545): A transmit model of an enabled port invalid for more than 100 µs raises PHASE_LOST. -/
  | phaseLost (p : Fin 16)
  /-- THREAD_START (R549): A write of START to ENG_THn_CTL moves a halted thread to RUN in supervisor mode. -/
  | threadStart (m : Master) (e : Fin 512) (t : Fin 4)
  /-- THREAD_HALT (R549): A write of HALT to ENG_THn_CTL halts the thread at the next instruction boundary, abandoning a WAIT. -/
  | threadHalt (m : Master) (e : Fin 512) (t : Fin 4)
  /-- CLRFLT (R549): A write of CLRFLT to ENG_THn_CTL moves a faulted thread to HALT. -/
  | clrflt (m : Master) (e : Fin 512) (t : Fin 4)
  /-- WAIT_RESUME (R549): A waiting thread's awaited condition holds and the waiting instruction completes. -/
  | waitResume (e : Fin 512) (t : Fin 4)
  /-- IMAGE_LOAD (R562): A write of CLU_LOAD_CMD.LOAD checks and loads a signed image into the cluster, or refuses it. -/
  | imageLoad (m : Master) (c : Fin 64) (v : Word)
  /-- LOAD_DONE (R564): An image load completes, sets LOADED_S or LOADED_U and raises LOAD_DONE. -/
  | loadDone (c : Fin 64)
  /-- QUEUE_STATE_WRITE (R568): A write of a queue state word configures it; setting EN is refused for a bad ring, and clearing EN fails waiting operations. -/
  | queueStateWrite (m : Master) (q : BitVec 18) (w : Fin 4) (v : Word)
  /-- DOORBELL (R573): A write of ENG_THn_DOORBELL posts a HOST event to the thread. -/
  | doorbell (m : Master) (e : Fin 512) (t : Fin 4) (v : Word)
  /-- TIMER_ARM (R576): A write of ENG_THn_TMR_HI arms the thread's timer at a WT96 due time. -/
  | timerArm (m : Master) (e : Fin 512) (t : Fin 4) (v : Word)
  /-- TIMER_FIRE (R576): Served time reaches the timer's due time, a TIMER event is posted and the timer disarms. -/
  | timerFire (e : Fin 512) (t : Fin 4)
  /-- SEM_TRY_ACQUIRE (R582): A write of SEM_n with CMD TRY_ACQUIRE from the host or JTAG acquires a free semaphore. -/
  | semTryAcquire (m : Master) (n : BitVec 8)
  /-- SEM_RELEASE (R583): A write of SEM_n with CMD RELEASE releases the semaphore and grants it to the longest waiter, or is refused NOT_OWNER. -/
  | semRelease (m : Master) (n : BitVec 8)
  /-- SEM_FORCE (R587): A write of SEM_n with CMD FORCE releases the semaphore with BROKEN set, whoever holds it. -/
  | semForce (m : Master) (n : BitVec 8)
  /-- SAMPLE_READ (R591): A read of CLU_SMP_D0 removes the oldest sample and latches its other words. -/
  | sampleRead (m : Master) (c : Fin 64)
  /-- ADD (R615): rd := ra + rb modulo 2^64. -/
  | add (e : Fin 512) (t : Fin 4) (rd ra rb : GReg)
  /-- SUB (R615): rd := ra - rb modulo 2^64. -/
  | sub (e : Fin 512) (t : Fin 4) (rd ra rb : GReg)
  /-- AND (R615): rd := ra AND rb. -/
  | andOp (e : Fin 512) (t : Fin 4) (rd ra rb : GReg)
  /-- OR (R615): rd := ra OR rb. -/
  | orOp (e : Fin 512) (t : Fin 4) (rd ra rb : GReg)
  /-- XOR (R615): rd := ra XOR rb. -/
  | xorOp (e : Fin 512) (t : Fin 4) (rd ra rb : GReg)
  /-- SLL (R615): rd := ra shifted left by rb[5:0]. -/
  | sll (e : Fin 512) (t : Fin 4) (rd ra rb : GReg)
  /-- SRL (R615): rd := ra shifted right logically by rb[5:0]. -/
  | srl (e : Fin 512) (t : Fin 4) (rd ra rb : GReg)
  /-- SRA (R615): rd := ra shifted right arithmetically by rb[5:0]. -/
  | sra (e : Fin 512) (t : Fin 4) (rd ra rb : GReg)
  /-- SLT (R615): rd := 1 if ra < rb signed, else 0. -/
  | slt (e : Fin 512) (t : Fin 4) (rd ra rb : GReg)
  /-- SLTU (R615): rd := 1 if ra < rb unsigned, else 0. -/
  | sltu (e : Fin 512) (t : Fin 4) (rd ra rb : GReg)
  /-- MUL (R615): rd := low 64 bits of ra × rb. -/
  | mul (e : Fin 512) (t : Fin 4) (rd ra rb : GReg)
  /-- MULH (R615): rd := high 64 bits of the signed product. -/
  | mulh (e : Fin 512) (t : Fin 4) (rd ra rb : GReg)
  /-- MULHU (R615): rd := high 64 bits of the unsigned product. -/
  | mulhu (e : Fin 512) (t : Fin 4) (rd ra rb : GReg)
  /-- DIV (R616): rd := signed quotient rounded toward zero, with the defined results for zero and overflow. -/
  | div (e : Fin 512) (t : Fin 4) (rd ra rb : GReg)
  /-- DIVU (R616): rd := unsigned quotient, all ones for a zero divisor. -/
  | divu (e : Fin 512) (t : Fin 4) (rd ra rb : GReg)
  /-- REM (R616): rd := signed remainder with the sign of ra, ra for a zero divisor. -/
  | rem (e : Fin 512) (t : Fin 4) (rd ra rb : GReg)
  /-- REMU (R616): rd := unsigned remainder, ra for a zero divisor. -/
  | remu (e : Fin 512) (t : Fin 4) (rd ra rb : GReg)
  /-- CLZ (R615): rd := number of leading zeros of ra. -/
  | clz (e : Fin 512) (t : Fin 4) (rd ra : GReg)
  /-- POPC (R615): rd := number of 1 bits of ra. -/
  | popc (e : Fin 512) (t : Fin 4) (rd ra : GReg)
  /-- BSWAP (R615): rd := the 8 bytes of ra in reverse order. -/
  | bswap (e : Fin 512) (t : Fin 4) (rd ra : GReg)
  /-- BSWAP32 (R615): rd := zero-extended byte reverse of ra[31:0]. -/
  | bswap32 (e : Fin 512) (t : Fin 4) (rd ra : GReg)
  /-- BSWAP16 (R615): rd := zero-extended byte swap of ra[15:0]. -/
  | bswap16 (e : Fin 512) (t : Fin 4) (rd ra : GReg)
  /-- ADDI (R615): rd := ra + sext(imm16). -/
  | addi (e : Fin 512) (t : Fin 4) (rd ra : GReg) (imm : BitVec 16)
  /-- SLTI (R615): rd := 1 if ra < sext(imm16) signed. -/
  | slti (e : Fin 512) (t : Fin 4) (rd ra : GReg) (imm : BitVec 16)
  /-- SLTIU (R615): rd := 1 if ra < sext(imm16) unsigned. -/
  | sltiu (e : Fin 512) (t : Fin 4) (rd ra : GReg) (imm : BitVec 16)
  /-- ANDI (R615): rd := ra AND zext(imm16). -/
  | andi (e : Fin 512) (t : Fin 4) (rd ra : GReg) (imm : BitVec 16)
  /-- ORI (R615): rd := ra OR zext(imm16). -/
  | ori (e : Fin 512) (t : Fin 4) (rd ra : GReg) (imm : BitVec 16)
  /-- XORI (R615): rd := ra XOR zext(imm16). -/
  | xori (e : Fin 512) (t : Fin 4) (rd ra : GReg) (imm : BitVec 16)
  /-- LUI (R615): rd := sext(imm16 << 16). -/
  | lui (e : Fin 512) (t : Fin 4) (rd : GReg) (imm : BitVec 16)
  /-- SHI (R615): rd := ra shifted or rotated by an immediate amount and kind. -/
  | shi (e : Fin 512) (t : Fin 4) (rd ra : GReg) (imm : BitVec 16)
  /-- INSH (R615): Inserts imm16 into halfword h of rd, leaving the other bits. -/
  | insh (e : Fin 512) (t : Fin 4) (rd : GReg) (imm : BitVec 16) (h : BitVec 2)
  /-- LD (R617): Loads 64 bits from ra + sext(imm16) into rd after address checks. -/
  | ld (e : Fin 512) (t : Fin 4) (rd ra : GReg) (imm : BitVec 16)
  /-- LW (R617): Loads 32 bits sign-extended. -/
  | lw (e : Fin 512) (t : Fin 4) (rd ra : GReg) (imm : BitVec 16)
  /-- LWU (R617): Loads 32 bits zero-extended. -/
  | lwu (e : Fin 512) (t : Fin 4) (rd ra : GReg) (imm : BitVec 16)
  /-- LH (R617): Loads 16 bits sign-extended. -/
  | lh (e : Fin 512) (t : Fin 4) (rd ra : GReg) (imm : BitVec 16)
  /-- LHU (R617): Loads 16 bits zero-extended. -/
  | lhu (e : Fin 512) (t : Fin 4) (rd ra : GReg) (imm : BitVec 16)
  /-- LB (R617): Loads 8 bits sign-extended. -/
  | lb (e : Fin 512) (t : Fin 4) (rd ra : GReg) (imm : BitVec 16)
  /-- LBU (R617): Loads 8 bits zero-extended. -/
  | lbu (e : Fin 512) (t : Fin 4) (rd ra : GReg) (imm : BitVec 16)
  /-- SD (R617): Stores 64 bits of rs; far stores are posted. -/
  | sd (e : Fin 512) (t : Fin 4) (rs ra : GReg) (imm : BitVec 16)
  /-- SW (R617): Stores 32 bits of rs. -/
  | sw (e : Fin 512) (t : Fin 4) (rs ra : GReg) (imm : BitVec 16)
  /-- SH (R617): Stores 16 bits of rs. -/
  | sh (e : Fin 512) (t : Fin 4) (rs ra : GReg) (imm : BitVec 16)
  /-- SB (R617): Stores 8 bits of rs. -/
  | sb (e : Fin 512) (t : Fin 4) (rs ra : GReg) (imm : BitVec 16)
  /-- POSTED_STORE_ERROR (R610): An error response to a posted store raises BUS_ERR at the thread's next instruction boundary. -/
  | postedStoreError (e : Fin 512) (t : Fin 4) (addr : DWord)
  /-- BEQ (R617): Branches when rx equals ry. -/
  | beq (e : Fin 512) (t : Fin 4) (rx ry : GReg) (off : BitVec 16)
  /-- BNE (R617): Branches when rx differs from ry. -/
  | bne (e : Fin 512) (t : Fin 4) (rx ry : GReg) (off : BitVec 16)
  /-- BLT (R617): Branches when rx < ry signed. -/
  | blt (e : Fin 512) (t : Fin 4) (rx ry : GReg) (off : BitVec 16)
  /-- BGE (R617): Branches when rx >= ry signed. -/
  | bge (e : Fin 512) (t : Fin 4) (rx ry : GReg) (off : BitVec 16)
  /-- BLTU (R617): Branches when rx < ry unsigned. -/
  | bltu (e : Fin 512) (t : Fin 4) (rx ry : GReg) (off : BitVec 16)
  /-- BGEU (R617): Branches when rx >= ry unsigned. -/
  | bgeu (e : Fin 512) (t : Fin 4) (rx ry : GReg) (off : BitVec 16)
  /-- JAL (R617): rd := PC + 4 and jumps by off21 instructions. -/
  | jal (e : Fin 512) (t : Fin 4) (rd : GReg) (off : BitVec 21)
  /-- JALR (R617): Jumps to ra + sext(imm16) and writes PC + 4 to rd. -/
  | jalr (e : Fin 512) (t : Fin 4) (rd ra : GReg) (imm : BitVec 16)
  /-- ILLEGAL_ENCODING (R601): An unlisted opcode or fn, or a non-zero unused field, raises ILLEGAL. -/
  | illegalEncoding (e : Fin 512) (t : Fin 4) (word : Word)
  /-- RDBT (R619): Reads Bedrock of a cycle no more than 2 ns before execution. -/
  | rdbt (e : Fin 512) (t : Fin 4) (pd : GReg)
  /-- RDWT (R619): Reads the served time of the Bedrock value RDBT would return. -/
  | rdwt (e : Fin 512) (t : Fin 4) (pd : GReg)
  /-- CVWT (R620): Converts a BT80 to served time with the parameters in force at it, flagging OLD for values before the retained sets. -/
  | cvwt (e : Fin 512) (t : Fin 4) (pd pa : GReg)
  /-- TDIFF (R618): rd := saturated signed difference of two WT96 values. -/
  | tdiff (e : Fin 512) (t : Fin 4) (rd pa pb : GReg)
  /-- TDIFFB (R618): rd := saturated signed difference of two BT80 values. -/
  | tdiffb (e : Fin 512) (t : Fin 4) (rd pa pb : GReg)
  /-- TOPT (R618): pd := to_pt80 of a WT96. -/
  | topt (e : Fin 512) (t : Fin 4) (pd pa : GReg)
  /-- TRES (R618): rd := sign-extended residual of a WT96. -/
  | tres (e : Fin 512) (t : Fin 4) (rd pa : GReg)
  /-- TONT (R621): rd := to_nt64 of a WT96 using the TAI_UTC in force at it. -/
  | tont (e : Fin 512) (t : Fin 4) (rd pa : GReg)
  /-- FRPT (R618): pd := from_pt80 of a PT80. -/
  | frpt (e : Fin 512) (t : Fin 4) (pd pa : GReg)
  /-- TADD (R618): pd := WT96 plus sign-extended rb modulo 2^96. -/
  | tadd (e : Fin 512) (t : Fin 4) (pd pa rb : GReg)
  /-- TADDB (R618): pd := BT80 plus sign-extended rb modulo 2^80. -/
  | taddb (e : Fin 512) (t : Fin 4) (pd pa rb : GReg)
  /-- EVAL (R622): Reads an evaluation request, has ASY evaluate E and writes the 32-byte result. -/
  | eval (e : Fin 512) (t : Fin 4) (rd ra rb : GReg)
  /-- RSV (R623): Passes a reservation request to the port's TSU and writes the grant. -/
  | rsv (e : Fin 512) (t : Fin 4) (rd ra rb : GReg)
  /-- RCAN (R618): Cancels a reservation handle on a TSU. -/
  | rcan (e : Fin 512) (t : Fin 4) (ra : GReg)
  /-- TARM (R636): Arms the thread's timer at a WT96, as a write of ENG_THn_TMR. -/
  | tarm (e : Fin 512) (t : Fin 4) (pa : GReg)
  /-- QPUSH (R624): Pushes an element to a queue, returning FULL or DISABLED without waiting. -/
  | qpush (e : Fin 512) (t : Fin 4) (rd ra rb : GReg)
  /-- QPOP (R624): Pops an element from a queue, returning EMPTY without waiting. -/
  | qpop (e : Fin 512) (t : Fin 4) (rd ra rb : GReg)
  /-- QPUSHW (R624): Pushes an element, waiting while the queue is full. -/
  | qpushw (e : Fin 512) (t : Fin 4) (rd ra rb : GReg)
  /-- QPOPW (R624): Pops an element, waiting while the queue is empty. -/
  | qpopw (e : Fin 512) (t : Fin 4) (rd ra rb : GReg)
  /-- QSTAT (R624): Returns a snapshot of a queue's depth, EN, EMPTY and FULL. -/
  | qstat (e : Fin 512) (t : Fin 4) (rd ra : GReg)
  /-- EWAIT (R628): Removes the oldest event of the thread's FIFO, waiting while it is empty. -/
  | ewait (e : Fin 512) (t : Fin 4) (rd : GReg)
  /-- ETRY (R628): Removes the oldest event, or returns the empty marker. -/
  | etry (e : Fin 512) (t : Fin 4) (rd : GReg)
  /-- EPOST (R632): Posts a PEER event to a thread of the own cluster. -/
  | epost (e : Fin 512) (t : Fin 4) (ra rb : GReg)
  /-- BAR (R631): Arrives at a barrier and waits for release, or returns NOT_MEMBER. -/
  | barArrive (e : Fin 512) (t : Fin 4) (rd ra : GReg)
  /-- BCAST (R580): Broadcasts a 64-bit value to every member of a barrier. -/
  | bcast (e : Fin 512) (t : Fin 4) (ra rb : GReg)
  /-- SACQ (R629): Acquires a semaphore, waiting while it is held. -/
  | sacq (e : Fin 512) (t : Fin 4) (rd ra : GReg)
  /-- STRY (R629): Tries to acquire a semaphore, returning BUSY if held. -/
  | stry (e : Fin 512) (t : Fin 4) (rd ra : GReg)
  /-- SREL (R629): Releases a semaphore and passes it to the longest waiter. -/
  | srel (e : Fin 512) (t : Fin 4) (rd ra : GReg)
  /-- CSUB (R630): Submits a crypto descriptor to CRY and returns a ticket, waiting while eight are outstanding. -/
  | csub (e : Fin 512) (t : Fin 4) (rd ra : GReg)
  /-- CWAIT (R630): Collects a crypto ticket's completion, waiting until it completes. -/
  | cwait (e : Fin 512) (t : Fin 4) (rd ra : GReg)
  /-- CTRY (R630): Collects a completion if ready, or reports PENDING. -/
  | ctry (e : Fin 512) (t : Fin 4) (rd ra : GReg)
  /-- JRNL (R635): Writes the thread's work journal. -/
  | jrnl (e : Fin 512) (t : Fin 4) (ra : GReg)
  /-- FENCE (R611): Stalls until every earlier access of the thread has completed and been acknowledged. -/
  | fence (e : Fin 512) (t : Fin 4)
  /-- SYSCALL (R637): Raises SYSCALL in user mode, ILLEGAL in supervisor mode. -/
  | sysCall (e : Fin 512) (t : Fin 4)
  /-- BREAK (R637): Raises BREAK in user mode or halts a supervisor thread. -/
  | breakOp (e : Fin 512) (t : Fin 4)
  /-- ERET (R637): Returns to EPC in user mode. -/
  | eret (e : Fin 512) (t : Fin 4)
  /-- MFSR (R638): Reads a special register. -/
  | mfsr (e : Fin 512) (t : Fin 4) (rd : GReg) (sr : BitVec 5)
  /-- MTSR (R638): Writes a special register. -/
  | mtsr (e : Fin 512) (t : Fin 4) (sr : BitVec 5) (ra : GReg)
  /-- PMRD (R639): Reads a performance counter and its overflow bit. -/
  | pmrd (e : Fin 512) (t : Fin 4) (rd ra : GReg)
  /-- CRYPTO_COMPLETE (R772): A crypto operation completes and its completion word becomes collectable. -/
  | cryptoComplete (e : Fin 512) (t : Fin 4) (num : BitVec 16) (memErr : Bool)
  /-- SERVICE_PAGE_WRITE (R641): A write to a service page register reaches every serving thread within 100 µs by broadcast. -/
  | servicePageWrite (m : Master) (ofs : BitVec 12) (v : Word)
  /-- COMMAND_BUFFER_RELEASE (R721): A write of POL_CMD_REL frees a command buffer. -/
  | commandBufferRelease (m : Master) (v : Word)
  /-- POLICER_REFILL (R722): Every 1,000 CD_TB cycles each enabled ingress policer is refilled. -/
  | policerRefill
  /-- QUARRY_SEED (R656): When the Quarry page leaves reset, seed1 and seed2 are drawn from the DRBG, retried every 1 ms while withheld. -/
  | quarrySeed
  /-- FLUSH (R660): A write of QRY_CMD.FLUSH writes every dirty cache line back to DRAM. -/
  | qryFlush (m : Master) (v : Word)
  /-- FLUSH_DONE (R660): The flush completes and FLUSH_DONE is raised. -/
  | flushDone
  /-- CLEAR (R660): A write of QRY_CMD.CLEAR while disabled invalidates the cache and zeroes the table. -/
  | qryClear (m : Master) (v : Word)
  /-- CLEAR_DONE (R660): The clear completes and CLEAR_DONE is raised. -/
  | clearDone
  /-- QUARRY_RESEED (R660): A write of QRY_CMD.RESEED while disabled clears the table and draws new seeds. -/
  | quarryReseed (m : Master) (v : Word)
  /-- NTP_REQUEST (R664): The serving code polices an NTP request and answers it with a scheduled response, a KoD or nothing. -/
  | ntpRequest (p : Fin 16) (cl : Fin 63) (rx : BT80) (data : List Byte)
  /-- NTS_REQUEST (R670): The serving code checks, polices, decrypts and authenticates an NTS request and seals a response with new cookies. -/
  | ntsRequest (p : Fin 16) (cl : Fin 63) (rx : BT80) (data : List Byte) (swapped : Bool)
  /-- NTS_MINT (R678): A host command mints NTS cookies for given C2S and S2C keys. -/
  | ntsMint (r : Fin 4) (block : List Byte) (addr : DWord)
  /-- ARP_ND_REQUEST (R651): The serving code answers an ARP request or Neighbor Solicitation for a service address. -/
  | arpNdRequest (p : Fin 16) (cl : Fin 63) (rx : BT80) (data : List Byte)
  /-- DELAY_REQ (R685): The serving code answers a Delay_Req with a Delay_Resp through a weighted class. -/
  | delayReq (p : Fin 16) (cl : Fin 63) (rx : BT80) (data : List Byte)
  /-- SYNC_TARGET (R683): At each Sync target the serving code reserves a launch and writes a one-step or two-step Sync. -/
  | syncTarget (i : Fin 8) (p : Fin 16) (ses : Option (BitVec 18))
  /-- ANNOUNCE_TARGET (R683): At each Announce target the serving code reserves a launch and builds an Announce. -/
  | announceTarget (i : Fin 8) (p : Fin 16) (ses : Option (BitVec 18))
  /-- FOLLOW_UP (R684): Once a two-step Sync's completion reads SENT, its Follow_Up is submitted. -/
  | followUp (g : Fin 4) (h : BitVec 11)
  /-- UNICAST_NEGOTIATION (R692): A REQUEST_UNICAST_TRANSMISSION is granted, reduced or denied. -/
  | unicastNegotiation (p : Fin 16) (cl : Fin 63) (rx : BT80) (data : List Byte)
  /-- CANCEL_UNICAST_TRANSMISSION (R694): A received CANCEL ends the grant and is acknowledged. -/
  | cancelUnicastTransmission (p : Fin 16) (cl : Fin 63) (rx : BT80) (data : List Byte)
  /-- GRANT_EXPIRE (R694): A unicast grant ends at its expiry second. -/
  | grantExpire (ses : BitVec 18) (ty : Fin 3)
  /-- QUARANTINE_END (R695): A session 2 s in QUARANTINE becomes FREE. -/
  | quarantineEnd (ses : BitVec 18)
  /-- UPSTREAM_RENEW (R698): An upstream session requests or renews its unicast grants. -/
  | upstreamRenew (n : Fin 8)
  /-- UPSTREAM_MESSAGE (R699): A message from the upstream grandmaster is matched to the session or dropped. -/
  | upstreamMessage (n : Fin 8) (rx : BT80) (data : List Byte)
  /-- UPSTREAM_ANNOUNCE_TIMEOUT (R699): No Announce for three intervals reports the upstream session LOST to REF. -/
  | upstreamAnnounceTimeout (n : Fin 8)
  /-- TRANSMIT_OPPORTUNITY (R729): A port able to transmit chooses its next frame by strict priority and deficit round robin. -/
  | transmitOpportunity (p : Fin 17)
  /-- CLASS6_PASS (R728): The scheduler pops a non-empty class-6 queue and passes the descriptor to the TSU. -/
  | class6Pass (p : Fin 17)
  /-- SHAPER_REFILL (R732): At each refill period every shaper is refilled and staged shaper writes take effect. -/
  | shaperRefill
  /-- HALT_PIN_CHANGE (R735): A change of HALT_TX_N halts or resumes the scheduler and raises HALT. -/
  | haltPinChange (low : Bool)
  /-- SWHALT_WRITE (R735): A write of SCH_CTL.SWHALT halts or resumes the scheduler. -/
  | swhaltWrite (m : Master) (v : Word)
  /-- STAGE (R755): A write of KEY_CMD.STAGE checks and unwraps a key update envelope into the staging slot, or refuses it. -/
  | keyStage (m : Master) (v : Word)
  /-- STAGED (R756): An accepted envelope is staged, its counter copied and STAGED raised. -/
  | keyStaged
  /-- COMMIT (R757): A write of KEY_CMD.COMMIT writes the staged key and counter to MRAM and the Geode mirror. -/
  | keyCommit (m : Master) (v : Word)
  /-- COMMITTED (R757): Phase 3 loads the key into the Lodestone register, wipes the cache, increments KEY_GEN and raises COMMITTED. -/
  | keyCommitted
  /-- DISCARD (R756): A write of KEY_CMD.DISCARD clears the staging slot. -/
  | keyDiscard (m : Master) (v : Word)
  /-- HEALTH (R775): A TRNG health-test failure makes the DRBG withhold output and restarts the start-up test. -/
  | trngHealth (apt : Bool)
  /-- RESUMED (R775): The start-up test passes, the DRBG reseeds and clears WITHHOLD. -/
  | trngResumed
  /-- DRBG_RESEED (R774): The DRBG reseeds every 10 ms or 65,536 requests. -/
  | drbgReseed
  /-- DRBG_WAIT_TIMEOUT (R777): A DRBG request still withheld after 50 µs completes with NO_ENTROPY. -/
  | drbgWaitTimeout
  /-- TRN_OUT_READ (R778): A read of TRN_OUT_LO returns 32 bits of DRBG output and latches VALID. -/
  | trnOutRead (m : Master)
  /-- CHALLENGE (R785): An LCS_CMD CHALLENGE draws 128 bits into LCS_CHAL and sets CHAL_VALID. -/
  | lcsChallenge (m : Master) (v : Word)
  /-- PROVISION (R781): An LCS_CMD PROVISION blows OWNER_HASH and moves BLANK to PROVISIONED. -/
  | lcsProvision (m : Master) (v : Word)
  /-- FIELD (R781): An LCS_CMD FIELD moves PROVISIONED to FIELD. -/
  | lcsField (m : Master) (v : Word)
  /-- DEBUG (R781): An LCS_CMD DEBUG moves to DEBUG, with a token from FIELD. -/
  | lcsDebug (m : Master) (v : Word)
  /-- RETIRE (R781): An LCS_CMD RETIRE moves to RETIRED and erases the key slots, with a token from PROVISIONED or FIELD. -/
  | lcsRetire (m : Master) (v : Word)
  /-- MATE_LANE_UP (R794): A mate lane is up after 1 ms of block lock. -/
  | mateLaneUp (l : Fin 2)
  /-- MATE_LANE_DOWN (R795): A mate lane loses lock and its traffic moves to the other lane. -/
  | mateLaneDown (l : Fin 2)
  /-- MATE_PPS_PULSE (R797): At each whole millisecond MATE_PPS_OUT pulses and a TIME frame naming it is sent. -/
  | matePpsPulse
  /-- HEALTH_PUBLISH (R801): Every 250 µs the unit sends a HEALTH frame and, while GOOD, toggles MATE_HEALTH_OUT. -/
  | healthPublish
  /-- HEALTH_INTERVAL (R803): At the end of each 250 µs interval the unit judges whether the peer was heard. -/
  | healthInterval (toggle : Bool)
  /-- HEALTH_FRAME (R799): A received HEALTH frame is checked and its word held as the peer's. -/
  | healthFrame (l : Fin 2) (data : List Byte)
  /-- TIME_FRAME (R808): A received TIME frame is checked and paired with a MATE_PPS_IN capture as a MATE_T measurement. -/
  | timeFrame (l : Fin 2) (data : List Byte)
  /-- MIRROR_FRAME (R810): A received MIRROR frame places an Assay record, replaces the seeds or pushes an SW element. -/
  | mirrorFrame (l : Fin 2) (data : List Byte)
  /-- ARM_HO (R812): A received ARM_HO is answered with ACK_HO when the unit holds a matching armed HANDOVER slot. -/
  | armHo (l : Fin 2) (data : List Byte)
  /-- ACK_HO (R812): A received ACK_HO completes the handover arming and raises HO_ARMED. -/
  | ackHo (l : Fin 2) (data : List Byte)
  /-- ABORT_HO (R813): A received ABORT_HO cancels an armed handover. -/
  | abortHo (l : Fin 2) (data : List Byte)
  /-- RESYNC_REQ (R811): A received RESYNC_REQ raises RESYNC for the active's firmware. -/
  | resyncReq (l : Fin 2) (data : List Byte)
  /-- MIRROR_SEND (R810): The active sends a MIRROR frame for a record, the seeds or an element popped from MATE_MQ. -/
  | mirrorSend
  /-- MATE_RESID_UPDATE (R809): Each served second the mean slaving residual is shown and SLAVE_OK judged. -/
  | mateResidUpdate
  /-- DISCOVERY_TIMEOUT (R804): A SOLO unit hearing nothing for DISC_T with MATE_ACTIVE_IN low becomes ACTIVE. -/
  | discoveryTimeout
  /-- ACTIVE_IN_CHANGE (R804): A change of MATE_ACTIVE_IN drives discovery, split resolution or takeover. -/
  | activeInChange (level : Bool)
  /-- REJOIN (R804): A write of MATE_CMD.REJOIN moves ISOLATED to STANDBY or SOLO. -/
  | mateRejoin (m : Master) (v : Word)
  /-- ISOLATE (R804): A write of MATE_CMD.ISOLATE moves the unit to ISOLATED. -/
  | mateIsolate (m : Master) (v : Word)
  /-- HO_DONE (R814): 20 µs after the switch the old active becomes STANDBY and HO_DONE is raised. -/
  | hoDone
  /-- REVERSION_ARM (R816): A preferred standby whose holdoff completes arms a reversion HANDOVER slot. -/
  | reversionArm
  /-- SELFTEST_TIMEOUT (R811): SELFTEST_OK falls when ST is not rewritten within MATE_SWGOOD.TO ms. -/
  | selftestTimeout
  /-- SHADOW_RESTORE (R810): SHADOW_OK returns 10 s after a record mismatch. -/
  | shadowRestore
  /-- FAULT_RISE (R823): A fault source rises and the collector acts by its severity. -/
  | faultRise (page : BAddr) (n : Fin 32)
  /-- ESCALATED (R825): A MAJOR source unacknowledged for FLT_ESC takes the MAJOR action and ESCALATED is raised. -/
  | escalated (n : Fin 384)
  /-- FAULT_ACK (R826): A write of FLT_SRCn.ACK acknowledges a raised MAJOR source and cancels its timer. -/
  | faultAck (m : Master) (n : Fin 384) (v : Word)
  /-- FAULT_SEVERITY_WRITE (R827): A write of FLT_SRCn.SEV changes the source's severity, acting at once for a raised source made CRITICAL or MAJOR. -/
  | faultSeverityWrite (m : Master) (n : Fin 384) (v : Word)
  /-- HMASK_WRITE (R836): A write clearing an EVT_HMASK bit of a pending event sends its vector. -/
  | hmaskWrite (m : Master) (k : Fin 16) (v : Word)
  /-- PMU_COUNTER_HI_WRITE (R843): A write of a counter's _HI word sets its count and OVF. -/
  | pmuCounterHiWrite (m : Master) (addr : BAddr) (v : Word)
  /-- CLR_ALL (R843): A write of PMU_CTL.CLR_ALL clears every count and OVF. -/
  | clrAll (m : Master) (v : Word)
  /-- MATRIX_TIMEOUT (R865): A request unanswered for MTX_TO is answered with an error, logged and fault TIMEOUT raised. -/
  | matrixTimeout
  /-- LATE_RESPONSE (R865): A response arriving after its timeout is discarded and counted. -/
  | lateResponse
  /-- RECALC (R873): A write of MTX_CMD.RECALC recomputes the configuration sums from the registers. -/
  | cfgRecalc (m : Master) (v : Word)
  /-- RECALC_DONE (R873): The recomputation completes and waiting sum reads are answered. -/
  | recalcDone
  /-- DDR_INIT (R919): A write of DDR_CMD.INIT trains the channel, zeroing it after a cold reset. -/
  | ddrInit (m : Master) (ch : Fin 2) (v : Word)
  /-- DDR_TRAINED (R919): Training and any zeroing complete and TRAINED is set. -/
  | ddrTrained (ch : Fin 2)
  /-- SCRUB_NOW (R876): A write of DDR_CMD.SCRUB_NOW starts a patrol scrub pass. -/
  | scrubNow (m : Master) (ch : Fin 2) (v : Word)
  /-- DDR_SCRUB_PASS (R876): The periodic patrol scrub reads and corrects every word of the channel. -/
  | ddrScrubPass (ch : Fin 2) (pages : List (BitVec 24))
  /-- MRAM_SCRUB_PASS (R881): The MRAM scrub corrects every word and records each sector's wear count. -/
  | mramScrubPass (counts : List (Fin 128 × Byte))
  /-- MRAM_REMAP_REQUEST (R884): A write of MRM_CMD.REMAP requests a remap of a sector, or is refused. -/
  | mramRemapRequest (m : Master) (pc : Option DWord) (v : Word)
  /-- JOURNAL_WRITE (R885): A write of MRM_J_CMD.GO starts a three-step journalled MRAM write. -/
  | journalWrite (m : Master) (v : Word)
  /-- JDONE (R885): The journalled write completes its steps and JDONE is raised. -/
  | jdone
  /-- COMMAND_RING_ENTRY (R889): The device runs the next entry of a host command ring and writes its status block. -/
  | commandRingEntry (r : Fin 4) (seq : Word) (opcode : BitVec 16)
  /-- NOP (R891): Host command NOP completes with no effect. -/
  | hostNop (r : Fin 4)
  /-- COPY_IN (R891): Host command COPY_IN copies data into shared SRAM or DRAM. -/
  | copyIn (r : Fin 4) (addr : DWord) (data : List Byte) (hostErr : Bool)
  /-- COPY_OUT (R891): Host command COPY_OUT copies shared SRAM or DRAM to the result block. -/
  | copyOut (r : Fin 4) (addr : DWord) (len : Word) (res : DWord) (hostErr : Bool)
  /-- MRAM_WRITE (R891): Host command MRAM_WRITE performs a journalled MRAM write. -/
  | mramWrite (r : Fin 4) (ofs : Word) (data : List Byte) (hostErr : Bool)
  /-- HOST_TX_ENTRY (R893): A host transmit ring entry is copied into a popped buffer and pushed as a transmit descriptor. -/
  | hostTxEntry (r : Fin 4) (port : Byte) (flags : Byte) (tag : Word) (data : List Byte) (dmaErr : Bool)
  /-- PCIE_LINK_CHANGE (R887): A PCIe link loss or PERST_N stops every ring at an entry boundary and breaks host-held semaphores. -/
  | pcieLinkChange (up perst : Bool) (lanes : BitVec 4) (gen : BitVec 3)
  /-- QSPI_COMMAND (R894): A write of QSPI_CMD.GO runs a flash command and data transfer. -/
  | qspiCommand (m : Master) (v : Word)
  /-- QSPI_DONE (R894): The QSPI transfer completes and DONE is set. -/
  | qspiDone (data : List Byte)
  /-- I2C_TRANSFER (R895): A write of I2C_XFER.GO runs a write-then-read transfer. -/
  | i2cTransfer (m : Master) (i : Fin 4) (v : Word)
  /-- I2C_DONE (R895): The I2C transfer ends, with NACK, arbitration loss or timeout reported. -/
  | i2cDone (i : Fin 4) (nack arbLost timeout : Bool) (data : List Byte)
  /-- UART_TRANSMIT (R896): A write of UART_TX queues a byte, discarded while the UART is bound. -/
  | uartTransmit (m : Master) (u : Fin 4) (v : Word)
  /-- UART_RECEIVE (R897): A character is received and placed in the FIFO or passed to the ToD parser. -/
  | uartReceive (u : Fin 4) (ch : Byte) (fe pe brk : Bool)
  /-- GPIO_EDGE (R898): An enabled edge on a GPIO input sets GPIO_EVT or changes an ATOM status. -/
  | gpioEdge (g : Fin 32) (level : Bool)
  /-- SEARCH (R899): A write of INV_CMD.SEARCH walks the inventory wire for module identities. -/
  | invSearch (m : Master) (v : Word)
  /-- INVENTORY_SEARCH_DONE (R900): The search ends with identities stored, or INCOMPLETE after three restarts. -/
  | inventorySearchDone (presence : List Bool) (bits complements : List (List Bool))
  /-- POWER_GOOD_RISE (R911): PWR_GOOD rises, the oscillator is measured and the time-base APLL locks. -/
  | powerGoodRise (oscMhz : Byte) (b4 pref : Bool)
  /-- APLL_LOCK (R66): The time-base APLL locks and Bedrock starts at 0. -/
  | apllLock
  /-- POWER_GOOD_FALL (R913): PWR_GOOD falls and the device enters BACKUP. -/
  | powerGoodFall
  /-- RESET_N_ASSERT (R917): RESET_N low causes a cold reset. -/
  | resetNAssert
  /-- RESET_RELEASE (R923): After a cold or warm reset the device runs the boot steps without software. -/
  | resetRelease (straps : Option (Bool × Bool)) (flash : List Byte × List Byte)
  /-- TAP_RESET (R962): TRST_N low resets the JTAG controller and breaks JTAG-held semaphores. -/
  | tapReset
  /-- QUIESCE (R914): A write of PWR_CMD QUIESCE starts entry to QUIESCENT, or is refused. -/
  | quiesce (m : Master) (v : Word)
  /-- QUIESCE_ENTRY_DONE (R915): DRAM is in self-refresh, clocks stopped, and the state becomes QUIESCENT. -/
  | quiesceEntryDone
  /-- RUN (R916): A write of PWR_CMD RUN is a wake request. -/
  | pwrRun (m : Master) (v : Word)
  /-- WAKE_EXIT_DONE (R916): PLLs relock, DRAM leaves self-refresh and the state becomes RUN. -/
  | wakeExitDone
  /-- PWR_CHIP_RESET (R921): A write of PWR_CMD CHIP_RESET with CONFIRM from the host or JTAG performs a warm reset. -/
  | pwrChipReset (m : Master) (v : Word)
  /-- AVS (R912): Every 1 ms the VDD_CORE set point is recomputed and a change raises AVS. -/
  | avs (target : BitVec 10)
  /-- GEO_WRITE_LAND (R929): A Geode register write reaches the Geode at the second tick after it arrives. -/
  | geoWriteLand
  /-- GEO_SET (R930): A write of GEO_SET_HI loads the staged seconds and SUB into the counter. -/
  | geoSet (m : Master) (v : Word)
  /-- GEO_SECOND (R932): At each Geode second the Bedrock of the tick and the seconds count are captured. -/
  | geoSecond
  /-- GEO_TRIM_APPLY (R931): Every 32 s GEO_TRIM is applied to the counter. -/
  | geoTrimApply
  /-- ALARM (R933): The Geode alarm fires at its second, sets ALARM and drives WAKE_OUT. -/
  | geoAlarm
  /-- TAMPER (R936): A filtered tamper input latches TAMPER, records its time and may erase the backup words. -/
  | tamper (i : Fin 2) (level : Bool)
  /-- TAMPER_CLEAR (R938): A W1C of GEO_STAT.TAMPER clears TAMPER only after the key slots are erased. -/
  | tamperClear (m : Master) (v : Word)
  /-- GEO_POWER_ON_RESET (R927): With no supply reaching it, the Geode resets its counter, alarm, configuration and backup words and sets VLOST. -/
  | geoPowerOnReset
  /-- XTAL_STOP (R945): No Geode tick for 10 ms while PWR_GOOD is high raises XTAL_STOP. -/
  | xtalStop
  /-- REMOTE_FAULT (R462): The start or end of remote fault ordered sets from the link partner sets or clears PRT_LINK.RF and makes the port transmit idle while it lasts. -/
  | remoteFault (p : Fin 17) (on : Bool)
  /-- MRAM_REMAP_DONE (R882): A sector remap started by the scrub or by MRM_CMD completes its copy, switches both remap tables and MRM_MAP in one cycle, releases held writes and raises REMAP. -/
  | mramRemapDone
  deriving DecidableEq, Repr

end Sys2Proof
end

