-- ==== Sys2Proof/Decode.lean ====
section
/-! DEFINITION. What a word spells by the table of operations and events. No row of the table gives its command any bits:
commands reach the device as register accesses, frames and pin events. -/
namespace Sys2Proof

/-- The command that a word spells by the table's bits: no row has any, so a word spells none. (DESIGN CHOICE, log 6.) -/
def decodeTableWord (_nbits _w : Nat) : Option Instr := none

end Sys2Proof
end

