-- ==== Sys2Proof/Config.lean ====
section
/-! DEFINITION. What one device or one implementation fixes and the spec leaves open, and the values the spec leaves free. None
of the constants here has a body, so that no proof can rest on a value of them. -/
namespace Sys2Proof.Config

/-- A value the spec leaves open, for the n-th time one is needed. (DESIGN CHOICE, log 5.) -/
opaque freeValue : Nat → Nat

/-- Reset values of DDR_TIMING0 to DDR_TIMING19: the JEDEC DDR5-6400 defaults (R902). (DESIGN CHOICE, log 8.) -/
opaque ddrTiming : Nat → Word

/-- Factory calibration layers held in fuses (R29 and R30): of the OUT, PPS, TDC and TSU pages, by page kind 1 to 4,
instance and offset. (DESIGN CHOICE, log 8.) -/
opaque fuseCal : Nat → Nat → Nat → Word

/-- Words that the LCS page shows of the fuses, by offset: SERIAL and VENDOR_HASH (R742). (DESIGN CHOICE, log 8.) -/
opaque fuseWord : Nat → Word

/-- ROOT (R742). (DESIGN CHOICE, log 8.) -/
opaque fuseRoot : BitVec 256

/-- The transaction ID, modulo 64, that a master of the matrix gives its request (R859). (DESIGN CHOICE, log 127.) -/
opaque txId : Nat → Nat → Nat

/-- How far block boundary k of a port lies from the mean block grid, in 2^-16 ns, by the port's speed (0 10G, 1 25G, 2 100G)
and FEC code: the place of the block in its codeword and alignment-marker period (R509). (DEDUCED, log 9.) -/
opaque boundaryDev : Nat → Nat → Nat → Int

/-- The gains kp and ki that a loop derives from the effective bandwidth code, the damping code and dt (R227): any that keep the bandwidth
and the damping are allowed. (DESIGN CHOICE, log 10.) -/
opaque loopGain : Nat → Nat → Nat → Rat × Rat

/-- What an update whose dt is 0 adds to y for a phase error: R226 divides by dt. (DESIGN CHOICE, log 118.) -/
opaque loopSameTime : Int → Int

/-- What ASY_EDET shows of a sum that its 48 bits do not hold (R169). (DESIGN CHOICE, log 111.) -/
opaque wideSum : Nat → BitVec 48

/-- The physical lane of a 100GBASE-R group, 0 to 3, that carries a receive block: the partner's PCS lanes may arrive on any (R456).
(DESIGN CHOICE, log 11.) -/
opaque rxLane : Nat → Nat

/-- The code discriminators' normalisation g of a signal, by the offset in 1/64 chip (R355). (DESIGN CHOICE, log 122.) -/
opaque codeNorm : Nat → Nat → Rat

/-- What a code discriminator of a signal gives where both its envelopes are 0 (R355). (DESIGN CHOICE, log 122.) -/
opaque noEnvelope : Nat → Rat

/-- What the DLL filter does to the code phase, 2^-18 chip: by bandwidth in mHz, integration time in ms and D (R355, R358).
(DESIGN CHOICE, log 122.) -/
opaque codeLoop : Nat → Nat → Int → Int

/-- What the carrier loop does to the Doppler, 2^-10 Hz, and to the carrier phase, 2^-32 cycle: by the bandwidths of PLL and FLL in Hz, 0
for one that is off, the integration time in ms, the direction of the prompt and the frequency error (R357, R358).
(DESIGN CHOICE, log 122.) -/
opaque carrierLoop : Nat → Nat → Nat → Int × Int → Int → Int × Int

/-- What codeErr of a measurement record holds of a D that its 16 bits do not hold (R368). (DESIGN CHOICE, log 122.) -/
opaque wideCodeErr : Int → BitVec 16

/-- The word that a GNSS lane brings in a period of 61.44 MHz, counted from Bedrock 0 (R322, R324). (DESIGN CHOICE, log 123.) -/
opaque laneWord : Nat → Nat → Byte

/-- The byte that the acquisition engine stores of sample k of a stream: by the signal whose band it filters to, the notches of the
lane and the stream's samples (R338). (DESIGN CHOICE, log 123.) -/
opaque bandFilter : Nat → List Word → List (Int × Int) → Nat → Byte

end Sys2Proof.Config
end

