-- ==== Sys2Proof/Machine/Bits.lean ====
section
/-! DEFINITION. Bit fields, sign extension, byte order, rounding and the check codes the spec writes out. -/
namespace Sys2Proof.Machine

/-- Bit i of a word. -/
def bit {w : Nat} (x : BitVec w) (i : Nat) : Bool := x.getLsbD i

/-- Field [lo + n - 1 : lo] of a word, as a number (R3). -/
def fld {w : Nat} (x : BitVec w) (lo n : Nat) : Nat := (x.toNat >>> lo) % 2 ^ n

/-- Field [lo + n - 1 : lo] of a word, as n bits. -/
def bits {w : Nat} (x : BitVec w) (lo n : Nat) : BitVec n := (x >>> lo).setWidth n

/-- A word with field [lo + n - 1 : lo] replaced by the low n bits of v. -/
def setFld (x : Word) (lo n v : Nat) : Word :=
  BitVec.ofNat 32 (x.toNat - (fld x lo n) * 2 ^ lo + (v % 2 ^ n) * 2 ^ lo)

/-- A word with bit i set to b. -/
def setBit (x : Word) (i : Nat) (b : Bool) : Word := setFld x i 1 (if b then 1 else 0)

/-- The one-bit number of a truth value. -/
def b2n (b : Bool) : Nat := if b then 1 else 0

/-- The number with the given bits, lowest first. -/
def natBits : List Bool → Nat
  | [] => 0
  | b :: t => b2n b + 2 * natBits t

/-- The word with the given bits, lowest first. -/
def packBits (l : List Bool) : Word := BitVec.ofNat 32 (natBits l)

/-- Clamp an integer to [lo, hi]. -/
def clampI (lo hi x : Int) : Int := if x < lo then lo else if hi < x then hi else x

/-- Clamp an integer into the signed range of w bits (R31). -/
def satS (w : Nat) (x : Int) : Int := clampI (-(2 ^ (w - 1) : Nat)) ((2 ^ (w - 1) : Nat) - 1) x

/-- Clamp a number into the unsigned range of w bits. -/
def satU (w : Nat) (x : Nat) : Nat := if 2 ^ w ≤ x then 2 ^ w - 1 else x

/-- x / y rounded to the nearest integer, ties to the even integer (R70). (DEDUCED, log 34.) -/
def rne (x : Int) (y : Nat) : Int :=
  let q := x / (y : Int)
  let r := x - q * (y : Int)
  if 2 * r < y then q
  else if (y : Int) < 2 * r then q + 1
  else if q % 2 = 0 then q else q + 1

/-- x / y rounded towards plus infinity, on numbers. -/
def cdiv (x y : Nat) : Nat := if y = 0 then 0 else (x + y - 1) / y

/-- The smallest number whose square is at least x: the square root rounded up, by fuel from above. -/
def isqrtUpAux : Nat → Nat → Nat → Nat → Nat
  | 0, _, hi, _ => hi
  | f + 1, lo, hi, x =>
    if hi ≤ lo then hi
    else
      let m := (lo + hi) / 2
      if x ≤ m * m then isqrtUpAux f lo m x else isqrtUpAux f (m + 1) hi x

/-- ceil of the square root of a number below 2^256. -/
def isqrtUp (x : Nat) : Nat := isqrtUpAux 140 0 (2 ^ 128) x

/-- R90: a is earlier than b when bit N-1 of (a - b) mod 2^N is 1. -/
def earlier {w : Nat} (a b : BitVec w) : Bool := (a - b).msb

/-- R90: a is at or after b. -/
def atOrAfter {w : Nat} (a b : BitVec w) : Bool := !(a - b).msb

/-- R60, R111: the signed difference a - b is greater than zero. -/
def after {w : Nat} (a b : BitVec w) : Bool := atOrAfter a b && (a != b)

/-- The n bytes of a number, least significant first. -/
def bytesLE : Nat → Nat → List Byte
  | 0, _ => []
  | n + 1, v => BitVec.ofNat 8 v :: bytesLE n (v / 256)

/-- The n bytes of a number, most significant first. -/
def bytesBE (n v : Nat) : List Byte := (bytesLE n v).reverse

/-- The number a little-endian byte list holds. -/
def natLE : List Byte → Nat
  | [] => 0
  | b :: t => b.toNat + 256 * natLE t

/-- The number a big-endian byte list holds. -/
def natBE (l : List Byte) : Nat := natLE l.reverse

/-- n bytes of a list from an offset; bytes past its end read 0. -/
def sliceB (l : List Byte) (off n : Nat) : List Byte :=
  let t := (l.drop off).take n
  t ++ List.replicate (n - t.length) 0

/-- Big-endian number at an offset of a byte list. -/
def beAt (l : List Byte) (off n : Nat) : Nat := natBE (sliceB l off n)

/-- Little-endian number at an offset of a byte list. -/
def leAt (l : List Byte) (off n : Nat) : Nat := natLE (sliceB l off n)

/-- One step of a most-significant-bit-first CRC of width w. -/
def crcBitM (w : Nat) (poly : BitVec w) (crc : BitVec w) : BitVec w :=
  if crc.msb then (crc <<< 1) ^^^ poly else crc <<< 1

/-- One byte into a most-significant-bit-first CRC. -/
def crcByteM (w : Nat) (poly : BitVec w) (crc : BitVec w) (b : Byte) : BitVec w :=
  (List.range 8).foldl (fun c _ => crcBitM w poly c) (crc ^^^ (b.setWidth w <<< (w - 8)))

/-- One byte into a least-significant-bit-first CRC with reflected polynomial. -/
def crcByteR (w : Nat) (poly : BitVec w) (crc : BitVec w) (b : Byte) : BitVec w :=
  (List.range 8).foldl
    (fun c _ => if c.getLsbD 0 then (c >>> 1) ^^^ poly else c >>> 1) (crc ^^^ b.setWidth w)

/-- CRC-16/CCITT-FALSE: polynomial 0x1021, initial value 0xFFFF, no reflection, no final XOR. -/
def crc16 (l : List Byte) : BitVec 16 := l.foldl (crcByteM 16 0x1021#16) 0xFFFF#16

/-- CRC-8 of R899: polynomial x^8 + x^2 + x + 1, initial value 0, no reflection, no final XOR. -/
def crc8 (l : List Byte) : BitVec 8 := l.foldl (crcByteM 8 0x07#8) 0#8

/-- CRC-32C (Castagnoli), reflected, initial value and final XOR all ones. (PRESUMED, log 101.) -/
def crc32c (l : List Byte) : BitVec 32 :=
  ~~~ (l.foldl (crcByteR 32 0x82F63B78#32) 0xFFFFFFFF#32)

/-- The IEEE 802.3 CRC-32 of a frame. (PRESUMED, log 101.) -/
def crc32 (l : List Byte) : BitVec 32 :=
  ~~~ (l.foldl (crcByteR 32 0xEDB88320#32) 0xFFFFFFFF#32)

/-- Replace element n of a list. -/
def setNth {α : Type} : List α → Nat → α → List α
  | [], _, _ => []
  | _ :: t, 0, v => v :: t
  | a :: t, n + 1, v => a :: setNth t n v

/-- Insert into a list of numbers kept rising without repeats. -/
def insNat : List Nat → Nat → List Nat
  | [], k => [k]
  | j :: t, k => if k < j then k :: j :: t else if k = j then j :: t else j :: insNat t k

/-- Apply f to every number of a list in turn. -/
def forEach {σ : Type} (l : List Nat) (f : Nat → σ → σ) (s : σ) : σ := l.foldl (fun a n => f n a) s

/-- Apply f for 0, 1, …, n-1 in turn. -/
def forN {σ : Type} (n : Nat) (f : Nat → σ → σ) (s : σ) : σ := forEach (List.range n) f s

/-- The place of a writer among the commits, or KEY_CMD writes, of one cycle: host, control cluster, JTAG, calendar (R79, R759). -/
def bdrRank : Master → Nat
  | .host => 0
  | .cluster _ => 1
  | .jtag => 2
  | .calendar => 3

end Sys2Proof.Machine
end

