-- ==== Sys2Proof/Machine/Cipher.lean ====
section
/-! DEFINITION. The cryptographic functions the spec names and their standards define: SHA-256 and SHA-512, HMAC, AES with CMAC,
SIV and key wrap, X25519, Ed25519 and ECDSA over P-256 (chapter 16), and the device's key derivation (R744). -/
namespace Sys2Proof.Machine

/-! ### SHA-2 and HMAC (FIPS 180-4, FIPS 198-1) -/

/-- The first 80 primes. -/
def primes80 : List Nat :=
  (List.range 410).filter (fun n => decide (2 ≤ n) && (List.range 21).all (fun d => decide (d < 2) || decide (n ≤ d) || decide (n % d ≠ 0)))

/-- The greatest number whose k-th power is at most x, by halving. -/
def rootDown (k x : Nat) : Nat → Nat → Nat → Nat
  | 0, lo, _ => lo
  | f + 1, lo, hi =>
    if hi ≤ lo + 1 then lo
    else
      let m := (lo + hi) / 2
      if m ^ k ≤ x then rootDown k x f m hi else rootDown k x f lo m

/-- The first w bits of the fraction of the k-th root of n. -/
def rootFrac (k n w : Nat) : Nat := rootDown k (n * 2 ^ (k * w)) (w + 6) 0 (2 ^ (w + 5)) % 2 ^ w

/-- Sizes and rotations of a SHA-2 function. -/
structure ShaPar where
  w : Nat
  rounds : Nat
  a0 : Nat × Nat × Nat                  -- rotations of the two big sigmas
  a1 : Nat × Nat × Nat
  s0 : Nat × Nat × Nat                  -- two rotations and a shift of the two small sigmas
  s1 : Nat × Nat × Nat

/-- SHA-256. -/
def shaPar256 : ShaPar := { w := 32, rounds := 64, a0 := (2, 13, 22), a1 := (6, 11, 25), s0 := (7, 18, 3), s1 := (17, 19, 10) }
/-- SHA-512. -/
def shaPar512 : ShaPar := { w := 64, rounds := 80, a0 := (28, 34, 39), a1 := (14, 18, 41), s0 := (1, 8, 7), s1 := (19, 61, 6) }

/-- A big sigma. -/
def bigSig {w : Nat} (r : Nat × Nat × Nat) (x : BitVec w) : BitVec w := x.rotateRight r.1 ^^^ x.rotateRight r.2.1 ^^^ x.rotateRight r.2.2
/-- A small sigma. -/
def smallSig {w : Nat} (r : Nat × Nat × Nat) (x : BitVec w) : BitVec w := x.rotateRight r.1 ^^^ x.rotateRight r.2.1 ^^^ (x >>> r.2.2)

/-- Extend the message schedule, kept newest first. -/
def shaExtend (p : ShaPar) : Nat → List (BitVec p.w) → List (BitVec p.w)
  | 0, l => l
  | n + 1, l =>
    shaExtend p n ((smallSig p.s1 (l.getD 1 0) + l.getD 6 0 + smallSig p.s0 (l.getD 14 0) + l.getD 15 0) :: l)

/-- One round on the eight working words. -/
def shaRound (p : ShaPar) (h : List (BitVec p.w)) (kw : BitVec p.w) : List (BitVec p.w) :=
  match h with
  | [a, b, c, d, e, f, g, hh] =>
    let t1 := hh + bigSig p.a1 e + ((e &&& f) ^^^ (~~~ e &&& g)) + kw
    let t2 := bigSig p.a0 a + ((a &&& b) ^^^ (a &&& c) ^^^ (b &&& c))
    [t1 + t2, a, b, c, d + t1, e, f, g]
  | l => l

/-- Words of a byte list, most significant byte first. -/
def beWords (w : Nat) : Nat → List Byte → List (BitVec w)
  | 0, _ => []
  | n + 1, l => BitVec.ofNat w (natBE (l.take (w / 8))) :: beWords w n (l.drop (w / 8))

/-- Compress one block into the chaining words. -/
def shaBlock (p : ShaPar) (ks : List (BitVec p.w)) (h : List (BitVec p.w)) (blk : List Byte) : List (BitVec p.w) :=
  let sched := (shaExtend p (p.rounds - 16) (beWords p.w 16 blk).reverse).reverse
  let r := (List.zipWith (· + ·) sched ks).foldl (shaRound p) h
  List.zipWith (· + ·) h r

/-- Compress the blocks of a padded message. -/
def shaBlocks (p : ShaPar) (ks : List (BitVec p.w)) : Nat → List (BitVec p.w) → List Byte → List (BitVec p.w)
  | 0, h, _ => h
  | n + 1, h, l => shaBlocks p ks n (shaBlock p ks h (l.take (2 * p.w))) (l.drop (2 * p.w))

/-- A SHA-2 hash: 32 or 64 bytes. (PRESUMED, log 101.) -/
def sha2 (p : ShaPar) (msg : List Byte) : List Byte :=
  let bs := 2 * p.w
  let z := (2 * bs - (msg.length + 1 + p.w / 4) % bs) % bs
  let padded := msg ++ [0x80#8] ++ List.replicate z 0 ++ bytesBE (p.w / 4) (8 * msg.length)
  let ks := (primes80.take p.rounds).map (fun q => BitVec.ofNat p.w (rootFrac 3 q p.w))
  let h0 := (primes80.take 8).map (fun q => BitVec.ofNat p.w (rootFrac 2 q p.w))
  (shaBlocks p ks (padded.length / bs) h0 padded).flatMap (fun x => bytesBE (p.w / 8) x.toNat)

/-- SHA-256. -/
def sha256 (msg : List Byte) : List Byte := sha2 shaPar256 msg
/-- SHA-512. -/
def sha512 (msg : List Byte) : List Byte := sha2 shaPar512 msg

/-- HMAC-SHA256. -/
def hmacSha256 (key msg : List Byte) : List Byte :=
  let k := sliceB (if 64 < key.length then sha256 key else key) 0 64
  sha256 (k.map (· ^^^ 0x5C#8) ++ sha256 (k.map (· ^^^ 0x36#8) ++ msg))

/-! ### AES (FIPS 197) -/

/-- Multiply by x in GF(2^8). -/
def xtime (b : Byte) : Byte := if b.msb then (b <<< 1) ^^^ 0x1B#8 else b <<< 1
/-- Multiply in GF(2^8), over the low n bits of the second factor. -/
def gmulN : Nat → Byte → Byte → Byte
  | 0, _, _ => 0
  | n + 1, a, b => (if b.getLsbD 0 then a else 0) ^^^ gmulN n (xtime a) (b >>> 1)
/-- Multiply in GF(2^8). -/
def gmul (a b : Byte) : Byte := gmulN 8 a b
/-- The inverse in GF(2^8): the 254th power. -/
def ginv (a : Byte) : Byte :=
  let sq (x : Byte) : Byte := gmul x x
  let a2 := sq a
  let a4 := sq a2
  let a8 := sq a4
  let a16 := sq a8
  let a32 := sq a16
  let a64 := sq a32
  gmul (sq a64) (gmul a64 (gmul a32 (gmul a16 (gmul a8 (gmul a4 a2)))))
/-- The substitution box. -/
def sbox (b : Byte) : Byte :=
  let x := ginv b
  x ^^^ x.rotateLeft 1 ^^^ x.rotateLeft 2 ^^^ x.rotateLeft 3 ^^^ x.rotateLeft 4 ^^^ 0x63#8
/-- The inverse substitution box. -/
def sboxInv (b : Byte) : Byte := ginv (b.rotateLeft 1 ^^^ b.rotateLeft 3 ^^^ b.rotateLeft 6 ^^^ 0x05#8)

/-- XOR of two byte lists. -/
def xorB (a b : List Byte) : List Byte := List.zipWith (· ^^^ ·) a b

/-- The expanded key: words of four bytes, newest first; `i` is the number of the next word and nk that of the key's words. -/
def keyExpand (nk : Nat) : Nat → Nat → Byte → List (List Byte) → List (List Byte)
  | 0, _, _, l => l
  | f + 1, i, rc, l =>
    let t := l.headD []
    let u := if i % nk = 0 then xorB ((t.drop 1 ++ t.take 1).map sbox) [rc, 0, 0, 0]
      else if 6 < nk ∧ i % nk = 4 then t.map sbox else t
    keyExpand nk f (i + 1) (if i % nk = 0 then xtime rc else rc) (xorB (l.getD (nk - 1) []) u :: l)

/-- The words of a key. -/
def keyWords (key : List Byte) : List (List Byte) := (List.range (key.length / 4)).map (fun i => sliceB key (4 * i) 4)

/-- The round keys of a 16-byte or 32-byte key. -/
def roundKeys (key : List Byte) : List (List Byte) :=
  let nk := key.length / 4
  let ws := (keyExpand nk (4 * (nk + 7) - nk) nk 1 (keyWords key).reverse).reverse
  (List.range (nk + 7)).map (fun r => ((ws.drop (4 * r)).take 4).flatten)

/-- ShiftRows, by a step d per row: 1 forward, 3 inverse. -/
def shiftRows (d : Nat) (s : List Byte) : List Byte :=
  (List.range 16).map (fun i => s.getD (4 * ((i / 4 + d * (i % 4)) % 4) + i % 4) 0)

/-- MixColumns with a row of coefficients. -/
def mixColumns (co : List Byte) (s : List Byte) : List Byte :=
  (List.range 16).map (fun i =>
    (List.range 4).foldl (fun a j => a ^^^ gmul (co.getD ((j + 4 - i % 4) % 4) 0) (s.getD (4 * (i / 4) + j) 0)) 0)

/-- AES of one block under a 16-byte or 32-byte key. (PRESUMED, log 101.) -/
def aesEnc (key blk : List Byte) : List Byte :=
  match roundKeys key with
  | [] => blk
  | k0 :: ks =>
    let last := ks.getLastD []
    let mid := ks.dropLast.foldl (fun s k => xorB (mixColumns [2, 3, 1, 1] (shiftRows 1 (s.map sbox))) k) (xorB blk k0)
    xorB (shiftRows 1 (mid.map sbox)) last

/-- Inverse AES of one block. (PRESUMED, log 101.) -/
def aesDec (key blk : List Byte) : List Byte :=
  match (roundKeys key).reverse with
  | [] => blk
  | k0 :: ks =>
    let last := ks.getLastD []
    let mid := ks.dropLast.foldl (fun s k => mixColumns [0x0E, 0x0B, 0x0D, 0x09] (xorB ((shiftRows 3 s).map sboxInv) k)) (xorB blk k0)
    xorB ((shiftRows 3 mid).map sboxInv) last

/-! ### CMAC, SIV and key wrap (NIST SP 800-38B, RFC 5297, RFC 3394) -/

/-- Doubling in GF(2^128). -/
def dbl (b : List Byte) : List Byte :=
  let n := natBE b
  let m := 2 * n % 2 ^ 128
  bytesBE 16 (if 2 ^ 127 ≤ n then Nat.xor m 0x87 else m)

/-- CBC-MAC over n whole blocks. -/
def cbcMac (key : List Byte) : Nat → List Byte → List Byte → List Byte
  | 0, c, _ => c
  | n + 1, c, l => cbcMac key n (aesEnc key (xorB c (l.take 16))) (l.drop 16)

/-- AES-CMAC, 16 bytes. -/
def aesCmac (key msg : List Byte) : List Byte :=
  let k1 := dbl (aesEnc key (List.replicate 16 0))
  let n := (msg.length - 1) / 16
  let tail := msg.drop (16 * n)
  let last := if tail.length = 16 then xorB tail k1 else xorB (sliceB (tail ++ [0x80#8]) 0 16) (dbl k1)
  aesEnc key (xorB (cbcMac key n (List.replicate 16 0) msg) last)

/-- S2V of the strings that precede the plaintext and the plaintext (RFC 5297). -/
def s2v (key : List Byte) (ads : List (List Byte)) (p : List Byte) : List Byte :=
  let d := ads.foldl (fun a x => xorB (dbl a) (aesCmac key x)) (aesCmac key (List.replicate 16 0))
  let t := if 16 ≤ p.length then p.take (p.length - 16) ++ xorB (p.drop (p.length - 16)) d
    else xorB (dbl d) (sliceB (p ++ [0x80#8]) 0 16)
  aesCmac key t

/-- n blocks of an AES counter stream. -/
def ctrStream (key : List Byte) : Nat → Nat → List Byte
  | 0, _ => []
  | n + 1, c => aesEnc key (bytesBE 16 c) ++ ctrStream key n ((c + 1) % 2 ^ 128)

/-- AES-CTR with an initial counter block. -/
def aesCtr (key iv msg : List Byte) : List Byte := xorB msg (ctrStream key ((msg.length + 15) / 16) (natBE iv))

/-- The counter block of a SIV: bits 31 and 63 from the right are cleared (RFC 5297). -/
def sivIv (v : List Byte) : List Byte :=
  (List.range 16).map (fun i => if i = 8 ∨ i = 12 then v.getD i 0 &&& 0x7F#8 else v.getD i 0)

/-- SIV seal under a 32-byte key: SIV and ciphertext. -/
def sivSeal (key : List Byte) (ads : List (List Byte)) (p : List Byte) : List Byte :=
  let v := s2v (key.take 16) ads p
  v ++ aesCtr (key.drop 16) (sivIv v) p

/-- SIV open. -/
def sivOpen (key : List Byte) (ads : List (List Byte)) (c : List Byte) : Option (List Byte) :=
  let v := c.take 16
  let p := aesCtr (key.drop 16) (sivIv v) (c.drop 16)
  if s2v (key.take 16) ads p = v then some p else none

/-- The strings that an AEAD operation with associated data and nonce gives to SIV. -/
def sivAds (ad nonce : List Byte) : List (List Byte) := if nonce.isEmpty then [ad] else [ad, nonce]

/-- One pass of key unwrapping over the semiblocks, from step t downwards. -/
def unwrapSteps (key : List Byte) : Nat → List Byte → List (List Byte) → List Byte × List (List Byte)
  | 0, a, r => (a, r)
  | t + 1, a, r =>
    let n := r.length
    let i := t % n
    let b := aesDec key (bytesBE 8 (Nat.xor (natBE a) (t + 1)) ++ r.getD i [])
    unwrapSteps key t (b.take 8) (setNth r i (b.drop 8))

/-- AES key unwrapping of a 40-byte text (RFC 3394). (PRESUMED, log 101.) -/
def keyUnwrap (kek c : List Byte) : Option (List Byte) :=
  let r := (List.range 4).map (fun i => sliceB c (8 * (i + 1)) 8)
  match unwrapSteps kek 24 (c.take 8) r with
  | (a, p) => if a = List.replicate 8 0xA6#8 then some p.flatten else none

/-- Steps of key wrapping, f of them from step t on. -/
def wrapSteps (key : List Byte) : Nat → Nat → List Byte → List (List Byte) → List Byte × List (List Byte)
  | 0, _, a, r => (a, r)
  | f + 1, t, a, r =>
    let i := t % r.length
    let b := aesEnc key (a ++ r.getD i [])
    wrapSteps key f (t + 1) (bytesBE 8 (Nat.xor (natBE (b.take 8)) (t + 1))) (setNth r i (b.drop 8))

/-- AES key wrapping of a 32-byte key (RFC 3394). -/
def keyWrap (kek p : List Byte) : List Byte :=
  match wrapSteps kek 24 0 (List.replicate 8 0xA6#8) ((List.range 4).map (fun i => sliceB p (8 * i) 8)) with
  | (a, r) => a ++ r.flatten

/-- The device's key derivation (R744): l is 128 or 256. -/
def kdf (k : List Byte) (label : List Byte) (ctx : List Byte) (l : Nat) : List Byte :=
  (List.range (l / 128)).flatMap (fun i => aesCmac k (bytesBE 4 (i + 1) ++ label ++ [0] ++ ctx ++ bytesBE 4 l))

/-! ### Curves (RFC 7748, RFC 8032, FIPS 186-5) -/

/-- x^e mod m over the low n bits of e. -/
def powMod (m : Nat) : Nat → Nat → Nat → Nat
  | 0, _, _ => 1 % m
  | n + 1, x, e => (if e % 2 = 1 then x else 1) * powMod m n (x * x % m) (e / 2) % m
/-- The inverse modulo a prime. -/
def invMod (m x : Nat) : Nat := powMod m 256 x (m - 2)
/-- a - b modulo m. -/
def subMod (m a b : Nat) : Nat := (a + m - b % m) % m

/-- The prime of Curve25519. -/
def p25519 : Nat := 2 ^ 255 - 19

/-- The Montgomery ladder over bits n-1 down to 0 of k. -/
def ladder (x1 k : Nat) : Nat → Nat × Nat × Nat × Nat → Nat × Nat × Nat × Nat
  | 0, s => s
  | n + 1, (x2, z2, x3, z3) =>
    let p := p25519
    let b := k / 2 ^ n % 2 = 1
    let (a2, b2, a3, b3) := if b then (x3, z3, x2, z2) else (x2, z2, x3, z3)
    let a := (a2 + b2) % p
    let bb := subMod p a2 b2
    let aa := a * a % p
    let b2q := bb * bb % p
    let e := subMod p aa b2q
    let c := (a3 + b3) % p
    let d := subMod p a3 b3
    let da := d * a % p
    let cb := c * bb % p
    let u3 := (da + cb) * (da + cb) % p
    let dm := subMod p da cb
    let w3 := x1 * (dm * dm % p) % p
    let u2 := aa * b2q % p
    let w2 := e * (aa + 121665 * e) % p
    ladder x1 k n (if b then (u3, w3, u2, w2) else (u2, w2, u3, w3))

/-- X25519 of a scalar and a u-coordinate, each of 32 bytes. (PRESUMED, log 101.) -/
def x25519 (scalar u : List Byte) : List Byte :=
  let k := natLE scalar % 2 ^ 254 / 8 * 8 + 2 ^ 254
  let x1 := natLE u % 2 ^ 255 % p25519
  match ladder x1 k 255 (1, 0, x1, 1) with
  | (x2, z2, _, _) => bytesLE 32 (x2 * invMod p25519 z2 % p25519)

/-- d of edwards25519. -/
def edD : Nat := (p25519 - 121665) * invMod p25519 121666 % p25519
/-- The order of the base point of edwards25519. -/
def edL : Nat := 2 ^ 252 + 27742317777372353535851937790883648493

/-- Addition on edwards25519 in projective coordinates X, Y, Z. -/
def edAdd (a b : Nat × Nat × Nat) : Nat × Nat × Nat :=
  let p := p25519
  match a, b with
  | (x1, y1, z1), (x2, y2, z2) =>
    let zz := z1 * z2 % p
    let bq := zz * zz % p
    let c := x1 * x2 % p
    let d := y1 * y2 % p
    let e := edD * c % p * d % p
    let f := subMod p bq e
    let g := (bq + e) % p
    let xy := subMod p (subMod p ((x1 + y1) * (x2 + y2) % p) c) d
    (zz * f % p * xy % p, zz * g % p * ((d + c) % p) % p, f * g % p)

/-- n-bit multiple of a point. -/
def edMul : Nat → Nat → Nat × Nat × Nat → Nat × Nat × Nat
  | 0, _, _ => (0, 1, 1)
  | n + 1, k, q =>
    let r := edMul n (k / 2) (edAdd q q)
    if k % 2 = 1 then edAdd q r else r

/-- Decode a point of edwards25519 from 32 bytes. -/
def edDecode (b : List Byte) : Option (Nat × Nat × Nat) :=
  let p := p25519
  let n := natLE b
  let y := n % 2 ^ 255
  let sign := n / 2 ^ 255 % 2
  let u := subMod p (y * y % p) 1
  let v := (edD * (y * y % p) + 1) % p
  let w := u * invMod p v % p
  let r := powMod p 256 w ((p + 3) / 8)
  let x := if r * r % p = w then r else r * powMod p 256 2 ((p - 1) / 4) % p
  if p ≤ y ∨ x * x % p ≠ w ∨ (x = 0 ∧ sign = 1) then none
  else some (if x % 2 = sign then x else p - x, y, 1)

/-- Encode a point. -/
def edEncode (q : Nat × Nat × Nat) : List Byte :=
  let zi := invMod p25519 q.2.2
  let x := q.1 * zi % p25519
  bytesLE 32 (q.2.1 * zi % p25519 + x % 2 * 2 ^ 255)

/-- The base point. -/
def edBase : Nat × Nat × Nat := (edDecode (bytesLE 32 (4 * invMod p25519 5 % p25519))).getD (0, 1, 1)

/-- Two points are equal. -/
def edEq (a b : Nat × Nat × Nat) : Bool :=
  decide (a.1 * b.2.2 % p25519 = b.1 * a.2.2 % p25519) && decide (a.2.1 * b.2.2 % p25519 = b.2.1 * a.2.2 % p25519)

/-- The secret scalar of a seed. -/
def edScalar (h : List Byte) : Nat := natLE (h.take 32) % 2 ^ 254 / 8 * 8 + 2 ^ 254

/-- The Ed25519 public key of a 32-byte seed. -/
def edPublic (seed : List Byte) : List Byte := edEncode (edMul 255 (edScalar (sha512 seed)) edBase)

/-- An Ed25519 signature of 64 bytes. -/
def edSign (seed msg : List Byte) : List Byte :=
  let h := sha512 seed
  let a := edScalar h
  let pub := edEncode (edMul 255 a edBase)
  let r := natLE (sha512 (h.drop 32 ++ msg)) % edL
  let rb := edEncode (edMul 255 r edBase)
  let k := natLE (sha512 (rb ++ pub ++ msg)) % edL
  rb ++ bytesLE 32 ((r + k * a) % edL)

/-- Ed25519 verification, by the group equation with the cofactor (RFC 8032, 5.1.7). (DEDUCED, log 82; PRESUMED, log 101.) -/
def edVerify (pub msg sig : List Byte) : Bool :=
  let s := natLE (sliceB sig 32 32)
  match edDecode (sliceB sig 0 32), edDecode pub with
  | some r, some a =>
    let k := natLE (sha512 (sliceB sig 0 32 ++ pub ++ msg)) % edL
    decide (s < edL) && edEq (edMul 4 8 (edMul 255 s edBase)) (edMul 4 8 (edAdd r (edMul 255 k a)))
  | _, _ => false

/-- The prime, the coefficient b and the order of P-256. -/
def p256 : Nat := 2 ^ 256 - 2 ^ 224 + 2 ^ 192 + 2 ^ 96 - 1
/-- b of P-256. -/
def b256 : Nat := 0x5AC635D8AA3A93E7B3EBBD55769886BC651D06B0CC53B0F63BCE3C3E27D2604B
/-- The order of P-256. -/
def n256 : Nat := 0xFFFFFFFF00000000FFFFFFFFFFFFFFFFBCE6FAADA7179E84F3B9CAC2FC632551
/-- The base point of P-256. -/
def g256 : Option (Nat × Nat) :=
  some (0x6B17D1F2E12C4247F8BCE6E563A440F277037D812DEB33A0F4A13945D898C296,
    0x4FE342E2FE1A7F9B8EE7EB4A7C0F9E162BCE33576B315ECECBB6406837BF51F5)

/-- Addition on P-256 in affine coordinates; none is the point at infinity. -/
def ecAdd (a b : Option (Nat × Nat)) : Option (Nat × Nat) :=
  match a, b with
  | none, q => q
  | q, none => q
  | some (x1, y1), some (x2, y2) =>
    if x1 = x2 ∧ (y1 + y2) % p256 = 0 then none
    else
      let l := if x1 = x2 then (3 * x1 * x1 + p256 - 3) * invMod p256 (2 * y1 % p256) % p256
        else subMod p256 y2 y1 * invMod p256 (subMod p256 x2 x1) % p256
      let x := subMod p256 (subMod p256 (l * l % p256) x1) x2
      some (x, subMod p256 (l * subMod p256 x1 x % p256) y1)

/-- n-bit multiple of a point of P-256. -/
def ecMul : Nat → Nat → Option (Nat × Nat) → Option (Nat × Nat)
  | 0, _, _ => none
  | n + 1, k, q =>
    let r := ecMul n (k / 2) (ecAdd q q)
    if k % 2 = 1 then ecAdd q r else r

/-- ECDSA over P-256 and SHA-256: public key x and y, signature r and s, each of 32 bytes, most significant first. (PRESUMED, log 101.) -/
def ecVerify (x y r s msg : List Byte) : Bool :=
  let qx := natBE x
  let qy := natBE y
  let rn := natBE r
  let sn := natBE s
  let on := decide (qx < p256) && decide (qy < p256) && decide (qy * qy % p256 = (qx * qx * qx + (p256 - 3) * qx + b256) % p256)
  let rng := decide (1 ≤ rn) && decide (rn < n256) && decide (1 ≤ sn) && decide (sn < n256)
  let w := invMod n256 sn
  let e := natBE (sha256 msg)
  match ecAdd (ecMul 256 (e * w % n256) g256) (ecMul 256 (rn * w % n256) (some (qx, qy))) with
  | none => false
  | some (px, _) => on && rng && decide (px % n256 = rn)

end Sys2Proof.Machine
end

