-- ==== Sys2Proof/Machine/RegMap.lean ====
section
/-! DEFINITION. The register map, page by page, as the register tables of the spec's chapters give it: for each register its
offset, the number of its instances and words, which bits each access type of R10 covers, the values a field
takes (a write of any other value leaves the field unchanged) and its reset value. -/
namespace Sys2Proof.Machine

/-- The kinds of block pages (R965). -/
inductive PageKind where
  | sys | lcs | pwr | geo | clk | bdr | act | asy | ref | dpl | syn | out | pps | tdc | gns | ant | acq | nav | prt | tsu | mgmt | sch | pol | qry | svc | key | trn | cry | mate | flt | evt | pmu | sem | mtx | ddr | mrm | pci | lsp | gch | clu | qdr | eng
  deriving DecidableEq, Repr

/-- One register of a page, or a regular array of them. -/
structure RegRow where
  name : String
  off : Nat                             -- offset of the first word of the first one
  n : Nat := 1                          -- how many
  stride : Nat := 4
  m : Nat := 1                          -- a second, inner dimension
  stride2 : Nat := 4
  words : Nat := 1                      -- words of a multi-word value (R15)
  rw : Nat := 0                         -- RW bits of the last word
  rwl : Nat := 0                        -- RWL bits of the last word
  w1c : Nat := 0
  lo : Nat := 0xFFFFFFFF                -- bits of the words before the last
  rc : Bool := false
  wo : Bool := false
  cfg : Bool := true                    -- configuration-class when RW or RWL (R870)
  reset : Nat := 0                      -- reset of the whole value
  dyn : Bool := false                   -- reset given by `dynReset`
  keep : List (Nat × Nat × Nat × Nat) := []  -- (low bit, width, least, greatest) of a field of the first word
  deriving DecidableEq, Repr

/-- One kind of page: its base, number of pages, block type and CAPS (R24, R964, R965). -/
structure PageRow where
  kind : PageKind
  base : Nat
  count : Nat
  typ : Nat
  caps : Nat
  deriving DecidableEq, Repr

/-- The pages of BAR0 (R965). -/
def pageTable : List PageRow := [
  ⟨.sys, 0x0000000, 1, 0x0001, 0x0⟩,
  ⟨.lcs, 0x0001000, 1, 0x0002, 0x5⟩,
  ⟨.pwr, 0x0002000, 1, 0x0003, 0x3⟩,
  ⟨.geo, 0x0003000, 1, 0x0004, 0x20040⟩,
  ⟨.clk, 0x0004000, 1, 0x0005, 0x28⟩,
  ⟨.bdr, 0x0010000, 1, 0x0010, 0x3⟩,
  ⟨.act, 0x0011000, 1, 0x0011, 0x1000⟩,
  ⟨.asy, 0x0012000, 1, 0x0012, 0x807⟩,
  ⟨.ref, 0x0030000, 1, 0x0020, 0x830⟩,
  ⟨.dpl, 0x0031000, 8, 0x0021, 0x314⟩,
  ⟨.syn, 0x0039000, 4, 0x0022, 0x40⟩,
  ⟨.out, 0x003D000, 1, 0x0023, 0xC⟩,
  ⟨.pps, 0x003E000, 1, 0x0024, 0x4⟩,
  ⟨.tdc, 0x003F000, 1, 0x0025, 0x20⟩,
  ⟨.gns, 0x0040000, 1, 0x0030, 0x408⟩,
  ⟨.ant, 0x0041000, 1, 0x0031, 0x2440⟩,
  ⟨.acq, 0x0042000, 1, 0x0032, 0x800⟩,
  ⟨.nav, 0x0060000, 1, 0x0033, 0x3F⟩,
  ⟨.prt, 0x0080000, 16, 0x0040, 0x803⟩,
  ⟨.tsu, 0x0090000, 4, 0x0042, 0x200⟩,
  ⟨.mgmt, 0x0098000, 1, 0x0041, 0x0⟩,
  ⟨.sch, 0x00A0000, 1, 0x0050, 0x1108⟩,
  ⟨.pol, 0x00A1000, 1, 0x0051, 0x200508⟩,
  ⟨.qry, 0x00A2000, 1, 0x0052, 0x190020⟩,
  ⟨.svc, 0x00A3000, 1, 0x0053, 0x80808⟩,
  ⟨.key, 0x00B0000, 1, 0x0060, 0x80010⟩,
  ⟨.trn, 0x00B1000, 1, 0x0061, 0x1⟩,
  ⟨.cry, 0x00B2000, 1, 0x0062, 0x20408⟩,
  ⟨.mate, 0x00C0000, 1, 0x0070, 0x2⟩,
  ⟨.flt, 0x00D0000, 1, 0x0080, 0x180⟩,
  ⟨.evt, 0x00D1000, 1, 0x0081, 0x200⟩,
  ⟨.pmu, 0x00D2000, 1, 0x0082, 0x401008⟩,
  ⟨.sem, 0x00D3000, 1, 0x0083, 0x100100⟩,
  ⟨.mtx, 0x00E0000, 1, 0x0090, 0x28⟩,
  ⟨.ddr, 0x00E1000, 2, 0x0091, 0x100⟩,
  ⟨.mrm, 0x00E3000, 1, 0x0092, 0x80080⟩,
  ⟨.pci, 0x00E4000, 1, 0x0093, 0x4⟩,
  ⟨.lsp, 0x00E5000, 1, 0x0094, 0x444⟩,
  ⟨.gch, 0x0100000, 256, 0x0034, 0x100⟩,
  ⟨.clu, 0x0200000, 64, 0x00A0, 0x800200⟩,
  ⟨.qdr, 0x0240000, 4, 0x00A1, 0x10⟩,
  ⟨.eng, 0x0280000, 512, 0x00A2, 0x400004⟩]

/-- The SYS registers (R36, 00_scope.md). -/
def rowsSYS : List RegRow :=
  [
  { name := "SYS_COMPAT", off := 0x1F0, rwl := 0x1, dyn := true }]

/-- The LCS registers (R786, 16_keys_authentication.md). -/
def rowsLCS : List RegRow :=
  [
  { name := "LCS_STATE", off := 0x040 },
  { name := "LCS_CMD", off := 0x044, wo := true },
  { name := "LCS_STAT", off := 0x048 },
  { name := "LCS_SERIAL", off := 0x050, words := 2, dyn := true },
  { name := "LCS_OWNER", off := 0x060, n := 8, stride := 4, rw := 0xFFFFFFFF, cfg := false, dyn := true },
  { name := "LCS_VENDOR", off := 0x080, n := 8, stride := 4, dyn := true },
  { name := "LCS_CHAL", off := 0x0A0, n := 4, stride := 4 },
  { name := "LCS_TOKEN", off := 0x100, n := 32, stride := 4, wo := true }]

/-- The PWR registers (R941, 20_power_reset_geode.md). -/
def rowsPWR : List RegRow :=
  [
  { name := "PWR_STATE", off := 0x040, reset := 0x2 },
  { name := "PWR_CMD", off := 0x044, wo := true },
  { name := "PWR_STAT", off := 0x048 },
  { name := "PWR_WAKE_EN", off := 0x04C, rw := 0x3FFFF, reset := 0x10000 },
  { name := "PWR_WAKE_SRC", off := 0x050, w1c := 0x7FFFF },
  { name := "PWR_RSTCAUSE", off := 0x054 },
  { name := "PWR_BOOT", off := 0x058 },
  { name := "PWR_AVS", off := 0x05C, reset := 0x320 },
  { name := "PWR_CNT_QUIESCE", off := 0x060, rc := true }]

/-- The GEO registers (R943, 20_power_reset_geode.md). -/
def rowsGEO : List RegRow :=
  [
  { name := "GEO_CFG", off := 0x040, rw := 0x7 },
  { name := "GEO_STAT", off := 0x044, reset := 0x8 },
  { name := "GEO_TIME", off := 0x048, words := 3 },
  { name := "GEO_SET", off := 0x054, words := 3, wo := true },
  { name := "GEO_ALARM", off := 0x060, words := 2, rw := 0xFFFF, cfg := false },
  { name := "GEO_TRIM", off := 0x068, rw := 0xFF },
  { name := "GEO_TCFG", off := 0x06C, rw := 0x1FF, reset := 0x40, keep := [(4, 4, 1, 15)] },
  { name := "GEO_TTIME", off := 0x070, words := 2 },
  { name := "GEO_KCTR", off := 0x078 },
  { name := "GEO_BTSEC", off := 0x07C },
  { name := "GEO_BTCAP", off := 0x080, words := 3 },
  { name := "GEO_BKP", off := 0x100, n := 64, stride := 4, rw := 0xFFFFFFFF, cfg := false }]

/-- The CLK registers (R966, 22_register_index.md). -/
def rowsCLK : List RegRow :=
  []

/-- The BDR registers (R95, 02_bedrock_time_scale.md). -/
def rowsBDR : List RegRow :=
  [
  { name := "BDR_BT", off := 0x040, words := 3 },
  { name := "BDR_WT", off := 0x04C, words := 3 },
  { name := "BDR_OFS", off := 0x058, words := 3 },
  { name := "BDR_RATE", off := 0x064, words := 2, rw := 0xFFF, cfg := false },
  { name := "BDR_ANCH", off := 0x06C, words := 3 },
  { name := "BDR_STEP", off := 0x078, words := 3, wo := true },
  { name := "BDR_SLEW_DUR", off := 0x084, rw := 0xFFFFFFFF, cfg := false },
  { name := "BDR_SLEW_AMT", off := 0x088, words := 2, wo := true },
  { name := "BDR_SLEW_LEFT", off := 0x090, words := 2 },
  { name := "BDR_SLEW_DISC", off := 0x098, words := 2 },
  { name := "BDR_CMD", off := 0x0A0, wo := true },
  { name := "BDR_TSTAT", off := 0x0A4 },
  { name := "BDR_UTC_OFS", off := 0x0A8, rw := 0x7FFFF, cfg := false, keep := [(16, 2, 0, 2)] },
  { name := "BDR_HZN", off := 0x0AC, words := 3 },
  { name := "BDR_CAPBT", off := 0x0C0, words := 3 },
  { name := "BDR_CAPWT", off := 0x0D0, words := 3 },
  { name := "BDR_CVT_IN", off := 0x0E0, words := 3, rw := 0xFFFFFFFF, cfg := false },
  { name := "BDR_CVT_PT", off := 0x0F0, words := 3 },
  { name := "BDR_CVT_RES", off := 0x0FC },
  { name := "BDR_CVT_NT", off := 0x100, words := 2 }]

/-- The ACT registers (R120, 02_bedrock_time_scale.md). -/
def rowsACT : List RegRow :=
  [
  { name := "ACT_PBASE", off := 0x040, rwl := 0x1FF0000 },
  { name := "ACT_LATE_TH", off := 0x044, rw := 0xFFFFFF, reset := 0x3E8 },
  { name := "ACT_NEXT", off := 0x048 },
  { name := "ACT_ARMED", off := 0x04C },
  { name := "ACT_LAST", off := 0x050 },
  { name := "ACT_CNT_APPLIED", off := 0x054, rc := true },
  { name := "ACT_CNT_NOTAPP", off := 0x058, rc := true },
  { name := "ACT_CNT_LATE", off := 0x05C, rc := true },
  { name := "ACT_CNT_REFUSED", off := 0x060, rc := true },
  { name := "ACT_CAPTAG", off := 0x064 },
  { name := "ACT_CAPBT", off := 0x068, words := 3 },
  { name := "ACT_CAPWT", off := 0x078, words := 3 },
  { name := "ACT_DISARM", off := 0x084, wo := true }]

/-- The ASY registers (R169, 03_assay.md). -/
def rowsASY : List RegRow :=
  [
  { name := "ASY_CFG", off := 0x040, rw := 0xC0, rwl := 0x7 },
  { name := "ASY_K", off := 0x044, rw := 0xFFFF, cfg := false, reset := 0x300 },
  { name := "ASY_CMD", off := 0x048, wo := true },
  { name := "ASY_TSTAT", off := 0x04C, reset := 0xFF000000 },
  { name := "ASY_REF_D", off := 0x050, rw := 0xFFFFFFFF, cfg := false },
  { name := "ASY_REF_S", off := 0x054, rw := 0xFFFFFFFF, cfg := false },
  { name := "ASY_MEAS_D", off := 0x058, rw := 0xFFFFFFFF, cfg := false },
  { name := "ASY_MEAS_S", off := 0x05C, rw := 0xFFFFFFFF, cfg := false },
  { name := "ASY_LOOP_D", off := 0x060, rw := 0xFFFFFFFF, cfg := false },
  { name := "ASY_LOOP_S", off := 0x064, rw := 0xFFFFFFFF, cfg := false },
  { name := "ASY_CAL_D", off := 0x068, rw := 0xFFFFFFFF, cfg := false },
  { name := "ASY_CAL_S", off := 0x06C, rw := 0xFFFFFFFF, cfg := false },
  { name := "ASY_TEMP_D", off := 0x070, rw := 0xFFFFFFFF, cfg := false },
  { name := "ASY_TEMP_S", off := 0x074, rw := 0xFFFFFFFF, cfg := false },
  { name := "ASY_HO_A", off := 0x080, rw := 0xFFFFFFFF, cfg := false },
  { name := "ASY_HO_B", off := 0x084, rw := 0xFFFFFFFF, cfg := false },
  { name := "ASY_HO_C", off := 0x088, rw := 0xFFFFFFFF, cfg := false },
  { name := "ASY_HO_KT", off := 0x08C, rw := 0xFFFFFFFF, cfg := false },
  { name := "ASY_HO_TSRC", off := 0x090, rw := 0x3, reset := 0x1, keep := [(0, 2, 0, 2)] },
  { name := "ASY_TEMP_FW", off := 0x094, rw := 0xFFFF, cfg := false },
  { name := "ASY_TEMP", off := 0x098 },
  { name := "ASY_HO_TLU", off := 0x09C },
  { name := "ASY_HO_DTMAX", off := 0x0A0 },
  { name := "ASY_TRC_LIM", off := 0x0A4, rw := 0xFFFFFFFF, reset := 0xF4240 },
  { name := "ASY_HO_LIM", off := 0x0A8, rw := 0xFFFFFFFF, reset := 0x16E360 },
  { name := "ASY_HO_MAX", off := 0x0AC, rw := 0xFFFFFFFF, reset := 0x15180 },
  { name := "ASY_UPD_TO", off := 0x0B0, rw := 0xFFFF, reset := 0xFA0, keep := [(0, 16, 1, 65535)] },
  { name := "ASY_E", off := 0x0B8, words := 2 },
  { name := "ASY_EDET", off := 0x0C0, words := 2 },
  { name := "ASY_ESTO", off := 0x0C8 },
  { name := "ASY_HOLD", off := 0x0CC, words := 2 },
  { name := "ASY_LU", off := 0x0D8, words := 3 },
  { name := "ASY_PTLV_ORG", off := 0x0E4, rw := 0xFFFFFF },
  { name := "ASY_PTLV_SUB", off := 0x0E8, rw := 0xFFFFFF },
  { name := "ASY_PTLV_CTRL", off := 0x0EC, rw := 0x1F3, reset := 0x2, keep := [(0, 2, 0, 2)] },
  { name := "ASY_NEF", off := 0x0F0, rw := 0xFFFFFFFF },
  { name := "ASY_OSLV", off := 0x0F4, rw := 0xFFFFFFFF, reset := 0x7246 },
  { name := "ASY_REC_CTRL", off := 0x0F8, rw := 0xFF07, reset := 0x4004 },
  { name := "ASY_REC_SEQ", off := 0x100, words := 2, rw := 0xFFFFFFFF, cfg := false },
  { name := "ASY_STG_BASE", off := 0x108, rwl := 0x1FFF000 }] ++
  [
  { name := "ASY_STG_HEAD", off := 0x10C },
  { name := "ASY_STG_DONE", off := 0x110, wo := true },
  { name := "ASY_RING_BASE", off := 0x114, words := 2, rwl := 0xFFFFFFFF, lo := 0xFFFFF000 },
  { name := "ASY_RING_SIZE", off := 0x11C, rwl := 0x1F, reset := 0x10, keep := [(0, 5, 10, 20)] },
  { name := "ASY_RING_WR", off := 0x120 },
  { name := "ASY_HRING_BASE", off := 0x124, words := 2, rwl := 0xFFFFFFFF, lo := 0xFFFFF000 },
  { name := "ASY_HRING_SIZE", off := 0x12C, rwl := 0x1F, reset := 0x8, keep := [(0, 5, 4, 16)] },
  { name := "ASY_HRING_WR", off := 0x130 },
  { name := "ASY_HRING_RD", off := 0x134, rw := 0xFFFF, cfg := false },
  { name := "ASY_CNT_EVAL", off := 0x138, rc := true },
  { name := "ASY_CNT_REC", off := 0x13C, rc := true },
  { name := "ASY_CNT_DROP", off := 0x140, rc := true },
  { name := "ASY_CNT_HDROP", off := 0x144, rc := true },
  { name := "ASY_CNT_OVW", off := 0x148, rc := true },
  { name := "ASY_CNT_PURGE", off := 0x14C, rc := true },
  { name := "ASY_PORT_D", off := 0x180, n := 16, stride := 8, rw := 0xFFFFFFFF, cfg := false },
  { name := "ASY_PORT_S", off := 0x184, n := 16, stride := 8, rw := 0xFFFFFFFF, cfg := false }]

/-- The REF registers (R212, 04_references.md). -/
def rowsREF : List RegRow :=
  [
  { name := "REF_GCFG", off := 0x040, rwl := 0x1 },
  { name := "REF_STSUM", off := 0x048, n := 3, stride := 4 },
  { name := "REF_QP", off := 0x054, words := 3, wo := true },
  { name := "REF_TOD_CFG", off := 0x060, n := 4, stride := 4, rwl := 0xFFFF, reset := 0x600, keep := [(5, 2, 0, 2)] },
  { name := "REF_TOD_ERR", off := 0x070, n := 4, stride := 4, rc := true },
  { name := "REF_LOOP_SEL", off := 0x080, n := 8, stride := 16, rw := 0x13F },
  { name := "REF_LOOP_PRIO_A", off := 0x084, n := 8, stride := 16, rwl := 0xBFBFBFBF },
  { name := "REF_LOOP_PRIO_B", off := 0x088, n := 8, stride := 16, rwl := 0xBFBFBFBF },
  { name := "REF_LOOP_CUR", off := 0x08C, n := 8, stride := 16 },
  { name := "REF_TOD_LAST", off := 0x100, n := 4, stride := 16, words := 3 },
  { name := "REF_CNT_FALLBACK", off := 0x140, rc := true },
  { name := "REF_CNT_DISQ", off := 0x144, rc := true },
  { name := "REF_CNT_SELREJ", off := 0x148, rc := true },
  { name := "REF_CNT_INCONS", off := 0x14C, rc := true },
  { name := "REF_ENT_CFG", off := 0x200, n := 16, stride := 32, rwl := 0xC0FFF0B9, reset := 0x64038, keep := [(30, 2, 0, 2)] },
  { name := "REF_ENT_CFG", off := 0x400, n := 30, stride := 32, rwl := 0xC0FFF039, reset := 0x64038, keep := [(30, 2, 0, 2)] },
  { name := "REF_ENT_CFG", off := 0x7C0, n := 2, stride := 32, rwl := 0xFFFFFF39, reset := 0x64038, keep := [(30, 2, 0, 2)] },
  { name := "REF_ENT_NOM", off := 0x204, n := 16, stride := 32, rwl := 0xFFFFFFFF, reset := 0x1, keep := [(0, 32, 1, 1000000000)] },
  { name := "REF_ENT_NOM", off := 0x404, n := 16, stride := 32 },
  { name := "REF_ENT_NOM", off := 0x604, n := 13, stride := 32, rwl := 0xFFFFFFFF, reset := 0x1, keep := [(0, 32, 1, 1000000000)] },
  { name := "REF_ENT_NOM", off := 0x7A4, stride := 32 },
  { name := "REF_ENT_NOM", off := 0x7C4, n := 2, stride := 32, rwl := 0xFFFFFFFF, reset := 0x1, keep := [(0, 32, 1, 1000000000)] },
  { name := "REF_ENT_MON", off := 0x208, n := 48, stride := 32, rwl := 0xFFFF07FF, reset := 0x206, keep := [(8, 3, 0, 4), (0, 8, 5, 255)] },
  { name := "REF_ENT_FLIM", off := 0x20C, n := 48, stride := 32, rwl := 0xFFFFF, reset := 0x3E8 },
  { name := "REF_ENT_QTH", off := 0x210, n := 48, stride := 32, rwl := 0xFFFFFFFF, dyn := true, keep := [(24, 8, 1, 255)] },
  { name := "REF_ENT_STAT", off := 0x214, n := 48, stride := 32, reset := 0x10 },
  { name := "REF_ENT_QWORD", off := 0x218, n := 48, stride := 32, dyn := true },
  { name := "REF_ENT_FOFS", off := 0x21C, n := 48, stride := 32 }]

/-- The DPL registers (R264, 05_loops_holdover.md). -/
def rowsDPL : List RegRow :=
  [
  { name := "DPL_CFG", off := 0x040, rwl := 0x7373, dyn := true, keep := [(12, 3, 0, 3), (0, 2, 0, 2)] },
  { name := "DPL_BW", off := 0x044, rw := 0x31F1F, dyn := true, keep := [(0, 5, 0, 20), (8, 5, 0, 20)] },
  { name := "DPL_PSL", off := 0x048, rw := 0xFFFFFF },
  { name := "DPL_LOCK", off := 0x04C, rw := 0xFFFFFFFF, reset := 0x1F40032 },
  { name := "DPL_LOCKT", off := 0x050, rw := 0xFFFFFF, reset := 0x30064, keep := [(0, 16, 1, 65535), (16, 8, 1, 255)] },
  { name := "DPL_HO", off := 0x054, rw := 0xFF07, reset := 0xA02, keep := [(0, 3, 0, 4)] },
  { name := "DPL_CMD", off := 0x058, wo := true },
  { name := "DPL_STAT", off := 0x05C, dyn := true },
  { name := "DPL_FOUT", off := 0x060, words := 2 },
  { name := "DPL_TERR", off := 0x068, words := 2 },
  { name := "DPL_RPTBT", off := 0x070, words := 3 },
  { name := "DPL_HOFREQ", off := 0x080, words := 2 },
  { name := "DPL_HODRIFT", off := 0x088, rw := 0xFFFFFFFF },
  { name := "DPL_FRFREQ", off := 0x090, words := 2, rw := 0xFFF },
  { name := "DPL_HIST_CFG", off := 0x098, rw := 0x137, reset := 0x2, keep := [(0, 3, 0, 3), (4, 2, 0, 2)] },
  { name := "DPL_HIST_BASE", off := 0x09C, rwl := 0x1FFF00F, reset := 0x6, keep := [(0, 4, 6, 12)] },
  { name := "DPL_HIST_ID", off := 0x0A0, words := 2, rw := 0xFFFFFFFF },
  { name := "DPL_HIST_WR", off := 0x0A8 },
  { name := "DPL_CNT_UNLOCK", off := 0x0AC, rc := true },
  { name := "DPL_CNT_LIMIT", off := 0x0B0, rc := true },
  { name := "DPL_CNT_DISC", off := 0x0B4, rc := true },
  { name := "DPL_EFC_CTR", off := 0x0C0, rw := 0xFFFFFF, reset := 0x800000 },
  { name := "DPL_EFC_MIN", off := 0x0C4, rw := 0xFFFFFF },
  { name := "DPL_EFC_MAX", off := 0x0C8, rw := 0xFFFFFF, reset := 0xFFFFFF },
  { name := "DPL_EFC_GAIN", off := 0x0CC, rw := 0xFFFFFFFF },
  { name := "DPL_EFC_CODE", off := 0x0D0 },
  { name := "DPL_TPL_CFG", off := 0x0D4, rw := 0x3F3F3F7F, reset := 0x10001, keep := [(20, 2, 0, 2), (16, 4, 1, 15), (0, 7, 1, 64)] },
  { name := "DPL_TPL_MUL", off := 0x0D8, rw := 0xFFFFFFFF },
  { name := "DPL_TPL_VAL", off := 0x0DC },
  { name := "DPL_TPL_MIN", off := 0x0E0, rw := 0xFF, reset := 0xA, keep := [(0, 8, 1, 255)] },
  { name := "DPL_TPL_DATA", off := 0x100, n := 16, stride := 4, rw := 0xFFFFFFFF }]

/-- The SYN registers (R309, 06_synthesis_outputs.md). -/
def rowsSYN : List RegRow :=
  [
  { name := "SYN_CFG", off := 0x040, rwl := 0xFF33, reset := 0x1010, keep := [(0, 2, 0, 2)] },
  { name := "SYN_NUM", off := 0x044, words := 2, rw := 0xFFFFFFF, reset := 0x271000000000000 },
  { name := "SYN_CMD", off := 0x04C, wo := true },
  { name := "SYN_STAT", off := 0x050 },
  { name := "SYN_BMEAS", off := 0x054 },
  { name := "SYN_TRIM", off := 0x058, words := 2, rw := 0xFFF },
  { name := "SYN_FAPP", off := 0x060, words := 2 },
  { name := "SYN_CNT_LOL", off := 0x068, rc := true },
  { name := "SYN_CNT_CLAMP", off := 0x06C, rc := true },
  { name := "SYN_BAND", off := 0x100, n := 64, stride := 4, rw := 0xFFFFFFFF }]

/-- The OUT registers (R314, 06_synthesis_outputs.md). -/
def rowsOUT : List RegRow :=
  [
  { name := "OUT_PTXSEL", off := 0x040, rwl := 0xFF, reset := 0xE4 },
  { name := "OUT_CMD", off := 0x044, wo := true },
  { name := "OUT_STAT", off := 0x048 },
  { name := "OUT_CFG", off := 0x100, n := 12, stride := 32, rw := 0x1331, dyn := true },
  { name := "OUT_DIV", off := 0x104, n := 12, stride := 32, rw := 0xFFFFFF, reset := 0x50 },
  { name := "OUT_CDLY", off := 0x108, n := 12, stride := 32, rw := 0x1FFFFFF },
  { name := "OUT_FDLY", off := 0x10C, n := 12, stride := 32, rw := 0x7FF },
  { name := "OUT_DLY_FCAL", off := 0x110, n := 12, stride := 32, dyn := true },
  { name := "OUT_DLY_UCAL", off := 0x114, n := 12, stride := 32, rw := 0x1FF },
  { name := "OUT_DLY_ECAL", off := 0x118, n := 12, stride := 32 },
  { name := "OUT_STATN", off := 0x11C, n := 12, stride := 32 }]

/-- The PPS registers (R318, 06_synthesis_outputs.md). -/
def rowsPPS : List RegRow :=
  [
  { name := "PPS_CMD", off := 0x040, wo := true },
  { name := "PPS_CNT_SKIP", off := 0x044, rc := true },
  { name := "PPS_CFG", off := 0x100, n := 4, stride := 64, rw := 0x3FFF001F, reset := 0x10000, keep := [(16, 14, 1, 10000), (1, 3, 0, 3)] },
  { name := "PPS_WIDTH", off := 0x104, n := 4, stride := 64, rw := 0x3FFFFFFF, reset := 0x5F5E100, keep := [(0, 30, 1, 999999999)] },
  { name := "PPS_OFS", off := 0x108, n := 4, stride := 64, rw := 0xFFFFFFFF },
  { name := "PPS_MTH", off := 0x10C, n := 4, stride := 64, rw := 0xFFFFFFFF, reset := 0x3E8 },
  { name := "PPS_DLT", off := 0x110, n := 4, stride := 64, words := 2 },
  { name := "PPS_DLY_FCAL", off := 0x118, n := 4, stride := 64, dyn := true },
  { name := "PPS_DLY_UCAL", off := 0x11C, n := 4, stride := 64, rw := 0x1FF },
  { name := "PPS_DLY_ECAL", off := 0x120, n := 4, stride := 64 },
  { name := "PPS_STAT", off := 0x124, n := 4, stride := 64 }]

/-- The TDC registers (R449, 09_interval_measurement.md). -/
def rowsTDC : List RegRow :=
  [
  { name := "TDC_GCFG", off := 0x040, rwl := 0x1, reset := 0x1 },
  { name := "TDC_GATE_CFG", off := 0x044, rw := 0xF },
  { name := "TDC_ARM", off := 0x048, wo := true },
  { name := "TDC_CAL_CMD", off := 0x04C, wo := true },
  { name := "TDC_GSTAT", off := 0x050 },
  { name := "TDC_CNT_OVF", off := 0x054, rc := true },
  { name := "TDC_CNT_DEAD", off := 0x058, rc := true },
  { name := "TDC_CAL_RES", off := 0x060, n := 4, stride := 4 },
  { name := "TDC_CH_CFG", off := 0x100, n := 32, stride := 32, rw := 0x3FFFFF7F, dyn := true },
  { name := "TDC_CH_RES_LO", off := 0x104, n := 32, stride := 32 },
  { name := "TDC_CH_RES_MID", off := 0x108, n := 32, stride := 32 },
  { name := "TDC_CH_RES_HI", off := 0x10C, n := 32, stride := 32 },
  { name := "TDC_CH_RES_CNT", off := 0x110, n := 32, stride := 32 },
  { name := "TDC_CH_RES_FLG", off := 0x114, n := 32, stride := 32 },
  { name := "TDC_CH_ARMN", off := 0x118, n := 32, stride := 32, rw := 0xFFFF, reset := 0x1, keep := [(0, 16, 1, 65535)] },
  { name := "TDC_CH_STAT", off := 0x11C, n := 32, stride := 32 },
  { name := "TDC_CH_SKEW_FCAL", off := 0x500, n := 32, stride := 16, dyn := true },
  { name := "TDC_CH_SKEW_UCAL", off := 0x504, n := 32, stride := 16, rw := 0xFFFF },
  { name := "TDC_CH_SKEW_ECAL", off := 0x508, n := 32, stride := 16 },
  { name := "TDC_CH_CBL_UCAL", off := 0x50C, n := 32, stride := 16, rw := 0xFFFFFFFF },
  { name := "TDC_CH_INL_FCAL", off := 0x700, n := 32, stride := 48, m := 4, stride2 := 4, dyn := true },
  { name := "TDC_CH_INL_UCAL", off := 0x710, n := 32, stride := 48, m := 4, stride2 := 4, rw := 0xFFFFFFFF },
  { name := "TDC_CH_INL_ECAL", off := 0x720, n := 32, stride := 48, m := 4, stride2 := 4 }]

/-- The GNS registers (R382, 07_gnss_receiver.md). -/
def rowsGNS : List RegRow :=
  [
  { name := "GNS_SIF_CFG", off := 0x040, rwl := 0xFF03FF01, reset := 0x5A000000 },
  { name := "GNS_SIF_LAT_A", off := 0x044, rwl := 0x3F3F3F3F, reset := 0x4040404 },
  { name := "GNS_SIF_LAT_B", off := 0x048, rwl := 0x3F3F3F3F, reset := 0x4040404 },
  { name := "GNS_SIF_CMD", off := 0x04C, wo := true },
  { name := "GNS_SIF_STAT", off := 0x050 },
  { name := "GNS_IF_U", off := 0x054, rw := 0xFFFFFFFF },
  { name := "GNS_IF_L", off := 0x058, rw := 0xFFFFFFFF },
  { name := "GNS_MCFG", off := 0x05C, rw := 0x107, reset := 0x103, keep := [(0, 3, 0, 5)] },
  { name := "GNS_BURST", off := 0x060, rw := 0xF1F03FF, reset := 0x30500C8, keep := [(0, 10, 0, 999), (16, 5, 1, 25), (24, 4, 1, 15)] },
  { name := "GNS_AID_CLK", off := 0x064, words := 2, rw := 0xFFF, cfg := false },
  { name := "GNS_ACQ_DEF", off := 0x06C, rw := 0xFF7FFFF, reset := 0x401388, keep := [(20, 8, 1, 255)] },
  { name := "GNS_ACQ_THR", off := 0x070, rw := 0xFFFF, reset := 0x200 },
  { name := "GNS_APWR", off := 0x074, rw := 0xFF, reset := 0xF0 },
  { name := "GNS_MRING_BASE", off := 0x078, rwl := 0x1FFF00F, reset := 0xA, keep := [(0, 4, 8, 14)] },
  { name := "GNS_MRING_WR", off := 0x07C },
  { name := "GNS_MRING_RD", off := 0x080, rw := 0x3FFF, cfg := false },
  { name := "GNS_CNT_MDROP", off := 0x084, rc := true },
  { name := "GNS_CNT_CLIP", off := 0x088, n := 8, stride := 4, rc := true },
  { name := "GNS_ACT", off := 0x0C0, n := 8, stride := 4 },
  { name := "GNS_EVSUM", off := 0x0E0, n := 8, stride := 4 }]

/-- The ANT registers (R422, 08_gnss_time_integrity.md). -/
def rowsANT : List RegRow :=
  [
  { name := "ANT_SET", off := 0x040, n := 2, stride := 4, rwl := 0x3F, dyn := true },
  { name := "ANT_SOLB", off := 0x048, words := 3, rw := 0xFFFF, cfg := false },
  { name := "ANT_SOLX", off := 0x058, words := 3, rw := 0xFFFFFFFF, cfg := false },
  { name := "ANT_SOL_CTL", off := 0x064, wo := true },
  { name := "ANT_INTEG", off := 0x068, rw := 0x3, cfg := false },
  { name := "ANT_ISTAT", off := 0x06C, reset := 0xFC0 },
  { name := "ANT_JCFG", off := 0x070, rw := 0xFFFFFFFF, reset := 0xFF041010 },
  { name := "ANT_JLIM", off := 0x074, rw := 0xFFFFFF, reset := 0xA283C, keep := [(16, 8, 1, 255)] },
  { name := "ANT_SCFG", off := 0x078, rw := 0xF3FFFFFF, reset := 0x30A344C0, keep := [(28, 4, 1, 15), (20, 4, 1, 15), (16, 4, 1, 15), (8, 4, 0, 8)] },
  { name := "ANT_PPS_CFG", off := 0x07C, rw := 0x3FF030F, reset := 0x640008, keep := [(16, 10, 1, 500)] },
  { name := "ANT_PPS_BT", off := 0x080, words := 3, rw := 0xFFFF, cfg := false },
  { name := "ANT_PPS_SEC", off := 0x090, words := 2, rw := 0xFFFF, cfg := false },
  { name := "ANT_PPS_META", off := 0x098, rw := 0x3FF, cfg := false },
  { name := "ANT_PPS_STAT", off := 0x09C },
  { name := "ANT_QERR", off := 0x0A0 },
  { name := "ANT_PPS_EDGE", off := 0x0A4, words := 3 },
  { name := "ANT_PPS_SEQ", off := 0x0B0 },
  { name := "ANT_CNT_SPOOF", off := 0x0B4, rc := true },
  { name := "ANT_CNT_INSUF", off := 0x0B8, rc := true },
  { name := "ANT_CNT_SOLREJ", off := 0x0BC, rc := true },
  { name := "ANT_CBL_UCAL", off := 0x0C0, n := 8, stride := 4, rw := 0xFFFFFFFF },
  { name := "ANT_AGC", off := 0x0E0, n := 8, stride := 4, rw := 0xFFFFFFFF, cfg := false },
  { name := "ANT_JAM", off := 0x100, n := 8, stride := 4 },
  { name := "ANT_PEAK", off := 0x120, n := 8, stride := 4 },
  { name := "ANT_NOTCH", off := 0x180, n := 8, stride := 16, m := 4, stride2 := 4, rw := 0xFFFFFF71 },
  { name := "ANT_SV_A", off := 0x200, n := 64, stride := 8, rw := 0xFFFFFFFF, cfg := false },
  { name := "ANT_SV_B", off := 0x204, n := 64, stride := 8, rw := 0xFFFFFFFF, cfg := false },
  { name := "ANT_SCORE0", off := 0x400, n := 16, stride := 4, reset := 0xFFFFFFFF },
  { name := "ANT_BL_EN", off := 0x440, n := 3, stride := 8, rwl := 0xFFFFFFFF },
  { name := "ANT_BL_U", off := 0x444, n := 3, stride := 8, rwl := 0xFFFF },
  { name := "ANT_SCORE1", off := 0x460, n := 16, stride := 4, reset := 0xFFFFFFFF }]

/-- The ACQ registers (R384, 07_gnss_receiver.md). -/
def rowsACQ : List RegRow :=
  [
  { name := "ACQ_RQ_BASE", off := 0x040, rwl := 0x1FFF007, reset := 0x4, keep := [(0, 3, 4, 6)] },
  { name := "ACQ_RQ_TAIL", off := 0x044, rw := 0x3F, cfg := false },
  { name := "ACQ_RQ_HEAD", off := 0x048 },
  { name := "ACQ_RS_BASE", off := 0x04C, rwl := 0x1FFF00F, reset := 0x6, keep := [(0, 4, 4, 8)] },
  { name := "ACQ_RS_WR", off := 0x050 },
  { name := "ACQ_RS_RD", off := 0x054, rw := 0xFF, cfg := false },
  { name := "ACQ_CMD", off := 0x058, wo := true },
  { name := "ACQ_STAT", off := 0x05C },
  { name := "ACQ_CNT_DONE", off := 0x060, rc := true },
  { name := "ACQ_CNT_FOUND", off := 0x064, rc := true },
  { name := "ACQ_CNT_HOMISS", off := 0x068, rc := true },
  { name := "ACQ_CNT_RDROP", off := 0x06C, rc := true }]

/-- The NAV registers (R390, 07_gnss_receiver.md). -/
def rowsNAV : List RegRow :=
  [
  { name := "NAV_CFG", off := 0x040, rw := 0x3F03, reset := 0x1402, keep := [(8, 6, 1, 50)] },
  { name := "NAV_RING_BASE", off := 0x044, rwl := 0x1FFF00F, reset := 0x8, keep := [(0, 4, 6, 12)] },
  { name := "NAV_RING_WR", off := 0x048 },
  { name := "NAV_RING_RD", off := 0x04C, rw := 0xFFF, cfg := false },
  { name := "NAV_CNT_PASS", off := 0x050, rc := true },
  { name := "NAV_CNT_FAIL", off := 0x054, rc := true },
  { name := "NAV_CNT_DROP", off := 0x058, rc := true }]

/-- The PRT registers (R500, 10_ports_mac.md). -/
def rowsPRT : List RegRow :=
  [
  { name := "PRT_GMODE", off := 0x040, rwl := 0x3, dyn := true },
  { name := "PRT_CFG", off := 0x044, rwl := 0xF0003, reset := 0x2, keep := [(16, 4, 0, 3)] },
  { name := "PRT_MODE", off := 0x048, rw := 0x3, reset := 0x1 },
  { name := "PRT_MAXLEN", off := 0x04C, rwl := 0x3FFF, reset := 0x5F2, keep := [(0, 14, 64, 9600)] },
  { name := "PRT_MAC", off := 0x050, words := 2, rwl := 0xFFFF },
  { name := "PRT_FC_WM", off := 0x058, rw := 0x1FFF1FFF, dyn := true },
  { name := "PRT_FC_CFG", off := 0x05C, rw := 0xFFFF, reset := 0xFFFF, keep := [(0, 16, 1, 65535)] },
  { name := "PRT_LINK", off := 0x060, reset := 0x1000 },
  { name := "PRT_LANE_CFG", off := 0x064, rwl := 0x3030303 },
  { name := "PRT_ESMC_CFG", off := 0x068, rw := 0x3FFF, reset := 0x5, keep := [(4, 10, 0, 999)] },
  { name := "PRT_ESMC_TX", off := 0x06C, rw := 0xFF03FF0F, reset := 0xFF0F },
  { name := "PRT_ESMC_CNT", off := 0x070, rw := 0xFF },
  { name := "PRT_ESMC_ID", off := 0x074, words := 2, rw := 0xFFFFFFFF },
  { name := "PRT_ESMC_RX", off := 0x07C },
  { name := "PRT_WAKE_CFG", off := 0x080, rw := 0x1FF },
  { name := "PRT_WAKE_STAT", off := 0x084, w1c := 0xFF },
  { name := "PRT_WAKE_CRC", off := 0x088, n := 8, stride := 4, rw := 0xFFFF },
  { name := "PRT_STATS", off := 0x100, n := 25, stride := 8, words := 2, rc := true },
  { name := "PRT_WAKE_MASK", off := 0x400, n := 8, stride := 128, m := 32, stride2 := 4, rw := 0xFFFFFFFF }]

/-- The TSU registers (R541, 11_timestamping_launch.md). -/
def rowsTSU : List RegRow :=
  [
  { name := "TSU_CFG", off := 0x040, rwl := 0xFFFFF, reset := 0xC0822, keep := [(16, 4, 1, 15), (8, 8, 1, 15), (4, 4, 2, 15), (0, 4, 2, 15)] },
  { name := "TSU_LEAD", off := 0x044, rwl := 0xFFFFFFFF, reset := 0x271007D0 },
  { name := "TSU_SUBMIT", off := 0x048, rwl := 0x7FF, reset := 0x1F4, keep := [(0, 11, 200, 1500)] },
  { name := "TSU_STAT", off := 0x04C },
  { name := "TSU_RQ_W", off := 0x050, n := 6, stride := 4, wo := true },
  { name := "TSU_GR_W", off := 0x068, n := 7, stride := 4 },
  { name := "TSU_CANCEL", off := 0x084, wo := true },
  { name := "TSU_CNT_GRANT", off := 0x090, rc := true },
  { name := "TSU_CNT_REFUSE", off := 0x094, rc := true },
  { name := "TSU_CNT_SENT", off := 0x098, rc := true },
  { name := "TSU_CNT_MISS", off := 0x09C, rc := true },
  { name := "TSU_CNT_CDROP", off := 0x0A0, rc := true },
  { name := "TSU_CNT_TXTS", off := 0x0A4, rc := true },
  { name := "TSU_CNT_BADSUB", off := 0x0A8, rc := true },
  { name := "TSU_CNT_MISSC", off := 0x0C4, n := 11, stride := 4, rc := true },
  { name := "TSU_TXDLY_FCAL", off := 0x100, n := 4, stride := 64, dyn := true },
  { name := "TSU_TXDLY_UCAL", off := 0x104, n := 4, stride := 64, rw := 0xFFFFFFFF },
  { name := "TSU_TXDLY_ECAL", off := 0x108, n := 4, stride := 64 },
  { name := "TSU_RXDLY_FCAL", off := 0x10C, n := 4, stride := 64, dyn := true },
  { name := "TSU_RXDLY_UCAL", off := 0x110, n := 4, stride := 64, rw := 0xFFFFFFFF },
  { name := "TSU_RXDLY_ECAL", off := 0x114, n := 4, stride := 64 },
  { name := "TSU_ASYM_UCAL", off := 0x118, n := 4, stride := 64, rw := 0xFFFFFFFF },
  { name := "TSU_CAP_CFG", off := 0x11C, n := 4, stride := 64, rw := 0x3 },
  { name := "TSU_TXCAP", off := 0x120, n := 4, stride := 64, words := 3 },
  { name := "TSU_RXCAP", off := 0x130, n := 4, stride := 64, words := 3 },
  { name := "TSU_TCO_FCAL", off := 0x200, n := 4, stride := 16, dyn := true },
  { name := "TSU_TCO_UCAL", off := 0x204, n := 4, stride := 16, rw := 0xFFFF },
  { name := "TSU_TCO_ECAL", off := 0x208, n := 4, stride := 16 }]

/-- The MGMT registers (R505, 10_ports_mac.md). -/
def rowsMGMT : List RegRow :=
  [
  { name := "MGMT_CFG", off := 0x040, rwl := 0xF, reset := 0xA, keep := [(2, 2, 0, 2)] },
  { name := "MGMT_STAT", off := 0x044 },
  { name := "MGMT_MAXLEN", off := 0x048, rwl := 0x3FFF, reset := 0x5F2, keep := [(0, 14, 64, 9600)] },
  { name := "MGMT_MAC", off := 0x04C, words := 2, rwl := 0xFFFF },
  { name := "MGMT_STATS", off := 0x100, n := 25, stride := 8, words := 2, rc := true }]

/-- The SCH registers (R738, 15_scheduling_policing.md). -/
def rowsSCH : List RegRow :=
  [
  { name := "SCH_CTL", off := 0x040, rw := 0x1 },
  { name := "SCH_REFILL", off := 0x044, rw := 0xFFFF, reset := 0x3E8, keep := [(0, 16, 100, 65535)] },
  { name := "SCH_STAT", off := 0x048 },
  { name := "SCH_CNT_BADDESC", off := 0x04C, rc := true },
  { name := "SCH_CNT_FREELOST", off := 0x050, rc := true },
  { name := "SCH_TXWIN", off := 0x060, n := 4, stride := 8, words := 2, lo := 0xFFFFF07F, rw := 0x3F, keep := [(0, 6, 12, 38)] },
  { name := "SCH_TXQ", off := 0x700, n := 17, stride := 128, m := 8, stride2 := 16, rw := 0x80F3FFFF, keep := [(20, 4, 0, 8)] },
  { name := "SCH_RATE", off := 0x704, n := 17, stride := 128, m := 6, stride2 := 16, rw := 0x7FFFFFF },
  { name := "SCH_BURST", off := 0x708, n := 17, stride := 128, m := 6, stride2 := 16, rw := 0xFFFFFF, dyn := true, keep := [(0, 24, 1, 16777215)] },
  { name := "SCH_WGT", off := 0x70C, n := 17, stride := 128, m := 6, stride2 := 16, rw := 0xFF, dyn := true, keep := [(0, 8, 1, 255)] }]

/-- The POL registers (R740, 15_scheduling_policing.md). -/
def rowsPOL : List RegRow :=
  [
  { name := "POL_FBQ", off := 0x040, rwl := 0x3FFFF },
  { name := "POL_FBSZ", off := 0x044, rwl := 0x3 },
  { name := "POL_CMD_BASE", off := 0x048, rwl := 0x1FF0000 },
  { name := "POL_CMD_Q", off := 0x04C, rwl := 0x3FFFF },
  { name := "POL_CMD_RING", off := 0x050, rw := 0x3 },
  { name := "POL_CMD_REL", off := 0x054, wo := true },
  { name := "POL_CMD_USE", off := 0x058 },
  { name := "POL_CNT_CMD", off := 0x060, rc := true },
  { name := "POL_CNT_CMDDROP", off := 0x064, rc := true },
  { name := "POL_CNT_NOBUF", off := 0x068, rc := true },
  { name := "POL_CNT_TOOLONG", off := 0x06C, rc := true },
  { name := "POL_CNT_RXQFULL", off := 0x070, rc := true },
  { name := "POL_CMD_MATCH", off := 0x080, n := 8, stride := 8, rw := 0x87FFFFFF },
  { name := "POL_CMD_ARG", off := 0x084, n := 8, stride := 8, rw := 0x4FFFFFFF },
  { name := "POL_RATE", off := 0x100, n := 17, stride := 128, m := 5, stride2 := 16, rw := 0x80FFFFFF },
  { name := "POL_BURST", off := 0x104, n := 17, stride := 128, m := 5, stride2 := 16, rw := 0xFFFF, reset := 0x40, keep := [(0, 16, 1, 65535)] },
  { name := "POL_CNT", off := 0x108, n := 17, stride := 128, m := 5, stride2 := 16, rc := true }]

/-- The QRY registers (R705, 14_serving.md). -/
def rowsQRY : List RegRow :=
  [
  { name := "QRY_TBL", off := 0x040, words := 2, rwl := 0xFFFFFFFF },
  { name := "QRY_TBL_CFG", off := 0x048, rwl := 0xFFFF001F, reset := 0x400019, keep := [(0, 5, 16, 25)] },
  { name := "QRY_CMD", off := 0x04C, wo := true },
  { name := "QRY_STAT", off := 0x050 },
  { name := "QRY_CLS_CFG", off := 0x054, rwl := 0x1F, reset := 0x1F },
  { name := "QRY_EXC_MAP", off := 0x058, rw := 0xFFFFC, reset := 0xEAAA4 },
  { name := "QRY_EXC_RATE", off := 0x060, n := 4, stride := 4, rw := 0xFFFFFFFF, reset := 0x100186A0 },
  { name := "QRY_RXQ", off := 0x070, n := 4, stride := 4, rwl := 0xF3FFFF, keep := [(20, 4, 0, 10)] },
  { name := "QRY_CNT_HIT", off := 0x080, rc := true },
  { name := "QRY_CNT_MISS", off := 0x084, rc := true },
  { name := "QRY_CNT_WB", off := 0x088, rc := true },
  { name := "QRY_CNT_ECC", off := 0x08C, rc := true },
  { name := "QRY_CNT_NOTME", off := 0x090, rc := true },
  { name := "QRY_CNT_MALF", off := 0x094, rc := true },
  { name := "QRY_CNT_EXCDROP", off := 0x098, rc := true },
  { name := "QRY_CNT_OFF", off := 0x09C, rc := true },
  { name := "QRY_SVC_ADDR", off := 0x200, n := 32, stride := 32, m := 4, stride2 := 4, rwl := 0xFFFFFFFF },
  { name := "QRY_SVC_CTL", off := 0x210, n := 32, stride := 32, rwl := 0xFFFFEFFF, keep := [(14, 2, 0, 2)] }]

/-- The SVC registers (R709, 14_serving.md). -/
def rowsSVC : List RegRow :=
  [
  { name := "QRY_CLKID", off := 0x040, words := 2, rw := 0xFFFFFFFF },
  { name := "QRY_SESS_CFG", off := 0x048, rwl := 0x7FFFF, keep := [(0, 19, 0, 262144)] },
  { name := "QRY_SESS_BASE", off := 0x04C, words := 2, rwl := 0xFFFFFFFF, lo := 0xFFFFF000 },
  { name := "QRY_NTP_CFG", off := 0x054, rw := 0xFFFF0F1F, reset := 0x11000102, keep := [(8, 4, 1, 15)] },
  { name := "QRY_NTP_REFID", off := 0x058, rw := 0xFFFFFFFF },
  { name := "QRY_NTS_CFG", off := 0x05C, rw := 0xFFFF00F7, reset := 0x1F40082, keep := [(4, 4, 1, 8)] },
  { name := "QRY_VLOG_BASE", off := 0x060, rwl := 0x1FFF00F, reset := 0xA, keep := [(0, 4, 6, 14)] },
  { name := "QRY_VLOG_MAX", off := 0x064, rw := 0xFFFF, reset := 0x3E8 },
  { name := "QRY_STATS_BASE", off := 0x068, rwl := 0x1FFF000 },
  { name := "QRY_GRPBUD", off := 0x070, n := 4, stride := 4, rw := 0x1FFFFFF, reset := 0xF42400 },
  { name := "QRY_POL_RATE", off := 0x080, n := 8, stride := 8, rw := 0xFFFFFF, reset := 0x800 },
  { name := "QRY_POL_BURST", off := 0x084, n := 8, stride := 8, rw := 0xFFFFFFFF, reset := 0x100010, keep := [(0, 16, 1, 65535)] },
  { name := "QRY_PFX_ADDR", off := 0x0C0, n := 16, stride := 32, m := 4, stride2 := 4, rw := 0xFFFFFFFF },
  { name := "QRY_PFX_CTL", off := 0x0D0, n := 16, stride := 32, rw := 0x173FF, keep := [(8, 2, 0, 2)] },
  { name := "QRY_PTP_CFG", off := 0x300, n := 8, stride := 32, rw := 0xFFFFFFFF, keep := [(4, 2, 0, 2)] },
  { name := "QRY_PTP_LOG", off := 0x304, n := 8, stride := 32, rw := 0xFFFFFFFF, reset := 0x3FCFDFC },
  { name := "QRY_PTP_DS", off := 0x308, n := 8, stride := 32, rw := 0xFFFFFF, reset := 0x8C8080 },
  { name := "QRY_PTP_HOSPEC", off := 0x30C, n := 8, stride := 32, rw := 0xFFFFFFFF, reset := 0x64 },
  { name := "QRY_PTP_NEG", off := 0x310, n := 8, stride := 32, rw := 0xFFFFFFFF, reset := 0xFDF9012C, keep := [(0, 16, 10, 1000)] },
  { name := "QRY_PTP_AUTH", off := 0x314, n := 8, stride := 32, rw := 0xFFFF },
  { name := "QRY_UP_ADDR", off := 0x400, n := 8, stride := 32, m := 4, stride2 := 4, rw := 0xFFFFFFFF },
  { name := "QRY_UP_CFG", off := 0x410, n := 8, stride := 32, rw := 0x3FFFF7F, reset := 0x1FC0020, keep := [(5, 2, 0, 2)] },
  { name := "QRY_UP_NH", off := 0x414, n := 8, stride := 32, words := 2, rw := 0xFFFF }]

/-- The KEY registers (R787, 16_keys_authentication.md). -/
def rowsKEY : List RegRow :=
  [
  { name := "KEY_ENV", off := 0x040, rw := 0x1FFFF00, cfg := false },
  { name := "KEY_CMD", off := 0x044, wo := true },
  { name := "KEY_STAT", off := 0x048 },
  { name := "KEY_GEN", off := 0x04C },
  { name := "KEY_CTR", off := 0x050 },
  { name := "KEY_CTR_GEO", off := 0x054 },
  { name := "KEY_STG_CTR", off := 0x058 },
  { name := "KEY_CSW", off := 0x05C },
  { name := "KEY_CNT_REJ", off := 0x060, rc := true },
  { name := "KEY_CNT_HIT", off := 0x064, rc := true },
  { name := "KEY_CNT_MISS", off := 0x068, rc := true },
  { name := "KEY_IDPUB", off := 0x080, n := 8, stride := 4, dyn := true },
  { name := "KEY_XPUB", off := 0x0A0, n := 8, stride := 4, dyn := true },
  { name := "KEY_SA", off := 0x100, n := 8, stride := 4, rw := 0x8003FFFF }]

/-- The TRN registers (R790, 16_keys_authentication.md). -/
def rowsTRN : List RegRow :=
  [
  { name := "TRN_CUT", off := 0x040, rwl := 0x3FF00FF, reset := 0x19A0028, keep := [(0, 8, 2, 255), (16, 10, 257, 512)] },
  { name := "TRN_STAT", off := 0x044, reset := 0x3 },
  { name := "TRN_OUT", off := 0x048, words := 2 },
  { name := "TRN_CNT_RCT", off := 0x050, rc := true },
  { name := "TRN_CNT_APT", off := 0x054, rc := true },
  { name := "TRN_CNT_NOENT", off := 0x058, rc := true },
  { name := "TRN_CNT_RESEED", off := 0x05C, rc := true }]

/-- The CRY registers (R791, 16_keys_authentication.md). -/
def rowsCRY : List RegRow :=
  [
  { name := "CRY_STAT", off := 0x040 },
  { name := "CRY_CNT_OPS", off := 0x044, rc := true },
  { name := "CRY_CNT_AUTHFAIL", off := 0x048, rc := true },
  { name := "CRY_CNT_SIG", off := 0x04C, rc := true },
  { name := "CRY_CNT_ERR", off := 0x050, rc := true }]

/-- The MATE registers (R818, 17_mate_redundancy.md). -/
def rowsMATE : List RegRow :=
  [
  { name := "MATE_CFG", off := 0x040, rwl := 0xFFFF0007, reset := 0xC80006, keep := [(16, 16, 1, 65535)] },
  { name := "MATE_CMD", off := 0x044, wo := true },
  { name := "MATE_STAT", off := 0x048 },
  { name := "MATE_HW", off := 0x04C },
  { name := "MATE_PEER_HW", off := 0x050 },
  { name := "MATE_SWGOOD", off := 0x054, rw := 0xFFFFFF01, cfg := false, reset := 0x3E80000, keep := [(16, 16, 1, 65535)] },
  { name := "MATE_HOLDOFF", off := 0x058, rw := 0xFFFF, reset := 0x258, keep := [(0, 16, 1, 65535)] },
  { name := "MATE_REV", off := 0x05C, rw := 0xFF0FFF, reset := 0x50FFF, keep := [(16, 8, 2, 60)] },
  { name := "MATE_SLV_LIM", off := 0x060, rw := 0xFFFF, reset := 0x1E },
  { name := "MATE_RESID", off := 0x064 },
  { name := "MATE_PEER_SERIAL", off := 0x068, words := 2, rwl := 0xFFFFFFFF },
  { name := "MATE_MQ", off := 0x070, rwl := 0x3FFFF },
  { name := "MATE_MRQ", off := 0x074, rwl := 0x3FFFF },
  { name := "MATE_CNT_MALF", off := 0x078, rc := true },
  { name := "MATE_CNT_MISS", off := 0x07C, rc := true },
  { name := "MATE_CNT_TAKEOVER", off := 0x080, rc := true },
  { name := "MATE_CNT_MGAP", off := 0x084, rc := true },
  { name := "MATE_CNT_HOABORT", off := 0x088, rc := true },
  { name := "MATE_CNT_SHADOW", off := 0x08C, rc := true },
  { name := "MATE_HO_TIME", off := 0x090, words := 3 },
  { name := "MATE_PEER_REC", off := 0x100, n := 64, stride := 4 }]

/-- The FLT registers (R849, 18_faults_events_counters.md). -/
def rowsFLT : List RegRow :=
  [
  { name := "FLT_CFG", off := 0x040, rw := 0x3, reset := 0x2 },
  { name := "FLT_ACT", off := 0x044, rw := 0x7777, reset := 0x2310, keep := [(0, 3, 0, 5), (4, 3, 0, 5), (8, 3, 0, 5), (12, 3, 0, 5)] },
  { name := "FLT_ESC", off := 0x048, rw := 0xFFFFF, reset := 0x2710, keep := [(0, 20, 1, 1000000)] },
  { name := "FLT_LAST", off := 0x04C },
  { name := "FLT_RSTCAUSE", off := 0x050 },
  { name := "FLT_RSTWT", off := 0x054, words := 3 },
  { name := "FLT_JSAVE", off := 0x060, words := 2, rwl := 0xFFFFFFFF, lo := 0xFFFFC001 },
  { name := "FLT_CNT_ESC", off := 0x068, rc := true },
  { name := "FLT_CNT_CRIT", off := 0x06C, rc := true },
  { name := "FLT_RAISED", off := 0x080, n := 12, stride := 4 },
  { name := "FLT_UNACK", off := 0x0C0, n := 12, stride := 4 },
  { name := "FLT_SRC", off := 0x400, n := 384, stride := 4, rw := 0x3F0003, dyn := true }]

/-- The EVT registers (R853, 18_faults_events_counters.md). -/
def rowsEVT : List RegRow :=
  [
  { name := "EVT_SUM", off := 0x040, n := 16, stride := 4 },
  { name := "EVT_HMASK", off := 0x080, n := 16, stride := 4, rw := 0xFFFFFFFF, reset := 0xFFFFFFFF },
  { name := "EVT_CMASK", off := 0x0C0, n := 16, stride := 4, rw := 0xFFFFFFFF, reset := 0xFFFFFFFF },
  { name := "EVT_CC_Q", off := 0x100, rwl := 0x8003FFFF },
  { name := "EVT_CNT_CCLOST", off := 0x104, rc := true },
  { name := "EVT_CNT_MSG", off := 0x108, rc := true }]

/-- The PMU registers (R854, 18_faults_events_counters.md). -/
def rowsPMU : List RegRow :=
  [
  { name := "PMU_CTL", off := 0x040, rw := 0x5, cfg := false },
  { name := "PMU_SEL", off := 0x044, rw := 0x3FF, cfg := false, keep := [(0, 10, 0, 575)] },
  { name := "PMU_OVF_UNIT", off := 0x048 },
  { name := "PMU_W_CFG", off := 0x100, n := 16, stride := 32, rw := 0x80FF3FFF, cfg := false, reset := 0x3F00 },
  { name := "PMU_W", off := 0x104, n := 16, stride := 32, words := 2, rw := 0x8000FFFF, cfg := false },
  { name := "PMU_W_SNAP", off := 0x10C, n := 16, stride := 32, words := 2 },
  { name := "PMU_C_CFG", off := 0x400, n := 64, stride := 32, rw := 0x80FF00FF, cfg := false },
  { name := "PMU_C", off := 0x404, n := 64, stride := 32, words := 2, rw := 0x8000FFFF, cfg := false },
  { name := "PMU_C_SNAP", off := 0x40C, n := 64, stride := 32, words := 2 }]

/-- The SEM registers (R596, 12_facet_engines.md). -/
def rowsSEM : List RegRow :=
  [
  { name := "SEM_N", off := 0x040, n := 256, stride := 4, rw := 0x3, cfg := false },
  { name := "SEM_BAR_SCOPE", off := 0x440, n := 16, stride := 4, rw := 0x3F03, reset := 0x2, keep := [(0, 2, 0, 2)] },
  { name := "SEM_CNT_BROKEN", off := 0x480, rc := true },
  { name := "SEM_CNT_NOTOWNER", off := 0x484, rc := true }]

/-- The MTX registers (R901, 19_platform.md). -/
def rowsMTX : List RegRow :=
  [
  { name := "MTX_TO", off := 0x040, rw := 0xFFFFF, reset := 0xA, keep := [(0, 20, 1, 1000000)] },
  { name := "MTX_CMD", off := 0x044, wo := true },
  { name := "MTX_STAT", off := 0x048 },
  { name := "MTX_ERR", off := 0x04C },
  { name := "MTX_ERR_ADDR", off := 0x050, words := 2 },
  { name := "MTX_CNT_ERR", off := 0x058, rc := true },
  { name := "MTX_CNT_LATE", off := 0x05C, rc := true },
  { name := "MTX_HELD", off := 0x060, words := 2 },
  { name := "MTX_CFGSUM", off := 0x080, words := 8 }]

/-- The DDR registers (R902, 19_platform.md). -/
def rowsDDR : List RegRow :=
  [
  { name := "DDR_CFG", off := 0x040, rwl := 0x11 },
  { name := "DDR_CMD", off := 0x044, wo := true },
  { name := "DDR_STAT", off := 0x048 },
  { name := "DDR_SCRUB", off := 0x04C, rw := 0xFFFFFF, reset := 0x15180 },
  { name := "DDR_RET_TH", off := 0x050, rw := 0xFFFF00FF, reset := 0x180004, keep := [(0, 8, 1, 255)] },
  { name := "DDR_CNT_CE", off := 0x054, rc := true },
  { name := "DDR_CNT_UE", off := 0x058, rc := true },
  { name := "DDR_ERR_ADDR", off := 0x05C, words := 2 },
  { name := "DDR_CELOG", off := 0x064 },
  { name := "DDR_TIMING", off := 0x070, n := 20, stride := 4, rwl := 0xFFFFFFFF, dyn := true },
  { name := "DDR_RET", off := 0x400, n := 256, stride := 4, rw := 0x80FFFFFF }]

/-- The MRM registers (R903, 19_platform.md). -/
def rowsMRM : List RegRow :=
  [
  { name := "MRM_WEAR_TH", off := 0x040, rw := 0xFF, reset := 0x8, keep := [(0, 8, 1, 255)] },
  { name := "MRM_SCRUB", off := 0x044, rw := 0xFFFFFF, reset := 0x15180 },
  { name := "MRM_CMD", off := 0x048, wo := true },
  { name := "MRM_STAT", off := 0x04C },
  { name := "MRM_RO", off := 0x050, n := 4, stride := 4 },
  { name := "MRM_J_DST", off := 0x070, rw := 0xFFFFF8, cfg := false },
  { name := "MRM_J_SRC", off := 0x074, rw := 0x1FFFFF8, cfg := false },
  { name := "MRM_J_LEN", off := 0x078, rw := 0x1FFF, cfg := false },
  { name := "MRM_J_CMD", off := 0x07C, wo := true },
  { name := "MRM_J_STAT", off := 0x080 },
  { name := "MRM_J_BOOT", off := 0x084 },
  { name := "MRM_CNT_CORR", off := 0x088, rc := true },
  { name := "MRM_CNT_UE", off := 0x08C, rc := true },
  { name := "MRM_CNT_ROWR", off := 0x090, rc := true },
  { name := "MRM_WEAR", off := 0x100, n := 32, stride := 4 },
  { name := "MRM_MAP", off := 0x180, n := 32, stride := 4, dyn := true }]

/-- The PCI registers (R904, 19_platform.md). -/
def rowsPCI : List RegRow :=
  [
  { name := "PCI_STAT", off := 0x040 },
  { name := "PCI_CNT_ERR", off := 0x044, rc := true },
  { name := "PCI_CNT_TXDROP", off := 0x048, rc := true },
  { name := "PCI_CR_BASE", off := 0x100, n := 4, stride := 32, words := 2, rwl := 0xFFFFFFFF, lo := 0xFFFFF000 },
  { name := "PCI_CR_CFG", off := 0x108, n := 4, stride := 32, rw := 0x8000000F, reset := 0x4, keep := [(0, 4, 4, 12)] },
  { name := "PCI_CR_TAIL", off := 0x10C, n := 4, stride := 32, rw := 0xFFF, cfg := false },
  { name := "PCI_CR_HEAD", off := 0x110, n := 4, stride := 32 },
  { name := "PCI_CR_STS", off := 0x114, n := 4, stride := 32, words := 2, rwl := 0xFFFFFFFF, lo := 0xFFFFFFE0 },
  { name := "PCI_CR_SEQ", off := 0x11C, n := 4, stride := 32 },
  { name := "PCI_EX_BASE", off := 0x200, n := 4, stride := 32, words := 2, rwl := 0xFFFFFFFF, lo := 0xFFFFF000 },
  { name := "PCI_EX_CFG", off := 0x208, n := 4, stride := 32, rw := 0x8000010F, reset := 0x8, keep := [(0, 4, 4, 14)] },
  { name := "PCI_EX_WR", off := 0x20C, n := 4, stride := 32 },
  { name := "PCI_EX_RD", off := 0x210, n := 4, stride := 32, rw := 0x3FFF, cfg := false },
  { name := "PCI_EX_DROP", off := 0x214, n := 4, stride := 32, rc := true },
  { name := "PCI_TX_BASE", off := 0x300, n := 4, stride := 32, words := 2, rwl := 0xFFFFFFFF, lo := 0xFFFFF000 },
  { name := "PCI_TX_CFG", off := 0x308, n := 4, stride := 32, rw := 0x8000000F, reset := 0x4, keep := [(0, 4, 4, 12)] },
  { name := "PCI_TX_TAIL", off := 0x30C, n := 4, stride := 32, rw := 0xFFF, cfg := false },
  { name := "PCI_TX_HEAD", off := 0x310, n := 4, stride := 32 },
  { name := "PCI_TX_Q", off := 0x314, n := 4, stride := 32, rwl := 0x3FFFF },
  { name := "PCI_TX_FBQ", off := 0x318, n := 4, stride := 32, rwl := 0x3FFFF },
  { name := "PCI_TX_CQ", off := 0x31C, n := 4, stride := 32, rwl := 0x3FFFF }]

/-- The LSP registers (R905, 19_platform.md). -/
def rowsLSP : List RegRow :=
  [
  { name := "QSPI_CFG", off := 0x040, rwl := 0x70F, reset := 0x408, keep := [(0, 4, 2, 8), (8, 2, 0, 2)] },
  { name := "QSPI_CMD", off := 0x044, wo := true },
  { name := "QSPI_ADDR", off := 0x048, rw := 0xFFFFFFFF, cfg := false },
  { name := "QSPI_LEN", off := 0x04C, rw := 0x1FFFF, cfg := false, keep := [(0, 17, 0, 65536)] },
  { name := "QSPI_BUF", off := 0x050, rw := 0x1FFFFF0, cfg := false },
  { name := "QSPI_STAT", off := 0x054 },
  { name := "I2C_CFG", off := 0x100, n := 4, stride := 64, rw := 0x13, keep := [(0, 2, 0, 2)] },
  { name := "I2C_XFER", off := 0x104, n := 4, stride := 64, wo := true },
  { name := "I2C_STAT", off := 0x108, n := 4, stride := 64 },
  { name := "I2C_WDATA", off := 0x110, n := 4, stride := 64, m := 4, stride2 := 4, rw := 0xFFFFFFFF, cfg := false },
  { name := "I2C_RDATA", off := 0x120, n := 4, stride := 64, m := 4, stride2 := 4 },
  { name := "UART_CFG", off := 0x200, n := 4, stride := 32, rwl := 0x9F0FFFFF, reset := 0x87A2, keep := [(0, 20, 4096, 1048575), (24, 2, 0, 1), (26, 2, 0, 2)] },
  { name := "UART_TX", off := 0x204, n := 4, stride := 32, wo := true },
  { name := "UART_RX", off := 0x208, n := 4, stride := 32 },
  { name := "UART_STAT", off := 0x20C, n := 4, stride := 32 },
  { name := "GPIO_OUT", off := 0x300, rw := 0xFFFFFFFF, cfg := false },
  { name := "GPIO_OE", off := 0x304, rw := 0xFFFFFFFF },
  { name := "GPIO_OD", off := 0x308, rw := 0xFFFFFFFF },
  { name := "GPIO_IN", off := 0x30C },
  { name := "GPIO_RISE", off := 0x310, rw := 0xFFFFFFFF },
  { name := "GPIO_FALL", off := 0x314, rw := 0xFFFFFFFF },
  { name := "GPIO_EVT", off := 0x318, w1c := 0xFFFFFFFF },
  { name := "GPIO_FUNC", off := 0x31C, n := 2, stride := 4, rw := 0xFFFFFFFF, keep := [(0, 2, 0, 2), (2, 2, 0, 2), (4, 2, 0, 2), (6, 2, 0, 2), (8, 2, 0, 2), (10, 2, 0, 2), (12, 2, 0, 2), (14, 2, 0, 2), (16, 2, 0, 2), (18, 2, 0, 2), (20, 2, 0, 2), (22, 2, 0, 2), (24, 2, 0, 2), (26, 2, 0, 2), (28, 2, 0, 2), (30, 2, 0, 2)] },
  { name := "INV_CMD", off := 0x400, wo := true },
  { name := "INV_STAT", off := 0x404 },
  { name := "INV_ID", off := 0x410, n := 8, stride := 8, words := 2 }]

/-- The GCH registers (R385, 07_gnss_receiver.md). -/
def rowsGCH : List RegRow :=
  [
  { name := "GCH_CFG", off := 0x040, rw := 0xFFFD30, reset := 0x100 },
  { name := "GCH_TRK", off := 0x044, rw := 0xFFF3F00F, reset := 0x809007 },
  { name := "GCH_LOOP", off := 0x048, rw := 0xFFF77707, reset := 0x51900303, keep := [(28, 4, 1, 15)] },
  { name := "GCH_CMD", off := 0x04C, wo := true },
  { name := "GCH_STAT", off := 0x050 },
  { name := "GCH_AIDCODE", off := 0x054, rw := 0xFFFFFFFF, cfg := false },
  { name := "GCH_AIDDOP", off := 0x058, rw := 0xFFFFFFFF, cfg := false },
  { name := "GCH_AIDRATE", off := 0x05C, rw := 0xFFFFFFFF, cfg := false },
  { name := "GCH_CN0", off := 0x060 },
  { name := "GCH_DOP", off := 0x064 },
  { name := "GCH_CNT_SLIP", off := 0x068, rc := true },
  { name := "GCH_CNT_LOST", off := 0x06C, rc := true }]

/-- The CLU registers (R595, 12_facet_engines.md). -/
def rowsCLU : List RegRow :=
  [
  { name := "CLU_IMEM_SPLIT", off := 0x040, rwl := 0xFF, reset := 0x40, keep := [(0, 8, 0, 128)] },
  { name := "CLU_DMEM_SPLIT", off := 0x044, rwl := 0x3FF, reset := 0x100, keep := [(0, 10, 0, 512)] },
  { name := "CLU_ENTRY", off := 0x048 },
  { name := "CLU_IMG_VER", off := 0x04C },
  { name := "CLU_LOAD", off := 0x050, words := 2, rw := 0xFFFFFFFF, cfg := false },
  { name := "CLU_LOAD_CMD", off := 0x058, wo := true },
  { name := "CLU_LOAD_STAT", off := 0x05C },
  { name := "CLU_UWIN", off := 0x060, n := 4, stride := 8, words := 2, lo := 0xFFFFF0FF, rw := 0x3F, keep := [(0, 6, 12, 38)] },
  { name := "CLU_SMP_CFG", off := 0x080, rw := 0xFF1F03, reset := 0xFF1000, keep := [(8, 5, 4, 24)] },
  { name := "CLU_SMP_STAT", off := 0x084 },
  { name := "CLU_CNT_SMP_LOST", off := 0x088, rc := true },
  { name := "CLU_MEM_CORR", off := 0x08C, rc := true },
  { name := "CLU_SMP_D", off := 0x0A0, n := 8, stride := 4 }]

/-- The QDR registers (R595, 12_facet_engines.md). -/
def rowsQDR : List RegRow :=
  []

/-- The ENG registers (R593, 12_facet_engines.md). -/
def rowsENG : List RegRow :=
  [
  { name := "ENG_CFG", off := 0x040, rw := 0x1 },
  { name := "ENG_VEC", off := 0x044, words := 2, rw := 0xFFFFFFFF, reset := 0x200000 },
  { name := "ENG_SNAP_TAG", off := 0x04C },
  { name := "ENG_SNAP_BT", off := 0x050, words := 3 },
  { name := "ENG_TH_CTL", off := 0x100, n := 4, stride := 64, wo := true },
  { name := "ENG_TH_STAT", off := 0x104, n := 4, stride := 64 },
  { name := "ENG_TH_PC", off := 0x108, n := 4, stride := 64, words := 2, rw := 0xFFFFFFFF, cfg := false },
  { name := "ENG_TH_EPC", off := 0x110, n := 4, stride := 64, words := 2 },
  { name := "ENG_TH_JRNL", off := 0x118, n := 4, stride := 64, rw := 0xFFFFFFFF, cfg := false },
  { name := "ENG_TH_BAR", off := 0x11C, n := 4, stride := 64, rw := 0xFFFF },
  { name := "ENG_TH_BCAST", off := 0x120, n := 4, stride := 64, words := 2 },
  { name := "ENG_TH_TMR", off := 0x128, n := 4, stride := 64, words := 3, rw := 0xFFFFFFFF, cfg := false },
  { name := "ENG_TH_EVCNT", off := 0x134, n := 4, stride := 64 },
  { name := "ENG_TH_DOORBELL", off := 0x138, n := 4, stride := 64, wo := true },
  { name := "ENG_TH_SNAPJ", off := 0x13C, n := 4, stride := 64 }]

/-- The registers of a kind of page after the common header. -/
def rowsOf : PageKind → List RegRow
  | .sys => rowsSYS
  | .lcs => rowsLCS
  | .pwr => rowsPWR
  | .geo => rowsGEO
  | .clk => rowsCLK
  | .bdr => rowsBDR
  | .act => rowsACT
  | .asy => rowsASY
  | .ref => rowsREF
  | .dpl => rowsDPL
  | .syn => rowsSYN
  | .out => rowsOUT
  | .pps => rowsPPS
  | .tdc => rowsTDC
  | .gns => rowsGNS
  | .ant => rowsANT
  | .acq => rowsACQ
  | .nav => rowsNAV
  | .prt => rowsPRT
  | .tsu => rowsTSU
  | .mgmt => rowsMGMT
  | .sch => rowsSCH
  | .pol => rowsPOL
  | .qry => rowsQRY
  | .svc => rowsSVC
  | .key => rowsKEY
  | .trn => rowsTRN
  | .cry => rowsCRY
  | .mate => rowsMATE
  | .flt => rowsFLT
  | .evt => rowsEVT
  | .pmu => rowsPMU
  | .sem => rowsSEM
  | .mtx => rowsMTX
  | .ddr => rowsDDR
  | .mrm => rowsMRM
  | .pci => rowsPCI
  | .lsp => rowsLSP
  | .gch => rowsGCH
  | .clu => rowsCLU
  | .qdr => rowsQDR
  | .eng => rowsENG

end Sys2Proof.Machine

namespace Sys2Proof.Reg

/-- Base address of the SYS page (R965). -/
@[reducible] def SYS : Nat := 0x0000000
@[reducible] def SYS_COMPAT : Nat := 0x00001F0

/-- Base address of the LCS page (R965). -/
@[reducible] def LCS : Nat := 0x0001000
@[reducible] def LCS_STATE : Nat := 0x0001040
@[reducible] def LCS_CMD : Nat := 0x0001044
@[reducible] def LCS_STAT : Nat := 0x0001048
@[reducible] def LCS_SERIAL : Nat := 0x0001050
@[reducible] def LCS_OWNER (k : Nat) : Nat := 0x0001060 + k * 4
@[reducible] def LCS_VENDOR (k : Nat) : Nat := 0x0001080 + k * 4
@[reducible] def LCS_CHAL (k : Nat) : Nat := 0x00010A0 + k * 4
@[reducible] def LCS_TOKEN (k : Nat) : Nat := 0x0001100 + k * 4

/-- Base address of the PWR page (R965). -/
@[reducible] def PWR : Nat := 0x0002000
@[reducible] def PWR_STATE : Nat := 0x0002040
@[reducible] def PWR_CMD : Nat := 0x0002044
@[reducible] def PWR_STAT : Nat := 0x0002048
@[reducible] def PWR_WAKE_EN : Nat := 0x000204C
@[reducible] def PWR_WAKE_SRC : Nat := 0x0002050
@[reducible] def PWR_RSTCAUSE : Nat := 0x0002054
@[reducible] def PWR_BOOT : Nat := 0x0002058
@[reducible] def PWR_AVS : Nat := 0x000205C
@[reducible] def PWR_CNT_QUIESCE : Nat := 0x0002060

/-- Base address of the GEO page (R965). -/
@[reducible] def GEO : Nat := 0x0003000
@[reducible] def GEO_CFG : Nat := 0x0003040
@[reducible] def GEO_STAT : Nat := 0x0003044
@[reducible] def GEO_TIME : Nat := 0x0003048
@[reducible] def GEO_SET : Nat := 0x0003054
@[reducible] def GEO_ALARM : Nat := 0x0003060
@[reducible] def GEO_TRIM : Nat := 0x0003068
@[reducible] def GEO_TCFG : Nat := 0x000306C
@[reducible] def GEO_TTIME : Nat := 0x0003070
@[reducible] def GEO_KCTR : Nat := 0x0003078
@[reducible] def GEO_BTSEC : Nat := 0x000307C
@[reducible] def GEO_BTCAP : Nat := 0x0003080
@[reducible] def GEO_BKP (k : Nat) : Nat := 0x0003100 + k * 4

/-- Base address of the CLK page (R965). -/
@[reducible] def CLK : Nat := 0x0004000

/-- Base address of the BDR page (R965). -/
@[reducible] def BDR : Nat := 0x0010000
@[reducible] def BDR_BT : Nat := 0x0010040
@[reducible] def BDR_WT : Nat := 0x001004C
@[reducible] def BDR_OFS : Nat := 0x0010058
@[reducible] def BDR_RATE : Nat := 0x0010064
@[reducible] def BDR_ANCH : Nat := 0x001006C
@[reducible] def BDR_STEP : Nat := 0x0010078
@[reducible] def BDR_SLEW_DUR : Nat := 0x0010084
@[reducible] def BDR_SLEW_AMT : Nat := 0x0010088
@[reducible] def BDR_SLEW_LEFT : Nat := 0x0010090
@[reducible] def BDR_SLEW_DISC : Nat := 0x0010098
@[reducible] def BDR_CMD : Nat := 0x00100A0
@[reducible] def BDR_TSTAT : Nat := 0x00100A4
@[reducible] def BDR_UTC_OFS : Nat := 0x00100A8
@[reducible] def BDR_HZN : Nat := 0x00100AC
@[reducible] def BDR_CAPBT : Nat := 0x00100C0
@[reducible] def BDR_CAPWT : Nat := 0x00100D0
@[reducible] def BDR_CVT_IN : Nat := 0x00100E0
@[reducible] def BDR_CVT_PT : Nat := 0x00100F0
@[reducible] def BDR_CVT_RES : Nat := 0x00100FC
@[reducible] def BDR_CVT_NT : Nat := 0x0010100

/-- Base address of the ACT page (R965). -/
@[reducible] def ACT : Nat := 0x0011000
@[reducible] def ACT_PBASE : Nat := 0x0011040
@[reducible] def ACT_LATE_TH : Nat := 0x0011044
@[reducible] def ACT_NEXT : Nat := 0x0011048
@[reducible] def ACT_ARMED : Nat := 0x001104C
@[reducible] def ACT_LAST : Nat := 0x0011050
@[reducible] def ACT_CNT_APPLIED : Nat := 0x0011054
@[reducible] def ACT_CNT_NOTAPP : Nat := 0x0011058
@[reducible] def ACT_CNT_LATE : Nat := 0x001105C
@[reducible] def ACT_CNT_REFUSED : Nat := 0x0011060
@[reducible] def ACT_CAPTAG : Nat := 0x0011064
@[reducible] def ACT_CAPBT : Nat := 0x0011068
@[reducible] def ACT_CAPWT : Nat := 0x0011078
@[reducible] def ACT_DISARM : Nat := 0x0011084

/-- Base address of the ASY page (R965). -/
@[reducible] def ASY : Nat := 0x0012000
@[reducible] def ASY_CFG : Nat := 0x0012040
@[reducible] def ASY_K : Nat := 0x0012044
@[reducible] def ASY_CMD : Nat := 0x0012048
@[reducible] def ASY_TSTAT : Nat := 0x001204C
@[reducible] def ASY_REF_D : Nat := 0x0012050
@[reducible] def ASY_REF_S : Nat := 0x0012054
@[reducible] def ASY_MEAS_D : Nat := 0x0012058
@[reducible] def ASY_MEAS_S : Nat := 0x001205C
@[reducible] def ASY_LOOP_D : Nat := 0x0012060
@[reducible] def ASY_LOOP_S : Nat := 0x0012064
@[reducible] def ASY_CAL_D : Nat := 0x0012068
@[reducible] def ASY_CAL_S : Nat := 0x001206C
@[reducible] def ASY_TEMP_D : Nat := 0x0012070
@[reducible] def ASY_TEMP_S : Nat := 0x0012074
@[reducible] def ASY_HO_A : Nat := 0x0012080
@[reducible] def ASY_HO_B : Nat := 0x0012084
@[reducible] def ASY_HO_C : Nat := 0x0012088
@[reducible] def ASY_HO_KT : Nat := 0x001208C
@[reducible] def ASY_HO_TSRC : Nat := 0x0012090
@[reducible] def ASY_TEMP_FW : Nat := 0x0012094
@[reducible] def ASY_TEMP : Nat := 0x0012098
@[reducible] def ASY_HO_TLU : Nat := 0x001209C
@[reducible] def ASY_HO_DTMAX : Nat := 0x00120A0
@[reducible] def ASY_TRC_LIM : Nat := 0x00120A4
@[reducible] def ASY_HO_LIM : Nat := 0x00120A8
@[reducible] def ASY_HO_MAX : Nat := 0x00120AC
@[reducible] def ASY_UPD_TO : Nat := 0x00120B0
@[reducible] def ASY_E : Nat := 0x00120B8
@[reducible] def ASY_EDET : Nat := 0x00120C0
@[reducible] def ASY_ESTO : Nat := 0x00120C8
@[reducible] def ASY_HOLD : Nat := 0x00120CC
@[reducible] def ASY_LU : Nat := 0x00120D8
@[reducible] def ASY_PTLV_ORG : Nat := 0x00120E4
@[reducible] def ASY_PTLV_SUB : Nat := 0x00120E8
@[reducible] def ASY_PTLV_CTRL : Nat := 0x00120EC
@[reducible] def ASY_NEF : Nat := 0x00120F0
@[reducible] def ASY_OSLV : Nat := 0x00120F4
@[reducible] def ASY_REC_CTRL : Nat := 0x00120F8
@[reducible] def ASY_REC_SEQ : Nat := 0x0012100
@[reducible] def ASY_STG_BASE : Nat := 0x0012108
@[reducible] def ASY_STG_HEAD : Nat := 0x001210C
@[reducible] def ASY_STG_DONE : Nat := 0x0012110
@[reducible] def ASY_RING_BASE : Nat := 0x0012114
@[reducible] def ASY_RING_SIZE : Nat := 0x001211C
@[reducible] def ASY_RING_WR : Nat := 0x0012120
@[reducible] def ASY_HRING_BASE : Nat := 0x0012124
@[reducible] def ASY_HRING_SIZE : Nat := 0x001212C
@[reducible] def ASY_HRING_WR : Nat := 0x0012130
@[reducible] def ASY_HRING_RD : Nat := 0x0012134
@[reducible] def ASY_CNT_EVAL : Nat := 0x0012138
@[reducible] def ASY_CNT_REC : Nat := 0x001213C
@[reducible] def ASY_CNT_DROP : Nat := 0x0012140
@[reducible] def ASY_CNT_HDROP : Nat := 0x0012144
@[reducible] def ASY_CNT_OVW : Nat := 0x0012148
@[reducible] def ASY_CNT_PURGE : Nat := 0x001214C
@[reducible] def ASY_PORT_D (k : Nat) : Nat := 0x0012180 + k * 8
@[reducible] def ASY_PORT_S (k : Nat) : Nat := 0x0012184 + k * 8

/-- Base address of the REF page (R965). -/
@[reducible] def REF : Nat := 0x0030000
@[reducible] def REF_GCFG : Nat := 0x0030040
@[reducible] def REF_STSUM (k : Nat) : Nat := 0x0030048 + k * 4
@[reducible] def REF_QP : Nat := 0x0030054
@[reducible] def REF_TOD_CFG (k : Nat) : Nat := 0x0030060 + k * 4
@[reducible] def REF_TOD_ERR (k : Nat) : Nat := 0x0030070 + k * 4
@[reducible] def REF_LOOP_SEL (k : Nat) : Nat := 0x0030080 + k * 16
@[reducible] def REF_LOOP_PRIO_A (k : Nat) : Nat := 0x0030084 + k * 16
@[reducible] def REF_LOOP_PRIO_B (k : Nat) : Nat := 0x0030088 + k * 16
@[reducible] def REF_LOOP_CUR (k : Nat) : Nat := 0x003008C + k * 16
@[reducible] def REF_TOD_LAST (k : Nat) : Nat := 0x0030100 + k * 16
@[reducible] def REF_CNT_FALLBACK : Nat := 0x0030140
@[reducible] def REF_CNT_DISQ : Nat := 0x0030144
@[reducible] def REF_CNT_SELREJ : Nat := 0x0030148
@[reducible] def REF_CNT_INCONS : Nat := 0x003014C
@[reducible] def REF_ENT_CFG (k : Nat) : Nat := 0x0030200 + k * 32
@[reducible] def REF_ENT_NOM (k : Nat) : Nat := 0x0030204 + k * 32
@[reducible] def REF_ENT_MON (k : Nat) : Nat := 0x0030208 + k * 32
@[reducible] def REF_ENT_FLIM (k : Nat) : Nat := 0x003020C + k * 32
@[reducible] def REF_ENT_QTH (k : Nat) : Nat := 0x0030210 + k * 32
@[reducible] def REF_ENT_STAT (k : Nat) : Nat := 0x0030214 + k * 32
@[reducible] def REF_ENT_QWORD (k : Nat) : Nat := 0x0030218 + k * 32
@[reducible] def REF_ENT_FOFS (k : Nat) : Nat := 0x003021C + k * 32

/-- Base address of the DPL page i (R965). -/
@[reducible] def DPL (i : Nat) : Nat := 0x0031000 + i * 0x1000
@[reducible] def DPL_CFG (i : Nat) : Nat := 0x0031040 + i * 0x1000
@[reducible] def DPL_BW (i : Nat) : Nat := 0x0031044 + i * 0x1000
@[reducible] def DPL_PSL (i : Nat) : Nat := 0x0031048 + i * 0x1000
@[reducible] def DPL_LOCK (i : Nat) : Nat := 0x003104C + i * 0x1000
@[reducible] def DPL_LOCKT (i : Nat) : Nat := 0x0031050 + i * 0x1000
@[reducible] def DPL_HO (i : Nat) : Nat := 0x0031054 + i * 0x1000
@[reducible] def DPL_CMD (i : Nat) : Nat := 0x0031058 + i * 0x1000
@[reducible] def DPL_STAT (i : Nat) : Nat := 0x003105C + i * 0x1000
@[reducible] def DPL_FOUT (i : Nat) : Nat := 0x0031060 + i * 0x1000
@[reducible] def DPL_TERR (i : Nat) : Nat := 0x0031068 + i * 0x1000
@[reducible] def DPL_RPTBT (i : Nat) : Nat := 0x0031070 + i * 0x1000
@[reducible] def DPL_HOFREQ (i : Nat) : Nat := 0x0031080 + i * 0x1000
@[reducible] def DPL_HODRIFT (i : Nat) : Nat := 0x0031088 + i * 0x1000
@[reducible] def DPL_FRFREQ (i : Nat) : Nat := 0x0031090 + i * 0x1000
@[reducible] def DPL_HIST_CFG (i : Nat) : Nat := 0x0031098 + i * 0x1000
@[reducible] def DPL_HIST_BASE (i : Nat) : Nat := 0x003109C + i * 0x1000
@[reducible] def DPL_HIST_ID (i : Nat) : Nat := 0x00310A0 + i * 0x1000
@[reducible] def DPL_HIST_WR (i : Nat) : Nat := 0x00310A8 + i * 0x1000
@[reducible] def DPL_CNT_UNLOCK (i : Nat) : Nat := 0x00310AC + i * 0x1000
@[reducible] def DPL_CNT_LIMIT (i : Nat) : Nat := 0x00310B0 + i * 0x1000
@[reducible] def DPL_CNT_DISC (i : Nat) : Nat := 0x00310B4 + i * 0x1000
@[reducible] def DPL_EFC_CTR (i : Nat) : Nat := 0x00310C0 + i * 0x1000
@[reducible] def DPL_EFC_MIN (i : Nat) : Nat := 0x00310C4 + i * 0x1000
@[reducible] def DPL_EFC_MAX (i : Nat) : Nat := 0x00310C8 + i * 0x1000
@[reducible] def DPL_EFC_GAIN (i : Nat) : Nat := 0x00310CC + i * 0x1000
@[reducible] def DPL_EFC_CODE (i : Nat) : Nat := 0x00310D0 + i * 0x1000
@[reducible] def DPL_TPL_CFG (i : Nat) : Nat := 0x00310D4 + i * 0x1000
@[reducible] def DPL_TPL_MUL (i : Nat) : Nat := 0x00310D8 + i * 0x1000
@[reducible] def DPL_TPL_VAL (i : Nat) : Nat := 0x00310DC + i * 0x1000
@[reducible] def DPL_TPL_MIN (i : Nat) : Nat := 0x00310E0 + i * 0x1000
@[reducible] def DPL_TPL_DATA (i k : Nat) : Nat := 0x0031100 + i * 0x1000 + k * 4

/-- Base address of the SYN page i (R965). -/
@[reducible] def SYN (i : Nat) : Nat := 0x0039000 + i * 0x1000
@[reducible] def SYN_CFG (i : Nat) : Nat := 0x0039040 + i * 0x1000
@[reducible] def SYN_NUM (i : Nat) : Nat := 0x0039044 + i * 0x1000
@[reducible] def SYN_CMD (i : Nat) : Nat := 0x003904C + i * 0x1000
@[reducible] def SYN_STAT (i : Nat) : Nat := 0x0039050 + i * 0x1000
@[reducible] def SYN_BMEAS (i : Nat) : Nat := 0x0039054 + i * 0x1000
@[reducible] def SYN_TRIM (i : Nat) : Nat := 0x0039058 + i * 0x1000
@[reducible] def SYN_FAPP (i : Nat) : Nat := 0x0039060 + i * 0x1000
@[reducible] def SYN_CNT_LOL (i : Nat) : Nat := 0x0039068 + i * 0x1000
@[reducible] def SYN_CNT_CLAMP (i : Nat) : Nat := 0x003906C + i * 0x1000
@[reducible] def SYN_BAND (i k : Nat) : Nat := 0x0039100 + i * 0x1000 + k * 4

/-- Base address of the OUT page (R965). -/
@[reducible] def OUT : Nat := 0x003D000
@[reducible] def OUT_PTXSEL : Nat := 0x003D040
@[reducible] def OUT_CMD : Nat := 0x003D044
@[reducible] def OUT_STAT : Nat := 0x003D048
@[reducible] def OUT_CFG (k : Nat) : Nat := 0x003D100 + k * 32
@[reducible] def OUT_DIV (k : Nat) : Nat := 0x003D104 + k * 32
@[reducible] def OUT_CDLY (k : Nat) : Nat := 0x003D108 + k * 32
@[reducible] def OUT_FDLY (k : Nat) : Nat := 0x003D10C + k * 32
@[reducible] def OUT_DLY_FCAL (k : Nat) : Nat := 0x003D110 + k * 32
@[reducible] def OUT_DLY_UCAL (k : Nat) : Nat := 0x003D114 + k * 32
@[reducible] def OUT_DLY_ECAL (k : Nat) : Nat := 0x003D118 + k * 32
@[reducible] def OUT_STATN (k : Nat) : Nat := 0x003D11C + k * 32

/-- Base address of the PPS page (R965). -/
@[reducible] def PPS : Nat := 0x003E000
@[reducible] def PPS_CMD : Nat := 0x003E040
@[reducible] def PPS_CNT_SKIP : Nat := 0x003E044
@[reducible] def PPS_CFG (k : Nat) : Nat := 0x003E100 + k * 64
@[reducible] def PPS_WIDTH (k : Nat) : Nat := 0x003E104 + k * 64
@[reducible] def PPS_OFS (k : Nat) : Nat := 0x003E108 + k * 64
@[reducible] def PPS_MTH (k : Nat) : Nat := 0x003E10C + k * 64
@[reducible] def PPS_DLT (k : Nat) : Nat := 0x003E110 + k * 64
@[reducible] def PPS_DLY_FCAL (k : Nat) : Nat := 0x003E118 + k * 64
@[reducible] def PPS_DLY_UCAL (k : Nat) : Nat := 0x003E11C + k * 64
@[reducible] def PPS_DLY_ECAL (k : Nat) : Nat := 0x003E120 + k * 64
@[reducible] def PPS_STAT (k : Nat) : Nat := 0x003E124 + k * 64

/-- Base address of the TDC page (R965). -/
@[reducible] def TDC : Nat := 0x003F000
@[reducible] def TDC_GCFG : Nat := 0x003F040
@[reducible] def TDC_GATE_CFG : Nat := 0x003F044
@[reducible] def TDC_ARM : Nat := 0x003F048
@[reducible] def TDC_CAL_CMD : Nat := 0x003F04C
@[reducible] def TDC_GSTAT : Nat := 0x003F050
@[reducible] def TDC_CNT_OVF : Nat := 0x003F054
@[reducible] def TDC_CNT_DEAD : Nat := 0x003F058
@[reducible] def TDC_CAL_RES (k : Nat) : Nat := 0x003F060 + k * 4
@[reducible] def TDC_CH_CFG (k : Nat) : Nat := 0x003F100 + k * 32
@[reducible] def TDC_CH_RES_LO (k : Nat) : Nat := 0x003F104 + k * 32
@[reducible] def TDC_CH_RES_MID (k : Nat) : Nat := 0x003F108 + k * 32
@[reducible] def TDC_CH_RES_HI (k : Nat) : Nat := 0x003F10C + k * 32
@[reducible] def TDC_CH_RES_CNT (k : Nat) : Nat := 0x003F110 + k * 32
@[reducible] def TDC_CH_RES_FLG (k : Nat) : Nat := 0x003F114 + k * 32
@[reducible] def TDC_CH_ARMN (k : Nat) : Nat := 0x003F118 + k * 32
@[reducible] def TDC_CH_STAT (k : Nat) : Nat := 0x003F11C + k * 32
@[reducible] def TDC_CH_SKEW_FCAL (k : Nat) : Nat := 0x003F500 + k * 16
@[reducible] def TDC_CH_SKEW_UCAL (k : Nat) : Nat := 0x003F504 + k * 16
@[reducible] def TDC_CH_SKEW_ECAL (k : Nat) : Nat := 0x003F508 + k * 16
@[reducible] def TDC_CH_CBL_UCAL (k : Nat) : Nat := 0x003F50C + k * 16
@[reducible] def TDC_CH_INL_FCAL (k j : Nat) : Nat := 0x003F700 + k * 48 + j * 4
@[reducible] def TDC_CH_INL_UCAL (k j : Nat) : Nat := 0x003F710 + k * 48 + j * 4
@[reducible] def TDC_CH_INL_ECAL (k j : Nat) : Nat := 0x003F720 + k * 48 + j * 4

/-- Base address of the GNS page (R965). -/
@[reducible] def GNS : Nat := 0x0040000
@[reducible] def GNS_SIF_CFG : Nat := 0x0040040
@[reducible] def GNS_SIF_LAT_A : Nat := 0x0040044
@[reducible] def GNS_SIF_LAT_B : Nat := 0x0040048
@[reducible] def GNS_SIF_CMD : Nat := 0x004004C
@[reducible] def GNS_SIF_STAT : Nat := 0x0040050
@[reducible] def GNS_IF_U : Nat := 0x0040054
@[reducible] def GNS_IF_L : Nat := 0x0040058
@[reducible] def GNS_MCFG : Nat := 0x004005C
@[reducible] def GNS_BURST : Nat := 0x0040060
@[reducible] def GNS_AID_CLK : Nat := 0x0040064
@[reducible] def GNS_ACQ_DEF : Nat := 0x004006C
@[reducible] def GNS_ACQ_THR : Nat := 0x0040070
@[reducible] def GNS_APWR : Nat := 0x0040074
@[reducible] def GNS_MRING_BASE : Nat := 0x0040078
@[reducible] def GNS_MRING_WR : Nat := 0x004007C
@[reducible] def GNS_MRING_RD : Nat := 0x0040080
@[reducible] def GNS_CNT_MDROP : Nat := 0x0040084
@[reducible] def GNS_CNT_CLIP (k : Nat) : Nat := 0x0040088 + k * 4
@[reducible] def GNS_ACT (k : Nat) : Nat := 0x00400C0 + k * 4
@[reducible] def GNS_EVSUM (k : Nat) : Nat := 0x00400E0 + k * 4

/-- Base address of the ANT page (R965). -/
@[reducible] def ANT : Nat := 0x0041000
@[reducible] def ANT_SET (k : Nat) : Nat := 0x0041040 + k * 4
@[reducible] def ANT_SOLB : Nat := 0x0041048
@[reducible] def ANT_SOLX : Nat := 0x0041058
@[reducible] def ANT_SOL_CTL : Nat := 0x0041064
@[reducible] def ANT_INTEG : Nat := 0x0041068
@[reducible] def ANT_ISTAT : Nat := 0x004106C
@[reducible] def ANT_JCFG : Nat := 0x0041070
@[reducible] def ANT_JLIM : Nat := 0x0041074
@[reducible] def ANT_SCFG : Nat := 0x0041078
@[reducible] def ANT_PPS_CFG : Nat := 0x004107C
@[reducible] def ANT_PPS_BT : Nat := 0x0041080
@[reducible] def ANT_PPS_SEC : Nat := 0x0041090
@[reducible] def ANT_PPS_META : Nat := 0x0041098
@[reducible] def ANT_PPS_STAT : Nat := 0x004109C
@[reducible] def ANT_QERR : Nat := 0x00410A0
@[reducible] def ANT_PPS_EDGE : Nat := 0x00410A4
@[reducible] def ANT_PPS_SEQ : Nat := 0x00410B0
@[reducible] def ANT_CNT_SPOOF : Nat := 0x00410B4
@[reducible] def ANT_CNT_INSUF : Nat := 0x00410B8
@[reducible] def ANT_CNT_SOLREJ : Nat := 0x00410BC
@[reducible] def ANT_CBL_UCAL (k : Nat) : Nat := 0x00410C0 + k * 4
@[reducible] def ANT_AGC (k : Nat) : Nat := 0x00410E0 + k * 4
@[reducible] def ANT_JAM (k : Nat) : Nat := 0x0041100 + k * 4
@[reducible] def ANT_PEAK (k : Nat) : Nat := 0x0041120 + k * 4
@[reducible] def ANT_NOTCH (k j : Nat) : Nat := 0x0041180 + k * 16 + j * 4
@[reducible] def ANT_SV_A (k : Nat) : Nat := 0x0041200 + k * 8
@[reducible] def ANT_SV_B (k : Nat) : Nat := 0x0041204 + k * 8
@[reducible] def ANT_SCORE0 (k : Nat) : Nat := 0x0041400 + k * 4
@[reducible] def ANT_BL_EN (k : Nat) : Nat := 0x0041440 + k * 8
@[reducible] def ANT_BL_U (k : Nat) : Nat := 0x0041444 + k * 8
@[reducible] def ANT_SCORE1 (k : Nat) : Nat := 0x0041460 + k * 4

/-- Base address of the ACQ page (R965). -/
@[reducible] def ACQ : Nat := 0x0042000
@[reducible] def ACQ_RQ_BASE : Nat := 0x0042040
@[reducible] def ACQ_RQ_TAIL : Nat := 0x0042044
@[reducible] def ACQ_RQ_HEAD : Nat := 0x0042048
@[reducible] def ACQ_RS_BASE : Nat := 0x004204C
@[reducible] def ACQ_RS_WR : Nat := 0x0042050
@[reducible] def ACQ_RS_RD : Nat := 0x0042054
@[reducible] def ACQ_CMD : Nat := 0x0042058
@[reducible] def ACQ_STAT : Nat := 0x004205C
@[reducible] def ACQ_CNT_DONE : Nat := 0x0042060
@[reducible] def ACQ_CNT_FOUND : Nat := 0x0042064
@[reducible] def ACQ_CNT_HOMISS : Nat := 0x0042068
@[reducible] def ACQ_CNT_RDROP : Nat := 0x004206C

/-- Base address of the NAV page (R965). -/
@[reducible] def NAV : Nat := 0x0060000
@[reducible] def NAV_CFG : Nat := 0x0060040
@[reducible] def NAV_RING_BASE : Nat := 0x0060044
@[reducible] def NAV_RING_WR : Nat := 0x0060048
@[reducible] def NAV_RING_RD : Nat := 0x006004C
@[reducible] def NAV_CNT_PASS : Nat := 0x0060050
@[reducible] def NAV_CNT_FAIL : Nat := 0x0060054
@[reducible] def NAV_CNT_DROP : Nat := 0x0060058

/-- Base address of the PRT page i (R965). -/
@[reducible] def PRT (i : Nat) : Nat := 0x0080000 + i * 0x1000
@[reducible] def PRT_GMODE (i : Nat) : Nat := 0x0080040 + i * 0x1000
@[reducible] def PRT_CFG (i : Nat) : Nat := 0x0080044 + i * 0x1000
@[reducible] def PRT_MODE (i : Nat) : Nat := 0x0080048 + i * 0x1000
@[reducible] def PRT_MAXLEN (i : Nat) : Nat := 0x008004C + i * 0x1000
@[reducible] def PRT_MAC (i : Nat) : Nat := 0x0080050 + i * 0x1000
@[reducible] def PRT_FC_WM (i : Nat) : Nat := 0x0080058 + i * 0x1000
@[reducible] def PRT_FC_CFG (i : Nat) : Nat := 0x008005C + i * 0x1000
@[reducible] def PRT_LINK (i : Nat) : Nat := 0x0080060 + i * 0x1000
@[reducible] def PRT_LANE_CFG (i : Nat) : Nat := 0x0080064 + i * 0x1000
@[reducible] def PRT_ESMC_CFG (i : Nat) : Nat := 0x0080068 + i * 0x1000
@[reducible] def PRT_ESMC_TX (i : Nat) : Nat := 0x008006C + i * 0x1000
@[reducible] def PRT_ESMC_CNT (i : Nat) : Nat := 0x0080070 + i * 0x1000
@[reducible] def PRT_ESMC_ID (i : Nat) : Nat := 0x0080074 + i * 0x1000
@[reducible] def PRT_ESMC_RX (i : Nat) : Nat := 0x008007C + i * 0x1000
@[reducible] def PRT_WAKE_CFG (i : Nat) : Nat := 0x0080080 + i * 0x1000
@[reducible] def PRT_WAKE_STAT (i : Nat) : Nat := 0x0080084 + i * 0x1000
@[reducible] def PRT_WAKE_CRC (i k : Nat) : Nat := 0x0080088 + i * 0x1000 + k * 4
@[reducible] def PRT_STATS (i k : Nat) : Nat := 0x0080100 + i * 0x1000 + k * 8
@[reducible] def PRT_WAKE_MASK (i k j : Nat) : Nat := 0x0080400 + i * 0x1000 + k * 128 + j * 4

/-- Base address of the TSU page i (R965). -/
@[reducible] def TSU (i : Nat) : Nat := 0x0090000 + i * 0x1000
@[reducible] def TSU_CFG (i : Nat) : Nat := 0x0090040 + i * 0x1000
@[reducible] def TSU_LEAD (i : Nat) : Nat := 0x0090044 + i * 0x1000
@[reducible] def TSU_SUBMIT (i : Nat) : Nat := 0x0090048 + i * 0x1000
@[reducible] def TSU_STAT (i : Nat) : Nat := 0x009004C + i * 0x1000
@[reducible] def TSU_RQ_W (i k : Nat) : Nat := 0x0090050 + i * 0x1000 + k * 4
@[reducible] def TSU_GR_W (i k : Nat) : Nat := 0x0090068 + i * 0x1000 + k * 4
@[reducible] def TSU_CANCEL (i : Nat) : Nat := 0x0090084 + i * 0x1000
@[reducible] def TSU_CNT_GRANT (i : Nat) : Nat := 0x0090090 + i * 0x1000
@[reducible] def TSU_CNT_REFUSE (i : Nat) : Nat := 0x0090094 + i * 0x1000
@[reducible] def TSU_CNT_SENT (i : Nat) : Nat := 0x0090098 + i * 0x1000
@[reducible] def TSU_CNT_MISS (i : Nat) : Nat := 0x009009C + i * 0x1000
@[reducible] def TSU_CNT_CDROP (i : Nat) : Nat := 0x00900A0 + i * 0x1000
@[reducible] def TSU_CNT_TXTS (i : Nat) : Nat := 0x00900A4 + i * 0x1000
@[reducible] def TSU_CNT_BADSUB (i : Nat) : Nat := 0x00900A8 + i * 0x1000
@[reducible] def TSU_CNT_MISSC (i k : Nat) : Nat := 0x00900C4 + i * 0x1000 + k * 4
@[reducible] def TSU_TXDLY_FCAL (i k : Nat) : Nat := 0x0090100 + i * 0x1000 + k * 64
@[reducible] def TSU_TXDLY_UCAL (i k : Nat) : Nat := 0x0090104 + i * 0x1000 + k * 64
@[reducible] def TSU_TXDLY_ECAL (i k : Nat) : Nat := 0x0090108 + i * 0x1000 + k * 64
@[reducible] def TSU_RXDLY_FCAL (i k : Nat) : Nat := 0x009010C + i * 0x1000 + k * 64
@[reducible] def TSU_RXDLY_UCAL (i k : Nat) : Nat := 0x0090110 + i * 0x1000 + k * 64
@[reducible] def TSU_RXDLY_ECAL (i k : Nat) : Nat := 0x0090114 + i * 0x1000 + k * 64
@[reducible] def TSU_ASYM_UCAL (i k : Nat) : Nat := 0x0090118 + i * 0x1000 + k * 64
@[reducible] def TSU_CAP_CFG (i k : Nat) : Nat := 0x009011C + i * 0x1000 + k * 64
@[reducible] def TSU_TXCAP (i k : Nat) : Nat := 0x0090120 + i * 0x1000 + k * 64
@[reducible] def TSU_RXCAP (i k : Nat) : Nat := 0x0090130 + i * 0x1000 + k * 64
@[reducible] def TSU_TCO_FCAL (i k : Nat) : Nat := 0x0090200 + i * 0x1000 + k * 16
@[reducible] def TSU_TCO_UCAL (i k : Nat) : Nat := 0x0090204 + i * 0x1000 + k * 16
@[reducible] def TSU_TCO_ECAL (i k : Nat) : Nat := 0x0090208 + i * 0x1000 + k * 16

/-- Base address of the MGMT page (R965). -/
@[reducible] def MGMT : Nat := 0x0098000
@[reducible] def MGMT_CFG : Nat := 0x0098040
@[reducible] def MGMT_STAT : Nat := 0x0098044
@[reducible] def MGMT_MAXLEN : Nat := 0x0098048
@[reducible] def MGMT_MAC : Nat := 0x009804C
@[reducible] def MGMT_STATS (k : Nat) : Nat := 0x0098100 + k * 8

/-- Base address of the SCH page (R965). -/
@[reducible] def SCH : Nat := 0x00A0000
@[reducible] def SCH_CTL : Nat := 0x00A0040
@[reducible] def SCH_REFILL : Nat := 0x00A0044
@[reducible] def SCH_STAT : Nat := 0x00A0048
@[reducible] def SCH_CNT_BADDESC : Nat := 0x00A004C
@[reducible] def SCH_CNT_FREELOST : Nat := 0x00A0050
@[reducible] def SCH_TXWIN (k : Nat) : Nat := 0x00A0060 + k * 8
@[reducible] def SCH_TXQ (k j : Nat) : Nat := 0x00A0700 + k * 128 + j * 16
@[reducible] def SCH_RATE (k j : Nat) : Nat := 0x00A0704 + k * 128 + j * 16
@[reducible] def SCH_BURST (k j : Nat) : Nat := 0x00A0708 + k * 128 + j * 16
@[reducible] def SCH_WGT (k j : Nat) : Nat := 0x00A070C + k * 128 + j * 16

/-- Base address of the POL page (R965). -/
@[reducible] def POL : Nat := 0x00A1000
@[reducible] def POL_FBQ : Nat := 0x00A1040
@[reducible] def POL_FBSZ : Nat := 0x00A1044
@[reducible] def POL_CMD_BASE : Nat := 0x00A1048
@[reducible] def POL_CMD_Q : Nat := 0x00A104C
@[reducible] def POL_CMD_RING : Nat := 0x00A1050
@[reducible] def POL_CMD_REL : Nat := 0x00A1054
@[reducible] def POL_CMD_USE : Nat := 0x00A1058
@[reducible] def POL_CNT_CMD : Nat := 0x00A1060
@[reducible] def POL_CNT_CMDDROP : Nat := 0x00A1064
@[reducible] def POL_CNT_NOBUF : Nat := 0x00A1068
@[reducible] def POL_CNT_TOOLONG : Nat := 0x00A106C
@[reducible] def POL_CNT_RXQFULL : Nat := 0x00A1070
@[reducible] def POL_CMD_MATCH (k : Nat) : Nat := 0x00A1080 + k * 8
@[reducible] def POL_CMD_ARG (k : Nat) : Nat := 0x00A1084 + k * 8
@[reducible] def POL_RATE (k j : Nat) : Nat := 0x00A1100 + k * 128 + j * 16
@[reducible] def POL_BURST (k j : Nat) : Nat := 0x00A1104 + k * 128 + j * 16
@[reducible] def POL_CNT (k j : Nat) : Nat := 0x00A1108 + k * 128 + j * 16

/-- Base address of the QRY page (R965). -/
@[reducible] def QRY : Nat := 0x00A2000
@[reducible] def QRY_TBL : Nat := 0x00A2040
@[reducible] def QRY_TBL_CFG : Nat := 0x00A2048
@[reducible] def QRY_CMD : Nat := 0x00A204C
@[reducible] def QRY_STAT : Nat := 0x00A2050
@[reducible] def QRY_CLS_CFG : Nat := 0x00A2054
@[reducible] def QRY_EXC_MAP : Nat := 0x00A2058
@[reducible] def QRY_EXC_RATE (k : Nat) : Nat := 0x00A2060 + k * 4
@[reducible] def QRY_RXQ (k : Nat) : Nat := 0x00A2070 + k * 4
@[reducible] def QRY_CNT_HIT : Nat := 0x00A2080
@[reducible] def QRY_CNT_MISS : Nat := 0x00A2084
@[reducible] def QRY_CNT_WB : Nat := 0x00A2088
@[reducible] def QRY_CNT_ECC : Nat := 0x00A208C
@[reducible] def QRY_CNT_NOTME : Nat := 0x00A2090
@[reducible] def QRY_CNT_MALF : Nat := 0x00A2094
@[reducible] def QRY_CNT_EXCDROP : Nat := 0x00A2098
@[reducible] def QRY_CNT_OFF : Nat := 0x00A209C
@[reducible] def QRY_SVC_ADDR (k j : Nat) : Nat := 0x00A2200 + k * 32 + j * 4
@[reducible] def QRY_SVC_CTL (k : Nat) : Nat := 0x00A2210 + k * 32

/-- Base address of the SVC page (R965). -/
@[reducible] def SVC : Nat := 0x00A3000
@[reducible] def QRY_CLKID : Nat := 0x00A3040
@[reducible] def QRY_SESS_CFG : Nat := 0x00A3048
@[reducible] def QRY_SESS_BASE : Nat := 0x00A304C
@[reducible] def QRY_NTP_CFG : Nat := 0x00A3054
@[reducible] def QRY_NTP_REFID : Nat := 0x00A3058
@[reducible] def QRY_NTS_CFG : Nat := 0x00A305C
@[reducible] def QRY_VLOG_BASE : Nat := 0x00A3060
@[reducible] def QRY_VLOG_MAX : Nat := 0x00A3064
@[reducible] def QRY_STATS_BASE : Nat := 0x00A3068
@[reducible] def QRY_GRPBUD (k : Nat) : Nat := 0x00A3070 + k * 4
@[reducible] def QRY_POL_RATE (k : Nat) : Nat := 0x00A3080 + k * 8
@[reducible] def QRY_POL_BURST (k : Nat) : Nat := 0x00A3084 + k * 8
@[reducible] def QRY_PFX_ADDR (k j : Nat) : Nat := 0x00A30C0 + k * 32 + j * 4
@[reducible] def QRY_PFX_CTL (k : Nat) : Nat := 0x00A30D0 + k * 32
@[reducible] def QRY_PTP_CFG (k : Nat) : Nat := 0x00A3300 + k * 32
@[reducible] def QRY_PTP_LOG (k : Nat) : Nat := 0x00A3304 + k * 32
@[reducible] def QRY_PTP_DS (k : Nat) : Nat := 0x00A3308 + k * 32
@[reducible] def QRY_PTP_HOSPEC (k : Nat) : Nat := 0x00A330C + k * 32
@[reducible] def QRY_PTP_NEG (k : Nat) : Nat := 0x00A3310 + k * 32
@[reducible] def QRY_PTP_AUTH (k : Nat) : Nat := 0x00A3314 + k * 32
@[reducible] def QRY_UP_ADDR (k j : Nat) : Nat := 0x00A3400 + k * 32 + j * 4
@[reducible] def QRY_UP_CFG (k : Nat) : Nat := 0x00A3410 + k * 32
@[reducible] def QRY_UP_NH (k : Nat) : Nat := 0x00A3414 + k * 32

/-- Base address of the KEY page (R965). -/
@[reducible] def KEY : Nat := 0x00B0000
@[reducible] def KEY_ENV : Nat := 0x00B0040
@[reducible] def KEY_CMD : Nat := 0x00B0044
@[reducible] def KEY_STAT : Nat := 0x00B0048
@[reducible] def KEY_GEN : Nat := 0x00B004C
@[reducible] def KEY_CTR : Nat := 0x00B0050
@[reducible] def KEY_CTR_GEO : Nat := 0x00B0054
@[reducible] def KEY_STG_CTR : Nat := 0x00B0058
@[reducible] def KEY_CSW : Nat := 0x00B005C
@[reducible] def KEY_CNT_REJ : Nat := 0x00B0060
@[reducible] def KEY_CNT_HIT : Nat := 0x00B0064
@[reducible] def KEY_CNT_MISS : Nat := 0x00B0068
@[reducible] def KEY_IDPUB (k : Nat) : Nat := 0x00B0080 + k * 4
@[reducible] def KEY_XPUB (k : Nat) : Nat := 0x00B00A0 + k * 4
@[reducible] def KEY_SA (k : Nat) : Nat := 0x00B0100 + k * 4

/-- Base address of the TRN page (R965). -/
@[reducible] def TRN : Nat := 0x00B1000
@[reducible] def TRN_CUT : Nat := 0x00B1040
@[reducible] def TRN_STAT : Nat := 0x00B1044
@[reducible] def TRN_OUT : Nat := 0x00B1048
@[reducible] def TRN_CNT_RCT : Nat := 0x00B1050
@[reducible] def TRN_CNT_APT : Nat := 0x00B1054
@[reducible] def TRN_CNT_NOENT : Nat := 0x00B1058
@[reducible] def TRN_CNT_RESEED : Nat := 0x00B105C

/-- Base address of the CRY page (R965). -/
@[reducible] def CRY : Nat := 0x00B2000
@[reducible] def CRY_STAT : Nat := 0x00B2040
@[reducible] def CRY_CNT_OPS : Nat := 0x00B2044
@[reducible] def CRY_CNT_AUTHFAIL : Nat := 0x00B2048
@[reducible] def CRY_CNT_SIG : Nat := 0x00B204C
@[reducible] def CRY_CNT_ERR : Nat := 0x00B2050

/-- Base address of the MATE page (R965). -/
@[reducible] def MATE : Nat := 0x00C0000
@[reducible] def MATE_CFG : Nat := 0x00C0040
@[reducible] def MATE_CMD : Nat := 0x00C0044
@[reducible] def MATE_STAT : Nat := 0x00C0048
@[reducible] def MATE_HW : Nat := 0x00C004C
@[reducible] def MATE_PEER_HW : Nat := 0x00C0050
@[reducible] def MATE_SWGOOD : Nat := 0x00C0054
@[reducible] def MATE_HOLDOFF : Nat := 0x00C0058
@[reducible] def MATE_REV : Nat := 0x00C005C
@[reducible] def MATE_SLV_LIM : Nat := 0x00C0060
@[reducible] def MATE_RESID : Nat := 0x00C0064
@[reducible] def MATE_PEER_SERIAL : Nat := 0x00C0068
@[reducible] def MATE_MQ : Nat := 0x00C0070
@[reducible] def MATE_MRQ : Nat := 0x00C0074
@[reducible] def MATE_CNT_MALF : Nat := 0x00C0078
@[reducible] def MATE_CNT_MISS : Nat := 0x00C007C
@[reducible] def MATE_CNT_TAKEOVER : Nat := 0x00C0080
@[reducible] def MATE_CNT_MGAP : Nat := 0x00C0084
@[reducible] def MATE_CNT_HOABORT : Nat := 0x00C0088
@[reducible] def MATE_CNT_SHADOW : Nat := 0x00C008C
@[reducible] def MATE_HO_TIME : Nat := 0x00C0090
@[reducible] def MATE_PEER_REC (k : Nat) : Nat := 0x00C0100 + k * 4

/-- Base address of the FLT page (R965). -/
@[reducible] def FLT : Nat := 0x00D0000
@[reducible] def FLT_CFG : Nat := 0x00D0040
@[reducible] def FLT_ACT : Nat := 0x00D0044
@[reducible] def FLT_ESC : Nat := 0x00D0048
@[reducible] def FLT_LAST : Nat := 0x00D004C
@[reducible] def FLT_RSTCAUSE : Nat := 0x00D0050
@[reducible] def FLT_RSTWT : Nat := 0x00D0054
@[reducible] def FLT_JSAVE : Nat := 0x00D0060
@[reducible] def FLT_CNT_ESC : Nat := 0x00D0068
@[reducible] def FLT_CNT_CRIT : Nat := 0x00D006C
@[reducible] def FLT_RAISED (k : Nat) : Nat := 0x00D0080 + k * 4
@[reducible] def FLT_UNACK (k : Nat) : Nat := 0x00D00C0 + k * 4
@[reducible] def FLT_SRC (k : Nat) : Nat := 0x00D0400 + k * 4

/-- Base address of the EVT page (R965). -/
@[reducible] def EVT : Nat := 0x00D1000
@[reducible] def EVT_SUM (k : Nat) : Nat := 0x00D1040 + k * 4
@[reducible] def EVT_HMASK (k : Nat) : Nat := 0x00D1080 + k * 4
@[reducible] def EVT_CMASK (k : Nat) : Nat := 0x00D10C0 + k * 4
@[reducible] def EVT_CC_Q : Nat := 0x00D1100
@[reducible] def EVT_CNT_CCLOST : Nat := 0x00D1104
@[reducible] def EVT_CNT_MSG : Nat := 0x00D1108

/-- Base address of the PMU page (R965). -/
@[reducible] def PMU : Nat := 0x00D2000
@[reducible] def PMU_CTL : Nat := 0x00D2040
@[reducible] def PMU_SEL : Nat := 0x00D2044
@[reducible] def PMU_OVF_UNIT : Nat := 0x00D2048
@[reducible] def PMU_W_CFG (k : Nat) : Nat := 0x00D2100 + k * 32
@[reducible] def PMU_W (k : Nat) : Nat := 0x00D2104 + k * 32
@[reducible] def PMU_W_SNAP (k : Nat) : Nat := 0x00D210C + k * 32
@[reducible] def PMU_C_CFG (k : Nat) : Nat := 0x00D2400 + k * 32
@[reducible] def PMU_C (k : Nat) : Nat := 0x00D2404 + k * 32
@[reducible] def PMU_C_SNAP (k : Nat) : Nat := 0x00D240C + k * 32

/-- Base address of the SEM page (R965). -/
@[reducible] def SEM : Nat := 0x00D3000
@[reducible] def SEM_N (k : Nat) : Nat := 0x00D3040 + k * 4
@[reducible] def SEM_BAR_SCOPE (k : Nat) : Nat := 0x00D3440 + k * 4
@[reducible] def SEM_CNT_BROKEN : Nat := 0x00D3480
@[reducible] def SEM_CNT_NOTOWNER : Nat := 0x00D3484

/-- Base address of the MTX page (R965). -/
@[reducible] def MTX : Nat := 0x00E0000
@[reducible] def MTX_TO : Nat := 0x00E0040
@[reducible] def MTX_CMD : Nat := 0x00E0044
@[reducible] def MTX_STAT : Nat := 0x00E0048
@[reducible] def MTX_ERR : Nat := 0x00E004C
@[reducible] def MTX_ERR_ADDR : Nat := 0x00E0050
@[reducible] def MTX_CNT_ERR : Nat := 0x00E0058
@[reducible] def MTX_CNT_LATE : Nat := 0x00E005C
@[reducible] def MTX_HELD : Nat := 0x00E0060
@[reducible] def MTX_CFGSUM : Nat := 0x00E0080

/-- Base address of the DDR page i (R965). -/
@[reducible] def DDR (i : Nat) : Nat := 0x00E1000 + i * 0x1000
@[reducible] def DDR_CFG (i : Nat) : Nat := 0x00E1040 + i * 0x1000
@[reducible] def DDR_CMD (i : Nat) : Nat := 0x00E1044 + i * 0x1000
@[reducible] def DDR_STAT (i : Nat) : Nat := 0x00E1048 + i * 0x1000
@[reducible] def DDR_SCRUB (i : Nat) : Nat := 0x00E104C + i * 0x1000
@[reducible] def DDR_RET_TH (i : Nat) : Nat := 0x00E1050 + i * 0x1000
@[reducible] def DDR_CNT_CE (i : Nat) : Nat := 0x00E1054 + i * 0x1000
@[reducible] def DDR_CNT_UE (i : Nat) : Nat := 0x00E1058 + i * 0x1000
@[reducible] def DDR_ERR_ADDR (i : Nat) : Nat := 0x00E105C + i * 0x1000
@[reducible] def DDR_CELOG (i : Nat) : Nat := 0x00E1064 + i * 0x1000
@[reducible] def DDR_TIMING (i k : Nat) : Nat := 0x00E1070 + i * 0x1000 + k * 4
@[reducible] def DDR_RET (i k : Nat) : Nat := 0x00E1400 + i * 0x1000 + k * 4

/-- Base address of the MRM page (R965). -/
@[reducible] def MRM : Nat := 0x00E3000
@[reducible] def MRM_WEAR_TH : Nat := 0x00E3040
@[reducible] def MRM_SCRUB : Nat := 0x00E3044
@[reducible] def MRM_CMD : Nat := 0x00E3048
@[reducible] def MRM_STAT : Nat := 0x00E304C
@[reducible] def MRM_RO (k : Nat) : Nat := 0x00E3050 + k * 4
@[reducible] def MRM_J_DST : Nat := 0x00E3070
@[reducible] def MRM_J_SRC : Nat := 0x00E3074
@[reducible] def MRM_J_LEN : Nat := 0x00E3078
@[reducible] def MRM_J_CMD : Nat := 0x00E307C
@[reducible] def MRM_J_STAT : Nat := 0x00E3080
@[reducible] def MRM_J_BOOT : Nat := 0x00E3084
@[reducible] def MRM_CNT_CORR : Nat := 0x00E3088
@[reducible] def MRM_CNT_UE : Nat := 0x00E308C
@[reducible] def MRM_CNT_ROWR : Nat := 0x00E3090
@[reducible] def MRM_WEAR (k : Nat) : Nat := 0x00E3100 + k * 4
@[reducible] def MRM_MAP (k : Nat) : Nat := 0x00E3180 + k * 4

/-- Base address of the PCI page (R965). -/
@[reducible] def PCI : Nat := 0x00E4000
@[reducible] def PCI_STAT : Nat := 0x00E4040
@[reducible] def PCI_CNT_ERR : Nat := 0x00E4044
@[reducible] def PCI_CNT_TXDROP : Nat := 0x00E4048
@[reducible] def PCI_CR_BASE (k : Nat) : Nat := 0x00E4100 + k * 32
@[reducible] def PCI_CR_CFG (k : Nat) : Nat := 0x00E4108 + k * 32
@[reducible] def PCI_CR_TAIL (k : Nat) : Nat := 0x00E410C + k * 32
@[reducible] def PCI_CR_HEAD (k : Nat) : Nat := 0x00E4110 + k * 32
@[reducible] def PCI_CR_STS (k : Nat) : Nat := 0x00E4114 + k * 32
@[reducible] def PCI_CR_SEQ (k : Nat) : Nat := 0x00E411C + k * 32
@[reducible] def PCI_EX_BASE (k : Nat) : Nat := 0x00E4200 + k * 32
@[reducible] def PCI_EX_CFG (k : Nat) : Nat := 0x00E4208 + k * 32
@[reducible] def PCI_EX_WR (k : Nat) : Nat := 0x00E420C + k * 32
@[reducible] def PCI_EX_RD (k : Nat) : Nat := 0x00E4210 + k * 32
@[reducible] def PCI_EX_DROP (k : Nat) : Nat := 0x00E4214 + k * 32
@[reducible] def PCI_TX_BASE (k : Nat) : Nat := 0x00E4300 + k * 32
@[reducible] def PCI_TX_CFG (k : Nat) : Nat := 0x00E4308 + k * 32
@[reducible] def PCI_TX_TAIL (k : Nat) : Nat := 0x00E430C + k * 32
@[reducible] def PCI_TX_HEAD (k : Nat) : Nat := 0x00E4310 + k * 32
@[reducible] def PCI_TX_Q (k : Nat) : Nat := 0x00E4314 + k * 32
@[reducible] def PCI_TX_FBQ (k : Nat) : Nat := 0x00E4318 + k * 32
@[reducible] def PCI_TX_CQ (k : Nat) : Nat := 0x00E431C + k * 32

/-- Base address of the LSP page (R965). -/
@[reducible] def LSP : Nat := 0x00E5000
@[reducible] def QSPI_CFG : Nat := 0x00E5040
@[reducible] def QSPI_CMD : Nat := 0x00E5044
@[reducible] def QSPI_ADDR : Nat := 0x00E5048
@[reducible] def QSPI_LEN : Nat := 0x00E504C
@[reducible] def QSPI_BUF : Nat := 0x00E5050
@[reducible] def QSPI_STAT : Nat := 0x00E5054
@[reducible] def I2C_CFG (k : Nat) : Nat := 0x00E5100 + k * 64
@[reducible] def I2C_XFER (k : Nat) : Nat := 0x00E5104 + k * 64
@[reducible] def I2C_STAT (k : Nat) : Nat := 0x00E5108 + k * 64
@[reducible] def I2C_WDATA (k j : Nat) : Nat := 0x00E5110 + k * 64 + j * 4
@[reducible] def I2C_RDATA (k j : Nat) : Nat := 0x00E5120 + k * 64 + j * 4
@[reducible] def UART_CFG (k : Nat) : Nat := 0x00E5200 + k * 32
@[reducible] def UART_TX (k : Nat) : Nat := 0x00E5204 + k * 32
@[reducible] def UART_RX (k : Nat) : Nat := 0x00E5208 + k * 32
@[reducible] def UART_STAT (k : Nat) : Nat := 0x00E520C + k * 32
@[reducible] def GPIO_OUT : Nat := 0x00E5300
@[reducible] def GPIO_OE : Nat := 0x00E5304
@[reducible] def GPIO_OD : Nat := 0x00E5308
@[reducible] def GPIO_IN : Nat := 0x00E530C
@[reducible] def GPIO_RISE : Nat := 0x00E5310
@[reducible] def GPIO_FALL : Nat := 0x00E5314
@[reducible] def GPIO_EVT : Nat := 0x00E5318
@[reducible] def GPIO_FUNC (k : Nat) : Nat := 0x00E531C + k * 4
@[reducible] def INV_CMD : Nat := 0x00E5400
@[reducible] def INV_STAT : Nat := 0x00E5404
@[reducible] def INV_ID (k : Nat) : Nat := 0x00E5410 + k * 8

/-- Base address of the GCH page i (R965). -/
@[reducible] def GCH (i : Nat) : Nat := 0x0100000 + i * 0x1000
@[reducible] def GCH_CFG (i : Nat) : Nat := 0x0100040 + i * 0x1000
@[reducible] def GCH_TRK (i : Nat) : Nat := 0x0100044 + i * 0x1000
@[reducible] def GCH_LOOP (i : Nat) : Nat := 0x0100048 + i * 0x1000
@[reducible] def GCH_CMD (i : Nat) : Nat := 0x010004C + i * 0x1000
@[reducible] def GCH_STAT (i : Nat) : Nat := 0x0100050 + i * 0x1000
@[reducible] def GCH_AIDCODE (i : Nat) : Nat := 0x0100054 + i * 0x1000
@[reducible] def GCH_AIDDOP (i : Nat) : Nat := 0x0100058 + i * 0x1000
@[reducible] def GCH_AIDRATE (i : Nat) : Nat := 0x010005C + i * 0x1000
@[reducible] def GCH_CN0 (i : Nat) : Nat := 0x0100060 + i * 0x1000
@[reducible] def GCH_DOP (i : Nat) : Nat := 0x0100064 + i * 0x1000
@[reducible] def GCH_CNT_SLIP (i : Nat) : Nat := 0x0100068 + i * 0x1000
@[reducible] def GCH_CNT_LOST (i : Nat) : Nat := 0x010006C + i * 0x1000

/-- Base address of the CLU page i (R965). -/
@[reducible] def CLU (i : Nat) : Nat := 0x0200000 + i * 0x1000
@[reducible] def CLU_IMEM_SPLIT (i : Nat) : Nat := 0x0200040 + i * 0x1000
@[reducible] def CLU_DMEM_SPLIT (i : Nat) : Nat := 0x0200044 + i * 0x1000
@[reducible] def CLU_ENTRY (i : Nat) : Nat := 0x0200048 + i * 0x1000
@[reducible] def CLU_IMG_VER (i : Nat) : Nat := 0x020004C + i * 0x1000
@[reducible] def CLU_LOAD (i : Nat) : Nat := 0x0200050 + i * 0x1000
@[reducible] def CLU_LOAD_CMD (i : Nat) : Nat := 0x0200058 + i * 0x1000
@[reducible] def CLU_LOAD_STAT (i : Nat) : Nat := 0x020005C + i * 0x1000
@[reducible] def CLU_UWIN (i k : Nat) : Nat := 0x0200060 + i * 0x1000 + k * 8
@[reducible] def CLU_SMP_CFG (i : Nat) : Nat := 0x0200080 + i * 0x1000
@[reducible] def CLU_SMP_STAT (i : Nat) : Nat := 0x0200084 + i * 0x1000
@[reducible] def CLU_CNT_SMP_LOST (i : Nat) : Nat := 0x0200088 + i * 0x1000
@[reducible] def CLU_MEM_CORR (i : Nat) : Nat := 0x020008C + i * 0x1000
@[reducible] def CLU_SMP_D (i k : Nat) : Nat := 0x02000A0 + i * 0x1000 + k * 4

/-- Base address of the QDR page i (R965). -/
@[reducible] def QDR (i : Nat) : Nat := 0x0240000 + i * 0x1000

/-- Base address of the ENG page i (R965). -/
@[reducible] def ENG (i : Nat) : Nat := 0x0280000 + i * 0x1000
@[reducible] def ENG_CFG (i : Nat) : Nat := 0x0280040 + i * 0x1000
@[reducible] def ENG_VEC (i : Nat) : Nat := 0x0280044 + i * 0x1000
@[reducible] def ENG_SNAP_TAG (i : Nat) : Nat := 0x028004C + i * 0x1000
@[reducible] def ENG_SNAP_BT (i : Nat) : Nat := 0x0280050 + i * 0x1000
@[reducible] def ENG_TH_CTL (i k : Nat) : Nat := 0x0280100 + i * 0x1000 + k * 64
@[reducible] def ENG_TH_STAT (i k : Nat) : Nat := 0x0280104 + i * 0x1000 + k * 64
@[reducible] def ENG_TH_PC (i k : Nat) : Nat := 0x0280108 + i * 0x1000 + k * 64
@[reducible] def ENG_TH_EPC (i k : Nat) : Nat := 0x0280110 + i * 0x1000 + k * 64
@[reducible] def ENG_TH_JRNL (i k : Nat) : Nat := 0x0280118 + i * 0x1000 + k * 64
@[reducible] def ENG_TH_BAR (i k : Nat) : Nat := 0x028011C + i * 0x1000 + k * 64
@[reducible] def ENG_TH_BCAST (i k : Nat) : Nat := 0x0280120 + i * 0x1000 + k * 64
@[reducible] def ENG_TH_TMR (i k : Nat) : Nat := 0x0280128 + i * 0x1000 + k * 64
@[reducible] def ENG_TH_EVCNT (i k : Nat) : Nat := 0x0280134 + i * 0x1000 + k * 64
@[reducible] def ENG_TH_DOORBELL (i k : Nat) : Nat := 0x0280138 + i * 0x1000 + k * 64
@[reducible] def ENG_TH_SNAPJ (i k : Nat) : Nat := 0x028013C + i * 0x1000 + k * 64

end Sys2Proof.Reg
end

