-- ==== Sys2Proof/Machine/Numbers.lean ====
section
/-! DEFINITION. Which event and which fault source each EVT_RAW and FLT_RAW bit is, with each source's default severity and
domain, as the event and fault tables of the chapters give them. -/
namespace Sys2Proof.Machine

/-- The event that EVT_RAW bit n of a page raises; none for a bit that no event shows. -/
def evtOf (k : PageKind) (i n : Nat) : Option Nat :=
  let within (base cnt : Nat) : Option Nat := if n < cnt then some (base + n) else none
  match k with
  | .pwr => within 8 4
  | .lcs => within 16 2
  | .geo => within 24 3
  | .bdr => within 32 4
  | .act => within 40 5
  | .asy => within 48 7
  | .ref => within 64 8
  | .dpl => within (72 + 4 * i) 4
  | .syn => if n = 2 then some (104 + 2 * i) else within (104 + 2 * i) 2
  | .out => within 112 4
  | .pps => within 116 4
  | .tdc => within 120 5
  | .gns => within 128 5
  | .acq => within 133 2
  | .gch => if n < 6 then some (135 + i / 64) else none
  | .nav => within 139 2
  | .ant => within 141 5
  | .prt => within (192 + 4 * i) 4
  | .tsu => within (256 + 4 * i) 4
  | .sch => within 272 3
  | .pol => within 276 4
  | .qry => within 296 4
  | .key => within 320 4
  | .trn => within 328 2
  | .cry => within 336 1
  | .mate => within 352 11
  | .clu => if n < 4 then some (384 + i) else none
  | .eng => if n < 4 then some (384 + i / 8) else none
  | .flt => within 448 4
  | .pmu => within 452 2
  | .mtx => within 454 1
  | .ddr => within (455 + 2 * i) 2
  | .mrm => within 459 3
  | .pci => within 462 4
  | .lsp => within 466 5
  | .sem => within 476 2
  | .mgmt => within 478 2
  | .evt => within 480 32
  | .sys | .clk | .svc | .qdr => none

/-- The fault source that FLT_RAW bit n of a page belongs to. -/
def srcOf (k : PageKind) (i n : Nat) : Option Nat :=
  let within (base cnt : Nat) : Option Nat := if n < cnt then some (base + n) else none
  match k with
  | .pwr => within 8 1
  | .lcs => within 16 1
  | .geo => within 24 2
  | .bdr => within 32 1
  | .act => within 40 1
  | .asy => within 48 4
  | .ref => within 64 2
  | .dpl => within (66 + i) 1
  | .syn => within (74 + 2 * i) 2
  | .out => within 82 1
  | .pps => within 83 1
  | .tdc => within 84 2
  | .gns => within 128 2
  | .acq => within 130 1
  | .gch => within 131 1
  | .nav => within 132 1
  | .ant => within 133 1
  | .prt => within (192 + 2 * i) 2
  | .mgmt => within 224 1
  | .tsu => within (256 + 2 * i) 2
  | .sch => within 264 1
  | .pol => within 266 2
  | .qry => within 280 3
  | .key => within 320 3
  | .trn => within 328 2
  | .cry => within 336 1
  | .mate => within 352 5
  | .eng => within 368 3
  | .clu => within 371 2
  | .sem => within 373 1
  | .flt => within 374 1
  | .evt => within 375 1
  | .pmu => within 376 1
  | .mtx => if n < 2 then some 377 else none
  | .ddr => within 378 2
  | .mrm => within 380 2
  | .pci => within 382 1
  | .lsp => within 383 1
  | .sys | .clk | .svc | .qdr => none

/-- Sources whose default severity is CRITICAL. -/
def critSources : List Nat := [16, 24, 32, 48, 328, 329, 373, 374, 375]

/-- Sources whose default severity is MAJOR. -/
def majorSources : List Nat :=
  [8, 40, 49, 64, 66, 67, 68, 69, 70, 71, 72, 73, 74, 75, 76, 77, 78, 79, 80, 81, 82, 83, 85, 130, 133,
   193, 195, 197, 199, 201, 203, 205, 207, 209, 211, 213, 215, 217, 219, 221, 223,
   256, 258, 260, 262, 264, 266, 281, 320, 321, 322, 336, 354, 355, 356, 368, 369, 371, 372, 378, 380, 381]

/-- Sources whose default severity is MINOR. -/
def minorSources : List Nat :=
  [25, 50, 51, 65, 84, 128, 129, 131, 132,
   192, 194, 196, 198, 200, 202, 204, 206, 208, 210, 212, 214, 216, 218, 220, 222, 224,
   257, 259, 261, 263, 267, 280, 282, 352, 353, 370, 376, 377, 379, 382, 383]

/-- The default severity of a source: 0 NOTE, 1 MINOR, 2 MAJOR, 3 CRITICAL (R851). -/
def sevOf (n : Nat) : Nat :=
  if critSources.contains n then 3
  else if majorSources.contains n then 2
  else if minorSources.contains n then 1 else 0

/-- The reset value of a source's DOM: the code of the domain that clocks the source's page, or 63 when that
code cannot be named (R830). -/
def domOf (n : Nat) : Nat :=
  if 64 ≤ n ∧ n ≤ 83 then 39
  else if 128 ≤ n ∧ n ≤ 133 then 34
  else if 192 ≤ n ∧ n ≤ 223 then 11 + (n - 192) / 8
  else if n = 224 then 33
  else if 256 ≤ n ∧ n ≤ 263 then 11 + (n - 256) / 2
  else if 352 ≤ n ∧ n ≤ 356 then 31
  else 63

end Sys2Proof.Machine
end

