-- ==== Sys2Proof/Machine/Store.lean ====
section
/-! DEFINITION. Sparse stores: a list of (key, value) pairs with rising keys in which no entry holds the
value that an unlisted key reads as. Registers, memories and the records of many-instance units are held so. -/
namespace Sys2Proof.Machine

/-- A sparse store keyed by a number. -/
abbrev AMap (α : Type) := List (Nat × α)

/-- The entry listed for a key, if any. -/
def AMap.find {α : Type} : AMap α → Nat → Option α
  | [], _ => none
  | (j, v) :: t, k => if j = k then some v else AMap.find t k

/-- The value at a key: the listed one, else the default of that key. -/
def AMap.getD {α : Type} (d : Nat → α) (m : AMap α) (k : Nat) : α :=
  (AMap.find m k).getD (d k)

/-- Drop the entry of a key. -/
def AMap.erase {α : Type} : AMap α → Nat → AMap α
  | [], _ => []
  | (j, v) :: t, k => if j = k then AMap.erase t k else (j, v) :: AMap.erase t k

/-- List a value under a key, in the place its key has in rising order. -/
def AMap.insert {α : Type} : AMap α → Nat → α → AMap α
  | [], k, v => [(k, v)]
  | (j, w) :: t, k, v =>
    if k < j then (k, v) :: (j, w) :: t
    else if j = k then (k, v) :: t
    else (j, w) :: AMap.insert t k v

/-- Store a value under a key, keeping the canonical form: storing the default removes the entry. -/
def AMap.setD {α : Type} [DecidableEq α] (d : Nat → α) (m : AMap α) (k : Nat) (v : α) : AMap α :=
  if v = d k then AMap.erase m k else AMap.insert m k v

/-- The canonical form: keys strictly rising, and no entry equal to what its key reads as unlisted. -/
def AMap.wf {α : Type} [DecidableEq α] (d : Nat → α) : AMap α → Bool
  | [] => true
  | [(k, v)] => decide (v ≠ d k)
  | (k, v) :: (j, w) :: t =>
    decide (v ≠ d k) && decide (k < j) && AMap.wf d ((j, w) :: t)

/-- A byte memory is in canonical form: an unlisted byte reads 0. (DESIGN CHOICE, log 4.) -/
abbrev Memory.wf (m : AMap (BitVec 8)) : Bool := AMap.wf (fun _ => 0) m

/-- Value at a key of a store whose unlisted keys all read as one value. -/
def AMap.get {α : Type} (d : α) (m : AMap α) (k : Nat) : α := AMap.getD (fun _ => d) m k

/-- Store a value in a store whose unlisted keys all read as one value. -/
def AMap.set {α : Type} [DecidableEq α] (d : α) (m : AMap α) (k : Nat) (v : α) : AMap α :=
  AMap.setD (fun _ => d) m k v

/-- Drop every entry whose key lies in [lo, lo + n). -/
def AMap.clearRange {α : Type} (m : AMap α) (lo n : Nat) : AMap α :=
  m.filter (fun p => !(decide (lo ≤ p.1) && decide (p.1 < lo + n)))

end Sys2Proof.Machine
end

