-- ==== Sys2Proof/Machine/State.lean ====
section
/-! DEFINITION. The state of the device as plain data: the register file, the memories, the state that each block holds beside its
registers, what the device puts on its pins and buses, and the queue of commands that wait. -/
namespace Sys2Proof.Machine

/-- Why a step stops. The spec gives every command an effect, so no meaning of this model ends in a fault and the type has no
constructor. -/
inductive Fault where
  deriving DecidableEq, Repr

/-- Why a command has no meaning. -/
inductive Refusal where
  /-- Raised by an arm of `exec` for a command that has no meaning yet. Safe: the model stops. -/
  | notModelled (mnemonic : String)
  deriving DecidableEq, Repr

/-- What the device gives out: to a master, to the host, on a line or on a pin. -/
inductive Output where
  /-- A read answered (R10). -/
  | readData (m : Master) (addr : Nat) (v : Word)
  /-- An error response (R6, R862 to R866); kind 0 DECODE, 1 TARGET, 2 TIMEOUT, 3 another error. -/
  | busError (m : Master) (addr kind : Nat)
  /-- An MSI-X message (R836). -/
  | msix (vector : Nat)
  /-- A level on a named output pin. -/
  | pin (name : String) (level : Bool)
  /-- A named output pin becomes high-impedance (R258). -/
  | release (name : String)
  /-- Every output pin but WAKE_OUT becomes high-impedance (R910), or takes the state that its own chapter gives after reset (R953). -/
  | allPins (released : Bool)
  /-- A timed edge on a named output pin: its level, its CD_TB cycle and the fine delay in the cycle, ps (R300). -/
  | edge (name : String) (level : Bool) (cycle : BT80) (ps : Int)
  /-- Bytes written into host memory at a host address. -/
  | hostWrite (addr : Nat) (data : List Byte)
  /-- A frame sent on a port: 0 to 15, 16 for MGMT. -/
  | frame (port : Nat) (data : List Byte)
  /-- A frame on the mate lanes. -/
  | mateFrame (lane : Nat) (data : List Byte)
  /-- A byte sent by a UART. -/
  | uartByte (u : Nat) (b : Byte)
  /-- A command to the boot flash: opcode, address, data sent. -/
  | qspi (opcode : Nat) (addr : Option Nat) (dummy : Nat) (data : List Byte)
  /-- A transfer started by an I2C master: target, bytes sent, number of bytes to read. -/
  | i2c (master target : Nat) (data : List Byte) (rlen : Nat)
  deriving DecidableEq, Repr

/-! ### Bedrock, served time and the action calendar -/

/-- The parameters of the served-time formula (R70). -/
structure TimeParams where
  ofs : WT96
  rate : BitVec 44
  anch : BT80
  slewAct : Bool
  sbeg : BT80
  amt : BitVec 64
  dur : Word
  deriving DecidableEq, Repr

/-- The parts a change may contain (R71); a later commit of a register replaces an earlier one (R78). -/
structure ChangeParts where
  rate : Option (BitVec 44) := none
  step : Option WT96 := none
  abort : Bool := false
  slew : Option (BitVec 64) := none
  deriving DecidableEq, Repr

/-- One commit as it reaches the BDR page (R73, R89). -/
inductive CommitPart where
  | rate (v : BitVec 44)
  | step (v : WT96)
  | abort
  | slew (v : BitVec 64)
  deriving DecidableEq, Repr

/-- A commit that FREEZE holds: the cycle in which it reached the page, and its writer's place in the order of R79 (R82). -/
structure HeldCommit where
  part : CommitPart
  at_ : BT80
  rank : Nat
  deriving DecidableEq, Repr

/-- State of the BDR block beside its registers. -/
structure Bdr where
  par : TimeParams                      -- parameters in force (R70)
  pend : Option (BT80 × ChangeParts)    -- pending change and its anchor (R74)
  pendCyc : BT80                        -- commit cycle of the pending change (R79)
  pendCom : BT80                        -- cycle of the latest commit in the pending change, in the queued one, and in the change that took
  queCom : BT80                         --   effect last (R301)
  parCom : BT80
  queued : Option ChangeParts           -- queued change (R77)
  held : List HeldCommit                -- commits held by FREEZE, oldest first (R82)
  hist : List (BT80 × TimeParams)       -- retained sets, newest first, each with its anchor (R620)
  prevTai : Option (WT96 × BitVec 16)   -- TAI_UTC before its latest change and the served time of it (R621)
  cvtReady : BT80                       -- Bedrock at which the conversion result is ready (R97)
  deriving DecidableEq, Repr

/-- How an action ended at its target (R113 rows 4 and 5). -/
inductive ActResult where
  | completed | targetErr | locked | noMate
  deriving DecidableEq, Repr

/-- STATE of a calendar slot (R103). -/
inductive SlotState where
  | empty | armed | applied | notApplied | refused
  deriving DecidableEq, Repr

/-- One action slot: its CTL fields and the armed copy of its due time and parameter entry. -/
structure Slot where
  typ : BitVec 4 := 0
  lateOk : Bool := false
  cond : BitVec 2 := 0
  st : SlotState := .empty
  wasLate : Bool := false
  reason : BitVec 4 := 0
  due : WT96 := 0
  w0 : Word := 0
  w1 : Word := 0
  w2 : Word := 0
  bad : Bool := false                   -- the stored copy is uncorrectable (R113)
  taken : Bool := false                 -- taken and awaiting its outcome (R114)
  result : Option ActResult := none     -- how the action ended, until its outcome is set
  deriving DecidableEq, Repr

/-- A calendar PULSE under way: GPIO, end of the width, slot (R117). -/
structure Pulse where
  gpio : Nat
  stop : BT80
  slot : Nat
  counted : Bool                        -- false once a reset of the ACT page dropped its record (R119)
  deriving DecidableEq, Repr

/-- State of the ACT block beside its registers. -/
structure Act where
  slots : AMap Slot
  initQ : List Nat                      -- initiation queue, next first (R116)
  pulses : List Pulse
  deriving DecidableEq, Repr

/-! ### Assay -/

/-- Time status (R141, R172). -/
inductive TimeStatus where
  | unset | coarse | traceable | holdover | untraceable
  deriving DecidableEq, Repr

/-- A set of committed values with the last traceable update and the discipline components latched by it
(R126, R135, R143). Values are keyed by their register's offset in the ASY page. -/
structure AsySet where
  vals : AMap Word                      -- committed ASY_K, components, coefficients, port table
  latched : AMap Word                   -- discipline components latched at the last traceable update
  lu : Option BT80                      -- ASY_LU; none before the first UPDATE accepted since reset
  tlu : BitVec 16                       -- ASY_HO_TLU
  deriving DecidableEq, Repr

/-- The parts of an ASY change (R147). -/
structure AsyParts where
  commit : Option (AMap Word) := none
  update : Bool := false
  ts : Nat := 0
  deriving DecidableEq, Repr

/-- An entry of the record staging area (R163). -/
structure StgEntry where
  seq : DWord
  since : BT80
  signed : Bool
  deriving DecidableEq, Repr

/-- State of the ASY block beside its registers. -/
structure Asy where
  cur : AsySet
  hist : List (BT80 × AsySet)           -- retained sets, newest first, each with its anchor (R135)
  staged : AMap Word                    -- staged values, keyed as AsySet.vals (R133)
  ts : TimeStatus
  cycTs : Option (BT80 × TimeStatus)    -- status at the start of the cycle of the latest transition (R144)
  updSince : Option BT80                -- anchor of an UPDATE accepted since the last status change (R141)
  pend : Option (BT80 × AsyParts)
  queued : Option AsyParts
  held : List AsyParts                  -- commits held by FREEZE (R969)
  dtmax : BitVec 16                     -- ASY_HO_DTMAX (R138)
  dtHeld : Bool                         -- held at its maximum until the next accepted UPDATE (R140)
  lastTemp : BT80                       -- Bedrock of the latest temperature sample
  lastSec : Option Nat                  -- last whole second recorded (R158)
  startPend : Bool                      -- START record at the next periodic instant (R158)
  chgSec : Nat                          -- served second that chgCount counts
  chgCount : Nat                        -- change records taken in it (R159)
  chgMask : BitVec 4                    -- changes since the last record (R159)
  coalesced : Bool
  gap : Bool
  stage : List (Option StgEntry)        -- the 16 staging entries
  stgNext : Nat                         -- index of the staging entry filled next
  ringFull : Bool                       -- the DRAM ring has wrapped (R166)
  refs : List (BT80 × Nat)              -- entries selected before on the time-scale loop, each with the cycle that ended it (R153)
  deriving DecidableEq, Repr

/-! ### References -/

/-- States of a reference entry (R186, R219). -/
inductive EntState where
  | disq | qualifying | qualified | selected
  deriving DecidableEq, Repr

/-- Why an entry went to DISQUALIFIED (R219). -/
inductive EntCause where
  | none | disabled | forced | source | activity | frequency | phase | message | quality | inconsistent | integrity
  deriving DecidableEq, Repr

/-- State of one reference entry beside its registers. -/
structure RefEnt where
  lastAct : BT80 := 0                   -- cycle of the latest edge, or from which its absence is timed (R183)
  actFail : Bool := false
  freqFail : Bool := false
  phFail : Bool := false
  seen : Nat := 0                       -- edges seen since the transition into QUALIFYING (R185)
  edges : Nat := 0                      -- edges or deliveries counted (R180, R431)
  last : Option (Nat × BT80) := none    -- previous edge: number and Bedrock (R973)
  gateAt : BT80 := 0                    -- start of the present gate (R184)
  gateLen : Nat := 0                    -- its length, ns
  gate1 : Option (Nat × BT80) := none   -- first and last edge captured in it
  gate2 : Option (Nat × BT80) := none
  gated : Bool := false                 -- a gate has completed since the entry was enabled (R973)
  msgAt : BT80 := 0                     -- cycle of the latest message, or from which its absence is timed
  stale : Bool := true                  -- no message within MSG_TO (R181)
  msgBad : Option EntCause := none      -- what the latest message fails by: QUALITY or INCONSISTENT
  logInt : Int := 0                     -- logMessageInterval of the latest Announce
  lost : Bool := false                  -- the PTP session has ended (R213)
  utcRow : Nat := 0                     -- consecutive Announces whose UTC offset differs (R194)
  msgTrc : Bool := false                -- the latest message asserts traceable time (R199)
  integ : Bool := false                 -- GNSS integrity passed (R181)
  due : Option BT80 := none             -- Bedrock at which QUAL_T has passed (R186)
  pulses : Nat := 0                     -- pulses since the last accepted ToD message (R198)
  todSec : Option Nat := none           -- seconds of the last accepted ToD message
  lastPulse : Option BT80 := none
  loopK : Option Nat := none            -- number of the edge that the loops last took as a measurement (R224)
  deriving DecidableEq, Repr

/-- A ToD message as parsed (R195, R196). -/
structure TodMsg where
  sec : Nat
  taiUtc : BitVec 16
  leap : BitVec 3
  quality : Nat
  accuracy : Nat
  timeValid : Bool
  ppsValid : Bool
  deriving DecidableEq, Repr

/-- State of one ToD parser (R195 to R198, R978). -/
structure TodParser where
  buf : List (Byte × BT80) := []        -- bytes of the frame or sentence being gathered, each with the cycle of its stop bit
  waiting : List (TodMsg × BT80) := []  -- messages waiting for their pulse, with the cycle of the stop bit (EDGE=0)
  rmc : Option (Bool × BT80) := none    -- status of the latest RMC and when it came
  deriving DecidableEq, Repr

/-- State of the REF block beside its registers. -/
structure Ref where
  ents : AMap RefEnt
  tods : AMap TodParser
  fbDue : AMap (Option (Nat × BT80))    -- loop: the entry whose failure starts its fallback in the next cycle (R204)
  rescan : AMap (Option BT80)           -- loop: when an entry became QUALIFIED while it had none (R205)
  prioStage : AMap (Option Word)        -- PRIO words that take effect in the next cycle, by offset (R210)
  deriving DecidableEq, Repr

/-! ### Loop units -/

/-- States of a loop (R236, R267). -/
inductive LoopState where
  | freerun | acquire | locked | holdover
  deriving DecidableEq, Repr

/-- State of one loop unit beside its registers. -/
structure Dpl where
  p : Int := 0                          -- model phase at bprev, 2^-16 ns (R226)
  pprev : Int := 0
  bprev : Nat := 0                      -- Bedrock, or served time in STEER mode, of the latest update
  seeded : Bool := false                -- p has been taken from a measurement
  y : Int := 0                          -- 2^-56
  e : Int := 0
  u : Int := 0                          -- STEER output (R254)
  h : Int := 0                          -- long-term frequency (R247)
  build : Int := 0                      -- build-out offset (R244)
  forced : Bool := false                -- forced HOLDOVER (R238)
  reseed : Bool := false                -- the next measurement seeds p (R239)
  firstDue : Bool := false              -- the next measurement is the first of a new entry (R243)
  rebuild : Bool := false               -- a new build-out is due (R255)
  edges : Nat := 0                      -- edges since the loop began following the entry (R223)
  lockAt : Option Nat := none           -- since when |e| has been within LOCK_PH
  unlockRow : Nat := 0                  -- consecutive updates beyond UNLOCK_PH
  lockedAt : Option Nat := none         -- since when the loop has been LOCKED (R248)
  ys : List (Nat × Int) := []           -- y at the updates in LOCKED, newest first (R247)
  hoAt : Nat := 0                       -- entry into HOLDOVER (R240)
  rpt : Nat := 0                        -- number of the last report instant latched (R249)
  tplLast : Option Int := none          -- template value last sent and when (R259)
  tplAt : Option WT96 := none
  hIdx : Nat := 0                       -- number of the history interval being gathered (R262)
  hySum : Int := 0
  hyCnt : Nat := 0
  huSum : Int := 0
  huCnt : Nat := 0
  htSum : Int := 0
  htCnt : Nat := 0
  htMin : Int := 0
  htMax : Int := 0
  hTrc : Bool := true                   -- TRACEABLE throughout
  hPart : Bool := false                 -- not LOCKED throughout
  hLost : Bool := false                 -- TEMP_LOST raised in the interval
  deriving DecidableEq, Repr

/-! ### Synthesisers and outputs -/

/-- States of a synthesiser (R279, R311). -/
inductive SynState where
  | idle | measure | locking | locked | lost
  deriving DecidableEq, Repr

/-- State of one synthesiser beside its registers. -/
structure Syn where
  y : Int := 0                          -- last word delivered, 2^-56
  app : Int := 0                        -- f_app (R283)
  cfg : Word := 0x1010                  -- SYN_CFG and n_nom as the last LOCK took them (R273)
  num : Nat := 0x0271000000000000
  since : BT80 := 0                     -- Bedrock of the latest change of state or attempt
  slewAt : BT80 := 0                    -- Bedrock of the latest slew step (R283)
  mband : Nat := 0                      -- band being measured
  trying : Bool := false                -- the present relock attempt has found a band (R280)
  bands : List Word := []               -- the band table as the last LOCK took it (R273)
  ph : Nat := 0                         -- VCO half-cycles up to phAt, in 2^-48 of 10^-9
  phAt : BT80 := 0
  deriving DecidableEq, Repr

/-- State of one pulse output beside its registers. -/
structure Pps where
  mode : Nat := 0                       -- MODE, RATE and OFS in use (R307)
  rate : Nat := 1
  ofs : Int := 0
  active : Bool := false                -- the pulse is at its active level
  target : Option WT96 := none          -- the next target, or that of the pulse under way (R299)
  last : Option WT96 := none            -- the last target emitted (R306)
  width : Nat := 0                      -- W of the pulse under way, ns (R300, R307)
  stopDue : Bool := false               -- stops at its next inactive phase (R308)
  endAt : Option BT80 := none           -- Bedrock of the trailing edge of a pulse that a BDR reset met (R308)
  deriving DecidableEq, Repr

/-- The EFC_PWM modulator (R257, R258). -/
structure Efc where
  code : Nat := 0                       -- the 24-bit code driven
  run : Bool := false                   -- its loop has made an update since it took the pin
  at_ : Option BT80 := none             -- Bedrock at which the present carrier period began
  acc : Nat := 0                        -- what the sigma-delta carries over, 2^-12 of a step
  hi : Nat := 0                         -- high time of the present period, in steps of 4 ns
  lvl : Bool := false
  deriving DecidableEq, Repr

/-- The divider and the output stage of one clock output, in half-cycles of its VCO, numbered as the synthesiser counts them
(R289 to R295). -/
structure OutClk where
  syn : Nat := 0                        -- the synthesiser that clocks it
  on : Bool := false                    -- the divider runs
  high : Bool := false                  -- level of the divided clock
  next : Nat := 0                       -- number of the half-cycle at which it changes next
  d : Nat := 1                          -- D in use in the present period (R293)
  c : Nat := 0                          -- the coarse delay in effect (R294)
  gate : Bool := false                  -- the output passes the divided clock (R291)
  fine : Int := 256                     -- the fine delay in effect, ps (R295)
  deriving DecidableEq, Repr

/-- State of the OUT and PPS blocks beside their registers. -/
structure Outs where
  sync : Nat                            -- outputs being aligned (R298)
  align : AMap BT80                     -- Bedrock of each output's latest divider restart
  pps : AMap Pps
  efcBy : Option Nat                    -- the loop that drives EFC_PWM; high-impedance before the first (R258)
  efc : Efc
  clk : AMap OutClk                     -- the dividers of the clock outputs
  deriving DecidableEq, Repr

/-! ### The GNSS receiver -/

/-- States of a channel (R352, R389). -/
inductive GchState where
  | idle | acqWait | pullin | track | burst | lost
  deriving DecidableEq, Repr

/-- State of one GNSS channel beside its registers. -/
structure Gch where
  sig : Nat := 0                        -- SIG, PRN, ANT and AUTO_REACQ as the last START took them (R350)
  prn : Nat := 0
  ant : Nat := 0
  reacq : Bool := false
  startSec : Option Nat := none         -- served second at which an aided start begins (R351)
  since : BT80 := 0                     -- Bedrock of the latest change of state
  at_ : BT80 := 0                       -- Bedrock to which the replica state refers
  code : Nat := 0                       -- code phase, 2^-18 chip
  cnt : Nat := 0                        -- primary code periods begun since START
  dop : Int := 0                        -- Doppler, 2^-10 Hz
  car : Int := 0                        -- carrier phase, 2^-32 cycle
  sym : Option (Nat × Nat) := none      -- symbolPos while SYNC=1, with the length of what it counts in
  locks : List Int := []                -- lock ratio of the last 20 integrations, 2^-32, newest first (R361)
  errs : List Nat := []                 -- |D| of the last 20 integrations, 2^-16 chip
  lastD : Int := 0                      -- last D (R355)
  relock : Bool := false                -- PLL_LOCK has cleared since it was last set (R363)
  lowRow : Nat := 0                     -- consecutive integrations below LOSS_TH
  slips : Nat := 0                      -- since START
  slipAt : BT80 := 0                    -- latest slip or START
  slipRec : Bool := false               -- SLIP and STREAM_ERR to set in the next record
  errRec : Bool := false
  stepRec : Nat := 0                    -- number of the BDR step that its records last showed (R366, R373)
  stepNav : Nat := 0
  navFail : Nat := 0                    -- consecutive FAIL navigation records (R372)
  burstSec : Option Nat := none         -- served second of the burst under way
  lastBurst : Option Nat := none        -- served second of the latest burst begun
  pred : Option (BT80 × Int) := none    -- Bedrock and predicted carrier phase at the start of the burst, until judged (R379)
  burstDop : Int := 0                   -- Doppler, Bedrock and GNS_AID_CLK at the start of the prediction: the end of the last burst (R378)
  burstAt : BT80 := 0
  burstClk : Int := 0
  missRow : Nat := 0                    -- consecutive burst misses
  trk : Word := 0                       -- GCH_TRK, GCH_LOOP and milliseconds of the integration under way (R359, R360)
  lp : Word := 0
  tint : Nat := 1
  pll : Bool := false                   -- the PLL is engaged in PULLIN (R357)
  stopAt : Option BT80 := none          -- cycle of the latest STOP, and of the START accepted (R353)
  startAt : Option BT80 := none
  deriving DecidableEq, Repr

/-- An acquisition request (R340, R346). -/
structure AcqReq where
  prn : Nat
  sig : Nat
  ant : Nat
  chan : Nat
  handoff : Bool
  dopc : Int
  span : Nat
  tcoh : Nat
  nnc : Nat
  thr : Nat
  tag : Nat
  deriving DecidableEq, Repr

/-- State of the acquisition engine beside its registers. -/
structure Acq where
  chq : List AcqReq                     -- requests of channels that wait, first first (R346, R347)
  active : Option (AcqReq × BT80)       -- the request being searched and its snapshot start
  noHand : Bool                         -- its handoff was withdrawn by a START or STOP of the channel (R351)
  swLast : Bool                         -- software was served last
  sw : Bool                             -- the request being searched is software's
  begun : Bool                          -- its capture has begun (R339)
  mem : List Byte                       -- the sample memory (R338)
  deriving DecidableEq, Repr

/-- State of the GNS block beside its registers. -/
structure Gns where
  chs : AMap Gch
  acq : Acq
  trainAt : Option BT80                 -- start of the training under way
  antLow : AMap (Option (BT80 × Bool))  -- ANT_FLT low since, and whether the supply was switched off for it (R337)
  lastEpoch : Option WT96               -- last measurement epoch produced (R366)
  stepNo : Nat                          -- BDR steps that have taken effect
  down : AMap (Option BT80)             -- since when an enabled lane has not been ALIGNED
  lastEco : Option Nat                  -- last served second at which economy was evaluated (R376)
  deriving DecidableEq, Repr

/-- What the spoofing check takes from one measurement record (R410, R411). -/
structure EpRec where
  sig : Nat
  prn : Nat
  ant : Nat
  car : Int                             -- carrier phase, 2^-32 cycle
  ok : Bool                             -- its flags allow it
  deriving DecidableEq, Repr

/-- State of the ANT block beside its registers. -/
structure Ant where
  svAt : AMap (Option Nat)              -- served second of the last write of ANT_SVk_B (R409)
  failRow : AMap Nat                    -- consecutive FAIL and PASS epochs of each set (R413)
  passRow : AMap Nat
  jamRow : AMap Nat                     -- consecutive evaluations above JLIM and at most JCLR, of each set (R405)
  clrRow : AMap Nat
  recs : List EpRec                     -- records of the present epoch gathered for its check, and the epoch (R411)
  recAt : WT96
  notchDue : List Nat                   -- lanes whose notches change at the next sample frame boundary (R403)
  pulse : Option (BT80 × BT80 × Bool)   -- pending GNSS_PPS: leading and trailing edge, and whether the first has been driven
  deriving DecidableEq, Repr

/-! ### Time-interval measurement -/

/-- A stored result (R437). -/
structure TdcResult where
  bt : BT80
  cnt : Word
  flg : Word
  bad : Bool                            -- stored with wrong parity (R452)
  deriving DecidableEq, Repr

/-- State of one TDC channel beside its registers. -/
structure TdcCh where
  cnt : Word := 0                       -- edge counter (R431)
  due : Word := 1                       -- number of the edge due next (R432)
  lastCap : Option BT80 := none         -- Bedrock of the previous captured edge
  arm : Nat := 0                        -- captures left of the arming
  armAt : Nat := 0                      -- cycle of the arming event (R443)
  enAt : Nat := 0                       -- cycle of the write that set EN (R431)
  fifo : List TdcResult := []
  ovf : Bool := false                   -- OVF and DEAD to set in the next stored result
  dead : Bool := false
  lost : Option (BT80 × TdcResult × Bool) := none  -- result lost to a full FIFO, the cycle, and OVF before it (R439)
  deriving DecidableEq, Repr

/-- A gate: the level of its pin, its sample with the polarity applied, the one before and the cycle of the change (R443). -/
structure GatePin where
  pin : Bool := false
  lvl : Bool := false
  prev : Bool := false
  at_ : BT80 := 0
  deriving DecidableEq, Repr

/-- State of the TDC block beside its registers. -/
structure Tdc where
  chs : AMap TdcCh
  gates : AMap GatePin
  calCh : Option Nat                    -- channel under test (R447)
  deriving DecidableEq, Repr

/-! ### Ports -/

/-- What a port is sending (R477, R483, R495, R729). -/
inductive TxKind where
  | queued | pause (v : Nat) | esmc
  deriving DecidableEq, Repr

/-- A frame in transmission, without its FCS. -/
structure TxFrame where
  kind : TxKind
  data : List Byte
  ts : Option (Nat × Word)              -- queue and TAG of its TX_TS completion (R539)
  free : Option (Nat × Nat)             -- buffer and the queue it returns to (R734)
  deriving DecidableEq, Repr

/-- State of one port beside its registers. -/
structure Prt where
  tx : Option TxFrame := none
  rxMode : Nat := 1                     -- mode in force on the receive and on the transmit path (R473)
  txMode : Nat := 1
  pauseReq : Option Bool := none        -- a PAUSE frame is requested; whether as a refresh (R476, R477)
  lastPause : Option Nat := none        -- value of the last PAUSE frame sent, and when
  pauseAt : BT80 := 0
  pauseTo : Option BT80 := none         -- end of the partner pause (R479)
  esmcSec : Nat := 0                    -- served second of esmcCnt, the PDUs accepted in it (R494)
  esmcCnt : Nat := 0
  codes : Option (Nat × Nat) := none    -- SSM and eSSM last sent (R495)
  infoSec : Option Nat := none          -- served second of the last information PDU
  deriving DecidableEq, Repr

/-! ### Launch reservations and lane models -/

/-- A boundary-phase model of one lane in one direction (R510): boundary k lies per * (k - k0) / 2^32 after p0. -/
structure LaneModel where
  valid : Bool := false
  k0 : Nat := 0
  p0 : BT80 := 0
  per : Nat := 0                        -- mean block period, 2^-48 ns
  visit : BT80 := 0                     -- Bedrock of the latest visit (R511)
  deriving DecidableEq, Repr

/-- What a class-6 descriptor submitted (R528, R726, R734). -/
structure Submission where
  data : List Byte                      -- the frame without its FCS
  free : Option (Nat × Nat)             -- buffer and the queue it returns to
  ts : Option (Nat × Word)              -- queue and TAG of its TX_TS completion (R539)
  deriving DecidableEq, Repr

/-- A reserved launch slot (R519 to R537). -/
structure TsuSlot where
  port : Nat
  tag : Word
  cq : Nat
  len : Nat
  k : Nat                               -- boundary of the timestamp point
  lo : Nat                              -- first and last block of the span (R524)
  hi : Nat
  tx : BT80
  wt : WT96
  sub : Option Submission
  begun : Bool                          -- the start block has been sent
  bad : Bool                            -- the entry was written with wrong check bits (R545)
  ts : Option TimeStatus := none        -- time status that the evaluation at its boundary carried (R152)
  deriving DecidableEq, Repr

/-- State of the four TSUs beside their registers. -/
structure Tsu where
  slots : AMap (Option TsuSlot)         -- keyed TSU * 2048 + handle
  lanes : AMap LaneModel                -- keyed lane * 2, and + 1 for the receive direction
  temp : AMap Int                       -- latest temperature sample of each TSU, 1/16 °C (R514)
  lostAt : AMap (Option BT80)           -- Bedrock since which an enabled port has had no transmit model (R545)
  deriving DecidableEq, Repr

/-! ### Facet engines -/

/-- Thread states (R549). -/
inductive ThState where
  | halt | run | wait | fault
  deriving DecidableEq, Repr

/-- What a thread waits on (R594). -/
inductive WaitOn where
  | none | event | queue | crypto | barrier | sema
  deriving DecidableEq, Repr

/-- The waiting instruction of a thread in WAIT, with the operands that its completion needs. -/
inductive Waiting where
  | nothing
  | ewait (rd : Nat)
  | qpush (rd q : Nat) (addr : DWord)
  | qpop (rd q : Nat) (addr : DWord)
  | bar (rd b : Nat)
  | sacq (rd sem : Nat)
  | csub (rd : Nat) (addr : DWord)
  | cwait (rd ticket : Nat)
  | done (rd : Nat) (v : DWord)         -- the condition holds: the result to write on resuming
  deriving DecidableEq, Repr

/-- A crypto ticket of a thread: its completion word once the operation has completed (R630). -/
structure Ticket where
  num : Nat
  done : Option Word
  deriving DecidableEq, Repr

/-- One hardware thread (R546, R549, R594, R638). -/
structure Thread where
  st : ThState := .halt
  waitOn : WaitOn := .none
  user : Bool := false
  cause : BitVec 4 := 0
  pc : DWord := 0
  g : AMap DWord := []                  -- g1..g31; g0 reads 0 (R546)
  epc : DWord := 0
  badaddr : DWord := 0
  sscr : DWord := 0
  jrnl : Word := 0
  bcast : DWord := 0
  tmr : WT96 := 0
  tmrArmed : Bool := false
  fifo : List Word := []                -- event FIFO, oldest first (R573)
  ovfMark : Bool := false               -- OVF to set in the next entry stored (R574)
  tickets : List Ticket := []           -- outstanding crypto tickets (R630)
  nextTicket : Nat := 0
  posted : List DWord := []             -- outstanding posted stores, by address (R610)
  postErr : Option DWord := none        -- error response to a posted store not yet raised (R610)
  waiting : Waiting := .nothing
  haltDue : Bool := false               -- HALT came once the awaited condition held: it follows the instruction (R633)
  deriving DecidableEq, Repr

/-- State of one engine beside its registers and memory. -/
structure Engine where
  since : Option BT80 := none           -- its clock's time as it left a reset of its own (CYCLE, R638)
  wasEn : Bool := false                 -- effective EN as last seen (R549)
  winPos : Nat := 0                     -- instructions retired in the sampling window (R588)
  winOfs : Nat := 0                     -- tagged offset of the window
  winFixed : Bool := false              -- drawn while the DRBG withheld output (R589)
  deriving DecidableEq, Repr

/-- A load of a signed image in progress (R562). -/
structure ImgLoad where
  kind : Nat
  imemOfs : Nat
  imemSize : Nat
  dmemOfs : Nat
  dmemSize : Nat
  addr : Nat := 0                       -- where the image stands, and its header as it was verified
  hdr : List Byte := []
  deriving DecidableEq, Repr

/-- State of one cluster beside its registers and memories. -/
structure Cluster where
  load : Option ImgLoad := none
  ranS : Option ImgLoad := none         -- ranges of the supervisor or control image loaded
  ranU : Option ImgLoad := none         -- ranges of the user image loaded
  samples : List (List Word) := []      -- sample buffer, oldest first (R590)
  smpLost : Bool := false               -- LOST to set in the next sample stored
  smpFull : Bool := false               -- SMP_FULL raised for this filling
  deriving DecidableEq, Repr

/-- State of one hardware queue (R566). -/
structure Queue where
  base : Word := 0
  waiter : Nat := 0
  user : Bool := false
  waitEn : Bool := false
  en : Bool := false
  esize : Nat := 0
  log2 : Nat := 0
  head : Nat := 0
  tail : Nat := 0
  pops : List Nat := []                 -- threads waiting to pop, rising
  pushes : List Nat := []               -- threads waiting to push, rising
  deriving DecidableEq, Repr

/-- State of one semaphore; owner and waiters by their 12-bit IDs, waiters longest first (R582, R583). -/
structure Sem where
  owner : Option Nat := none
  broken : Bool := false
  waiters : List Nat := []
  lastAt : BT80 := 0                    -- cycle in which the latest waiters began to wait, and how many they are (R583)
  lastN : Nat := 0
  deriving DecidableEq, Repr

/-- State of the Facet blocks. -/
structure Facet where
  threads : AMap Thread                 -- keyed engine * 4 + thread
  engines : AMap Engine
  clusters : AMap Cluster
  queues : AMap Queue
  sems : AMap Sem
  arrived : AMap (List Nat)             -- threads arrived at each barrier (R577)
  lmem : AMap Byte                      -- keyed engine * 2^16 + offset
  dmem : AMap Byte                      -- keyed cluster * 2^19 + offset
  imem : AMap Byte                      -- keyed cluster * 2^17 + offset
  since : BT80                          -- Bedrock as the last chip reset ended (CYCLE, R638)
  stopped : BT80                        -- time for which the gated clusters have been stopped in QUIESCENT
  deriving DecidableEq, Repr

/-! ### Serving -/

/-- A line of the Quarry record cache: its bucket and whether it is dirty (R659). -/
structure QLine where
  bucket : Nat
  dirty : Bool
  used : Nat                            -- order of the latest use
  deriving DecidableEq, Repr

/-- Where the messages to a client go: its MAC and tags, and for IP both addresses and the DSCP (R652). -/
structure Env where
  port : Nat
  mac : List Byte
  tags : List Byte                      -- the tag bytes before the Ethertype
  v : Nat                               -- 4 or 6, 0 over Ethernet
  src : List Byte                       -- the service address
  dst : List Byte
  dscp : Nat
  deriving DecidableEq, Repr

/-- A launch of a Sync or Announce under way: the cluster that counts it, and the Follow_Up that waits for it (R683, R684). -/
structure Watch where
  cl : Nat
  port : Nat
  fup : Option (List Byte)              -- the frame of the Follow_Up
  sent : Bool                           -- the launch's completion reads SENT
  deriving DecidableEq, Repr

/-- An upstream session (R698, R699). -/
structure UpSess where
  asked : Option Nat := none            -- served second of the latest request for grants
  dreq : Option Int := none             -- granted Delay_Resp log interval
  dreqAt : Option WT96 := none          -- served time of the latest Delay_Req
  annAt : Option BT80 := none           -- Bedrock of the latest Announce, or of the start of the session
  annLog : Int := 0                     -- its log interval
  gm : Option Nat := none               -- grandmasterIdentity of the session
  src : Option Nat := none              -- its sourcePortIdentity
  seqs : AMap Nat := []                 -- latest sequenceId by messageType, and of the device's own by 16 + messageType
  lost : Bool := false
  deriving DecidableEq, Repr

/-- State of the serving code and of the QRY block beside their registers (R640). -/
structure Svc where
  seeds : Option (DWord × DWord)        -- seed1 and seed2 once drawn (R656)
  seedTry : BT80                        -- latest attempt to draw them
  cache : AMap (Option QLine)           -- record cache, keyed set * 16 + way
  cdata : AMap Byte                     -- bytes of the cached lines, by DRAM offset
  tick : Nat                            -- uses counted for the replacement order
  excTok : AMap (Nat × BT80)            -- credit of an exception ring, in frames * 10^9 * 2^16, and when it was brought up to date
  nakSec : Nat                          -- served second of nakCnt (R676)
  nakCnt : Nat
  vlogSec : Nat                         -- served second of vlogCnt (R703)
  vlogCnt : Nat
  seqs : AMap Nat                       -- sequenceIds of multicast instances: (instance * 16 + port) * 2, + 1 for Announce
  grp : AMap Nat                        -- granted launches of each port group, in 1/16 per second (R693)
  sessEnv : AMap (Option Env)           -- where a session's messages go
  quar : AMap (Option WT96)             -- served time at which a session's quarantine ends (R695)
  tried : AMap (Option WT96)            -- latest target tried of each scheduled message (R683)
  watch : AMap (Option Watch)           -- launches of Sync and Announce, keyed TSU * 2048 + handle
  ups : AMap UpSess
  flushAt : Option BT80                 -- start of a FLUSH and of a CLEAR under way (R660)
  clearAt : Option (BT80 × Bool)        -- with whether new seeds are drawn after it
  deriving DecidableEq, Repr

/-! ### Scheduling and policing -/

/-- One transmit class of a port: deficit, tokens and the values in force (R729, R732, R733). -/
structure SchCls where
  def_ : Int := 0
  fresh : Bool := true
  tok : Int := 0                        -- 2^-16 byte
  rem : Nat := 0
  rate : Nat := 0
  burst : Nat := 16384
  wgt : Nat := 1
  qpos : Nat := 0                       -- queue visited next
  deriving DecidableEq, Repr

/-- State of the SCH block beside its registers. -/
structure Sch where
  cls : AMap SchCls                     -- keyed port * 8 + class
  rr : AMap Nat                         -- class visited next by each port
  period : Nat                          -- refill period in force, ns
  refillAt : BT80
  pinLow : Bool                         -- HALT_TX_N is low
  wrAt : AMap (Option BT80)             -- Bedrock of the latest write of a staged register (R733)
  deriving DecidableEq, Repr

/-- State of the POL block beside its registers. -/
structure Pol where
  tok : AMap Nat                        -- tokens and remainder of each policer, keyed port * 8 + class (R722)
  rem : AMap Nat
  refillAt : BT80
  deriving DecidableEq, Repr

/-! ### Keys, life cycle and cryptography -/

/-- An MRAM key slot: the wrapped key, its counter, and whether its CRC is good (R757, R760). -/
structure KeySlot where
  wrapped : List Byte
  ctr : Nat
  crcOk : Bool
  deriving DecidableEq, Repr

/-- State of the KEY block beside its registers. -/
structure Key where
  lode : Option (BitVec 256)            -- the Lodestone register (R748)
  staged : Option (BitVec 256 × Nat)    -- staged key and its counter (R756)
  accepted : Option (BitVec 256 × Nat)  -- an envelope that passed the checks of R755 and is not yet staged
  committing : Option (BitVec 256 × Nat)  -- the key and counter of the commit in progress (R757)
  cache : List (List Byte)              -- subkey cache tags, latest used first (R750)
  slots : AMap (Option KeySlot)         -- MRAM key slots 0 and 1
  mramCtr : Nat                         -- MRAM counter word
  geoCtr : Option Nat                   -- mirror in the Geode, none while invalid
  deriving DecidableEq, Repr

/-- A request for DRBG output that waits while output is withheld (R777). -/
inductive DrbgUser where
  | crypto (th num : Nat)
  deriving DecidableEq, Repr

/-- State of the TRN block beside its registers. -/
structure Trn where
  passAt : Option BT80                  -- when the latest start-up test passed
  reseedAt : BT80
  requests : Nat                        -- since the latest reseed (R774)
  waits : List (BT80 × DrbgUser)
  deriving DecidableEq, Repr

/-- A crypto descriptor taken and not completed (R768). -/
structure CryOp where
  th : Nat
  num : Nat
  user : Bool
  desc : List Byte
  access : Bool                         -- the checks of SRC and DST passed (R771)
  deriving DecidableEq, Repr

/-- State of the LCS block beside its registers: what the fuses hold (R742). -/
structure Lcs where
  fused : Nat                           -- recorded life-cycle state
  owner : Option (List Word)            -- OWNER_HASH once blown
  deriving DecidableEq, Repr

/-! ### The mate link -/

/-- An armed handover: its slot, due time, whether ACK_HO was exchanged and whether it is a reversion (R812, R816). -/
structure HoArm where
  slot : Nat
  due : WT96
  acked : Bool
  reversion : Bool
  deriving DecidableEq, Repr

/-- State of the MATE block beside its registers. -/
structure Mate where
  txSeq : AMap Nat                      -- next sequence number of each frame type (R798)
  rxSeq : Option Nat                    -- sequence of the last MIRROR frame (R811)
  malfRow : AMap Nat                    -- consecutive malformed frames on each lane (R800)
  goodRow : AMap Nat                    -- consecutive valid frames on each lane (R800)
  heard : Bool                          -- something heard in this interval (R803)
  missRow : Nat                         -- consecutive intervals not heard
  lastHeard : BT80                      -- Bedrock when the peer was last heard, or of the start of discovery (R804)
  activeLow : Option BT80               -- Bedrock since which MATE_ACTIVE_IN has been low (R805)
  healthOut : Bool                      -- level of MATE_HEALTH_OUT
  activeOut : Bool                      -- level of MATE_ACTIVE_OUT
  ho : List HoArm                       -- armed handovers, latest first
  switchAt : Option BT80                -- the switch instant S of a handover (R814)
  leaveAt : Option BT80                 -- S + 20 µs: the old active becomes STANDBY
  hoRev : Bool                          -- that switch is a reversion
  goodSince : Option WT96               -- served time since which GOOD has been 1 (R816)
  shadowBad : Option BT80               -- Bedrock of the last record mismatch (R810)
  paired : Nat                          -- captures paired in the last whole second (R809)
  lost : Bool                           -- the condition of PEER_LOST holds (R806)
  oldWord : Bool                        -- the last word heard is of before a switch to STANDBY (R814)
  stAt : Option BT80                    -- Bedrock of the last write with ST=1 (R811)
  caps : List BT80                      -- MATE_PPS_IN captures awaiting a TIME frame, oldest first
  times : List WT96                     -- TIME frames awaiting a capture, oldest first
  residSec : Nat                        -- served second of residSum
  residSum : Int
  residCnt : Nat
  stepped : Bool                        -- served time stepped since the previous TIME frame (R798)
  mirrorQ : List (List Byte)            -- MIRROR bodies waiting to be sent, oldest first
  peerHw : Option Word                  -- last word heard, none before the first
  peerSer : Nat                         -- serial of its sender
  deriving DecidableEq, Repr

/-! ### Faults, events and performance counters -/

/-- One performance counter (R842, R855). -/
structure Counter where
  cfg : Option Word := none              -- configuration of an engine or cluster counter, once written
  count : BitVec 48 := 0
  ovf : Bool := false
  snap : BitVec 48 := 0
  snapOvf : Bool := false
  deriving DecidableEq, Repr

/-- State of the FLT, EVT and PMU blocks beside their registers. -/
structure Flt where
  timers : AMap (Option BT80)           -- escalation timer of a source: Bedrock of its start (R825)
  forceBad : List Nat                   -- raised sources whose MATE_HANDOVER holds GOOD at 0 (R824)
  chipRst : Bool                        -- a CHIP_RESET taken as an action holds FAULT_N low (R829)
  ccLost : Bool                         -- LOST to set in the next element pushed (R837)
  counters : AMap Counter               -- engine e: 16 e + i; cluster c: 16 (512 + c) + i; chip: 9216 + j
  pmuSel : AMap Nat                     -- PMU_SEL.UNIT of each master (R845)
  msixMask : List Nat                   -- vectors masked in the MSI-X table
  msixPend : List Nat                   -- pending bits of the MSI-X table (R836)
  risen : List Nat                      -- events that have risen and are to be delivered at the end of the cycle (R838)
  unmasked : List Nat                   -- pending events whose EVT_HMASK bit a write of the cycle has cleared (R836)
  escs : List Nat                       -- sources whose escalation timer expires in the cycle (R825, R826)
  acts : List (Nat × Nat)               -- actions due in the cycle: source and code (R828)
  faultN : Bool                         -- level of FAULT_N
  deriving DecidableEq, Repr

/-! ### Interconnect, memories and host interfaces -/

/-- Who waits for the answer to a request: nobody in the device, a thread's load into rd, a thread's posted store, a thread that
reserves a launch, or a calendar slot (R610, R623, R866). -/
inductive Reply where
  | plain
  | load (k rd : Nat) (signed : Bool)
  | store (k : Nat)
  | rsv (k rd ra rb : Nat)
  | slot (n : Nat)
  deriving DecidableEq, Repr

/-- Where a request that waits stands: at its master's port, 64 others being outstanding (R859); held back by the matrix (R860, R861);
or admitted, and outstanding at its target. -/
inductive Stage where
  | port | back | sent
  deriving DecidableEq, Repr

/-- A request that waits: at a page whose domain is stopped or held in reset (R864), for a sum (R873), or in the matrix (R859 to
R861). -/
structure MtxReq where
  who : Master
  addr : Nat
  write : Bool
  val : Word
  mask : Word := 0xFFFFFFFF             -- bits written (a calendar WRITE, R107)
  reply : Reply := .plain
  pc : Option DWord := none             -- PC of an engine's store (R884)
  size : Nat := 4                       -- bytes
  hi : Word := 0                        -- upper word written, of 8 bytes
  id : Nat := 0                         -- transaction ID (R859)
  stage : Stage := .sent
  issued : BT80
  deriving DecidableEq, Repr

/-- A page of a DRAM channel that has shown correctable errors (R877). -/
structure CePage where
  page : Nat
  count : Nat
  first : BT80
  last : BT80
  deriving DecidableEq, Repr

/-- State of one DRAM channel beside its registers. -/
structure Ddr where
  zeroed : Bool := false                -- zeroed since the last cold reset (R919)
  training : Bool := false
  scrub : Bool := false                 -- a pass asked for by SCRUB_NOW is under way (R876)
  tracked : List CePage := []
  deriving DecidableEq, Repr

/-- The MRAM write journal (R885). -/
structure Journal where
  valid : Bool := false                 -- an entry passed step 1 and is not closed
  crcOk : Bool := true
  dst : Nat := 0
  data : List Byte := []
  deriving DecidableEq, Repr

/-- A journalled write or a host ring's MRAM_WRITE under way or waiting: origin ring, or none for MRM_J_CMD. -/
structure JWrite where
  ring : Option Nat
  dst : Nat
  data : List Byte
  deriving DecidableEq, Repr

/-- State of the MRAM block beside its registers. -/
structure Mrm where
  journal : Journal
  active : Option JWrite
  waiting : List JWrite
  remap : Option Nat                    -- logical sector being remapped (R882)
  remapQ : List Nat                     -- sectors whose remap waits for it
  spares : Nat                          -- spare sectors used (R882)
  heldWr : List (Nat × Byte)            -- writes held until the switch (MRAM offset, byte)
  deriving DecidableEq, Repr

/-- An entry of a host command ring that has started (R889). -/
structure RingCmd where
  seq : Word
  opcode : Nat
  mute : Bool := false                  -- the link has gone down under it: its host writes are dropped (R887)
  orphan : Bool := false                -- PERST_N has reset its ring (R917)
  deriving DecidableEq, Repr

/-- State of the PCI block beside its registers. -/
structure Pci where
  linkUp : Bool
  perst : Bool                          -- PERST_N asserted
  running : AMap (Option RingCmd)       -- entry under way on each command ring
  rr : Nat                              -- ring visited last (R889)
  deriving DecidableEq, Repr

/-- One UART (R896). -/
structure Uart where
  tx : List Byte := []
  txAt : BT80 := 0                      -- Bedrock at which the character now sent began
  rx : List Word := []                  -- received characters with their FE, PE, OVR flags
  brk : Bool := false
  ovr : Bool := false
  deriving DecidableEq, Repr

/-- State of the LSP block beside its registers. -/
structure Lsp where
  uarts : AMap Uart
  qspi : Option (Bool × Nat × Nat)      -- transfer under way: write, buffer, length
  i2c : AMap (Option Nat)               -- transfer under way on a master, with the bytes it reads
  invBusy : Bool
  gpioIn : Word                         -- synchronised input levels
  gpioCal : Word                        -- levels driven by calendar pulses
  deriving DecidableEq, Repr

/-! ### Power, reset and the Geode -/

/-- Power and reset state beside the registers. -/
structure Pwr where
  good : Bool                           -- PWR_GOOD
  held : Bool                           -- a chip reset holds the device until it is released
  bootPend : Bool                       -- the boot steps of R923 have not run since the last reset
  coldPend : Bool                       -- that reset was cold
  entering : Bool                       -- QUIESCE accepted, entry not complete (R915)
  exiting : Bool                        -- a wake request has started the exit (R916)
  wakeHeld : Bool                       -- a wake request arrived during entry
  wakeAt : Option BT80                  -- cycle of the latest wake request (R914)
  stopAt : BT80                         -- Bedrock at which the clocks stopped
  bootJtag : Bool                       -- the latest load of cluster 63 came from JTAG (R926)
  strapB4 : Bool                        -- level of COMPAT_B4 as last given
  strapPref : Bool                      -- level of MATE_PREF as last given
  oscRatio : Nat                        -- APLL ratio, 100 or 50; 0 before the oscillator is measured (R66)
  goodAt : BT80
  deriving DecidableEq, Repr

/-- State of the Geode beside its registers (R927 to R940). -/
structure Geo where
  secs : BitVec 48
  sub : BitVec 15
  busy : Option (Nat × Nat)             -- a write under way: offset in the page, value (R929)
  holdTicks : Nat                       -- ticks the counter is still held by a negative trim (R931)
  turned : Bool                         -- the present second was reached by counting, and its alarm has not fired (R930, R933)
  wakeOut : Bool                        -- WAKE_OUT driven low
  deriving DecidableEq, Repr

/-! ### The whole device -/

/-- ASY before the first transition or command of a cycle, with what of its registers those write (R144). -/
structure AsyBase where
  asy : Asy
  seq : DWord                           -- ASY_REC_SEQ
  drop : Word                           -- ASY_CNT_DROP
  evt : Word                            -- EVT_RAW
  tstat : Word                          -- ASY_TSTAT
  deriving DecidableEq, Repr

/-- The KEY page before the KEY_CMD writes of the cycle, and those writes (R759). -/
structure KeyBase where
  staged : Option (BitVec 256 × Nat)
  accepted : Option (BitVec 256 × Nat)
  committing : Option (BitVec 256 × Nat)
  slots : AMap (Option KeySlot)
  stat : Word                           -- KEY_STAT
  csw : Word                            -- KEY_CSW
  cnt : Word                            -- KEY_CNT_REJ
  cmds : List (Nat × Word)              -- the writes, in the order of R759, each with its writer's place in that order
  deriving DecidableEq, Repr

/-- What the present cycle of CD_TB has brought, where it bears on what else may come about in it. (DESIGN CHOICE, log 102.) -/
structure ThisCyc where
  set : AMap Word := []                 -- W1C bits that the device has set, by register (R12)
  cal : List (Nat × Word × Word) := []  -- words the calendar has written: offset, bits written, value (R49)
  rank : AMap Nat := []                 -- BDR value: one more than the place in the order of R79 of the writer whose commit stands
  taken : List Nat := []                -- slots taken (R114, R116)
  judge : List Nat := []                -- those of them whose COND waits for the end of the cycle (R113)
  begun : Bool := false                 -- an action has been initiated (R116)
  asyBase : Option AsyBase := none      -- ASY before the cycle's transitions and commands (R144)
  asyHw : Option TimeStatus := none     -- target of the highest transition that is no command's (R144)
  asyCmd : Option (BT80 × AsyParts × AsySet) := none  -- the ASY change of the cycle, and the set before it (R147)
  stepped : Bool := false               -- a BDR step has taken effect, to which a declaration gives way (R144)
  asyNew : Bool := false                -- the pending ASY change is of a commit of this cycle (R521)
  jrnl : List Nat := []                 -- threads that have executed JRNL (R635)
  vec : AMap Nat := []                  -- by engine, one more than the highest thread that has written VEC (R638)
  ctrOld : AMap (Option (BitVec 48)) := []  -- counters written: what each would hold without the write (R843)
  ctrClr : Bool := false                -- CLR_ALL has been written
  ctrWrap : List Nat := []              -- counters that have wrapped
  key : Option KeyBase := none          -- KEY before the cycle's KEY_CMD writes (R759)
  pwrCmds : List (Nat × Nat × Nat) := []  -- PWR_CMD writes in the order of R941: place in the order, CMD, the code of a write that none may make
  quies : Bool := false                 -- one of them has been accepted as QUIESCE
  cancelled : List (Nat × Nat) := []    -- reservations cancelled without a frame: 2048 g + HANDLE, and port (R530)
  deriving DecidableEq, Repr

/-- The state of the device. -/
structure State where
  bt : BT80                             -- Bedrock (R63)
  btRun : Bool                          -- Bedrock runs (R66)
  thisCyc : ThisCyc                     -- what the present cycle has brought
  regs : AMap Word                      -- every register, at its BAR0 offset (R5)
  staged : AMap (Option Word)           -- staged words, keyed writer * 2^26 + offset (R19, R23)
  shadow : AMap Word                    -- shadow words, keyed master * 2^26 + offset (R15, R17)
  sram : AMap Byte                      -- shared SRAM
  dram : AMap Byte                      -- DRAM, by DRAM offset (R874)
  mram : AMap Byte                      -- MRAM, by physical address (R879)
  badWords : AMap Bool                  -- memory words whose check bits are wrong (R833)
  free : Nat                            -- counter of free values (the model's own)
  out : List Output                     -- what the device has given out, oldest first
  bdr : Bdr
  act : Act
  asy : Asy
  fct : Facet
  flt : Flt
  mtx : List MtxReq                     -- requests that wait, in the order in which they came (R859 to R864)
  jtagErr : Bool                        -- sticky error bit in the JTAG access status (R866)
  ddr : AMap Ddr                        -- keyed by channel
  mrm : Mrm
  pci : Pci
  lsp : Lsp
  tsu : Tsu
  mate : Mate
  pwr : Pwr
  geo : Geo
  ref : Ref
  dpl : AMap Dpl                        -- keyed by loop
  syn : AMap Syn                        -- keyed by synthesiser
  outs : Outs
  tdc : Tdc
  gns : Gns
  ant : Ant
  prt : AMap Prt                        -- keyed by port; 16 is MGMT
  svc : Svc
  sch : Sch
  pol : Pol
  key : Key
  trn : Trn
  cry : List CryOp                      -- descriptors in flight, oldest first
  lcs : Lcs
  pending : List Instr                  -- commands waiting, first in first out
  deriving DecidableEq, Repr

/-- The parameters after a BDR reset (R84). -/
def TimeParams.reset (now : BT80) : TimeParams :=
  { ofs := 0, rate := 0, anch := now, slewAct := false, sbeg := 0, amt := 0, dur := 0 }

/-- BDR after a reset that ends at a Bedrock value (R84). -/
def Bdr.reset (now : BT80) : Bdr :=
  { par := TimeParams.reset now, pend := none, pendCyc := 0, pendCom := 0, queCom := 0, parCom := now, queued := none, held := [],
    hist := [(now, TimeParams.reset now)], prevTai := none, cvtReady := now }

/-- ACT after reset: every slot EMPTY, no initiation queued (R119). -/
def Act.reset : Act := { slots := [], initQ := [], pulses := [] }

/-- The set of component values after reset (R169). -/
def AsySet.reset : AsySet := { vals := [], latched := [], lu := none, tlu := 0 }

/-- ASY after reset: the time status is UNSET (R141). -/
def Asy.reset (now : BT80) : Asy :=
  { cur := AsySet.reset, hist := [(now, AsySet.reset)], staged := [], ts := .unset, cycTs := none,
    updSince := none, pend := none, queued := none, held := [], dtmax := 0, dtHeld := false, lastTemp := now,
    lastSec := none, startPend := false, chgSec := 0, chgCount := 0, chgMask := 0, coalesced := false,
    gap := false, stage := List.replicate 16 none, stgNext := 0, ringFull := false, refs := [] }

/-- The Facet blocks after a chip reset: every thread in HALT, no image loaded, every queue disabled, every
semaphore free, no member at any barrier. (DESIGN CHOICE, log 2.) -/
def Facet.reset : Facet :=
  { threads := [], engines := [], clusters := [], queues := [], sems := [], arrived := [], lmem := [],
    dmem := [], imem := [], since := 0, stopped := 0 }

/-- FLT, EVT and PMU after a chip reset. -/
def Flt.reset : Flt :=
  { timers := [], forceBad := [], chipRst := false, ccLost := false, counters := [], pmuSel := [],
    msixMask := [], msixPend := [], risen := [], unmasked := [], escs := [], acts := [], faultN := true }

/-- MRAM block state as delivered: no journal entry, nothing in progress. -/
def Mrm.reset : Mrm :=
  { journal := { }, active := none, waiting := [], remap := none, remapQ := [], spares := 0, heldWr := [] }

/-- PCI block state with the link down. -/
def Pci.reset : Pci := { linkUp := false, perst := false, running := [], rr := 3 }

/-- LSP block state after reset. -/
def Lsp.reset : Lsp := { uarts := [], qspi := none, i2c := [], invBusy := false, gpioIn := 0, gpioCal := 0 }

/-- The TSUs after reset: no reservation, lane models invalid. -/
def Tsu.reset : Tsu := { slots := [], lanes := [], temp := [], lostAt := [] }

/-- MATE after reset at a Bedrock value: role SOLO, lanes down, its outputs low. (DESIGN CHOICE, log 2.) -/
def Mate.reset (now : BT80) : Mate :=
  { txSeq := [], rxSeq := none, malfRow := [], goodRow := [], heard := false, missRow := 0, lastHeard := now, activeLow := some now,
    healthOut := false, activeOut := false, ho := [], switchAt := none, leaveAt := none, hoRev := false, goodSince := none,
    shadowBad := none, paired := 0, lost := false, oldWord := false, stAt := none, caps := [], times := [], residSec := 0, residSum := 0, residCnt := 0,
    stepped := false, mirrorQ := [], peerHw := none, peerSer := 0 }

/-- Power state right after the wipe of a cold reset. -/
def Pwr.reset : Pwr :=
  { good := true, held := false, bootPend := true, coldPend := true, entering := false, exiting := false, wakeHeld := false, wakeAt := none, stopAt := 0, bootJtag := false,
    strapB4 := false, strapPref := false, oscRatio := 100, goodAt := 0 }
/-- The Geode after its own power-on reset (R927). -/
def Geo.reset : Geo := { secs := 0, sub := 0, busy := none, holdTicks := 0, turned := false, wakeOut := false }

/-- REF after reset: every entry disabled. (DESIGN CHOICE, log 2.) -/
def Ref.reset : Ref := { ents := [], tods := [], fbDue := [], rescan := [], prioStage := [] }

/-- The outputs after reset: none aligned, every pulse output stopped, EFC_PWM high-impedance. (DESIGN CHOICE, log 2.) -/
def Outs.reset : Outs := { sync := 0, align := [], pps := [], efcBy := none, efc := {}, clk := [] }

/-- TDC after reset: every channel disabled and empty. (DESIGN CHOICE, log 2.) -/
def Tdc.reset : Tdc := { chs := [], gates := [], calCh := none }

/-- The GNSS receiver after reset: every channel IDLE, the engine idle. (DESIGN CHOICE, log 2.) -/
def Gns.reset : Gns :=
  { chs := [], acq := { chq := [], active := none, noHand := false, swLast := false, sw := false, begun := false, mem := [] }, trainAt := none, antLow := [],
    lastEpoch := none, stepNo := 0, down := [], lastEco := none }

/-- ANT after reset: no flag raised, no pulse pending. -/
def Ant.reset : Ant :=
  { svAt := [], failRow := [], passRow := [], jamRow := [], clrRow := [], recs := [], recAt := 0, notchDue := [],
    pulse := none }

/-- The serving code and the Quarry after reset: unseeded, nothing cached, no session. (DESIGN CHOICE, log 2.) -/
def Svc.reset : Svc :=
  { seeds := none, seedTry := 0, cache := [], cdata := [], tick := 0, excTok := [], nakSec := 0, nakCnt := 0, vlogSec := 0,
    vlogCnt := 0, seqs := [], grp := [], sessEnv := [], quar := [], tried := [], watch := [], ups := [], flushAt := none,
    clearAt := none }

/-- SCH after reset: no deficit, no tokens, HALT_TX_N high. -/
def Sch.reset : Sch := { cls := [], rr := [], period := 1000, refillAt := 0, pinLow := false, wrAt := [] }

/-- POL after reset: empty buckets. -/
def Pol.reset : Pol := { tok := [], rem := [], refillAt := 0 }

/-- KEY after reset: the Lodestone register empty; MRAM and Geode counters as delivered. -/
def Key.reset : Key :=
  { lode := none, staged := none, accepted := none, committing := none, cache := [], slots := [], mramCtr := 0, geoCtr := none }

/-- TRN after reset: the first start-up test has not passed. -/
def Trn.reset : Trn := { passAt := none, reseedAt := 0, requests := 0, waits := [] }

/-- LCS of a device as delivered: BLANK, no owner. (DESIGN CHOICE, log 87.) -/
def Lcs.reset : Lcs := { fused := 0, owner := none }
/-- The device right after a cold reset: its memories wiped, its blocks READY, its time base running; Bedrock at 0.
(DESIGN CHOICE, log 1, 2, 7.) -/
def State.reset : State :=
  { bt := 0, btRun := true, thisCyc := { }, regs := [], staged := [], shadow := [], sram := [], dram := [], mram := [],
    badWords := [], free := 0, out := [],
    bdr := Bdr.reset 0,
    act := Act.reset,
    asy := Asy.reset 0,
    fct := Facet.reset,
    flt := Flt.reset,
    mtx := [],
    jtagErr := false,
    ddr := [],
    mrm := Mrm.reset,
    pci := Pci.reset,
    lsp := Lsp.reset,
    tsu := Tsu.reset,
    mate := Mate.reset 0,
    pwr := Pwr.reset,
    geo := Geo.reset,
    ref := Ref.reset,
    dpl := [],
    syn := [],
    outs := Outs.reset,
    tdc := Tdc.reset,
    gns := Gns.reset,
    ant := Ant.reset,
    prt := [],
    svc := Svc.reset,
    sch := Sch.reset,
    pol := Pol.reset,
    key := Key.reset,
    trn := Trn.reset,
    cry := [],
    lcs := Lcs.reset,
    pending := [] }

end Sys2Proof.Machine
end

