-- ==== Sys2Proof/Machine/Ops.lean ====
section
/-! DEFINITION. The named operations over the register file, the page headers, the memories and the outputs, on which every
meaning is built. -/
namespace Sys2Proof.Machine

/-! ### Pages and rows -/

/-- The page an offset of BAR0 lies in: its row, its instance number and the offset in the page (R2, R965). -/
def pageIn : List PageRow → Nat → Option (PageRow × Nat × Nat)
  | [], _ => none
  | p :: t, a =>
    if p.base ≤ a ∧ a < p.base + p.count * 0x1000 then
      some (p, (a - p.base) / 0x1000, (a - p.base) % 0x1000)
    else pageIn t a

/-- The page an offset of BAR0 lies in (R965). -/
def pageAt (a : Nat) : Option (PageRow × Nat × Nat) := pageIn pageTable a

/-- Index of the register and word within a row that an offset names, if the row holds it. -/
def RegRow.at? (r : RegRow) (off : Nat) : Option (Nat × Nat × Nat) :=
  if off < r.off ∨ off % 4 ≠ 0 then none
  else
    let d := off - r.off
    let i := if r.n = 1 then 0 else d / r.stride
    let d1 := d - i * r.stride
    let j := if r.m = 1 then 0 else d1 / r.stride2
    let d2 := if r.m = 1 then (if r.n = 1 then d else d1) else d1 - j * r.stride2
    if i < r.n ∧ j < r.m ∧ d2 / 4 < r.words then some (i, j, d2 / 4) else none

/-- The row of a page that holds an offset, with index, inner index and word. -/
def rowIn : List RegRow → Nat → Option (RegRow × Nat × Nat × Nat)
  | [], _ => none
  | r :: t, off =>
    match r.at? off with
    | some (i, j, w) => some (r, i, j, w)
    | none => rowIn t off

/-- The register at an offset of a kind of page. -/
def rowAt (k : PageKind) (off : Nat) : Option (RegRow × Nat × Nat × Nat) := rowIn (rowsOf k) off

/-- Bits of one word of a register that its access types let a master change. -/
def RegRow.mask (r : RegRow) (full w : Nat) : Nat := if w + 1 = r.words then full else if full = 0 then 0 else r.lo

/-! ### Root keys (R745, R746) -/

/-- The eight ASCII bytes of a label. -/
def label8 (s : String) : List Byte := s.toList.map (fun c => BitVec.ofNat 8 c.toNat)
/-- A key of 256 bits derived from a root with no context (R745). -/
def rootKey (root : List Byte) (lab : String) : List Byte := kdf root (label8 lab) [] 256
/-- The identity public key of a root (R745). -/
def idPublic (root : List Byte) : List Byte := edPublic (rootKey root "B5IDENT1")
/-- The transport public key of a root (R745). -/
def xPublic (root : List Byte) : List Byte := x25519 (rootKey root "B5XPORT1") (bytesLE 32 9)
/-- Word i of a key: byte 0 lies in bits [31:24] of word 0 (R786). -/
def keyWord (k : List Byte) (i : Nat) : Word := BitVec.ofNat 32 (beAt k (4 * i) 4)
/-- ROOT of the fuses (R742). (DESIGN CHOICE, log 8.) -/
def fieldRoot : List Byte := bytesBE 32 Config.fuseRoot.toNat
/-- The test root (R743). -/
def testRoot : List Byte := List.replicate 32 0xA5

/-! ### Reset values -/

/-- Reset values that depend on the instance, on the fuses or on what an implementation fixes. Registers kept in fuses read what
`Config` gives. (DESIGN CHOICE, log 1, 8.) -/
def dynReset (k : PageKind) (inst off i j : Nat) : Word :=
  match k with
  | .flt => BitVec.ofNat 32 (domOf i * 0x10000 + sevOf i)                       -- R851
  | .ddr => Config.ddrTiming i                                                   -- R902
  | .mrm =>                                                                      -- R903: sector k starts at physical sector k
    BitVec.ofNat 32 (4 * i + (4 * i + 1) * 0x100 + (4 * i + 2) * 0x10000 + (4 * i + 3) * 0x1000000)
  | .ref =>                                                                      -- R181, R218
    if off % 32 = 0x18 then
      BitVec.ofNat 32 ((if i < 16 then 0 else if i < 32 then 1 else if i < 40 then 2 else if i < 44 then 3 else if i < 46 then 4 else 5) *
        2 ^ 28 + 0xFFFF10)
    else if 16 ≤ i ∧ i ≤ 31 then 0x32FFFE04#32
    else if 32 ≤ i ∧ i ≤ 39 then 0x03FFFE07#32
    else if i < 16 then 0x14FFFE07#32
    else if 40 ≤ i ∧ i ≤ 43 then 0x14FFFE02#32
    else 0x14FFFE00#32
  | .dpl =>                                                                      -- R265 to R267
    if off = 0x040 then BitVec.ofNat 32 ((inst % 4) * 16 + (if inst = 0 then 0 else 1))
    else if off = 0x044 then (if inst = 0 then 0x603#32 else 0xE0C#32)
    else (if inst = 0 then 0x300#32 else 0xC00#32)
  | .out =>                                                                      -- R315
    if off = 0x100 + 32 * i then BitVec.ofNat 32 (0x1000 + (i % 4) * 16) else Config.fuseCal 1 inst off &&& 0x1FF#32
  | .pps => Config.fuseCal 2 inst off &&& 0x1FF#32
  | .ant => if i = 0 then 0x3F#32 else 0#32                                      -- R422
  | .tdc =>                                                                      -- R450
    if off = 0x100 + 32 * i then BitVec.ofNat 32 ((if i < 16 then i else 0x3F) * 0x1000000)
    else if off < 0x700 then Config.fuseCal 3 inst off &&& 0xFFFF#32
    else Config.fuseCal 3 inst off
  | .tsu => if off < 0x200 then Config.fuseCal 4 inst off else Config.fuseCal 4 inst off &&& 0xFFFF#32
  | .prt =>                                                                      -- R500: GMODE, and the watermarks of a 100G port
    if off = 0x040 then (if inst % 4 = 0 then 2#32 else 0#32)
    else if inst % 4 = 0 then BitVec.ofNat 32 (1536 + 768 * 0x10000) else BitVec.ofNat 32 (384 + 192 * 0x10000)
  | .sch => if j < 6 then (if off % 16 = 8 then 16384#32 else 1#32) else 0#32      -- R738
  | .lcs => if 0x060 ≤ off ∧ off < 0x080 then 0 else Config.fuseWord off          -- R786
  | .key => if off < 0x0A0 then keyWord (idPublic fieldRoot) i else keyWord (xPublic fieldRoot) i   -- R746
  | _ => 0

/-- The value of a register right after a chip reset, at an offset of BAR0; 0 at an offset that holds none (R9).
(DESIGN CHOICE, log 1, 98.) -/
def resetAt (a : Nat) : Word :=
  match pageAt a with
  | none => 0
  | some (p, inst, off) =>
    if off = 0x00C then 1                                                        -- READY (R27)
    else if off = 0x014 ∧ p.kind = .evt then 0xFFFFFFFF#32                        -- R839
    else if off < 0x040 then 0
    else
      match rowAt p.kind off with
      | none => 0
      | some (r, i, j, w) =>
        if r.dyn then dynReset p.kind inst off i j else BitVec.ofNat 32 (r.reset >>> (32 * w))

/-! ### The register file -/

/-- The stored value of the register at an offset. -/
def State.reg (s : State) (a : Nat) : Word := AMap.getD resetAt s.regs a

/-- Store a register. -/
def State.setReg (s : State) (a : Nat) (v : Word) : State :=
  { s with regs := AMap.setD resetAt s.regs a v }

/-- A field of a register, as a number. -/
def State.rf (s : State) (a lo n : Nat) : Nat := fld (s.reg a) lo n

/-- One bit of a register. -/
def State.rb (s : State) (a i : Nat) : Bool := bit (s.reg a) i

/-- Store a field of a register. -/
def State.setRf (s : State) (a lo n v : Nat) : State := s.setReg a (setFld (s.reg a) lo n v)

/-- Store one bit of a register. -/
def State.setRb (s : State) (a i : Nat) (b : Bool) : State := s.setRf a i 1 (b2n b)

/-- The W1C bits of a register that the device has set in this cycle (R12). -/
def State.setNow (s : State) (a : Nat) : Word := AMap.get 0 s.thisCyc.set a

/-- The device sets a W1C bit: a write of 1 to it in the same cycle does not clear it (R12). While Bedrock stands still no cycle of
CD_TB is counted, and nothing is noted. -/
def State.hwSet (s : State) (a i : Nat) : State :=
  let t := s.setRb a i true
  if s.btRun then { t with thisCyc := { t.thisCyc with set := AMap.set 0 t.thisCyc.set a (setBit (s.setNow a) i true) } } else t

/-- The next cycle of CD_TB begins at a Bedrock value. (DESIGN CHOICE, log 102.) -/
def State.atCycle (s : State) (b : BT80) : State := { s with bt := b, thisCyc := { } }

/-- The number in n consecutive registers, lowest word first. -/
def State.regN (s : State) (a : Nat) : Nat → Nat
  | 0 => 0
  | n + 1 => s.regN a n + 2 ^ (32 * n) * (s.reg (a + 4 * n)).toNat

/-- Store a number in n consecutive registers, lowest word first. -/
def State.setRegN (s : State) (a v : Nat) : Nat → State
  | 0 => s
  | n + 1 => (s.setRegN a v n).setReg (a + 4 * n) (BitVec.ofNat 32 (v >>> (32 * n)))

/-- Count n in a read-clear counter, which saturates at all ones (R14). -/
def State.countBy (s : State) (a n : Nat) : State :=
  s.setReg a (BitVec.ofNat 32 (satU 32 ((s.reg a).toNat + n)))

/-- Count one in a read-clear counter (R14). -/
def State.count (s : State) (a : Nat) : State := s.countBy a 1

/-- Drop every register of a range of offsets back to its reset value. -/
def State.resetRegs (s : State) (lo n : Nat) : State := { s with regs := AMap.clearRange s.regs lo n }

/-- A 32-bit calibration quantity as used: the saturated signed sum of its factory and user layers (R30, R31). -/
def State.ecal32 (s : State) (fcal ucal : Nat) : Int := satS 32 ((s.reg fcal).toInt + (s.reg ucal).toInt)

/-- A 16-bit calibration quantity as used (R30, R31). -/
def State.ecal16 (s : State) (fcal ucal : Nat) : Int :=
  satS 16 ((bits (s.reg fcal) 0 16).toInt + (bits (s.reg ucal) 0 16).toInt)

/-! ### Outputs and free values -/

/-- Give something out. -/
def State.emit (s : State) (o : Output) : State := { s with out := s.out ++ [o] }

/-- A value the spec leaves open. (DESIGN CHOICE, log 5.) -/
def State.freeVal (s : State) : Nat := Config.freeValue s.free

/-- The state after a free value has been taken: the next one differs. (DESIGN CHOICE, log 5.) -/
def State.nextFree (s : State) : State := { s with free := s.free + 1 }

/-! ### Masters -/

/-- The number of a master: its ID on the fast matrix (R858). (DEDUCED, log 12.) -/
def masterId : Master → Nat
  | .cluster c => c.val
  | .host => 64
  | .jtag => 65
  | .calendar => 66

/-- The master that shares a shadow: the host, the control cluster and JTAG each have one (R17). (DEDUCED, log 12.) -/
def shadowKey (m : Master) (a : Nat) : Nat := 2 ^ 26 * masterId m + a

/-- The key of a word that a writer has staged (R23). (DEDUCED, log 12.) -/
def stageKey (m : Master) (a : Nat) : Nat := 2 ^ 26 * masterId m + a

/-- A shadow word; 0 until a read of _LO has written it (R18). -/
def State.shadowOf (s : State) (m : Master) (a : Nat) : Word := AMap.get 0 s.shadow (shadowKey m a)

/-- Write a shadow word. -/
def State.setShadow (s : State) (m : Master) (a : Nat) (v : Word) : State :=
  { s with shadow := AMap.set 0 s.shadow (shadowKey m a) v }

/-- The word a writer has staged, if any (R23). -/
def State.stagedOf (s : State) (m : Master) (a : Nat) : Option Word :=
  AMap.get none s.staged (stageKey m a)

/-- Stage a word for a writer (R19). -/
def State.setStaged (s : State) (m : Master) (a : Nat) (v : Option Word) : State :=
  { s with staged := AMap.set none s.staged (stageKey m a) v }

/-- Drop the words a writer has staged for the n words at an offset. -/
def State.dropStaged (s : State) (m : Master) (a : Nat) : Nat → State
  | 0 => s
  | n + 1 => (s.dropStaged m a n).setStaged m (a + 4 * n) none

/-- Drop every staged word of a range of offsets, of every writer (R22). -/
def State.dropStagedRange (s : State) (lo n : Nat) : State :=
  { s with staged := s.staged.filter (fun p => !(decide (lo ≤ p.1 % 2 ^ 26) && decide (p.1 % 2 ^ 26 < lo + n))) }

/-- The words a _HI write commits: what this writer staged, and the committed value for the rest (R19, R23). -/
def State.commitWords (s : State) (m : Master) (a n : Nat) (hi : Word) : Nat :=
  let rec go : Nat → Nat
    | 0 => 0
    | k + 1 =>
      let w := if k + 1 = n then hi else (s.stagedOf m (a + 4 * k)).getD (s.reg (a + 4 * k))
      go k + 2 ^ (32 * k) * w.toNat
  go n

/-! ### Page headers (R24) -/

/-- CTRL.EN of the page at a base. (DEDUCED, log 18.) -/
def State.pgEn (s : State) (pg : Nat) : Bool := s.rb (pg + 0x008) 0
/-- CTRL.SOFT_RESET of a page: 1 while its reset runs. -/
def State.pgRst (s : State) (pg : Nat) : Bool := s.rb (pg + 0x008) 1
/-- CTRL.FREEZE of a page. -/
def State.pgFrz (s : State) (pg : Nat) : Bool := s.rb (pg + 0x008) 2
/-- CTRL.CFG_LOCK of a page. -/
def State.pgLock (s : State) (pg : Nat) : Bool := s.rb (pg + 0x008) 3
/-- EVT_PEND of a page: EVT_RAW AND EVT_EN. -/
def State.evtPend (s : State) (pg : Nat) : Word := s.reg (pg + 0x010) &&& s.reg (pg + 0x014)
/-- A FLT_RAW bit of a page. -/
def State.fltBit (s : State) (pg i : Nat) : Bool := s.rb (pg + 0x020) i
/-- An INJECT bit of a page (R833). -/
def State.inject (s : State) (pg i : Nat) : Bool := s.rb (pg + 0x024) i

/-! ### Memories -/

/-- n bytes of a byte store from a key. (DESIGN CHOICE, log 4.) -/
def readBytes (m : AMap Byte) (a : Nat) : Nat → List Byte
  | 0 => []
  | n + 1 => AMap.get 0 m a :: readBytes m (a + 1) n

/-- Write bytes into a byte store from a key. -/
def writeBytes (m : AMap Byte) (a : Nat) : List Byte → AMap Byte
  | [] => m
  | b :: t => writeBytes (AMap.set 0 m a b) (a + 1) t

/-- Bytes of shared SRAM (R976). (DESIGN CHOICE, log 4.) -/
def State.sramRd (s : State) (a n : Nat) : List Byte := readBytes s.sram a n
/-- Write bytes of shared SRAM. -/
def State.sramWr (s : State) (a : Nat) (l : List Byte) : State := { s with sram := writeBytes s.sram a l }
/-- A little-endian word of shared SRAM (R976). -/
def State.sramW (s : State) (a : Nat) : Word := BitVec.ofNat 32 (natLE (s.sramRd a 4))
/-- Bytes of DRAM, by DRAM offset. (DESIGN CHOICE, log 4.) -/
def State.dramRd (s : State) (a n : Nat) : List Byte := readBytes s.dram a n
/-- Write bytes of DRAM. -/
def State.dramWr (s : State) (a : Nat) (l : List Byte) : State := { s with dram := writeBytes s.dram a l }

/-! ### Engine addresses of the shared memories (R554) -/

/-- First engine address of shared SRAM, of MRAM, of the register pages and of DRAM (R554). -/
@[reducible] def eaSram : Nat := 0x10000000
@[reducible] def eaMram : Nat := 0x20000000
@[reducible] def eaPages : Nat := 0x40000000
@[reducible] def eaDram : Nat := 0x1000000000

/-- Bytes of DRAM populated: both channels' capacity (R874), less the top 2 MiB, which answer with an error. -/
def State.dramSize (s : State) : Nat :=
  if s.rb (Reg.DDR_CFG 0) 0 then 2 ^ 35 - 2 ^ 21 else 2 ^ 34 - 2 ^ 21

/-- The n bytes at an engine address lie wholly in shared SRAM. -/
def inSram (a n : Nat) : Bool := decide (eaSram ≤ a) && decide (a + n ≤ eaSram + 2 ^ 25)
/-- The n bytes at an engine address lie wholly in the DRAM range of R554. -/
def inDram (a n : Nat) : Bool := decide (eaDram ≤ a) && decide (a + n ≤ eaDram + 2 ^ 35)

/-- Bytes at an engine address in shared SRAM or DRAM; zeros elsewhere. -/
def State.sharedRd (s : State) (a n : Nat) : List Byte :=
  if inSram a n then s.sramRd (a % eaSram) n
  else if inDram a n then s.dramRd (a % eaDram) n
  else List.replicate n 0

/-- Note the check bits of the 8-byte words of n bytes at a key as written: wrong while injected, else good (R833). (DEDUCED, log 21.) -/
def markBad (inj : Nat → Bool) (base off n : Nat) (s : State) : State :=
  let lo := off - off % 8
  forN ((off + n - lo + 7) / 8) (fun i a => { a with badWords := AMap.set false a.badWords (base + lo + 8 * i) (inj (lo + 8 * i)) }) s

/-- Some 8-byte word of n bytes at a key has wrong check bits. -/
def State.wordBad (s : State) (base off n : Nat) : Bool :=
  s.badWords.any (fun p => p.2 && decide (base + off < p.1 + 8) && decide (p.1 < base + off + n))

/-- The words of n bytes at a DRAM offset are written: with wrong check bits while their channel injects them (R833, R906). -/
def markDram (o n : Nat) (s : State) : State :=
  if s.badWords.isEmpty && !s.inject (Reg.DDR 0) 0 && !s.inject (Reg.DDR 1) 0 then s
  else markBad (fun a => s.inject (Reg.DDR (a / 256 % 2)) 0) (2 ^ 40 + eaDram) o n s

/-- Write bytes at an engine address in shared SRAM or DRAM; nothing elsewhere. -/
def State.sharedWr (s : State) (a : Nat) (l : List Byte) : State :=
  if inSram a l.length then s.sramWr (a % eaSram) l
  else if inDram a l.length then markDram (a % eaDram) l.length (s.dramWr (a % eaDram) l)
  else s

end Sys2Proof.Machine
end

