-- ==== Sys2Proof/Machine/Threads.lean ====
section
/-! DEFINITION. Engine threads, their event FIFOs and the hardware queues: the operations that the other blocks use on them
(chapter 12). -/
namespace Sys2Proof.Machine

/-- Thread number engine * 4 + thread (R582). -/
def thKey (e : Fin 512) (t : Fin 4) : Nat := e.val * 4 + t.val

/-- A thread, by its number. -/
def State.th (s : State) (k : Nat) : Thread := AMap.get { } s.fct.threads k
/-- Store a thread. -/
def State.setTh (s : State) (k : Nat) (t : Thread) : State :=
  { s with fct := { s.fct with threads := AMap.set { } s.fct.threads k t } }
/-- An engine, by its number. -/
def State.eng (s : State) (e : Nat) : Engine := AMap.get { } s.fct.engines e
/-- Store an engine. -/
def State.setEng (s : State) (e : Nat) (x : Engine) : State :=
  { s with fct := { s.fct with engines := AMap.set { } s.fct.engines e x } }
/-- A cluster, by its number. -/
def State.clu (s : State) (c : Nat) : Cluster := AMap.get { } s.fct.clusters c
/-- Store a cluster. -/
def State.setClu (s : State) (c : Nat) (x : Cluster) : State :=
  { s with fct := { s.fct with clusters := AMap.set { } s.fct.clusters c x } }
/-- A hardware queue, by its number. -/
def State.queue (s : State) (q : Nat) : Queue := AMap.get { } s.fct.queues q
/-- Store a hardware queue. -/
def State.setQueue (s : State) (q : Nat) (x : Queue) : State :=
  { s with fct := { s.fct with queues := AMap.set { } s.fct.queues q x } }
/-- A semaphore, by its number. -/
def State.sem (s : State) (n : Nat) : Sem := AMap.get { } s.fct.sems n
/-- Store a semaphore. -/
def State.setSem (s : State) (n : Nat) (x : Sem) : State :=
  { s with fct := { s.fct with sems := AMap.set { } s.fct.sems n x } }
/-- Threads that have arrived at a barrier (R577). -/
def State.arrivedAt (s : State) (b : Nat) : List Nat := AMap.get [] s.fct.arrived b
/-- Store the arrivals at a barrier. -/
def State.setArrived (s : State) (b : Nat) (l : List Nat) : State :=
  { s with fct := { s.fct with arrived := AMap.set [] s.fct.arrived b l } }

/-- A general register of a thread; g0 reads 0 (R546). -/
def Thread.rg (t : Thread) (r : Nat) : DWord := if r = 0 then 0 else AMap.get 0 t.g r
/-- Write a general register; a write of g0 is discarded (R603). -/
def Thread.setRg (t : Thread) (r : Nat) (v : DWord) : Thread :=
  if r = 0 then t else { t with g := AMap.set 0 t.g r v }

/-- A header bit of the engine, its cluster or its quadrant; QDR3 does not reach cluster 63 (R51, R56). -/
def State.engAncestor (s : State) (e : Nat) (f : State → Nat → Bool) : Bool :=
  f s (Reg.CLU (e / 8)) || (decide (e / 8 ≠ 63) && f s (Reg.QDR (e / 128)))

/-- The engine's effective EN: its own and that of every ancestor that reaches it (R51, R551). -/
def State.engEn (s : State) (e : Nat) : Bool :=
  s.pgEn (Reg.ENG e) && s.pgEn (Reg.CLU (e / 8)) && (decide (e / 8 = 63) || s.pgEn (Reg.QDR (e / 128)))

/-- The engine or an ancestor is in reset (R51, R575). -/
def State.engRst (s : State) (e : Nat) : Bool :=
  s.pgRst (Reg.ENG e) || s.engAncestor e State.pgRst

/-- STAT.FROZEN as stored for a page: its block has reached the safe point (R27). (DEDUCED, log 16.) -/
def State.pgFrozen (s : State) (pg : Nat) : Bool := s.rb (pg + 0x00C) 2

/-- The engine is frozen, by itself or by an ancestor (R52). -/
def State.engFrozen (s : State) (e : Nat) : Bool :=
  s.pgFrozen (Reg.ENG e) || s.engAncestor e State.pgFrozen

/-- The time an engine's clock has run: Bedrock, less the time the gated clusters have been stopped (R58). -/
def State.engClock (s : State) (e : Nat) : BT80 := if e / 8 = 63 then s.bt else s.bt - s.fct.stopped

/-- Post an entry into a thread's event FIFO; the second result is true when it was dropped (R573, R574). -/
def postEvent (k source code : Nat) (s : State) : State × Bool :=
  let t := s.th k
  if 16 ≤ t.fifo.length then (s.setTh k { t with ovfMark := true }, true)
  else
    let w := BitVec.ofNat 32 (code % 2 ^ 24 + source * 2 ^ 24 + b2n t.ovfMark * 2 ^ 31)
    (s.setTh k { t with fifo := t.fifo ++ [w], ovfMark := false }, false)

/-! ### Queues (R566 to R572) -/

/-- Element size in bytes (R566). -/
def Queue.size (q : Queue) : Nat := 16 * 2 ^ q.esize
/-- Capacity in elements (R566). -/
def Queue.cap (q : Queue) : Nat := 2 ^ q.log2
/-- Depth: (TAIL - HEAD) mod 2^(LOG2+1) (R567). -/
def Queue.depth (q : Queue) : Nat := (q.tail + 2 ^ (q.log2 + 1) - q.head % 2 ^ (q.log2 + 1)) % 2 ^ (q.log2 + 1)
/-- Engine address of element i of the ring (R567). -/
def Queue.slot (q : Queue) (i : Nat) : Nat := q.base.toNat * 64 + (i % q.cap) * q.size

/-- Status of a push or pop (R569, R624). -/
inductive QStatus where
  | ok | empty | full | disabled
  deriving DecidableEq, Repr

/-- The code of a status (R624). -/
def QStatus.code : QStatus → Nat
  | .ok => 0 | .empty => 1 | .full => 2 | .disabled => 3

/-- Push an element: the status, the thread whose FIFO dropped the QUEUE event of R571, and the state (R569, R571). -/
def queuePush (n : Nat) (data : List Byte) (s : State) : QStatus × Option Nat × State :=
  let q := s.queue n
  if ¬ q.en then (.disabled, none, s)
  else if q.cap ≤ q.depth then (.full, none, s)
  else
    let s1 := s.sharedWr (q.slot q.tail) (sliceB data 0 q.size)
    let s2 := s1.setQueue n { q with tail := (q.tail + 1) % 2 ^ (q.log2 + 1) }
    if q.depth = 0 ∧ q.waitEn then
      match postEvent q.waiter 1 n s2 with
      | (s3, true) => (.ok, some q.waiter, s3)
      | (s3, false) => (.ok, none, s3)
    else (.ok, none, s2)

/-- Pop an element: the status, the element and the state (R569). -/
def queuePop (n : Nat) (s : State) : QStatus × List Byte × State :=
  let q := s.queue n
  if ¬ q.en then (.disabled, [], s)
  else if q.depth = 0 then (.empty, [], s)
  else
    (.ok, s.sharedRd (q.slot q.head) q.size, s.setQueue n { q with head := (q.head + 1) % 2 ^ (q.log2 + 1) })

end Sys2Proof.Machine
end

