-- ==== Sys2Proof/Machine/Events.lean ====
section
/-! DEFINITION. Events and their delivery, and the performance counters (R835 to R848). -/
namespace Sys2Proof.Machine

/-- The pages and EVT_RAW bits that event n shows: a list of page base and bit mask (R835, and the event tables of the chapters). -/
def evtSources (n : Nat) : List (Nat × Nat) :=
  if 384 ≤ n ∧ n < 448 then
    let c := n - 384
    (Reg.CLU c, 0xF) :: (List.range 8).map (fun i => (Reg.ENG (8 * c + i), 0xF))            -- R55
  else if 135 ≤ n ∧ n ≤ 138 then (List.range 64).map (fun i => (Reg.GCH (64 * (n - 135) + i), 0x3F))
  else if 104 ≤ n ∧ n < 112 ∧ n % 2 = 0 then [(Reg.SYN ((n - 104) / 2), 0x5)]                  -- R312
  else if 104 ≤ n ∧ n < 112 then [(Reg.SYN ((n - 104) / 2), 0x2)]
  else
    let one (base first : Nat) : List (Nat × Nat) := [(base, 2 ^ (n - first))]
    if 480 ≤ n ∧ n < 512 then one Reg.EVT 480
    else if 478 ≤ n then one Reg.MGMT 478
    else if 476 ≤ n then one Reg.SEM 476
    else if 471 ≤ n then []
    else if 466 ≤ n then one Reg.LSP 466
    else if 462 ≤ n then one Reg.PCI 462
    else if 459 ≤ n then one Reg.MRM 459
    else if 457 ≤ n then one (Reg.DDR 1) 457
    else if 455 ≤ n then one (Reg.DDR 0) 455
    else if 454 ≤ n then one Reg.MTX 454
    else if 452 ≤ n then one Reg.PMU 452
    else if 448 ≤ n then one Reg.FLT 448
    else if 363 ≤ n then []
    else if 352 ≤ n then one Reg.MATE 352
    else if 337 ≤ n then []
    else if 336 ≤ n then one Reg.CRY 336
    else if 330 ≤ n then []
    else if 328 ≤ n then one Reg.TRN 328
    else if 324 ≤ n then []
    else if 320 ≤ n then one Reg.KEY 320
    else if 300 ≤ n then []
    else if 296 ≤ n then one Reg.QRY 296
    else if 280 ≤ n then []
    else if 276 ≤ n then one Reg.POL 276
    else if 275 ≤ n then []
    else if 272 ≤ n then one Reg.SCH 272
    else if 256 ≤ n then one (Reg.TSU ((n - 256) / 4)) (n - (n - 256) % 4)
    else if 192 ≤ n then one (Reg.PRT ((n - 192) / 4)) (n - (n - 192) % 4)
    else if 146 ≤ n then []
    else if 141 ≤ n then one Reg.ANT 141
    else if 139 ≤ n then one Reg.NAV 139
    else if 133 ≤ n then one Reg.ACQ 133
    else if 128 ≤ n then one Reg.GNS 128
    else if 125 ≤ n then []
    else if 120 ≤ n then one Reg.TDC 120
    else if 116 ≤ n then one Reg.PPS 116
    else if 112 ≤ n then one Reg.OUT 112
    else if 72 ≤ n then one (Reg.DPL ((n - 72) / 4)) (n - (n - 72) % 4)
    else if 64 ≤ n then one Reg.REF 64
    else if 55 ≤ n then []
    else if 48 ≤ n then one Reg.ASY 48
    else if 45 ≤ n then []
    else if 40 ≤ n then one Reg.ACT 40
    else if 36 ≤ n then []
    else if 32 ≤ n then one Reg.BDR 32
    else if 27 ≤ n then []
    else if 24 ≤ n then one Reg.GEO 24
    else if 18 ≤ n then []
    else if 16 ≤ n then one Reg.LCS 16
    else if 12 ≤ n then []
    else if 8 ≤ n then one Reg.PWR 8
    else []

/-- Event n is pending (R835). -/
def State.evtPending (s : State) (n : Nat) : Bool :=
  (evtSources n).any (fun p => decide ((s.evtPend p.1).toNat &&& p.2 ≠ 0))

/-- The instance number of the page at a base, and its kind. -/
def pageKindOf (pg : Nat) : Option (PageKind × Nat) := (pageAt pg).map (fun r => (r.1.kind, r.2.1))

/-- The event that an EVT_RAW bit of the page at a base raises. -/
def evtNo (pg i : Nat) : Option Nat :=
  match pageKindOf pg with
  | some (k, inst) => evtOf k inst i
  | none => none

/-- The fault source of a FLT_RAW bit of the page at a base. -/
def fltNo (pg i : Nat) : Option Nat :=
  match pageKindOf pg with
  | some (k, inst) => srcOf k inst i
  | none => none

/-! ### Counters (R842 to R848) -/

/-- A counter, by its key (see `Flt.counters`). -/
def State.ctr (s : State) (k : Nat) : Counter := AMap.get { } s.flt.counters k
/-- Store a counter. -/
def State.setCtr (s : State) (k : Nat) (c : Counter) : State :=
  { s with flt := { s.flt with counters := AMap.set { } s.flt.counters k c } }

/-- The configuration word of a counter: chip counters keep it in PMU_Cj_CFG, the others with the counter (R855). -/
def State.ctrCfg (s : State) (k : Nat) : Word :=
  if 9216 ≤ k then s.reg (Reg.PMU_C_CFG (k - 9216))
  else (s.ctr k).cfg.getD (if k < 8192 then 0x3F00 else 0)

/-- Counters count: GEN is set and the PMU's configuration parity is good (R842, R856). -/
def State.pmuOn (s : State) : Bool := s.rb Reg.PMU_CTL 0 && !s.fltBit Reg.PMU 0

/-- What a counter written in this cycle would hold without the write; none if it was not written (R843). -/
def State.ctrUnwritten (s : State) (k : Nat) : Option (BitVec 48) :=
  match AMap.get none s.thisCyc.ctrOld k with
  | some c => some c
  | none => if s.thisCyc.ctrClr then some 0 else none

/-- Note that a counter is written in this cycle (R843). -/
def noteCtr (k : Nat) (s : State) : State :=
  match s.ctrUnwritten k with
  | some _ => s
  | none => { s with thisCyc := { s.thisCyc with ctrOld := AMap.set none s.thisCyc.ctrOld k (some (s.ctr k).count) } }

/-- Add one to a counter; the second result says that it wrapped (R842). In the cycle of a write of the counter the increment is
discarded, but a wrap still sets OVF (R843). -/
def bumpCtr (k : Nat) (s : State) : State × Bool :=
  let c := s.ctr k
  let was := s.ctrUnwritten k
  let n := was.getD c.count
  let wrap := decide (n = BitVec.allOnes 48)
  let s1 := match was with
    | none => s.setCtr k { c with count := n + 1, ovf := c.ovf || wrap }
    | some _ => { s.setCtr k { c with ovf := c.ovf || wrap } with
        thisCyc := { s.thisCyc with ctrOld := AMap.set none s.thisCyc.ctrOld k (some (n + 1)) } }
  let s2 := if wrap then { s1 with thisCyc := { s1.thisCyc with ctrWrap := insNat s1.thisCyc.ctrWrap k } } else s1
  (if wrap && decide (k < 9216) then s2.setReg Reg.PMU_OVF_UNIT (BitVec.ofNat 32 (k / 16)) else s2, wrap)

/-- The chip counters that count a chip event of an instance: enabled, with that EVENT and INST (R848). -/
def State.chipCtrs (s : State) (code inst : Nat) : List Nat :=
  if ¬ s.pmuOn then []
  else
    (s.regs.filter (fun p =>
      decide (Reg.PMU_C_CFG 0 ≤ p.1 ∧ p.1 ≤ Reg.PMU_C_CFG 63 ∧ p.1 % 32 = 0) &&
      bit p.2 31 && decide (fld p.2 0 8 = code) &&
      (decide (fld p.2 16 8 = inst) || (code == 0x0E && decide (fld p.2 16 8 = 0xFF)) ||
        [0x01, 0x06, 0x07, 0x08, 0x09, 0x0C, 0x0D, 0x0F, 0x10, 0x11].contains code))).map
      (fun p => 9216 + (p.1 % 0x1000 - 0x400) / 32)

/-- Count a chip event in the counters that select it; the second result says that one wrapped. -/
def bumpChip (code inst : Nat) (s : State) : State × Bool :=
  (s.chipCtrs code inst).foldl (fun a k => let r := bumpCtr k a.1; (r.1, a.2 || r.2)) (s, false)

/-! ### Raising and delivering events -/

/-- Send an MSI-X vector, or hold it in the pending bits while it is masked (R836). -/
def sendMsix (n : Nat) (s : State) : State × Bool :=
  if s.flt.msixMask.contains n then
    ({ s with flt := { s.flt with msixPend := insNat s.flt.msixPend n } }, false)
  else bumpChip 0x10 0 ((s.emit (.msix n)).count Reg.EVT_CNT_MSG)

/-- The element pushed for an event (R837). -/
def ccElement (s : State) (n : Nat) : List Byte :=
  bytesLE 2 (n + b2n s.flt.ccLost * 2 ^ 15) ++ bytesLE 10 s.bt.toNat ++ [0, 0, 0, 0]

/-- Push an event's element for the control cluster; the second result is the engine whose event FIFO overflowed (R837). -/
def pushCc (n : Nat) (s : State) : State × Option Nat :=
  match queuePush (s.rf Reg.EVT_CC_Q 0 18) (ccElement s n) s with
  | (.ok, ovf, s1) => ({ s1 with flt := { s1.flt with ccLost := false } }, ovf.map (· / 4))
  | (_, _, s1) => ({ s1.count Reg.EVT_CNT_CCLOST with flt := { s1.flt with ccLost := true } }, none)

/-- Deliver the rise of event n to the host and the control cluster as its masks allow (R836, R837); while EVT STORE is set
every event is delivered (R834). The other results say that a counter wrapped and name an engine whose FIFO overflowed. -/
def deliverOnce (n : Nat) (s : State) : State × Bool × Option Nat :=
  let all := s.fltBit Reg.EVT 0
  let r1 := if all || !s.rb (Reg.EVT_HMASK (n / 32)) (n % 32) then sendMsix n s else (s, false)
  let r2 := if (all || !r1.1.rb (Reg.EVT_CMASK (n / 32)) (n % 32)) && r1.1.rb Reg.EVT_CC_Q 31 then pushCc n r1.1
            else (r1.1, none)
  (r2.1, r1.2, r2.2)

/-- Set an EVT_RAW bit of the page at a base by the hardware path; an event that rises is delivered at the end of the cycle (R835,
R838). -/
def raiseEvt (pg i : Nat) (s : State) : State :=
  let s1 := s.hwSet (pg + 0x010) i
  match evtNo pg i with
  | none => s1
  | some n =>
    if s.evtPending n || !s1.evtPending n then s1
    else { s1 with flt := { s1.flt with risen := insNat s1.flt.risen n } }

/-- After a write of a page's EVT_RAW or EVT_EN, note the events that have risen since `old` (R835, R838). -/
def evtRecheck (pg : Nat) (old s : State) : State :=
  ((List.range 32).filterMap (evtNo pg)).foldl
    (fun a n => if !old.evtPending n && s.evtPending n then { a with flt := { a.flt with risen := insNat a.flt.risen n } } else a) s

/-- Deliver event n; a counter that wraps and an engine whose event FIFO overflows raise their events. -/
def deliver (n : Nat) (s : State) : State :=
  match deliverOnce n s with
  | (s2, wrap, ovf) =>
    let s3 := if wrap then raiseEvt Reg.PMU 1 s2 else s2
    match ovf with
    | some e => raiseEvt (Reg.ENG e) 2 s3
    | none => s3

/-- Send vector n, with what its counters may raise (R836). -/
def msixNow (n : Nat) (s : State) : State :=
  match sendMsix n s with
  | (s1, true) => raiseEvt Reg.PMU 1 s1
  | (s1, false) => s1

/-- The end of a cycle: the events that have risen in it, and those that a write of EVT_HMASK has unmasked, are delivered in ascending
number (R836, R838). What rises by their delivery is delivered with the next cycle's. (DEDUCED, log 90.) -/
def endEvents (s : State) : State :=
  let all := s.flt.unmasked.foldl insNat s.flt.risen
  all.foldl (fun a n => if s.flt.risen.contains n then deliver n a else msixNow n a)
    { s with flt := { s.flt with risen := [], unmasked := [] } }

/-- Count a chip event (R848). -/
def pmuChip (code inst : Nat) (s : State) : State :=
  match bumpChip code inst s with
  | (s1, true) => raiseEvt Reg.PMU 1 s1
  | (s1, false) => s1

/-- The counters of a unit that count an event code of a thread in a mode (R847); cluster counters have no thread or mode. -/
def State.unitCtrs (s : State) (unit code thread : Nat) (user : Bool) : List Nat :=
  if ¬ s.pmuOn then []
  else
    (s.flt.counters.map (·.1)).filter (fun k =>
      let c := s.ctrCfg k
      decide (k / 16 = unit) && bit c 31 && decide (fld c 0 8 = code) &&
      (decide (512 ≤ unit) || (bit c (8 + thread) && (if user then bit c 12 else bit c 13))))

/-- Count an engine or cluster event. (DESIGN CHOICE, log 80.) -/
def pmuUnit (unit code thread : Nat) (user : Bool) (s : State) : State :=
  (s.unitCtrs unit code thread user).foldl
    (fun a k => match bumpCtr k a with
      | (a1, true) => raiseEvt Reg.PMU 0 a1
      | (a1, false) => a1) s

/-- Push an element as a block does, raising EVOVF when the waiter's event FIFO is full (R571, R574). -/
def blockPush (q : Nat) (data : List Byte) (s : State) : QStatus × State :=
  match queuePush q data s with
  | (st, some k, s1) => (st, raiseEvt (Reg.ENG (k / 4)) 2 s1)
  | (st, none, s1) => (st, s1)

/-- Post an event to a thread, raising EVOVF when it is dropped (R574). -/
def postTo (k source code : Nat) (s : State) : State :=
  match postEvent k source code s with
  | (s1, true) => raiseEvt (Reg.ENG (k / 4)) 2 s1
  | (s1, false) => s1

end Sys2Proof.Machine
end

