-- ==== Sys2Proof/Machine/TimeBase.lean ====
section
/-! DEFINITION. Bedrock, the served-time formula, the time formats and their conversions (R63 to R93). -/
namespace Sys2Proof.Machine

/-- One CD_TB cycle in Bedrock units (R64). -/
@[reducible] def cycle : BT80 := 0x10000#80

/-- A Bedrock interval of n cycles of CD_TB, that is n ns of Bedrock. -/
def cyc (n : Nat) : BT80 := BitVec.ofNat 80 (n * 65536)

/-- Cycles from Bedrock b to Bedrock a, modulo 2^80 (R68). -/
def cycSince (a b : BT80) : Nat := (a - b).toNat / 65536

/-- At least n cycles have passed since Bedrock b (R90). -/
def State.elapsed (s : State) (b : BT80) (n : Nat) : Bool := atOrAfter s.bt (b + cyc n)

/-- More than n cycles have passed since Bedrock b. -/
def State.elapsedMore (s : State) (b : BT80) (n : Nat) : Bool := after s.bt (b + cyc n)

/-- The slewed part of the amount at Bedrock b (R70). -/
def TimeParams.slewed (p : TimeParams) (b : BT80) : Int :=
  if p.slewAct then rne (p.amt.toInt * (b - p.sbeg).toNat) (p.dur.toNat * 65536000) else 0

/-- The rate correction accrued at Bedrock b (R70). -/
def TimeParams.accrued (p : TimeParams) (b : BT80) : Int :=
  rne (p.rate.toInt * (b - p.anch).toNat) (2 ^ 56)

/-- Served time of Bedrock b with these parameters (R70). -/
def TimeParams.served (p : TimeParams) (b : BT80) : WT96 :=
  p.ofs + b.setWidth 96 + BitVec.ofInt 96 (p.accrued b) + BitVec.ofInt 96 (p.slewed b)

/-- The active slew has reached its duration at Bedrock b (R72). -/
def TimeParams.slewDone (p : TimeParams) (b : BT80) : Bool :=
  p.slewAct && decide (p.dur.toNat * 65536000 ≤ (b - p.sbeg).toNat)

/-- The end of a slew: its amount moves into OFS (R72). -/
def TimeParams.endSlew (p : TimeParams) : TimeParams :=
  { p with ofs := p.ofs + p.amt.signExtend 96, slewAct := false }

/-- The end of a slew, where it is due at Bedrock b (R72). -/
def TimeParams.settle (p : TimeParams) (b : BT80) : TimeParams := if p.slewDone b then p.endSlew else p

/-- A slew is accepted when its duration is at least 1 and its amount within 500 ppm (R85). -/
def slewOk (amt : BitVec 64) (dur : Word) : Bool :=
  decide (1 ≤ dur.toNat) && decide (amt.toInt.natAbs ≤ 32768 * dur.toNat)

/-- The rate part of a change at its anchor (R71). -/
def TimeParams.applyRate (p : TimeParams) (a : BT80) (r : BitVec 44) : TimeParams :=
  { p with ofs := p.ofs + BitVec.ofInt 96 (p.accrued a), anch := a, rate := r }

/-- The step part (R71). -/
def TimeParams.applyStep (p : TimeParams) (v : WT96) : TimeParams := { p with ofs := p.ofs + v }

/-- The abort part (R71): what has been slewed stays in OFS. -/
def TimeParams.applyAbort (p : TimeParams) (a : BT80) : TimeParams :=
  if p.slewAct then { p with ofs := p.ofs + BitVec.ofInt 96 (p.slewed a), slewAct := false } else p

/-- The slew part (R71); a slew active is aborted first (R88). -/
def TimeParams.applySlew (p : TimeParams) (a : BT80) (amt : BitVec 64) (dur : Word) : TimeParams :=
  if slewOk amt dur then { p.applyAbort a with sbeg := a, amt := amt, dur := dur, slewAct := true } else p

/-- Every part of a change, in the order rate, step, abort, slew (R80). -/
def TimeParams.apply (p : TimeParams) (a : BT80) (c : ChangeParts) (dur : Word) : TimeParams :=
  let p1 := match c.rate with | some r => p.applyRate a r | none => p
  let p2 := match c.step with | some v => p1.applyStep v | none => p1
  let p3 := if c.abort then p2.applyAbort a else p2
  match c.slew with
  | some amt => p3.applySlew a amt dur
  | none => p3

/-- The remainder a change discards, if it ends a slew (R71, R88, R89). -/
def TimeParams.discards (p : TimeParams) (a : BT80) (c : ChangeParts) (dur : Word) : Option (BitVec 64) :=
  let ends := c.abort || (match c.slew with | some amt => slewOk amt dur | none => false)
  if p.slewAct ∧ ends then some (p.amt - BitVec.ofInt 64 (p.slewed a)) else none

/-- The retained set in force at a Bedrock value in the past, and whether the value lies before the oldest (R43, R620).
(DEDUCED, log 25.) -/
def retained : List (BT80 × TimeParams) → BT80 → Option (TimeParams × Bool)
  | [], _ => none
  | [(a, p)], b => some (p, earlier b a)
  | (a, p) :: q :: t, b => if atOrAfter b a then some (p, false) else retained (q :: t) b

/-- OFS moved by n times 2^80, as R68 does where Bedrock wraps. -/
def TimeParams.wrapped (p : TimeParams) (n : Int) : TimeParams := { p with ofs := p.ofs + BitVec.ofInt 96 (n * 2 ^ 80) }

/-- The parameters in force at Bedrock b: retained ones for the past, and for the future those that the end of the slew
and the placed change will bring (R43, R75, R620); a wrap of Bedrock between then and now bears on OFS (R68). The second result is
OLD. (DEDUCED, log 25.) -/
def State.paramsAt (s : State) (b : BT80) : TimeParams × Bool :=
  if earlier b s.bt then
    let w : Int := if s.bt.toNat < b.toNat then -1 else 0
    match retained s.bdr.hist b with
    | some (p, old) => ((if old then p else p.settle b).wrapped w, old)
    | none => (s.bdr.par.wrapped w, false)
  else
    let w : Int := if b.toNat < s.bt.toNat then 1 else 0
    match s.bdr.pend with
    | some (a, c) =>
      if atOrAfter b a then
        ((((s.bdr.par.settle a).apply a c (s.reg Reg.BDR_SLEW_DUR)).settle b).wrapped w, false)
      else ((s.bdr.par.settle b).wrapped w, false)
    | none => ((s.bdr.par.settle b).wrapped w, false)

/-- Served time of a Bedrock value (R43). (DEDUCED, log 25.) -/
def State.servedAt (s : State) (b : BT80) : WT96 := (s.paramsAt b).1.served b

/-- Served time at the present cycle. -/
def State.now (s : State) : WT96 := s.bdr.par.served s.bt

/-- The whole served second of a served time: 2^-16 ns units to s. -/
def wholeSec (w : WT96) : Nat := w.toNat / (65536 * 1000000000)

/-- A WT96 of n ns. -/
def wtNs (n : Nat) : WT96 := BitVec.ofNat 96 (n * 65536)

/-! ### Conversions (R91) -/

/-- to_pt80 (R91). -/
def toPt80 (w : WT96) : PT80 :=
  let n := (rne w.toNat 65536).toNat
  BitVec.ofNat 80 ((n / 1000000000 % 2 ^ 48) * 2 ^ 32 + n % 1000000000)

/-- residual (R91), in 2^-16 ns. -/
def residual (w : WT96) : Int := (w.toNat : Int) - rne w.toNat 65536 * 65536

/-- to_nt64 with a TAI - UTC offset in seconds (R91). -/
def toNt64 (tai : BitVec 16) (w : WT96) : NT64 :=
  let per : Int := 1000000000 * 65536
  let u : Int := w.toNat - tai.toInt * per + 2208988800 * per
  let sec := u / per
  let frac := rne ((u % per) * 2 ^ 32) (1000000000 * 65536)
  let c := if frac = 2 ^ 32 then (sec + 1, 0) else (sec, frac)
  BitVec.ofInt 64 ((c.1 % 2 ^ 32) * 2 ^ 32 + c.2)

/-- from_pt80 (R91), exact. -/
def fromPt80 (p : PT80) : WT96 := BitVec.ofNat 96 ((fld p 32 48 * 1000000000 + fld p 0 32) * 65536)

/-- TAI - UTC in force at a served time (R621). (DEDUCED, log 26.) -/
def State.taiAt (s : State) (w : WT96) : BitVec 16 :=
  match s.bdr.prevTai with
  | some (t, v) => if earlier w t then v else bits (s.reg Reg.BDR_UTC_OFS) 0 16
  | none => bits (s.reg Reg.BDR_UTC_OFS) 0 16

/-- NT64 of a served time (R91, R621). (DEDUCED, log 26.) -/
def State.nt64Of (s : State) (w : WT96) : NT64 := toNt64 (s.taiAt w) w

/-! ### Anchors (R73) -/

/-- The reservation horizon (R73). -/
def State.hzn (s : State) : BT80 := BitVec.ofNat 80 (s.regN Reg.BDR_HZN 3)

/-- The anchor of a change committed now: the first cycle boundary at least 4 cycles from now and later than the horizon (R73). -/
def State.anchorNow (s : State) : BT80 :=
  let c1 := s.bt + cyc 4
  let c2 := ((s.hzn >>> 16) + 1) <<< 16
  if earlier c1 c2 then c2 else c1

end Sys2Proof.Machine
end

