-- ==== Sys2Proof/Machine/ConfigSum.lean ====
section
/-! DEFINITION. The configuration sum (R870 to R872), computed from the registers themselves. -/
namespace Sys2Proof.Machine

/-- The term SHA-256(a ‖ v) of a register at an offset (R871). -/
def cfgTerm (s : State) (a : Nat) : Nat :=
  natBE (sha256 (bytesBE 4 a ++ bytesBE 4 (s.reg a).toNat))

/-- A row holds configuration-class registers (R870). -/
def RegRow.isCfg (r : RegRow) : Bool := r.cfg && !r.rc && !r.wo && (decide (r.rw ≠ 0) || decide (r.rwl ≠ 0))

/-- The offsets in the page of every register word of a row. -/
def RegRow.offsets (r : RegRow) : List Nat :=
  (List.range r.n).flatMap (fun i =>
    (List.range r.m).flatMap (fun j => (List.range r.words).map (fun w => r.off + i * r.stride + j * r.stride2 + 4 * w)))

/-- The page sum P of page i of a kind (R871). -/
def pageSum (s : State) (p : PageRow) (i : Nat) : Nat :=
  ((rowsOf p.kind).filter RegRow.isCfg).foldl
    (fun acc r => r.offsets.foldl (fun a off => (a + cfgTerm s (p.base + i * 0x1000 + off)) % 2 ^ 256) acc) 0

/-- The configuration sum: the sum of P over every page (R871). (DEDUCED, log 23.) -/
def configSum (s : State) : Nat :=
  pageTable.foldl (fun acc p => (List.range p.count).foldl (fun a i => (a + pageSum s p i) % 2 ^ 256) acc) 0

/-- Bits [31:0] of the configuration sum (R149, R153). -/
def cfgSum32 (s : State) : Nat := configSum s % 2 ^ 32

end Sys2Proof.Machine
end

