-- ==== Sys2Proof/Machine/Vlog.lean ====
section
/-! DEFINITION. The service statistics and the violation log, both in shared SRAM (R701 to R704). -/
namespace Sys2Proof.Machine

/-- Add to counter i of serving cluster c (R704). -/
def statBy (c i n : Nat) (s : State) : State :=
  let a := eaSram + s.rf Reg.QRY_STATS_BASE 12 13 * 4096 + 512 * c + 8 * i
  s.sharedWr a (bytesLE 8 (natLE (s.sharedRd a 8) + n))

/-- Count one at counter i of serving cluster c (R704). -/
def stat1 (c i : Nat) (s : State) : State := statBy c i 1 s

/-- Answers to a violation (R702). -/
inductive VAnswer where
  | dropped | reduced | denied | nak | kod | disqualified | discarded
  deriving DecidableEq, Repr

/-- The code of an answer (R702). -/
def VAnswer.code : VAnswer → Nat
  | .dropped => 0 | .reduced => 1 | .denied => 2 | .nak => 3 | .kod => 4 | .disqualified => 5 | .discarded => 6

/-- A violation of a partner (R701, R702). -/
structure Violation where
  cls : Nat
  port : Nat
  answer : VAnswer
  partner : Nat                         -- 0 client, 1 upstream, 2 mate
  tag : Nat
  detail : Nat
  deriving DecidableEq, Repr

/-- The entry of a violation with sequence n (R702). -/
def Violation.bytes (v : Violation) (w : WT96) (n : Nat) : List Byte :=
  bytesLE 12 w.toNat ++ bytesLE 1 v.cls ++ bytesLE 1 v.port ++ bytesLE 1 v.answer.code ++ bytesLE 1 v.partner ++
    bytesLE 8 v.tag ++ bytesLE 4 v.detail ++ bytesLE 4 n

/-- Log a violation: in the class counter of the serving cluster that found it, and in the ring while the served second has entries
left (R701 to R703). -/
def vlog (cl : Option Nat) (v : Violation) (s : State) : State :=
  let s0 := match cl with | some c => stat1 c (32 + v.cls) s | none => s
  let sec := wholeSec s0.now
  let n := if s0.svc.vlogSec = sec then s0.svc.vlogCnt else 0
  if s0.rf Reg.QRY_VLOG_MAX 0 16 ≤ n then (match cl with | some c => stat1 c 22 s0 | none => s0)
  else
    let base := eaSram + s0.rf Reg.QRY_VLOG_BASE 12 13 * 4096
    let q := natLE (s0.sharedRd base 8)
    let at_ := base + 32 * (1 + q % (2 ^ s0.rf Reg.QRY_VLOG_BASE 0 4 - 1))
    let s1 := { s0 with svc := { s0.svc with vlogSec := sec, vlogCnt := n + 1 } }
    (s1.sharedWr at_ (v.bytes s.now q)).sharedWr base (bytesLE 8 (q + 1))

end Sys2Proof.Machine
end

