-- ==== Sys2Proof/Machine/TsuCore.lean ====
section
/-! DEFINITION. Launch slots: the boundary models, requests and grants, completions and missed slots (R507 to R545). -/
namespace Sys2Proof.Machine

/-! ### Port groups (R453) -/

/-- GMODE of a port group: 0 four 25G ports, 1 four 10G ports, 2 one 100G port (R453). -/
def State.gmode (s : State) (g : Nat) : Nat := s.rf (Reg.PRT_GMODE (4 * g)) 0 2

/-- The port is an active port of its group (R453). -/
def State.portActive (s : State) (p : Nat) : Bool :=
  decide (p < 16) && (decide (s.gmode (p / 4) ≠ 2) || decide (p % 4 = 0))

/-- The speed of a port's group: 0 10G, 1 25G, 2 100G. -/
def State.speed (s : State) (p : Nat) : Nat :=
  match s.gmode (p / 4) with
  | 0 => 1
  | 1 => 0
  | _ => 2

/-- PRT_LINK as it reads: ALIGN 1 but at 100GBASE-R, and FEC_LOCK 1 unless RS-FEC is selected (R502). -/
def State.prtLink (s : State) (p : Nat) : Word :=
  let l := s.reg (Reg.PRT_LINK p)
  let a := if s.gmode (p / 4) = 2 then l else setFld l 1 1 1
  if s.rf (Reg.PRT_CFG p) 0 2 = 2 then a else setFld a 2 1 1

/-! ### Boundary models (R507 to R514) -/

/-- A lane model. -/
def State.lane (s : State) (l dir : Nat) : LaneModel := AMap.get { } s.tsu.lanes (2 * l + dir)
/-- Store a lane model. -/
def State.setLane (s : State) (l dir : Nat) (m : LaneModel) : State :=
  { s with tsu := { s.tsu with lanes := AMap.set { } s.tsu.lanes (2 * l + dir) m } }

/-- A lane model is valid: its latest visit lies less than 10 µs in the past (R511). -/
def State.laneOk (s : State) (l dir : Nat) : Bool :=
  (s.lane l dir).valid && !s.elapsed (s.lane l dir).visit 10000

/-- A port's model in a direction is valid; a 100GBASE-R transmit model needs its four lanes (R511). -/
def State.modelOk (s : State) (p dir : Nat) : Bool :=
  if s.gmode (p / 4) = 2 ∧ dir = 0 then (List.range 4).all (fun i => s.laneOk (4 * (p / 4) + i) 0) else s.laneOk p dir

/-- PH_TX or PH_RX of a group: the validity of its lane models (R511). -/
def State.phases (s : State) (g dir : Nat) : Nat := natBits ((List.range 4).map (fun i => s.laneOk (4 * g + i) dir))

/-- The temperature of a delay, in 1/16 °C; 25.0 °C before the first sample. (DEDUCED, log 51.) -/
def State.tsuTemp (s : State) (g : Nat) : Int := AMap.get 400 s.tsu.temp g

/-- The temperature correction of a port's delays, in ps (R514). (DEDUCED, log 51.) -/
def State.dlyCorr (s : State) (p : Nat) : Int :=
  rne (s.ecal16 (Reg.TSU_TCO_FCAL (p / 4) (p % 4)) (Reg.TSU_TCO_UCAL (p / 4) (p % 4)) * (s.tsuTemp (p / 4) - 400)) 4096

/-- txdly of a port, in ps (R514). -/
def State.txdly (s : State) (p : Nat) : Int :=
  s.ecal32 (Reg.TSU_TXDLY_FCAL (p / 4) (p % 4)) (Reg.TSU_TXDLY_UCAL (p / 4) (p % 4)) + s.dlyCorr p

/-- rxdly of a port, in ps (R514). -/
def State.rxdly (s : State) (p : Nat) : Int :=
  s.ecal32 (Reg.TSU_RXDLY_FCAL (p / 4) (p % 4)) (Reg.TSU_RXDLY_UCAL (p / 4) (p % 4)) + s.dlyCorr p

/-- Picoseconds as a Bedrock interval, rounded (R512). -/
def psBt (ps : Int) : BT80 := BitVec.ofInt 80 (rne (ps * 65536) 1000)

/-- The Bedrock instant of block k by a model: the mean grid and the block's deviation from it (R509, R510). -/
def LaneModel.at (m : LaneModel) (dev : Int) (k : Nat) : BT80 :=
  m.p0 + BitVec.ofInt 80 (rne (((k : Int) - m.k0) * m.per) (2 ^ 32) + dev)

/-- Deviation of block k of a port from the mean grid: none without codewords and alignment markers, which only FEC and 100GBASE-R
have (R509). (DEDUCED, log 9.) -/
def State.dev (s : State) (p k : Nat) : Int :=
  if s.speed p ≠ 2 ∧ s.rf (Reg.PRT_CFG p) 0 2 = 0 then 0 else Config.boundaryDev (s.speed p) (s.rf (Reg.PRT_CFG p) 0 2) k

/-- tx80 of block k of a port (R512). (DEDUCED, log 9.) -/
def State.txAt (s : State) (p k : Nat) : BT80 := (s.lane p 0).at (s.dev p k) k + psBt (s.txdly p)

/-- rx80 of a frame whose boundary the receive model puts at bd80 (R512). (DEDUCED, log 9.) -/
def State.rxOf (s : State) (p : Nat) (bd : BT80) : BT80 := bd - psBt (s.rxdly p)

/-- A block about a transmit instant, on the mean grid. -/
def State.blockNear (s : State) (p : Nat) (b : BT80) : Nat :=
  let m := s.lane p 0
  ((m.k0 : Int) + (b - psBt (s.txdly p) - m.p0).toInt * 2 ^ 32 / (if m.per = 0 then 1 else m.per)).toNat

/-! ### Slots -/

/-- A slot of a TSU, by handle. -/
def State.slot (s : State) (g h : Nat) : Option TsuSlot := AMap.get none s.tsu.slots (2048 * g + h)
/-- Store or clear a slot. -/
def State.setSlot (s : State) (g h : Nat) (x : Option TsuSlot) : State :=
  let s1 := { s with tsu := { s.tsu with slots := AMap.set none s.tsu.slots (2048 * g + h) x } }
  s1.setRf (Reg.TSU_STAT g) 0 10 (s1.tsu.slots.filter (fun e => decide (e.1 / 2048 = g))).length

/-- The reservations of a TSU: handle and slot, rising. -/
def State.tsuSlots (s : State) (g : Nat) : List (Nat × TsuSlot) :=
  s.tsu.slots.filterMap (fun e => if e.1 / 2048 = g then e.2.map (fun x => (e.1 % 2048, x)) else none)

/-- The reservations of a port. -/
def State.portSlots (s : State) (p : Nat) : List (Nat × TsuSlot) :=
  (s.tsuSlots (p / 4)).filter (fun e => decide (e.2.port = p))

/-! ### Completions (R537, R538) -/

/-- STATUS of a completion (R537). -/
inductive CplStatus where
  | sent | missed | cancelled | truncated | txTs
  deriving DecidableEq, Repr

/-- The code of a completion status (R537). -/
def CplStatus.code : CplStatus → Nat
  | .sent => 0 | .missed => 1 | .cancelled => 2 | .truncated => 3 | .txTs => 4

/-- The 32 bytes of a completion (R537). -/
def completion (st : CplStatus) (cause port : Nat) (valid : Bool) (tag : Word) (tx : BT80) (wt : WT96) : List Byte :=
  bytesLE 4 (st.code + cause * 2 ^ 8 + port * 2 ^ 16 + b2n valid * 2 ^ 27) ++ bytesLE 4 tag.toNat ++
    bytesLE 12 tx.toNat ++ bytesLE 12 wt.toNat

/-- Post a completion to a queue, counting and raising CDROP when it does not fit (R538). -/
def postCompletion (g cq : Nat) (data : List Byte) (s : State) : State :=
  match blockPush cq data s with
  | (.ok, s1) => s1
  | (_, s1) => raiseEvt (Reg.TSU g) 1 (s1.count (Reg.TSU_CNT_CDROP g))

/-- Return a buffer to its FREEQ (R734). -/
def freeBuffer (f : Option (Nat × Nat)) (s : State) : State :=
  match f with
  | none => s
  | some (buf, q) =>
    match blockPush q (bytesLE 16 buf) s with
    | (.ok, s1) => s1
    | (_, s1) => raiseEvt Reg.SCH 2 (s1.count Reg.SCH_CNT_FREELOST)

/-- A launch of the serving code has ended: of a Sync or an Announce that was missed the slot counts as MISSED, and a Follow_Up
waits on only where the completion reads SENT (R683, R684). -/
def watchEnd (g h : Nat) (st : CplStatus) (s : State) : State :=
  let k := 2048 * g + h
  let put (x : Option Watch) (a : State) : State := { a with svc := { a.svc with watch := AMap.set none a.svc.watch k x } }
  match AMap.get none s.svc.watch k with
  | none => s
  | some w =>
    if st = .sent ∨ st = .truncated then put (if w.fup.isSome ∧ st = .sent then some { w with sent := true } else none) s
    else put none (if st = .missed then stat1 w.cl 11 s else s)

/-- End a reservation: the slot is released, its completion posted and its frame's buffer returned (R537, R734). -/
def endSlot (g h : Nat) (x : TsuSlot) (st : CplStatus) (cause : Nat) (s : State) : State :=
  let s1 := watchEnd g h st (s.setSlot g h none)
  let s2 := postCompletion g x.cq (completion st cause x.port true x.tag x.tx x.wt) s1
  match x.sub with
  | some u => freeBuffer u.free s2
  | none => s2

/-- Causes of a missed slot (R532). -/
inductive MissCause where
  | linkDown | mode | notReady | drift | noPhase | purge | timeReset | halt | frameErr | storeErr | disabled
  deriving DecidableEq, Repr

/-- The code of a cause (R532). -/
def MissCause.code : MissCause → Nat
  | .linkDown => 1 | .mode => 2 | .notReady => 3 | .drift => 4 | .noPhase => 5 | .purge => 6
  | .timeReset => 7 | .halt => 8 | .frameErr => 9 | .storeErr => 10 | .disabled => 11

/-- Miss a slot (R533). (DEDUCED, log 54.) -/
def missSlot (g h : Nat) (c : MissCause) (s : State) : State :=
  match s.slot g h with
  | none => s
  | some x =>
    let s1 := endSlot g h x .missed c.code s
    let s2 := (s1.count (Reg.TSU_CNT_MISS g)).count (Reg.TSU_CNT_MISSC g (c.code - 1))
    pmuChip 0x05 g (raiseEvt (Reg.TSU g) 0 s2)

/-- Miss every reservation of a TSU that a test picks and whose launch has not begun. -/
def missWhere (g : Nat) (c : MissCause) (pick : TsuSlot → Bool) (s : State) : State :=
  (s.tsuSlots g).foldl (fun a e => if pick e.2 && !e.2.begun then missSlot g e.1 c a else a) s

/-- A launched frame cut short (R536). -/
def truncWhere (g : Nat) (pick : TsuSlot → Bool) (s : State) : State :=
  (s.tsuSlots g).foldl
    (fun a e => if pick e.2 && e.2.begun then endSlot g e.1 e.2 .truncated MissCause.linkDown.code a else a) s

/-- An evaluation at a Bedrock value, for a port or for none, carried a time status: the reservations at that boundary keep it
(R149, R152). (DEDUCED, log 107.) -/
def noteEval (b : BT80) (port : Option Nat) (t : TimeStatus) (s : State) : State :=
  forN 4 (fun g a => (a.tsuSlots g).foldl (fun c e =>
    if e.2.tx = b ∧ (port = none ∨ port = some e.2.port) then c.setSlot g e.1 (some { e.2 with ts := some t }) else c) a) s

/-- A reservation that the purge discards: its evaluation carried TRACEABLE or HOLDOVER and its boundary lies after the present
cycle (R152). -/
def State.purges (s : State) (x : TsuSlot) : Bool :=
  (decide (x.ts = some .traceable) || decide (x.ts = some .holdover)) && after x.tx s.bt

/-- The purge of R152: the reservations are missed with ASSAY_PURGE, counted, and PURGE is raised. -/
def purgeReserved (s : State) : State :=
  let n := ((List.range 4).flatMap s.tsuSlots).countP (fun e => s.purges e.2 && !e.2.begun)
  let s1 := forN 4 (fun g => missWhere g .purge s.purges) s
  if n = 0 then s1 else raiseEvt Reg.ASY 6 (s1.countBy Reg.ASY_CNT_PURGE n)

/-- Every reservation is missed with TIME_RESET: a BDR reset or the BDR fault PARAM (R84, R532). (DEDUCED, log 54.) -/
def missAllTimeReset (s : State) : State := forN 4 (fun g => missWhere g .timeReset (fun _ => true)) s

/-- Picoseconds between a predicted and a granted instant exceed a limit (R535). -/
def driftOver (a b : BT80) (ps : Nat) : Bool := decide (ps * 65536 < (a - b).toInt.natAbs * 1000)

/-- Re-predict the reserved boundaries of a port, missing those that drifted (R535). -/
def rePredict (p : Nat) (s : State) : State :=
  let th := s.rf (Reg.TSU_CFG (p / 4)) 8 8
  (s.portSlots p).foldl
    (fun a e => if !e.2.begun && driftOver (a.txAt p e.2.k) e.2.tx th then missSlot (p / 4) e.1 .drift a else a) s

/-- Show the validity of a group's lane models in TSU_STAT (R511). -/
def showPhases (g : Nat) (s : State) : State :=
  (s.setRf (Reg.TSU_STAT g) 16 4 (s.phases g 0)).setRf (Reg.TSU_STAT g) 20 4 (s.phases g 1)

/-- The port of a lane: in 100GBASE-R the first of its group. -/
def State.portOfLane (s : State) (l : Nat) : Nat := if s.gmode (l / 4) = 2 then 4 * (l / 4) else l

/-- Start or stop the clock of PHASE_LOST for a port (R545). -/
def phaseClock (p : Nat) (s : State) : State :=
  let bad := s.pgEn (Reg.PRT p) && s.portActive p && !s.modelOk p 0
  let cur := AMap.get none s.tsu.lostAt p
  let nxt := if bad then (match cur with | some b => some b | none => some s.bt) else none
  { s with tsu := { s.tsu with lostAt := AMap.set none s.tsu.lostAt p nxt } }

/-- A lane model becomes invalid: PHASE is raised, and a transmit model takes its port's reservations with it (R511, R532, R544). -/
def loseLane (l dir : Nat) (s : State) : State :=
  let m := s.lane l dir
  if ¬ m.valid then s
  else
    let p := s.portOfLane l
    let s1 := showPhases (l / 4) (s.setLane l dir { m with valid := false })
    let s2 := raiseEvt (Reg.TSU (l / 4)) 2 s1
    if dir = 0 then phaseClock p (missWhere (l / 4) .noPhase (fun x => decide (x.port = p)) s2) else s2

/-! ### Request and grant (R517 to R526) -/

/-- STATUS of a grant (R518). -/
inductive GrantStatus where
  | granted | full | tooSoon | tooFar | mode | linkDown | noPhase | badPort | badLen | frozen
  deriving DecidableEq, Repr

/-- The code of a grant status (R518). -/
def GrantStatus.code : GrantStatus → Nat
  | .granted => 0 | .full => 1 | .tooSoon => 2 | .tooFar => 3 | .mode => 4 | .linkDown => 5
  | .noPhase => 6 | .badPort => 7 | .badLen => 8 | .frozen => 9

/-- A reservation request (R517). -/
structure RsvReq where
  port : Nat
  at_ : Bool
  len : Nat
  tag : Word
  cq : Nat
  target : WT96
  deriving DecidableEq, Repr

/-- The request that its six words spell (R517). -/
def RsvReq.ofWords (w0 w1 w2 : Word) (target : WT96) : RsvReq :=
  { port := fld w0 0 4, at_ := bit w0 4, len := fld w0 16 14, tag := w1, cq := fld w2 0 18, target := target }

/-- The first and last block of the span of a frame of len bytes at block k (R524). -/
def State.spanOf (s : State) (g len k : Nat) : Nat × Nat :=
  (k - 1 - s.rf (Reg.TSU_CFG g) 0 4, k + cdiv (len + 1) 8 - 1 + s.rf (Reg.TSU_CFG g) 4 4)

/-- Blocks that two inclusive ranges share. -/
def overlapCount (a b c d : Nat) : Nat := if max a c ≤ min b d then min b d - max a c + 1 else 0

/-- The span touches no reserved span of the port (R519). -/
def spanFree (res : List (Nat × TsuSlot)) (lo hi : Nat) : Bool :=
  res.all (fun e => decide (e.2.hi < lo) || decide (hi < e.2.lo))

/-- The span keeps every aligned window of 1,024 blocks it touches within the share limit (R526). -/
def shareOk (res : List (Nat × TsuSlot)) (share lo hi : Nat) : Bool :=
  (List.range (hi / 1024 - lo / 1024 + 1)).all (fun i =>
    let w := lo / 1024 + i
    let a := 1024 * w
    let b := a + 1023
    let used := res.foldl (fun n e => n + overlapCount a b e.2.lo e.2.hi) 0
    decide (used + overlapCount a b lo hi ≤ share * 64))

/-- The BDR change placed by a commit of the present cycle: a grant of this cycle lies before its anchor (R521). -/
def State.bdrNew (s : State) : Bool := s.bdr.pend.isSome && decide (s.bdr.pendCyc = s.bt) && decide (s.bdr.pendCom = s.bt)

/-- The served time that a grant of the present cycle gives an instant: a change committed in this very cycle is in force only after
it (R520, R521). -/
def State.grantServed (s : State) (b : BT80) : WT96 :=
  if s.bdrNew then ({ s with bdr := { s.bdr with pend := none } } : State).servedAt b else s.servedAt b

/-- The anchors of the changes committed in the present cycle move beyond the horizon that a grant of the cycle sets (R73, R131,
R521). -/
def reAnchor (s : State) : State :=
  let s1 := match s.bdr.pend with
    | none => s
    | some (_, c) =>
      if s.bdrNew = false then s
      else
        let t := { s with bdr := { s.bdr with pend := some (s.anchorNow, c) } }
        if c.rate.isSome then t.setRegN Reg.BDR_ANCH s.anchorNow.toNat 3 else t
  match s1.asy.pend with
  | none => s1
  | some (_, p) => if s1.thisCyc.asyNew then { s1 with asy := { s1.asy with pend := some (s1.anchorNow, p) } } else s1

/-- The checks of one boundary by R519. -/
def State.boundaryOk (s : State) (r : RsvReq) (k : Nat) : Bool :=
  let g := r.port / 4
  let tx := s.txAt r.port k
  let sp := s.spanOf g r.len k
  let res := s.portSlots r.port
  atOrAfter tx (s.bt + cyc (s.rf (Reg.TSU_LEAD g) 0 16)) &&
  atOrAfter (s.bt + cyc (s.rf (Reg.TSU_LEAD g) 16 16)) tx &&
  (!r.at_ || atOrAfter (s.grantServed tx) r.target) &&
  spanFree res sp.1 sp.2 && shareOk res (s.rf (Reg.TSU_CFG g) 16 4) sp.1 sp.2

/-- The earliest suitable boundary from block k on, among the n blocks that follow (R519). (DEDUCED, log 53.) -/
def State.findBoundary (s : State) (r : RsvReq) : Nat → Nat → Option Nat
  | 0, _ => none
  | n + 1, k => if s.boundaryOk r k then some k else s.findBoundary r n (k + 1)

/-- The boundary granted to a request: the blocks from LEAD_MIN to LEAD_MAX ahead are tried in order. (DEDUCED, log 53.) -/
def State.pickBoundary (s : State) (r : RsvReq) : Option Nat :=
  let g := r.port / 4
  let k0 := s.blockNear r.port (s.bt + cyc (s.rf (Reg.TSU_LEAD g) 0 16)) - 128
  let k1 := s.blockNear r.port (s.bt + cyc (s.rf (Reg.TSU_LEAD g) 16 16)) + 128
  s.findBoundary r (k1 + 1 - k0) k0

/-- Why a request is refused before a boundary is sought; `path` is the TSU of the register path (R518). (DEDUCED, log 51.) -/
def refuseReq (s : State) (r : RsvReq) (path : Option Nat) : Option GrantStatus :=
  let g := r.port / 4
  let wrong := match path with | some x => decide (x ≠ g) | none => false
  if !s.pgEn (Reg.TSU (path.getD g)) || s.pgFrz (Reg.TSU (path.getD g)) || s.pgRst (Reg.TSU (path.getD g)) then some .frozen
  else if wrong || !s.portActive r.port then some .badPort
  else if r.len < 64 ∨ s.rf (Reg.PRT_MAXLEN r.port) 0 14 < r.len then some .badLen
  else if s.rf (Reg.PRT_LINK r.port) 12 2 ≠ 0 ∨ s.pgEn (Reg.PRT r.port) = false then some .mode
  else if s.rb (Reg.PRT_LINK r.port) 3 = false then some .linkDown
  else if s.modelOk r.port 0 = false then some .noPhase
  else if r.at_ && earlier r.target (s.grantServed (s.bt + cyc (s.rf (Reg.TSU_LEAD g) 0 16))) then some .tooSoon
  else if r.at_ && after r.target (s.grantServed (s.bt + cyc (s.rf (Reg.TSU_LEAD g) 16 16))) then some .tooFar
  else if 512 ≤ (s.tsuSlots g).length then some .full
  else none

/-- A grant (R518). -/
structure Grant where
  status : GrantStatus
  handle : Nat
  tx : BT80
  wt : WT96
  deriving DecidableEq, Repr

/-- The seven words of a grant (R518). -/
def Grant.words (x : Grant) : List Word :=
  if x.status = .granted then
    BitVec.ofNat 32 (x.handle * 65536) :: (List.range 3).map (fun i => BitVec.ofNat 32 (x.tx.toNat >>> (32 * i))) ++
      (List.range 3).map (fun i => BitVec.ofNat 32 (x.wt.toNat >>> (32 * i)))
  else BitVec.ofNat 32 x.status.code :: List.replicate 6 0

/-- A handle for a new reservation: the spec does not say which of the free ones is given, so it is a free value.
(DESIGN CHOICE, log 52.) -/
def State.newHandle (s : State) (g : Nat) : Nat :=
  let fr := (List.range 2048).filter (fun h => (s.slot g h).isNone)
  fr.getD (s.freeVal % fr.length) 0

/-- Refuse a request: it is counted, and the other words of the grant are zero (R518). -/
def refuse (g : Nat) (st : GrantStatus) (s : State) : Grant × State :=
  ({ status := st, handle := 0, tx := 0, wt := 0 }, s.count (Reg.TSU_CNT_REFUSE g))

/-- Grant a request at block k: the slot is taken and the horizon advanced (R518 to R521). (DESIGN CHOICE, log 52.) -/
def grantAt (r : RsvReq) (k : Nat) (s : State) : Grant × State :=
  let g := r.port / 4
  let tx := s.txAt r.port k
  let wt := s.grantServed tx
  let sp := s.spanOf g r.len k
  let h := s.newHandle g
  let x : TsuSlot := { port := r.port, tag := r.tag, cq := r.cq, len := r.len, k := k, lo := sp.1, hi := sp.2, tx := tx,
                       wt := wt, sub := none, begun := false, bad := s.inject (Reg.TSU g) 0 }
  let s1 := (s.nextFree.setSlot g h (some x)).count (Reg.TSU_CNT_GRANT g)
  let s2 := if earlier s1.hzn tx then reAnchor (s1.setRegN Reg.BDR_HZN tx.toNat 3) else s1
  ({ status := .granted, handle := h, tx := tx, wt := wt }, pmuChip 0x04 g s2)

/-- Serve a reservation request (R518, R519). -/
def reserve (r : RsvReq) (path : Option Nat) (s : State) : Grant × State :=
  let g := path.getD (r.port / 4)
  match refuseReq s r path with
  | some st => refuse g st s
  | none =>
    match s.pickBoundary r with
    | none => refuse g .full s
    | some k => grantAt r k s

/-- The deadline of a slot has come (R527). -/
def State.pastDeadline (s : State) (g : Nat) (x : TsuSlot) : Bool :=
  atOrAfter s.bt (x.tx - cyc (s.rf (Reg.TSU_SUBMIT g) 0 11))

/-- Cancel a reservation before its deadline (R530). -/
def cancelSlot (g h : Nat) (s : State) : State :=
  match s.slot g h with
  | none => s
  | some x =>
    if s.pastDeadline g x then s
    else
      let s1 := endSlot g h x .cancelled 0 s
      if x.sub.isSome then s1 else { s1 with thisCyc := { s1.thisCyc with cancelled := (2048 * g + h, x.port) :: s1.thisCyc.cancelled } }

end Sys2Proof.Machine
end

