-- ==== Sys2Proof/Machine/AsyCore.lean ====
section
/-! DEFINITION. Assay: the composition of the bound, holdover growth, evaluation, the time status and record snapshots (R123 to R161). -/
namespace Sys2Proof.Machine

/-! ### Inputs (R141) -/

/-- WARM: the level of OCXO_RDY. -/
def State.warm (s : State) : Bool := s.rb Reg.TDC_GSTAT 0
/-- The time-scale loop (R170). -/
def State.tsLoop (s : State) : Nat := s.rf Reg.ASY_CFG 0 3
/-- LOCKED: the time-scale loop is in state LOCKED with MODE TIME (R242). -/
def State.tsLocked (s : State) : Bool :=
  decide (s.rf (Reg.DPL_STAT s.tsLoop) 0 2 = 2) && decide (s.rf (Reg.DPL_CFG s.tsLoop) 0 2 = 0)
/-- The entry selected on a loop, if any (R215). -/
def State.loopEntry (s : State) (l : Nat) : Option Nat :=
  if s.rb (Reg.REF_LOOP_CUR l) 8 then some (s.rf (Reg.REF_LOOP_CUR l) 0 6) else none
/-- ACTREF: the entry selected on the time-scale loop, 0xFF for none (R200). -/
def State.actRef (s : State) : Nat := (s.loopEntry s.tsLoop).getD 0xFF
/-- REFTRC: the TRC flag of the entry selected on the time-scale loop (R200). -/
def State.refTrc (s : State) : Bool :=
  match s.loopEntry s.tsLoop with
  | some e => s.rb (Reg.REF_ENT_QWORD e) 0
  | none => false
/-- The life cycle is in DEBUG. -/
def State.lcDebug (s : State) : Bool := decide (s.rf Reg.LCS_STATE 0 3 = 3)
/-- The mate role: 0 SOLO, 1 ACTIVE, 2 STANDBY, 3 ISOLATED (R819). -/
def State.role (s : State) : Nat := s.rf Reg.MATE_STAT 0 2

/-! ### The bound (R123 to R130) -/

/-- Reset value of a staged value (R169). -/
def asyDefault (off : Nat) : Word := if off = 0x044 then 0x300 else 0

/-- A committed value of a set, by its register's offset. -/
def AsySet.val (c : AsySet) (off : Nat) : Nat := (AMap.getD asyDefault c.vals off).toNat

/-- A discipline component as it contributes in a status: latched in HOLDOVER and UNTRACEABLE (R128). -/
def AsySet.disc (c : AsySet) (ts : TimeStatus) (off : Nat) : Nat :=
  match ts with
  | .holdover | .untraceable => (AMap.get 0 c.latched off).toNat
  | .unset | .coarse | .traceable => c.val off

/-- dt of R136: ns since the last traceable update, rounded up. -/
def holdDt (lu b : BT80) : Nat := cdiv (b - lu).toNat 65536

/-- The holdover polynomial of R136, exact and rounded up once. -/
def holdPoly (hoA hoB hoC hoKt dtmax dt : Nat) : Nat :=
  let d := 2 ^ 33 * 10 ^ 18
  min (cdiv (hoA * d + hoB * dt * (2 ^ 17 * 10 ^ 9) + hoC * dt ^ 2 + hoKt * dtmax * dt * (2 ^ 5 * 10 ^ 9)) d) (2 ^ 48 - 2)

/-- hold(b) with a set (R136); a b before the last update counts dt as 0 (R135). -/
def AsySet.hold (c : AsySet) (dtmax : Nat) (b : BT80) : Nat :=
  let lu := c.lu.getD 0
  let dt := if earlier b lu then 0 else holdDt lu b
  holdPoly (c.val 0x080) (c.val 0x084) (c.val 0x088) (c.val 0x08C) dtmax dt

/-- HOLD as it contributes in a status (R128). -/
def AsySet.holdIn (c : AsySet) (ts : TimeStatus) (dtmax : Nat) (b : BT80) : Nat :=
  match ts with
  | .holdover | .untraceable => c.hold dtmax b
  | .unset | .coarse | .traceable => 0

/-- The PORT values of a set: of one port, or the largest over the enabled ports, each taken independently (R127). -/
def portTerm (s : State) (c : AsySet) (port : Option Nat) (off : Nat) : Nat :=
  match port with
  | some p => c.val (off + 8 * p)
  | none =>
    (List.range 16).foldl (fun a p => if s.pgEn (Reg.PRT p) then max a (c.val (off + 8 * p)) else a) 0

/-- The parts of an evaluated bound. -/
structure Bound where
  dsum : Nat
  q : Nat
  r : Nat
  hold : Nat
  e : Nat
  deriving DecidableEq, Repr

/-- r of R123: the least r with (256 r)^2 at least kq^2 q. -/
def stochTerm (kq q : Nat) : Nat := cdiv (isqrtUp (kq ^ 2 * q)) 256

/-- E and its parts with a set in a status, at a Bedrock value and for a port or without one (R123, R125, R128); in UNSET, where R123
forms no sum, the parts are those of the committed values. (DESIGN CHOICE, log 111.) -/
def boundWith (s : State) (ts : TimeStatus) (c : AsySet) (dtmax : Nat) (b : BT80) (port : Option Nat) : Bound :=
  let h := c.holdIn ts dtmax b
  let dsum := c.disc ts 0x050 + c.disc ts 0x058 + c.disc ts 0x060 + h + portTerm s c port 0x180 +
    c.disc ts 0x068 + c.val 0x070
  let q := c.disc ts 0x054 ^ 2 + c.disc ts 0x05C ^ 2 + c.disc ts 0x064 ^ 2 + portTerm s c port 0x184 ^ 2 +
    c.disc ts 0x06C ^ 2 + c.val 0x074 ^ 2
  let r := stochTerm (c.val 0x044) q
  let e := if ts = .unset ∨ s.fltBit Reg.ASY 0 then 2 ^ 48 - 1 else min (dsum + r) (2 ^ 48 - 2)
  { dsum := dsum, q := q, r := r, hold := h, e := e }

/-- The larger of two words. -/
def wmax (a b : Word) : Word := if a.toNat < b.toNat then b else a

/-- For each field the larger value, and the earlier last update with its temperature (R135). -/
def AsySet.worst (a b : AsySet) : AsySet :=
  let keys := (List.range 0x80).map (fun i => 4 * i)
  { vals := keys.foldl (fun m k => AMap.setD asyDefault m k
        (wmax (AMap.getD asyDefault a.vals k) (AMap.getD asyDefault b.vals k))) [],
    latched := keys.foldl (fun m k => AMap.set 0 m k (wmax (AMap.get 0 a.latched k) (AMap.get 0 b.latched k))) [],
    lu := match a.lu, b.lu with
      | some x, some y => some (if earlier y x then y else x)
      | some x, none => some x
      | none, y => y,
    tlu := match a.lu, b.lu with
      | some x, some y => if earlier y x then b.tlu else a.tlu
      | some _, none => a.tlu
      | none, _ => b.tlu }

/-- The set in force at a Bedrock value in the past, and PAST: before the oldest anchor the worst of the sets retained (R135). -/
def asyRetained : List (BT80 × AsySet) → BT80 → Option AsySet → AsySet × Bool
  | [], _, w => (w.getD AsySet.reset, true)
  | (a, c) :: t, b, w =>
    if atOrAfter b a then (c, false) else asyRetained t b (some (match w with | some x => x.worst c | none => c))

/-- E without port at the present cycle in the present status (R970). -/
def State.eNow (s : State) : Bound := boundWith s s.asy.ts s.asy.cur s.asy.dtmax.toNat s.bt none

/-! ### The parts of a change (R141 to R147) -/

/-- Codes of the time status (R153). -/
def TimeStatus.code : TimeStatus → Nat
  | .unset => 0 | .coarse => 1 | .traceable => 2 | .holdover => 3 | .untraceable => 4

/-- Priority of a target status among transitions of one cycle (R144). -/
def TimeStatus.rank : TimeStatus → Nat
  | .unset => 5 | .untraceable => 4 | .coarse => 3 | .holdover => 2 | .traceable => 1

/-- Outcome of a part of an ASY change: the REASON of R172 when refused, else the target status. -/
inductive PartOut where
  | refuse (reason : Nat)
  | goes (t : TimeStatus)
  | keeps
  deriving DecidableEq, Repr

/-- UPDATE taking effect in a status (R141, R142). -/
def judgeUpdate (ts : TimeStatus) (locked trc : Bool) : PartOut :=
  match ts with
  | .unset => .refuse 5
  | .coarse | .traceable | .untraceable => if ¬ locked then .refuse 2 else if ¬ trc then .refuse 3 else .keeps
  | .holdover => if ¬ locked then .refuse 2 else if ¬ trc then .refuse 3 else .goes .traceable

/-- A TS code taking effect in a status (R141, R171, R977); the LIMIT check has E, the NO_UPDATE check has `upd`. A reserved code is
refused with BAD_CODE in UNSET too. (DESIGN CHOICE, log 108.) -/
def judgeTs (code : Nat) (ts : TimeStatus) (warm debug locked trc upd lim : Bool) : PartOut :=
  if 4 ≤ code then .refuse 6
  else if code = 1 then
    match ts with
    | .unset | .coarse | .untraceable => .goes .coarse
    | .traceable | .holdover => .refuse 5
  else if code = 2 then
    match ts with
    | .coarse | .untraceable =>
      if ¬ warm then .refuse 1
      else if debug then .refuse 7
      else if ¬ locked then .refuse 2
      else if ¬ trc then .refuse 3
      else if ¬ upd then .refuse 8
      else if ¬ lim then .refuse 4
      else .goes .traceable
    | .unset | .traceable | .holdover => .refuse 5
  else if code = 3 then
    match ts with
    | .traceable | .holdover => .goes .untraceable
    | .coarse | .unset | .untraceable => .refuse 5
  else .keeps

/-- The discipline components a set holds committed, as latched by an UPDATE (R143). -/
def AsySet.latch (c : AsySet) : AMap Word :=
  [0x050, 0x054, 0x058, 0x05C, 0x060, 0x064, 0x068, 0x06C].foldl
    (fun m k => AMap.set 0 m k (AMap.getD asyDefault c.vals k)) []

/-- An UPDATE is recent enough for a declaration at an anchor: no more than ASY_UPD_TO before it (R141). -/
def State.updRecent (s : State) (upd : Option BT80) (a : BT80) : Bool :=
  match upd with
  | some u => atOrAfter (u + cyc (s.rf Reg.ASY_UPD_TO 0 16 * 1000000)) a
  | none => false

/-- The values and the status a placed change is predicted to bring, with the inputs as they stand, and whether the prediction
accepts an UPDATE or changes the status (R150). -/
def asyPredict (s : State) (a : BT80) (p : AsyParts) : AsySet × TimeStatus × Bool :=
  let c1 := match p.commit with | some v => { s.asy.cur with vals := v } | none => s.asy.cur
  let u := if p.update then judgeUpdate s.asy.ts s.tsLocked s.refTrc else .refuse 0
  let r2 : AsySet × TimeStatus × Option BT80 × Bool :=
    match u with
    | .refuse _ => (c1, s.asy.ts, s.asy.updSince, false)
    | .keeps => ({ c1 with lu := some a, latched := c1.latch }, s.asy.ts, some a, true)
    | .goes t => ({ c1 with lu := some a, latched := c1.latch }, t, some a, true)
  let lim := decide ((boundWith s .traceable r2.1 0 a none).e ≤ (s.reg Reg.ASY_TRC_LIM).toNat)
  match judgeTs p.ts r2.2.1 s.warm s.lcDebug s.tsLocked s.refTrc (s.updRecent r2.2.2.1 a) lim with
  | .goes t => (r2.1, t, r2.2.2.2 || decide (t ≠ s.asy.ts))
  | .refuse _ | .keeps => (r2.1, r2.2.1, r2.2.2.2 || decide (r2.2.1 ≠ s.asy.ts))

/-- The result of an evaluation request: E and its parts, status and PAST flag, with the present ASY_HO_DTMAX (R138, R149 to R151). -/
def evaluate (s : State) (b : BT80) (port : Option Nat) : Bound × TimeStatus × Bool × AsySet :=
  if earlier b s.bt then
    match asyRetained s.asy.hist b none with
    | (c, past) => (boundWith s s.asy.ts c s.asy.dtmax.toNat b port, s.asy.ts, past, c)
  else
    let plain (c : AsySet) : Bound := boundWith s s.asy.ts c s.asy.dtmax.toNat b port
    match s.asy.pend with
    | none => (plain s.asy.cur, s.asy.ts, false, s.asy.cur)
    | some (a, p) =>
      if earlier b a then (plain s.asy.cur, s.asy.ts, false, s.asy.cur)
      else
        let c1 := match p.commit with | some v => { s.asy.cur with vals := v } | none => s.asy.cur
        match asyPredict s a p with
        | (c, t, changes) =>
          let x := boundWith s t c s.asy.dtmax.toNat b port
          if changes ∧ x.e < (plain c1).e then (plain c1, t, false, c) else (x, t, false, c)

/-! ### Record snapshots (R158 to R164) -/

/-- Flags of the bound field (R153). -/
def boundFlags (s : State) (past : Bool) (e : Nat) : Nat :=
  b2n s.warm + 2 * b2n past + 4 * b2n (decide (e = 2 ^ 48 - 1)) + 8 * b2n (decide (s.role = 2))

/-- recordSeq: the sequence number of the latest snapshot (R149). -/
def State.recSeq (s : State) : Nat := (s.regN Reg.ASY_REC_SEQ 2 + 2 ^ 64 - 1) % 2 ^ 64

/-- The components of a record: seven pairs D (6 bytes) and S (4 bytes) in index order (R160); in UNSET, where R128 lists no
contribution, zeros. (DESIGN CHOICE, log 109.) -/
def recComponents (s : State) : List Byte :=
  let ts := s.asy.ts
  let c := s.asy.cur
  let pair (d st : Nat) : List Byte := bytesBE 6 d ++ bytesBE 4 st
  if ts = .unset then List.replicate 70 0
  else
    pair (c.disc ts 0x050) (c.disc ts 0x054) ++ pair (c.disc ts 0x058) (c.disc ts 0x05C) ++
    pair (c.disc ts 0x060) (c.disc ts 0x064) ++ pair (c.holdIn ts s.asy.dtmax.toNat s.bt) 0 ++
    pair (portTerm s c none 0x180) (portTerm s c none 0x184) ++ pair (c.disc ts 0x068) (c.disc ts 0x06C) ++
    pair (c.val 0x070) (c.val 0x074)

/-- Bytes 0 to 191 of a record of a type (R160). -/
def recBody (s : State) (typ : Nat) : List Byte :=
  let e := s.eNow.e
  let act := s.actRef
  let holdT := decide (s.asy.ts = .holdover ∨ s.asy.ts = .untraceable)
  bytesBE 4 0x41535931 ++ bytesBE 1 1 ++ bytesBE 1 typ ++
  bytesBE 2 (b2n s.warm + 2 * b2n s.asy.coalesced + 4 * b2n s.asy.gap + 8 * b2n (decide (e = 2 ^ 48 - 1)) +
    16 * b2n s.lcDebug) ++
  bytesBE 8 (s.regN Reg.LCS_SERIAL 2) ++
  (sha256 ((List.range 8).flatMap (fun i => bytesBE 4 (s.reg (Reg.KEY_IDPUB i)).toNat))).take 8 ++
  bytesBE 8 (s.regN Reg.ASY_REC_SEQ 2) ++ bytesBE 12 s.now.toNat ++ bytesBE 10 s.bt.toNat ++ bytesBE 2 0 ++
  bytesBE 6 e ++ bytesBE 1 s.asy.ts.code ++ bytesBE 1 act ++
  bytesBE 4 (if act = 0xFF then 0 else (s.reg (Reg.REF_ENT_QWORD act)).toNat) ++
  bytesBE 2 (s.rf Reg.BDR_UTC_OFS 0 16) ++ bytesBE 1 (s.rf Reg.BDR_UTC_OFS 16 3) ++ bytesBE 1 s.role ++
  bytesBE 2 (s.asy.cur.val 0x044) ++ bytesBE 2 0 ++ recComponents s ++
  bytesBE 8 (if holdT then holdDt (s.asy.cur.lu.getD 0) s.bt else 0) ++ bytesBE 2 s.asy.dtmax.toNat ++
  bytesBE 32 (configSum s) ++ bytesBE 4 s.asy.chgMask.toNat

/-- ASY_STG_HEAD: the oldest unsigned entry and the number of unsigned entries (R169); the index reads 0 where no entry is unsigned.
(DESIGN CHOICE, log 110.) -/
def stgHead (a : Asy) : Word :=
  let idx := (List.range 16).map (fun i => (a.stgNext + i) % 16)
  let uns := idx.filter (fun i => match a.stage.getD i none with | some e => !e.signed | none => false)
  BitVec.ofNat 32 (uns.headD 0 + uns.length * 16)

/-- Write the staging area, showing its head. -/
def State.setStage (s : State) (l : List (Option StgEntry)) : State :=
  let a := { s.asy with stage := l }
  { s with asy := a }.setReg Reg.ASY_STG_HEAD (stgHead a)

/-- Take a record snapshot of a type: it enters staging, or is dropped when all 16 entries are occupied (R158, R161, R164). -/
def takeRecord (typ : Nat) (s : State) : State :=
  let seq := s.regN Reg.ASY_REC_SEQ 2
  let s1 := s.setRegN Reg.ASY_REC_SEQ ((seq + 1) % 2 ^ 64) 2
  if (s.asy.stage.getD s.asy.stgNext none).isSome then
    raiseEvt Reg.ASY 4
      ({ s1 with asy := { s1.asy with chgMask := 0, coalesced := false, gap := true } }.count Reg.ASY_CNT_DROP)
  else
    let i := s.asy.stgNext
    let s2 := s1.sramWr (s.rf Reg.ASY_STG_BASE 12 13 * 4096 + 256 * i) (recBody s typ)
    let s3 := { s2 with asy := { s2.asy with chgMask := 0, coalesced := false, gap := false, stgNext := (i + 1) % 16 } }
    s3.setStage (setNth s3.asy.stage i (some { seq := BitVec.ofNat 64 seq, since := s.bt, signed := false }))

/-- Note a change in the changeMask: bit 0 status, 1 reference, 2 mate role, 3 component (R159, R160). -/
def noteChange (i : Nat) (s : State) : State :=
  { s with asy := { s.asy with chgMask := s.asy.chgMask ||| (1#4 <<< i) } }

/-- Take a change record, as EN, CHG_EN and CHG_MAX allow (R158, R159). -/
def changeRecord (typ i : Nat) (s : State) : State :=
  let s1 := noteChange i s
  if ¬ s.rb Reg.ASY_REC_CTRL 0 ∨ ¬ s.rb Reg.ASY_REC_CTRL 2 then s1
  else
    let sec := wholeSec s.now
    let n := if s.asy.chgSec = sec then s.asy.chgCount else 0
    if s.rf Reg.ASY_REC_CTRL 8 8 ≤ n then
      { s1 with asy := { s1.asy with chgSec := sec, chgCount := n, coalesced := true } }
    else takeRecord typ { s1 with asy := { s1.asy with chgSec := sec, chgCount := n + 1 } }

/-! ### Status transitions -/

/-- Set the time status: a change of TS raises TSTAT and causes a STATUS record (R148). -/
def setStatus (t : TimeStatus) (s : State) : State :=
  if s.asy.ts = t then s
  else
    changeRecord 1 0 (raiseEvt Reg.ASY 0 { s with asy := { s.asy with ts := t, updSince := none } })

/-- A transition to a status at the present cycle: of several in one cycle the highest of R144 is taken. -/
def asyMove (t : TimeStatus) (s : State) : State × Bool :=
  match s.asy.cycTs with
  | some (b, from0) =>
    if b = s.bt then
      if s.asy.ts.rank < t.rank then (setStatus t { s with asy := { s.asy with cycTs := some (b, from0) } }, true)
      else (s, decide (s.asy.ts = t))
    else (setStatus t { s with asy := { s.asy with cycTs := some (s.bt, s.asy.ts) } }, true)
  | none => (setStatus t { s with asy := { s.asy with cycTs := some (s.bt, s.asy.ts) } }, true)

/-- The status at the start of the present cycle, from which its transitions start (R144). -/
def State.tsFrom (s : State) : TimeStatus :=
  match s.asy.cycTs with
  | some (b, t) => if b = s.bt then t else s.asy.ts
  | none => s.asy.ts

/-- The status is one from which hardware withdraws traceability. -/
def TimeStatus.inService (t : TimeStatus) : Bool := decide (t = .traceable) || decide (t = .holdover)

/-! ### The parts of a change at its anchor (R141 to R148) -/

/-- The outcome of the UPDATE part: the state and the REASON of a refusal (R142, R143, R144). -/
def applyUpdate (a : BT80) (s : State) : State × Option Nat :=
  let c := { s.asy.cur with lu := some a, tlu := bits (s.reg Reg.ASY_TEMP) 0 16, latched := s.asy.cur.latch }
  let s1 := { s with asy := { s.asy with cur := c, dtmax := 0, dtHeld := false, updSince := some a } }
  match judgeUpdate s.tsFrom s.tsLocked s.refTrc with
  | .refuse r => (s, some r)
  | .keeps => (s1, none)
  | .goes t =>
    match asyMove t s1 with
    | (s2, true) => (s2, none)
    | (_, false) => (s, some 5)

/-- E of the LIMIT check of a declaration: as the status TRACEABLE gives it at the anchor (R970). -/
def State.trcE (s : State) (a : BT80) : Nat := (boundWith s .traceable s.asy.cur 0 a none).e

/-- The outcome of the TS part in the status that an UPDATE before it leaves (R141, R144, R171, R977); `upd` is the update that counts for
a declaration (R147). -/
def applyTs (a : BT80) (code : Nat) (now : TimeStatus) (upd : Option BT80) (s : State) : State × Option Nat :=
  let lim := decide (s.trcE a ≤ (s.reg Reg.ASY_TRC_LIM).toNat)
  match judgeTs code now s.warm s.lcDebug s.tsLocked s.refTrc (s.updRecent upd a) lim with
  | .refuse r => (s, some r)
  | .keeps => (s, none)
  | .goes t =>
    if s.thisCyc.stepped ∧ t = .traceable then (s, some 5)
    else
      match asyMove t s with
      | (s1, true) => (s1, none)
      | (_, false) => (s, some 5)

/-- Retain a component set with its anchor: the last eight are kept (R135). -/
def retainSet (a : BT80) (c : AsySet) (h : List (BT80 × AsySet)) : List (BT80 × AsySet) := ((a, c) :: h).take 8

/-- The UPDATE and TS parts of a change whose COMMIT is in force, `old` the set before it: what they do, and whether some part of the change
took effect (R147, R148). (DEDUCED, log 32.) -/
def asyParts (a : BT80) (p : AsyParts) (old : AsySet) (s : State) : State × Bool :=
  let s2 := if p.commit.isSome then noteChange 3 s else s
  let r3 := if p.update then applyUpdate a s2 else (s2, none)
  let now : TimeStatus := if p.update && r3.2.isNone && decide (s2.tsFrom = .holdover) then .traceable else s2.tsFrom
  let r4 := if p.ts = 0 then (r3.1, none) else applyTs a p.ts now r3.1.asy.updSince r3.1
  let s4 := r4.1
  let s5 := if s4.asy.cur = old then s4 else { s4 with asy := { s4.asy with hist := retainSet a s4.asy.cur s4.asy.hist } }
  let refused := match r4.2 with
    | some r => some r
    | none => r3.2
  let s6 := match refused with
    | some r => raiseEvt Reg.ASY 1 (s5.setRf Reg.ASY_TSTAT 20 4 r)
    | none => s5
  (s6, p.commit.isSome || (p.update && r3.2.isNone) || (decide (p.ts ≠ 0) && r4.2.isNone))

/-! ### Several transitions in one cycle (R144, R145) -/

/-- Note ASY as it stands before the first transition or command of a cycle. -/
def asyNote (s : State) : State :=
  match s.thisCyc.asyBase with
  | some _ => s
  | none =>
    let b : AsyBase := { asy := s.asy, seq := BitVec.ofNat 64 (s.regN Reg.ASY_REC_SEQ 2), drop := s.reg Reg.ASY_CNT_DROP,
                         evt := s.reg (Reg.ASY + 0x010), tstat := s.reg Reg.ASY_TSTAT }
    { s with thisCyc := { s.thisCyc with asyBase := some b } }

/-- What the transitions and commands of this cycle have made of ASY is taken back: the status, the last update, what it latched, and the
records taken since. -/
def asyBack (b : AsyBase) (s : State) : State :=
  let o := b.asy
  let c := { s.asy.cur with lu := o.cur.lu, tlu := o.cur.tlu, latched := o.cur.latched }
  let s1 := { s with asy := { s.asy with
      cur := c, hist := o.hist, ts := o.ts, cycTs := o.cycTs, updSince := o.updSince, dtmax := o.dtmax, dtHeld := o.dtHeld,
      chgSec := o.chgSec, chgCount := o.chgCount, chgMask := o.chgMask, coalesced := o.coalesced, gap := o.gap,
      stgNext := o.stgNext } }
  let s2 := (s1.setStage o.stage).setRegN Reg.ASY_REC_SEQ b.seq.toNat 2
  let m : Word := 0x13
  ((s2.setReg Reg.ASY_CNT_DROP b.drop).setReg Reg.ASY_TSTAT b.tstat).setReg (Reg.ASY + 0x010)
    ((s2.reg (Reg.ASY + 0x010) &&& ~~~ m) ||| (b.evt &&& m))

/-- The cycle's transitions are resolved anew: that of the hardware first, then the ASY change of the cycle, if there was one, whose parts
are judged as the cycle now stands (R144 to R147). (DEDUCED, log 112.) -/
def asyResolve (s : State) : State :=
  match s.thisCyc.asyBase with
  | none => s
  | some b =>
    let s1 := asyBack b s
    let s2 := match s.thisCyc.asyHw with | some t => (asyMove t s1).1 | none => s1
    match s.thisCyc.asyCmd with
    | some (a, p, old) => (asyParts a p old s2).1
    | none => s2

/-- A transition that no command makes: the highest of the cycle is taken, and a command of the cycle is judged again (R144). -/
def asyHwMove (t : TimeStatus) (s : State) : State :=
  let s1 := asyNote s
  match s1.thisCyc.asyHw with
  | some h =>
    if t.rank ≤ h.rank then (if s1.thisCyc.asyCmd.isSome then asyResolve s1 else s1)
    else asyResolve { s1 with thisCyc := { s1.thisCyc with asyHw := some t } }
  | none =>
    let s2 := { s1 with thisCyc := { s1.thisCyc with asyHw := some t } }
    if s2.thisCyc.asyCmd.isSome then asyResolve s2 else (asyMove t s2).1

/-- An input of the checks has changed in a cycle that moves no status by itself: an ASY change of the cycle is judged again (R145,
R146). -/
def asyInput (s : State) : State := if s.thisCyc.asyCmd.isSome then asyResolve s else s

/-- A fall to UNTRACEABLE that hardware causes, with the purge of R152. -/
def asyFall (s : State) : State :=
  let s1 := asyHwMove .untraceable s
  if s.rb Reg.ASY_CFG 7 && decide (s1.asy.ts = .untraceable) then purgeReserved s1 else s1

/-- WARM falls, BDR PARAM is raised or ASY STORE is raised: TRACEABLE and HOLDOVER fall to UNTRACEABLE (R141, R177). -/
def asyWithdraw (s : State) : State := if s.tsFrom.inService then asyFall s else asyInput s

/-- LOCKED falls to 0: TRACEABLE goes to HOLDOVER, and an UPDATE of the cycle is refused (R141, R145). (DEDUCED, log 38.) -/
def asyUnlock (s : State) : State := if s.tsFrom = .traceable then asyHwMove .holdover s else asyInput s

/-- A BDR step takes effect: TRACEABLE and HOLDOVER go to COARSE, and a DECLARE_TRACEABLE of the cycle gives way whatever the status (R141,
R144). (DEDUCED, log 112.) -/
def asyStep (s0 : State) : State :=
  let s := { s0 with thisCyc := { s0.thisCyc with stepped := true } }
  if s.tsFrom.inService then asyHwMove .coarse s else asyInput s

/-! ### The reference selected on the time-scale loop (R153, R158, R159) -/

/-- The reference selected on the time-scale loop was another before: it is kept for evaluations in the past, and a REFERENCE record is
taken (R153, R158). (DESIGN CHOICE, log 106.) -/
def refChanged (was : Nat) (s : State) : State :=
  if s.actRef = was then s
  else changeRecord 2 1 { s with asy := { s.asy with refs := ((s.bt, was) :: s.asy.refs).take 8 } }

/-- The entry selected on the time-scale loop at a Bedrock value, 0xFF for none (R153). (DESIGN CHOICE, log 106.) -/
def State.actRefAt (s : State) (b : BT80) : Nat :=
  s.asy.refs.foldl (fun r e => if earlier b e.1 then e.2 else r) s.actRef

end Sys2Proof.Machine
end

