-- ==== Sys2Proof/Machine/GnsCore.lean ====
section
/-! DEFINITION. GNSS channels, the acquisition engine's queues, the record rings and the records (chapter 7). -/
namespace Sys2Proof.Machine

/-! ### Signals and lanes (R322, R323) -/

/-- Chips and milliseconds of a signal's primary code period (R322). -/
def codeChips (sig : Nat) : Nat := [1023, 10230, 4092, 10230, 10230, 10230].getD sig 1023
/-- Milliseconds of a signal's primary code period (R322). -/
def codeMs (sig : Nat) : Nat := [1, 1, 4, 1, 10, 1].getD sig 1
/-- Milliseconds of a symbol of a signal's data component (R322). -/
def symMs (sig : Nat) : Nat := [20, 10, 4, 20, 10, 5].getD sig 20
/-- Primary code periods that symbolPos counts in: the data symbol of SIG 0, the secondary code of the others (R322, R368). -/
def symPeriods (sig sec : Nat) : Nat := if sig = 0 then symMs 0 / codeMs 0 else sec
/-- Greatest PRN of a signal (R322). -/
def prnMax (sig : Nat) : Nat := [32, 32, 36, 36, 63, 63].getD sig 0
/-- A SIG and PRN the receiver supports (R322). -/
def sigOk (sig prn : Nat) : Bool := decide (sig < 6) && decide (1 ≤ prn) && decide (prn ≤ prnMax sig)
/-- The band of a signal: 0 upper, 1 lower (R322). -/
def sigBand (sig : Nat) : Nat := sig % 2
/-- Nominal carrier of a signal in Hz (R322). -/
def carrierHz (sig : Nat) : Nat := if sigBand sig = 0 then 1575420000 else 1176450000
/-- Chip rate of a signal in Hz (R322). -/
def chipHz (sig : Nat) : Nat := if sigBand sig = 0 then 1023000 else 10230000
/-- The lane that carries an antenna's signal (R323). -/
def laneOf (ant sig : Nat) : Nat := 2 * ant + sigBand sig
/-- A lane is ALIGNED (R330). (DEDUCED, log 44.) -/
def State.laneAligned (s : State) (n : Nat) : Bool := s.rb Reg.GNS_SIF_STAT n
/-- T_coh of a code in ms; 0 for a reserved code (R359). -/
def tcohMs (c : Nat) : Nat := [1, 2, 4, 5, 10, 20].getD c 0
/-- A TCOH code fits a signal: its time is a multiple of the primary code period (R350, R359). -/
def tcohOk (c sig : Nat) : Bool := decide (tcohMs c ≠ 0) && decide (tcohMs c % codeMs sig = 0)

/-! ### Channels (R350 to R364) -/

/-- A channel beside its registers. -/
def State.gch (s : State) (c : Nat) : Gch := AMap.get { } s.gns.chs c
/-- Store it. -/
def State.setGch (s : State) (c : Nat) (x : Gch) : State := { s with gns := { s.gns with chs := AMap.set { } s.gns.chs c x } }

/-- The state of a channel (R389). -/
def State.gchSt (s : State) (c : Nat) : GchState :=
  match s.rf (Reg.GCH_STAT c) 0 3 with
  | 0 => .idle
  | 1 => .acqWait
  | 2 => .pullin
  | 3 => .track
  | 4 => .burst
  | _ => .lost

/-- The code of a channel state (R389). -/
def GchState.code : GchState → Nat
  | .idle => 0 | .acqWait => 1 | .pullin => 2 | .track => 3 | .burst => 4 | .lost => 5

/-- The channel's page and the GNS page are enabled (R352). -/
def State.gchOn (s : State) (c : Nat) : Bool := s.pgEn (Reg.GCH c) && s.pgEn Reg.GNS

/-- A channel counts as active: PULLIN, TRACK or BURST (R382). -/
def GchState.active (x : GchState) : Bool := decide (x = .pullin) || decide (x = .track) || decide (x = .burst)

/-- The channel's request waits no longer, and a search for it is not handed off (R351). -/
def acqWithdraw (c : Nat) (s : State) : State :=
  let q := s.gns.acq
  let no := match q.active with
    | some (r, _) => q.noHand || (r.handoff && decide (r.chan = c))
    | none => q.noHand
  { s with gns := { s.gns with acq := { q with chq := q.chq.filter (fun r => decide (r.chan ≠ c)), noHand := no } } }

/-- The request a channel builds as it enters ACQ_WAIT (R346). -/
def chanReq (s : State) (c : Nat) : AcqReq :=
  let x := s.gch c
  let d := s.reg Reg.GNS_ACQ_DEF
  let t0 := fld d 16 3
  let t := ((List.range 6).filter (fun k => decide (t0 ≤ k) && tcohOk k x.sig)).headD t0
  { prn := x.prn, sig := x.sig, ant := x.ant, chan := c, handoff := true, dopc := rne (s.reg (Reg.GCH_AIDDOP c)).toInt 1024,
    span := fld d 0 16, tcoh := t, nnc := fld d 20 8, thr := s.rf Reg.GNS_ACQ_THR 0 16, tag := 0xFFFF }

/-- A channel's request joins the queue, in which each channel has one at most (R346, R347). -/
def acqQueue (r : AcqReq) (s : State) : State :=
  let q := s.gns.acq
  if q.chq.any (fun x => decide (x.chan = r.chan)) then s
  else { s with gns := { s.gns with acq := { q with chq := q.chq ++ [r] } } }

/-- ACQ_STAT (R384). -/
def State.acqStat (s : State) : Nat :=
  let n := 2 ^ s.rf Reg.ACQ_RQ_BASE 0 3
  let sw := ((s.reg Reg.ACQ_RQ_TAIL).toNat % n + n - (s.reg Reg.ACQ_RQ_HEAD).toNat % n) % n
  sw + s.gns.acq.chq.length % 2 ^ 9 * 2 ^ 16 + b2n s.gns.acq.active.isSome * 2 ^ 31

/-- The channel's settings for the integration that begins: GCH_TRK and GCH_LOOP as they stand at the boundary (R360), over t ms. -/
def Gch.latch (x : Gch) (trk lp : Word) (t : Nat) : Gch := { x with trk := trk, lp := lp, tint := t }

/-- Change a channel's state: STATE is raised, LOST counted, SYNC kept only into TRACK and BURST (R352, R353, R361). In a new state the
channel integrates over one primary code period to begin with, its PLL not engaged (R357, R359). -/
def setGchSt (c : Nat) (st : GchState) (s : State) : State :=
  let old := s.gchSt c
  if old = st then s
  else
    let a := Reg.GCH_STAT c
    let x := (s.gch c).latch (s.reg (Reg.GCH_TRK c)) (s.reg (Reg.GCH_LOOP c)) (codeMs (s.gch c).sig)
    let s1 := (s.setRf a 0 3 st.code).setGch c { x with since := s.bt, pll := false, lowRow := 0 }
    let s2 := if old = .track ∧ st ≠ .burst then (s1.setRb a 10 false).setGch c { s1.gch c with sym := none } else s1
    let s3 := raiseEvt (Reg.GCH c) 0 s2
    let s4 := if st = .lost then raiseEvt (Reg.GCH c) 1 (s3.count (Reg.GCH_CNT_LOST c)) else s3
    if st = .acqWait then acqQueue (chanReq s4 c) s4 else s4

/-- STOP, or EN at 0 (R352). -/
def gchStop (c : Nat) (s : State) : State :=
  let s1 := acqWithdraw c (setGchSt c .idle s)
  let s2 := s1.setRf (Reg.GCH_STAT c) 8 5 0
  s2.setGch c { s2.gch c with startSec := none, burstSec := none, pred := none, sym := none, stopAt := some s.bt }

/-- A channel is lost, if it runs and has not been started in the same cycle (R352, R353). -/
def gchLose (c : Nat) (s : State) : State :=
  if s.gchSt c = .idle ∨ (s.gch c).startAt = some s.bt then s
  else
    let s1 := setGchSt c .lost (acqWithdraw c s)
    s1.setGch c { s1.gch c with startSec := none, burstSec := none, pred := none }

/-- Count a slip (R363). -/
def gchSlip (c : Nat) (s : State) : State :=
  let x := s.gch c
  raiseEvt (Reg.GCH c) 3
    ((s.setGch c { x with slips := x.slips + 1, slipAt := s.bt, slipRec := true, relock := false }).count (Reg.GCH_CNT_SLIP c))

/-! ### Prediction (R364, R365, R369, R378) -/

/-- A channel's replica runs on a prediction: between bursts, and while its lane is not ALIGNED (R364, R378). -/
def State.gchPredicts (s : State) (c : Nat) : Bool :=
  let x := s.gch c
  (decide (s.gchSt c = .burst) && x.burstSec.isNone) || ((s.gchSt c).active && !s.laneAligned (laneOf x.ant x.sig))

/-- GNS_AID_CLK (R382). -/
def State.aidClk (s : State) : Int := (BitVec.ofNat 44 (s.regN Reg.GNS_AID_CLK 2)).toInt

/-- The Doppler predicted for a Bedrock value: that at the start of the prediction, with the aiding rate and with the change of the
oscillator's error since (R378). -/
def gchPredDop (s : State) (c : Nat) (b : BT80) : Int :=
  let x := s.gch c
  x.burstDop + rne ((s.reg (Reg.GCH_AIDRATE c)).toInt * (b - x.burstAt).toInt) (1000000000 * 65536) +
    rne ((s.aidClk - x.burstClk) * (carrierHz x.sig : Int) * 1024) (2 ^ 56)

/-- Cycles of carrier, 2^-32, over dt units of 2^-16 ns at half the Doppler given. -/
def carrierOver (dop2 dt : Int) : Int := rne (dop2 * dt * 32) 1000000000

/-- A channel's replica propagated to a Bedrock value (R364, R365, R378): the carrier phase and the code phase grow with the Doppler. -/
def gchAt (s : State) (c : Nat) (b : BT80) : Gch :=
  let x := s.gch c
  let dt := (b - x.at_).toInt
  let d := if s.gchPredicts c then (gchPredDop s c x.at_, gchPredDop s c b) else (x.dop, x.dop)
  let mean2 := d.1 + d.2                                            -- twice the mean Doppler, 2^-10 Hz
  let per : Int := (codeChips x.sig : Int) * 262144
  let nomi : Int := (chipHz x.sig : Int) * dt * 4
  let aid : Int := (chipHz x.sig : Int) * mean2 * dt
  let adv := rne (nomi * 512 * (carrierHz x.sig : Int) + aid) (512 * carrierHz x.sig * 1000000000 : Nat)
  let tot := (x.code : Int) + adv
  let w := tot / per
  { x with at_ := b, code := (tot % per).toNat, cnt := ((x.cnt : Int) + w).toNat % 2 ^ 32, dop := d.2, car := x.car + carrierOver mean2 dt,
           sym := x.sym.map (fun p => (if p.2 = 0 then p.1 else (((p.1 : Int) + w) % (p.2 : Int)).toNat, p.2)) }

/-- A channel's replica is brought to the present, before what propagates it changes. -/
def gchRebase (c : Nat) (s : State) : State := s.setGch c (gchAt s c s.bt)

/-- Every channel that f picks is brought to the present. -/
def gchRebaseAll (f : State → Nat → Bool) (s : State) : State :=
  (s.gns.chs.map (·.1)).foldl (fun a c => if f a c then gchRebase c a else a) s

/-- A prediction starts here from the replica x (R378). -/
def Gch.predictFrom (x : Gch) (s : State) : Gch := { x with burstDop := x.dop, burstAt := s.bt, burstClk := s.aidClk }

/-- A channel runs on a lane. -/
def State.gchOnLane (n : Nat) (s : State) (c : Nat) : Bool :=
  (s.gchSt c).active && decide (laneOf (s.gch c).ant (s.gch c).sig = n)

/-- A lane stops being ALIGNED (R332, R335): the channels on it go on by prediction, and their records will carry STREAM_ERR (R364). -/
def laneDrop (n : Nat) (s : State) : State :=
  if ¬ s.laneAligned n then s
  else
    let go (a : State) (c : Nat) : State :=
      if ¬ a.gchOnLane n c then a
      else
        let x := gchAt a c a.bt
        a.setGch c { (if a.gchPredicts c then x else x.predictFrom a) with errRec := true }
    let s0 := (s.gns.chs.map (·.1)).foldl go s
    let s1 := (s0.setRb Reg.GNS_SIF_STAT n false).setReg (Reg.ANT_JAM n) 0      -- R404
    { s1 with gns := { s1.gns with down := AMap.set none s1.gns.down n (some s1.bt) } }

/-- A lane becomes ALIGNED (R330): the channels on it go on from where the prediction has brought them. -/
def laneUp (n : Nat) (s : State) : State :=
  let s1 := (gchRebaseAll (State.gchOnLane n) s).setRb Reg.GNS_SIF_STAT n true
  { s1 with gns := { s1.gns with down := AMap.set none s1.gns.down n none } }

/-! ### Record rings (R381) -/

/-- Write a record into a ring in shared SRAM, if it has room: base register, WR and RD registers, entry size, and the counter and
page event of a drop. The second result says that it was written. -/
def ringPut (base wr rd size cnt pg evt : Nat) (data : List Byte) (s : State) : State × Bool :=
  let n := 2 ^ s.rf base 0 4
  let i := (s.reg wr).toNat % n
  if (i + 1) % n = (s.reg rd).toNat % n then (raiseEvt pg evt (s.count cnt), false)
  else
    ((s.sramWr (s.rf base 12 13 * 4096 + size * i) data).setReg wr (BitVec.ofNat 32 ((i + 1) % n)), true)

/-- Write a measurement record (R381). -/
def putMeas (data : List Byte) (s : State) : State :=
  (ringPut Reg.GNS_MRING_BASE Reg.GNS_MRING_WR Reg.GNS_MRING_RD 64 Reg.GNS_CNT_MDROP Reg.GNS 3 data s).1

/-- Write a navigation record (R381); NREC is raised where it was written. -/
def putNav (data : List Byte) (s : State) : State :=
  match ringPut Reg.NAV_RING_BASE Reg.NAV_RING_WR Reg.NAV_RING_RD 160 Reg.NAV_CNT_DROP Reg.NAV 1 data s with
  | (s1, true) => raiseEvt Reg.NAV 0 s1
  | (s1, false) => s1

/-- The measurement record of a channel at an epoch, without its CRC (R368). (DESIGN CHOICE, log 122.) -/
def measBody (s : State) (c : Nat) (t : WT96) (b : BT80) (burst : Bool) : List Byte :=
  let x := gchAt s c b
  let st := s.reg (Reg.GCH_STAT c)
  let down := !s.laneAligned (laneOf x.ant x.sig)
  let flags := b2n (bit st 8) + 2 * b2n (bit st 9) + 4 * b2n (bit st 10) + 8 * b2n (bit st 11) + 16 * b2n (bit st 12) +
    32 * b2n burst + 64 * b2n x.slipRec + 128 * b2n (x.errRec || down) + 256 * b2n (decide (x.stepRec < s.gns.stepNo)) +
    512 * b2n (decide (s.gchSt c = .pullin))
  bytesBE 1 1 ++ bytesBE 1 1 ++ bytesBE 1 c ++ bytesBE 1 x.ant ++ bytesBE 1 x.sig ++ bytesBE 1 x.prn ++ bytesBE 2 flags ++
  bytesBE 12 t.toNat ++ bytesBE 10 b.toNat ++ bytesBE 2 (s.rf (Reg.GCH_CN0 c) 0 16) ++ bytesBE 4 x.code ++ bytesBE 4 x.cnt ++
  bytesBE 2 (match x.sym with | some p => p.1 | none => 0xFFFF) ++
  bytesBE 2 (satU 16 ((b - x.slipAt).toNat / (65536 * 1000000000))) ++
  bytesBE 8 (BitVec.ofInt 64 x.car).toNat ++ bytesBE 4 (BitVec.ofInt 32 x.dop).toNat ++ bytesBE 2 x.slips ++
  bytesBE 2 (if x.lastD < -32768 ∨ 32767 < x.lastD then Config.wideCodeErr x.lastD else BitVec.ofInt 16 x.lastD).toNat

/-- Write the record of a channel at an epoch; the flags of its interval start afresh (R364, R366, R367, R368). -/
def measRecord (c : Nat) (t : WT96) (b : BT80) (burst : Bool) (s : State) : State :=
  let body := measBody s c t b burst
  let x := s.gch c
  let s1 := putMeas (body ++ bytesBE 4 (crc32c body).toNat) s
  s1.setGch c { x with slipRec := false, errRec := !s.laneAligned (laneOf x.ant x.sig), stepRec := s.gns.stepNo }

/-- A BDR step: the first record of every channel after it carries STEPPED (R366). -/
def gnsStep (s : State) : State := { s with gns := { s.gns with stepNo := s.gns.stepNo + 1 } }

/-! ### Economy (R375) -/

/-- Economy applies to a channel (R375). -/
def State.econ (s : State) (c : Nat) : Bool :=
  s.rb (Reg.GCH_CFG c) 5 ||
    (s.rb Reg.GNS_MCFG 8 &&
      (!(List.range 8).any (fun l =>
          let v := s.reg (Reg.REF_LOOP_CUR l)
          bit v 8 && (decide (fld v 0 6 = 40) || decide (fld v 0 6 = 41))) || decide (s.role = 2)))

end Sys2Proof.Machine
end

