-- ==== Sys2Proof/Machine/SynCore.lean ====
section
/-! DEFINITION. Synthesisers, clock outputs and pulse outputs: frequencies, steering, the outputs' conditions and the pulse scheduler
(R271 to R308). -/
namespace Sys2Proof.Machine

/-! ### Synthesisers (R271 to R285) -/

/-- Internal state of a synthesiser. -/
def State.synS (s : State) (n : Nat) : Syn := AMap.get { } s.syn n
/-- Store it. -/
def State.setSynS (s : State) (n : Nat) (x : Syn) : State := { s with syn := AMap.set { } s.syn n x }

/-- The state of a synthesiser (R311). -/
def State.synSt (s : State) (n : Nat) : SynState :=
  match s.rf (Reg.SYN_STAT n) 0 3 with
  | 0 => .idle
  | 1 => .measure
  | 2 => .locking
  | 3 => .locked
  | _ => .lost

/-- The code of a synthesiser state (R311). -/
def SynState.code : SynState → Nat
  | .idle => 0 | .measure => 1 | .locking => 2 | .locked => 3 | .lost => 4

/-- f_osc in Hz (R58): the APLL ratio to CD_TB's 1 GHz gives it. -/
def State.fosc (s : State) : Nat := if s.pwr.oscRatio = 50 then 20000000 else 10000000

/-- f_pfd in Hz with a REFMUL code (R271). -/
def State.fpfd (s : State) (refmul : Nat) : Nat :=
  match refmul with
  | 0 => s.fosc
  | 1 => 2 * s.fosc
  | _ => s.fosc / 2

/-- The nominal VCO frequency in use, in Hz * 2^48 (R272, R273). -/
def State.vcoNom (s : State) (n : Nat) : Nat := s.fpfd (fld (s.synS n).cfg 0 2) * (s.synS n).num

/-- The static offset SYN_TRIM, 2^-56. -/
def State.synTrim (s : State) (n : Nat) : Int := (BitVec.ofNat 44 (s.regN (Reg.SYN_TRIM n) 2)).toInt

/-- 200 ppm and 2 ppm in units of 2^-56, rounded down. (DEDUCED, log 34.) -/
@[reducible] def ppm200 : Int := 14411518807585
@[reducible] def ppm2 : Int := 144115188075

/-- f_tgt before its clamp (R282). -/
def State.synRaw (s : State) (n : Nat) : Int := (s.synS n).y + s.synTrim n

/-- f_tgt (R282). -/
def State.synTgt (s : State) (n : Nat) : Int := clampI (-ppm200) ppm200 (s.synRaw n)

/-- The word actually applied as n: n_nom + rne(n_nom * f_app, 2^56) (R284). -/
def State.synN (s : State) (n : Nat) : Int := (s.synS n).num + rne ((s.synS n).num * (s.synS n).app) (2 ^ 56)

/-- Retune the transmit models of a lane when the n of its synthesiser changes: the grid goes on from the present block
with the new period (R284, R510). -/
def retuneLane (l : Nat) (old new : Nat) (s : State) : State :=
  let m := s.lane l 0
  if ¬ m.valid then s
  else
    let k := ((m.k0 : Int) + (s.bt - m.p0).toInt * 2 ^ 32 / (if m.per = 0 then 1 else m.per)).toNat
    let per := (rne (m.per * old : Nat) new).toNat
    s.setLane l 0 { m with k0 := k, p0 := m.at 0 k, per := per }

/-- VCO half-cycles in a cycle of CD_TB, in 2^-48 of 10^-9: of f_pfd * n in Hz * 2^48 (R271, R284). -/
def State.synRate (s : State) (n : Nat) : Nat := 2 * s.fpfd (fld (s.synS n).cfg 0 2) * (s.synN n).toNat

/-- One VCO half-cycle in those units. -/
@[reducible] def phUnit : Nat := 2 ^ 48 * 10 ^ 9

/-- VCO half-cycles of a synthesiser up to the start of a cycle, in 2^-48 of 10^-9. -/
def State.synPh (s : State) (n : Nat) (b : BT80) : Nat :=
  (s.synS n).ph + (b - (s.synS n).phAt).toNat / 65536 * s.synRate n

/-- The VCO clocks what follows it: LOCKED or LOST (R288, R289). -/
def State.synRuns (s : State) (n : Nat) : Bool := decide (s.synSt n = .locked) || decide (s.synSt n = .lost)

/-- The synthesiser that clocks a port group (R286). -/
def State.ptxSyn (s : State) (g : Nat) : Nat := s.rf Reg.OUT_PTXSEL (2 * g) 2

/-- Apply f_app, retuning and re-predicting the ports it clocks (R283, R535). -/
def setApp (n : Nat) (f : Int) (s : State) : State :=
  let x := s.synS n
  if x.app = f then s
  else
    let s1 := (s.setSynS n { x with app := f, ph := s.synPh n s.bt, phAt := s.bt }).setRegN (Reg.SYN_FAPP n) (BitVec.ofInt 45 f).toNat 2
    forN 4 (fun g a =>
      if a.ptxSyn g = n then
        forN 4 (fun i b => rePredict (4 * g + i) b)
          (forN 4 (fun i b => retuneLane (4 * g + i) (s.synN n).toNat (s1.synN n).toNat b) a)
      else a) s1

/-- Follow a new target: at once within 2 ppm, otherwise by steps; only stored outside LOCKED and LOST (R282, R283, R285).
`count` says that a delivery brought it. -/
def synFollow (n : Nat) (count : Bool) (s : State) : State :=
  let clamped := decide (s.synRaw n ≠ s.synTgt n)
  let s1 := s.setRb (Reg.SYN_STAT n) 17 clamped
  let s2 := if clamped then raiseEvt (Reg.SYN n) 2 (if count then s1.count (Reg.SYN_CNT_CLAMP n) else s1) else s1
  let t := s2.synTgt n
  let d := t - (s2.synS n).app
  match s2.synSt n with
  | .locked | .lost =>
    if d.natAbs ≤ ppm2.toNat then setApp n t (s2.setRb (Reg.SYN_STAT n) 16 false)
    else if s2.rb (Reg.SYN_STAT n) 16 then s2
    else (s2.setSynS n { s2.synS n with slewAt := s2.bt }).setRb (Reg.SYN_STAT n) 16 true
  | .idle | .measure | .locking => s2

/-- A FREQ loop delivers y to a synthesiser (R251, R283). -/
def synDeliver (n : Nat) (y : Int) (s : State) : State :=
  synFollow n true (s.setSynS n { s.synS n with y := y })

/-- A step of a slew: 2 ppm towards the target (R283). -/
def synSlewStep (n : Nat) (s : State) : State :=
  let t := s.synTgt n
  let a := (s.synS n).app
  let d := t - a
  if d.natAbs ≤ ppm2.toNat then setApp n t (s.setRb (Reg.SYN_STAT n) 16 false)
  else
    let f := if 0 < d then a + ppm2 else a - ppm2
    setApp n f (s.setSynS n { s.synS n with slewAt := s.bt })

/-- The band table as a LOCK command takes it: an entry with a parity error is invalid (R273, R313). -/
def State.bandTable (s : State) (n : Nat) : List Word :=
  (List.range 64).map (fun b => if AMap.get false s.badWords (Reg.SYN_BAND n b) then 0 else s.reg (Reg.SYN_BAND n b))

/-- The band of a table for the present target: the lowest-numbered valid one with its margin (R277). (DEDUCED, log 41.) -/
def State.pickBand (s : State) (n : Nat) (cfg : Word) (num : Nat) (tbl : List Word) : Option Nat :=
  let ft : Int := s.fpfd (fld cfg 0 2) * num * (2 ^ 56 + (s.synS n).app)
  let unit : Int := 250000 * 2 ^ 104
  (List.range 64).find? (fun b =>
    let w := tbl.getD b 0
    let lo : Int := fld w 0 16
    let hi : Int := fld w 16 16
    let mg : Int := fld cfg 8 8
    decide (lo < hi) && decide ((lo + mg) * unit ≤ ft) && decide (ft ≤ (hi - mg) * unit))

/-! ### Clock outputs (R286 to R298) -/

/-- The synthesiser of port group g is not at 12,500 MHz (R287). -/
def State.ptxWrong (s : State) (g : Nat) : Bool :=
  decide (s.vcoNom (s.ptxSyn g) ≠ 12500000000 * 2 ^ 48)

/-- The transmit clock of a port group runs (R287, R288). -/
def State.ptxRun (s : State) (g : Nat) : Bool :=
  !s.ptxWrong g && (decide (s.synSt (s.ptxSyn g) = .locked) || decide (s.synSt (s.ptxSyn g) = .lost))

/-- Show PTX_ERR of the groups, raising it where it rises (R287). -/
def ptxCheck (s : State) : State :=
  forN 4 (fun g a =>
    let bad := a.ptxWrong g
    let was := a.rb Reg.OUT_STAT g
    let a1 := a.setRb Reg.OUT_STAT g bad
    if bad && !was then raiseEvt Reg.OUT 2 a1 else a1) s

/-- D of an output (R314). -/
def State.outDiv (s : State) (n : Nat) : Nat :=
  let d := s.rf (Reg.OUT_DIV n) 0 24
  if d = 0 then 2 ^ 24 else d

/-- The frequency limit of a format code, in Hz (R290, R315). -/
def fmtLimit (fmt : Nat) : Nat :=
  match fmt with
  | 0 => 1600000000
  | 1 => 400000000
  | 2 => 3400000000
  | _ => 250000000

/-- FERR: the nominal frequency divided by D exceeds the format's limit (R290). -/
def State.outFerr (s : State) (n : Nat) : Bool :=
  decide (fmtLimit (s.rf (Reg.OUT_CFG n) 8 2) * s.outDiv n * 2 ^ 48 < s.vcoNom (s.rf (Reg.OUT_CFG n) 4 2))

/-- SQL: squelched because its synthesiser is not LOCKED (R292). -/
def State.outSql (s : State) (n : Nat) : Bool :=
  s.rb (Reg.OUT_CFG n) 12 && s.rb (Reg.OUT_CFG n) 0 && decide (s.synSt (s.rf (Reg.OUT_CFG n) 4 2) ≠ .locked)

/-- The output is to run: enabled, in its limit, not squelched, not being aligned, its block enabled and its configuration good
(R290 to R292, R298, R317). -/
def State.outWant (s : State) (n : Nat) : Bool :=
  s.pgEn Reg.OUT && s.rb (Reg.OUT_CFG n) 0 && !s.outFerr n && !s.outSql n && !bit (BitVec.ofNat 12 s.outs.sync) n && !s.fltBit Reg.OUT 0

/-- An output's divider and output stage. -/
def State.outClk (s : State) (n : Nat) : OutClk := AMap.get { } s.outs.clk n
/-- Store it. -/
def State.setOutClk (s : State) (n : Nat) (x : OutClk) : State := { s with outs := { s.outs with clk := AMap.set { } s.outs.clk n x } }

/-- RUN: the output passes its divided clock (R291). -/
def State.outRun (s : State) (n : Nat) : Bool := (s.outClk n).on && (s.outClk n).gate

/-- OUTn_DLY_ECAL (R296). -/
def State.outEcal (s : State) (n : Nat) : Int :=
  satS 9 ((bits (s.reg (Reg.OUT_DLY_FCAL n)) 0 9).toInt + (bits (s.reg (Reg.OUT_DLY_UCAL n)) 0 9).toInt)

/-- The fine delay of an output in ps, in the span of the delay line (R295). -/
def State.outFine (s : State) (n : Nat) : Int := clampI 1 2559 (s.rf (Reg.OUT_FDLY n) 0 11 + 256 - s.outEcal n)

/-- Drive an edge of an output at VCO half-cycle j of the present cycle, after its fine delay (R294, R295). -/
def outDrive (n : Nat) (lvl : Bool) (j : Nat) (s : State) : State :=
  let x := s.outClk n
  let ps : Int := (((j * phUnit : Nat) : Int) - s.synPh x.syn s.bt) * 1000 / s.synRate x.syn + x.fine
  s.emit (.edge ("OUT" ++ toString n) lvl (s.bt + BitVec.ofInt 80 (ps / 1000 * 65536)) (ps % 1000))

/-- The divided clock of an output rises: a period begins with the D that stands now (R289, R293). -/
def outRise (n : Nat) (s : State) : State :=
  let x := s.outClk n
  let d := s.outDiv n
  let s1 := if x.gate then outDrive n true x.next s else s
  s1.setOutClk n { x with high := true, d := d, next := x.next + d }

/-- By how many half-cycles the next low phase is longer, to bring the coarse delay from c to its target, both below 2 D: a shortening leaves at
least one half-cycle (R294). (DEDUCED, log 121.) -/
def delayMove (d c target : Nat) : Int :=
  if c ≤ target then (target - c : Nat)
  else if d ≤ 1 then (target + 2 * d - c : Nat)
  else -((min (c - target) (d - 1) : Nat) : Int)

/-- The divided clock of an output falls: here the output starts or stops passing it, and its delays move (R291, R294, R295). -/
def outFall (n : Nat) (s : State) : State :=
  let x := s.outClk n
  let s1 := if x.gate then outDrive n false x.next s else s
  let c := x.c % (2 * x.d)
  let k := delayMove x.d c (s.rf (Reg.OUT_CDLY n) 0 25 % (2 * x.d))
  let f := x.fine + clampI (-64) 64 (s.outFine n - x.fine)
  let y := { x with high := false, gate := s.outWant n, c := ((c + k) % (2 * x.d)).toNat, next := ((x.next + x.d : Nat) + k).toNat, fine := f }
  (s1.setOutClk n y).setRb (Reg.OUT_STATN n) 0 y.gate

/-- The edges of an output's divided clock in the present cycle of CD_TB, at most n of them. -/
def outEdges (n : Nat) : Nat → State → State
  | 0, s => s
  | k + 1, s =>
    let x := s.outClk n
    if x.next * phUnit < s.synPh x.syn s.bt + s.synRate x.syn then outEdges n k (if x.high then outFall n s else outRise n s) else s

/-- The clock outputs in a cycle of CD_TB: a VCO has fewer than 32 half-cycles in it (R289). -/
def outsCycle (s : State) : State :=
  (s.outs.clk.filter (fun p => p.2.on)).foldl (fun a p => outEdges p.1 32 a) s

/-- The divider of an output starts with the synthesiser that clocks it, at a phase that the spec leaves open, or stops with it (R289).
(DESIGN CHOICE, log 121.) -/
def outDivider (n : Nat) (s : State) : State :=
  let x := s.outClk n
  let k := s.rf (Reg.OUT_CFG n) 4 2
  let run := s.synRuns k
  if x.on = run ∧ (run = false ∨ x.syn = k) then s
  else if run then
    let d := s.outDiv n
    let at_ := s.synPh k s.bt / phUnit + 1 + s.freeVal % (2 * d)
    s.nextFree.setOutClk n { syn := k, on := true, next := at_, d := d, c := s.rf (Reg.OUT_CDLY n) 0 25 % (2 * d), fine := s.outFine n }
  else s.setOutClk n { x with on := false, high := false, gate := false }

/-- Show an output's state, raising FERR and SQUELCH where they rise; beyond its limit the driver is off at once (R290 to R292, R316). -/
def outUpdate (n : Nat) (s : State) : State :=
  let a := Reg.OUT_STATN n
  let was := s.reg a
  let lvl := (s.outClk n).gate && (s.outClk n).high
  let s0 := outDivider n s
  let ferr := s0.outFerr n
  let sql := s0.outSql n
  let s1 := if ferr then s0.setOutClk n { s0.outClk n with gate := false } else s0
  let s2 := s1.setReg a (BitVec.ofNat 32 (b2n (s1.outRun n) + 2 * b2n ferr + 4 * b2n sql))
  let s3 := if ferr && !bit was 1 then raiseEvt Reg.OUT 0 s2 else s2
  let s4 := if sql && !bit was 2 then raiseEvt Reg.OUT 1 s3 else s3
  if lvl && !((s1.outClk n).gate && (s1.outClk n).high) then s4.emit (.edge ("OUT" ++ toString n) false s.bt 0) else s4

/-- Show every output's state. -/
def outsUpdate (s : State) : State := forN 12 outUpdate s

/-- Change a synthesiser's state: STATE is raised, and its outputs and port groups follow (R279, R288, R312). The phase at which its VCO
begins to clock them is left open. (DESIGN CHOICE, log 121.) -/
def setSyn (n : Nat) (st : SynState) (s : State) : State :=
  if s.synSt n = st then s.setSynS n { s.synS n with since := s.bt }
  else
    let s0 := (s.setRf (Reg.SYN_STAT n) 0 3 st.code).setSynS n { s.synS n with since := s.bt }
    let s1 := if s0.synRuns n && !s.synRuns n then s0.nextFree.setSynS n { s0.synS n with ph := s0.freeVal % phUnit, phAt := s0.bt } else s0
    let s2 := raiseEvt (Reg.SYN n) 0 s1
    let s3 := if st = .locked ∨ st = .lost then s2 else s2.setRb (Reg.SYN_STAT n) 16 false
    outsUpdate (ptxCheck s3)

/-- LOCKED is entered: f_app takes the stored target (R285). -/
def synLocked (n : Nat) (s : State) : State := setApp n (s.synTgt n) (setSyn n .locked s)

/-! ### Pulse outputs (R299 to R308, R974) -/

/-- A pulse output's state. -/
def State.ppsS (s : State) (n : Nat) : Pps := AMap.get { } s.outs.pps n
/-- Store it. -/
def State.setPps (s : State) (n : Nat) (x : Pps) : State :=
  { s with outs := { s.outs with pps := AMap.set { } s.outs.pps n x } }

/-- Δ of an output, in 2^-16 ns (R303). -/
def State.ppsDelta (s : State) (n : Nat) : Int := (BitVec.ofNat 64 (s.regN (Reg.PPS_DLT n) 2)).toInt

/-- The pulse rate F of a mode (R299). -/
def Pps.rateF (x : Pps) : Nat :=
  match x.mode with
  | 0 => 1
  | 1 => x.rate
  | 2 => 8000
  | _ => 2000

/-- The target t(s, k) (R299). -/
def Pps.targetAt (x : Pps) (sec k : Nat) : Int :=
  sec * (1000000000 * 65536) + rne (k * 1000000000 * 65536) x.rateF + rne (x.ofs * 65536) 1000

/-- The number of the first target later than an instant, counting s * F + k. -/
def Pps.firstAfter (x : Pps) (w : Int) : Nat :=
  let f := x.rateF
  let base := ((w - rne (x.ofs * 65536) 1000) * f / (1000000000 * 65536)).toNat
  let rec go : Nat → Nat → Nat
    | 0, i => i
    | n + 1, i => if w < x.targetAt (i / f) (i % f) then i else go n (i + 1)
  go 4 (base - 1)

/-- The target of a number. -/
def Pps.targetNo (x : Pps) (i : Nat) : WT96 := BitVec.ofInt 96 (x.targetAt (i / x.rateF) (i % x.rateF))

/-- The width W of a pulse in ns (R300). -/
def State.ppsW (s : State) (n : Nat) : Nat :=
  min (s.rf (Reg.PPS_WIDTH n) 0 30) (1000000000 / (2 * (s.ppsS n).rateF))

/-- Served time less Δ at the present cycle (R300). (DEDUCED, log 42.) -/
def State.ppsNow (s : State) (n : Nat) : WT96 := s.now - BitVec.ofInt 96 (s.ppsDelta n)

/-- An output runs (R318). -/
def State.ppsRun (s : State) (n : Nat) : Bool := s.rb (Reg.PPS_STAT n) 0

/-- Stop an output, at once where it is inactive and else at its next inactive phase; its alignment is disarmed (R308, R974). -/
def ppsStop (n : Nat) (s0 : State) : State :=
  let s := s0.setRb (Reg.PPS_STAT n) 3 false
  if ¬ s.ppsRun n then s
  else
    let x := s.ppsS n
    if x.active then s.setPps n { x with stopDue := true }
    else raiseEvt Reg.PPS 3 ((s.setPps n { x with target := none, stopDue := false }).setRb (Reg.PPS_STAT n) 0 false)

/-- Stop every output and disarm its alignment (R308, R974). -/
def ppsStopAll (s : State) : State := forN 4 ppsStop s

/-- Arm an alignment: not while the block is disabled or SCHED is set (R305, R321, R974). -/
def ppsArm (n : Nat) (s : State) : State :=
  if s.pgEn Reg.PPS ∧ s.fltBit Reg.PPS 0 = false then s.setRb (Reg.PPS_STAT n) 3 true else s

/-- The block is enabled: each output with EN has an alignment armed (R974). -/
def ppsArmAll (s : State) : State := forN 4 (fun n a => if a.rb (Reg.PPS_CFG n) 0 then ppsArm n a else a) s

/-- A BDR reset: the trailing edge of a pulse under way keeps the Bedrock value that the time scale before the reset gives it, and every output
stops (R300, R308). (DEDUCED, log 42.) -/
def ppsBdrReset (s : State) : State :=
  ppsStopAll (forN 4 (fun n a =>
    let x := a.ppsS n
    match x.active, x.target with
    | true, some t => a.setPps n { x with endAt := some (a.bt + BitVec.ofInt 80 (t + wtNs x.width - a.ppsNow n).toInt) }
    | _, _ => a) s)

/-- MISALIGN: ceil(|Δ| / 65.536) ps exceeds the threshold (R304). -/
def ppsJudge (n : Nat) (s : State) : State :=
  let ps := cdiv ((s.ppsDelta n).natAbs * 1000) 65536
  if (s.reg (Reg.PPS_MTH n)).toNat < ps ∧ s.rb (Reg.PPS_STAT n) 1 = false then
    raiseEvt Reg.PPS 0 (s.setRb (Reg.PPS_STAT n) 1 true)
  else s

/-- A BDR step adds its value to Δ of every output (R303). -/
def ppsStep (v : WT96) (s : State) : State :=
  forN 4 (fun n a =>
    ppsJudge n (a.setRegN (Reg.PPS_DLT n) (BitVec.ofInt 64 (a.ppsDelta n + v.toInt)).toNat 2)) s

end Sys2Proof.Machine
end

