-- ==== Sys2Proof/Machine/DplCore.lean ====
section
/-! DEFINITION. Loop units: the states, the measurement update, reports, the EFC and template outputs and the history (R223 to R263). -/
namespace Sys2Proof.Machine

/-- Internal state of a loop. -/
def State.dplS (s : State) (l : Nat) : Dpl := AMap.get { } s.dpl l
/-- Store it. -/
def State.setDpl (s : State) (l : Nat) (x : Dpl) : State := { s with dpl := AMap.set { } s.dpl l x }

/-- MODE of a loop: 0 TIME, 1 FREQ, 2 STEER (R265). -/
def State.dplMode (s : State) (l : Nat) : Nat := s.rf (Reg.DPL_CFG l) 0 2

/-- The state of a loop (R267). -/
def State.dplSt (s : State) (l : Nat) : LoopState :=
  match s.rf (Reg.DPL_STAT l) 0 2 with
  | 0 => .freerun
  | 1 => .acquire
  | 2 => .locked
  | _ => .holdover

/-- The code of a loop state (R267). -/
def LoopState.code : LoopState → Nat
  | .freerun => 0 | .acquire => 1 | .locked => 2 | .holdover => 3

/-- HO_VALID of a loop (R248). -/
def State.hoValid (s : State) (l : Nat) : Bool := s.rb (Reg.DPL_STAT l) 2
/-- VALID of the loop's selection. -/
def State.curValid (s : State) (l : Nat) : Bool := s.rb (Reg.REF_LOOP_CUR l) 8
/-- The entry a loop follows. -/
def State.curEntry (s : State) (l : Nat) : Nat := s.rf (Reg.REF_LOOP_CUR l) 0 6
/-- The free-run frequency, 2^-56 (R240). -/
def State.frFreq (s : State) (l : Nat) : Int := (BitVec.ofNat 44 (s.regN (Reg.DPL_FRFREQ l) 2)).toInt

/-- The loop's time axis at a Bedrock value: served time in STEER mode, Bedrock otherwise (R226). -/
def State.dplTime (s : State) (l : Nat) (b : BT80) : Nat :=
  if s.dplMode l = 2 then (s.servedAt b).toNat else b.toNat

/-- dt between two points of the loop's axis, signed (R226). -/
def State.dplDt (s : State) (l : Nat) (a b : Nat) : Int :=
  if s.dplMode l = 2 then (BitVec.ofNat 96 a - BitVec.ofNat 96 b).toInt else (BitVec.ofNat 80 a - BitVec.ofNat 80 b).toInt

/-- A duration of n ms on the axis. -/
@[reducible] def axMs (n : Nat) : Nat := n * 1000000 * 65536

/-- y in HOLDOVER with history: h + DPL_HODRIFT * t (R240). -/
def State.hoY (s : State) (l : Nat) (t : Int) : Int :=
  clampI (-(2 ^ 43)) (2 ^ 43 - 1)
    ((s.dplS l).h + rne ((s.reg (Reg.DPL_HODRIFT l)).toInt * t) (2 ^ 20 * 65536 * 1000000000))

/-- p as pred of R226 at a point of the axis, and y as it stands there: in FREERUN and HOLDOVER p has advanced with the y of the interval
that ends there (R240). (DEDUCED, log 38.) -/
def State.dplAt (s : State) (l : Nat) (t : Nat) : Int × Int :=
  let x := s.dplS l
  let dt := s.dplDt l t x.bprev
  let y := match s.dplSt l with
    | .freerun => s.frFreq l
    | .holdover => if s.hoValid l then s.hoY l (s.dplDt l t x.hoAt) else s.frFreq l
    | .acquire | .locked => x.y
  (x.p + dt + rne (x.y * dt) (2 ^ 56), y)

/-- Bring p and y of a loop in FREERUN or HOLDOVER up to the present (R240). (DEDUCED, log 38.) -/
def dplAdvance (l : Nat) (s : State) : State :=
  match s.dplSt l with
  | .acquire | .locked => s
  | .freerun | .holdover =>
    let t := s.dplTime l s.bt
    let pe := s.dplAt l t
    s.setDpl l { s.dplS l with p := pe.1, y := pe.2, bprev := t }

/-- Change a loop's state (R236, R241, R246, R248). -/
def setDplSt (l : Nat) (st : LoopState) (s : State) : State :=
  let old := s.dplSt l
  if old = st then s
  else
    let t := s.dplTime l s.bt
    let pe := s.dplAt l t
    let x := s.dplS l
    let x1 : Dpl := { x with lockAt := none, unlockRow := 0, lockedAt := if st = .locked then some t else none,
                             ys := if st = .locked then [] else x.ys,
                             hPart := x.hPart || decide (old = .locked) || decide (st ≠ .locked) }
    let x2 : Dpl := match st with
      | .freerun => { x1 with p := pe.1, bprev := t, y := s.frFreq l, build := 0, forced := false, seeded := false, firstDue := false }
      | .holdover => { x1 with p := pe.1, bprev := t, hoAt := t, y := if s.hoValid l then x.h else s.frFreq l }
      | .acquire | .locked => if old = .holdover ∨ old = .freerun then { x1 with p := pe.1, bprev := t, y := pe.2 } else x1
    let s1 := (s.setDpl l x2).setRf (Reg.DPL_STAT l) 0 2 st.code
    let s2 := if st = .freerun then (s1.setRb (Reg.DPL_STAT l) 2 false).setRb (Reg.DPL_STAT l) 3 false else s1
    let s3 := if old = .locked then s2.count (Reg.DPL_CNT_UNLOCK l) else s2
    let s4 := raiseEvt (Reg.DPL l) 1 s3
    if old = .locked ∧ l = s4.tsLoop ∧ s4.dplMode l = 0 then asyUnlock s4 else s4

/-! ### Outputs of a loop (R251 to R261) -/

/-- The loop runs in a mode. -/
def State.dplRuns (s : State) (l mode : Nat) : Bool := s.pgEn (Reg.DPL l) && decide (s.dplMode l = mode)

/-- OUTCONF: a lower-numbered enabled loop has the output this one names (R252, R258). -/
def State.outConf (s : State) (l : Nat) : Bool :=
  (s.dplRuns l 1 && (List.range l).any (fun j =>
    s.dplRuns j 1 && decide (s.rf (Reg.DPL_CFG j) 4 2 = s.rf (Reg.DPL_CFG l) 4 2))) ||
  (s.dplRuns l 2 && !s.rb (Reg.DPL_CFG l) 6 &&
    (List.range l).any (fun j => s.dplRuns j 2 && !s.rb (Reg.DPL_CFG j) 6))

/-- The FREQ loop that delivers to a synthesiser (R251, R252, R311). -/
def State.synLoop (s : State) (n : Nat) : Option Nat :=
  (List.range 8).find? (fun l => s.dplRuns l 1 && decide (s.rf (Reg.DPL_CFG l) 4 2 = n))

/-- Give EFC_PWM a code (R257, R258). -/
def setEfc (l code : Nat) (run : Bool) (s : State) : State :=
  ({ s with outs := { s.outs with efcBy := some l, efc := { s.outs.efc with code := code, run := run } } }).setReg (Reg.DPL_EFC_CODE l)
    (BitVec.ofNat 32 code)

/-- Show OUTCONF of every loop, and let EFC_PWM be taken by the lowest-numbered loop that has it; the pin follows its EFC_CTR until its first
update (R258). -/
def dplOutputs (s : State) : State :=
  let s1 := forN 8 (fun l a => a.setRb (Reg.DPL_STAT l) 5 (a.outConf l)) s
  let own := (List.range 8).find? (fun l => s1.dplRuns l 2 && !s1.rb (Reg.DPL_CFG l) 6)
  match own with
  | some l => if s1.outs.efcBy = some l ∧ s1.outs.efc.run = true then s1 else setEfc l (s1.rf (Reg.DPL_EFC_CTR l) 0 24) false s1
  | none => s1

/-- A carrier period of EFC_PWM in cycles of CD_SCAL (R257). -/
@[reducible] def efcPeriod : Nat := 4096

/-- EFC_PWM in a cycle of CD_SCAL once a loop has taken the pin: a period begins with the code's high time, the carry of its low bits
dithered in by a first-order sigma-delta (R257). (DEDUCED, log 119.) -/
def efcCycle (s : State) : State :=
  if s.outs.efcBy = none then s
  else
    let x := s.outs.efc
    let pos := match x.at_ with
      | some a => (s.bt - a).toNat / (4 * 65536)
      | none => efcPeriod
    let sum := x.acc + x.code % 4096
    let begins := decide (efcPeriod ≤ pos)
    let y : Efc := if begins then { x with at_ := some s.bt, acc := sum % 4096, hi := x.code / 4096 + sum / 4096 } else x
    let lvl := decide ((if begins then 0 else pos) < y.hi)
    let s1 := { s with outs := { s.outs with efc := { y with lvl := lvl } } }
    if lvl = x.lvl ∧ x.at_.isSome then s1 else s1.emit (.pin "EFC_PWM" lvl)

/-- An update that the limit, a clamp or a saturation changed sets LIMIT, counts it and raises LIMIT; the first that is not
clears it (R235, R256, R260). -/
def dplLimit (l : Nat) (act : Bool) (s : State) : State :=
  if act then raiseEvt (Reg.DPL l) 2 ((s.setRb (Reg.DPL_STAT l) 4 true).count (Reg.DPL_CNT_LIMIT l))
  else s.setRb (Reg.DPL_STAT l) 4 false

/-- The EFC code for u, and whether the clamp acted (R256); a MIN above MAX fixes it at MAX. -/
def State.efcCode (s : State) (l : Nat) : Nat × Bool :=
  let gain := (s.reg (Reg.DPL_EFC_GAIN l)).toInt
  let lo : Int := s.rf (Reg.DPL_EFC_MIN l) 0 24
  let hi : Int := s.rf (Reg.DPL_EFC_MAX l) 0 24
  let ctr : Int := s.rf (Reg.DPL_EFC_CTR l) 0 24
  let num := (s.dplS l).u * 256
  let q := if gain = 0 then 0 else rne (if gain < 0 then -num else num) gain.natAbs
  let raw := ctr + q
  let v := if hi < lo then hi else clampI lo hi raw
  if gain = 0 then (ctr.toNat, false) else (v.toNat, decide (v ≠ raw))

/-- Decimal digits of a number, zero-filled to a width. (DEDUCED, log 40.) -/
def decDigits : Nat → Nat → List Byte
  | 0, _ => []
  | n + 1, v => decDigits n (v / 10) ++ [BitVec.ofNat 8 (48 + v % 10)]

/-- Upper-case hexadecimal digits of a number, zero-filled to a width. (DEDUCED, log 40.) -/
def hexDigits : Nat → Nat → List Byte
  | 0, _ => []
  | n + 1, v => hexDigits n (v / 16) ++ [BitVec.ofNat 8 (if v % 16 < 10 then 48 + v % 16 else 55 + v % 16)]

/-- A template value brought into its field: one that does not fit takes the largest magnitude of its sign that does (R260). -/
def tplSat (fmt width : Nat) (v : Int) : Int :=
  if fmt = 0 then clampI (-(10 ^ width - 1)) (10 ^ width - 1) v else satS (if fmt = 1 then 4 * width else 8 * width) v

/-- The bytes that a template value writes (R260). -/
def tplField (fmt width : Nat) (v : Int) : List Byte :=
  if fmt = 0 then (if v < 0 then 45 else 43) :: decDigits width v.natAbs
  else if fmt = 1 then hexDigits width (BitVec.ofInt (4 * width) v).toNat
  else bytesBE width (BitVec.ofInt (8 * width) v).toNat

/-- The value of a template (R259). -/
def State.tplValue (s : State) (l : Nat) : Int :=
  rne ((s.dplS l).u * (s.reg (Reg.DPL_TPL_MUL l)).toNat) (2 ^ s.rf (Reg.DPL_TPL_CFG l) 24 6)

/-- The template's bytes with a value written in; none when the field passes the end (R260, R268). -/
def State.tplBytes (s : State) (l : Nat) (v : Int) : Option (List Byte) :=
  let cfg := s.reg (Reg.DPL_TPL_CFG l)
  let len := fld cfg 0 7
  let pos := fld cfg 8 6
  let f := tplField (fld cfg 20 2) (fld cfg 16 4) v
  let base := ((List.range 16).flatMap (fun i => bytesLE 4 (s.reg (Reg.DPL_TPL_DATA l i)).toNat)).take len
  if len < pos + f.length then none
  else some (base.take pos ++ f ++ base.drop (pos + f.length))

/-- Send bytes on a UART. (DEDUCED, log 40.) -/
def uartSend (u : Nat) (l : List Byte) (s : State) : State := l.foldl (fun a b => a.emit (.uartByte u b)) s

/-- Send the template when the value, brought into its field, differs from the last one sent and the minimum time has passed (R259, R260).
The result says that LIMIT is set. (DEDUCED, log 40.) -/
def tplSend (l : Nat) (s : State) : State × Bool :=
  let x := s.dplS l
  let cfg := s.reg (Reg.DPL_TPL_CFG l)
  let v := tplSat (fld cfg 20 2) (fld cfg 16 4) (s.tplValue l)
  let sat := decide (v ≠ s.tplValue l)
  let wait := match x.tplAt with
    | some w => !atOrAfter s.now (w + wtNs (s.rf (Reg.DPL_TPL_MIN l) 0 8 * 1000000000))
    | none => false
  if x.tplLast = some v ∨ wait = true then (s, sat)
  else
    match s.tplBytes l v with
    | none => (s, true)
    | some bs =>
      let s1 := (s.setDpl l { x with tplLast := some v, tplAt := some s.now }).setReg (Reg.DPL_TPL_VAL l) (BitVec.ofInt 32 v)
      (uartSend (s.rf (Reg.DPL_CFG l) 8 2) bs s1, sat)

/-- A loop's output at an update: FREQ to its synthesiser, STEER to EFC_PWM or its template (R251, R256, R259).
The result says that a clamp or a saturation acted. -/
def dplOutput (l : Nat) (s : State) : State × Bool :=
  if s.dplMode l = 1 then
    (if s.pgEn (Reg.DPL l) && !s.outConf l then synDeliver (s.rf (Reg.DPL_CFG l) 4 2) (s.dplS l).y s else s, false)
  else if s.dplMode l = 2 then
    if s.rb (Reg.DPL_CFG l) 6 then tplSend l s
    else if s.outConf l then (s, false)
    else
      let c := s.efcCode l
      (setEfc l c.1 true s, c.2)
  else (s, false)

/-! ### Conditions on the state (R236, R237) -/

/-- One pass over the conditions that need no command and no measurement, in the order of R237. -/
def dplEvalOnce (l : Nat) (s : State) : State :=
  let a := Reg.DPL_STAT l
  if !s.pgEn (Reg.DPL l) || s.fltBit (Reg.DPL l) 0 then
    setDplSt l .freerun ((s.setRb a 7 false).setRb a 6 false)
  else
    let steer := decide (s.dplMode l = 2)
    let kindErr := steer && s.curValid l && decide (s.curEntry l ≠ 46 ∧ s.curEntry l ≠ 47)
    if kindErr then setDplSt l .freerun ((s.setRb a 6 true).setRb a 7 false)
    else
      let s0 := s.setRb a 6 false
      let s1 := if steer then s0 else s0.setRb a 7 false
      let trc := decide (s1.asy.ts = .traceable)
      match s1.dplSt l with
      | .freerun =>
        if s1.curValid l then
          let s2 := setDplSt l .acquire s1
          s2.setDpl l { s2.dplS l with reseed := true }
        else s1
      | .acquire | .locked =>
        if ¬ s1.curValid l then setDplSt l (if s1.hoValid l then .holdover else .freerun) s1
        else if steer && !trc then setDplSt l .holdover (s1.setRb a 7 true)
        else s1
      | .holdover =>
        if (s1.dplS l).forced then s1
        else if s1.rb a 7 then
          (if trc then
            let s2 := s1.setRb a 7 false
            if s2.curValid l then setDplSt l .acquire s2 else s2
          else s1)
        else if s1.curValid l then setDplSt l .acquire s1
        else s1

/-- Apply the conditions until they hold still; a loop that leaves HOLDOVER by the row of VALID meets TS_HOLD after it. -/
def dplEval (l : Nat) (s : State) : State := dplEvalOnce l (dplEvalOnce l (dplEvalOnce l s))

/-- Apply the conditions of every loop. -/
def dplEvalAll (s : State) : State := forN 8 dplEval (dplOutputs s)

/-- A change of CUR reaches the loop (R207, R243, R246): `chg` says that the entry followed is another. -/
def dplCurChange (l : Nat) (chg : Bool) (s : State) : State :=
  let s1 := if chg then
      (s.setDpl l { s.dplS l with edges := 0, firstDue := s.curValid l, build := 0, rebuild := false }).setRb (Reg.DPL_STAT l) 3 false
    else s
  dplEval l s1

/-! ### The update (R226 to R235) -/

/-- Bandwidth of a code in mHz (R231). -/
def bwMilliHz (c : Nat) : Nat :=
  [1, 2, 5, 10, 20, 50, 100, 200, 500, 1000, 2000, 5000, 10000, 20000, 50000, 100000, 200000, 500000, 1000000, 2000000,
   4000000].getD c 4000000

/-- The entry is measured by edges (R223, R224). (DEDUCED, log 36.) -/
def edgeKind (e : Nat) : Bool := decide (e < 32) || decide (45 ≤ e)

/-- Nominal rate of an entry in Hz; that of the clock taken for entries 16 to 31 and 45 (R212). -/
def State.entNom (s : State) (e : Nat) : Nat :=
  if 16 ≤ e ∧ e ≤ 31 then (if s.gmode ((e - 16) / 4) = 1 then 156250000 else 390625000)
  else if e = 45 then 390625000
  else (s.reg (Reg.REF_ENT_NOM e)).toNat

/-- Measurement rate of an entry in mHz: for edges after their decimation, for MATE_T the 1 kHz of the mate's pulses, for PTP and GNSS the
nominal rate of their deliveries (R180, R224, R808). -/
def State.measRate (s : State) (e : Nat) : Nat :=
  let nom := s.entNom e
  if edgeKind e then nom * 1000 / (cdiv nom 100000) else if e = 44 then 1000000 else nom * 1000

/-- The lowest-numbered UART bound to a REFIN (R214). -/
def State.todOf (s : State) (refin : Nat) : Option Nat :=
  (List.range 4).find? (fun u => s.rb (Reg.REF_TOD_CFG u) 4 && decide (s.rf (Reg.REF_TOD_CFG u) 0 4 = refin))

/-- The entry serves time (R178). -/
def State.servesTime (s : State) (e : Nat) : Bool :=
  if e < 16 then (s.todOf e).isSome || s.rb (Reg.REF_ENT_CFG e) 7
  else decide (32 ≤ e ∧ e ≤ 44)

/-- BW_EFF: the largest code not above the programmed one that the measurement rate allows, 0 where none does (R228, R229). -/
def State.bwEff (s : State) (l : Nat) : Nat :=
  let bw := s.rf (Reg.DPL_BW l) 0 5
  let acq := s.rf (Reg.DPL_BW l) 8 5
  let prog := if s.dplSt l = .acquire then max bw acq else bw
  let m := s.measRate (s.curEntry l)
  ((List.range (prog + 1)).reverse.find? (fun c => decide (bwMilliHz c * 20 ≤ m))).getD 0

/-! ### The loop filter (R227, R232) -/

/-- The damping factor of a code, in 10^-3 (R232). -/
def dampZeta (c : Nat) : Nat := [5000, 2500, 1200, 707].getD c 707

/-- The angle 2 pi f dt of a bandwidth in mHz and a dt in 2^-16 ns, with 355/113 for pi. -/
def loopAngle (mHz dt : Nat) : Rat := (710 * mHz * dt : Nat) / (113 * 65536 * 1000000000000 : Nat)

/-- 1 - cos of an angle below 1, by its series. -/
def versin (t : Rat) : Rat := t ^ 2 / 2 - t ^ 4 / 24 + t ^ 6 / 720

/-- Whether the closed loop of R226 with gains kp and ki passes more than half the power at the angle t of one update. With c = 1 - cos t, the
power of the numerator kp (z - 1) + ki and of the denominator (z - 1)^2 + (kp + ki) (z - 1) + ki on the unit circle. -/
def loopPasses (kp ki t : Rat) : Bool :=
  let c := versin t
  let a := kp + ki
  let num := 2 * kp ^ 2 * c - 2 * kp * ki * c + ki ^ 2
  let den := 4 * c ^ 2 + 2 * a ^ 2 * c + ki ^ 2 - 4 * a * c ^ 2 + 4 * ki * c ^ 2 - 4 * ki * c - 2 * a * ki * c
  decide (den ≤ 2 * num)

/-- Gains put the -3 dB bandwidth of the closed loop within 10 % of the effective bandwidth (R227), and the damping factor kp / (2 sqrt ki)
within 10 % of its code's (R232). (DEDUCED, log 10.) -/
def gainsMeet (kp ki : Rat) (damp : Nat) (t : Rat) : Bool :=
  let z : Rat := dampZeta damp / 1000
  decide (0 < kp) && decide (0 < ki) && loopPasses kp ki (t * 9 / 10) && !loopPasses kp ki (t * 11 / 10) &&
    decide (4 * ki * (z * 9 / 10) ^ 2 ≤ kp ^ 2) && decide (kp ^ 2 ≤ 4 * ki * (z * 11 / 10) ^ 2)

/-- Gains of a second-order loop with the angle t of its bandwidth and a damping code. (DEDUCED, log 10.) -/
def plainGains (damp : Nat) (t : Rat) : Rat × Rat :=
  let k : Rat := ([10099990, 5199710, 2808344, 2058032].getD damp 2058032 : Nat) / 1000000
  let r : Rat := ([52, 46, 29, 11].getD damp 11 : Nat) / 100
  let x := t / k / (1 + r * t)
  (2 * (dampZeta damp / 1000) * x, x ^ 2)

/-- kp and ki of an update: those of the implementation where they meet R227 and R232, which bind dt up to 1/(20 * bandwidth).
(DESIGN CHOICE, log 10.) -/
def loopGains (bw damp dt : Nat) : Rat × Rat :=
  let g := Config.loopGain bw damp dt
  let t := loopAngle (bwMilliHz bw) dt
  if 1000000000000 * 65536 < 20 * bwMilliHz bw * dt ∨ gainsMeet g.1 g.2 damp t = true then g else plainGains damp t

/-- A rational rounded to the nearest integer, ties to even. (DEDUCED, log 34.) -/
def rneRat (q : Rat) : Int := rne q.num q.den

/-- The corrections kp * e to p and ki * e / dt to y of an update (R226). (DEDUCED, log 34; DESIGN CHOICE, log 118.) -/
def loopCorrect (bw damp dt : Nat) (e : Int) : Int × Int :=
  let g := loopGains bw damp dt
  (rneRat (g.1 * e), if dt = 0 then Config.loopSameTime e else rneRat (g.2 * e * 2 ^ 56 / dt))

/-! ### The update, its limit and what follows it -/

/-- Phase-slope limiting of a new phase and frequency against h: the limited pair and whether it acted (R233). -/
def pslLimit (psl : Nat) (h pprev p y dt : Int) : Int × Int × Bool :=
  let one : Int := 10 ^ 12
  let lim : Int := psl * 2 ^ 56
  let fd := ((p - pprev - dt) * 2 ^ 56 - h * dt) * one
  let hitP := decide (lim * dt < fd.natAbs)
  let p1 := if hitP then
      pprev + dt + rne ((h * one + (if fd < 0 then -lim else lim)) * dt) (2 ^ 56 * 10 ^ 12) else p
  let yd := (y - h) * one
  let hitY := decide (lim < yd.natAbs)
  let y1 := if hitY then h + rne (if yd < 0 then -lim else lim) (10 ^ 12) else y
  (p1, y1, hitP || hitY)

/-- Whether the limit applies: in LOCKED, and in ACQUIRE with history (R234). -/
def State.pslOn (s : State) (l : Nat) : Bool :=
  decide (s.rf (Reg.DPL_PSL l) 0 24 ≠ 0) &&
    (decide (s.dplSt l = .locked) || (decide (s.dplSt l = .acquire) && s.hoValid l))

/-- HO_AVG in ms (R264). -/
def hoAvgMs (c : Nat) : Nat := [1000, 10000, 100000, 1000000, 10000000].getD c 10000000

/-- h over its window, and HO_VALID, after an update in LOCKED at a point of the axis (R247, R248). -/
def dplHistory (l : Nat) (t : Nat) (s : State) : State :=
  let x := s.dplS l
  let avg := axMs (hoAvgMs (s.rf (Reg.DPL_HO l) 0 3))
  let exc := axMs (100 * s.rf (Reg.DPL_HO l) 8 8)
  let ys := ((t, x.y) :: x.ys).filter (fun p => decide (s.dplDt l t p.1 ≤ ((avg + exc : Nat) : Int)))
  let win := ys.filter (fun p => decide (((exc : Nat) : Int) ≤ s.dplDt l t p.1))
  let h := if win.isEmpty then x.h else rne ((win.map (·.2)).foldl (· + ·) 0) win.length
  let ok := match x.lockedAt with
    | some t0 => decide (((avg + exc : Nat) : Int) ≤ s.dplDt l t t0)
    | none => false
  let s1 := (s.setDpl l { x with ys := ys, h := h }).setRegN (Reg.DPL_HOFREQ l) (BitVec.ofInt 64 h).toNat 2
  if ok then s1.setRb (Reg.DPL_STAT l) 2 true else s1

/-- |e| against a threshold in 100 ps units. -/
def withinPs (e : Int) (th : Nat) : Bool := decide (e.natAbs * 10 ≤ th * 65536)

/-- The lock detector after an update (R236). -/
def lockDetect (l : Nat) (t : Nat) (s : State) : State :=
  let x := s.dplS l
  let lk := s.rf (Reg.DPL_LOCK l) 0 16
  let un := s.rf (Reg.DPL_LOCK l) 16 16
  match s.dplSt l with
  | .acquire =>
    if withinPs x.e lk then
      let t0 := x.lockAt.getD t
      let s1 := s.setDpl l { x with lockAt := some t0 }
      if ((axMs (100 * s.rf (Reg.DPL_LOCKT l) 0 16) : Nat) : Int) ≤ s.dplDt l t t0 then setDplSt l .locked s1 else s1
    else s.setDpl l { x with lockAt := none }
  | .locked =>
    if withinPs x.e un then s.setDpl l { x with unlockRow := 0 }
    else if s.rf (Reg.DPL_LOCKT l) 16 8 ≤ x.unlockRow + 1 then setDplSt l .acquire s
    else s.setDpl l { x with unlockRow := x.unlockRow + 1 }
  | .freerun | .holdover => s

/-- The report period in ms (R265). -/
def rptMs (c : Nat) : Nat := [1000, 100, 10, 1].getD c 1000

/-- The number of the latest report instant (R249). -/
def State.rptNo (s : State) (l : Nat) : Nat := s.now.toNat / axMs (rptMs (s.rf (Reg.DPL_CFG l) 12 3))

/-- Latch a report at a Bedrock value with a phase and a frequency, and raise RPT (R249, R250). -/
def dplReport (l : Nat) (b : BT80) (p y : Int) (s : State) : State :=
  let x := s.dplS l
  let mode := s.dplMode l
  let fout := if mode = 2 then x.u else y
  let terr := if mode = 0 then clampI (-(2 ^ 63 - 1)) (2 ^ 63 - 1) ((s.servedAt b).toNat - p) else satS 64 x.e
  let s1 := (s.setRegN (Reg.DPL_FOUT l) (BitVec.ofInt 64 fout).toNat 2).setRegN (Reg.DPL_TERR l) (BitVec.ofInt 64 terr).toNat 2
  let s2 := s1.setRegN (Reg.DPL_RPTBT l) b.toNat 3
  let s3 := s2.setDpl l { s2.dplS l with rpt := s2.rptNo l }
  let s4 := raiseEvt (Reg.DPL l) 0 s3
  if mode = 1 then (dplOutput l s4).1 else s4

/-- Note an update in the history sums (R263). -/
def histNote (l : Nat) (s : State) : State :=
  let x := s.dplS l
  let x1 := if s.dplSt l = .locked then { x with hySum := x.hySum + x.y, hyCnt := x.hyCnt + 1 } else x
  s.setDpl l (if s.dplMode l = 2 then { x1 with huSum := x1.huSum + x1.u, huCnt := x1.huCnt + 1 } else x1)

/-- The reference value x of a measurement: the WT96 of the event, if it is known, in TIME mode for an entry that serves time; the unwrapped
phase of the edges counted in every other case (R223). -/
def State.measX (s : State) (l e : Nat) (x : Option WT96) : Option Int :=
  if s.dplMode l = 0 ∧ s.servesTime e then x.map (fun t => (t.toNat : Int))
  else some (rne (((s.dplS l).edges : Int) * 1000000000 * 65536) (s.entNom e))

/-- A report instant has passed since the last report (R249). -/
def State.rptDue (s : State) (l : Nat) : Bool := decide ((s.dplS l).rpt < s.rptNo l)

/-- A build-out is applied on a change to this entry (R244). -/
def State.buildsOut (s : State) (l e : Nat) : Bool := decide (s.dplMode l ≠ 0) || !s.servesTime e

/-- The update of a loop from a measurement of the entry it follows (R226, R233, R239, R243, R244, R254, R255).
(DESIGN CHOICE, log 10; DEDUCED, log 38.) -/
def dplUpdate (l : Nat) (b : BT80) (e : Nat) (x : Int) (s : State) : State :=
  let d := s.dplS l
  let t := s.dplTime l b
  if d.reseed ∨ ¬ d.seeded then
    s.setDpl l { d with p := x, pprev := x, bprev := t, y := if d.reseed then s.frFreq l else d.y, reseed := false, seeded := true,
                        firstDue := false, rebuild := false }
  else
    let dt : Int := (BitVec.ofNat 80 t - BitVec.ofNat 80 d.bprev).toNat
    let pred := d.p + dt + rne (d.y * dt) (2 ^ 56)
    if d.firstDue ∨ d.rebuild then
      if d.rebuild ∨ s.buildsOut l e then
        (s.setDpl l { d with build := x - pred, firstDue := false, rebuild := false }).setRb (Reg.DPL_STAT l) 3 true
      else s.setDpl l { d with firstDue := false }
    else
      let bw := s.bwEff l
      let err := x - d.build - pred
      let g := loopCorrect bw (s.rf (Reg.DPL_BW l) 16 2) dt.toNat err
      let raw := (pred + g.1, d.y + g.2)
      let lim := if s.pslOn l then pslLimit (s.rf (Reg.DPL_PSL l) 0 24) d.h d.p raw.1 raw.2 dt else (raw.1, raw.2, false)
      let y := clampI (-(2 ^ 43)) (2 ^ 43 - 1) lim.2.1
      let u := if s.dplMode l = 2 then clampI (-(2 ^ 43)) (2 ^ 43 - 1) (d.u - y) else d.u
      let s1 := s.setDpl l { d with p := lim.1, pprev := d.p, bprev := t, y := y, e := err, u := u }
      let s2 := s1.setRf (Reg.DPL_STAT l) 8 5 bw
      let o := dplOutput l s2
      let s3 := dplLimit l (lim.2.2 || o.2) o.1
      let s4 := lockDetect l t s3
      let s5 := if s4.dplSt l = .locked then dplHistory l t s4 else s4
      let s6 := histNote l s5
      if s6.rptDue l then dplReport l b (s6.dplS l).p (s6.dplS l).y s6 else s6

/-! ### Commands (R237 to R239) -/

/-- RESEED in a state other than FREERUN (R236, R239). -/
def dplReseed (l : Nat) (s : State) : State :=
  let a := Reg.DPL_STAT l
  let r := s.setDpl l { s.dplS l with reseed := true, forced := false, build := 0 }
  let r1 := ((r.setRb a 2 false).setRb a 3 false).setRb a 7 false
  dplEval l (setDplSt l (if r1.curValid l then .acquire else .freerun) r1)

/-- FORCE_HO is taken: with history, in ACQUIRE and in LOCKED (R236). -/
def State.mayForce (s : State) (l : Nat) : Bool :=
  s.hoValid l && (decide (s.dplSt l = .acquire) || decide (s.dplSt l = .locked))

/-- A RELEASE command: taken in forced HOLDOVER, refused otherwise (R236, R238). -/
def dplRelease (l : Nat) (s : State) : State :=
  if (s.dplS l).forced ∧ s.dplSt l = .holdover then dplEval l (s.setDpl l { s.dplS l with forced := false })
  else s.setRf (Reg.DPL_STAT l) 24 4 2

/-- A write of DPL_CMD: the first of RESEED, FORCE_HO and RELEASE that applies is taken; a FORCE_HO without history and a RELEASE outside
forced HOLDOVER are refused (R236 to R239). (DEDUCED, log 120.) -/
def wrDplCmd (l : Nat) (v : Word) (s : State) : State :=
  if bit v 2 ∧ s.dplSt l ≠ .freerun then dplReseed l s
  else if bit v 0 ∧ s.mayForce l = true then
    let r := setDplSt l .holdover s
    r.setDpl l { r.dplS l with forced := true }
  else
    let s1 := if bit v 0 ∧ s.hoValid l = false then s.setRf (Reg.DPL_STAT l) 24 4 1 else s
    if bit v 1 then dplRelease l s1 else s1

end Sys2Proof.Machine
end

