-- ==== Sys2Proof/Machine/MateCore.lean ====
section
/-! DEFINITION. The mate role and the health word (R796, R801, R802, R804). -/
namespace Sys2Proof.Machine

/-- Roles of a unit (R819). -/
inductive Role where
  | solo | active | standby | isolated
  deriving DecidableEq, Repr

/-- The code of a role (R801, R819). -/
def Role.code : Role → Nat
  | .solo => 0 | .active => 1 | .standby => 2 | .isolated => 3

/-- The role in force (R819). -/
def State.mrole (s : State) : Role :=
  match s.role with
  | 0 => .solo
  | 1 => .active
  | 2 => .standby
  | _ => .isolated

/-- CAUSE codes (R804). -/
inductive RoleCause where
  | none | discovery | takeoverMiss | takeoverFault | handover | reversion | split | command | faultAction | disabled
  deriving DecidableEq, Repr

/-- The code of a cause (R804). -/
def RoleCause.code : RoleCause → Nat
  | .none => 0 | .discovery => 1 | .takeoverMiss => 2 | .takeoverFault => 3 | .handover => 4 | .reversion => 5
  | .split => 6 | .command => 7 | .faultAction => 8 | .disabled => 9

/-- Drive MATE_ACTIVE_OUT (R796). -/
def driveActive (b : Bool) (s : State) : State :=
  if s.mate.activeOut = b then s
  else { s with mate := { s.mate with activeOut := b } }.emit (.pin "MATE_ACTIVE_OUT" b)

/-- Change the role: the pin follows, CAUSE is recorded, ROLE is raised and a MATE record is caused (R796, R804). (DEDUCED, log 88.) -/
def setRole (r : Role) (c : RoleCause) (s : State) : State :=
  if s.mrole = r then s
  else
    let s1 := (s.setRf Reg.MATE_STAT 0 2 r.code).setRf Reg.MATE_STAT 12 4 c.code
    let s2 := driveActive (decide (r = .active)) s1
    let s3 := if r = .solo then { s2 with mate := { s2.mate with lastHeard := s2.bt, peerHw := none } } else s2
    changeRecord 3 2 (raiseEvt Reg.MATE 0 s3)

/-- A raised source of a severity, unacknowledged ones only where `unack` (R801). -/
def State.anyFault (s : State) (sev : Nat) (unack : Bool) : Bool :=
  s.regs.any (fun p =>
    decide (Reg.FLT_SRC 0 ≤ p.1 ∧ p.1 ≤ Reg.FLT_SRC 383) && bit p.2 31 && decide (fld p.2 0 2 = sev) &&
    (!unack || !bit p.2 30))

/-- SELFTEST_OK: ST written with 1 within TO ms (R811). -/
def State.selftestOk (s : State) : Bool := s.rb Reg.MATE_SWGOOD 0

/-- SLAVE_OK, 0 outside STANDBY (R801, R809). -/
def State.slaveOk (s : State) : Bool := decide (s.mrole = .standby) && decide (900 ≤ s.mate.paired) &&
    decide ((s.reg Reg.MATE_RESID).toInt.natAbs ≤ s.rf Reg.MATE_SLV_LIM 0 16)

/-- SHADOW_OK, 0 outside STANDBY (R801, R810). -/
def State.shadowOk (s : State) : Bool := decide (s.mrole = .standby) && s.mate.shadowBad.isNone

/-- GOOD of the unit (R802). -/
def State.mateGood (s : State) : Bool :=
  !s.anyFault 3 false && s.selftestOk && s.flt.forceBad.isEmpty &&
    (decide (s.mrole ≠ .standby) || (s.slaveOk && s.shadowOk))

/-- HOLDOFF_DONE: GOOD for MATE_HOLDOFF seconds without interruption (R816). -/
def State.holdoffDone (s : State) : Bool :=
  match s.mate.goodSince with
  | some w => s.mateGood && atOrAfter s.now (w + wtNs (s.rf Reg.MATE_HOLDOFF 0 16 * 1000000000))
  | none => false

/-- Both lanes are up and the link is not degraded (R801). -/
def State.linkOk (s : State) : Bool := s.rb Reg.MATE_STAT 6 && s.rb Reg.MATE_STAT 7 && !s.rb Reg.MATE_STAT 8

/-- The health word (R801). -/
def State.healthWord (s : State) : Word :=
  BitVec.ofNat 32 (
    s.rf Reg.MATE_SWGOOD 8 8 * 2 ^ 16 + b2n s.warm * 2 ^ 15 + b2n (s.anyFault 3 false) * 2 ^ 14 +
    b2n (s.anyFault 2 true) * 2 ^ 13 + b2n (!s.mate.ho.isEmpty) * 2 ^ 12 + b2n s.holdoffDone * 2 ^ 11 +
    b2n s.linkOk * 2 ^ 10 + b2n s.shadowOk * 2 ^ 9 + b2n s.selftestOk * 2 ^ 8 + b2n s.slaveOk * 2 ^ 7 +
    s.asy.ts.code * 2 ^ 4 + s.rf Reg.MATE_STAT 4 1 * 2 ^ 3 + b2n s.mateGood * 2 ^ 2 + s.mrole.code)

/-- Keep the start of the period in which GOOD has been 1 (R816). -/
def trackGood (s : State) : State :=
  if s.mateGood then
    (if s.mate.goodSince.isSome then s else { s with mate := { s.mate with goodSince := some s.now } })
  else { s with mate := { s.mate with goodSince := none } }

/-- The MATE block goes ISOLATED by a fault action or a command, from any role but SOLO (R804). -/
def mateIsolate (c : RoleCause) (s : State) : State :=
  if s.mrole = .solo then s else setRole .isolated c s

/-! ### Frames sent (R795, R798) -/

/-- The types of a mate frame (R798). -/
inductive MateType where
  | health | time | mirror | ctrl
  deriving DecidableEq, Repr

/-- The code of a type (R798). -/
def MateType.code : MateType → Nat
  | .health => 1 | .time => 2 | .mirror => 3 | .ctrl => 4

/-- A mate frame of a type with a sequence number (R798). -/
def mateBytes (s : State) (t : MateType) (seq : Nat) (payload : List Byte) : List Byte :=
  let b := bytesBE 1 t.code ++ bytesBE 1 1 ++ bytesBE 2 payload.length ++ bytesBE 4 seq ++
    bytesBE 8 (s.regN Reg.LCS_SERIAL 2) ++ payload
  b ++ bytesBE 4 (crc32c b).toNat

/-- The lane that carries a frame of a type: MIRROR frames lane 1 and the others lane 0, but the one lane that is up carries all
(R795). -/
def State.mateLaneOf (s : State) (t : MateType) : Nat :=
  if s.rb Reg.MATE_STAT 6 && s.rb Reg.MATE_STAT 7 then b2n (decide (t = .mirror)) else b2n (s.rb Reg.MATE_STAT 7)

/-- Send a mate frame, if a lane is up (R795). -/
def mateSend (t : MateType) (payload : List Byte) (s : State) : State :=
  if s.rb Reg.MATE_STAT 6 ∨ s.rb Reg.MATE_STAT 7 then
    let q := AMap.get 0 s.mate.txSeq t.code
    let s1 := { s with mate := { s.mate with txSeq := AMap.set 0 s.mate.txSeq t.code ((q + 1) % 2 ^ 32) } }
    s1.emit (.mateFrame (s.mateLaneOf t) (mateBytes s t q payload))
  else s

/-- The ops of a CTRL frame (R798). -/
inductive MateOp where
  | armHo | ackHo | abortHo | resyncReq
  deriving DecidableEq, Repr

/-- The code of an op (R798). -/
def MateOp.code : MateOp → Nat
  | .armHo => 1 | .ackHo => 2 | .abortHo => 3 | .resyncReq => 4

/-- Send a CTRL frame (R798). -/
def mateCtrl (op : MateOp) (due : WT96) (s : State) : State :=
  mateSend .ctrl (bytesBE 1 op.code ++ [0, 0, 0] ++ bytesBE 12 due.toNat) s

/-- Queue a MIRROR body of a kind: 1 ASSAY, 2 SEEDS (R798, R810). (DEDUCED, log 88.) -/
def mateMirror (kind : Nat) (body : List Byte) (s : State) : State :=
  { s with mate := { s.mate with mirrorQ := s.mate.mirrorQ ++ [bytesBE 1 kind ++ [0, 0, 0] ++ body] } }

/-- A handover is armed in a slot: ARM_HO is sent (R812). -/
def hoArm (slot : Nat) (due : WT96) (reversion : Bool) (s : State) : State :=
  let l := { slot := slot, due := due, acked := false, reversion := reversion } ::
    s.mate.ho.filter (fun h => decide (h.slot ≠ slot))
  mateCtrl .armHo due { s with mate := { s.mate with ho := l } }

/-- The handover of a slot is armed no longer. -/
def hoDrop (slot : Nat) (s : State) : State :=
  { s with mate := { s.mate with ho := s.mate.ho.filter (fun h => decide (h.slot ≠ slot)) } }

end Sys2Proof.Machine
end

