-- ==== Sys2Proof/Machine/RefCore.lean ====
section
/-! DEFINITION. References: the monitors, the quality word, the states of an entry, selection and fallback (R178 to R222, R972, R973). -/
namespace Sys2Proof.Machine

/-! ### Entries -/

/-- Kinds of entries (R178, R181). -/
inductive EntKind where
  | phys | synce | ptp | gnss | mate | atomic
  deriving DecidableEq, Repr

/-- The kind of an entry (R178). -/
def kindOf (e : Nat) : EntKind :=
  if e < 16 then .phys else if e < 32 then .synce else if e < 40 then .ptp else if e < 44 then .gnss
  else if e < 46 then .mate else .atomic

/-- The code of a kind (R181). -/
def EntKind.code : EntKind → Nat
  | .phys => 0 | .synce => 1 | .ptp => 2 | .gnss => 3 | .mate => 4 | .atomic => 5

/-- Internal state of an entry. -/
def State.ent (s : State) (e : Nat) : RefEnt := AMap.get { } s.ref.ents e
/-- Store it. -/
def State.setEnt (s : State) (e : Nat) (x : RefEnt) : State := { s with ref := { s.ref with ents := AMap.set { } s.ref.ents e x } }

/-- CFG.EN of an entry. -/
def State.entEn (s : State) (e : Nat) : Bool := s.rb (Reg.REF_ENT_CFG e) 0
/-- CFG.FORCE of an entry. -/
def State.entForce (s : State) (e : Nat) : Nat := s.rf (Reg.REF_ENT_CFG e) 30 2

/-- The state of an entry (R219). -/
def State.entSt (s : State) (e : Nat) : EntState :=
  match s.rf (Reg.REF_ENT_STAT e) 0 2 with
  | 0 => .disq
  | 1 => .qualifying
  | 2 => .qualified
  | _ => .selected

/-- The code of a state (R219). -/
def EntState.code : EntState → Nat
  | .disq => 0 | .qualifying => 1 | .qualified => 2 | .selected => 3

/-- The code of a cause (R219). -/
def EntCause.code : EntCause → Nat
  | .none => 0 | .disabled => 1 | .forced => 2 | .source => 3 | .activity => 4 | .frequency => 5 | .phase => 6
  | .message => 7 | .quality => 8 | .inconsistent => 9 | .integrity => 10

/-- QUALIFIED or SELECTED. -/
def EntState.usable (x : EntState) : Bool := decide (x = .qualified) || decide (x = .selected)

/-- FUNC of a GPIO (R898). -/
def State.gpioFunc (s : State) (g : Nat) : Nat := s.rf (Reg.GPIO_FUNC (g / 16)) (2 * (g % 16)) 2

/-- The port whose lane an SE entry takes its clock from carries it (R489): not the other lanes of a 100GBASE-R group. -/
def State.seOk (s : State) (p : Nat) : Bool := decide (s.gmode (p / 4) ≠ 2) || decide (p % 4 = 0)

/-- LPBK of a data port, in force only while MODE_ACT is TEST (R475). -/
def State.lpbk (s : State) (p : Nat) : Nat :=
  if p < 16 ∧ s.rf (Reg.PRT_LINK p) 12 2 = 2 then s.rf (Reg.PRT_CFG p) 16 4 else 0

/-- The port hears itself and disregards its partner: loopback modes 1 and 2 (R475). (DEDUCED, log 125.) -/
def State.looped (s : State) (p : Nat) : Bool := s.lpbk p == 1 || s.lpbk p == 2

/-- The source monitor of an entry fails (R183, R222, R489, R490). -/
def State.sourceFail (s : State) (e : Nat) : Bool :=
  s.fltBit Reg.REF 0 ||
  (match kindOf e with
  | .phys => (match s.todOf e with | some u => !s.rb (Reg.UART_CFG u) 31 | none => false)
  | .synce =>
    let p := e - 16
    !s.seOk p || !s.rb (Reg.PRT_LINK p) 3 || !s.rb (Reg.PRT_LINK p) 0 || s.looped p
  | .ptp => (s.ent e).lost
  | .gnss => false
  | .mate => decide (s.mrole = .solo) || decide (s.mrole = .isolated)
  | .atomic => decide (s.gpioFunc (s.rf (Reg.REF_ENT_CFG e) 24 5) ≠ 2))

/-- An ATOM entry's module asserts lock (R216). -/
def State.atomLock (s : State) (e : Nat) : Bool :=
  bit s.lsp.gpioIn (s.rf (Reg.REF_ENT_CFG e) 24 5) == s.rb (Reg.REF_ENT_CFG e) 29

/-- The message monitor is enabled: QM_EN, which a PHYS entry without a bound UART ignores (R216). -/
def State.msgOn (s : State) (e : Nat) : Bool :=
  s.rb (Reg.REF_ENT_CFG e) 3 && (decide (16 ≤ e) || (s.todOf e).isSome)

/-- The entry has a message timeout: not of kind ATOMIC or MATE (R218). -/
def State.msgTimed (s : State) (e : Nat) : Bool := s.msgOn e && decide (e < 44)

/-- How the message monitor fails, if it does (R183, R218, R808). (DEDUCED, log 35.) -/
def State.msgFail (s : State) (e : Nat) : Option EntCause :=
  if ¬ s.msgOn e then none
  else
    match kindOf e with
    | .atomic => if s.atomLock e then none else some .quality
    | .mate =>
      if ¬ s.rb Reg.MATE_STAT 5 then some .message
      else match s.mate.peerHw with
        | some w => if bit w 2 ∧ fld w 0 2 = 1 then none else some .quality
        | none => some .message
    | .phys | .synce | .ptp | .gnss =>
      if (s.ent e).stale then some .message else (s.ent e).msgBad

/-- INTEG_OK of an entry: of its antenna set for GNSS, 1 otherwise (R181, R398). -/
def State.integOk (s : State) (e : Nat) : Bool :=
  if 40 ≤ e ∧ e < 44 then s.rb Reg.ANT_ISTAT (6 + e % 2) else true

/-- The clock that an SE entry or MATE_F takes runs: its lane has block lock, or the mate's lane 0 is up (R178, R489). While it does, edges
come at every period of it. (DEDUCED, log 36.) -/
def State.laneClock (s : State) (e : Nat) : Bool :=
  match kindOf e with
  | .synce => s.seOk (e - 16) && s.rb (Reg.PRT_LINK (e - 16)) 0
  | .mate => decide (e = 45) && s.rb Reg.MATE_STAT 6
  | .phys | .ptp | .gnss | .atomic => false

/-- ACT_OK, FREQ_OK and PH_OK: a disabled monitor reads as passing (R181, R183). -/
def State.actOk (s : State) (e : Nat) : Bool := !s.rb (Reg.REF_ENT_CFG e) 4 || !(s.ent e).actFail || s.laneClock e
/-- FREQ_OK (R181). (DEDUCED, log 35.) -/
def State.freqOk (s : State) (e : Nat) : Bool := !s.rb (Reg.REF_ENT_CFG e) 5 || !(s.ent e).freqFail
/-- PH_OK (R181). -/
def State.phOk (s : State) (e : Nat) : Bool := decide (s.rf (Reg.REF_ENT_MON e) 16 16 = 0) || !(s.ent e).phFail

/-- The first failure of an entry's monitors, in the order of R188. (DEDUCED, log 35.) -/
def State.monFail (s : State) (e : Nat) : Option EntCause :=
  if s.sourceFail e then some .source
  else if ¬ s.actOk e then some .activity
  else if ¬ s.freqOk e then some .frequency
  else if ¬ s.phOk e then some .phase
  else
    match s.msgFail e with
    | some c => some c
    | none => if s.integOk e then none else some .integrity

/-- The TRC flag of an entry (R199). -/
def State.trcOf (s : State) (e : Nat) : Bool :=
  match kindOf e with
  | .phys =>
    (match s.todOf e with
    | some u => (s.ent e).msgTrc && !(s.msgTimed e && (s.ent e).stale) && (decide (s.rf (Reg.REF_TOD_CFG u) 5 2 = 0) || s.rb Reg.BDR_UTC_OFS 18)
    | none => s.rb (Reg.REF_ENT_CFG e) 7)
  | .ptp => (s.ent e).msgTrc
  | .gnss => decide (e < 42) && decide (2 ≤ s.rf (Reg.REF_ENT_QWORD e) 16 8) && decide (s.rf (Reg.REF_ENT_QWORD e) 16 8 < 4) && s.integOk e
  | .mate => (match s.mate.peerHw with
    | some w => decide (e = 44) && decide (fld w 4 3 = 2) && decide (fld w 0 2 = 1)
    | none => false)
  | .synce | .atomic => false

/-- CODE of an ATOMIC or MATE entry, which follows a level and not a message (R181). -/
def State.liveCode (s : State) (e : Nat) : Option Nat :=
  match kindOf e with
  | .atomic => some (b2n (!s.atomLock e))
  | .mate => (s.mate.peerHw).map (fun w => fld w 4 3)
  | .phys | .synce | .ptp | .gnss => none

/-- Show CODE and AUX of an entry, raising QUALITY when either changes (R182, R220). -/
def showCode (e code aux : Nat) (s : State) : State :=
  let a := Reg.REF_ENT_QWORD e
  let w := setFld (setFld (s.reg a) 16 8 code) 8 8 aux
  if w = s.reg a then s else raiseEvt Reg.REF 4 (s.setReg a w)

/-- Show the flags of an entry's quality word (R181). -/
def showFlags (e : Nat) (s : State) : State :=
  let n := b2n (s.trcOf e) + 2 * b2n (s.actOk e) + 4 * b2n (s.freqOk e) + 8 * b2n (s.phOk e) +
    16 * b2n (s.msgTimed e && (s.ent e).stale) + 32 * b2n (s.integOk e) + 64 * b2n (!s.sourceFail e)
  s.setRf (Reg.REF_ENT_QWORD e) 0 7 (if s.entEn e then n else 16)

/-! ### Selection (R201 to R211) -/

/-- MODE of a loop's selection (R215). -/
inductive SelMode where
  | none | manual | fallback
  deriving DecidableEq, Repr

/-- The code of a mode (R215). -/
def SelMode.code : SelMode → Nat
  | .none => 0 | .manual => 1 | .fallback => 2

/-- The loops that follow an entry. -/
def State.loopsOf (s : State) (e : Nat) : List Nat :=
  (List.range 8).filter (fun l => s.curValid l && decide (s.curEntry l = e))

/-- Show an entry's state in STAT and STSUM (R212, R219). -/
def showState (e : Nat) (st : EntState) (s : State) : State :=
  (s.setRf (Reg.REF_ENT_STAT e) 0 2 st.code).setRf (Reg.REF_STSUM (e / 16)) (2 * (e % 16)) 2 st.code

/-- A loop waits for a rescan: VALID=0 with MODE FALLBACK (R205). -/
def State.scans (s : State) (l : Nat) : Bool := !s.curValid l && decide (s.rf (Reg.REF_LOOP_CUR l) 9 2 = 2)

/-- An entry changes state (R186, R188, R204, R205, R220). -/
def entMove (e : Nat) (st : EntState) (c : EntCause) (s : State) : State :=
  let old := s.entSt e
  if old = st then s
  else
    let s1 := showState e st s
    let x := s1.ent e
    let s2 := match st with
      | .disq =>
        let r := ((s1.setRf (Reg.REF_ENT_STAT e) 4 4 c.code).setRf (Reg.REF_ENT_STAT e) 16 12 0).count Reg.REF_CNT_DISQ
        let r1 := r.setEnt e { x with due := none }
        (r1.loopsOf e).foldl (fun a l => { a with ref := { a.ref with fbDue := AMap.set none a.ref.fbDue l (some (e, a.bt)) } }) r1
      | .qualifying =>
        let t := s1.rf (Reg.REF_ENT_CFG e) 12 12
        (s1.setEnt e { x with due := some (s1.bt + cyc (if t = 0 then 4 else t * 100000000)), actFail := false, phFail := false,
                              seen := 0, lastAct := s1.bt, last := none }).setRf (Reg.REF_ENT_STAT e) 16 12 t
      | .qualified =>
        let r := (s1.setRf (Reg.REF_ENT_STAT e) 16 12 0).setEnt e { x with due := none }
        if old = .selected then r
        else
          forN 8 (fun l a =>
            if a.scans l then { a with ref := { a.ref with rescan := AMap.set none a.ref.rescan l (some a.bt) } } else a) r
      | .selected => s1
    raiseEvt Reg.REF 0 s2

/-- Move an entry between QUALIFIED and SELECTED as loops follow it (R186), and show LOOPS (R219). -/
def entFollow (e : Nat) (s : State) : State :=
  let ls := s.loopsOf e
  let s1 := s.setRf (Reg.REF_ENT_STAT e) 8 8 (ls.foldl (fun a l => a + 2 ^ l) 0)
  match s1.entSt e with
  | .qualified => if ls.isEmpty then s1 else entMove e .selected .none s1
  | .selected => if ls.isEmpty then entMove e .qualified .none s1 else s1
  | .disq | .qualifying => s1

/-- Set what a loop follows; the entries, the loop unit and ASY learn of it in the same cycle (R200, R207). -/
def setCur (l e : Nat) (valid : Bool) (m : SelMode) (spent : Nat) (s : State) : State :=
  let a := Reg.REF_LOOP_CUR l
  let was := if s.curValid l then some (s.curEntry l) else none
  let act := s.actRef
  let w := setFld (setFld (setFld (setFld (s.reg a) 0 6 e) 8 1 (b2n valid)) 9 2 m.code) 24 8 spent
  let s1 := s.setReg a w
  let s2 := match was with | some x => entFollow x s1 | none => s1
  let s3 := if valid then entFollow e s2 else s2
  let s4 := if !valid && decide (m = .fallback) && !s.scans l then raiseEvt Reg.REF 6 s3 else s3
  let s5 := dplCurChange l (decide (was ≠ if valid then some e else none)) s4
  refChanged act s5

/-- Byte i of a loop's priority list (R212). -/
def State.prio (s : State) (l i : Nat) : Nat :=
  s.rf (if i < 4 then Reg.REF_LOOP_PRIO_A l else Reg.REF_LOOP_PRIO_B l) (8 * (i % 4)) 8

/-- The first unspent position whose entry a loop may take (R204). -/
def State.pickPrio (s : State) (l spent : Nat) : Option Nat :=
  (List.range 8).find? (fun i =>
    let b := s.prio l i
    let e := b % 64
    decide (128 ≤ b) && decide (spent / 2 ^ i % 2 = 0) && decide (e < 48) && decide (e ≠ 42 ∧ e ≠ 43) && (s.entSt e).usable)

/-- The procedure `fallback` (R204). -/
def fallback (l : Nat) (s : State) : State :=
  let spent := s.rf (Reg.REF_LOOP_CUR l) 24 8
  match s.pickPrio l spent with
  | some i => setCur l (s.prio l i % 64) true .fallback spent s
  | none => setCur l 0 false .fallback spent s

/-- Clear the fallback that waits for a loop. -/
def State.clearFb (s : State) (l : Nat) : State := { s with ref := { s.ref with fbDue := AMap.set none s.ref.fbDue l none } }

/-- CD_SCAL cycle of a Bedrock value: 4 ns each. -/
def scal (b : BT80) : Nat := b.toNat / (4 * 65536)

/-- A cycle of CD_SCAL later than that of an instant has begun. -/
def State.nextScal (s : State) (b : BT80) : Bool := decide (scal s.bt ≠ scal b)

/-- The procedure `on_fail`, in the cycle after the failure, if the loop still follows the entry (R204). -/
def onFail (l : Nat) (s : State) : State :=
  match AMap.get none s.ref.fbDue l with
  | none => s
  | some (e, b) =>
    if ¬ s.nextScal b then s
    else
      let s1 := s.clearFb l
      if ¬ (s1.curValid l ∧ s1.curEntry l = e) then s1
      else
        let spent := (List.range 8).foldl
          (fun a i => if s1.prio l i % 64 = e ∧ 128 ≤ s1.prio l i ∧ a / 2 ^ i % 2 = 0 then a + 2 ^ i else a)
          (s1.rf (Reg.REF_LOOP_CUR l) 24 8)
        let s2 := s1.setRf (Reg.REF_LOOP_CUR l) 24 8 spent
        raiseEvt Reg.REF 1 ((fallback l s2).count Reg.REF_CNT_FALLBACK)

/-- A rescan in the cycle after an entry became QUALIFIED (R205). -/
def rescan (l : Nat) (s : State) : State :=
  match AMap.get none s.ref.rescan l with
  | none => s
  | some b =>
    if ¬ s.nextScal b then s
    else
      let s1 := { s with ref := { s.ref with rescan := AMap.set none s.ref.rescan l none } }
      if s1.scans l then
        match s1.pickPrio l (s1.rf (Reg.REF_LOOP_CUR l) 24 8) with
        | some i => setCur l (s1.prio l i % 64) true .fallback (s1.rf (Reg.REF_LOOP_CUR l) 24 8) s1
        | none => s1
      else s1

/-! ### Evaluation (R186) -/

/-- One pass of R186 over an entry; `c` is the cause of a message judged in this cycle, if any. -/
def entEvalOnce (e : Nat) (s : State) : State :=
  let st := s.entSt e
  let off := !s.pgEn Reg.REF
  if off ∨ ¬ s.entEn e then entMove e .disq .disabled s
  else if s.fltBit Reg.REF 0 then entMove e .disq .source s
  else if s.entForce e = 2 then entMove e .disq .forced s
  else
    let force := decide (s.entForce e = 1)
    match st, s.monFail e with
    | .disq, f => if force then entMove e .qualified .none s else if f.isNone then entMove e .qualifying .none s else s
    | .qualifying, some c => entMove e .disq c s
    | .qualifying, none => s
    | .qualified, some c => if force then s else entMove e .disq c s
    | .qualified, none => s
    | .selected, some c => if force then s else entMove e .disq c s
    | .selected, none => s

/-- Apply R186 to an entry and show its quality word; a change of REFTRC reaches the loops through ASY. -/
def entEval (e : Nat) (s : State) : State :=
  let s1 := match s.liveCode e with
    | some c => showCode e c 0xFF s
    | none => s
  showFlags e (entFollow e (entEvalOnce e (entEvalOnce e (showFlags e s1))))

/-- Apply R186 to every entry. -/
def entEvalAll (s : State) : State := forN 48 entEval s

/-- Clear what every loop follows, as after a deselection (R203, R222, R972). -/
def deselectAll (s : State) : State :=
  forN 8 (fun l a => setCur l 0 false .none 0 (a.clearFb l)) s

/-- The REF page is disabled: every entry is held DISQUALIFIED with cause DISABLED and every loop deselected (R972). -/
def refDisable (s : State) : State :=
  let s1 := deselectAll s
  entEvalAll (forN 48 (fun e a => (entMove e .disq .disabled a).setRf (Reg.REF_ENT_STAT e) 4 4 1) s1)

/-- The TABLE fault is raised: every entry is disqualified with cause SOURCE and every loop deselected (R222). -/
def refTable (s : State) : State := entEvalAll (deselectAll s)

/-- An entry is enabled: its monitors begin (R184). -/
def entStart (e : Nat) (s : State) : State :=
  let x := s.ent e
  let gates := [10000000, 100000000, 1000000000, 10000000000, 100000000000]
  let g := gates.getD (s.rf (Reg.REF_ENT_MON e) 8 3) 1000000000
  s.setEnt e { x with lastAct := s.bt, actFail := false, freqFail := false, phFail := false, seen := 0, last := none,
                      gateAt := s.bt, gateLen := max g (cdiv 4000000000 (s.entNom e)), gate1 := none, gate2 := none, gated := false,
                      msgAt := s.bt, stale := true, due := none }

/-- A write of REF_ENTn_CFG, its value already masked (R186). -/
def wrEntCfg (e : Nat) (v : Word) (s : State) : State :=
  let was := s.entEn e
  let s1 := s.setReg (Reg.REF_ENT_CFG e) v
  entEval e (if ¬ was ∧ s1.entEn e then entStart e s1 else s1)

/-- REJ codes of a refused selection (R215). -/
inductive SelRej where
  | notQualified | monitorOnly | range
  deriving DecidableEq, Repr

/-- The code of a refusal (R215). -/
def SelRej.code : SelRej → Nat
  | .notQualified => 1 | .monitorOnly => 2 | .range => 3

/-- Why a manual selection is refused, if it is (R201, R202, R222, R972). -/
def State.selRej (s : State) (e : Nat) : Option SelRej :=
  if !s.pgEn Reg.REF || s.fltBit Reg.REF 0 then some .notQualified
  else if 48 ≤ e then some .range
  else if e = 42 ∨ e = 43 then some .monitorOnly
  else if ¬ (s.entSt e).usable then some .notQualified
  else none

/-- A write of REF_LOOPL_SEL; a fallback of the same cycle runs first (R201 to R203, R208). -/
def wrSel (l : Nat) (v : Word) (s0 : State) : State :=
  let s := (onFail l s0).setReg (Reg.REF_LOOP_SEL l) (v &&& 0x13F#32)
  if bit v 8 then
    match s.selRej (fld v 0 6) with
    | some r => raiseEvt Reg.REF 3 ((s.setRf (Reg.REF_LOOP_CUR l) 12 4 r.code).count Reg.REF_CNT_SELREJ)
    | none => raiseEvt Reg.REF 2 (setCur l (fld v 0 6) true .manual 0 (s.clearFb l))
  else setCur l 0 false .none 0 (s.clearFb l)

/-- The staged PRIO words take effect (R206, R210). (DEDUCED, log 35.) -/
def prioApply (s : State) : State :=
  s.ref.prioStage.foldl (fun a p =>
    match p.2 with
    | none => a
    | some v =>
      let l := (p.1 % 0x1000 - 0x080) / 16
      let hi := decide (p.1 = Reg.REF_LOOP_PRIO_B l)
      (a.setReg p.1 v).setRf (Reg.REF_LOOP_CUR l) (if hi then 28 else 24) 4 0)
    { s with ref := { s.ref with prioStage := [] } }

/-! ### Edges (R180, R184, R185, R973) -/

/-- An edge lies more than PH_LIM ns from the phase predicted from the previous one (R973). (DEDUCED, log 36.) -/
def phaseOff (nom : Nat) (fofs : Int) (lim k1 : Nat) (b1 : BT80) (k : Nat) (b : BT80) : Bool :=
  let d : Int := nom * (10 ^ 10 + fofs)
  let n : Int := (((k + 2 ^ 32 - k1) % 2 ^ 32 : Nat) : Int) * 10 ^ 9 * 65536 * 10 ^ 10
  decide ((lim * 65536 : Int) * d < ((b - b1).toInt * d - n).natAbs)

/-- An edge or delivery of an entry reaches its monitors; the phase monitor judges while PH_LIM is not 0 (R180, R183 to R185, R973).
(DEDUCED, log 36.) -/
def refEdge (e k : Nat) (b : BT80) (s : State) : State :=
  if ¬ s.entEn e then s.setEnt e { s.ent e with edges := k }
  else
    let x := s.ent e
    let fofs := if x.gated then (s.reg (Reg.REF_ENT_FOFS e)).toInt else 0
    let lim := s.rf (Reg.REF_ENT_MON e) 16 16
    let bad := match x.last with
      | some (k1, b1) => decide (2 ≤ x.seen) && decide (lim ≠ 0) && phaseOff (s.entNom e) fofs lim k1 b1 k b
      | none => false
    let inGate := atOrAfter b x.gateAt && !atOrAfter b (x.gateAt + cyc x.gateLen)
    let x1 := { x with lastAct := s.bt, actFail := false, phFail := bad, seen := x.seen + 1, edges := k, last := some (k, b),
                       gate1 := if inGate && x.gate1.isNone then some (k, b) else x.gate1,
                       gate2 := if inGate then some (k, b) else x.gate2 }
    entEval e (s.setEnt e x1)

/-- An edge of an entry is counted and not captured: only the activity monitor sees it (R440). -/
def refCounted (e : Nat) (s : State) : State :=
  let x := s.ent e
  let s1 := s.setEnt e { x with lastAct := s.bt, actFail := false }
  if s.entEn e ∧ x.actFail then entEval e s1 else s1

/-- A measurement delivered for an entry whose edges reach REF by no other way: an offset measurement of a PTP session is one edge, numbered
by the deliveries; one of a lane clock brings the edges counted since the one before. A second delivery of the same event adds nothing
(R178, R180). (DEDUCED, log 36.) -/
def refDelivery (e : Nat) (b : BT80) (edges : Nat) (s : State) : State :=
  let x := s.ent e
  let known := match x.last with
    | some (_, b1) => decide (b1 = b)
    | none => false
  if known then s
  else
    match kindOf e with
    | .ptp => refEdge e (x.edges + 1) b s
    | .synce => refEdge e ((x.edges + edges) % 2 ^ 32) b s
    | .mate => if e = 45 then refEdge e ((x.edges + edges) % 2 ^ 32) b s else s
    | .phys | .gnss | .atomic => s

/-- FOFS of a gate's first and last edges (R184). -/
def fofsOf (nom k1 : Nat) (b1 : BT80) (k2 : Nat) (b2 : BT80) : Int :=
  let dt : Int := (b2 - b1).toNat
  if dt = 0 then 0
  else
    let sNum : Int := (((k2 + 2 ^ 32 - k1) % 2 ^ 32 : Nat) : Int) * 10 ^ 9 * 65536
    clampI (-(2 ^ 31 - 1)) (2 ^ 31 - 1) (rne (10 ^ 10 * (sNum - dt * nom)) (dt * nom).toNat)

/-- A gate ends (R184). -/
def gateEnd (e : Nat) (s : State) : State :=
  let x := s.ent e
  if ¬ s.entEn e ∨ cycSince s.bt x.gateAt < x.gateLen then s
  else
    let gates := [10000000, 100000000, 1000000000, 10000000000, 100000000000]
    let g := gates.getD (s.rf (Reg.REF_ENT_MON e) 8 3) 1000000000
    let x1 := { x with gateAt := x.gateAt + cyc x.gateLen, gateLen := max g (cdiv 4000000000 (s.entNom e)),
                       gate1 := none, gate2 := none }
    match x.gate1, x.gate2 with
    | some (k1, b1), some (k2, b2) =>
      if k1 = k2 then s.setEnt e x1
      else
        let f := fofsOf (s.entNom e) k1 b1 k2 b2
        let s1 := (s.setReg (Reg.REF_ENT_FOFS e) (BitVec.ofInt 32 f)).setEnt e
          { x1 with gated := true, freqFail := s.rb (Reg.REF_ENT_CFG e) 5 && decide (s.rf (Reg.REF_ENT_FLIM e) 0 20 < f.natAbs) }
        entEval e s1
    | _, _ => s.setEnt e x1

/-- The activity window of an entry, ns (R183, R217). -/
def State.actWindow (s : State) (e : Nat) : Nat := s.rf (Reg.REF_ENT_MON e) 0 8 * 1000000000 / (4 * s.entNom e)

/-- The activity monitor's window has passed without an edge (R183). -/
def activityTimeout (e : Nat) (s : State) : State :=
  let x := s.ent e
  if !s.entEn e || x.actFail || s.laneClock e || decide (cycSince s.bt x.lastAct < s.actWindow e) then s
  else entEval e (s.setEnt e { x with actFail := true })

/-- The message timeout of an entry, ns (R213, R218). -/
def State.msgTo (s : State) (e : Nat) : Nat :=
  let n := s.rf (Reg.REF_ENT_QTH e) 24 8
  if 32 ≤ e ∧ e < 40 then
    let l := (s.ent e).logInt
    if 0 ≤ l then n * 1000000000 * 2 ^ l.toNat else n * 1000000000 / 2 ^ (-l).toNat
  else n * 100000000

/-- No message within MSG_TO (R183). -/
def messageTimeout (e : Nat) (s : State) : State :=
  let x := s.ent e
  if !s.entEn e || x.stale || decide (44 ≤ e) || decide (cycSince s.bt x.msgAt < s.msgTo e) then s
  else entEval e (s.setEnt e { x with stale := true })

/-- The qualification time has passed (R186). -/
def qualExpire (e : Nat) (s : State) : State :=
  match (s.ent e).due with
  | none => s
  | some b => if atOrAfter s.bt b ∧ s.entSt e = .qualifying then entFollow e (entMove e .qualified .none s) else s

/-- QT_LEFT of an entry: a part of 100 ms counts as a whole (R219). (DESIGN CHOICE, log 117.) -/
def State.qtLeft (s : State) (e : Nat) : Nat :=
  match (s.ent e).due with
  | some b => if atOrAfter s.bt b then 0 else cdiv (b - s.bt).toNat (100000000 * 65536)
  | none => 0

/-! ### Messages (R190 to R198) -/

/-- A message reaches an entry: CODE and AUX change, the timeout starts afresh, and the result is judged (R182, R190 to R192). -/
def refMessage (e code aux : Nat) (bad : Option EntCause) (trc : Bool) (s : State) : State :=
  let s1 := if bad = some .inconsistent then raiseEvt Reg.REF 7 (s.count Reg.REF_CNT_INCONS) else s
  let s2 := showCode e code aux s1
  entEval e (s2.setEnt e { s2.ent e with msgAt := s2.bt, stale := false, msgBad := bad, msgTrc := trc })

/-- The rank of an SSM code by SSM_OPT (R193). -/
def ssmRank (opt2 : Bool) (c : Nat) : Nat :=
  if opt2 then
    match c with
    | 0x1 => 1 | 0x0 => 2 | 0x7 => 3 | 0x4 => 4 | 0xD => 5 | 0xA => 6 | 0xC => 7 | 0xE => 8 | _ => 15
  else
    match c with
    | 0x2 => 1 | 0x4 => 2 | 0x8 => 3 | 0xB => 4 | _ => 15

/-- An accepted ESMC PDU reaches entry 16 + p (R193). -/
def refSsm (p ssm essm : Nat) (s : State) : State :=
  let e := 16 + p
  let r := ssmRank (s.rb Reg.REF_GCFG 0) ssm
  refMessage e ssm essm (if r = 15 ∨ s.rf (Reg.REF_ENT_QTH e) 0 8 < r then some .quality else none) false s

/-- An Announce reaches a PTP entry; the control firmware logs an inconsistent one. One that is inconsistent and below a threshold at once is
INCONSISTENT (R194, R213, R701). (DESIGN CHOICE, log 116.) -/
def refAnnounce (lo mid hi : Word) (s : State) : State :=
  let e := fld hi 0 6
  if e < 32 ∨ 39 < e then s
  else if bit mid 22 then entEval e (s.setEnt e { s.ent e with lost := true })
  else
    let x := s.ent e
    let q := Reg.REF_ENT_QTH e
    let cls := fld lo 0 8
    let acc := fld lo 8 8
    let bts := fld mid 0 8
    let diff := bit mid 16 && s.rb Reg.BDR_UTC_OFS 18 && decide (fld hi 16 16 ≠ s.rf Reg.BDR_UTC_OFS 0 16)
    let row := if diff then x.utcRow + 1 else 0
    let incons := bit mid 21 || decide (s.rf q 16 8 < fld mid 8 8) ||
      (decide (bts = 0 ∨ bts = 4) && decide (cls = 6 ∨ cls = 7)) || decide (3 ≤ row)
    let bad := if incons then some .inconsistent
      else if s.rf q 0 8 < cls ∨ s.rf q 8 8 < acc then some .quality else none
    let trc := bit mid 19 && decide (bts = 0xFF ∨ bts = 2)
    let s1 := s.setEnt e { x with lost := false, utcRow := row, logInt := (bits mid 24 8).toInt }
    let s2 := if incons then
        vlog none { cls := 13, port := s.rf (Reg.QRY_UP_CFG (e - 32)) 0 4, answer := .disqualified, partner := 1, tag := e - 32,
                    detail := EntCause.inconsistent.code } s1
      else s1
    refMessage e cls acc bad trc s2

/-- An accepted ToD message is applied to its entry (R182, R198). -/
def todApply (u e : Nat) (m : TodMsg) (s : State) : State :=
  let x := s.ent e
  let a := Reg.REF_TOD_LAST u
  let s1 := s.setRegN a (m.sec % 2 ^ 48 + m.taiUtc.toNat * 2 ^ 48 +
    (m.quality + m.accuracy * 2 ^ 8 + m.leap.toNat * 2 ^ 16 + b2n m.timeValid * 2 ^ 24 + b2n m.ppsValid * 2 ^ 25) * 2 ^ 64) 3
  let incons := match x.todSec with
    | some p => decide (m.sec ≠ p + x.pulses)
    | none => false
  let bad := if incons then some .inconsistent
    else if s.rf (Reg.REF_ENT_QTH e) 0 8 < m.quality ∨ ¬ m.timeValid then some .quality else none
  refMessage e m.quality m.accuracy bad m.timeValid (s1.setEnt e { x with todSec := some m.sec, pulses := 0 })

/-- Discard a ToD message: counted as BAD or WINDOW, and TOD_ERR is raised (R195 to R197, R220). -/
def todDiscard (u : Nat) (window : Bool) (s : State) : State :=
  let a := Reg.REF_TOD_ERR u
  let lo := if window then 16 else 0
  raiseEvt Reg.REF 5 (s.setRf a lo 16 (satU 16 (s.rf a lo 16 + 1)))

/-- A pulse lies within the window of R197 of a stop bit: 10 ms to 990 ms, both inclusive. -/
def inWindow (a b : BT80) : Bool := decide (10000000 * 65536 ≤ (b - a).toNat) && decide ((b - a).toNat ≤ 990000000 * 65536)

/-- A ToD parser's state. -/
def State.tod (s : State) (u : Nat) : TodParser := AMap.get { } s.ref.tods u
/-- Store it. -/
def State.setTod (s : State) (u : Nat) (x : TodParser) : State := { s with ref := { s.ref with tods := AMap.set { } s.ref.tods u x } }

/-- The UART is the bound ToD UART of its REFIN (R214). -/
def State.todBound (s : State) (u : Nat) : Bool :=
  s.rb (Reg.REF_TOD_CFG u) 4 && decide (s.todOf (s.rf (Reg.REF_TOD_CFG u) 0 4) = some u)

/-- A message has been parsed, its last stop bit in this cycle (R197). -/
def todMessage (u : Nat) (m : TodMsg) (s : State) : State :=
  let e := s.rf (Reg.REF_TOD_CFG u) 0 4
  if ¬ s.rb (Reg.REF_TOD_CFG u) 7 then s.setTod u { s.tod u with waiting := (s.tod u).waiting ++ [(m, s.bt)] }
  else
    match (s.ent e).lastPulse with
    | some b => if inWindow b s.bt then todApply u e m s else todDiscard u true s
    | none => todDiscard u true s

/-- Apply in turn the messages that a pulse judges. -/
def todJudge (u e : Nat) (l : List (TodMsg × BT80)) (s : State) : State := l.foldl (fun a p => todApply u e p.1 a) s

/-- A pulse of a REFIN with a bound UART (R197, R198). -/
def todPulse (e : Nat) (b : BT80) (s : State) : State :=
  let x := s.ent e
  let s1 := s.setEnt e { x with pulses := x.pulses + 1, lastPulse := some b }
  match s1.todOf e with
  | none => s1
  | some u =>
    let t := s1.tod u
    let go := t.waiting.filter (fun p => inWindow p.2 b)
    let stay := t.waiting.filter (fun p => !inWindow p.2 b)
    todJudge u e go (s1.setTod u { t with waiting := stay, rmc := none })

/-- Messages whose pulse has not come 990 ms after the stop bit are discarded in that cycle (R197). -/
def todExpire (u : Nat) (s : State) : State :=
  let t := s.tod u
  let isLate (p : TodMsg × BT80) : Bool := decide (990000000 * 65536 ≤ (s.bt - p.2).toNat)
  let late := t.waiting.filter isLate
  let s1 := s.setTod u { t with waiting := t.waiting.filter (fun p => !isLate p) }
  late.foldl (fun a _ => todDiscard u true a) s1

/-- Judge the 22 bytes after a sync as a binary frame: the message, or none where type, length or crc fails (R195, R978). -/
def todParse (f : List Byte) : Option TodMsg :=
  if f.getD 2 0 = 0x01#8 ∧ f.getD 3 0 = 18#8 ∧ f.length = 24 ∧ (crc16 (sliceB f 2 20)).toNat = beAt f 22 2 then
    some { sec := beAt f 4 6, taiUtc := BitVec.ofNat 16 (beAt f 10 2), leap := bits (f.getD 12 0) 0 3,
           quality := beAt f 13 1, accuracy := beAt f 14 1, timeValid := bit (f.getD 15 0) 0, ppsValid := bit (f.getD 15 0) 1 }
  else none

/-- A binary frame has arrived (R978). (DESIGN CHOICE, log 37.) -/
def todFrame (u : Nat) (f : List Byte) (s : State) : State :=
  match todParse f with
  | some m => todMessage u m s
  | none => todDiscard u false s

/-- Take a byte into a parser that hunts for the sync bytes (R978). -/
def todHunt (buf : List (Byte × BT80)) (b : Byte × BT80) : List (Byte × BT80) :=
  match buf with
  | [] => if b.1 = 0xB5#8 then [b] else []
  | [x] => if b.1 = 0x12#8 then [x, b] else if b.1 = 0xB5#8 then [b] else []
  | _ => buf ++ [b]

/-- Bytes gathered after a discarded frame are hunted again from the byte after its sync; each keeps the cycle in which it came (R978). -/
def todRehunt (l : List (Byte × BT80)) : List (Byte × BT80) := (l.drop 2).foldl todHunt []

/-- A byte for a binary parser (R978). (DESIGN CHOICE, log 37.) -/
def todByte (u : Nat) (b : Byte) (s : State) : State :=
  let t := s.tod u
  let buf := todHunt t.buf (b, s.bt)
  if buf.length < 24 then s.setTod u { t with buf := buf }
  else
    let f := buf.map (·.1)
    let again := if (todParse f).isSome then [] else todRehunt buf
    todFrame u f (s.setTod u { t with buf := again })

/-- The bytes of a burst reach a binary parser. -/
def todBytes (u : Nat) (l : List Byte) (s : State) : State := l.foldl (fun a b => todByte u b a) s

/-- The cycle of the sync of the frame being gathered (R978). -/
def TodParser.syncAt (t : TodParser) : BT80 := (t.buf.getD 1 (0, 0)).2

/-- A frame whose bytes have not all come within 10 ms of its sync is discarded (R978). -/
def todFrameTimeout (u : Nat) (s : State) : State :=
  let t := s.tod u
  if s.rf (Reg.REF_TOD_CFG u) 5 2 = 0 ∧ 2 ≤ t.buf.length ∧ 10000000 < cycSince s.bt t.syncAt then
    todDiscard u false (s.setTod u { t with buf := todRehunt t.buf })
  else s

/-! ### NMEA 0183 (R196) -/

/-- The value of a decimal digit string. -/
def decVal (l : List Byte) : Option Nat :=
  l.foldl (fun a b => a.bind (fun n => if 48 ≤ b.toNat ∧ b.toNat ≤ 57 then some (10 * n + (b.toNat - 48)) else none))
    (if l.isEmpty then none else some 0)

/-- The value of a hexadecimal digit. -/
def hexVal (b : Byte) : Nat :=
  let n := b.toNat
  if 48 ≤ n ∧ n ≤ 57 then n - 48 else if 65 ≤ n ∧ n ≤ 70 then n - 55 else if 97 ≤ n ∧ n ≤ 102 then n - 87 else 16

/-- Split a byte list at a separator. -/
def splitAt (sep : Byte) : List Byte → List (List Byte)
  | [] => [[]]
  | b :: t =>
    if b = sep then [] :: splitAt sep t
    else match splitAt sep t with
      | [] => [[b]]
      | f :: r => (b :: f) :: r

/-- The fields of a sentence whose checksum is good, the address field first. -/
def nmeaFields (l : List Byte) : Option (List (List Byte)) :=
  match l with
  | 0x24#8 :: t =>
    match splitAt 0x2A#8 t with
    | [body, cs] =>
      if hexVal (cs.getD 0 0) * 16 + hexVal (cs.getD 1 0) = (body.foldl (· ^^^ ·) 0#8).toNat ∧ 2 ≤ cs.length then
        some (splitAt 0x2C#8 body) else none
    | _ => none
  | _ => none

/-- Days from 1970-01-01 to a date of the Gregorian calendar. (PRESUMED, log 101.) -/
def daysOf (y m d : Nat) : Nat :=
  let y1 := if m ≤ 2 then y - 1 else y
  let m1 := if m ≤ 2 then m + 9 else m - 3
  365 * y1 + y1 / 4 - y1 / 100 + y1 / 400 + (153 * m1 + 2) / 5 + (d - 1) - 719468

/-- UTC seconds since 1970 that a ZDA sentence's fields give. -/
def zdaSec (f : List (List Byte)) : Option Nat :=
  let t := f.getD 1 []
  match decVal (t.take 2), decVal ((t.drop 2).take 2), decVal ((t.drop 4).take 2), decVal (f.getD 2 []), decVal (f.getD 3 []),
      decVal (f.getD 4 []) with
  | some h, some mi, some se, some d, some mo, some y => some (daysOf y mo d * 86400 + h * 3600 + mi * 60 + se)
  | _, _, _, _, _, _ => none

/-- A sentence has arrived on a bound UART (R196). Its accuracy, leap and PPS_VALID, which NMEA does not give, are free values; its TIME_VALID
is settled as the ZDA arrives, so an RMC that follows the ZDA and precedes the pulse is not used. (DESIGN CHOICE, log 37, 114.) -/
def todNmea (u : Nat) (l : List Byte) (s : State) : State :=
  let body := l.filter (fun b => b ≠ 13#8 ∧ b ≠ 10#8)
  match nmeaFields body with
  | none => todDiscard u false s
  | some f =>
    let name := (f.headD []).drop 2
    if name = [82#8, 77#8, 67#8] then
      s.setTod u { s.tod u with rmc := some (decide (f.getD 2 [] = [65#8]), s.bt) }
    else if name = [90#8, 68#8, 65#8] then
      match zdaSec f with
      | none => todDiscard u false s
      | some sec =>
        let fmt := s.rf (Reg.REF_TOD_CFG u) 5 2
        let tv := decide (fmt = 2) || (match (s.tod u).rmc with | some (a, _) => a | none => false)
        let tai := bits (s.reg Reg.BDR_UTC_OFS) 0 16
        let fv := s.freeVal
        let m : TodMsg := { sec := ((sec : Int) + tai.toInt).toNat, taiUtc := tai, leap := BitVec.ofNat 3 (fv / 256),
                            quality := if tv then s.rf (Reg.REF_TOD_CFG u) 8 8 else 255, accuracy := fv % 256,
                            timeValid := tv, ppsValid := decide (fv / 2048 % 2 = 1) }
        todMessage u m s.nextFree
    else s

/-- The byte finds the receive buffer of an NMEA parser full of an unended sentence: 128 bytes (R221). (DESIGN CHOICE, log 115.) -/
def State.nmeaFull (s : State) (u : Nat) (b : Byte) : Bool := decide (b ≠ 0x24) && decide (128 ≤ (s.tod u).buf.length)

/-- A byte for an NMEA parser: a sentence runs from a '$' to a line feed; one that overruns the buffer is dropped (R196, R221).
(DESIGN CHOICE, log 37, 115.) -/
def nmeaByte (u : Nat) (b : Byte) (s : State) : State :=
  let t := s.tod u
  if b = 0x24 then s.setTod u { t with buf := [(b, s.bt)] }
  else if t.buf = [] ∨ s.nmeaFull u b = true then s.setTod u { t with buf := [] }
  else if b = 10 then todNmea u (t.buf.map (·.1)) (s.setTod u { t with buf := [] })
  else s.setTod u { t with buf := t.buf ++ [(b, s.bt)] }

end Sys2Proof.Machine
end

