-- ==== Sys2Proof/Machine/AntFlags.lean ====
section
/-! DEFINITION. The integrity flags of the antenna sets (R398, R413, R414, R426). -/
namespace Sys2Proof.Machine

/-- SPOOF of a set. -/
def State.spoofed (s : State) (k : Nat) : Bool := s.rb Reg.ANT_ISTAT k
/-- JAM of a set. -/
def State.jammed (s : State) (k : Nat) : Bool := s.rb Reg.ANT_ISTAT (2 + k)

/-- Show the flags of both sets: SPOOF and JAM as given, FWFAIL, and INTEG_OK, which reaches the entries of the set in the same
cycle (R398). A change of SPOOF or JAM is raised (R425). CFG_PAR holds SPOOF at 1 (R426). -/
def showIntegrity (spoof jam : Nat → Bool) (s : State) : State :=
  let sp (k : Nat) : Bool := spoof k || s.fltBit Reg.ANT 0
  let fw (k : Nat) : Bool := s.rb Reg.ANT_INTEG k
  let ok (k : Nat) : Bool := !sp k && !jam k && !fw k
  let v := b2n (sp 0) + 2 * b2n (sp 1) + 4 * b2n (jam 0) + 8 * b2n (jam 1) + 16 * b2n (fw 0) + 32 * b2n (fw 1) +
    64 * b2n (ok 0) + 128 * b2n (ok 1)
  let old := s.rf Reg.ANT_ISTAT 0 8
  let s1 := s.setRf Reg.ANT_ISTAT 0 8 v
  let s2 := if old % 4 ≠ v % 4 then raiseEvt Reg.ANT 0 s1 else s1
  let s3 := if old / 4 % 4 ≠ v / 4 % 4 then raiseEvt Reg.ANT 1 s2 else s2
  if old = v then s3 else forN 4 (fun i => entEval (40 + i)) s3

/-- Show the flags again after a change of ANT_INTEG, of the CFG_PAR fault or of ANT_SCFG.EN (R398, R414, R426). (DEDUCED, log 48.) -/
def antRefresh (s : State) : State :=
  showIntegrity (fun k => s.spoofed k && s.rb Reg.ANT_SCFG (24 + k)) s.jammed s

/-- Set SPOOF of a set (R413). (DEDUCED, log 48.) -/
def setSpoof (k : Nat) (v : Bool) (s : State) : State :=
  showIntegrity (fun j => if j = k then v else s.spoofed j) s.jammed s

/-- Set JAM of a set (R405). -/
def setJam (k : Nat) (v : Bool) (s : State) : State :=
  showIntegrity s.spoofed (fun j => if j = k then v else s.jammed j) s

end Sys2Proof.Machine
end

