-- ==== Sys2Proof/Machine/PortCore.lean ====
section
/-! DEFINITION. What a logical port is: its state, its statistics and the frame on its line (R453, R483, R484). -/
namespace Sys2Proof.Machine

/-- A port's state. -/
def State.prtS (s : State) (p : Nat) : Prt := AMap.get { } s.prt p
/-- Store a port's state. -/
def State.setPrt (s : State) (p : Nat) (x : Prt) : State := { s with prt := AMap.set { } s.prt p x }
/-- The page of a logical port: MGMT is port 16 (R499). -/
def prtPage (p : Nat) : Nat := if p = 16 then Reg.MGMT else Reg.PRT p
/-- LINK_UP of a logical port. -/
def State.linkUp (s : State) (p : Nat) : Bool := if p = 16 then s.rb Reg.MGMT_STAT 0 else s.rb (Reg.PRT_LINK p) 3
/-- The largest frame of a logical port. -/
def State.maxLen (s : State) (p : Nat) : Nat := if p = 16 then s.rf Reg.MGMT_MAXLEN 0 14 else s.rf (Reg.PRT_MAXLEN p) 0 14
/-- The station address of a logical port, as its six bytes. -/
def State.prtMac (s : State) (p : Nat) : List Byte :=
  bytesBE 6 (s.regN (if p = 16 then Reg.MGMT_MAC else Reg.PRT_MAC p) 2 % 2 ^ 48)
/-- Count n in statistics counter i of a logical port: 64 bits, saturating (R14, R484). -/
def stat (p i n : Nat) (s : State) : State :=
  let a := if p = 16 then Reg.MGMT_STATS i else Reg.PRT_STATS p i
  s.setRegN a (satU 64 (s.regN a 2 + n)) 2

/-- A launched frame is on the port's line. -/
def State.launching (s : State) (p : Nat) : Bool := decide (p < 16) && (s.portSlots p).any (fun e => e.2.begun)

/-- The transmit path takes the mode written once no frame is in transmission (R473). -/
def pathFree (p : Nat) (s : State) : State :=
  if p < 16 ∧ (s.prtS p).tx.isNone ∧ s.launching p = false then s.setPrt p { s.prtS p with txMode := s.rf (Reg.PRT_MODE p) 0 2 }
  else s

/-- The frame in transmission is cut short: it is counted and its buffer returned (R483, R734). -/
def truncTx (p : Nat) (s : State) : State :=
  match (s.prtS p).tx with
  | none => s
  | some f => pathFree p (freeBuffer f.free (stat p 24 1 (s.setPrt p { s.prtS p with tx := none })))

/-- A launched frame under way is cut short (R536). -/
def truncLaunch (p : Nat) (s : State) : State :=
  if s.launching p then pathFree p (truncWhere (p / 4) (fun x => decide (x.port = p)) (stat p 24 1 s)) else s

/-- What the line of a port is sending is cut short. -/
def cutShort (p : Nat) (s : State) : State := truncLaunch p (truncTx p s)

end Sys2Proof.Machine
end

