-- ==== Sys2Proof/Machine/Access.lean ====
section
/-! DEFINITION. How an access reaches a register page: which bridge serves it, when it waits, is ignored or is answered with an
error (R28, R48, R455, R779, R862 to R866), and what every write of an RW or RWL register does (R10, R11). -/
namespace Sys2Proof.Machine

/-- The main rails are good and no chip reset holds the device (R910, R917). -/
def State.alive (s : State) : Bool := s.pwr.good && !s.pwr.held

/-- The device is in QUIESCENT (R913, R941). -/
def State.quiescent (s : State) : Bool := decide (s.rf Reg.PWR_STATE 0 2 = 1)

/-- Code of the domain of the bridge that serves a page (R863, R869). -/
def pageDomain (k : PageKind) (inst : Nat) : Nat :=
  match k with
  | .ref | .dpl | .syn | .out | .pps => 39
  | .gns | .ant | .acq | .nav | .gch => 34
  | .prt => 11 + inst / 4
  | .tsu => 11 + inst
  | .mgmt => 33
  | .mate => 31
  | .ddr => 9 + inst
  | .qdr => 3 + inst
  | .clu => 3 + inst / 16
  | .eng => 3 + inst / 128
  | .sys | .lcs | .pwr | .geo | .clk | .bdr | .act | .asy | .tdc | .sch | .pol | .qry | .svc | .key | .trn | .cry | .flt
  | .evt | .pmu | .sem | .mtx | .mrm | .pci | .lsp => 7

/-- Domains that stop in QUIESCENT (R58). -/
def quiescentDomains : List Nat := [3, 4, 5, 9, 10, 11, 12, 13, 14, 34, 35]

/-- A clock domain is stopped (R58, R913). -/
def State.domStopped (s : State) (d : Nat) : Bool := s.quiescent && quiescentDomains.contains d

/-- The clock of a page is stopped: its domain's, or the gate of clusters 48 to 62 (R58). (DEDUCED, log 17.) -/
def State.pageStopped (s : State) (k : PageKind) (inst : Nat) : Bool :=
  s.domStopped (pageDomain k inst) ||
    (s.quiescent && match k with
      | .clu => decide (48 ≤ inst ∧ inst ≤ 62)
      | .eng => decide (384 ≤ inst ∧ inst ≤ 503)
      | _ => false)

/-- A page is in reset: its own SOFT_RESET, or that of a parent which reaches it (R28, R51, R56). -/
def State.inReset (s : State) (k : PageKind) (inst pg : Nat) : Bool :=
  s.pgRst pg || match k with
    | .eng => s.engRst inst
    | .clu => decide (inst ≠ 63) && s.pgRst (Reg.QDR (inst / 16))
    | _ => false

/-- A block takes part in what happens: the device runs, the block's clock runs and no reset holds it. (DEDUCED, log 16.) -/
def State.pageLive (s : State) (pg : Nat) : Bool :=
  s.alive &&
    match pageKindOf pg with
    | some (k, inst) => !s.inReset k inst pg && !s.pageStopped k inst
    | none => false

/-- The domain of the bridge in whose range an offset lies outside every page (R863). -/
def bridgeRange (a : Nat) : Option Nat :=
  let within (lo hi : Nat) : Bool := decide (lo ≤ a) && decide (a ≤ hi)
  if within 0x0000000 0x001FFFF || within 0x003F000 0x003FFFF || within 0x00A0000 0x00BFFFF || within 0x00D0000 0x00E0FFF ||
     within 0x00E3000 0x00EFFFF then some 7
  else if within 0x0030000 0x003EFFF then some 39
  else if within 0x0040000 0x004FFFF || within 0x0060000 0x006FFFF || within 0x0100000 0x01FFFFF then some 34
  else if within 0x0080000 0x008FFFF then some (11 + a % 0x10000 / 0x4000)
  else if within 0x0090000 0x0093FFF then some (11 + a % 0x10000 / 0x1000)
  else if within 0x0098000 0x009FFFF then some 33
  else if within 0x00C0000 0x00CFFFF then some 31
  else if within 0x00E1000 0x00E1FFF then some 9
  else if within 0x00E2000 0x00E2FFF then some 10
  else if within 0x0200000 0x023FFFF then some (3 + a % 0x40000 / 0x10000)
  else if within 0x0240000 0x0243FFF then some (3 + a % 0x40000 / 0x1000)
  else if within 0x0280000 0x047FFFF then some (a / 0x80000 - 2)
  else none

/-- The life-cycle state: 0 BLANK, 1 PROVISIONED, 2 FIELD, 3 DEBUG, 4 RETIRED (R786). (DESIGN CHOICE, log 87.) -/
def State.lifeCycle (s : State) : Nat := s.rf Reg.LCS_STATE 0 3

/-- JTAG is limited to the LCS page: in FIELD and RETIRED (R779, R780). -/
def State.jtagLimited (s : State) : Bool := s.lifeCycle == 2 || s.lifeCycle == 4

/-- Whether a master may reach a page at all (R48, R780). -/
def mayReach (m : Master) (k : PageKind) (inst : Nat) (s : State) : Bool :=
  match m with
  | .host | .calendar => true
  | .jtag => !s.jtagLimited || k == .lcs
  | .cluster c => decide (c.val = 63) || (k == .clu && decide (inst = c.val)) || (k == .eng && decide (inst / 8 = c.val))

/-- What becomes of an access (R864, R866). -/
inductive Gate where
  | go | ignore | wait | err (kind : Nat)
  deriving DecidableEq, Repr

/-- What becomes of an access of a master to an offset that no window holds. A write of a page in reset is ignored (R28), and of
the second to fourth PRT pages of a 100G group too, but of SCRATCH (R455). -/
def gate (m : Master) (a : Nat) (write : Bool) (s : State) : Gate :=
  if ¬ s.alive then .ignore
  else
    match pageAt a with
    | some (p, inst, off) =>
      if ¬ mayReach m p.kind inst s then .err 1
      else if s.pageStopped p.kind inst then .wait
      else if ¬ write then .go
      else if s.inReset p.kind inst (a - off) then .ignore
      else if p.kind = .prt ∧ inst % 4 ≠ 0 ∧ s.rf (Reg.PRT_GMODE (inst - inst % 4)) 0 2 = 2 ∧ off ≠ 0x02C then .ignore
      else .go
    | none =>
      match bridgeRange a with
      | some d => if s.domStopped d then .wait else .err 1
      | none => .err 0

/-- An error response on the matrix: counted, logged and reported (R862, R865, R866, R901). (DEDUCED, log 91.) -/
def mtxErr (id ea kind : Nat) (write : Bool) (s : State) : State :=
  let s1 := s.count Reg.MTX_CNT_ERR
  let s2 := s1.setReg Reg.MTX_ERR (BitVec.ofNat 32 (kind + b2n write * 4 + id * 256 + 2 ^ 31))
  raiseEvt Reg.MTX 0 (s2.setRegN Reg.MTX_ERR_ADDR ea 2)

/-- An error response reaches a master of BAR0: JTAG keeps a sticky bit (R866). -/
def tellErr (m : Master) (a kind : Nat) (s : State) : State :=
  let s1 := if m = .jtag then { s with jtagErr := true } else s
  s1.emit (.busError m a kind)

/-- An access of BAR0 answered with an error (R866). (DEDUCED, log 14.) -/
def busErr (m : Master) (a kind : Nat) (write : Bool) (s : State) : State :=
  tellErr m a kind (mtxErr (masterId m) (eaPages + a) kind write s)

/-- The domain that a request waits for, if its clock is stopped (R864, R869). -/
def State.reqDomain (s : State) (r : MtxReq) : Option Nat :=
  match pageAt r.addr with
  | some (p, inst, _) => if s.pageStopped p.kind inst then some (pageDomain p.kind inst) else none
  | none => (bridgeRange r.addr).filter s.domStopped

/-- What an offset of BAR0 lies in (R102, R566, R965, R967). -/
inductive Window where
  | slot (n w : Nat)
  | queue (q w : Nat)
  | mram (o : Nat)
  | sram (o : Nat)
  | page
  deriving DecidableEq, Repr

/-- The window of an offset; everything else is a page, a default target or a decode miss. -/
def windowOf (a : Nat) : Window :=
  if 0x20000 ≤ a ∧ a < 0x30000 then .slot (a % 0x10000 / 16) (a % 16 / 4)
  else if 0x800000 ≤ a ∧ a < 0xC00000 then .queue (a % 0x400000 / 16) (a % 16 / 4)
  else if 0x1000000 ≤ a ∧ a < 0x2000000 then .mram (a % 0x1000000)
  else if 0x2000000 ≤ a ∧ a < 0x4000000 then .sram (a % 0x2000000)
  else .page

/-- The target of the matrix that an offset of BAR0 reaches: the bridge, by its domain, a window's own target, or the default target
(R862, R863). -/
def targetOf (a : Nat) : Nat :=
  match windowOf a with
  | .slot _ _ => 64
  | .queue _ _ => 65
  | .mram _ => 66
  | .sram _ => 67
  | .page =>
    match pageAt a with
    | some (p, inst, _) => pageDomain p.kind inst
    | none => (bridgeRange a).getD 68

/-- A master among those that are targets too: the clusters by their numbers, PCI as 64 (R858, R861). -/
def masterNode (m : Master) : Option Nat :=
  match m with
  | .cluster c => some c.val
  | .host => some 64
  | .jtag | .calendar => none

/-- A target among those that are masters too: a cluster's pages, PCI as 64, CRY as 69 (R858, R861). -/
def targetNode (a : Nat) : Option Nat :=
  match pageAt a with
  | some (p, inst, _) =>
    (match p.kind with
     | .clu => some inst
     | .eng => some (inst / 8)
     | .pci => some 64
     | .cry => some 69
     | _ => none)
  | none => none

/-- The edge that a request is in the graph of R861; a cluster's request to its own pages is none. -/
def MtxReq.edge (r : MtxReq) : Option (Nat × Nat) :=
  match masterNode r.who, targetNode r.addr with
  | some x, some y => if x = y then none else some (x, y)
  | _, _ => none

/-- The nodes that a number of edges lead to from some nodes. -/
def reachFrom (es : List (Nat × Nat)) : Nat → List Nat → List Nat
  | 0, l => l
  | n + 1, l => reachFrom es n (es.foldl (fun a e => if a.contains e.1 && !a.contains e.2 then e.2 :: a else a) l)

/-- Admitting a request would close a cycle of requests outstanding among clusters, PCI and CRY (R861). -/
def closesCycle (l : List MtxReq) (r : MtxReq) : Bool :=
  match r.edge with
  | none => false
  | some (x, y) =>
    let es := (l.filter (fun q => decide (q.stage = .sent))).filterMap MtxReq.edge
    (reachFrom es es.length [y]).contains x

/-- An earlier request of the same master with the same ID is outstanding to another target (R860). -/
def idElsewhere (pre : List MtxReq) (r : MtxReq) : Bool :=
  pre.any (fun q => decide (q.who = r.who) && decide (q.id = r.id) && decide (targetOf q.addr ≠ targetOf r.addr))

/-- A master has 64 requests before this one (R859). -/
def portFull (pre : List MtxReq) (m : Master) : Bool := decide (64 ≤ pre.countP (fun q => decide (q.who = m)))

/-- The stage that a request reaches, with the requests before it and those of the graph (R859 to R861): the matrix timeout runs from
the cycle in which it leaves its master's port (R865). -/
def MtxReq.move (r : MtxReq) (pre all : List MtxReq) (now : BT80) : MtxReq :=
  if r.stage = .sent then r
  else if r.stage = .port && portFull pre r.who then r
  else
    let q := if r.stage = .port then { r with issued := now } else r
    if idElsewhere pre q || closesCycle all q then { q with stage := .back } else { q with stage := .sent }

/-- The next request of a master, with the ID that the master gives it: a free value (R859). (DESIGN CHOICE, log 127.) -/
def State.newReq (s : State) (r : MtxReq) : MtxReq :=
  ({ r with id := Config.txId (masterId r.who) s.free % 64, stage := .port } : MtxReq).move s.mtx s.mtx s.bt

/-- A new request cannot be performed at once: it waits at its master's port, is held back, or an earlier one with its ID waits at the
same target, which performs them in order (R859 to R861). (DEDUCED, log 127.) -/
def State.backed (s : State) (m : Master) (a : Nat) : Bool :=
  !s.mtx.isEmpty &&
    (let r := s.newReq { who := m, addr := a, write := false, val := 0, issued := s.bt }
     decide (r.stage ≠ .sent) || s.mtx.any (fun q => decide (q.who = m) && decide (q.id = r.id)))

/-- Bit d of MTX_HELD for each domain with a request that waits at its crossing (R869). -/
def showHeld (s : State) : State :=
  let ds := ((s.mtx.filter (fun r => decide (r.stage = .sent))).filterMap s.reqDomain).eraseDups
  s.setRegN Reg.MTX_HELD (ds.foldl (fun acc d => acc + 2 ^ d) 0) 2

/-- A request waits (R859 to R861, R864, R869). (DEDUCED, log 17, 23.) -/
def hold (r : MtxReq) (s : State) : State := showHeld { s.nextFree with mtx := s.mtx ++ [s.newReq r] }

/-- What becomes of a new access of a master: the matrix may not admit it yet. -/
def gateIn (m : Master) (a : Nat) (write : Bool) (s : State) : Gate := if s.alive && s.backed m a then .wait else gate m a write s

/-! ### A master and the calendar write one register in one cycle (R49) -/

/-- Bits of a word of a page that hold what is written to them; a write of 0 leaves the others alone (R10, R26). (DEDUCED, log 29.) -/
def heldBits (a : Nat) : Nat :=
  match pageAt a with
  | none => 0
  | some (p, _, off) =>
    if off = 0x008 then 5
    else if off = 0x014 ∨ off = 0x024 ∨ off = 0x02C then 0xFFFFFFFF
    else if off < 0x040 then 0
    else
      match rowAt p.kind off with
      | none => 0
      | some (r, _, _, w) => r.mask r.rw w ||| r.mask r.rwl w

/-- The words of a value that a write at an offset completes: the offset, and those before it that stage for it. -/
def valueWords (a : Nat) : List Nat :=
  match pageAt a with
  | none => []
  | some (p, _, off) =>
    match rowAt p.kind off with
    | some (r, _, _, w) => if w + 1 = r.words then (List.range r.words).map (fun i => a - 4 * w + 4 * i) else []
    | none => [a]

/-- The calendar's write of a value is noted, with the words it has staged for it: a master's write of the value in the same cycle stands
before it (R49). -/
def noteCal (a : Nat) (mask v : Word) (s : State) : State :=
  let f (b : Nat) : Option (Nat × Word × Word) :=
    if b = a then some (a, mask &&& BitVec.ofNat 32 (heldBits a), v) else (s.stagedOf .calendar b).map (fun x => (b, BitVec.allOnes 32, x))
  { s with thisCyc := { s.thisCyc with cal := (valueWords a).filterMap f ++ s.thisCyc.cal } }

/-- The bits of a word that the calendar has written in this cycle, and their value. -/
def State.calOver (s : State) (a : Nat) : Word × Word :=
  match s.thisCyc.cal.find? (fun e => e.1 == a) with
  | some (_, m, v) => (m, v)
  | none => (0, 0)

/-- The word that a master's write puts, with the bits that the calendar has written to the register in this cycle (R49). -/
def State.underCal (s : State) (m : Master) (a : Nat) (v : Word) : Word :=
  if m = .calendar then v else (v &&& ~~~ (s.calOver a).1) ||| ((s.calOver a).2 &&& (s.calOver a).1)

/-- A master's write that completes a value takes the other words of it from the calendar's write of this cycle (R49). -/
def State.calStaged (s : State) (m : Master) (a : Nat) : State :=
  if m = .calendar ∨ s.thisCyc.cal = [] then s
  else (valueWords a).foldl (fun t b => if b = a ∨ (s.calOver b).1 = 0 then t else t.setStaged m b (some (s.calOver b).2)) s

/-! ### Accesses by a master -/

/-- A write of a register of a page by a master, with what the write does once it arrives. -/
def regW (m : Master) (a : Nat) (v : Word) (f : State → State) (s : State) : State :=
  match gateIn m a true s with
  | .go => f s
  | .ignore => s
  | .wait => hold { who := m, addr := a, write := true, val := v, issued := s.bt } s
  | .err k => busErr m a k true s

/-- A read of a register of a page by a master. -/
def regR (m : Master) (a : Nat) (f : State → State) (s : State) : State :=
  match gateIn m a false s with
  | .go => f s
  | .ignore => s
  | .wait => hold { who := m, addr := a, write := false, val := 0, issued := s.bt } s
  | .err k => busErr m a k false s

/-! ### Plain register writes (R10, R11) -/

/-- The bits of a word that a write may change: RW bits, and RWL bits unless the page is locked (R11). -/
def RegRow.writable (r : RegRow) (locked : Bool) (w : Nat) : Nat :=
  r.mask r.rw w ||| (if locked then 0 else r.mask r.rwl w)

/-- Keep a field whose written value is not one it takes. -/
def keepField (old : Word) (f : Nat × Nat × Nat × Nat) (v : Word) : Word :=
  let x := fld v f.1 f.2.1
  if f.2.2.1 ≤ x ∧ x ≤ f.2.2.2 then v else setFld v f.1 f.2.1 (fld old f.1 f.2.1)

/-- The value a register word takes when v is written over old: unwritable bits, reserved bits and fields given a value they do
not take keep what they hold. -/
def RegRow.merge (r : RegRow) (locked : Bool) (w : Nat) (old v : Word) : Word :=
  let m := BitVec.ofNat 32 (r.writable locked w)
  let v1 := (old &&& ~~~ m) ||| (v &&& m)
  if w = 0 then r.keep.foldl (fun x f => keepField old f x) v1 else v1

/-- The base of the page that holds an offset. -/
def pageBase (a : Nat) : Nat := a - a % 0x1000

/-- The value that a one-word RW or RWL register at an offset takes on a write of v. -/
def State.merged (s : State) (a : Nat) (v : Word) : Word :=
  match pageAt a with
  | none => s.reg a
  | some (p, _, off) =>
    match rowAt p.kind off with
    | none => s.reg a
    | some (r, _, _, w) => r.merge (s.pgLock (a - off)) w (s.reg a) v

/-- Whether a register word has RWL bits that lie under a mask. -/
def rwlUnder (a : Nat) (mask : Word) : Bool :=
  match pageAt a with
  | none => false
  | some (p, _, off) =>
    match rowAt p.kind off with
    | none => false
    | some (r, _, _, w) => decide (r.mask r.rwl w &&& mask.toNat ≠ 0)

/-- A write of a one-word RW or RWL register that does nothing else. -/
def plainWrite (a : Nat) (v : Word) (s : State) : State := s.setReg a (s.merged a v)

/-- A write of a word of an RW or RWL register that does nothing else: the words before the last of a wider value are staged for the
writer, and the last one commits them all (R19, R23). -/
def valueWrite (m : Master) (a : Nat) (v : Word) (s : State) : State :=
  match pageAt a with
  | none => s
  | some (p, _, off) =>
    match rowAt p.kind off with
    | none => s
    | some (r, _, _, w) =>
      if r.words = 1 then plainWrite a v s
      else if w + 1 < r.words then s.setStaged m a (some v)
      else
        let base := a - 4 * w
        let word (i : Nat) : Word := if i = w then v else (s.stagedOf m (base + 4 * i)).getD (s.reg (base + 4 * i))
        let put (b : State) (i : Nat) : State :=
          b.setReg (base + 4 * i) (r.merge (s.pgLock (a - off)) i (s.reg (base + 4 * i)) (word i))
        ((List.range r.words).foldl put s).dropStaged m base r.words

/-- A write of 1 to W1C bits clears them, but for those that the device sets in the same cycle (R10, R12). -/
def w1cWrite (a mask : Nat) (v : Word) (s : State) : State :=
  s.setReg a (s.reg a &&& ~~~ (v &&& BitVec.ofNat 32 mask &&& ~~~ s.setNow a))

end Sys2Proof.Machine
end

