-- ==== Sys2Proof/Machine/ThreadCore.lean ====
section
/-! DEFINITION. Barriers and semaphores, and what the reset, the fault and the halt of a thread do to them (R549 to R551,
R577 to R587). -/
namespace Sys2Proof.Machine

/-! ### Barriers (R577 to R580) -/

/-- The engine lies in the scope of barrier b (SEM_BARb_SCOPE). -/
def State.inScope (s : State) (b e : Nat) : Bool :=
  let u := s.rf (Reg.SEM_BAR_SCOPE b) 8 6
  match s.rf (Reg.SEM_BAR_SCOPE b) 0 2 with
  | 0 => decide (e / 8 = u)
  | 1 => decide (e / 128 = u)
  | _ => true

/-- Thread k is a member of barrier b. -/
def State.barMember (s : State) (b k : Nat) : Bool :=
  s.rb (Reg.ENG_TH_BAR (k / 4) (k % 4)) b && s.inScope b (k / 4)

/-- The members of barrier b: only a written enrolment can be non-zero. -/
def State.barMembers (s : State) (b : Nat) : List Nat := (List.range 2048).filter (s.barMember b)

/-- Give every thread that waits at barrier b its result and start a new generation. -/
def barRelease (b code : Nat) (s : State) : State :=
  ((s.arrivedAt b).foldl (fun a k =>
    let t := a.th k
    match t.waiting with
    | .bar rd _ => a.setTh k { t with waiting := .done rd (BitVec.ofNat 64 code) }
    | _ => a) s).setArrived b []

/-- The barrier completes as broken: result BROKEN, and BAR_BROKEN in each cluster that holds a waiting member (R578). -/
def barBreak (b : Nat) (s : State) : State :=
  let w := s.arrivedAt b
  if w.isEmpty then s
  else
    let cs := (w.map (fun k => k / 32)).eraseDups
    cs.foldl (fun a c => raiseEvt (Reg.CLU c) 3 a) (barRelease b 1 s)

/-- Complete barrier b when every member has arrived (R577). -/
def barCheck (b : Nat) (s : State) : State :=
  let w := s.arrivedAt b
  if ¬ w.isEmpty ∧ (s.barMembers b).all (fun k => w.contains k) then barRelease b 0 s else s

/-- A thread is reset or enters FAULT: every barrier it is a member of and at which a member has arrived breaks (R578). -/
def barLost (k : Nat) (s : State) : State :=
  forN 16 (fun b a => if a.barMember b k then barBreak b a else a) s

/-! ### Semaphores (R582 to R587) -/

/-- ID of the host and of JTAG as semaphore owners. -/
@[reducible] def semHost : Nat := 0x800
@[reducible] def semJtag : Nat := 0x801

/-- A thread begins to wait for a semaphore: after those of earlier cycles, and among those of its own by its number (R583). -/
def Sem.enqueue (m : Sem) (b : BT80) (k : Nat) : Sem :=
  let n := if m.lastAt = b then min m.lastN m.waiters.length else 0
  let old := m.waiters.take (m.waiters.length - n)
  { m with waiters := old ++ insNat (m.waiters.drop (m.waiters.length - n)) k, lastAt := b, lastN := n + 1 }

/-- Pass a free semaphore to the longest-waiting requester (R583); a waiting thread's result is its code of R629. -/
def semPass (n : Nat) (s : State) : State :=
  let m := s.sem n
  match m.owner, m.waiters with
  | none, k :: rest =>
    let s1 := s.setSem n { m with owner := some k, waiters := rest }
    let t := s1.th k
    match t.waiting with
    | .sacq rd _ => s1.setTh k { t with waiting := .done rd (if m.broken then 1 else 0) }
    | _ => s1
  | _, _ => s

/-- Release a semaphore with BROKEN set, count it, raise BROKEN and pass it on (R585). -/
def semBreak (n : Nat) (s : State) : State :=
  let m := s.sem n
  if m.owner.isNone then s
  else
    let s1 := s.setSem n { m with owner := none, broken := true }
    semPass n (raiseEvt Reg.SEM 0 (s1.count Reg.SEM_CNT_BROKEN))

/-- An owner is lost: its semaphores break, and it leaves every wait (R585, R586). -/
def semLost (id : Nat) (s : State) : State :=
  forN 256 (fun n a =>
    let m := a.sem n
    let a1 := if m.waiters.contains id then a.setSem n { m with waiters := m.waiters.filter (fun k => decide (k ≠ id)) } else a
    if m.owner = some id then semBreak n a1 else a1) s

/-- The outcome of an acquire (R582, R629). -/
inductive SemResult where
  | ok | okBroken | busy | notOwner | owned
  deriving DecidableEq, Repr

/-- The code of a semaphore result (R629). -/
def SemResult.code : SemResult → Nat
  | .ok => 0 | .okBroken => 1 | .busy => 2 | .notOwner => 3 | .owned => 4

/-- Try to acquire a semaphore (R582); while SEM STORE is set every acquire returns BUSY (R599). (DEDUCED, log 74.) -/
def semTry (id n : Nat) (s : State) : SemResult × State :=
  let m := s.sem n
  if m.owner = some id then (.owned, s)
  else if s.fltBit Reg.SEM 0 then (.busy, s)
  else
    match m.owner with
    | some _ => (.busy, s)
    | none => (if m.broken then .okBroken else .ok, s.setSem n { m with owner := some id })

/-- Release a semaphore (R583, R584). -/
def semRelease (id n : Nat) (s : State) : SemResult × State :=
  let m := s.sem n
  if m.owner = some id then (.ok, semPass n (s.setSem n { m with owner := none, broken := false }))
  else (.notOwner, raiseEvt Reg.SEM 1 (s.count Reg.SEM_CNT_NOTOWNER))

/-! ### Leaving a wait -/

/-- A thread leaves the wait lists of the queues. -/
def queueLeave (k : Nat) (s : State) : State :=
  match (s.th k).waiting with
  | .qpush _ q _ => s.setQueue q { s.queue q with pushes := (s.queue q).pushes.filter (fun j => decide (j ≠ k)) }
  | .qpop _ q _ => s.setQueue q { s.queue q with pops := (s.queue q).pops.filter (fun j => decide (j ≠ k)) }
  | _ => s

/-- A wait is abandoned: the thread leaves any semaphore wait queue, barrier arrival and queue wait (R550). -/
def abandonWait (k : Nat) (s : State) : State :=
  let s1 := queueLeave k s
  let s2 := match (s1.th k).waiting with
    | .bar _ b => s1.setArrived b ((s1.arrivedAt b).filter (fun j => decide (j ≠ k)))
    | .sacq _ n =>
      s1.setSem n { s1.sem n with waiters := (s1.sem n).waiters.filter (fun j => decide (j ≠ k)) }
    | _ => s1
  s2.setTh k { s2.th k with waiting := .nothing, waitOn := .none }

/-- Nobody waits any more for the loads and reservations of a thread that are under way. (DEDUCED, log 73.) -/
def dropLoads (k : Nat) (s : State) : State :=
  let drop (r : MtxReq) : MtxReq :=
    match r.reply with
    | .load j _ _ | .rsv j _ _ _ => if j = k then { r with reply := .plain } else r
    | _ => r
  { s with mtx := s.mtx.map drop }

/-- Nobody waits any more for the posted stores of a thread that are under way. -/
def dropStores (k : Nat) (s : State) : State :=
  let drop (r : MtxReq) : MtxReq :=
    match r.reply with
    | .store j => if j = k then { r with reply := .plain } else r
    | _ => r
  { s with mtx := s.mtx.map drop }

/-! ### Reset of an engine -/

/-- Keys of the words of cluster and engine memories and of the register files in `State.badWords`. -/
@[reducible] def badLmem : Nat := 2 ^ 41
@[reducible] def badDmem : Nat := 2 ^ 42
@[reducible] def badImem : Nat := 2 ^ 43
@[reducible] def badRegf : Nat := 2 ^ 44

/-- Reset a thread: HALT with PC 0 and registers 0; what it held breaks (R549, R578, R585). -/
def threadReset (k : Nat) (s : State) : State :=
  let s1 := barLost k (abandonWait k (dropStores k (dropLoads k s)))
  (semLost k s1).setTh k { }

/-- Reset an engine's threads and wipe its local memory (R549, R553). (DEDUCED, log 13.) -/
def engineReset (e : Nat) (s : State) : State :=
  let s1 := forN 4 (fun t => threadReset (4 * e + t)) s
  let s2 := s1.setEng e { since := some (s.engClock e) }
  { s2 with
    badWords := (s2.badWords.clearRange (badLmem + e * 0x10000) 0x10000).clearRange (badRegf + e * 128) 128
    fct := { s2.fct with lmem := s2.fct.lmem.clearRange (e * 0x10000) 0x10000 } }

/-- Reset a cluster's shared parts: its memories and loader (R51). (DEDUCED, log 13.) -/
def clusterReset (c : Nat) (s : State) : State :=
  let s1 := s.setClu c { }
  { s1 with
    badWords := (s1.badWords.clearRange (badDmem + c * 0x80000) 0x80000).clearRange (badImem + c * 0x20000) 0x20000
    fct := { s1.fct with dmem := s1.fct.dmem.clearRange (c * 0x80000) 0x80000,
                                 imem := s1.fct.imem.clearRange (c * 0x20000) 0x20000 } }

end Sys2Proof.Machine
end

