-- ==== Sys2Proof/Machine/Resets.lean ====
section
/-! DEFINITION. Resets of blocks, of clock domains and of the whole device, and what each keeps (R26 to R28, R51 to R57, R84, R119,
R830, R917 to R922). -/
namespace Sys2Proof.Machine

/-- Copy the registers of a range of offsets from one register file into another. -/
def copyRegs (src : AMap Word) (lo n : Nat) (s : State) : State :=
  let new := src.filter (fun p => decide (lo ≤ p.1) && decide (p.1 < lo + n))
  { s with regs := new.foldl (fun m p => AMap.insert m p.1 p.2) (s.regs.clearRange lo n) }

/-- Ranges of a page (offset, length) that a reset of it keeps: the Geode (R927), the reset record of FLT (R831), what PWR shows
of the supply and of the last reset (R913, R922), the life-cycle state (R742), the retirement table (R920), what
MRAM itself holds of its sectors (R881 to R883), and levels of pins. -/
def keptRanges (k : PageKind) : List (Nat × Nat) :=
  match k with
  | .geo => [(0x040, 0xFC0)]
  | .flt => [(0x050, 0x010)]
  | .pwr => [(0x040, 4), (0x050, 8), (0x05C, 4)]
  | .lcs => [(0x040, 4), (0x060, 0x20)]
  | .key => [(0x05C, 4)]
  | .ddr => [(0x400, 0x400)]
  | .mrm => [(0x050, 0x10), (0x100, 0x100)]
  | _ => []

/-- Drop what the page holds as bad words: the reset rewrites its stores (R833). -/
def dropBad (lo n : Nat) (s : State) : State := { s with badWords := s.badWords.clearRange lo n }

/-- The registers of n bytes of pages return to their reset values; staged and shadow words go (R18, R22). -/
def wipePages (lo n : Nat) (s : State) : State :=
  let s1 := (dropBad lo n (s.resetRegs lo n)).dropStagedRange lo n
  { s1 with shadow := s1.shadow.filter (fun p => !(decide (lo ≤ p.1 % 2 ^ 26) && decide (p.1 % 2 ^ 26 < lo + n))) }

/-- The registers of a page return to their reset values, but for what the page keeps. (DEDUCED, log 12.) -/
def wipePage (k : PageKind) (pg : Nat) (s : State) : State :=
  let s1 := wipePages pg 0x1000 s
  (keptRanges k).foldl (fun a r => copyRegs s.regs (pg + r.1) r.2 a) s1

/-- A page is in reset: SOFT_RESET reads 1 and READY 0 (R26, R27). -/
def beginReset (pg : Nat) (s : State) : State := (s.setReg (pg + 0x008) 2).setReg (pg + 0x00C) 0

/-- The pages of a range are not READY. -/
def unready (base n : Nat) (s : State) : State := forN n (fun i a => a.setReg (base + i * 0x1000 + 0x00C) 0) s

/-- Free every semaphore and break every barrier at which a thread waits: a reset of the SEM page. (DEDUCED, log 13.) -/
def semReset (s : State) : State :=
  let s1 := (s.fct.arrived.map (·.1)).foldl (fun a b => barBreak b a) s
  let keys := s1.fct.sems.map (·.1)
  keys.foldl (fun a n => semPass n (a.setSem n { waiters := (a.sem n).waiters })) s1

/-- Reset of a cluster with its engines, as its parts (R51). -/
def clusterFall (c : Nat) (s : State) : State := clusterReset c (forN 8 (fun i => engineReset (8 * c + i)) s)

/-- A reset stops the MRAM's work: of a journalled write under way it is open how far the journal entry had been written, so that the
entry may be absent, torn or whole (R885, R886); a remap and the writes it holds are dropped. (DESIGN CHOICE, log 94.) -/
def journalCut (s : State) : State :=
  let clear (t : State) : State := { t with mrm := { t.mrm with active := none, waiting := [], remap := none, remapQ := [], heldWr := [] } }
  match s.mrm.active with
  | none => clear s
  | some w =>
    let f := s.freeVal % 3
    let t := clear s.nextFree
    if f = 0 then t
    else { t with mrm := { t.mrm with journal := { valid := true, crcOk := decide (f = 2), dst := w.dst, data := w.data } } }

/-- The state of a block beside its registers returns to what it is after reset; what the reset does to other blocks is done. -/
def blockReset (k : PageKind) (inst : Nat) (s : State) : State :=
  match k with
  | .sys | .lcs | .clk | .nav | .evt | .mtx | .svc => s
  | .pwr => s
  | .geo => s
  | .bdr =>                                                                     -- R84, R141, R308, R532
    let s1 := asyHwMove .unset (missAllTimeReset (ppsBdrReset s))
    { s1 with bdr := Bdr.reset s1.bt }
  | .act =>                                                                     -- R119
    let drop (r : MtxReq) : MtxReq := match r.reply with
      | .slot _ => { r with reply := .plain }
      | _ => r
    { s with act := { Act.reset with pulses := s.act.pulses.map (fun p => { p with counted := false }) }, mtx := s.mtx.map drop, thisCyc := { s.thisCyc with taken := [], judge := [] } }
  | .asy => { (asyMove .unset s).1 with
      asy := Asy.reset s.bt, thisCyc := { s.thisCyc with asyBase := none, asyHw := none, asyCmd := none } }
  | .ref => { deselectAll s with ref := Ref.reset }
  | .dpl => let s1 := setDplSt inst .freerun s
            { s1 with dpl := s1.dpl.erase inst }
  | .syn => let s1 := setSyn inst .idle s
            { s1 with syn := s1.syn.erase inst }
  | .out => { s with outs := { s.outs with sync := 0, align := [] } }
  | .pps =>
    let s1 := forN 4 (fun n a => if (a.ppsS n).active then a.emit (.pin ("PPS_OUT" ++ toString n) false) else a) s
    { s1 with outs := { s1.outs with pps := [] } }
  | .tdc => { s with tdc := { Tdc.reset with gates := s.tdc.gates.map (fun p => (p.1, { p.2 with lvl := p.2.pin, prev := p.2.pin })) } }
  | .gns =>                                                                     -- R325, R352
    let s1 := (s.gns.chs.map (·.1)).foldl (fun a c => gchStop c a) s
    let s2 := if s1.rb Reg.GNS_SIF_CFG 0 then (s1.emit (.pin "GNSS_SCLK" false)).emit (.pin "GNSS_FRM" false) else s1
    let s3 := forN 4 (fun a t => if t.rb Reg.GNS_APWR a then t.emit (.pin ("ANT_PWR_EN" ++ toString a) false) else t) s2
    { s3 with gns := { s3.gns with trainAt := none, antLow := [], lastEpoch := none, down := [], lastEco := none } }
  | .acq => { s with gns := { s.gns with acq := Gns.reset.acq } }
  | .gch => let s1 := acqWithdraw inst s
            { s1 with gns := { s1.gns with chs := s1.gns.chs.erase inst } }
  | .ant => { s with ant := Ant.reset }
  | .prt =>                                                                     -- R532, R536
    let s1 := missWhere (inst / 4) .mode (fun x => decide (x.port = inst)) s
    let s2 := truncWhere (inst / 4) (fun x => decide (x.port = inst)) s1
    { s2 with prt := s2.prt.erase inst }
  | .mgmt => { s with prt := s.prt.erase 16 }
  | .tsu =>                                                                     -- R532
    let s1 := missWhere inst .disabled (fun _ => true) s
    { s1 with tsu := { s1.tsu with slots := s1.tsu.slots.clearRange (2048 * inst) 2048,
                                   lanes := s1.tsu.lanes.clearRange (8 * inst) 8, temp := s1.tsu.temp.erase inst,
                                   lostAt := s1.tsu.lostAt.clearRange (4 * inst) 4 } }
  | .sch => { s with sch := { Sch.reset with pinLow := s.sch.pinLow, refillAt := s.bt } }
  | .pol => { s with pol := { Pol.reset with refillAt := s.bt } }
  | .qry => { s with
      badWords := s.badWords.clearRange (2 ^ 45) (2 ^ 40)
      svc := { s.svc with seeds := none, cache := [], cdata := [], flushAt := none, clearAt := none, seedTry := s.bt } }
  | .key => { s with key := { s.key with lode := none, staged := none, accepted := none, committing := none, cache := [] } }  -- R748
  | .trn => { s with trn := { Trn.reset with reseedAt := s.bt } }
  | .cry => { s with cry := [] }
  | .mate => { driveActive false s with
      mate := { Mate.reset s.bt with activeLow := s.mate.activeLow } }
  | .flt => { s with flt := { s.flt with timers := [], forceBad := [], escs := [], acts := [] } }
  | .pmu => { s with flt := { s.flt with counters := [], pmuSel := [] } }
  | .sem => semReset s
  | .ddr => { s with ddr := AMap.set { } s.ddr inst { AMap.get { } s.ddr inst with training := false, tracked := [] } }
  | .mrm => journalCut s
  | .pci => { s with pci := { s.pci with running := [], rr := 3 } }
  | .lsp => { s with lsp := { Lsp.reset with gpioIn := s.lsp.gpioIn } }
  | .clu => clusterFall inst s
  | .qdr => forN 16 (fun i a => if 16 * inst + i = 63 then a else clusterFall (16 * inst + i) a) s
  | .eng => engineReset inst s

/-- What the pages of other blocks show again after a reset: levels of pins, raised sources and driven outputs. (DEDUCED, log 13.) -/
def afterWipe (k : PageKind) (inst : Nat) (old s : State) : State :=
  match k with
  | .lcs => if s.lcs.owner.isNone then s.resetRegs (Reg.LCS_OWNER 0) 0x20 else s     -- R786
  | .sys => s.setReg Reg.SYS_COMPAT (if s.pwr.strapB4 then 3 else 0)              -- R36
  | .act => wipePages 0x20000 0x10000 s                                          -- the slot window (R102)
  | .tdc => s.setRb Reg.TDC_GSTAT 0 (old.rb Reg.TDC_GSTAT 0)                      -- R441: the level of OCXO_RDY
  | .mate => (s.setRb Reg.MATE_STAT 4 s.pwr.strapPref).setRf Reg.MATE_STAT 9 2 (old.rf Reg.MATE_STAT 9 2)   -- R819
  | .flt =>                                                                       -- R822: a raised source stays raised
    forN 384 (fun n a => if old.rb (Reg.FLT_SRC n) 31 then a.setRb (Reg.FLT_SRC n) 31 true else a) s
  | .syn | .out => outsUpdate (ptxCheck s)
  | .dpl => dplOutputs s
  | .ref => entEvalAll s
  | .prt => entEval (16 + inst) (s.setRb (Reg.PRT_LINK inst) 4 (s.portActive inst && s.ptxRun (inst / 4)))
  | .gch | .gns | .ant => entEval 41 (entEval 40 s)
  | .clu => unready (Reg.ENG (8 * inst)) 8 (wipePages (Reg.ENG (8 * inst)) 0x8000 s)
  | .qdr =>
    let nc := if inst = 3 then 15 else 16
    let s1 := wipePages (Reg.CLU (16 * inst)) (nc * 0x1000) s
    let s2 := wipePages (Reg.ENG (128 * inst)) (nc * 0x8000) s1
    unready (Reg.ENG (128 * inst)) (8 * nc) (unready (Reg.CLU (16 * inst)) nc s2)
  | .pwr | .geo | .clk | .nav | .evt | .mtx | .svc | .bdr | .asy | .pps | .acq | .mgmt | .tsu | .sch | .pol | .qry
  | .key | .trn | .cry | .pmu | .sem | .ddr | .mrm | .pci | .lsp | .eng => s

/-- Reset the page of a block, with its children (R28, R51). It stays in reset until its wipe has ended; the sums are recomputed
(R873). (DEDUCED, log 13.) -/
def pageReset (k : PageKind) (inst : Nat) (s : State) : State :=
  match pageTable.find? (fun p => p.kind == k) with
  | none => s
  | some p =>
    let pg := p.base + inst * 0x1000
    (beginReset pg (afterWipe k inst s (beginReset pg (wipePage k pg (blockReset k inst s))))).setRb Reg.MTX_STAT 0 true

/-- Reset every page of a kind. -/
def kindReset (k : PageKind) (n : Nat) (s : State) : State := forN n (pageReset k) s

/-- A DOM code names a domain that can be reset, or none (R830). -/
def domOk (d : Nat) : Bool :=
  decide (3 ≤ d ∧ d ≤ 6) || decide (9 ≤ d ∧ d ≤ 36) || decide (d = 39) || decide (d = 63)

/-- Reset the pages of a clock domain (R830). -/
def domainReset (d : Nat) (s : State) : State :=
  if 3 ≤ d ∧ d ≤ 6 then
    let s1 := pageReset .qdr (d - 3) s
    if d = 6 then pageReset .clu 63 s1 else s1
  else if d = 9 ∨ d = 10 then pageReset .ddr (d - 9) s
  else if 11 ≤ d ∧ d ≤ 14 then
    pageReset .tsu (d - 11) (forN 4 (fun i => pageReset .prt (4 * (d - 11) + i)) s)
  else if 15 ≤ d ∧ d ≤ 30 then
    let p := d - 15
    let s1 := ((s.resetRegs (Reg.PRT_STATS p 0) 0xC8).resetRegs (Reg.PRT_ESMC_RX p) 4).setRf (Reg.PRT_LINK p) 16 16 0
    { s1 with prt := AMap.set { } s1.prt p { AMap.get { } s1.prt p with esmcSec := 0, esmcCnt := 0 } }
  else if d = 31 ∨ d = 32 then pageReset .mate 0 s
  else if d = 33 then pageReset .mgmt 0 s
  else if d = 34 ∨ d = 35 then
    pageReset .ant 0 (kindReset .gch 256 (pageReset .nav 0 (pageReset .acq 0 (pageReset .gns 0 s))))
  else if d = 36 then
    let s1 := s.resetRegs Reg.QSPI_CFG 0x18
    { s1 with lsp := { s1.lsp with qspi := none } }
  else if d = 39 then
    pageReset .pps 0 (pageReset .out 0 (kindReset .syn 4 (kindReset .dpl 8 (pageReset .ref 0 s))))
  else s

/-- Ranges of BAR0 that a chip reset keeps (R742, R831, R881, R913, R922, R927); DRAM retirement is kept by a warm one (R920). -/
def chipKept (cold : Bool) : List (Nat × Nat) :=
  [(Reg.GEO + 0x040, 0xFC0), (Reg.FLT_RSTCAUSE, 0x10), (Reg.PWR_RSTCAUSE, 4), (Reg.LCS_STATE, 4), (Reg.LCS_OWNER 0, 0x20), (Reg.KEY_CSW, 4),
   (Reg.MRM_RO 0, 0x10), (Reg.MRM_WEAR 0, 0x100)] ++
  (if cold then [] else [(Reg.DDR_RET 0 0, 0x400), (Reg.DDR_RET 1 0, 0x400)])

/-- A channel has been trained (R919). -/
def State.ddrTrained (s : State) (ch : Nat) : Bool := s.rb (Reg.DDR_STAT ch) 0 || s.rb (Reg.DDR_STAT ch) 1

/-- A reset of the BDR page ends: served time is Bedrock from then on, and ANCH is the cycle in which it ends (R84, R95). -/
def bdrLeave (s : State) : State := { s with bdr := Bdr.reset s.bt }.setRegN Reg.BDR_ANCH s.bt.toNat 3

/-- The device in a chip reset: memories wiped, registers at their reset values but for what the reset keeps, Bedrock running on
(R66, R917 to R920), every output as after reset (R953). It stays held until its boot. -/
def chipReset (cold : Bool) (s0 : State) : State :=
  let warm := s0.rb Reg.TDC_GSTAT 0
  let s := journalCut s0
  let s1 : State :=
    { State.reset with
      bt := s.bt, btRun := s.btRun, dram := s.dram, mram := s.mram, free := s.free, out := s.out,
      bdr := Bdr.reset s.bt, asy := Asy.reset s.bt,
      mate := { Mate.reset s.bt with activeLow := s.mate.activeLow },
      badWords := s.badWords.filter (fun p => decide (2 ^ 40 + eaMram ≤ p.1) && decide (p.1 < 2 ^ 41) && (decide (2 ^ 40 + eaDram ≤ p.1) || decide (p.1 < 2 ^ 40 + eaPages))),
      ddr := s.ddr.map (fun p => (p.1, { p.2 with training := false, zeroed := p.2.zeroed && !cold, tracked := if cold then [] else p.2.tracked })),
      mrm := s.mrm,
      pci := { Pci.reset with linkUp := s.pci.linkUp, perst := s.pci.perst },
      lsp := { Lsp.reset with gpioIn := s.lsp.gpioIn },
      tdc := { Tdc.reset with gates := s.tdc.gates.map (fun p => (p.1, { p.2 with lvl := p.2.pin, prev := p.2.pin })) },
      sch := { Sch.reset with pinLow := s.sch.pinLow, refillAt := s.bt },
      pol := { Pol.reset with refillAt := s.bt },
      trn := { Trn.reset with reseedAt := s.bt },
      key := { Key.reset with slots := s.key.slots, mramCtr := s.key.mramCtr, geoCtr := s.key.geoCtr },
      flt := { Flt.reset with chipRst := s.flt.chipRst && !cold },
      lcs := s.lcs, geo := s.geo,
      pwr := { s.pwr with held := true, bootPend := true, coldPend := cold, entering := false, exiting := false, wakeHeld := false, wakeAt := none },
      pending := s.pending }
  let s2 := (chipKept cold).foldl (fun a r => copyRegs s.regs r.1 r.2 a) s1
  let s3 := if s2.lcs.owner.isNone then s2.resetRegs (Reg.LCS_OWNER 0) 0x20 else s2
  let s4 := if cold then s3 else forN 2 (fun ch a => a.setRb (Reg.DDR_STAT ch) 1 (s0.ddrTrained ch)) s3
  ((s4.setRb Reg.TDC_GSTAT 0 warm).setReg Reg.SYS_COMPAT (if s0.pwr.strapB4 then 3 else 0)).emit (.allPins false)

end Sys2Proof.Machine
end

