-- ==== Sys2Proof/Machine/Faults.lean ====
section
/-! DEFINITION. Faults: how a source rises and falls, what the collector does about it, and what each fault does to the block that
reports it (R822 to R834). -/
namespace Sys2Proof.Machine

/-! ### The scheduler's halt (R735) -/

/-- The scheduler is halted (R735). -/
def State.schHalted (s : State) : Bool := s.sch.pinLow || s.rb Reg.SCH_CTL 0

/-- Show the pin and the halt in SCH_STAT; a change raises HALT (R735). -/
def showHalt (s : State) : State :=
  let w := BitVec.ofNat 32 (b2n s.sch.pinLow + 2 * b2n s.schHalted)
  if s.reg Reg.SCH_STAT = w then s else raiseEvt Reg.SCH 0 (s.setReg Reg.SCH_STAT w)

/-! ### DRAM as a target (R874, R913, R919) -/

/-- A DRAM channel is trained and not in self-refresh (R919, R920). -/
def State.ddrUp (s : State) (ch : Nat) : Bool := s.rb (Reg.DDR_STAT ch) 0 && !s.rb (Reg.DDR_STAT ch) 1

/-- n bytes at a DRAM offset are populated, and the channels that hold them answer (R874, R919). -/
def State.dramOk (s : State) (o n : Nat) : Bool :=
  decide (o + n ≤ s.dramSize) && (s.ddrUp (o / 256 % 2)) && (decide (o / 256 = (o + n - 1) / 256) || (s.ddrUp 0 && s.ddrUp 1))

/-- n bytes at an engine address lie in shared SRAM, or in DRAM that answers. -/
def State.sharedOk (s : State) (a n : Nat) : Bool := inSram a n || (inDram a n && s.dramOk (a % eaDram) n)

/-- A word in a memory at an engine address has wrong check bits (R833). -/
def State.memBad (s : State) (ea n : Nat) : Bool :=
  s.wordBad (2 ^ 40) ea n

/-! ### Sources -/

/-- Some FLT_RAW bit of source n is 1 (R822). -/
def State.srcRaised (s : State) (n : Nat) : Bool :=
  s.regs.any (fun p => decide (p.1 % 0x1000 = 0x020) && decide (p.1 < 0x480000) &&
    (List.range 32).any (fun i => bit p.2 i && decide (fltNo (p.1 - 0x020) i = some n)))

/-- The severity the collector uses: CRITICAL for every source while FLT STORE is set (R834). -/
def State.sevNow (s : State) (n : Nat) : Nat := if s.fltBit Reg.FLT 0 then 3 else s.rf (Reg.FLT_SRC n) 0 2

/-- Drive FAULT_N: low while a raised source's severity is at or above PIN_SEV, and throughout a CHIP_RESET taken as an action (R829). -/
def showPin (s : State) : State :=
  let low := s.flt.chipRst ||
    s.regs.any (fun p => decide (Reg.FLT_SRC 0 ≤ p.1 ∧ p.1 ≤ Reg.FLT_SRC 383) && bit p.2 31 &&
      decide (s.rf Reg.FLT_CFG 0 2 ≤ s.sevNow ((p.1 % 0x1000 - 0x400) / 4)))
  if s.flt.faultN = !low then s
  else { s with flt := { s.flt with faultN := !low } }.emit (.pin "FAULT_N" (!low))

/-- A source falls: its flags clear, its timer is cancelled and it no longer holds GOOD at 0 (R824 to R826). -/
def srcFall (n : Nat) (s : State) : State :=
  let s1 := s.setRf (Reg.FLT_SRC n) 29 3 0
  showPin { s1 with flt := { s1.flt with timers := AMap.set none s1.flt.timers n none, forceBad := s1.flt.forceBad.filter (fun k => decide (k ≠ n)) } }

/-- Let every raised source fall whose FLT_RAW bits have cleared (R822). -/
def fltSync (s : State) : State :=
  (s.regs.filter (fun p => decide (Reg.FLT_SRC 0 ≤ p.1 ∧ p.1 ≤ Reg.FLT_SRC 383) && bit p.2 31)).foldl
    (fun a p => let n := (p.1 % 0x1000 - 0x400) / 4
                if a.srcRaised n then a else srcFall n a) s

/-! ### Actions (R824, R828) -/

/-- The journal record written before an engine domain or the chip is reset (R832). A record that cannot be completed, because DRAM
does not answer, is abandoned. (DEDUCED, log 33.) -/
def journalSave (n act dom : Nat) (s : State) : State :=
  let v := s.regN Reg.FLT_JSAVE 2
  let a := v - v % 2 ^ 14
  if v % 2 = 0 ∨ ¬ inDram a 8224 ∨ ¬ s.dramOk (a % eaDram) 8224 then s
  else
    let head := bytesLE 4 0x4C4E524A ++ bytesLE 2 n ++ bytesLE 1 act ++ bytesLE 1 dom ++ bytesLE 12 s.now.toNat ++ List.replicate 12 0
    s.sharedWr a (head ++ (List.range 2048).flatMap (fun k => bytesLE 4 (s.th k).jrnl.toNat))

/-- The warm reset of a fault action (R831, R922). (DEDUCED, log 13.) -/
def faultChipReset (n act dom : Nat) (s : State) : State :=
  let s1 := s.setReg Reg.FLT_RSTCAUSE (BitVec.ofNat 32 (n + act * 2 ^ 12 + dom * 2 ^ 16 + 2 ^ 31))
  let s2 := (s1.setRegN Reg.FLT_RSTWT s1.now.toNat 3).setReg Reg.PWR_RSTCAUSE 2
  let s3 := journalSave n act dom s2
  let s4 := chipReset false { s3 with flt := { s3.flt with chipRst := true } }
  showPin (raiseEvt Reg.FLT 3 s4)

/-- A DOMAIN_RESET taken as an action (R830, R832). -/
def faultDomainReset (n dom : Nat) (s : State) : State :=
  let s1 := if 3 ≤ dom ∧ dom ≤ 6 then journalSave n 4 dom s else s
  fltSync (domainReset dom s1)

/-- The effect of an action code for source n (R824). -/
def actEffect (code n : Nat) (s : State) : State :=
  let dom := s.rf (Reg.FLT_SRC n) 16 6
  let s1 := raiseEvt Reg.FLT 0 s
  match code with
  | 0 => s
  | 1 => s1
  | 2 => raiseEvt Reg.FLT 2 (mateIsolate .faultAction (showHalt (s1.setRb Reg.SCH_CTL 0 true)))
  | 3 =>
    match s1.mrole with
    | .solo | .isolated => s1
    | .active | .standby => trackGood (if s1.rb (Reg.FLT_SRC n) 31 then { s1 with flt := { s1.flt with forceBad := insNat s1.flt.forceBad n } } else s1)
  | 4 => if dom = 63 then faultChipReset n 4 dom s1 else faultDomainReset n dom s1
  | _ => faultChipReset n 5 dom s1

/-- An action is due for source n; which of the actions of one cycle are taken is settled at its end (R828). -/
def takeAction (code n : Nat) (s : State) : State := { s with flt := { s.flt with acts := (n, code) :: s.flt.acts } }

/-- The strength of an action of source n: DOMAIN_RESET of no domain acts as CHIP_RESET (R828, R830). -/
def State.actRank (s : State) (x : Nat × Nat) : Nat := if x.2 = 4 ∧ s.rf (Reg.FLT_SRC x.1) 16 6 = 63 then 5 else x.2

/-- Of the actions of one cycle, those to take, in ascending source number: the strongest, a DOMAIN_RESET for each domain named, and
MATE_HANDOVER for each source, which each hold GOOD at 0 (R824, R828). -/
def State.actsToTake (s : State) : List (Nat × Nat) :=
  let top := (s.flt.acts.map s.actRank).foldl max 0
  let l := (List.range 384).flatMap (fun n => s.flt.acts.filter (fun x => decide (x.1 = n) && decide (s.actRank x = top)))
  match top with
  | 3 => l
  | 4 => l.foldl (fun a x => if a.any (fun y => decide (s.rf (Reg.FLT_SRC y.1) 16 6 = s.rf (Reg.FLT_SRC x.1) 16 6)) then a else a ++ [x]) []
  | _ => l.take 1

/-- Take the strongest of the actions of the cycle; FLT_LAST records the lowest-numbered source of them (R828). -/
def takeActions (s : State) : State :=
  let l := s.actsToTake
  let s0 := { s with flt := { s.flt with acts := [] } }
  let s1 := match l with
    | (n, code) :: _ => if code = 0 then s0 else s0.setReg Reg.FLT_LAST (BitVec.ofNat 32 (n + s.sevNow n * 2 ^ 10 + code * 2 ^ 12 + 2 ^ 31))
    | [] => s0
  let s2 := (l.filter (fun x => decide (s.sevNow x.1 = 3))).foldl (fun a _ => a.count Reg.FLT_CNT_CRIT) s1
  l.foldl (fun a x => actEffect x.2 x.1 a) s2

/-- The action programmed for a severity: that of R834 while FLT STORE is set (R823, R850). -/
def State.actFor (s : State) (sev : Nat) : Nat :=
  if s.fltBit Reg.FLT 0 then 2
  else s.rf Reg.FLT_ACT (4 * sev) 3

/-- The CRITICAL action of a source (R823). -/
def critAct (n : Nat) (s : State) : State := takeAction (s.actFor 3) n s

/-- Start the escalation timer of a source (R825). -/
def startTimer (n : Nat) (s : State) : State :=
  { s with flt := { s.flt with timers := AMap.set none s.flt.timers n (some s.bt) } }

/-- A source rises: it is shown, counted, and the collector acts by its severity (R822 to R824). -/
def srcRise (n : Nat) (s : State) : State :=
  let s1 := showPin (pmuChip 0x11 0 (s.setRf (Reg.FLT_SRC n) 29 3 4))
  match s1.sevNow n with
  | 0 => takeAction (s1.actFor 0) n s1
  | 1 => takeAction (s1.actFor 1) n s1
  | 2 => startTimer n (raiseEvt Reg.FLT 0 s1)
  | _ => critAct n s1

/-- Set a FLT_RAW bit of the page at a base; its source rises unless it was raised (R822). -/
def raiseFlt (pg i : Nat) (s : State) : State :=
  let s1 := s.hwSet (pg + 0x020) i
  match fltNo pg i with
  | none => s1
  | some n => if s1.rb (Reg.FLT_SRC n) 31 then s1 else srcRise n s1

/-- The escalation timer of a source expires unacknowledged: the MAJOR action (R825). -/
def escalate (n : Nat) (s : State) : State :=
  let s1 := { s with flt := { s.flt with timers := AMap.set none s.flt.timers n none } }
  let s2 := raiseEvt Reg.FLT 1 ((s1.setRb (Reg.FLT_SRC n) 29 true).count Reg.FLT_CNT_ESC)
  takeAction (s2.actFor 2) n s2

/-- The escalation timer of source n has run out without an acknowledgement (R825). -/
def State.escDue (s : State) (n : Nat) : Bool :=
  match AMap.get none s.flt.timers n with
  | none => false
  | some b => s.elapsed b (1000 * s.rf Reg.FLT_ESC 0 20) && !s.rb (Reg.FLT_SRC n) 30 && decide (s.sevNow n = 2)

/-- The escalation timer of source n expires: the source escalates at the end of the cycle, unless it is acknowledged in it (R825,
R826). (DEDUCED, log 90.) -/
def escalateDue (n : Nat) (s : State) : State :=
  if s.escDue n then { s with flt := { s.flt with escs := insNat s.flt.escs n } } else s

/-- The end of a cycle for the fault collector: sources escalate, and of the actions due the strongest are taken (R825, R826, R828).
(DEDUCED, log 90.) -/
def endFaults (s : State) : State :=
  let s1 := s.flt.escs.foldl (fun a n => if a.escDue n then escalate n a else a) { s with flt := { s.flt with escs := [] } }
  if s1.flt.acts.isEmpty then s1 else takeActions s1

/-! ### What a fault does to its block -/

/-- Set the role by the MATE fault STATE_PAR (R804). -/
def mateStatePar (s : State) : State := setRole .isolated .faultAction s

/-- A port's link state changes: PRT_LINK.LINK_UP and the LINK event; a loss cuts the frame on the line short, and entry 16 + p
follows (R461, R463, R483, R490). -/
def setLink (p : Nat) (up : Bool) (s : State) : State :=
  let a := if p = 16 then Reg.MGMT_STAT else Reg.PRT_LINK p
  let pg := if p = 16 then Reg.MGMT else Reg.PRT p
  let i := if p = 16 then 0 else 3
  if s.rb a i = up then s
  else
    let s0 := s.setRb a i up
    let s1 := raiseEvt pg 0 (if up then s0 else cutShort p s0)
    if p = 16 then s1 else entEval (16 + p) s1

/-- The effect of a fault on its block, once its bit is set. -/
def faultEffect (k : PageKind) (inst i : Nat) (s : State) : State :=
  match k, i with
  | .asy, 0 => asyWithdraw s                                                      -- R177
  | .bdr, 0 => missAllTimeReset (asyWithdraw s)                                   -- R141, R532
  | .mate, 4 => mateStatePar s                                                    -- R804
  | .prt, 1 => setLink inst false s                                               -- R504
  | .out, 0 => outsUpdate s                                                       -- R317
  | .pps, 0 => ppsStopAll s                                                       -- R321
  | .ref, 0 => refTable s                                                         -- R222
  | .dpl, 0 => dplEval inst s                                                     -- R236, R270
  | .gch, 0 => gchLose inst s                                                     -- R352
  | .ant, 0 => antRefresh s                                                       -- R426
  | .sem, 0 => s
  | .mtx, 1 => s.setRb Reg.MTX_STAT 0 true                                        -- R906
  | .key, 2 => { s with key := { s.key with cache := [] } }                       -- R793
  | _, _ => s

/-- A fault of a page is raised, with its effects. -/
def fault (k : PageKind) (inst i : Nat) (s : State) : State :=
  match pageTable.find? (fun p => p.kind == k) with
  | none => s
  | some p => faultEffect k inst i (raiseFlt (p.base + inst * 0x1000) i s)

/-- Reset a page, letting the sources of its faults fall (R830). -/
def resetPage (k : PageKind) (inst : Nat) (s : State) : State := fltSync (pageReset k inst s)

end Sys2Proof.Machine
end

