-- ==== Sys2Proof/Machine/Inject.lean ====
section
/-! DEFINITION. INJECT for the stores that a block checks in every cycle (R833): the register stores of a page and the state that a block
writes for itself. The memories and queues with check bits of their own note theirs where they are written. -/
namespace Sys2Proof.Machine

/-- The store that a register of a page lies in: the INJECT bit that acts on it, the fault that its checker raises, and whether the block
uses it in every cycle (R221, R313, R317, R426, R452, R504, R597, R708, R739, R741, R834, R856). (DEDUCED, log 21, 83.) -/
def injStore (k : PageKind) (off : Nat) : Option (Nat × Nat × Bool) :=
  let within (lo hi : Nat) : Bool := decide (lo ≤ off) && decide (off < hi)
  match k with
  | .ref => if within 0x080 0x100 || within 0x200 0x800 then some (0, 0, true) else none
  | .syn => if within 0x100 0x200 then some (0, 1, true) else none
  | .out => some (0, 0, true)
  | .ant =>
    if within 0x040 0x048 || within 0x180 0x400 || within 0x440 0x460 then some (0, 0, true) else none
  | .tdc | .prt => some (1, 1, true)
  | .qry | .svc => some (1, 1, true)
  | .sch | .pol | .flt | .evt | .pmu | .sem => some (0, 0, true)
  | .bdr | .asy | .dpl | .pps => if off = 0xFFC then some (0, 0, true) else none
  | .sys | .lcs | .pwr | .geo | .clk | .act | .gns | .acq | .nav | .tsu | .mgmt | .key | .trn | .cry | .mate | .mtx | .ddr | .mrm
  | .pci | .lsp | .gch | .clu | .qdr | .eng => none

/-- The page whose INJECT and FLT_RAW serve a page: the Quarry page serves both QRY pages (R708). -/
def checkPage (k : PageKind) : PageKind := if k = .svc then .qry else k

/-- The base of page i of a kind. -/
def pageOf (k : PageKind) (i : Nat) : Nat :=
  match pageTable.find? (fun p => p.kind == k) with
  | some p => p.base + i * 0x1000
  | none => 0

/-- A word of a store is written: its check bits are wrong while INJECT inverts them, and a store in use finds that at once (R833).
(DEDUCED, log 21.) -/
def storeMark (k : PageKind) (inst off : Nat) (s : State) : State :=
  match injStore k off with
  | none => s
  | some (b, f, now) =>
    let c := checkPage k
    let bad := s.inject (pageOf c inst) b
    let s1 := { s with badWords := AMap.set false s.badWords (pageOf k inst + off) bad }
    if bad && now then fault c inst f s1 else s1

/-- State that a block holds beside its registers is written (R101, R176, R270, R321). -/
def storeWrite (k : PageKind) (inst : Nat) (s : State) : State := storeMark k inst 0xFFC s

/-- The sum store is written when a configuration-class register changes (R871, R872, R906). (DEDUCED, log 23.) -/
def sumMark (a : Nat) (r : RegRow) (old s : State) : State :=
  if r.cfg && s.inject Reg.MTX 0 && (s.reg a != old.reg a) then fault .mtx 0 1 s else s

/-- A register has been written: what INJECT makes of it. (DEDUCED, log 21.) -/
def injectNote (a : Nat) (old s : State) : State :=
  match pageAt a with
  | none => s
  | some (p, inst, off) =>
    match rowAt p.kind off with
    | none => s
    | some (r, _, _, w) =>
      if (r.rw = 0 ∧ r.rwl = 0) ∨ w + 1 < r.words then s else storeMark p.kind inst off (sumMark a r old s)

/-- Clearing a fault flag while the store still holds a bad word that is in use: the checker finds it again (R833). (DEDUCED, log 21.) -/
def recheckBad (k : PageKind) (inst : Nat) (s : State) : State :=
  let look (j : PageKind) (t : State) : State :=
    let pg := pageOf j inst
    (t.badWords.filter (fun e => e.2 && decide (pg ≤ e.1) && decide (e.1 < pg + 0x1000))).foldl (fun x e =>
      match injStore j (e.1 - pg) with
      | some (_, f, true) => if x.fltBit (pageOf k inst) f then x else fault k inst f x
      | _ => x) t
  if k = .qry then look .svc (look .qry s) else look k s

end Sys2Proof.Machine
end

