-- ==== Sys2Proof/Machine/Cmd.lean ====
section
/-! DEFINITION. How a command runs: as a write or read of a register by a master, as something that happens to a block, or as
something a block does by itself; and how a change of the time status reaches the loops in the cycle of the change. -/
namespace Sys2Proof.Machine

/-- A change of the time status between s and t reaches the STEER loops, and ends TRC of the history intervals
(R236, R263). -/
def tsReach (s t : State) : State :=
  if t.asy.ts = s.asy.ts then t
  else dplEvalAll (forN 8 (fun l a => a.setDpl l { a.dplS l with hTrc := false }) t)

/-- The words of the entry and loop store that REF writes itself: CUR of the loops, and STAT, QWORD and FOFS of the entries (R212, R221). -/
def refOwnWords : List Nat :=
  (List.range 8).map (fun l => 0x08C + 16 * l) ++ (List.range 48).flatMap (fun e => [0x214 + 32 * e, 0x218 + 32 * e, 0x21C + 32 * e])

/-- What the store of a loop holds (R270), with the point of the update that wrote it. -/
def Dpl.stored (x : Dpl) : Int × Int × Int × Int × Int × Nat := (x.p, x.y, x.h, x.u, x.build, x.bprev)

/-- A store that a block writes for itself is in hand: a checker of REF or of a loop inverts parity, or some word is bad. -/
def State.storeWatch (s : State) : Bool :=
  !s.badWords.isEmpty || s.inject Reg.REF 0 || (List.range 8).any (fun l => s.inject (Reg.DPL l) 0)

/-- What REF and the loops have written of their own stores between s and t meets INJECT (R221, R270, R833). (DEDUCED, log 21.) -/
def ownStores (s t : State) : State :=
  if t.storeWatch = false then t
  else
    let r := refOwnWords.foldl (fun a o => if t.reg (Reg.REF + o) = s.reg (Reg.REF + o) then a else storeMark .ref 0 o a) t
    forN 8 (fun l a => if (t.dplS l).stored = (s.dplS l).stored then a else storeWrite .dpl l a) r

/-- What a change between s and t brings about in the same cycle elsewhere. -/
def settle (s t : State) : State := ownStores s (tsReach s t)

/-- A write arrives as a command of its own; f is what the register does with the word that arrives. -/
def cmdW (m : Master) (a : Nat) (v : Word) (f : Word → State → State) (s : State) : Host.Outcome State Fault Refusal :=
  .next (settle s (regW m a v (fun t => injectNote a t (f (t.underCal m a v) (t.calStaged m a))) s))

/-- A read arrives as a command of its own: what it reads is given to the master. -/
def cmdRd (m : Master) (a : Nat) (f : State → Word × State) (s : State) : Host.Outcome State Fault Refusal :=
  .next (regR m a (fun t => (f t).2.emit (.readData m a (f t).1)) s)

/-- Something happens to a block: it has its effect while the device runs, the block's clock runs and no reset holds it.
(DEDUCED, log 16.) -/
def cmdE (pg : Nat) (f : State → State) (s : State) : Host.Outcome State Fault Refusal :=
  .next (if s.pageLive pg then settle s (f s) else s)

/-- A block acts by itself: not while it is frozen at its safe point either (R26, R27). (DEDUCED, log 16.) -/
def cmdT (pg : Nat) (f : State → State) (s : State) : Host.Outcome State Fault Refusal :=
  .next (if s.pageLive pg && !s.pgFrozen pg then settle s (f s) else s)

/-- Something happens that needs only the running device. (DEDUCED, log 16.) -/
def cmdA (f : State → State) (s : State) : Host.Outcome State Fault Refusal :=
  .next (if s.alive then settle s (f s) else s)

end Sys2Proof.Machine
end

