-- ==== Sys2Proof/Machine/Act.lean ====
section
/-! DEFINITION. The action calendar: arming, disarming, taking and outcomes (R102 to R115, R118, R968). What an action does
stands in Machine/Action.lean. -/
namespace Sys2Proof.Machine

/-- A word of the slot window (R102): n is the slot, w the word. -/
def slotAddr (n w : Nat) : Nat := 0x20000 + 16 * n + 4 * w

/-- A slot. -/
def State.actSlot (s : State) (n : Nat) : Slot := AMap.get { } s.act.slots n
/-- Store a slot. -/
def State.setActSlot (s : State) (n : Nat) (x : Slot) : State :=
  { s with act := { s.act with slots := AMap.set { } s.act.slots n x } }

/-- The code of a slot state (R103). -/
def SlotState.code : SlotState → Nat
  | .empty => 0 | .armed => 1 | .applied => 2 | .notApplied => 3 | .refused => 4

/-- CTL as it reads (R103). -/
def Slot.ctl (x : Slot) : Word :=
  BitVec.ofNat 32 (x.typ.toNat * 2 ^ 28 + x.st.code * 2 ^ 24 + b2n x.lateOk * 2 ^ 23 + x.cond.toNat * 2 ^ 21 +
    b2n x.wasLate * 2 ^ 20 + x.reason.toNat * 2 ^ 16)

/-- Offset in shared SRAM of the parameter entry of a slot (R105). -/
def State.actParam (s : State) (n : Nat) : Nat := s.rf Reg.ACT_PBASE 16 9 * 65536 + 16 * n

/-- A word of the parameter entry of a slot. -/
def State.actParamW (s : State) (n w : Nat) : Word := s.sramW (s.actParam n + 4 * w)

/-- A WRITE address is allowed (R106). -/
def writeAllowed (a : Nat) : Bool :=
  decide (a % 4 = 0) && decide (a ≤ 0x7FFFFC) && !(decide (0x11000 ≤ a) && decide (a < 0x12000)) &&
    !(decide (0x20000 ≤ a) && decide (a < 0x30000))

/-- The first check that arming fails, by its REASON (R104, R108). (DEDUCED, log 28.) -/
def armRefusal (s : State) (n : Nat) (typ : BitVec 4) (cond : BitVec 2) : Option (BitVec 4) :=
  if 6 ≤ typ.toNat then some 7
  else if cond = 3 then some 8
  else if s.memBad (eaSram + s.actParam n) 16 then some 9
  else if typ = 1 ∧ writeAllowed (s.actParamW n 0).toNat = false then some 6
  else if typ = 2 ∧ fld (s.actParamW n 1) 0 20 = 0 then some 6
  else none

/-- Arm a slot with a CTL word (R108): its due time and its parameter entry are copied. -/
def actArm (n : Nat) (typ : BitVec 4) (lateOk : Bool) (cond : BitVec 2) (reversion : Bool) (s0 : State) : State :=
  let s := hoDrop n s0
  let x : Slot := { typ := typ, lateOk := lateOk, cond := cond }
  match armRefusal s n typ cond with
  | some r => raiseEvt Reg.ACT 3 ((s.setActSlot n { x with st := .refused, reason := r }).count Reg.ACT_CNT_REFUSED)
  | none =>
    let due : WT96 := BitVec.ofNat 96 (s.regN (slotAddr n 0) 3)
    let y := { x with st := .armed, due := due, w0 := s.actParamW n 0, w1 := s.actParamW n 1, w2 := s.actParamW n 2,
                      bad := s.inject Reg.ACT 0 }
    let s1 := s.setActSlot n y
    if typ = 5 then hoArm n due reversion s1 else s1

/-- The block takes slots: enabled and not frozen (R118, R968). -/
def State.actTakes (s : State) : Bool := s.pgEn Reg.ACT && !s.pgFrz Reg.ACT

/-- A slot is taken in this cycle, before or after what else comes about in it, or has been taken and awaits its outcome (R111,
R113, R114). -/
def State.slotGoing (s : State) (n : Nat) : Bool :=
  let x := s.actSlot n
  x.taken || s.thisCyc.taken.contains n || (decide (x.st = .armed) && s.actTakes && (x.bad || atOrAfter s.now x.due))

/-- A write of CTL (R108, R110, R114): with TYPE 0 it does nothing to a slot that has been taken, its outcome set or not. -/
def wrSlotCtl (n : Nat) (v : Word) (s : State) : State :=
  if s.slotGoing n then s
  else if fld v 28 4 = 0 then
    (if (s.actSlot n).st = .applied ∨ (s.actSlot n).st = .notApplied then s
     else hoDrop n (s.setActSlot n { lateOk := bit v 23, cond := bits v 21 2 }))
  else actArm n (bits v 28 4) (bit v 23) (bits v 21 2) false s

/-- A write of a word of the slot window (R19, R81, R102). -/
def wrSlotWord (m : Master) (n w : Nat) (v : Word) (s : State) : State :=
  match w with
  | 0 => s.setStaged m (slotAddr n 0) (some v)
  | 1 => s.setStaged m (slotAddr n 1) (some v)
  | 2 => (s.setRegN (slotAddr n 0) (s.commitWords m (slotAddr n 0) 3 v) 3).dropStaged m (slotAddr n 0) 3
  | _ => wrSlotCtl n v s

/-- What becomes of an access to the slot window: it goes with the ACT page (R28, R48, R119). -/
def slotGate (m : Master) (write : Bool) (s : State) : Gate := gate m Reg.ACT_DISARM write s

/-- A write of a word of the slot window by a master. -/
def slotW (m : Master) (n w : Nat) (v : Word) (s : State) : State :=
  match slotGate m true s with
  | .go => wrSlotWord m n w v s
  | .ignore | .wait => s
  | .err k => busErr m (slotAddr n w) k true s

/-- A write of ACT_DISARM: every ARMED slot not taken returns to EMPTY (R114, R120). (DEDUCED, log 28.) -/
def wrDisarm (v : Word) (s : State) : State :=
  if ¬ bit v 0 then s
  else
    (s.act.slots.map (·.1)).foldl (fun a n =>
      let x := a.actSlot n
      if x.st = .armed ∧ a.slotGoing n = false then hoDrop n (a.setActSlot n { x with st := .empty, reason := 0, wasLate := false })
      else a) s

/-! ### Taking and outcome (R111 to R115) -/

/-- Set the outcome of a slot: it is counted, shown and raised (R104, R113, R120, R121). -/
def slotEnd (n : Nat) (st : SlotState) (reason : BitVec 4) (s : State) : State :=
  let x := s.actSlot n
  let s1 := s.setActSlot n { x with st := st, reason := reason, taken := false, result := none }
  let s2 := if s1.rf Reg.ACT_LAST 0 12 = n then
      s1.setReg Reg.ACT_LAST (BitVec.ofNat 32 (n + reason.toNat * 2 ^ 16 + st.code * 2 ^ 24 + 2 ^ 31))
    else s1
  if st = .applied then raiseEvt Reg.ACT 0 (s2.count Reg.ACT_CNT_APPLIED)
  else raiseEvt Reg.ACT 1 (s2.count Reg.ACT_CNT_NOTAPP)

/-- A slot is taken in this cycle; ACT_LAST names it. -/
def showTaken (n : Nat) (s : State) : State :=
  { s with thisCyc := { s.thisCyc with taken := insNat s.thisCyc.taken n } }.setReg Reg.ACT_LAST (BitVec.ofNat 32 (n + 2 ^ 24 + 2 ^ 31))

/-- COND is met in the present time status (R103). -/
def State.condOk (s : State) (c : BitVec 2) : Bool :=
  if c = 1 then decide (s.asy.ts = .traceable)
  else if c = 2 then decide (s.asy.ts = .traceable ∨ s.asy.ts = .holdover) else true

/-- Take a slot whose stored copy is uncorrectable (R113, R122). -/
def takeBad (n : Nat) (s : State) : State :=
  let x := s.actSlot n
  let s1 := fault .act 0 0 (s.setActSlot n { x with bad := true })
  if s1.actTakes then slotEnd n .notApplied 10 (hoDrop n (showTaken n (s1.setActSlot n { s1.actSlot n with wasLate := false }))) else s1

/-- A slot joins the initiation queue: behind those of earlier cycles, and in ascending number among those of its own (R116). -/
def queueTaken (n : Nat) (s : State) : State :=
  let now (k : Nat) : Bool := s.thisCyc.taken.contains k
  { s with act := { s.act with initQ := s.act.initQ.filter (fun k => !now k) ++ insNat (s.act.initQ.filter now) n } }

/-- The COND of the slots taken in this cycle is judged: one that is not met ends its slot (R113). -/
def judgeConds (s : State) : State :=
  s.thisCyc.judge.foldl (fun a n =>
    if (a.actSlot n).taken = false ∨ a.condOk (a.actSlot n).cond then a
    else slotEnd n .notApplied 2 (hoDrop n { a with act := { a.act with initQ := a.act.initQ.filter (fun k => decide (k ≠ n)) } }))
    { s with thisCyc := { s.thisCyc with judge := [] } }

/-- The cycle of CD_TB ends: what is judged at its end is judged (R113). (DESIGN CHOICE, log 102.) -/
def endCycle (s : State) : State :=
  endEvents (endFaults (if s.pageLive Reg.ACT then judgeConds s else s))

/-- An armed slot is taken once served time is at or after its due time; it joins the initiation queue unless its outcome is
set at once, and its COND is judged at the end of the cycle (R111 to R116). -/
def slotTake (n : Nat) (s : State) : State :=
  let x := s.actSlot n
  if x.st ≠ .armed ∨ x.taken then s
  else if x.bad then takeBad n s
  else if ¬ s.actTakes ∨ earlier s.now x.due then s
  else
    let late := decide (s.rf Reg.ACT_LATE_TH 0 24 * 65536 < (s.now - x.due).toNat)
    let s1 := showTaken n (s.setActSlot n { x with wasLate := late })
    let s2 := if late then raiseEvt Reg.ACT 2 (s1.count Reg.ACT_CNT_LATE) else s1
    if late ∧ x.lateOk = false then slotEnd n .notApplied 1 (hoDrop n s2)
    else
      let s3 := queueTaken n (s2.setActSlot n { s2.actSlot n with taken := true, result := none })
      { s3 with thisCyc := { s3.thisCyc with judge := insNat s3.thisCyc.judge n } }

/-- The stored copy of a slot is found uncorrectable (R113). (DEDUCED, log 28.) -/
def slotStoreError (n : Nat) (s : State) : State :=
  let x := s.actSlot n
  if x.st = .armed ∧ x.taken = false then takeBad n s else fault .act 0 0 s

/-- The outcome of a slot whose action has ended (R113, R114). -/
def actionOutcome (n : Nat) (s : State) : State :=
  let x := s.actSlot n
  if ¬ x.taken then s
  else
    match x.result with
    | none => s
    | some .completed => slotEnd n .applied 0 s
    | some .targetErr => slotEnd n .notApplied 3 s
    | some .locked => slotEnd n .notApplied 4 s
    | some .noMate => slotEnd n .notApplied 5 s

/-- How the action of a slot ended; nothing once a reset has emptied the slot (R119). -/
def setResult (n : Nat) (r : ActResult) (s : State) : State :=
  let x := s.actSlot n
  if x.taken then s.setActSlot n { x with result := some r } else s

/-- ACT_NEXT: the slot of the earliest due time among the armed ones not taken (R120); of several due at one time, the lowest
numbered. (DESIGN CHOICE, log 105.) -/
def State.actNext (s : State) : Word :=
  let l := s.act.slots.filter (fun p => decide (p.2.st = .armed) && !p.2.taken)
  let best := l.foldl (fun (a : Option (Nat × WT96)) p =>
    match a with
    | none => some (p.1, p.2.due)
    | some (n, d) => if earlier p.2.due d then some (p.1, p.2.due) else some (n, d)) none
  match best with
  | some (n, _) => BitVec.ofNat 32 (n + 2 ^ 31)
  | none => 0

/-- ACT_ARMED: the number of ARMED slots (R114, R120). -/
def State.actArmed (s : State) : Nat := s.act.slots.countP (fun p => decide (p.2.st = .armed))

/-! ### Commands -/

/-- SLOT_ARM (R108): a write of CTL. -/
def execSlotArm (m : Master) (n : BitVec 12) (v : Word) (s : State) : Host.Outcome State Fault Refusal :=
  .next (settle s (slotW m n.toNat 3 v s))

/-- SLOT_CLEAR (R110): a write of CTL. -/
def execSlotClear (m : Master) (n : BitVec 12) (v : Word) (s : State) : Host.Outcome State Fault Refusal :=
  .next (settle s (slotW m n.toNat 3 v s))

/-- ACT_DISARM (R120). -/
def execActDisarm (m : Master) (v : Word) (s : State) : Host.Outcome State Fault Refusal := cmdW m Reg.ACT_DISARM v (wrDisarm) s

/-- SLOT_TAKE (R111). -/
def execSlotTake (n : BitVec 12) (s : State) : Host.Outcome State Fault Refusal := cmdE Reg.ACT (slotTake n.toNat) s

/-- SLOT_STORE_ERROR (R113). -/
def execSlotStoreError (n : BitVec 12) (s : State) : Host.Outcome State Fault Refusal := cmdE Reg.ACT (slotStoreError n.toNat) s

/-- ACTION_OUTCOME (R114). -/
def execActionOutcome (n : BitVec 12) (s : State) : Host.Outcome State Fault Refusal := cmdE Reg.ACT (actionOutcome n.toNat) s

end Sys2Proof.Machine
end

