-- ==== Sys2Proof/Machine/Retire.lean ====
section
/-! DEFINITION. How an instruction writes its registers and retires: register-file parity, the counters of retirement and
instruction sampling (R588 to R592, R597, R603, R605, R847). -/
namespace Sys2Proof.Machine

/-- Key of the parity of a thread's general register in `State.badWords`. -/
def rgKey (k r : Nat) : Nat := badRegf + k * 32 + r

/-- Write a general register of a thread, with the parity that INJECT gives it; a write of g0 is discarded (R597, R603). -/
def wrRg (k r : Nat) (v : DWord) (s : State) : State :=
  if r = 0 then s
  else
    let s1 := s.setTh k ((s.th k).setRg r v)
    { s1 with badWords := AMap.set false s1.badWords (rgKey k r) (s.inject (Reg.ENG (k / 4)) 1) }

/-- A general register shows a parity error when it is read (R599). -/
def State.rgBad (s : State) (k r : Nat) : Bool := decide (r ≠ 0) && AMap.get false s.badWords (rgKey k r)

/-! ### Instruction sampling (R588 to R590) -/

/-- The engine's cluster samples its instructions (R588). -/
def State.samples (s : State) (e : Nat) : Bool :=
  s.rb (Reg.CLU_SMP_CFG (e / 8)) 0 && s.rb (Reg.CLU_SMP_CFG (e / 8)) (16 + e % 8)

/-- Store a sample: the buffer overwrites its oldest entry or discards the new one when it is full (R590). -/
def putSample (c : Nat) (w : List Word) (s : State) : State :=
  let x := s.clu c
  let w0 := w.getD 0 0 ||| (if x.smpLost then 0x400#32 else 0#32)
  let new := w0 :: w.drop 1
  if x.samples.length < 64 then s.setClu c { x with samples := x.samples ++ [new], smpLost := false }
  else
    let stop := s.rb (Reg.CLU_SMP_CFG c) 1
    let keep := if stop then x.samples else x.samples.drop 1 ++ [new]
    let s1 := (s.setClu c { x with samples := keep, smpLost := true, smpFull := true }).count (Reg.CLU_CNT_SMP_LOST c)
    if x.smpFull then s1 else raiseEvt (Reg.CLU c) 2 s1

/-- The sample of an instruction of thread k that retires now (R591). What the pipeline did (the cycles, the longest stall and its
cause) is free, within the codes that R592 lists. -/
def takeSample (k : Nat) (pc : DWord) (user fixed : Bool) (s : State) : State :=
  let e := k / 4
  let cause := s.freeVal % 12
  let s1 := s.nextFree
  let word3 := s1.freeVal
  let s2 := s1.nextFree
  let stall := s2.freeVal % 2 ^ 16
  let s3 := s2.nextFree
  let w0 := 2 ^ 31 + cause * 2 ^ 12 + b2n fixed * 2 ^ 9 + b2n user * 2 ^ 8 + k % 4 * 16 + e % 8
  let w (n : Nat) : Word := BitVec.ofNat 32 n
  let b := s.bt.toNat
  putSample (e / 8) [w w0, w pc.toNat, w (pc.toNat >>> 32), w word3, w (if cause = 0 then 0 else stall), w b, w (b >>> 32), w (b >>> 64)]
    (pmuUnit (512 + e / 8) 0x06 0 false s3)

/-- An instruction retires: at the start of a window an offset is drawn, and the instruction at the offset is tagged (R588, R589).
The offset drawn from the DRBG is a free value. (DESIGN CHOICE, log 76.) -/
def sampleRetire (k : Nat) (pc : DWord) (user : Bool) (s : State) : State :=
  let e := k / 4
  if s.samples e = false then s
  else
    let n := 2 ^ s.rf (Reg.CLU_SMP_CFG (e / 8)) 8 5
    let x := s.eng e
    let held := s.rb Reg.TRN_STAT 1
    let draw := decide (x.winPos = 0)
    let s1 := if draw then s.nextFree else s
    let y : Engine := if draw then { x with winOfs := if held then n / 2 else s.freeVal % n, winFixed := held } else x
    let s2 := s1.setEng e { y with winPos := if n ≤ x.winPos + 1 then 0 else x.winPos + 1 }
    if x.winPos = y.winOfs then takeSample k pc user y.winFixed s2 else s2

/-- An instruction of thread k at pc retires (R588, R847). -/
def retire (k : Nat) (pc : DWord) (user : Bool) (s : State) : State :=
  sampleRetire k pc user (pmuUnit (k / 4) 0x02 (k % 4) user s)

/-- The thread's instruction completes and it goes on at pc (R604, R605). -/
def finish (k : Nat) (pc : DWord) (s : State) : State :=
  let t := s.th k
  retire k t.pc t.user (s.setTh k { t with pc := pc })

/-- The thread's instruction completes and the next one follows (R605). -/
def next (k : Nat) (s : State) : State := finish k ((s.th k).pc + 4) s

end Sys2Proof.Machine
end

