-- ==== Sys2Proof/Machine/Facet.lean ====
section
/-! DEFINITION. Facet threads, the image loader, the hardware queues' state words, timers, semaphores and the sample buffer as masters
reach them (chapter 12). -/
namespace Sys2Proof.Machine

/-! ### Threads (R549 to R553, R576) -/

/-- A thread enters HALT (R549, R597). (DEDUCED, log 73.) -/
def thHalt (k : Nat) (s : State) : State :=
  raiseEvt (Reg.ENG (k / 4)) 0 (s.setTh k { s.th k with st := .halt })

/-- The waiting instruction of a thread has its result: it writes it and PC advances (R604, R605). -/
def thDone (k rd : Nat) (v : DWord) (s : State) : State :=
  next k (wrRg k rd v (s.setTh k { s.th k with waiting := .nothing, waitOn := .none, st := .run }))

/-- The waiting push or pop of a thread has come to its turn: the queue is disabled, or the operation would succeed and no thread of a
lower number waits for the same (R569, R570, R572). -/
def State.queueTurn (s : State) (k : Nat) : Waiting → Bool
  | .qpush _ n _ =>
    let q := s.queue n
    !q.en || (decide (q.depth < q.cap) && decide (q.pushes.head? = some k))
  | .qpop _ n _ =>
    let q := s.queue n
    !q.en || (decide (q.depth ≠ 0) && decide (q.pops.head? = some k))
  | _ => false

/-- What a waiting thread awaits has come (R549, R633). -/
def State.waitReady (s : State) (k : Nat) : Bool :=
  let t := s.th k
  match t.waiting with
  | .ewait _ => !t.fifo.isEmpty
  | .qpush _ _ _ | .qpop _ _ _ => s.queueTurn k t.waiting
  | .csub _ _ => decide (t.tickets.length < 8)
  | .cwait _ n => t.tickets.any (fun x => decide (x.num = n) && x.done.isSome)
  | .done _ _ => true
  | .nothing | .bar _ _ | .sacq _ _ => false

/-- HALT of a thread in RUN or WAIT; an instruction whose condition has come completes first, and one that still waits for memory
has no effect (R549, R550, R604, R633). (DEDUCED, log 73.) -/
def haltThread (k : Nat) (s : State) : State :=
  match (s.th k).st with
  | .run => thHalt k (dropLoads k s)
  | .wait =>
    match (s.th k).waiting with
    | .done rd v => thHalt k (thDone k rd v s)
    | _ => if s.waitReady k then s.setTh k { s.th k with haltDue := true } else thHalt k (abandonWait k s)
  | _ => s

/-- The HALT that waited for a thread's instruction: it follows it, and an instruction that is left without its condition has no effect
(R549, R550, R633). (DEDUCED, log 73.) -/
def haltAfter (k : Nat) (s : State) : State :=
  if (s.th k).haltDue = false then s
  else
    let s1 := s.setTh k { s.th k with haltDue := false }
    match (s1.th k).st with
    | .run => thHalt k s1
    | .wait => thHalt k (abandonWait k s1)
    | _ => s1

/-- A write of ENG_THn_CTL (R549, R593). (DEDUCED, log 73.) -/
def wrThCtl (e t : Nat) (v : Word) (s : State) : State :=
  let k := 4 * e + t
  match (s.th k).st with
  | .halt => if bit v 0 then s.setTh k { s.th k with st := .run, user := false } else s
  | .fault => if bit v 2 then thHalt k s else s
  | _ => if bit v 1 then haltThread k s else s

/-- The effective EN of an engine may have risen: thread 0 in HALT starts the loaded image (R549). -/
def engEnCheck (e : Nat) (s : State) : State :=
  let en := s.engEn e
  let s1 := if (s.eng e).wasEn = en then s else s.setEng e { s.eng e with wasEn := en }
  if en ∧ (s.eng e).wasEn = false ∧ s.rb (Reg.CLU_LOAD_STAT (e / 8)) 1 ∧ (s.th (4 * e)).st = .halt then
    s1.setTh (4 * e) { s1.th (4 * e) with st := .run, user := false,
                                          pc := (s.reg (Reg.CLU_ENTRY (e / 8))).setWidth 64 }
  else s1

/-- The value that a write of the last word of a register held with a thread commits: this writer's staged words, and the held
value for the rest (R19, R23). -/
def commitHeld (m : Master) (a n held : Nat) (hi : Word) (s : State) : Nat :=
  (List.range n).foldl (fun acc k =>
    let w : Nat := if k + 1 = n then hi.toNat else ((s.stagedOf m (a + 4 * k)).getD (BitVec.ofNat 32 (held >>> (32 * k)))).toNat
    acc + 2 ^ (32 * k) * w) 0

/-- Arm a thread's timer (R576). -/
def armTimer (k : Nat) (w : WT96) (s : State) : State := s.setTh k { s.th k with tmr := w, tmrArmed := true }

/-- A write of ENG_THn_TMR_HI (R576). -/
def wrTmr (m : Master) (e t : Nat) (v : Word) (s : State) : State :=
  let k := 4 * e + t
  let a := Reg.ENG_TH_TMR e t
  armTimer k (BitVec.ofNat 96 (commitHeld m a 3 (s.th k).tmr.toNat v s)) (s.dropStaged m a 3)

/-- A write of ENG_THn_PC_HI: only in HALT (R552). -/
def wrPc (m : Master) (e t : Nat) (v : Word) (s : State) : State :=
  let k := 4 * e + t
  let a := Reg.ENG_TH_PC e t
  let s1 := s.dropStaged m a 2
  if (s.th k).st = .halt then
    s1.setTh k { s1.th k with pc := BitVec.ofNat 64 (commitHeld m a 2 (s.th k).pc.toNat v s) }
  else s1

/-- A write of ENG_THn_BAR: barriers whose members change break if a member has arrived (R578). -/
def wrThBar (e t : Nat) (v : Word) (s : State) : State :=
  let a := Reg.ENG_TH_BAR e t
  let s1 := plainWrite a v s
  forN 16 (fun b x => if s.rb a b ≠ s1.rb a b ∧ s.inScope b e then barBreak b x else x) s1

/-- A write of SEM_BARb_SCOPE (R578). -/
def wrBarScope (b : Nat) (v : Word) (s : State) : State :=
  let s1 := plainWrite (Reg.SEM_BAR_SCOPE b) v s
  if (s.arrivedAt b).isEmpty ∨ s.barMembers b = s1.barMembers b then s1 else barBreak b s1

/-- A timer fires once when its due time has come (R576). -/
def timerFire (e t : Nat) (s : State) : State :=
  let k := 4 * e + t
  let x := s.th k
  if x.tmrArmed && atOrAfter s.now x.tmr then postTo k 3 0 (s.setTh k { x with tmrArmed := false }) else s

/-! ### Signed images (R561 to R565) -/

/-- Write bytes of a cluster's instruction memory. -/
def imemWr (c off : Nat) (l : List Byte) (s : State) : State :=
  markBad (fun _ => s.inject (Reg.CLU c) 0) badImem (c * 0x20000 + off) l.length
    { s with fct := { s.fct with imem := writeBytes s.fct.imem (c * 0x20000 + off) l } }

/-- Write bytes of a cluster's data memory. -/
def dmemWr (c off : Nat) (l : List Byte) (s : State) : State :=
  markBad (fun _ => s.inject (Reg.CLU c) 1) badDmem (c * 0x80000 + off) l.length
    { s with fct := { s.fct with dmem := writeBytes s.fct.dmem (c * 0x80000 + off) l } }

/-- Write bytes of an engine's local data memory. -/
def lmemWr (e off : Nat) (l : List Byte) (s : State) : State :=
  markBad (fun _ => s.inject (Reg.ENG e) 0) badLmem (e * 0x10000 + off) l.length
    { s with fct := { s.fct with lmem := writeBytes s.fct.lmem (e * 0x10000 + off) l } }

/-- Why a load is refused (R562). -/
inductive LoadRej where
  | busy | format | kind | range | key | sig | hash | memErr
  deriving DecidableEq, Repr

/-- The code of a refusal (R595). -/
def LoadRej.code : LoadRej → Nat
  | .busy => 1 | .format => 2 | .kind => 3 | .range => 4 | .key => 5 | .sig => 6 | .hash => 7 | .memErr => 8

/-- Bytes of an image at an address: zeros where nothing answers. (DEDUCED, log 72.) -/
def State.imgRd (s : State) (a n : Nat) : List Byte :=
  if s.sharedOk a n then s.sharedRd a n else List.replicate n 0

/-- The ranges an image of this header loads (R561). -/
def imgRanges (addr : Nat) (h : List Byte) : ImgLoad :=
  { kind := leAt h 5 1, imemOfs := leAt h 8 4, imemSize := leAt h 12 4, dmemOfs := leAt h 16 4, dmemSize := leAt h 20 4, addr := addr, hdr := h }

/-- The image that CLU_LOAD points at. -/
def State.imgAt (s : State) (c : Nat) : ImgLoad :=
  let a := s.regN (Reg.CLU_LOAD c) 2
  imgRanges a (s.imgRd a 192)

/-- The fused hash that the signer's key must have: the vendor's, or the owner's for a user image (R562). -/
def State.signerHash (s : State) (kind : Nat) : Option (List Word) :=
  if kind = 1 then s.lcs.owner else some ((List.range 8).map (fun i => s.reg (Reg.LCS_VENDOR i)))

/-- The ranges lie in their part of the cluster memories (R562 check 4). (DEDUCED, log 72.) -/
def State.imgFits (s : State) (c : Nat) (x : ImgLoad) : Bool :=
  let is := s.rf (Reg.CLU_IMEM_SPLIT c) 0 8 * 1024
  let ds := s.rf (Reg.CLU_DMEM_SPLIT c) 0 10 * 1024
  let ok (lo hi off n : Nat) : Bool := decide (n = 0) || (decide (lo ≤ off) && decide (off + n ≤ hi))
  if x.kind = 1 then ok is 0x20000 x.imemOfs x.imemSize && ok ds 0x80000 x.dmemOfs x.dmemSize
  else ok 0 is x.imemOfs x.imemSize && ok 0 ds x.dmemOfs x.dmemSize

/-- The first of checks 1 to 6 that a load fails (R562). (DEDUCED, log 72.) -/
def State.loadRej (s : State) (c : Nat) : Option LoadRej :=
  let x := s.imgAt c
  let h := x.hdr
  let kindOk := if c = 63 then decide (x.kind = 2) else decide (x.kind ≤ 1)
  if s.pgEn (Reg.CLU c) ∨ (s.clu c).load.isSome then some .busy
  else if leAt h 0 4 ≠ 0x31434146 ∨ leAt h 4 1 ≠ 1 then some .format
  else if kindOk = false ∨ leAt h 32 8 / 2 ^ c % 2 = 0 then some .kind
  else if s.imgFits c x = false then some .range
  else if s.signerHash x.kind ≠ some ((List.range 8).map (keyWord (sha256 (sliceB h 96 32)))) then some .key
  else if edVerify (sliceB h 96 32) (h.take 128) (sliceB h 128 64) = false then some .sig
  else none

/-- A load is refused (R562, R564). -/
def loadRefused (c : Nat) (r : LoadRej) (s : State) : State :=
  raiseEvt (Reg.CLU c) 1 (s.setRf (Reg.CLU_LOAD_STAT c) 4 4 r.code)

/-- The master may load the cluster (R565). -/
def State.mayLoad (s : State) (m : Master) (c : Nat) : Bool :=
  match m with
  | .jtag => true
  | .host => decide (c = 63) || !s.pgEn (Reg.CLU 63)
  | .cluster d => decide (d.val = 63) && decide (c ≠ 63)
  | .calendar => false

/-- A write of CLU_LOAD_CMD (R562). -/
def wrLoadCmd (m : Master) (c : Nat) (v : Word) (s : State) : State :=
  if bit v 0 = false ∨ s.mayLoad m c = false then s
  else
    match s.loadRej c with
    | some r => loadRefused c r s
    | none =>
      let x := s.imgAt c
      let s := if c = 63 then { s with pwr := { s.pwr with bootJtag := decide (m = .jtag) } } else s
      (s.setClu c { s.clu c with load := some x }).setRf (Reg.CLU_LOAD_STAT c) 0 8
        (1 + s.rf (Reg.CLU_LOAD_STAT c) 0 8 % 8 / 2 * 2)

/-- Two ranges share a byte. -/
def rangesMeet (a n b m : Nat) : Bool := decide (0 < n) && decide (0 < m) && decide (a < b + m) && decide (b < a + n)

/-- The ranges of two images overlap in a memory (R564). -/
def ImgLoad.meets (x y : ImgLoad) : Bool :=
  rangesMeet x.imemOfs x.imemSize y.imemOfs y.imemSize || rangesMeet x.dmemOfs x.dmemSize y.dmemOfs y.dmemSize

/-- A load completes: the payload is in place, LOADED and for the runtime CLU_ENTRY are written (R564). (DEDUCED, log 72.) -/
def loadAccepted (c : Nat) (x : ImgLoad) (s : State) : State :=
  let y := s.clu c
  let h := x.hdr
  let a := Reg.CLU_LOAD_STAT c
  let s1 := s.setReg (Reg.CLU_IMG_VER c) (BitVec.ofNat 32 (leAt h 28 4))
  if x.kind = 1 then
    let hit := match y.ranS with | some z => x.meets z | none => false
    let s2 := s1.setClu c { y with load := none, ranU := some x, ranS := if hit then none else y.ranS }
    raiseEvt (Reg.CLU c) 0 ((if hit then s2.setRb a 1 false else s2).setRb a 2 true)
  else
    let hit := match y.ranU with | some z => x.meets z | none => false
    let s2 := s1.setClu c { y with load := none, ranS := some x, ranU := if hit then none else y.ranU }
    let s3 := s2.setReg (Reg.CLU_ENTRY c) (BitVec.ofNat 32 (0x200000 + leAt h 24 4))
    raiseEvt (Reg.CLU c) 0 ((if hit then s3.setRb a 2 false else s3).setRb a 1 true)

/-- The end of a load: checks 7 and 8 on the payload behind the header that was verified (R562 to R564). (DESIGN CHOICE, log 6.) -/
def loadDone (c : Nat) (s : State) : State :=
  match (s.clu c).load with
  | none => s
  | some x =>
    let n := x.imemSize + x.dmemSize
    let pay := s.imgRd (x.addr + 192) n
    let s1 := s.setRb (Reg.CLU_LOAD_STAT c) 0 false
    let put (i d : List Byte) (t : State) : State := dmemWr c x.dmemOfs d (imemWr c x.imemOfs i t)
    let no (r : LoadRej) : State :=
      let s2 := put (List.replicate x.imemSize 0) (List.replicate x.dmemSize 0) s1
      loadRefused c r (s2.setClu c { s2.clu c with load := none })
    if sha256 pay ≠ sliceB x.hdr 64 32 then no .hash
    else if s.memBad x.addr (192 + n) ∨ s.sharedOk x.addr (192 + n) = false then no .memErr
    else loadAccepted c x (put (pay.take x.imemSize) (pay.drop x.imemSize) s1)

/-! ### Queue state words (R566 to R568, R572) -/

/-- BAR0 offset of word w of the state of queue q (R566). -/
def queueAddr (q w : Nat) : Nat := 0x0800000 + 16 * q + 4 * w

/-- A queue state word as it reads (R566). -/
def Queue.word (q : Queue) (w : Nat) : Word :=
  match w with
  | 0 => q.base
  | 1 => BitVec.ofNat 32 (q.log2 + q.esize * 2 ^ 6 + b2n q.en * 2 ^ 8 + b2n q.waitEn * 2 ^ 9 + b2n q.user * 2 ^ 10 + q.waiter * 2 ^ 12)
  | 2 => BitVec.ofNat 32 q.head
  | _ => BitVec.ofNat 32 (q.tail + b2n (decide (q.depth = 0)) * 2 ^ 30 + b2n (decide (q.depth = q.cap)) * 2 ^ 31)

/-- The queue may be enabled (R568). -/
def Queue.canEnable (q : Queue) : Bool :=
  let n := q.cap * q.size
  let a := q.base.toNat * 64
  (inSram a n || inDram a n) && decide (a % n = 0) && decide (q.depth ≤ q.cap)

/-- A write of word w of a queue's state (R566, R568, R572). -/
def wrQueue (n w : Nat) (v : Word) (s : State) : State :=
  let q := s.queue n
  match w with
  | 0 => if q.en then s else s.setQueue n { q with base := v }
  | 1 =>
    let q1 : Queue := { q with waiter := fld v 12 11, waitEn := bit v 9 }
    let q2 : Queue := if q.en then q1 else
      { q1 with user := bit v 10, esize := if fld v 6 2 = 3 then q.esize else fld v 6 2,
                log2 := if 20 < fld v 0 5 then q.log2 else fld v 0 5 }
    s.setQueue n { q2 with en := bit v 8 && (q.en || q2.canEnable) }
  | 2 => if q.en then s else s.setQueue n { q with head := fld v 0 21 }
  | _ => if q.en then s else s.setQueue n { q with tail := fld v 0 21 }

/-- What becomes of an access to the queue window: masters that reach all pages reach it (R554, R566, R780). -/
def queueGate (m : Master) (s : State) : Gate := if s.alive = false then .ignore else if mayReach m .mtx 0 s then .go else .err 1

/-- A write of a queue state word by a master. -/
def queueW (m : Master) (n w : Nat) (v : Word) (s : State) : State :=
  match queueGate m s with
  | .go => wrQueue n w v s
  | .err k => busErr m (queueAddr n w) k true s
  | _ => s

/-! ### Semaphores through the page (R587, R596) -/

/-- The semaphore ID of a master that uses SEM_n; engines use their instructions. -/
def semId : Master → Option Nat
  | .host => some semHost
  | .jtag => some semJtag
  | _ => none

/-- A write of SEM_n (R596). (DEDUCED, log 74.) -/
def wrSem (m : Master) (n : Nat) (v : Word) (s : State) : State :=
  match semId m with
  | none => s
  | some id =>
    match fld v 0 2 with
    | 1 => (semTry id n s).2
    | 2 => (semRelease id n s).2
    | 3 => semBreak n s
    | _ => s

/-! ### The sample buffer (R591) -/

/-- A read of CLU_SMP_D0: the oldest sample leaves, its words 1 to 7 are latched for the reader. -/
def sampleRead (m : Master) (c : Nat) (s : State) : Word × State :=
  let x := s.clu c
  let put (w : List Word) (t : State) : Word × State :=
    (w.getD 0 0, forN 7 (fun i t => t.setShadow m (Reg.CLU_SMP_D c (i + 1)) (w.getD (i + 1) 0)) t)
  match x.samples with
  | [] => put [] s
  | w :: rest => put w (s.setClu c { x with samples := rest, smpFull := false })

/-! ### Meanings -/

/-- THREAD_START (R549). -/
def execThreadStart (m : Master) (e : Fin 512) (t : Fin 4) (s : State) : Host.Outcome State Fault Refusal :=
  cmdW m (Reg.ENG_TH_CTL e t) 1 (wrThCtl e t) s

/-- THREAD_HALT (R549, R550, R633). -/
def execThreadHalt (m : Master) (e : Fin 512) (t : Fin 4) (s : State) : Host.Outcome State Fault Refusal :=
  cmdW m (Reg.ENG_TH_CTL e t) 2 (wrThCtl e t) s

/-- CLRFLT (R549). -/
def execClrflt (m : Master) (e : Fin 512) (t : Fin 4) (s : State) : Host.Outcome State Fault Refusal :=
  cmdW m (Reg.ENG_TH_CTL e t) 4 (wrThCtl e t) s

/-- IMAGE_LOAD (R562). -/
def execImageLoad (m : Master) (c : Fin 64) (v : Word) (s : State) : Host.Outcome State Fault Refusal :=
  cmdW m (Reg.CLU_LOAD_CMD c) v (wrLoadCmd m c) s

/-- QUEUE_STATE_WRITE (R566, R568, R572). -/
def execQueueStateWrite (m : Master) (q : BitVec 18) (w : Fin 4) (v : Word) (s : State) : Host.Outcome State Fault Refusal :=
  .next (queueW m q.toNat w v s)

/-- DOORBELL (R573, R593). -/
def execDoorbell (m : Master) (e : Fin 512) (t : Fin 4) (v : Word) (s : State) : Host.Outcome State Fault Refusal :=
  cmdW m (Reg.ENG_TH_DOORBELL e t) v (fun w => postTo (4 * e + t) 2 (fld w 0 24)) s

/-- TIMER_ARM (R576). -/
def execTimerArm (m : Master) (e : Fin 512) (t : Fin 4) (v : Word) (s : State) : Host.Outcome State Fault Refusal :=
  cmdW m (Reg.ENG_TH_TMR e t + 8) v (wrTmr m e t) s

/-- TIMER_FIRE (R576). -/
def execTimerFire (e : Fin 512) (t : Fin 4) (s : State) : Host.Outcome State Fault Refusal :=
  cmdE (Reg.ENG e) (timerFire e t) s

/-- SEM_TRY_ACQUIRE (R582, R596). -/
def execSemTryAcquire (m : Master) (n : BitVec 8) (s : State) : Host.Outcome State Fault Refusal :=
  cmdW m (Reg.SEM_N n.toNat) 1 (wrSem m n.toNat) s

/-- SEM_RELEASE (R583, R584, R596). -/
def execSemRelease (m : Master) (n : BitVec 8) (s : State) : Host.Outcome State Fault Refusal :=
  cmdW m (Reg.SEM_N n.toNat) 2 (wrSem m n.toNat) s

/-- SEM_FORCE (R587). -/
def execSemForce (m : Master) (n : BitVec 8) (s : State) : Host.Outcome State Fault Refusal :=
  cmdW m (Reg.SEM_N n.toNat) 3 (wrSem m n.toNat) s

/-- SAMPLE_READ (R591). -/
def execSampleRead (m : Master) (c : Fin 64) (s : State) : Host.Outcome State Fault Refusal :=
  cmdRd m (Reg.CLU_SMP_D c 0) (sampleRead m c) s

end Sys2Proof.Machine
end

