-- ==== Sys2Proof/Machine/Quarry.lean ====
section
/-! DEFINITION. DRAM and MRAM as targets of an access, with the errors they answer, and the Quarry's record cache (R659 to R661,
R874 to R883). -/
namespace Sys2Proof.Machine

/-! ### DRAM (R874, R875) -/

/-- Count the 64-byte blocks of an access to DRAM in the chip counters of their channels (R848). -/
def ddrCount (code o n : Nat) (s : State) : State :=
  forN ((o + n - 1) / 64 - o / 64 + 1) (fun i a => pmuChip code ((o / 64 + i) / 4 % 2) a) s

/-- An uncorrectable DRAM word has been read (R875). -/
def ddrUe (o : Nat) (s : State) : State :=
  let ch := o / 256 % 2
  fault .ddr ch 0 ((s.count (Reg.DDR_CNT_UE ch)).setRegN (Reg.DDR_ERR_ADDR ch) (eaDram + o) 2)

/-- Read n bytes at a DRAM offset for a master: none where an error response answers (R874, R875). -/
def dramGet (id o n : Nat) (s : State) : Option (List Byte) × State :=
  if s.dramOk o n = false then (none, mtxErr id (eaDram + o) 1 false s)
  else
    let s1 := ddrCount 0x0A o n s
    if s.memBad (eaDram + o) n then (none, mtxErr id (eaDram + o) 1 false (ddrUe o s1)) else (some (s.dramRd o n), s1)

/-- Write bytes at a DRAM offset for a master; false where an error response answers. -/
def dramPut (id o : Nat) (l : List Byte) (s : State) : Bool × State :=
  if s.dramOk o l.length = false then (false, mtxErr id (eaDram + o) 1 true s)
  else (true, ddrCount 0x0B o l.length (s.sharedWr (eaDram + o) l))

/-! ### MRAM (R879 to R883) -/

/-- Physical sector of a logical sector. -/
def State.mramSector (s : State) (k : Nat) : Nat := s.rf (Reg.MRM_MAP (k / 4)) (8 * (k % 4)) 8
/-- Physical address of an MRAM offset. (DEDUCED, log 92.) -/
def State.mramPhys (s : State) (o : Nat) : Nat := s.mramSector (o / 0x20000) * 0x20000 + o % 0x20000
/-- Bytes at an MRAM offset. (DESIGN CHOICE, log 4.) -/
def State.mramRd (s : State) (o n : Nat) : List Byte := (List.range n).map (fun i => AMap.get 0 s.mram (s.mramPhys (o + i)))
/-- A logical sector is read-only (R883). -/
def State.mramRo (s : State) (k : Nat) : Bool := s.rb (Reg.MRM_RO (k / 32)) (k % 32)

/-- Put bytes at an MRAM offset by the device itself. -/
def mramStore (o : Nat) (l : List Byte) (s : State) : State :=
  let put (t : State) (i : Nat) : State := { t with mram := AMap.set 0 t.mram (t.mramPhys (o + i)) (l.getD i 0) }
  let s1 := (List.range l.length).foldl put s
  if s.badWords.isEmpty && !s.inject Reg.MRM 0 then s1
  else markBad (fun _ => s.inject Reg.MRM 0) (2 ^ 40 + eaMram) o l.length s1

/-- Write bytes of a sector that may be held for a remap (R882). -/
def mramHold (o : Nat) (l : List Byte) (s : State) : State :=
  if s.mrm.remap = some (o / 0x20000) then
    { s with mrm := { s.mrm with heldWr := s.mrm.heldWr ++ (List.range l.length).map (fun i => (o + i, l.getD i 0)) } }
  else mramStore o l s

/-- A direct write of MRAM by a master; false where an error response answers (R879, R883). -/
def mramPut (id o : Nat) (l : List Byte) (s : State) : Bool × State :=
  let k := o / 0x20000
  if k = 0 ∨ 127 ≤ k then (false, mtxErr id (eaMram + o) 1 true s)
  else if s.mramRo k then (false, mtxErr id (eaMram + o) 1 true (s.count Reg.MRM_CNT_ROWR))
  else (true, mramHold o l s)

/-- Read n bytes of MRAM for a master; none where an uncorrectable word gives an error response (R884). -/
def mramGet (id o n : Nat) (s : State) : Option (List Byte) × State :=
  if s.memBad (eaMram + o) n then (none, mtxErr id (eaMram + o) 1 false (fault .mrm 0 1 (s.count Reg.MRM_CNT_UE)))
  else (some (s.mramRd o n), s)

/-! ### The record cache (R659 to R661) -/

/-- Number of buckets of the table (R655). -/
def State.qBuckets (s : State) : Nat := 2 ^ (s.rf Reg.QRY_TBL_CFG 0 5 - 3)
/-- DRAM offset of the table: QRY_TBL holds its engine address, aligned to its size. (DEDUCED, log 33.) -/
def State.qBase (s : State) : Nat :=
  let v := s.regN Reg.QRY_TBL 2
  (v - v % (256 * s.qBuckets)) % eaDram
/-- The n bytes at a DRAM offset lie in the table (R659). -/
def State.inTable (s : State) (o n : Nat) : Bool :=
  decide (eaDram ≤ s.regN Reg.QRY_TBL 2) && decide (s.qBase ≤ o) && decide (o + n ≤ s.qBase + 256 * s.qBuckets)

/-- Key of the check bits of a cached line in `State.badWords`. -/
@[reducible] def badLine : Nat := 2 ^ 45

/-- A way of the cache. -/
def State.qWay (s : State) (k : Nat) : Option QLine := AMap.get none s.svc.cache k
/-- Store a way of the cache. -/
def State.setQWay (s : State) (k : Nat) (x : Option QLine) : State :=
  { s with svc := { s.svc with cache := AMap.set none s.svc.cache k x } }
/-- The ways of a bucket's set: 2,048 sets of 16. -/
def waysOf (b : Nat) : List Nat := (List.range 16).map (fun w => b % 2048 * 16 + w)
/-- The way that holds a bucket. (DEDUCED, log 91.) -/
def State.qFind (s : State) (b : Nat) : Option Nat :=
  (waysOf b).find? (fun k => match s.qWay k with | some x => decide (x.bucket = b) | none => false)
/-- The way that a new line takes: a free one, or the least recently used (R659). -/
def State.qVictim (s : State) (b : Nat) : Nat :=
  match (waysOf b).find? (fun k => (s.qWay k).isNone) with
  | some k => k
  | none =>
    let use (k : Nat) : Nat := match s.qWay k with | some x => x.used | none => 0
    (waysOf b).foldl (fun best k => if use k < use best then k else best) (b % 2048 * 16)

/-- Bytes of a cached line. -/
def State.lineRd (s : State) (b off n : Nat) : List Byte := readBytes s.svc.cdata (s.qBase + 256 * b + off) n

/-- Drop a line's bytes and its check bits. -/
def dropLine (k b : Nat) (s : State) : State :=
  let s1 := s.setQWay k none
  { s1 with svc := { s1.svc with cdata := s1.svc.cdata.clearRange (s.qBase + 256 * b) 256 },
            badWords := s1.badWords.clearRange (badLine + s.qBase + 256 * b) 256 }

/-- Write a dirty line back; a write-back that gets an error raises TBL_DMA (R659, R708). -/
def writeBack (k : Nat) (s : State) : State :=
  match s.qWay k with
  | none => s
  | some x =>
    if x.dirty = false then s
    else
      let s1 := s.setQWay k (some { x with dirty := false })
      match dramPut 68 (s.qBase + 256 * x.bucket) (s.lineRd x.bucket 0 256) s1 with
      | (true, s2) => s2.count Reg.QRY_CNT_WB
      | (false, s2) => fault .qry 0 2 s2

/-- Bring a bucket into the cache; false when the fill gets an error (R659, R708). -/
def fillLine (b : Nat) (s : State) : Bool × State :=
  let k := s.qVictim b
  let s0 := writeBack k (pmuChip 0x07 0 (s.count Reg.QRY_CNT_MISS))
  let s1 := match s0.qWay k with | some x => dropLine k x.bucket s0 | none => s0
  match dramGet 68 (s.qBase + 256 * b) 256 s1 with
  | (none, s2) => (false, fault .qry 0 2 s2)
  | (some l, s2) =>
    let s3 := { s2 with svc := { s2.svc with cdata := writeBytes s2.svc.cdata (s.qBase + 256 * b) l, tick := s2.svc.tick + 1 } }
    (true, s3.setQWay k (some { bucket := b, dirty := false, used := s3.svc.tick }))

/-- Make a bucket present for an access; false when the access gets an error response (R659, R661). -/
def touchLine (b : Nat) (s : State) : Bool × State :=
  match s.qFind b with
  | none => fillLine b s
  | some k =>
    let s1 := pmuChip 0x06 0 (s.count Reg.QRY_CNT_HIT)
    if s.wordBad badLine (s.qBase + 256 * b) 256 then (false, fault .qry 0 0 ((dropLine k b s1).count Reg.QRY_CNT_ECC))
    else
      let n := s1.svc.tick + 1
      let d := match s1.qWay k with | some x => x.dirty | none => false
      (true, { s1 with svc := { s1.svc with tick := n } }.setQWay k (some { bucket := b, dirty := d, used := n }))

/-- Write bytes of a present line. -/
def lineWr (b off : Nat) (l : List Byte) (s : State) : State :=
  match s.qFind b with
  | none => s
  | some k =>
    let a := s.qBase + 256 * b + off
    let u := match s.qWay k with | some x => x.used | none => 0
    let s1 := { s with svc := { s.svc with cdata := writeBytes s.svc.cdata a l } }
    markBad (fun _ => s.inject Reg.QRY 0) badLine a l.length (s1.setQWay k (some { bucket := b, dirty := true, used := u }))

/-- An engine's read of n bytes of DRAM, through the cache where they lie in the table; none on an error response. -/
def engDramGet (id o n : Nat) (s : State) : Option (List Byte) × State :=
  if s.inTable o n then
    let b := (o - s.qBase) / 256
    match touchLine b s with
    | (true, s1) => (some (s1.lineRd b ((o - s.qBase) % 256) n), s1)
    | (false, s1) => (none, mtxErr id (eaDram + o) 1 false s1)
  else dramGet id o n s

/-- An engine's write of DRAM, through the cache where it lies in the table; false on an error response. -/
def engDramPut (id o : Nat) (l : List Byte) (s : State) : Bool × State :=
  if s.inTable o l.length then
    let b := (o - s.qBase) / 256
    match touchLine b s with
    | (true, s1) => (true, lineWr b ((o - s.qBase) % 256) l s1)
    | (false, s1) => (false, mtxErr id (eaDram + o) 1 true s1)
  else dramPut id o l s

end Sys2Proof.Machine
end

