-- ==== Sys2Proof/Machine/Mem.lean ====
section
/-! DEFINITION. Memory as an engine thread sees it: what an address names, who may access it, and reads and writes with the
errors they meet (R554 to R556, R607). -/
namespace Sys2Proof.Machine

/-- What an engine address names (R554): engine or cluster memories with their offset, shared memories and register pages. -/
inductive Target where
  | lmem (e off : Nat)
  | dmem (c off : Nat)
  | imem (c off : Nat)
  | sram (o : Nat)
  | mram (o : Nat)
  | page (a : Nat)
  | dram (o : Nat)
  deriving DecidableEq, Repr

/-- The target of n bytes at an address, for an engine (R554); none outside every row. -/
def locate (e a n : Nat) : Option Target :=
  let within (lo size : Nat) : Bool := decide (lo ≤ a) && decide (a + n ≤ lo + size)
  let c := e / 8
  if within 0 0x10000 then some (.lmem e a)
  else if within 0x100000 0x80000 then some (.dmem c (a % 0x80000))
  else if within 0x200000 0x20000 then some (.imem c (a % 0x20000))
  else if within 0x400000 0x80000 ∧ a / 0x10000 = (a + n - 1) / 0x10000 then
    some (.lmem (8 * c + a % 0x80000 / 0x10000) (a % 0x10000))
  else if within eaSram 0x2000000 then some (.sram (a % eaSram))
  else if within eaMram 0x1000000 then some (.mram (a % eaMram))
  else if within eaPages 0x4000000 then some (.page (a % eaPages))
  else if within eaDram 0x800000000 then some (.dram (a % eaDram))
  else none

/-- A user window covers n bytes at an address with the access kind (R556, R595). -/
def State.windowOk (s : State) (c w a n : Nat) (write : Bool) : Bool :=
  let lo := s.reg (Reg.CLU_UWIN c w)
  let size := 2 ^ fld lo 0 6
  let b0 := fld lo 12 20 * 4096 + 2 ^ 32 * s.rf (Reg.CLU_UWIN c w + 4) 0 6
  let b := b0 - b0 % size
  (inSram b size || inDram b size) && decide (b ≤ a) && decide (a + n ≤ b + size) && bit lo (if write then 7 else 6)

/-- A user access to shared memory is permitted by some window (R556). -/
def State.userWindow (s : State) (c a n : Nat) (write : Bool) : Bool := (List.range 4).any (fun w => s.windowOk c w a n write)

/-- A supervisor's cluster reaches a register page offset (R48, R554). -/
def pageOwn (c a : Nat) : Bool :=
  decide (c = 63) || decide (a / 0x1000 = Reg.CLU c / 0x1000) ||
    (decide (Reg.ENG (8 * c) ≤ a) && decide (a < Reg.ENG (8 * c) + 0x8000))

/-- A data access of n bytes is permitted to a thread of an engine (R554, R556). -/
def State.mayAccess (s : State) (e : Nat) (user : Bool) (a n : Nat) (write : Bool) : Option Target :=
  let c := e / 8
  match locate e a n with
  | none => none
  | some t =>
    let ok := match t with
      | .lmem _ _ => !user || decide (a < 0x10000)
      | .dmem _ off => !user || decide (s.rf (Reg.CLU_DMEM_SPLIT c) 0 10 * 1024 ≤ off)
      | .imem _ _ => !user && !write
      | .sram _ | .dram _ => !user || s.userWindow c a n write
      | .mram _ => !user && decide (c = 63)
      | .page p => !user && pageOwn c p
    if ok then some t else none

/-- An address a thread may fetch from (R554, R555); an instruction is 4 bytes aligned to 4 (R600). -/
def State.mayFetch (s : State) (e : Nat) (user : Bool) (pc : Nat) : Option Target :=
  let c := e / 8
  if pc % 4 ≠ 0 then none
  else
    match locate e pc 4 with
    | some (.imem x off) => if !user || decide (s.rf (Reg.CLU_IMEM_SPLIT c) 0 8 * 1024 ≤ off) then some (.imem x off) else none
    | some (.mram o) => if !user && decide (c = 63) then some (.mram o) else none
    | _ => none

/-- How a read or write of memory ended. -/
inductive MemEnd where
  | ok | ecc | bus
  deriving DecidableEq, Repr

/-- Read n bytes of a target for cluster c; a register page gives none here. -/
def memRead (c n : Nat) (t : Target) (s : State) : MemEnd × List Byte × State :=
  let far (r : Option (List Byte) × State) : MemEnd × List Byte × State :=
    match r with
    | (some l, s1) => (.ok, l, s1)
    | (none, s1) => (.bus, [], s1)
  match t with
  | .lmem e off =>
    if s.wordBad badLmem (e * 0x10000 + off) n then (.ecc, [], fault .eng e 0 s)
    else (.ok, readBytes s.fct.lmem (e * 0x10000 + off) n, s)
  | .dmem d off =>
    if s.wordBad badDmem (d * 0x80000 + off) n then (.ecc, [], fault .clu d 1 s)
    else (.ok, readBytes s.fct.dmem (d * 0x80000 + off) n, s)
  | .imem d off =>
    if s.wordBad badImem (d * 0x20000 + off) n then (.ecc, [], fault .clu d 0 s)
    else (.ok, readBytes s.fct.imem (d * 0x20000 + off) n, s)
  | .sram o => if s.memBad (eaSram + o) n then (.bus, [], mtxErr c (eaSram + o) 1 false s) else (.ok, s.sramRd o n, s)
  | .mram o => far (mramGet c o n s)
  | .dram o => far (engDramGet c o n s)
  | .page _ => (.bus, [], s)

/-- Write bytes of a target for cluster c; a register page takes none here. -/
def memWrite (c : Nat) (t : Target) (l : List Byte) (s : State) : MemEnd × State :=
  let far (r : Bool × State) : MemEnd × State := (if r.1 then .ok else .bus, r.2)
  match t with
  | .lmem e off => (.ok, lmemWr e off l s)
  | .dmem d off => (.ok, dmemWr d off l s)
  | .imem _ _ => (.bus, s)
  | .sram o => (.ok, s.sharedWr (eaSram + o) l)
  | .mram o => far (mramPut c o l s)
  | .dram o => far (engDramPut c o l s)
  | .page _ => (.bus, s)

/-- A target lies beyond the cluster (R610). -/
def Target.isFar : Target → Bool
  | .sram _ | .mram _ | .dram _ | .page _ => true
  | .lmem _ _ | .dmem _ _ | .imem _ _ => false

end Sys2Proof.Machine
end

