-- ==== Sys2Proof/Machine/Exec.lean ====
section
/-! DEFINITION. How an instruction of a thread issues, and the exceptions it may raise (R547 to R551, R555, R557 to R560, R599, R604 to
R613, R634). -/
namespace Sys2Proof.Machine

/-! ### Exceptions (R557 to R560) -/

/-- Causes of an exception (R557). -/
inductive Cause where
  | illegal | priv | access | align | memEcc | fetch | sysCall | breakPoint | busErr | queue
  deriving DecidableEq, Repr

/-- The code of a cause (R557). -/
def Cause.code : Cause → Nat
  | .illegal => 1 | .priv => 2 | .access => 3 | .align => 4 | .memEcc => 5 | .fetch => 6 | .sysCall => 7 | .breakPoint => 8
  | .busErr => 9 | .queue => 10

/-- A thread enters FAULT: it releases its semaphores as broken, breaks its barriers, and the completions of its crypto tickets will be
discarded (R549, R560, R578, R585, R634). -/
def thFault (k : Nat) (s : State) : State :=
  let s1 := barLost k (semLost k s)
  raiseEvt (Reg.ENG (k / 4)) 1 (s1.setTh k { s1.th k with st := .fault, tickets := [] })

/-- A thread meets an exception: EPC and CAUSE are set; a user thread goes on at ENG_VEC in supervisor mode, a supervisor thread
halts at a BREAK and otherwise faults (R558, R559, R613). -/
def raiseExc (k : Nat) (c : Cause) (bad : Option DWord) (s : State) : State :=
  let e := k / 4
  let t := s.th k
  let epc := if c = .sysCall then t.pc + 4 else t.pc
  let s1 := pmuUnit e 0x27 (k % 4) t.user s
  let t1 : Thread := { s1.th k with epc := epc, cause := BitVec.ofNat 4 c.code, badaddr := bad.getD t.badaddr }
  if t.user then s1.setTh k { t1 with user := false, pc := BitVec.ofNat 64 (s1.regN (Reg.ENG_VEC e) 2) }
  else if c = .breakPoint then thHalt k (s1.setTh k t1)
  else fault .eng e 2 (thFault k (s1.setTh k t1))

/-- A register of a thread shows a parity error when it is read: FAULT with CAUSE NONE (R599). (DESIGN CHOICE, log 78.) -/
def regfFault (k : Nat) (s : State) : State :=
  fault .eng (k / 4) 1 (thFault k (s.setTh k { s.th k with cause := 0 }))

/-! ### Issue -/

/-- A thread's instruction waits for an answer from beyond the cluster (R604, R610). -/
def State.stalled (s : State) (k : Nat) : Bool :=
  s.mtx.any (fun r => match r.reply with
    | .load j _ _ | .rsv j _ _ _ => decide (j = k)
    | _ => false)

/-- The threads of an engine may issue: it is enabled, not frozen, not in reset, and its clock runs (R551, R58). -/
def State.engRuns (s : State) (e : Nat) : Bool :=
  s.alive && !s.engRst e && !s.pageStopped .eng e && s.engEn e && !s.engFrozen e

/-- A thread may issue its next instruction (R548, R551). -/
def State.canIssue (s : State) (k : Nat) : Bool :=
  s.engRuns (k / 4) && decide ((s.th k).st = .run) && !s.stalled k

/-- Fetch the instruction at PC: false where R554 and R555 do not permit it or the word is uncorrectable (R547, R557).
(DESIGN CHOICE, log 6.) -/
def fetchAt (k : Nat) (s : State) : Bool × State :=
  let c := k / 32
  let t := s.th k
  match s.mayFetch (k / 4) t.user t.pc.toNat with
  | none => (false, s)
  | some tgt =>
    let s1 := match tgt with
      | .imem _ _ => pmuUnit (512 + c) 0x02 0 false s
      | _ => s
    match memRead c 4 tgt s1 with
    | (.ok, _, s2) => (true, s2)
    | (_, _, s2) => (false, s2)

/-- Issue an instruction: an error answered to an earlier posted store comes first (R610), then the fetch, then ILLEGAL and PRIV,
then the parity of the registers read (R599, R612). `op` is what the instruction does; none while it cannot complete yet, and then
nothing happens. (DESIGN CHOICE, log 6.) -/
def issue (k : Nat) (ill priv : Bool) (srcs : List Nat) (op : State → Option State) (s : State) : State :=
  match (s.th k).postErr with
  | some a => raiseExc k .busErr (some a) (s.setTh k { s.th k with postErr := none })
  | none =>
    match fetchAt k s with
    | (false, s1) => raiseExc k .fetch (some (s1.th k).pc) s1
    | (true, s1) =>
      if ill then raiseExc k .illegal none s1
      else if priv && (s1.th k).user then raiseExc k .priv none s1
      else if srcs.any (s1.rgBad k) then regfFault k s1
      else (op s1).getD s

/-- An instruction of a thread that may stall: it runs when the thread may issue, else nothing happens. (DESIGN CHOICE, log 75.) -/
def stallOp (e : Fin 512) (t : Fin 4) (ill priv : Bool) (srcs : List GReg) (op : Nat → State → Option State) (s : State) :
    Host.Outcome State Fault Refusal :=
  let k := thKey e t
  .next (if s.canIssue k then settle s (issue k ill priv (srcs.map BitVec.toNat) (op k) s) else s)

/-- An instruction of a thread that never stalls. (DESIGN CHOICE, log 78.) -/
def runOp (e : Fin 512) (t : Fin 4) (ill priv : Bool) (srcs : List GReg) (op : Nat → State → State) (s : State) :
    Host.Outcome State Fault Refusal :=
  stallOp e t ill priv srcs (fun k a => some (op k a)) s

/-- An operand that names a register pair names an even register but g0 (R602). -/
def badPair (r : GReg) : Bool := decide (r.toNat = 0) || decide (r.toNat % 2 = 1)

/-- The registers of a pair. -/
def pairOf (r : GReg) : List GReg := [r, r + 1]

/-- A register of a thread, by the field that names it. -/
def Thread.r (t : Thread) (r : GReg) : DWord := t.rg r.toNat

/-- The 128 bits of a register pair, its even register lowest (R602). -/
def Thread.pair (t : Thread) (r : GReg) : BitVec 128 := BitVec.ofNat 128 ((t.r r).toNat + 2 ^ 64 * (t.r (r + 1)).toNat)

/-- Write a register pair (R602). -/
def wrPair (k : Nat) (r : GReg) (v : Nat) (s : State) : State :=
  wrRg k (r.toNat + 1) (BitVec.ofNat 64 (v >>> 64)) (wrRg k r.toNat (BitVec.ofNat 64 v) s)

/-- A register instruction that gives one result (R604, R605, R615). -/
def aluOp (e : Fin 512) (t : Fin 4) (rd : GReg) (srcs : List GReg) (f : Thread → DWord) (s : State) :
    Host.Outcome State Fault Refusal :=
  runOp e t false false srcs (fun k a => next k (wrRg k rd.toNat (f (a.th k)) a)) s

end Sys2Proof.Machine
end

