-- ==== Sys2Proof/Machine/Dpl.lean ====
section
/-! DEFINITION. Loop units: measurements, reports, commands and the learned history (chapter 5). -/
namespace Sys2Proof.Machine

/-- A measurement of entry e with its Bedrock value, the time of its event where that is known, and the edges counted since the previous one
arrives at a loop; one of another entry is discarded and counted (R223, R225). A loop that is not acquiring or locked, or whose x is
not known, makes no update. -/
def loopTake (l e : Nat) (b : BT80) (x : Option WT96) (edges : Nat) (s : State) : State :=
  if ¬ s.pgEn (Reg.DPL l) then s
  else if ¬ (s.curValid l ∧ s.curEntry l = e) then s.count (Reg.DPL_CNT_DISC l)
  else
    let s1 := s.setDpl l { s.dplS l with edges := (s.dplS l).edges + edges }
    match s1.dplSt l, s1.measX l e x with
    | .acquire, some v => dplUpdate l b e v s1
    | .locked, some v => dplUpdate l b e v s1
    | _, _ => s1

/-- A measurement of an entry reaches the loops that follow it (R225). -/
def loopsTake (e : Nat) (b : BT80) (x : Option WT96) (edges : Nat) (s : State) : State :=
  (s.loopsOf e).foldl (fun a l => loopTake l e b x edges a) s

/-- The time of an event whose edge the loops have already counted reaches the TIME loops that follow its entry (R223). -/
def loopsTime (e : Nat) (b : BT80) (x : WT96) (s : State) : State :=
  ((s.loopsOf e).filter (fun l => decide (s.dplMode l = 0))).foldl (fun a l => loopTake l e b (some x) 0 a) s

/-- A report instant in FREERUN or HOLDOVER, where no update comes: p and y extrapolated to it (R240, R249). -/
def reportAt (l : Nat) (s : State) : State :=
  match s.dplSt l with
  | .acquire | .locked => s
  | .freerun | .holdover =>
    if s.pgEn (Reg.DPL l) ∧ s.rptDue l = true then
      let s1 := dplAdvance l s
      dplReport l s1.bt (s1.dplS l).p (s1.dplS l).y s1
    else s

/-- The history interval in s (R264). -/
def State.histInt (s : State) (l : Nat) : Nat := [60, 300, 900, 3600].getD (s.rf (Reg.DPL_HIST_CFG l) 0 3) 900

/-- Number of the history interval in which served time lies (R262). -/
def State.histNo (s : State) (l : Nat) : Nat := wholeSec s.now / s.histInt l

/-- The sums of an interval start afresh (R263). -/
def histBegin (l : Nat) (s : State) : State :=
  s.setDpl l { s.dplS l with hIdx := s.histNo l, hySum := 0, hyCnt := 0, huSum := 0, huCnt := 0, htSum := 0, htCnt := 0,
                             htMin := 0, htMax := 0, hTrc := decide (s.asy.ts = .traceable),
                             hPart := decide (s.dplSt l ≠ .locked), hLost := false }

/-- A BDR step takes effect: STEER loops that follow entries build out anew (R255), and the report instants and interval ends that served
time meets again are due again (R249, R262). (DESIGN CHOICE, log 10; DEDUCED, log 39.) -/
def dplStep (s : State) : State :=
  forN 8 (fun l a =>
    let x := a.dplS l
    a.setDpl l { x with rpt := min x.rpt (a.rptNo l), hIdx := min x.hIdx (a.histNo l),
                        rebuild := x.rebuild || (a.dplRuns l 2 && a.curValid l) }) s

/-- The mean of a sum, rounded to the nearest integer; 0 of nothing (R263). (DEDUCED, log 34, 39.) -/
def meanOf (sum : Int) (n : Nat) : Int := if n = 0 then 0 else rne sum n

/-- Mean u of the interval in STEER mode: over its updates, or u as it stood where there was none (R254, R263). (DEDUCED, log 39.) -/
def State.steerAvg (s : State) (l : Nat) : Int :=
  let x := s.dplS l
  if s.dplMode l ≠ 2 then 0 else if x.huCnt = 0 then x.u else meanOf x.huSum x.huCnt

/-- Bytes 0 to 59 of a history sample (R263); the temperatures of an interval without a sample are a free value. (DEDUCED, log 39.) -/
def histBody (l : Nat) (s : State) : List Byte :=
  let x := s.dplS l
  let cfg := Reg.DPL_HIST_CFG l
  let tv (v : Int) : List Byte := bytesBE 2 (if x.htCnt = 0 then s.freeVal % 65536 else (BitVec.ofInt 16 v).toNat)
  bytesBE 4 0x484F4831 ++ bytesBE 1 1 ++ bytesBE 1 (s.rf cfg 4 2) ++ bytesBE 1 l ++
  bytesBE 1 (b2n x.hTrc + 2 * b2n x.hPart + 4 * b2n x.hLost) ++ bytesBE 8 (s.regN (Reg.DPL_HIST_ID l) 2) ++
  bytesBE 12 (s.histNo l * s.histInt l * 1000000000 * 65536) ++ bytesBE 4 (s.histInt l) ++
  bytesBE 8 (BitVec.ofInt 64 (meanOf x.hySum x.hyCnt)).toNat ++ bytesBE 8 (BitVec.ofInt 64 (s.steerAvg l)).toNat ++
  tv (meanOf x.htSum x.htCnt) ++ tv x.htMin ++ tv x.htMax ++ List.replicate 6 0

/-- The end of a history interval: one sample goes to the ring (R262). (DEDUCED, log 39.) -/
def histSample (l : Nat) (s : State) : State :=
  if ¬ s.rb (Reg.DPL_HIST_CFG l) 8 ∨ s.histNo l ≤ (s.dplS l).hIdx then s
  else
    let body := histBody l s
    let base := s.rf (Reg.DPL_HIST_BASE l) 12 13 * 4096
    let i := (s.reg (Reg.DPL_HIST_WR l)).toNat % 2 ^ s.rf (Reg.DPL_HIST_BASE l) 0 4
    let s1 := s.sramWr (base + 64 * i) (body ++ bytesBE 4 (crc32c body).toNat)
    let s2 := s1.setReg (Reg.DPL_HIST_WR l) (BitVec.ofNat 32 ((i + 1) % 2 ^ s.rf (Reg.DPL_HIST_BASE l) 0 4))
    raiseEvt (Reg.DPL l) 3 (histBegin l s2.nextFree)

/-- A temperature sample enters the sums of every loop's interval (R263). -/
def histTemp (t : Int) (s : State) : State :=
  forN 8 (fun l a =>
    let x := a.dplS l
    a.setDpl l { x with htSum := x.htSum + t, htCnt := x.htCnt + 1,
                        htMin := if x.htCnt = 0 then t else min x.htMin t,
                        htMax := if x.htCnt = 0 then t else max x.htMax t }) s

/-- Carry a loop's points over to another axis, whose present point is t1 where that of the old one was t0 (R226). (DEDUCED, log 38.) -/
def Dpl.onAxis (x : Dpl) (t0 t1 : Nat) : Dpl :=
  let f (t : Nat) : Nat := (BitVec.ofInt 96 ((t : Int) - t0 + t1)).toNat
  { x with bprev := f x.bprev, hoAt := f x.hoAt, lockAt := x.lockAt.map f, lockedAt := x.lockedAt.map f, ys := x.ys.map (fun p => (f p.1, p.2)) }

/-- What a new value of a DPL register changes at once: an axis left for another, the report instants and the history intervals as they
are now numbered (R226, R249, R262). (DEDUCED, log 39.) -/
def dplRebase (l a : Nat) (s t : State) : State :=
  let x := t.dplS l
  if a = Reg.DPL_CFG l then
    let y := if (s.dplMode l = 2) = (t.dplMode l = 2) then x else x.onAxis (s.dplTime l s.bt) (t.dplTime l t.bt)
    t.setDpl l (if s.rf a 12 3 = t.rf a 12 3 then y else { y with rpt := t.rptNo l })
  else if a = Reg.DPL_HIST_CFG l then
    if t.rb a 8 ∧ ¬ s.rb a 8 then histBegin l t
    else if s.rf a 0 3 = t.rf a 0 3 then t else t.setDpl l { x with hIdx := t.histNo l }
  else t

/-- A write of a DPL configuration register: p and y stand at the present when it acts, and the conditions and the outputs follow
(R236, R240, R252, R258). -/
def wrDplCfg (l a : Nat) (v : Word) (s0 : State) : State :=
  let s := dplAdvance l s0
  let s2 := dplRebase l a s (plainWrite a v s)
  let s3 := dplEval l (dplOutputs (dplAdvance l s2))
  if s.tsLocked && !s3.tsLocked then asyUnlock s3 else s3

/-- A measurement of an entry is delivered: its monitors see the edge, and the loop takes it (R180, R225). -/
def measArrive (l n : Nat) (b : BT80) (x : WT96) (edges : Nat) (s : State) : State :=
  loopTake l n b (some x) edges (if s.pageLive Reg.REF then refDelivery n b edges s else s)

/-- LOOP_MEASUREMENT (R180, R225, R226). -/
def execLoopMeasurement (l : Fin 8) (n : Fin 48) (b : BT80) (x : WT96) (edges : Word) (s : State) : Host.Outcome State Fault Refusal :=
  cmdT (Reg.DPL l) (measArrive l n b x edges.toNat) s

/-- REPORT_INSTANT (R249). -/
def execReportInstant (l : Fin 8) (s : State) : Host.Outcome State Fault Refusal := cmdT (Reg.DPL l) (reportAt l) s

/-- FORCE_HO (R236, R238): a write of DPL_CMD. -/
def execForceHo (m : Master) (l : Fin 8) (v : Word) (s : State) : Host.Outcome State Fault Refusal :=
  cmdW m (Reg.DPL_CMD l) v (wrDplCmd l) s

/-- RELEASE (R236, R238): a write of DPL_CMD. -/
def execRelease (m : Master) (l : Fin 8) (v : Word) (s : State) : Host.Outcome State Fault Refusal :=
  cmdW m (Reg.DPL_CMD l) v (wrDplCmd l) s

/-- RESEED (R239): a write of DPL_CMD. -/
def execReseed (m : Master) (l : Fin 8) (v : Word) (s : State) : Host.Outcome State Fault Refusal :=
  cmdW m (Reg.DPL_CMD l) v (wrDplCmd l) s

/-- HISTORY_SAMPLE (R262). -/
def execHistorySample (l : Fin 8) (s : State) : Host.Outcome State Fault Refusal := cmdT (Reg.DPL l) (histSample l) s

/-- DPL_STATE_PAR (R236, R270). -/
def execDplStatePar (l : Fin 8) (s : State) : Host.Outcome State Fault Refusal := cmdE (Reg.DPL l) (fault .dpl l 0) s

end Sys2Proof.Machine
end

