-- ==== Sys2Proof/Machine/Gns.lean ====
section
/-! DEFINITION. The GNSS receiver: the sample interface, antenna power, acquisition, channels, navigation records and economy
(chapter 7). Measurement epochs stand with the spoofing check in Machine/Ant.lean. -/
namespace Sys2Proof.Machine

/-! ### The sample interface (R324 to R335) -/

/-- The value of a nibble of a sample by CODE (R324). -/
def sampleVal (code nib : Nat) : Int :=
  match code with
  | 0 => if nib < 8 then nib else (nib : Int) - 16
  | 1 => if nib < 8 then nib else 8 - (nib : Int)
  | _ => (nib : Int) - 8

/-- I and Q of a word (R324). -/
def sampleOf (code : Nat) (b : Byte) : Int × Int := (sampleVal code (b.toNat / 16), sampleVal code (b.toNat % 16))

/-- A sample counts as clipped (R324, R334). -/
def clipped (code : Nat) (x : Int × Int) : Bool :=
  let low : Int := if code = 1 then -7 else -8
  decide (x.1 = 7 ∨ x.1 = low ∨ x.2 = 7 ∨ x.2 = low)

/-- LAT of a lane (R328, R382). -/
def State.laneLat (s : State) (n : Nat) : Nat := s.rf (if n < 4 then Reg.GNS_SIF_LAT_A else Reg.GNS_SIF_LAT_B) (8 * (n % 4)) 6

/-- The samples of a lane from the words its receiver places from the first sample's period on: sample k is the word of period
k + LAT (R324, R328). -/
def State.laneSamples (s : State) (n : Nat) (words : List Byte) : List (Int × Int) :=
  (words.drop (s.laneLat n)).map (sampleOf (s.rf Reg.GNS_SIF_CFG 16 2))

/-- GNSS_SCLK is driven: CLK_EN is 1 and CD_GSMP runs (R58, R325, R335). -/
def State.sclkRuns (s : State) : Bool := s.rb Reg.GNS_SIF_CFG 0 && !s.quiescent

/-- GNSS_SCLK and GNSS_FRM in a cycle of CD_TB (R325, R326): half period k of the clock begins k * 3,125 / 384 ns after Bedrock 0, rising
where k is even; GNSS_FRM changes at falling edges and is high about the rising edge of sample 0, and throughout training (R329). -/
def sclkCycle (s : State) : State :=
  let c := s.bt.toNat / 65536
  let k := cdiv (384 * c) 3125
  if s.sclkRuns = false ∨ 384 * (c + 1) ≤ 3125 * k then s
  else
    let s1 := s.emit (.pin "GNSS_SCLK" (k % 2 == 0))
    if s.rb Reg.GNS_SIF_STAT 24 then s1
    else if k % 384 = 383 then s1.emit (.pin "GNSS_FRM" true)
    else if k % 384 = 1 then s1.emit (.pin "GNSS_FRM" false)
    else s1

/-- Lanes enabled (R383). -/
def State.laneEn (s : State) : Nat := s.rf Reg.GNS_SIF_CFG 8 8

/-- A write of GNS_SIF_CMD.TRAIN: ignored while training runs (R329, R332). (DEDUCED, log 44.) -/
def wrSifCmd (v : Word) (s : State) : State :=
  if ¬ bit v 0 ∨ s.rb Reg.GNS_SIF_STAT 24 then s
  else
    let en := s.laneEn
    let s1 := forN 8 (fun n a => if en / 2 ^ n % 2 = 1 then laneDrop n (a.setRb Reg.GNS_SIF_STAT (16 + n) false) else a) s
    let s2 := { s1 with gns := { s1.gns with trainAt := some s.bt } }
    (s2.setRb Reg.GNS_SIF_STAT 24 true).emit (.pin "GNSS_FRM" true)

/-- The 8,192 sample periods of training have passed (R329). -/
def State.trainOver (s : State) : Bool :=
  match s.gns.trainAt with
  | some b => s.elapsed b (cdiv (8192 * 3125) 192)
  | none => false

/-- Training ends: the enabled lanes on which the word was found are ALIGNED, the others have failed (R329, R330). (DEDUCED, log 44.) -/
def trainEnd (found : Byte) (s : State) : State :=
  if ¬ s.rb Reg.GNS_SIF_STAT 24 ∨ s.trainOver = false then s
  else
    let en := s.laneEn
    let ok := en &&& found.toNat
    let s1 := forN 8 (fun n a =>
      if ok / 2 ^ n % 2 = 1 then laneUp n a
      else if en / 2 ^ n % 2 = 1 then a.setRb Reg.GNS_SIF_STAT (16 + n) true else a) s
    let s2 := { s1 with gns := { s1.gns with trainAt := none } }
    raiseEvt Reg.GNS 1 ((s2.setRb Reg.GNS_SIF_STAT 24 false).emit (.pin "GNSS_FRM" false))

/-- A lane's phase has moved more than 2 UI (R332). -/
def sifLoss (n : Nat) (s : State) : State := if s.laneAligned n then raiseEvt Reg.GNS 0 (laneDrop n s) else s

/-- No word has changed for 4,096 samples, or one has (R333). -/
def stuckChange (n : Nat) (stuck : Bool) (s : State) : State :=
  if stuck then
    if s.laneAligned n ∧ s.rb Reg.GNS_SIF_STAT (8 + n) = false then fault .gns 0 0 (s.setRb Reg.GNS_SIF_STAT (8 + n) true) else s
  else s.setRb Reg.GNS_SIF_STAT (8 + n) false

/-- A write of GNS_SIF_CFG: a TWORD of equal nibbles and CODE 3 keep their fields, a disabled lane is not ALIGNED (R324, R331). -/
def wrSifCfg (v : Word) (s : State) : State :=
  let a := Reg.GNS_SIF_CFG
  let v1 := if fld v 24 4 = fld v 28 4 then setFld v 24 8 (s.rf a 24 8) else v
  let v2 := if fld v1 16 2 = 3 then setFld v1 16 2 (s.rf a 16 2) else v1
  let s1 := plainWrite a v2 s
  let s2 := if s.rb a 0 && !s1.rb a 0 then (s1.emit (.pin "GNSS_SCLK" false)).emit (.pin "GNSS_FRM" false) else s1   -- R325
  forN 8 (fun n b => if s2.laneEn / 2 ^ n % 2 = 1 then b else laneDrop n b) s2

/-! ### Antenna power (R337) -/

/-- Drive ANT_PWR_EN of an antenna. -/
def antDrive (a : Nat) (on : Bool) (s : State) : State :=
  if s.rb Reg.GNS_APWR a = on then s else (s.setRb Reg.GNS_APWR a on).emit (.pin ("ANT_PWR_EN" ++ toString a) on)

/-- ANT_FLT has a level; low for 1 ms, it switches the supply off once (R337). (DEDUCED, log 44.) -/
def antFlt (a : Nat) (low : Bool) (s : State) : State :=
  let s1 := s.setRb Reg.GNS_APWR (8 + a) low
  let put (x : Option (BT80 × Bool)) (t : State) : State := { t with gns := { t.gns with antLow := AMap.set none t.gns.antLow a x } }
  if ¬ low then put none s1
  else
    match AMap.get none s1.gns.antLow a with
    | none => put (some (s1.bt, false)) s1
    | some (b, done) =>
      if done = false ∧ s1.elapsed b 1000000 ∧ s1.rb Reg.GNS_APWR (4 + a) then
        fault .gns 0 1 (raiseEvt Reg.GNS 4 (antDrive a false (put (some (b, true)) s1)))
      else s1

/-- A write of GNS_APWR drives the pins (R337). A supply switched on into a fault that has lasted 1 ms goes off again.
(DEDUCED, log 44.) -/
def wrApwr (v : Word) (s : State) : State :=
  let s1 := plainWrite Reg.GNS_APWR v (forN 4 (fun a t => antDrive a (bit v a) t) s)
  forN 4 (fun a t =>
    match AMap.get none t.gns.antLow a with
    | some (b, true) =>
      if bit v a ∧ s.rb Reg.GNS_APWR a = false then
        antFlt a true { t with gns := { t.gns with antLow := AMap.set none t.gns.antLow a (some (b, false)) } }
      else t
    | _ => t) s1

/-! ### Acquisition (R338 to R349) -/

/-- The request at an offset of shared SRAM (R340). -/
def acqWords (s : State) (a : Nat) : AcqReq :=
  let w (i : Nat) : Word := s.sramW (a + 4 * i)
  { prn := fld (w 0) 0 8, sig := fld (w 0) 8 4, ant := fld (w 0) 12 2, chan := fld (w 0) 16 8, handoff := bit (w 0) 24,
    dopc := (w 1).toInt, span := fld (w 2) 0 16, tcoh := fld (w 2) 16 3, nnc := fld (w 2) 20 8, thr := fld (w 3) 0 16,
    tag := fld (w 3) 16 16 }

/-- Why a request is answered without a search, by its STATUS (R341, R344). -/
def acqRefusal (s : State) (r : AcqReq) : Option Nat :=
  let t := tcohMs r.tcoh
  let bins := 2 * cdiv (r.span * t) 500 + 1
  if ¬ sigOk r.sig r.prn then some 2
  else if tcohOk r.tcoh r.sig = false ∨ r.nnc = 0 ∨ 64 < t * r.nnc ∨ 1023 < bins then some 3
  else if s.laneAligned (laneOf r.ant r.sig) = false then some 4
  else none

/-- Write a result (R344, R348). -/
def acqAnswer (r : AcqReq) (status : Nat) (handed : Bool) (dop code : Word) (ratio cn0 : BitVec 16) (b : BT80) (s : State) : State :=
  let s1 := s.count Reg.ACQ_CNT_DONE
  let s2 := if status = 0 then s1.count Reg.ACQ_CNT_FOUND else s1
  let data := bytesLE 4 (r.prn + r.sig * 2 ^ 8 + r.ant * 2 ^ 12 + r.chan * 2 ^ 16 + status * 2 ^ 24 + b2n handed * 2 ^ 27) ++
    bytesLE 4 dop.toNat ++ bytesLE 4 code.toNat ++ bytesLE 4 (ratio.toNat + cn0.toNat * 2 ^ 16) ++ bytesLE 12 b.toNat ++
    bytesLE 4 r.tag
  let n := 2 ^ s.rf Reg.ACQ_RS_BASE 0 4
  let i := (s.reg Reg.ACQ_RS_WR).toNat % n
  if (i + 1) % n = (s.reg Reg.ACQ_RS_RD).toNat % n then raiseEvt Reg.ACQ 1 (s2.count Reg.ACQ_CNT_RDROP)
  else
    let s3 := s2.sramWr (s.rf Reg.ACQ_RS_BASE 12 13 * 4096 + 32 * i) data
    raiseEvt Reg.ACQ 0 (s3.setReg Reg.ACQ_RS_WR (BitVec.ofNat 32 ((i + 1) % n)))

/-- A channel whose request was answered without DETECTED queues it again while it waits (R346). -/
def acqAgain (r : AcqReq) (chan : Bool) (s : State) : State :=
  if chan ∧ s.gchSt r.chan = .acqWait then acqQueue r s else s

/-- The first frame boundary after the present cycle (R326): Bedrock a multiple of 3,125 cycles. -/
def State.nextFrame (s : State) : BT80 := cyc ((s.bt.toNat / 65536 / 3125 + 1) * 3125)

/-- HEAD moves past a software request (R339). -/
def acqAdvance (s : State) : State :=
  s.setReg Reg.ACQ_RQ_HEAD (BitVec.ofNat 32 (((s.reg Reg.ACQ_RQ_HEAD).toNat + 1) % 2 ^ s.rf Reg.ACQ_RQ_BASE 0 3))

/-- The engine takes a request: of both sources in turn (R339, R341, R347); the capture begins at the next frame
boundary. (DESIGN CHOICE, log 123.) -/
def acqTake (s : State) : State :=
  let q := s.gns.acq
  let n := 2 ^ s.rf Reg.ACQ_RQ_BASE 0 3
  let hd := (s.reg Reg.ACQ_RQ_HEAD).toNat % n
  let sw := decide (hd ≠ (s.reg Reg.ACQ_RQ_TAIL).toNat % n)
  let ch := !q.chq.isEmpty
  if ¬ s.pgEn Reg.ACQ ∨ q.active.isSome ∨ (sw = false ∧ ch = false) then s
  else
    let takeSw := sw && (!ch || !q.swLast)
    match (if takeSw then some (acqWords s (s.rf Reg.ACQ_RQ_BASE 12 13 * 4096 + 16 * hd)) else q.chq.head?) with
    | none => s
    | some r =>
      let q1 := { q with swLast := takeSw, sw := takeSw, chq := if takeSw then q.chq else q.chq.drop 1, noHand := false, begun := false }
      let s1 := { s with gns := { s.gns with acq := q1 } }
      match acqRefusal s1 r with
      | some st => acqAgain r (!takeSw) (acqAnswer r st false 0 0 0 0 0 (if takeSw then acqAdvance s1 else s1))
      | none => { s1 with gns := { s1.gns with acq := { q1 with active := some (r, s1.nextFrame) } } }

/-- Input samples for each that is stored (R338). -/
def decimation (sig : Nat) : Nat := if chipHz sig = 1023000 then 4 else 2

/-- The words that a lane's receiver places in n periods of 61.44 MHz from a frame boundary on (R322, R324, R326).
(DESIGN CHOICE, log 123.) -/
def laneWords (lane : Nat) (b : BT80) (n : Nat) : List Byte :=
  (List.range n).map (fun k => Config.laneWord lane (b.toNat / 65536 / 3125 * 192 + k))

/-- The snapshot of a request, from its frame boundary on: T_coh * N_nc of the lane's samples at 61.44 MS/s, filtered to the signal's band and decimated (R338).
(DESIGN CHOICE, log 123.) -/
def snapshot (s : State) (r : AcqReq) (b : BT80) : List Byte :=
  let n := laneOf r.ant r.sig
  let xs := s.laneSamples n (laneWords n b (tcohMs r.tcoh * r.nnc * 61440 + s.laneLat n))
  let k := decimation r.sig
  (List.range (cdiv xs.length k)).map
    (fun j => Config.bandFilter r.sig ((List.range 4).map (fun i => s.reg (Reg.ANT_NOTCH n i))) xs (k * j))

/-- At its frame boundary the capture begins, and HEAD moves past a software request (R338, R339). (DESIGN CHOICE, log 123.) -/
def acqBegin (s : State) : State :=
  match s.gns.acq.active with
  | none => s
  | some (r, b) =>
    let q := s.gns.acq
    if q.begun ∨ earlier s.bt b then s
    else
      let s1 := if q.sw then acqAdvance s else s
      { s1 with gns := { s1.gns with acq := { q with begun := true, mem := snapshot s r b } } }

/-- A handoff (R345): the channel enters PULLIN with the Doppler found and the code phase brought to the present. -/
def acqHandoff (c : Nat) (dop code : Word) (b : BT80) (s : State) : State :=
  let s1 := setGchSt c .pullin s
  let s2 := s1.setGch c { s1.gch c with at_ := b, code := code.toNat, dop := dop.toInt, car := 0 }
  let y := gchAt s2 c s2.bt
  s2.setGch c { y with car := 0 }

/-- The engine's search ends (R342 to R348); an error in the sample memory ends it with MEM_ERR (R349). -/
def acqEnd (ratio cn0 : BitVec 16) (dop code : Word) (err : Bool) (s : State) : State :=
  let memErr := err || s.inject Reg.ACQ 0
  let q := s.gns.acq
  match q.active with
  | none => s
  | some (r, b) =>
    if q.begun = false then s
    else
      let s1 := { s with gns := { s.gns with acq := { q with active := none, noHand := false, begun := false } } }
      let status := if memErr then 6 else if r.thr ≤ ratio.toNat then 0 else 1
      let s2 := if memErr then fault .acq 0 0 s1 else s1
      let x := s2.gch r.chan
      let hand := r.handoff && decide (status = 0) && !q.noHand && decide (s2.gchSt r.chan = .acqWait) &&
        decide (x.sig = r.sig ∧ x.prn = r.prn ∧ x.ant = r.ant)
      let s3 := if hand then acqHandoff r.chan dop code b s2
        else if r.handoff ∧ status = 0 then s2.count Reg.ACQ_CNT_HOMISS else s2
      let s4 := acqAnswer r status hand dop code ratio cn0 b s3
      if status = 0 then s4 else acqAgain r (!q.sw && !q.noHand) s4

/-- A write of ACQ_CMD.CANCEL_ALL (R349): a request taken whose capture has not begun is among those cancelled. -/
def wrAcqCmd (v : Word) (s : State) : State :=
  if ¬ bit v 0 then s
  else
    let q := s.gns.acq
    let n := 2 ^ s.rf Reg.ACQ_RQ_BASE 0 3
    let hd := (s.reg Reg.ACQ_RQ_HEAD).toNat % n
    let tl := (s.reg Reg.ACQ_RQ_TAIL).toNat % n
    let s0 := if q.active.isSome && q.sw && !q.begun then { s with gns := { s.gns with acq := { q with active := none, noHand := false } } } else s
    let s1 := forN ((tl + n - hd) % n) (fun i a =>
      acqAnswer (acqWords a (a.rf Reg.ACQ_RQ_BASE 12 13 * 4096 + 16 * ((hd + i) % n))) 5 false 0 0 0 0 0 a) s0
    s1.setReg Reg.ACQ_RQ_HEAD (BitVec.ofNat 32 tl)

/-! ### Channels -/

/-- Show a refusal in REJ and raise it (R350, R389). -/
def gchReject (c code : Nat) (s : State) : State := raiseEvt (Reg.GCH c) 5 (s.setRf (Reg.GCH_STAT c) 28 4 code)

/-- A START accepted: the channel starts afresh (R350, R351, R352). -/
def gchBegin (c : Nat) (s : State) : State :=
  let v := s.reg (Reg.GCH_CFG c)
  let aided := bit v 4
  let s1 := acqWithdraw c s
  let s2 := (s1.setRf (Reg.GCH_STAT c) 8 5 0).setGch c
    { sig := fld v 12 4, prn := fld v 16 8, ant := fld v 10 2, reacq := bit v 8, since := s.bt, at_ := s.bt, slipAt := s.bt,
      startAt := some s.bt, trk := s.reg (Reg.GCH_TRK c), lp := s.reg (Reg.GCH_LOOP c), tint := codeMs (fld v 12 4),
      startSec := if aided then some (wholeSec s.now + 1) else none, stepRec := (s.gch c).stepRec, stepNav := (s.gch c).stepNav }
  if aided then setGchSt c .idle s2
  else
    let s3 := setGchSt c .acqWait s2
    acqQueue (chanReq s3 c) s3

/-- A START (R350). (DEDUCED, log 44.) -/
def gchStart (c : Nat) (s : State) : State :=
  let v := s.reg (Reg.GCH_CFG c)
  let sig := fld v 12 4
  if ¬ sigOk sig (fld v 16 8) then gchReject c 1 s
  else if tcohOk (s.rf (Reg.GCH_LOOP c) 16 3) sig = false then gchReject c 2 s
  else if s.laneAligned (laneOf (fld v 10 2) sig) = false then gchReject c 4 s
  else gchBegin c s

/-- A write of GCH_CMD: both bits act as STOP, and a STOP goes before a START of its cycle; nothing while a page is disabled
(R352, R353, R385). -/
def wrGchCmd (c : Nat) (v : Word) (s : State) : State :=
  if ¬ s.gchOn c then s
  else if bit v 1 then gchStop c s
  else if bit v 0 ∧ (s.gch c).stopAt ≠ some s.bt then gchStart c s
  else s

/-- A write of GCH_TRK: without any weight it is refused (R356). -/
def wrGchTrk (c : Nat) (v : Word) (s : State) : State :=
  if fld v 20 6 = 0 ∧ fld v 26 6 = 0 then gchReject c 3 s else plainWrite (Reg.GCH_TRK c) v s

/-- A write of GCH_LOOP: reserved codes keep their fields; a TCOH that does not fit the running signal is refused (R358, R359). -/
def wrGchLoop (c : Nat) (v : Word) (s : State) : State :=
  let a := Reg.GCH_LOOP c
  let old := s.reg a
  let v1 := if 5 < fld v 0 3 then setFld v 0 3 (fld old 0 3) else v
  let v2 := if 5 < fld v1 8 3 then setFld v1 8 3 (fld old 8 3) else v1
  let v3 := if 4 < fld v2 12 3 then setFld v2 12 3 (fld old 12 3) else v2
  let t := fld v3 16 3
  let bad := decide (tcohMs t = 0) || (decide (s.gchSt c ≠ .idle) && !tcohOk t (s.gch c).sig)
  if bad then gchReject c 2 (plainWrite a (setFld v3 16 3 (fld old 16 3)) s) else plainWrite a v3 s

/-- The served second of an aided start has come (R351). -/
def gchAided (c : Nat) (s : State) : State :=
  let x := s.gch c
  match x.startSec with
  | none => s
  | some n =>
    if wholeSec s.now < n ∨ s.gchOn c = false then s
    else
      let s1 := setGchSt c .pullin s
      s1.setGch c { s1.gch c with startSec := none, at_ := s.bt, code := (s.reg (Reg.GCH_AIDCODE c)).toNat,
                                  dop := (s.reg (Reg.GCH_AIDDOP c)).toInt }

/-- The lock ratio of an integration (R361), 2^-32. (DESIGN CHOICE, log 45.) -/
def lockRatio (i q : Int) : Int := if i = 0 ∧ q = 0 then 0 else rne ((i * i - q * q) * 2 ^ 32) (i * i + q * q).toNat

/-- Sum of a list of integers. (DESIGN CHOICE, log 45.) -/
def sumI (l : List Int) : Int := l.foldl (· + ·) 0

/-- Lock indicators after an integration (R361 to R363). -/
def gchLocks (c : Nat) (s : State) : State :=
  let a := Reg.GCH_STAT c
  let x := s.gch c
  let full := decide (x.locks.length = 20)
  let n : Int := x.locks.length
  let m := sumI x.locks
  let e : Int := ((x.errs.foldl (· + ·) 0 : Nat) : Int)
  let s1 := if s.rb a 9 then (if n * 65536 < e * 10 then s.setRb a 9 false else s)
    else if full && decide (e * 20 ≤ n * 65536) then s.setRb a 9 true else s
  if s1.rb a 8 then
    (if m * 10 < 6 * n * 2 ^ 32 then
      ((s1.setRb a 8 false).setRb a 12 false).setGch c { x with relock := true }
    else s1)
  else if full && decide (8 * n * 2 ^ 32 ≤ m * 10) then
    let s2 := s1.setRb a 8 true
    let s3 := if x.sig = 0 then s2 else s2.setRb a 12 true
    if x.relock then gchSlip c s3 else s3
  else s1

/-- The instant s + OFS of a burst, with so many milliseconds after it (R377). -/
def State.burstTime (s : State) (sec ms : Nat) : WT96 :=
  BitVec.ofNat 96 ((sec * 1000 + s.rf Reg.GNS_BURST 0 10 + ms) * (1000000 * 65536))

/-- The pull-in of a burst, its first 20 ms, is over (R377). -/
def State.burstPulled (s : State) (c : Nat) : Bool :=
  match (s.gch c).burstSec with
  | some sec => !earlier s.now (s.burstTime sec 20)
  | none => false

/-- The carrier phase found at the end of a burst's pull-in is judged against the prediction (R379). -/
def burstJudge (c : Nat) (s : State) : State :=
  let x := s.gch c
  match x.pred with
  | none => s
  | some (b, car) =>
    if s.burstPulled c = false then s
    else
      let want := car + carrierOver (gchPredDop s c b + gchPredDop s c s.bt) (s.bt - b).toInt
      let s1 := s.setGch c { x with pred := none }
      if (x.car - want).natAbs ≤ 2 ^ 30 then s1 else gchSlip c s1

/-- Milliseconds of the integration that begins now (R359, R377): a primary code period in PULLIN and in the pull-in of a burst, T_coh in
TRACK, and in the rest of a burst the largest valid code up to T_coh that fits the time left. -/
def State.intMs (s : State) (c : Nat) : Nat :=
  let x := s.gch c
  let k := s.rf (Reg.GCH_LOOP c) 16 3
  match s.gchSt c, x.burstSec with
  | .track, _ => tcohMs k
  | .burst, some sec =>
    if s.burstPulled c = false then codeMs x.sig
    else
      let left := ((s.burstTime sec (s.rf Reg.GNS_BURST 16 5 * 20)).toNat - s.now.toNat) / (1000000 * 65536)
      (((List.range (k + 1)).reverse.filter (fun j => tcohOk j x.sig && decide (tcohMs j ≤ left))).map tcohMs).headD (codeMs x.sig)
  | _, _ => codeMs x.sig

/-- Bandwidths of the PLL in Hz, of the DLL in mHz and of the FLL in Hz by their codes (R358). -/
def pllHz (code : Nat) : Nat := [2, 5, 10, 15, 20, 30].getD code 0
/-- Bandwidth of the DLL in mHz (R358). -/
def dllMilliHz (code : Nat) : Nat := [50, 100, 200, 500, 1000, 2000].getD code 0
/-- Bandwidth of the FLL in Hz, 0 for off (R358). -/
def fllHz (code : Nat) : Nat := [0, 1, 2, 5, 10].getD code 0

/-- A discriminator of a pair of envelopes at an offset in 1/64 chip (R354, R355). (DESIGN CHOICE, log 122.) -/
def envDisc (sig off : Nat) (a b : Word) : Rat :=
  if a.toNat + b.toNat = 0 then Config.noEnvelope sig
  else Config.codeNorm sig off * (((a.toNat : Int) - (b.toNat : Int) : Int) : Rat) / (((a.toNat + b.toNat : Nat) : Int) : Rat)

/-- The code discriminator D, 2^-16 chip, with the offsets and weights of GCH_TRK (R354, R355): d is ES + 1 in 1/16 chip, v the mean of
VE + 1 and VL + 1 in 1/32 chip. (DESIGN CHOICE, log 45.) -/
def codeDisc (sig : Nat) (trk : Word) (x : Integration) : Int :=
  let del := envDisc sig (4 * (fld trk 0 4 + 1)) x.early x.late
  let dvv := envDisc sig ((fld trk 12 3 + 1) + (fld trk 15 3 + 1)) x.vEarly x.vLate
  rneRat (((bits trk 20 6).toInt * del + (bits trk 26 6).toInt * dvv) * 65536 / 8)

/-- The direction of the prompt that the carrier discriminator takes: whole for a pilot, without the sign of the data for the Costas
discriminator of SIG 0 (R357). -/
def promptDir (sig : Nat) (i q : Int) : Int × Int :=
  let g : Int := Int.gcd i q
  let u := if sig = 0 ∧ i < 0 then (-i, -q) else (i, q)
  if g = 0 then u else (u.1 / g, u.2 / g)

/-- The carrier loop at an integration boundary (R357, R358): an FLL in PULLIN and in the pull-in of a burst, at 5 Hz where FLL_BW is 0, with
the PLL once it is engaged; the PLL in TRACK, assisted by an FLL where FLL_BW is not 0. (DESIGN CHOICE, log 122.) -/
def carrierStep (s : State) (c : Nat) (pll : Bool) (x : Integration) : Int × Int :=
  let y := s.gch c
  let f := fllHz (fld y.lp 12 3)
  let pullIn := decide (s.gchSt c = .pullin) || (decide (s.gchSt c = .burst) && !s.burstPulled c)
  Config.carrierLoop (if pll then pllHz (fld y.lp 0 3) else 0) (if pullIn && f == 0 then 5 else f) y.tint
    (promptDir y.sig x.i.toInt x.q.toInt) x.ferr.toInt

/-- The PLL is engaged after an integration: in PULLIN from the first whose frequency error is below 0.1 / T_int on (R357). -/
def State.pllOn (s : State) (c : Nat) (x : Integration) : Bool :=
  let y := s.gch c
  match s.gchSt c with
  | .pullin => y.pll || decide (x.ferr.toInt.natAbs * y.tint < 102400)
  | .burst => s.burstPulled c
  | .track | .idle | .acqWait | .lost => true

/-- The replica of a channel after an integration: propagated to the boundary, and moved by the code loop and the carrier loop
(R355 to R360). (DESIGN CHOICE, log 45, 122.) -/
def gchLoops (c : Nat) (x : Integration) (s : State) : Gch :=
  let y := gchAt s c s.bt
  let d := codeDisc y.sig y.trk x
  let pll := s.pllOn c x
  let k := carrierStep s c pll x
  let per : Int := (codeChips y.sig : Int) * 262144
  let tot := (y.code : Int) + Config.codeLoop (dllMilliHz (fld y.lp 8 3)) y.tint d
  { y with code := (tot % per).toNat, cnt := ((y.cnt : Int) + tot / per).toNat % 2 ^ 32, dop := y.dop + k.1, car := y.car + k.2, pll := pll,
           sym := if x.sync then some (x.symPos.toNat, symPeriods y.sig x.secLen.toNat) else y.sym,
           locks := (lockRatio x.i.toInt x.q.toInt :: y.locks).take 20, errs := (d.natAbs :: y.errs).take 20, lastD := d }

/-- An integration boundary of a channel (R355 to R364): not while its lane is down or its correlators are gated. What was written to
GCH_TRK and GCH_LOOP holds from here on (R360). (DESIGN CHOICE, log 45.) -/
def gchIntegrate (c : Nat) (x : Integration) (s : State) : State :=
  let st := s.gchSt c
  let y := s.gch c
  let runs := decide (st = .pullin) || decide (st = .track) || (decide (st = .burst) && y.burstSec.isSome)
  if ¬ runs ∨ s.laneAligned (laneOf y.ant y.sig) = false then s
  else if s.inject (Reg.GCH c) 0 then fault .gch c 0 s
  else
    let s1 := (s.setGch c (gchLoops c x s)).setReg (Reg.GCH_CN0 c) (x.cn0.setWidth 32)
    let s2 := if x.sync then s1.setRb (Reg.GCH_STAT c) 10 true else s1
    let s3 := burstJudge c (gchLocks c s2)
    let next (t : State) : State :=
      t.setGch c ((t.gch c).latch (t.reg (Reg.GCH_TRK c)) (t.reg (Reg.GCH_LOOP c)) (t.intMs c))
    next (match st with
      | .pullin => if s3.rb (Reg.GCH_STAT c) 8 ∧ s3.rb (Reg.GCH_STAT c) 10 then setGchSt c .track s3 else s3
      | .track =>
        let low := decide (x.cn0.toNat < fld y.lp 20 8 * 256)
        let n := if low then (s3.gch c).lowRow + 1 else 0
        let s4 := s3.setGch c { s3.gch c with lowRow := n }
        if low ∧ fld y.lp 28 4 ≤ n then setGchSt c .lost s4 else s4
      | .idle | .acqWait | .burst | .lost => s3)

/-- 3 s in PULLIN without reaching TRACK (R352). -/
def pullinExpire (c : Nat) (s : State) : State :=
  if s.gchSt c = .pullin ∧ s.elapsed (s.gch c).since 3000000000 then gchLose c s else s

/-- The lane of a running channel has been down for 20 ms (R352). -/
def laneLoss (c : Nat) (s : State) : State :=
  let x := s.gch c
  let n := laneOf x.ant x.sig
  match AMap.get none s.gns.down n with
  | some b => if (s.gchSt c).active ∧ s.laneAligned n = false ∧ s.elapsed b 20000000 then gchLose c s else s
  | none => s

/-- LOST leads to ACQ_WAIT with AUTO_REACQ (R352). -/
def gchReacquire (c : Nat) (s : State) : State :=
  if s.gchSt c = .lost ∧ (s.gch c).reacq ∧ s.gchOn c then setGchSt c .acqWait s else s

/-! ### Navigation records (R370 to R374) -/

/-- Bits in a message unit of a signal (R370). -/
def navBits (sig : Nat) : Nat := [300, 300, 240, 244, 878, 288].getD sig 0

/-- Bit k of a unit, from 0. -/
def navBitAt (x : NavUnit) (k : Nat) : Bool := bit (x.data.getD (k / 8) 0) (7 - k % 8)

/-- The n bits of a unit from bit k on. -/
def navBitsAt (x : NavUnit) (k n : Nat) : List Bool := (List.range n).map (fun i => navBitAt x (k + i))

/-- The number that bits spell, the first the most significant. -/
def spell (l : List Bool) : Nat := l.foldl (fun a b => 2 * a + b2n b) 0

/-- One bit of CRC-24Q (R370). (PRESUMED, log 124.) -/
def crc24qStep (r : Nat) (b : Bool) : Nat :=
  let t := r * 2 % 2 ^ 24
  if (r / 2 ^ 23 % 2 == 1) != b then t ^^^ 0x864CFB else t

/-- CRC-24Q over bits, from a register of 0 (R370). (PRESUMED, log 124.) -/
def crc24q (l : List Bool) : Nat := l.foldl crc24qStep 0

/-- The bits l of a unit are followed, at bit k, by their CRC-24Q (R370). -/
def navCrcOk (x : NavUnit) (l : List Bool) (k : Nat) : Bool := crc24q l == spell (navBitsAt x k 24)

/-- The bits of a word of LNAV, from 1, that each of D25 to D30 takes, and whether it takes D30* rather than D29* (R371).
(PRESUMED, log 124.) -/
def lnavParity : List (Bool × List Nat) :=
  [(false, [1, 2, 3, 5, 6, 10, 11, 12, 13, 14, 17, 18, 20, 23]), (true, [2, 3, 4, 6, 7, 11, 12, 13, 14, 15, 18, 19, 21, 24]),
   (false, [1, 3, 4, 5, 7, 8, 12, 13, 14, 15, 16, 19, 20, 22]), (true, [2, 4, 5, 6, 8, 9, 13, 14, 15, 16, 17, 20, 21, 23]),
   (true, [1, 3, 5, 6, 7, 9, 10, 14, 15, 16, 17, 18, 21, 22, 24]), (false, [3, 5, 6, 8, 9, 10, 11, 13, 15, 19, 22, 23, 24])]

/-- Word w of an LNAV subframe, from 0, passes its parity: with D29* and D30* of the word before it, 0 for the first (R371).
(PRESUMED, log 124.) -/
def navWordOk (x : NavUnit) (w : Nat) : Bool :=
  let d29 := decide (0 < w) && navBitAt x (30 * w - 2)
  let d30 := decide (0 < w) && navBitAt x (30 * w - 1)
  lnavParity.zipIdx.all (fun p =>
    p.1.2.foldl (fun a k => a != navBitAt x (30 * w + k - 1)) (if p.1.1 then d30 else d29) == navBitAt x (30 * w + 24 + p.2))

/-- The checks of a unit that pass, in the bits of R371's parity field for LNAV; for B-CNAV1 the BCH code and the CRCs of subframes 2 and
3; the CRC alone for the others (R370, R371). (PRESUMED, log 124.) -/
def navPass (sig : Nat) (x : NavUnit) : Nat :=
  match sig with
  | 0 => natBits ((List.range 10).map (navWordOk x))
  | 1 => b2n (navCrcOk x (navBitsAt x 0 276) 276)
  | 2 => b2n (navCrcOk x (navBitsAt x 0 114 ++ navBitsAt x 120 82) 202)
  | 3 => b2n (navCrcOk x (navBitsAt x 0 214) 214)
  | 4 => b2n x.bch + 2 * b2n (navCrcOk x (navBitsAt x 14 576) 590) + 4 * b2n (navCrcOk x (navBitsAt x 614 240) 854)
  | _ => b2n (navCrcOk x (navBitsAt x 0 264) 264)

/-- The check code of a unit by the checks it passes: 0 PASS, 1 FAIL, 2 PARTIAL (R372). -/
def navCheck (sig pass : Nat) : Nat :=
  match sig with
  | 0 => if pass = 0x3FF then 0 else if pass % 4 = 3 then 2 else 1
  | 4 => if pass = 7 then 0 else if pass = 0 then 1 else 2
  | _ => if pass = 1 then 0 else 1

/-- fecMetric of a record (R373, R374): LDPC decoding that has not converged by LDPC_ITER iterations stops. -/
def fecMetric (s : State) (sig : Nat) (x : NavUnit) : Nat :=
  if sig = 0 then 0 else if (sig = 4 ∨ sig = 5) ∧ s.rf Reg.NAV_CFG 8 6 < x.fec.toNat then 0xFFFF else x.fec.toNat

/-- The 128 bytes of a record's bits: those of the unit, zero beyond them (R373). -/
def navBytes (sig : Nat) (x : NavUnit) : List Byte :=
  (List.range 128).map (fun j => BitVec.ofNat 8 (spell ((List.range 8).map (fun i => decide (8 * j + i < navBits sig) && navBitAt x (8 * j + i)))))

/-- Bytes 0 to 155 of a navigation record (R373). -/
def navBody (s : State) (c : Nat) (x : NavUnit) : List Byte :=
  let y := s.gch c
  bytesBE 1 2 ++ bytesBE 1 1 ++ bytesBE 1 c ++ bytesBE 1 y.ant ++ bytesBE 1 y.sig ++ bytesBE 1 y.prn ++ bytesBE 1 y.sig ++
  bytesBE 1 (navCheck y.sig (navPass y.sig x)) ++ bytesBE 2 (navBits y.sig) ++ bytesBE 2 (if y.sig = 0 then navPass 0 x else 0) ++
  bytesBE 2 (fecMetric s y.sig x) ++
  bytesBE 2 (b2n x.inverted + 2 * b2n (s.rb (Reg.GCH_STAT c) 12) + 4 * b2n (decide (y.stepNav < s.gns.stepNo))) ++
  bytesBE 12 (s.servedAt x.start).toNat ++ navBytes y.sig x

/-- FRAME_SYNC after a unit with a check code (R362, R372). -/
def navSync (c chk : Nat) (inverted : Bool) (s : State) : State :=
  let a := Reg.GCH_STAT c
  let y := s.gch c
  if chk = 1 then
    let s1 := s.setGch c { y with navFail := y.navFail + 1 }
    if 3 ≤ y.navFail + 1 then s1.setRb a 11 false else s1
  else
    let s1 := s.setGch c { y with navFail := 0 }
    if chk = 0 ∧ s1.rb a 11 = false then
      let s2 := raiseEvt (Reg.GCH c) 2 (s1.setRb a 11 true)
      if y.sig = 0 ∧ s2.rb a 12 = false then
        let x := s2.gch c
        (s2.setGch c { x with car := if inverted then x.car + 2 ^ 31 else x.car }).setRb a 12 true
      else s2
    else s1

/-- A message unit has been decoded in TRACK (R370 to R374, R390). -/
def navUnit (c : Nat) (x : NavUnit) (s : State) : State :=
  if s.gchSt c ≠ .track ∨ s.rb Reg.NAV_CFG 0 = false ∨ s.pgEn Reg.NAV = false then s
  else if x.parErr || s.inject Reg.NAV 0 then fault .nav 0 0 s
  else
    let chk := navCheck (s.gch c).sig (navPass (s.gch c).sig x)
    let s1 := navSync c chk x.inverted s
    let s2 := s1.count (if chk = 0 then Reg.NAV_CNT_PASS else Reg.NAV_CNT_FAIL)
    if chk = 1 ∧ s2.rb Reg.NAV_CFG 1 = false then s2
    else
      let body := navBody s2 c x
      let s3 := putNav (body ++ bytesBE 4 (crc32c body).toNat) s2
      s3.setGch c { s3.gch c with stepNav := s3.gns.stepNo }

/-- A write of NAV_CFG: with EN at 0 FRAME_SYNC stays 0 (R390). -/
def wrNavCfg (v : Word) (s : State) : State :=
  let s1 := plainWrite Reg.NAV_CFG v s
  if s1.rb Reg.NAV_CFG 0 then s1
  else forN 256 (fun c a => if a.rb (Reg.GCH_STAT c) 11 then a.setRb (Reg.GCH_STAT c) 11 false else a) s1

/-! ### Economy and bursts (R375 to R380) -/

/-- A channel goes into BURST: its correlators are gated until its first burst (R352, R378). -/
def burstEnter (c : Nat) (s : State) : State :=
  let s1 := setGchSt c .burst s
  let x := gchAt s c s.bt
  s1.setGch c { x.predictFrom s with since := s.bt, burstSec := none, pred := none, missRow := 0 }

/-- Economy is evaluated at a served whole second (R352, R376): a burst in progress completes. -/
def economyAt (s : State) : State :=
  let sec := wholeSec s.now
  if s.gns.lastEco = some sec then s
  else
    forN 256 (fun c a =>
      let e := a.econ c
      let a1 := if a.rb (Reg.GCH_STAT c) 13 = e then a else a.setRb (Reg.GCH_STAT c) 13 e
      match a1.gchSt c with
      | .track => if e then burstEnter c a1 else a1
      | .burst =>
        if e ∨ (a1.gch c).burstSec.isSome then a1
        else
          let x := gchAt a1 c a1.bt
          setGchSt c .pullin (a1.setGch c x)
      | .idle | .acqWait | .pullin | .lost => a1) { s with gns := { s.gns with lastEco := some sec } }

/-- The instant s + OFS of a burst has come (R377): the latest such instant, which is not one before the channel came into BURST, nor one
whose burst would be over. -/
def burstBegin (c : Nat) (s : State) : State :=
  let x := s.gch c
  let sec := (s.now.toNat - s.rf Reg.GNS_BURST 0 10 * 1000000 * 65536) / (65536 * 1000000000)
  if s.gchSt c ≠ .burst ∨ x.burstSec.isSome ∨ x.lastBurst = some sec ∨ after (s.servedAt x.since) (s.burstTime sec 0) ∨
     after s.now (s.burstTime sec (s.rf Reg.GNS_BURST 16 5 * 20)) then s
  else
    let y := (gchAt s c s.bt).latch (s.reg (Reg.GCH_TRK c)) (s.reg (Reg.GCH_LOOP c)) (codeMs x.sig)
    s.setGch c { y with burstSec := some sec, lastBurst := some sec, pred := some (s.bt, y.car) }

/-! ### Writes that the replicas feel (R369, R378) -/

/-- A write of what the predictions use: they are brought to the present first (R378). -/
def wrAiding (f : State → State) (s : State) : State := f (gchRebaseAll State.gchPredicts s)

/-- A write of GNS_IF_U or GNS_IF_L, by its band: the carrier NCO of a channel that integrates stays, so that its Doppler moves against the
IF (R369). (DEDUCED, log 122.) -/
def wrIf (band a : Nat) (v : Word) (s : State) : State :=
  let d := (v.toInt - (s.reg a).toInt) * 16
  let go (t : State) (c : Nat) : State :=
    if ¬ (t.gchSt c).active ∨ t.gchPredicts c ∨ sigBand (t.gch c).sig ≠ band then t
    else
      let x := gchAt t c t.bt
      t.setGch c { x with dop := x.dop - d }
  plainWrite a v ((s.gns.chs.map (·.1)).foldl go s)

/-! ### Commands -/

/-- GNSS_TRAIN (R329). -/
def execGnsTrain (m : Master) (v : Word) (s : State) : Host.Outcome State Fault Refusal := cmdW m Reg.GNS_SIF_CMD v (wrSifCmd) s
/-- TRAIN_DONE (R329). -/
def execTrainDone (found : Byte) (s : State) : Host.Outcome State Fault Refusal := cmdT Reg.GNS (trainEnd found) s
/-- GNS_SIF (R332). -/
def execGnsSif (lane : Fin 8) (s : State) : Host.Outcome State Fault Refusal := cmdE Reg.GNS (sifLoss lane) s
/-- LANE_STUCK (R333). -/
def execLaneStuck (lane : Fin 8) (stuck : Bool) (s : State) : Host.Outcome State Fault Refusal :=
  cmdE Reg.GNS (stuckChange lane stuck) s
/-- ANT_PWR (R337). -/
def execAntPwr (a : Fin 4) (low : Bool) (s : State) : Host.Outcome State Fault Refusal := cmdE Reg.GNS (antFlt a low) s
/-- ACQ_REQUEST (R341). -/
def execAcqRequest (s : State) : Host.Outcome State Fault Refusal := cmdT Reg.ACQ acqTake s
/-- ACQ_RESULT (R342). -/
def execAcqResult (ratio cn0 : BitVec 16) (dop code : Word) (memErr : Bool) (s : State) : Host.Outcome State Fault Refusal :=
  cmdT Reg.ACQ (acqEnd ratio cn0 dop code memErr) s
/-- CANCEL_ALL (R349). -/
def execCancelAll (m : Master) (v : Word) (s : State) : Host.Outcome State Fault Refusal := cmdW m Reg.ACQ_CMD v (wrAcqCmd) s
/-- CHANNEL_START (R350): a write of GCH_CMD. -/
def execChannelStart (m : Master) (c : Fin 256) (v : Word) (s : State) : Host.Outcome State Fault Refusal :=
  cmdW m (Reg.GCH_CMD c) v (wrGchCmd c) s
/-- CHANNEL_STOP (R352): a write of GCH_CMD. -/
def execChannelStop (m : Master) (c : Fin 256) (v : Word) (s : State) : Host.Outcome State Fault Refusal :=
  cmdW m (Reg.GCH_CMD c) v (wrGchCmd c) s
/-- AIDED_PULLIN_START (R351). -/
def execAidedPullinStart (c : Fin 256) (s : State) : Host.Outcome State Fault Refusal := cmdT (Reg.GCH c) (gchAided c) s
/-- CHANNEL_INTEGRATION (R361). -/
def execChannelIntegration (c : Fin 256) (x : Integration) (s : State) : Host.Outcome State Fault Refusal :=
  cmdT (Reg.GCH c) (gchIntegrate c x) s
/-- PULLIN_TIMEOUT (R352). -/
def execPullinTimeout (c : Fin 256) (s : State) : Host.Outcome State Fault Refusal := cmdT (Reg.GCH c) (pullinExpire c) s
/-- CHANNEL_LANE_LOSS (R352). -/
def execChannelLaneLoss (c : Fin 256) (s : State) : Host.Outcome State Fault Refusal := cmdT (Reg.GCH c) (laneLoss c) s
/-- CHANNEL_REACQUIRE (R352). -/
def execChannelReacquire (c : Fin 256) (s : State) : Host.Outcome State Fault Refusal := cmdT (Reg.GCH c) (gchReacquire c) s
/-- NAV_RECORD (R370). -/
def execNavRecord (c : Fin 256) (x : NavUnit) (s : State) : Host.Outcome State Fault Refusal := cmdT (Reg.GCH c) (navUnit c x) s
/-- ECONOMY_EVALUATE (R376). -/
def execEconomyEvaluate (s : State) : Host.Outcome State Fault Refusal := cmdT Reg.GNS economyAt s
/-- BURST_START (R377). -/
def execBurstStart (c : Fin 256) (s : State) : Host.Outcome State Fault Refusal := cmdT (Reg.GCH c) (burstBegin c) s

end Sys2Proof.Machine
end

