-- ==== Sys2Proof/Machine/Ant.lean ====
section
/-! DEFINITION. GNSS time integrity: solution delivery, interference, measurement epochs with the spoofing check, and the raw
receiver pulse (chapter 8). -/
namespace Sys2Proof.Machine

/-! ### Solution delivery (R395 to R399) -/

/-- A write of ANT_SOL_CTL (R395, R396): the quality word first, then the measurement. -/
def wrSolCtl (v : Word) (s : State) : State :=
  let e := fld v 0 6
  let st := fld v 8 8
  if e < 40 ∨ 43 < e ∨ 3 < st then s.count Reg.ANT_CNT_SOLREJ
  else
    let b : BT80 := BitVec.ofNat 80 (s.regN Reg.ANT_SOLB 3)
    let x : WT96 := BitVec.ofNat 96 (s.regN Reg.ANT_SOLX 3)
    let bad := if st < s.rf (Reg.REF_ENT_QTH e) 0 8 then some .quality else none
    let s1 := refMessage e st 0xFF bad false s
    loopsTake e b (some x) 1 (refEdge e ((s1.ent e).edges + 1) b s1)

/-! ### Interference (R402 to R406) -/

/-- A lane belongs to an antenna set (R393). -/
def State.laneIn (s : State) (k n : Nat) : Bool := s.rb (Reg.ANT_SET k) (n / 2) && s.rb (Reg.ANT_SET k) (4 + n % 2)

/-- A write of a notch: where the filter changes, it does so at the next sample frame boundary (R402, R403). (DEDUCED, log 48.) -/
def wrNotch (n j : Nat) (v : Word) (s : State) : State :=
  let a := Reg.ANT_NOTCH n j
  if 7680000 < (bits v 8 24).toInt.natAbs then s
  else
    let s1 := plainWrite a v s
    if s1.reg a = s.reg a ∨ (s.rb a 0 = false ∧ s1.rb a 0 = false) then s1
    else { s1 with ant := { s1.ant with notchDue := insNat s1.ant.notchDue n } }

/-- At a sample frame boundary the notches written take effect: each channel on their lanes counts a slip (R403). (DEDUCED, log 48.) -/
def notchCycle (s : State) : State :=
  if s.ant.notchDue = [] ∨ s.bt.toNat / 65536 % 3125 ≠ 0 then s
  else
    s.ant.notchDue.foldl (fun a n => (a.gns.chs.map (·.1)).foldl (fun t c => if t.gchOnLane n c then gchSlip c t else t) a)
      { s with ant := { s.ant with notchDue := [] } }

/-- ceil(40 log10 P) of the mean P = sum / n, 0 where it is negative: P of 4-bit samples is at most 2^7 (R404). -/
def levelDb (sum n : Nat) : Nat := ((List.range 86).find? (fun k => decide (sum ^ 40 ≤ 10 ^ k * n ^ 40))).getD 85

/-- What a lane's meter makes of its samples: ceil(40 log10 P), and the clipped samples (R334, R404). -/
def State.laneMeter (s : State) (x : JamLane) : Nat × Nat :=
  let xs := s.laneSamples x.lane x.words
  (levelDb (xs.foldl (fun a p => a + (p.1 * p.1 + p.2 * p.2).toNat) 0) xs.length, (xs.filter (clipped (s.rf Reg.GNS_SIF_CFG 16 2))).length)

/-- L, Φ and J of a lane from what its meter measured (R404). -/
def jamLane (s : State) (n : Nat) (x : JamLane) : Nat × Nat × Nat :=
  let agc := s.reg (Reg.ANT_AGC n)
  let cfg := s.reg Reg.ANT_JCFG
  let l : Nat := if bit cfg (24 + n) then (s.laneMeter x).1 - fld agc 16 16 else fld agc 16 16 - fld agc 0 16
  let phi := x.phi.toNat
  (l, phi, min 255 (cdiv (fld cfg 0 8 * l + fld cfg 8 8 * (phi - fld cfg 16 8)) 16))

/-- What a lane without a signal measures. (DESIGN CHOICE, log 46.) -/
def jamSilent (n : Fin 8) : JamLane := { lane := n, words := [], phi := 0, peak := 0 }

/-- Write ANT_JAMn, ANT_PEAKn and the clip counter of a lane (R334, R404, R406). -/
def jamShow (lanes : List JamLane) (n : Fin 8) (s : State) : State :=
  let x := (lanes.find? (fun y => decide (y.lane = n))).getD (jamSilent n)
  let en := decide (s.laneEn / 2 ^ n.val % 2 = 1)
  let s1 := if en then s.countBy (Reg.GNS_CNT_CLIP n) (s.laneMeter x).2 else s
  if en && s.laneAligned n then
    match jamLane s n x with
    | (l, phi, j) =>
      (s1.setReg (Reg.ANT_JAM n) (BitVec.ofNat 32 (j + satU 8 l * 256 + satU 8 phi * 65536))).setReg (Reg.ANT_PEAK n)
        (x.peak.setWidth 32)
  else s1.setReg (Reg.ANT_JAM n) 0

/-- JAM of a set after an evaluation (R405). -/
def jamJudge (k : Nat) (s : State) : State :=
  let js := ((List.range 8).filter (s.laneIn k)).map (fun n => s.rf (Reg.ANT_JAM n) 0 8)
  let lim := s.reg Reg.ANT_JLIM
  let up := js.any (fun j => decide (fld lim 0 8 < j))
  let down := js.all (fun j => decide (j ≤ fld lim 8 8))
  let r := if up then AMap.get 0 s.ant.jamRow k + 1 else 0
  let c := if down then AMap.get 0 s.ant.clrRow k + 1 else 0
  let s1 := { s with ant := { s.ant with jamRow := AMap.set 0 s.ant.jamRow k r, clrRow := AMap.set 0 s.ant.clrRow k c } }
  if fld lim 16 8 ≤ r then setJam k true s1 else if 100 ≤ c then setJam k false s1 else s1

/-- An evaluation of the interference meters (R404, R405). (DESIGN CHOICE, log 46.) -/
def jamEvaluate (lanes : List JamLane) (s : State) : State :=
  jamJudge 1 (jamJudge 0 ((List.finRange 8).foldl (fun a n => jamShow lanes n a) s))

/-! ### The spoofing check (R407 to R414) -/

/-- π, 2^-160. -/
def piFix : Nat := 0x3243F6A8885A308D313198A2E03707344A4093822

/-- The cosine series for x with its square and the term reached, all 2^-160. (DESIGN CHOICE, log 47.) -/
def cosSeries : Nat → Nat → Int → Int → Int
  | 0, _, _, _ => 0
  | f + 1, k, x2, term => term + cosSeries f (k + 1) x2 (-(rne (term * x2) (2 ^ 160)) / (((2 * k + 1) * (2 * k + 2) : Nat) : Int))

/-- cos(2 π n / d) for |n| at most d / 2, to the nearest 2^-96. (DESIGN CHOICE, log 47.) -/
def cosTurn (n : Int) (d : Nat) : Int :=
  let x := rne (2 * (piFix : Int) * n) d
  rne (cosSeries 40 0 (rne (x * x) (2 ^ 160)) (2 ^ 160)) (2 ^ 64)

/-- Wavelength of a signal in nm (R411). -/
def waveNm (sig : Nat) : Nat := if sigBand sig = 0 then 190293672 else 254828049

/-- Position of an antenna relative to A, mm: east, north, up (R407). -/
def State.antPos (s : State) (a : Nat) : Int × Int × Int :=
  if a = 0 then (0, 0, 0)
  else
    let en := s.reg (Reg.ANT_BL_EN (a - 1))
    ((bits en 0 16).toInt, (bits en 16 16).toInt, (bits (s.reg (Reg.ANT_BL_U (a - 1))) 0 16).toInt)

/-- Direction of a table entry, 2^-15: east, north, up (R408). -/
def State.svDir (s : State) (k : Nat) : Int × Int × Int :=
  let en := s.reg (Reg.ANT_SV_A k)
  ((bits en 0 16).toInt, (bits en 16 16).toInt, (bits (s.reg (Reg.ANT_SV_B k)) 0 16).toInt)

/-- A table entry is valid and current (R409, R410). -/
def State.svCurrent (s : State) (k : Nat) : Bool :=
  s.rb (Reg.ANT_SV_B k) 24 &&
    match AMap.get none s.ant.svAt k with
    | some t => decide (wholeSec s.now ≤ t + s.rf Reg.ANT_SCFG 28 4)
    | none => false

/-- The carrier phase of the eligible record of a table entry's satellite on an antenna (R410). -/
def epPhase (s : State) (recs : List EpRec) (k sig a : Nat) : Option Int :=
  let key := s.rf (Reg.ANT_SV_B k) 16 8
  if s.svCurrent k ∧ key / 64 = sig / 2 then
    (recs.find? (fun r => r.ok && decide (r.sig = sig ∧ r.ant = a ∧ r.prn = key % 64))).map EpRec.car
  else none

/-- The cosine of the residue of a double difference (R411): dd is in 2^-32 cycle. (DESIGN CHOICE, log 47.) -/
def spoofTerm (s : State) (sig a b k r : Nat) (dd : Int) : Int :=
  match s.antPos a, s.antPos b, s.svDir k, s.svDir r with
  | (ax, ay, az), (bx, by_, bz), (kx, ky, kz), (rx, ry, rz) =>
    let dot := (ax - bx) * (kx - rx) + (ay - by_) * (ky - ry) + (az - bz) * (kz - rz)
    let den := 2 ^ 32 * waveNm sig
    let num := dd * (waveNm sig : Int) - dot * 10 ^ 6 * 2 ^ 17
    let q := rne num den
    cosTurn (num - q * (den : Int)) den

/-- What the check has gathered: for each table entry its terms, and the entries marked as reference. -/
abbrev SpoofAcc := List (Nat × Int) × List Nat

/-- One signal on one pair of antennas (R411). -/
def spoofPair (s : State) (recs : List EpRec) (sig a b : Nat) (acc : SpoofAcc) : SpoofAcc :=
  let ks := (List.range 64).filterMap (fun k =>
    match epPhase s recs k sig a, epPhase s recs k sig b with
    | some p, some q => some (k, p - q)
    | _, _ => none)
  match ks with
  | [] | [_] => acc
  | f :: t =>
    let ref := t.foldl (fun best x => if (s.svDir best.1).2.2 < (s.svDir x.1).2.2 then x else best) f
    ((ks.filter (fun x => decide (x.1 ≠ ref.1))).map (fun x => (x.1, spoofTerm s sig a b x.1 ref.1 (x.2 - ref.2))) ++ acc.1,
      insNat acc.2 ref.1)

/-- The scores of a set (R411). -/
def spoofScores (s : State) (set : Nat) (recs : List EpRec) : List Nat :=
  let mine := recs.filter (fun r => s.laneIn set (laneOf r.ant r.sig))
  let ants := (List.range 4).filter (fun a => s.rb (Reg.ANT_SET set) a)
  let pairs := ants.flatMap (fun a => (ants.filter (fun b => decide (a < b))).map (fun b => (a, b)))
  let acc : SpoofAcc := (List.range 6).foldl (fun x sig => pairs.foldl (fun y p => spoofPair s mine sig p.1 p.2 y) x) ([], [])
  (List.range 64).map (fun k =>
    let ts := (acc.1.filter (fun p => decide (p.1 = k))).map (·.2)
    if ts.isEmpty then (if acc.2.contains k then 0xFE else 0xFF)
    else ((127 * ((ts.length : Int) * 2 ^ 96 + sumI ts)) / ((ts.length : Int) * 2 ^ 96)).toNat)

/-- Word w of the score registers of a set. -/
def scoreAddr (set w : Nat) : Nat := if set = 0 then Reg.ANT_SCORE0 w else Reg.ANT_SCORE1 w

/-- Write the scores of a set (R412). -/
def showScores (set : Nat) (l : List Nat) (s : State) : State :=
  forN 16 (fun w a => a.setReg (scoreAddr set w)
    (BitVec.ofNat 32 ((List.range 4).foldl (fun v i => v + l.getD (4 * w + i) 255 * 2 ^ (8 * i)) 0))) s

/-- Results of a check: 0 PASS, 1 FAIL, 2 INSUFFICIENT (R412, R422). -/
def spoofResult (s : State) (l : List Nat) : Nat :=
  let cfg := s.reg Reg.ANT_SCFG
  let sc := l.filter (fun x => decide (x ≤ 254))
  let n := sc.length
  let f := (sc.filter (fun x => decide (x < fld cfg 0 8))).length
  if n < fld cfg 12 4 then 2 else if fld cfg 8 4 * n < 8 * f then 1 else 0

/-- The check of a set on the records of an epoch (R411 to R413). -/
def spoofCheck (set : Nat) (recs : List EpRec) (s : State) : State :=
  if s.rb Reg.ANT_SCFG (24 + set) = false then s
  else
    let sc := spoofScores s set recs
    let r := spoofResult s sc
    let s1 := (showScores set sc s).setRf Reg.ANT_ISTAT (8 + 2 * set) 2 r
    let put (f p : Nat) (t : State) : State :=
      { t with ant := { t.ant with failRow := AMap.set 0 t.ant.failRow set f, passRow := AMap.set 0 t.ant.passRow set p } }
    let s2 := match r with
      | 0 =>
        let p := AMap.get 0 s1.ant.passRow set + 1
        let t := put 0 p s1
        if fld (s.reg Reg.ANT_SCFG) 20 4 ≤ p then setSpoof set false t else t
      | 1 =>
        let f := AMap.get 0 s1.ant.failRow set + 1
        let t := put f 0 (s1.count Reg.ANT_CNT_SPOOF)
        if fld (s.reg Reg.ANT_SCFG) 16 4 ≤ f then setSpoof set true t else t
      | _ => s1.count Reg.ANT_CNT_INSUF
    raiseEvt Reg.ANT 2 s2

/-- A write of ANT_SCFG: a set without the check has no SPOOF and no scores (R414, R423). -/
def wrScfg (v : Word) (s : State) : State :=
  let s1 := plainWrite Reg.ANT_SCFG v s
  antRefresh (forN 2 (fun k a => if a.rb Reg.ANT_SCFG (24 + k) then a else showScores k [] a) s1)

/-- A write of ANT_SVk_B (R409). -/
def wrSvB (k : Nat) (v : Word) (s : State) : State :=
  let s1 := plainWrite (Reg.ANT_SV_B k) v s
  { s1 with ant := { s1.ant with svAt := AMap.set none s1.ant.svAt k (some (wholeSec s1.now)) } }

/-! ### Measurement epochs (R365 to R368, R377, R380) -/

/-- The least Bedrock value from lo up to hi, by halving, whose served time is at or after t. -/
def leastServed (s : State) (t : WT96) : Nat → BT80 → Nat → BT80
  | 0, lo, n => lo + BitVec.ofNat 80 n
  | f + 1, lo, n =>
    if n = 0 then lo
    else
      let m := n / 2
      if atOrAfter (s.servedAt (lo + BitVec.ofNat 80 m)) t then leastServed s t f lo m
      else leastServed s t f (lo + BitVec.ofNat 80 (m + 1)) (n - m - 1)

/-- b_e of an epoch that has been reached: the least Bedrock value of the last 2^40 whose served time is at or after it (R365). -/
def State.epochAt (s : State) (t : WT96) : BT80 := leastServed s t 44 (s.bt - BitVec.ofNat 80 (2 ^ 40)) (2 ^ 40)

/-- GNS_MCFG.PERIOD in units of served time (R382). -/
def State.epochPer (s : State) : Nat := [10, 20, 50, 100, 200, 1000].getD (s.rf Reg.GNS_MCFG 0 3) 100 * (1000000 * 65536)

/-- Served time that the parameters before a change in this cycle give, if there is one. -/
def State.nowBefore (s : State) : WT96 :=
  match s.bdr.hist with
  | (a, _) :: (_, p) :: _ => if a = s.bt then (p.settle s.bt).served s.bt else s.now
  | _ => s.now

/-- The measurement epoch that this cycle reaches and that a step does not pass over, if any (R365, R366). -/
def State.epochDue (s : State) : Option WT96 :=
  let t : WT96 := BitVec.ofNat 96 (s.now.toNat / s.epochPer * s.epochPer)
  if s.pgEn Reg.GNS = false ∨ atOrAfter (s.servedAt (s.bt - cycle)) t ∨ (t ≠ s.now ∧ earlier s.nowBefore t) then none
  else
    match s.gns.lastEpoch with
    | some l => if after t l then some t else none
    | none => some t

/-- The epoch at which the burst under way of a channel ends (R377). -/
def State.burstEpoch (s : State) (c : Nat) : Option WT96 :=
  (s.gch c).burstSec.map (fun sec => s.burstTime sec (s.rf Reg.GNS_BURST 16 5 * 20))

/-- What the check takes from a channel's record (R410). -/
def epRec (s : State) (c : Nat) (b : BT80) : EpRec :=
  let x := gchAt s c b
  let st := s.reg (Reg.GCH_STAT c)
  let err := x.errRec || !s.laneAligned (laneOf x.ant x.sig)
  { sig := x.sig, prn := x.prn, ant := x.ant, car := x.car,
    ok := bit st 8 && bit st 12 && !x.slipRec && !err && decide (s.gchSt c ≠ .pullin) }

/-- Gather a record for the check of its epoch. (DESIGN CHOICE, log 46.) -/
def gather (t : WT96) (r : EpRec) (s : State) : State :=
  { s with ant := { s.ant with recs := if s.ant.recAt = t then s.ant.recs ++ [r] else [r], recAt := t } }

/-- Once every record of an epoch has been taken, the check runs on them for each set (R411). (DESIGN CHOICE, log 46.) -/
def epochCheck (t : WT96) (s : State) : State :=
  let open_ := s.gns.chs.any (fun p => decide (s.gchSt p.1 = .burst) && decide (s.burstEpoch p.1 = some t))
  if open_ ∨ s.epochDue = some t then s
  else
    let recs := if s.ant.recAt = t then s.ant.recs else []
    let s1 := { s with ant := { s.ant with recs := [] } }
    spoofCheck 1 recs (spoofCheck 0 recs s1)

/-- A measurement epoch is reached (R365 to R367). -/
def measEpoch (s : State) : State :=
  match s.epochDue with
  | none => s
  | some t =>
    let b := s.epochAt t
    let s1 := (s.gns.chs.map (·.1)).foldl (fun a c =>
      if a.gchSt c = .pullin ∨ a.gchSt c = .track then measRecord c t b false (gather t (epRec a c b) a) else a)
      { s with gns := { s.gns with lastEpoch := some t } }
    epochCheck t (raiseEvt Reg.GNS 2 s1)

/-- The end of a channel's burst (R377, R378, R380, R352). (DESIGN CHOICE, log 46.) -/
def burstEnd (c : Nat) (s : State) : State :=
  match s.burstEpoch c with
  | none => s
  | some t =>
    if s.gchSt c ≠ .burst ∨ earlier s.now t then s
    else
      let b := s.epochAt t
      let s1 := measRecord c t b true (gather t (epRec s c b) s)
      let lp := (s1.gch c).lp
      let missed := !s1.rb (Reg.GCH_STAT c) 8 || decide (s1.rf (Reg.GCH_CN0 c) 0 16 < fld lp 20 8 * 256)
      let x := gchAt s1 c s1.bt
      let s2 := s1.setGch c { x.predictFrom s1 with burstSec := none, pred := none, missRow := if missed then x.missRow + 1 else 0 }
      let s3 := if missed then raiseEvt (Reg.GCH c) 4 s2 else s2
      let s4 := if missed ∧ s3.rf Reg.GNS_BURST 24 4 ≤ x.missRow + 1 then gchLose c s3 else s3
      epochCheck t s4

/-! ### The raw receiver pulse (R415 to R421) -/

/-- Why an arm is refused, by its REJ code (R416, R422). (DEDUCED, log 49.) -/
def State.gppsRej (s : State) (t : BT80) : Option Nat :=
  let d := (t - s.bt).toInt
  if d < 20000000 * 65536 then some 1
  else if 950000000 * 65536 < d then some 2
  else if s.ant.pulse.isSome then some 3
  else if s.rb Reg.ANT_PPS_CFG 0 = false then some 4
  else none

/-- A UART is bound to a loop's template: it is the loop's while the loop is enabled (R261). -/
def State.tplUart (s : State) (u : Nat) : Bool :=
  (List.range 8).any (fun l => s.dplRuns l 2 && s.rb (Reg.DPL_CFG l) 6 && decide (s.rf (Reg.DPL_CFG l) 8 2 = u))

/-- Status, set and flags of a pulse's message (R419). -/
def gppsFlags (s : State) : Nat :=
  let k := s.rf Reg.ANT_PPS_META 8 1
  s.rf Reg.ANT_PPS_META 9 1 + 2 * b2n (s.spoofed k) + 4 * b2n (s.jammed k)

/-- The UART message of a pulse (R419). -/
def gppsMessage (s : State) : List Byte :=
  let m := s.reg Reg.ANT_PPS_META
  let body := bytesBE 1 2 ++ bytesBE 1 18 ++ bytesBE 6 (s.regN Reg.ANT_PPS_SEC 2) ++ bytesBE 4 (s.reg Reg.ANT_QERR).toNat ++
    bytesBE 1 (fld m 0 8) ++ bytesBE 1 (fld m 8 1) ++ bytesBE 1 (gppsFlags s) ++ [0] ++ bytesBE 4 (s.reg Reg.ANT_PPS_SEQ).toNat
  [0xB5, 0x12] ++ body ++ bytesBE 2 (crc16 body).toNat

/-- The ring record of a pulse (R420). -/
def gppsRecord (s : State) (t : BT80) : List Byte :=
  let m := s.reg Reg.ANT_PPS_META
  let body := [3, 1] ++ bytesBE 1 (fld m 8 1) ++ bytesBE 1 (fld m 0 8) ++ bytesBE 1 (gppsFlags s) ++ [0, 0, 0] ++
    bytesBE 6 (s.regN Reg.ANT_PPS_SEC 2) ++ [0, 0] ++ bytesBE 10 t.toNat ++ [0, 0] ++
    bytesBE 10 (s.regN Reg.ANT_PPS_EDGE 3) ++ [0, 0] ++ bytesBE 4 (s.reg Reg.ANT_QERR).toNat ++
    bytesBE 4 (s.reg Reg.ANT_PPS_SEQ).toNat ++ List.replicate 12 0
  body ++ bytesBE 4 (crc32c body).toNat

/-- The message and the record of an accepted arm (R418, R421). -/
def gppsReport (t : BT80) (s : State) : State :=
  let cfg := s.reg Reg.ANT_PPS_CFG
  let s1 := if bit cfg 3 then putMeas (gppsRecord s t) s else s
  if bit cfg 2 then
    (if s1.tplUart (fld cfg 8 2) then s1.setRb Reg.ANT_PPS_STAT 1 true
     else uartSend (fld cfg 8 2) (gppsMessage s1) (s1.setRb Reg.ANT_PPS_STAT 1 false))
  else s1.setRb Reg.ANT_PPS_STAT 1 false

/-- An arm with target t (R416 to R418). (DEDUCED, log 49.) -/
def gppsArm (t : BT80) (s : State) : State :=
  match s.gppsRej t with
  | some r => raiseEvt Reg.ANT 4 (s.setRf Reg.ANT_PPS_STAT 4 3 r)
  | none =>
    let c := (rne t.toNat 65536).toNat
    let q := rne (((c * 65536 : Nat) : Int) * 1000 - (t.toNat : Int) * 1000) 65536
    let s1 := (s.setReg Reg.ANT_QERR (BitVec.ofInt 32 q)).setRegN Reg.ANT_PPS_EDGE (c * 65536 % 2 ^ 80) 3
    let s2 := (s1.setReg Reg.ANT_PPS_SEQ (s1.reg Reg.ANT_PPS_SEQ + 1)).setReg Reg.ANT_PPS_STAT 1
    let lead := BitVec.ofNat 80 (c * 65536)
    let s3 := { s2 with ant := { s2.ant with pulse := some (lead, lead + cyc (s.rf Reg.ANT_PPS_CFG 16 10 * 1000000), false) } }
    raiseEvt Reg.ANT 3 (gppsReport t s3)

/-- A write of ANT_PPS_BT_HI commits t and arms (R415). -/
def wrPpsBtHi (m : Master) (v : Word) (s : State) : State :=
  let t := s.commitWords m Reg.ANT_PPS_BT 3 (v &&& 0xFFFF#32)
  gppsArm (BitVec.ofNat 80 t) ((s.setRegN Reg.ANT_PPS_BT t 3).dropStaged m Reg.ANT_PPS_BT 3)

/-- The level of GNSS_PPS while it is at its active or inactive level (R424). -/
def gppsDrive (active : Bool) (s : State) : State := s.emit (.pin "GNSS_PPS" (active != s.rb Reg.ANT_PPS_CFG 1))

/-- An edge of the pulse is due (R417). -/
def gppsEdge (s : State) : State :=
  match s.ant.pulse with
  | none => s
  | some (a, b, false) =>
    if atOrAfter s.bt a then gppsDrive true { s with ant := { s.ant with pulse := some (a, b, true) } } else s
  | some (_, b, true) =>
    if atOrAfter s.bt b then
      gppsDrive false ({ s with ant := { s.ant with pulse := none } }.setRb Reg.ANT_PPS_STAT 0 false)
    else s

/-- A write of ANT_PPS_CFG: EN at 0 cancels a pulse not begun (R418, R424). -/
def wrGppsCfg (v : Word) (s : State) : State :=
  let s1 := plainWrite Reg.ANT_PPS_CFG v s
  let begun := match s1.ant.pulse with
    | some (_, _, g) => g
    | none => false
  let s2 := if begun || (s1.rb Reg.ANT_PPS_CFG 1 == s.rb Reg.ANT_PPS_CFG 1) then s1 else gppsDrive false s1
  match s2.ant.pulse with
  | some (_, _, false) =>
    if s2.rb Reg.ANT_PPS_CFG 0 then s2
    else { s2 with ant := { s2.ant with pulse := none } }.setRb Reg.ANT_PPS_STAT 0 false
  | _ => s2

/-! ### Commands -/

/-- SOLUTION_DELIVERY (R395). -/
def execSolutionDelivery (m : Master) (v : Word) (s : State) : Host.Outcome State Fault Refusal := cmdW m Reg.ANT_SOL_CTL v (wrSolCtl) s
/-- MEASUREMENT_EPOCH (R365). -/
def execMeasurementEpoch (s : State) : Host.Outcome State Fault Refusal := cmdT Reg.GNS measEpoch s
/-- BURST_END (R380). -/
def execBurstEnd (c : Fin 256) (s : State) : Host.Outcome State Fault Refusal := cmdT (Reg.GCH c) (burstEnd c) s
/-- JAM_EVALUATE (R404). -/
def execJamEvaluate (lanes : List JamLane) (s : State) : Host.Outcome State Fault Refusal := cmdT Reg.ANT (jamEvaluate lanes) s
/-- GNSS_PPS_ARM (R416): a write of ANT_PPS_BT_HI. -/
def execGnssPpsArm (m : Master) (v : Word) (s : State) : Host.Outcome State Fault Refusal :=
  cmdW m (Reg.ANT_PPS_BT + 8) v (wrPpsBtHi m) s
/-- GNSS_PPS_EDGE (R417). -/
def execGnssPpsEdge (s : State) : Host.Outcome State Fault Refusal := cmdT Reg.ANT gppsEdge s
/-- GNSS_PPS_CFG_WRITE (R418). -/
def execGnssPpsCfgWrite (m : Master) (v : Word) (s : State) : Host.Outcome State Fault Refusal := cmdW m Reg.ANT_PPS_CFG v (wrGppsCfg) s
/-- ANT_CFG_PAR (R426). -/
def execAntCfgPar (s : State) : Host.Outcome State Fault Refusal := cmdE Reg.ANT (fault .ant 0 0) s

end Sys2Proof.Machine
end

