-- ==== Sys2Proof/Machine/KeyCore.lean ====
section
/-! DEFINITION. The key ladder, the Lodestone register with its subkey cache, and the DRBG (R742 to R752, R773 to R778). -/
namespace Sys2Proof.Machine

/-! ### Roots (R743, R746) -/

/-- The root that the key ladder holds (R743). -/
def State.root (s : State) : Option (List Byte) :=
  if s.fltBit Reg.LCS 0 then none
  else match s.lifeCycle with
    | 3 => some testRoot
    | 4 => none
    | _ => some fieldRoot

/-- Show the public keys of the root as the KEY page leaves reset (R746); without a root they read 0. (DEDUCED, log 82.) -/
def showRootKeys (s : State) : State :=
  let k := s.root
  let id := match k with | some r => idPublic r | none => List.replicate 32 0
  let xp := match k with | some r => xPublic r | none => List.replicate 32 0
  forN 8 (fun i a => (a.setReg (Reg.KEY_IDPUB i) (keyWord id i)).setReg (Reg.KEY_XPUB i) (keyWord xp i)) s

/-- The serial number (R742). -/
def State.serial (s : State) : Nat := s.regN Reg.LCS_SERIAL 2

/-! ### The DRBG (R774 to R777) -/

/-- The DRBG withholds output. -/
def State.withheld (s : State) : Bool := s.rb Reg.TRN_STAT 1

/-- A health-test failure: output is withheld and the start-up test restarts; the third rapid failure latches TRN_FAIL
(R775, R776). (DESIGN CHOICE, log 84.) -/
def healthFail (s : State) : State :=
  let rapid := match s.trn.passAt with
    | some b => !s.elapsed b 1000000000
    | none => false
  let run := if rapid then min 3 (s.rf Reg.TRN_STAT 4 2 + 1) else 1
  let s1 := raiseEvt Reg.TRN 0 ((s.setRf Reg.TRN_STAT 0 2 3).setRf Reg.TRN_STAT 4 2 run)
  let s2 := { s1 with trn := { s1.trn with passAt := none } }
  if run = 3 ∧ s2.rb Reg.TRN_STAT 2 = false then fault .trn 0 0 (s2.setRb Reg.TRN_STAT 2 true) else s2

/-- A parity error in the DRBG state is handled as a health failure (R793). -/
def drbgParity (s : State) : State := healthFail (fault .trn 0 1 s)

/-- Key of the DRBG state in `State.badWords`. -/
@[reducible] def badDrbg : Nat := Reg.TRN + 0xFF8

/-- Draw n bytes: none while output is withheld or the DRBG state is bad. What the DRBG gives is a free value. (DESIGN CHOICE, log 84.) -/
def drbg (n : Nat) (s : State) : Option (List Byte) × State :=
  if s.withheld then (none, s)
  else if AMap.get false s.badWords badDrbg then (none, drbgParity { s with badWords := s.badWords.erase badDrbg })
  else
    let s1 := { s.nextFree with trn := { s.trn with requests := s.trn.requests + 1 } }
    (some (bytesLE n s.freeVal), { s1 with badWords := AMap.set false s1.badWords badDrbg (s.inject Reg.TRN 0) })

/-! ### The subkey cache (R750 to R752) -/

/-- The bytes of the key in the Lodestone register. -/
def State.lodestone (s : State) : Option (List Byte) := s.key.lode.map (fun k => bytesBE 32 k.toNat)

/-- Fetch a Lodestone-derived key through the subkey cache; none without a key in the register. A cached entry with a parity error
invalidates the cache and is derived again (R750, R793). -/
def subkey (lab : String) (ctx : List Byte) (l : Nat) (s : State) : Option (List Byte) × State :=
  match s.lodestone with
  | none => (none, s)
  | some lode =>
    let tag := label8 lab ++ ctx ++ bytesBE 4 l
    let bad := if s.inject Reg.KEY 0 then (1 : Byte) else 0
    let key := kdf lode (label8 lab) ctx l
    let miss (t : State) : State :=
      (t.count Reg.KEY_CNT_MISS) |> fun u => { u with key := { u.key with cache := ((bad :: tag) :: u.key.cache).take 16 } }
    match s.key.cache.find? (fun e => decide (e.drop 1 = tag)) with
    | none => (some key, miss s)
    | some e =>
      if e.headD 0 ≠ 0 then (some key, miss (fault .key 0 2 s))
      else
        let s1 := s.count Reg.KEY_CNT_HIT
        (some key, { s1 with key := { s1.key with cache := e :: s1.key.cache.filter (fun x => decide (x ≠ e)) } })

/-- The Lodestone register changes: every cache entry is invalidated (R748, R751). -/
def setLode (k : Option (BitVec 256)) (s : State) : State :=
  { s with key := { s.key with lode := k, cache := [] } }.setRb Reg.KEY_STAT 0 k.isSome

/-- The cookie key of an epoch (R745). -/
def cookieKey (epoch : Nat) (s : State) : Option (List Byte) × State := subkey "B5NTSCK1" (bytesBE 4 epoch) 256 s

/-- The key of PTP security association j (R745, R789). -/
def saKey (j : Nat) (s : State) : Option (List Byte) × State :=
  let a := Reg.KEY_SA j
  let alg := s.rf a 16 1
  subkey "B5PTPSA1" (bytesBE 1 (s.rf a 0 8) ++ bytesBE 4 (s.rf a 8 8) ++ bytesBE 1 alg) (if alg = 0 then 256 else 128) s

/-- The 16-byte tag of a message under a security association (R763). -/
def saTag (alg : Nat) (key msg : List Byte) : List Byte :=
  if alg = 0 then (hmacSha256 key msg).take 16 else aesCmac key msg

/-! ### Boot load (R760) -/

/-- Results of the boot load (R788). -/
inductive BootResult where
  | ok | noKey | erased | ctrMismatch | unwrapFail | debug
  deriving DecidableEq, Repr

/-- The code of a result. -/
def BootResult.code : BootResult → Nat
  | .ok => 0 | .noKey => 1 | .erased => 2 | .ctrMismatch => 3 | .unwrapFail => 4 | .debug => 5

/-- An MRAM key slot. -/
def State.keySlot (s : State) (i : Nat) : Option KeySlot := AMap.get none s.key.slots i
/-- Store an MRAM key slot. -/
def State.setKeySlot (s : State) (i : Nat) (x : Option KeySlot) : State :=
  { s with key := { s.key with slots := AMap.set none s.key.slots i x } }

/-- The Geode mirror is written (R757, R760, R939). -/
def setGeoCtr (c : Nat) (s : State) : State :=
  let s1 := { s with key := { s.key with geoCtr := some c } }.setReg Reg.KEY_CTR_GEO (BitVec.ofNat 32 c)
  (s1.setReg Reg.GEO_KCTR (BitVec.ofNat 32 c)).setRb Reg.GEO_STAT 6 true

/-- Report the result of the boot load. -/
def bootEnd (r : BootResult) (s : State) : State := raiseEvt Reg.KEY 3 (s.setRf Reg.KEY_STAT 16 4 r.code)

/-- The storage key (R745). -/
def State.storageKey (s : State) : Option (List Byte) := s.root.map (fun r => rootKey r "B5STORE1")

/-- boot_load (R760, R937). -/
def bootLoad (s0 : State) : State :=
  let s := match s0.key.geoCtr with
    | some g => s0.setReg Reg.KEY_CTR_GEO (BitVec.ofNat 32 g)
    | none => s0.setReg Reg.KEY_CTR_GEO 0
  let c := s.key.mramCtr
  if s.rb Reg.GEO_STAT 1 then bootEnd .erased (((s.setKeySlot 0 none).setKeySlot 1 none).setRb Reg.GEO_STAT 4 true)
  else if c < s.key.geoCtr.getD 0 then
    bootEnd .ctrMismatch (fault .key 0 1 (s.setReg Reg.KEY_CTR (BitVec.ofNat 32 (s.key.geoCtr.getD 0))))
  else
    let s1 := (setGeoCtr c s).setReg Reg.KEY_CTR (BitVec.ofNat 32 c)
    if s1.lifeCycle = 3 then bootEnd .debug s1
    else if s1.lifeCycle = 0 ∨ s1.lifeCycle = 4 then bootEnd .noKey s1
    else
      let good := [0, 1].find? (fun i => match s1.keySlot i with | some x => x.crcOk && decide (x.ctr = c) | none => false)
      match good.bind s1.keySlot with
      | none => bootEnd .noKey s1
      | some x =>
        match s1.storageKey.bind (fun k => keyUnwrap k x.wrapped) with
        | none => bootEnd .unwrapFail (fault .key 0 0 s1)
        | some k => bootEnd .ok ((setLode (some (BitVec.ofNat 256 (natBE k))) s1).setReg Reg.KEY_GEN 1)

end Sys2Proof.Machine
end

