-- ==== Sys2Proof/Machine/Key.lean ====
section
/-! DEFINITION. Key update envelopes, the TRNG and the life cycle (R742 to R760, R773 to R786). -/
namespace Sys2Proof.Machine

/-! ### Staging (R753 to R756) -/

/-- Refusals of STAGE and COMMIT (R788). -/
inductive KeyRej where
  | busy | access | state | format | serial | owner | sig | counter | badEph | unwrap | notStaged
  deriving DecidableEq, Repr

/-- The code of a refusal. -/
def KeyRej.code : KeyRej → Nat
  | .busy => 1 | .access => 2 | .state => 3 | .format => 4 | .serial => 5 | .owner => 6 | .sig => 7 | .counter => 8
  | .badEph => 9 | .unwrap => 10 | .notStaged => 11

/-- Refuse a STAGE or COMMIT (R755, R757). (DEDUCED, log 85.) -/
def keyRefuse (r : KeyRej) (s : State) : State :=
  raiseEvt Reg.KEY 2 ((s.setRf Reg.KEY_STAT 8 4 r.code).count Reg.KEY_CNT_REJ)

/-- The key in an envelope, unwrapped by R754; the first failure of checks 9 and 10. (DEDUCED, log 82.) -/
def unwrapEnvelope (s : State) (e : List Byte) : Except KeyRej (List Byte) :=
  match s.root with
  | none => .error .unwrap
  | some r =>
    let z := x25519 (rootKey r "B5XPORT1") (sliceB e 24 32)
    if z.all (fun b => b == 0) then .error .badEph
    else
      let kek := kdf z (label8 "B5KEKWR1") (bytesBE 8 s.serial ++ sliceB e 16 4 ++ sliceB e 24 32) 256
      match keyUnwrap kek (sliceB e 56 40) with
      | none => .error .unwrap
      | some k => .ok k

/-- The checks of R755, in their order: the key and its counter, or the first refusal. -/
def stageCheck (s : State) : Except KeyRej (List Byte × Nat) :=
  let a := s.rf Reg.KEY_ENV 8 17 * 256
  let e := s.sramRd a 192
  let ctr := beAt e 16 4
  if s.rb Reg.KEY_STAT 2 then .error .busy
  else if s.memBad (eaSram + a) 192 then .error .access
  else if s.lifeCycle = 0 ∨ 4 ≤ s.lifeCycle then .error .state
  else if beAt e 0 4 ≠ 0x4C445331 ∨ beAt e 4 1 ≠ 1 ∨ beAt e 5 1 ≠ 1 ∨ beAt e 6 2 ≠ 0 ∨ beAt e 20 4 ≠ 0 then .error .format
  else if beAt e 8 8 ≠ s.serial then .error .serial
  else if s.lcs.owner ≠ some ((List.range 8).map (keyWord (sha256 (sliceB e 96 32)))) then .error .owner
  else if edVerify (sliceB e 96 32) (e.take 128) (sliceB e 128 64) = false then .error .sig
  else if ctr ≤ (s.reg Reg.KEY_CTR).toNat then .error .counter
  else match unwrapEnvelope s e with
    | .error r => .error r
    | .ok k => .ok (k, ctr)

/-- A STAGE command (R755). -/
def keyStage (s : State) : State :=
  match stageCheck s with
  | .error r => keyRefuse r s
  | .ok (k, ctr) => { s with key := { s.key with accepted := some (BitVec.ofNat 256 (natBE k), ctr) } }

/-- An accepted envelope is staged (R756). -/
def keyStaged (s : State) : State :=
  match s.key.accepted with
  | none => s
  | some (k, ctr) =>
    let s1 := { s with key := { s.key with accepted := none, staged := some (k, ctr) }, thisCyc := { s.thisCyc with key := none } }
    raiseEvt Reg.KEY 0 ((s1.setRb Reg.KEY_STAT 1 true).setReg Reg.KEY_STG_CTR (BitVec.ofNat 32 ctr))

/-- A DISCARD command (R756, R759). -/
def keyDiscard (s : State) : State :=
  if s.rb Reg.KEY_STAT 2 then s else { s with key := { s.key with staged := none } }.setRb Reg.KEY_STAT 1 false

/-! ### Commit (R757, R758) -/

/-- Phase 1: the key, wrapped under the storage key, goes into the MRAM key slot that does not hold KEY_CTR (R757).
(DEDUCED, log 85.) -/
def commitStore (k : BitVec 256) (ctr : Nat) (s : State) : State :=
  let cur := (s.reg Reg.KEY_CTR).toNat
  let holds (i : Nat) : Bool := match s.keySlot i with | some x => x.crcOk && decide (x.ctr = cur) | none => false
  let i := if holds 0 then 1 else 0
  let s1 := match s.storageKey with
    | some sk => s.setKeySlot i (some { wrapped := keyWrap sk (bytesBE 32 k.toNat), ctr := ctr, crcOk := true })
    | none => s
  s1.setReg Reg.KEY_CSW (BitVec.ofNat 32 (1 + 4 * i))

/-- Phase 2 goes on: the MRAM counter word first, then its mirror in the Geode (R757). In DEBUG there is none (R758).
(DEDUCED, log 85.) -/
def commitCount (s : State) : State :=
  match s.key.committing with
  | none => s
  | some (_, ctr) =>
    if s.lifeCycle = 3 then s
    else if s.rf Reg.KEY_CSW 0 2 = 1 then { s with key := { s.key with mramCtr := ctr } }.setRf Reg.KEY_CSW 0 2 2
    else if s.key.geoCtr = some ctr then s
    else setGeoCtr ctr s

/-- A COMMIT command: BUSY, and phase 1 but in DEBUG (R757, R758). (DEDUCED, log 85.) -/
def keyCommit (s : State) : State :=
  if s.rb Reg.KEY_STAT 2 then keyRefuse .busy s
  else match s.key.staged with
    | none => keyRefuse .notStaged s
    | some (k, ctr) =>
      let s1 := { s with key := { s.key with committing := some (k, ctr) } }.setRb Reg.KEY_STAT 2 true
      if s.lifeCycle = 3 then s1 else commitStore k ctr s1

/-- Phase 3, with what of phase 2 is still to be done before it (R757). (DEDUCED, log 85.) -/
def keyCommitted (s : State) : State :=
  match s.key.committing with
  | some (k, ctr) =>
    let s0 := commitCount (commitCount s)
    let s1 := setLode (some k) { s0 with key := { s0.key with committing := none, staged := none },
                                         thisCyc := { s0.thisCyc with key := none } }
    let s2 := s1.setReg Reg.KEY_GEN (s1.reg Reg.KEY_GEN + 1)
    let s3 := if s.lifeCycle = 3 then s2 else s2.setReg Reg.KEY_CTR (BitVec.ofNat 32 ctr)
    raiseEvt Reg.KEY 1 ((s3.setRf Reg.KEY_STAT 1 2 0).setRf Reg.KEY_CSW 0 2 3)
  | none => s

/-- One write of KEY_CMD: COMMIT, then DISCARD, then STAGE (R759). -/
def keyCmd (v : Word) (s : State) : State :=
  let s1 := if bit v 1 then keyCommit s else s
  let s2 := if bit v 2 then keyDiscard s1 else s1
  if bit v 0 then keyStage s2 else s2

/-- What KEY_CMD writes of one cycle change, before the first of them. -/
def State.keyBase (s : State) : KeyBase :=
  s.thisCyc.key.getD { staged := s.key.staged, accepted := s.key.accepted, committing := s.key.committing, slots := s.key.slots,
                       stat := s.reg Reg.KEY_STAT, csw := s.reg Reg.KEY_CSW, cnt := s.reg Reg.KEY_CNT_REJ, cmds := [] }

/-- The KEY page as it stood before the KEY_CMD writes of the cycle. -/
def keyBack (b : KeyBase) (s : State) : State :=
  (({ s with key := { s.key with staged := b.staged, accepted := b.accepted, committing := b.committing, slots := b.slots }
      }.setReg Reg.KEY_STAT b.stat).setReg Reg.KEY_CSW b.csw).setReg Reg.KEY_CNT_REJ b.cnt

/-- The KEY_CMD writes of the cycle with one more, in the order host, control cluster, JTAG, calendar (R759). -/
def State.keyCmds (s : State) (m : Master) (v : Word) : List (Nat × Word) :=
  s.keyBase.cmds.takeWhile (fun c => decide (c.1 ≤ bdrRank m)) ++
    (bdrRank m, v) :: s.keyBase.cmds.dropWhile (fun c => decide (c.1 ≤ bdrRank m))

/-- The state t with a KEY_CMD write noted among those of the cycle. -/
def keyNoted (m : Master) (v : Word) (s t : State) : State :=
  { t with thisCyc := { t.thisCyc with key := some { s.keyBase with cmds := s.keyCmds m v } } }

/-- A write of KEY_CMD. Those of one cycle act in the order host, control cluster, JTAG, calendar: where one comes after a write that
it precedes in that order, the writes of the cycle act again in order (R759). (DEDUCED, log 85.) -/
def wrKeyCmd (m : Master) (v : Word) (s : State) : State :=
  if s.keyBase.cmds.all (fun c => decide (c.1 ≤ bdrRank m)) then keyNoted m v s (keyCmd v s)
  else keyNoted m v s ((s.keyCmds m v).foldl (fun t c => keyCmd c.2 t) (keyBack s.keyBase s))

/-! ### The TRNG (R773 to R778) -/

/-- A health test fails: the repetition count test or the adaptive proportion test (R773, R775). (DEDUCED, log 83.) -/
def trnHealth (apt : Bool) (s : State) : State := healthFail (s.count (if apt then Reg.TRN_CNT_APT else Reg.TRN_CNT_RCT))

/-- The start-up test passes: the DRBG is instantiated, or reseeded after a failure (R774 to R776). (DEDUCED, log 83.) -/
def trnResumed (s : State) : State :=
  if s.rb Reg.TRN_STAT 0 = false ∨ s.inject Reg.TRN 1 then s
  else
    let s1 := { s with trn := { s.trn with passAt := some s.bt } }.setRb Reg.TRN_STAT 0 false
    if s.rb Reg.TRN_STAT 2 then s1
    else
      let s2 := { s1 with trn := { s1.trn with reseedAt := s.bt, requests := 0, waits := [] } }.setRb Reg.TRN_STAT 1 false
      if s.rf Reg.TRN_STAT 4 2 = 0 then s2 else raiseEvt Reg.TRN 1 (s2.count Reg.TRN_CNT_RESEED)

/-- The reseed that 10 ms or 65,536 requests bring (R774). -/
def trnReseed (s : State) : State :=
  if s.withheld then s
  else if s.elapsed s.trn.reseedAt 10000000 || decide (65536 ≤ s.trn.requests) then
    { s with trn := { s.trn with reseedAt := s.bt, requests := 0 } }.count Reg.TRN_CNT_RESEED
  else s

/-- A read of TRN_OUT_LO (R778). -/
def trnOutRead (m : Master) (s : State) : Word × State :=
  match drbg 4 s with
  | (none, s1) => (0, s1.setShadow m (Reg.TRN_OUT + 4) 0)
  | (some l, s1) => (BitVec.ofNat 32 (natLE l), s1.setShadow m (Reg.TRN_OUT + 4) 1)

/-! ### The life cycle (R779 to R786) -/

/-- Refusals of LCS_CMD (R786). -/
inductive LcsRej where
  | source | confirm | state | format | serial | challenge | owner | sig | noEntropy | ownerZero
  deriving DecidableEq, Repr

/-- The code of a refusal. -/
def LcsRej.code : LcsRej → Nat
  | .source => 1 | .confirm => 2 | .state => 3 | .format => 4 | .serial => 5 | .challenge => 6 | .owner => 7 | .sig => 8
  | .noEntropy => 9 | .ownerZero => 10

/-- Refuse a life-cycle command (R782, R792). -/
def lcsRefuse (r : LcsRej) (s : State) : State := raiseEvt Reg.LCS 0 (s.setRf Reg.LCS_STAT 0 4 r.code)

/-- The 128 bytes of the token as written (R784, R786). -/
def State.token (s : State) : List Byte := (List.range 32).flatMap (fun i => bytesBE 4 (s.reg (Reg.LCS_TOKEN i)).toNat)

/-- The challenge, as 16 bytes. -/
def State.challenge (s : State) : List Byte := (List.range 4).flatMap (fun i => bytesBE 4 (s.reg (Reg.LCS_CHAL i)).toNat)

/-- The first check of R784 that a token for a purpose fails. (DEDUCED, log 86.) -/
def tokenRej (s : State) (purpose : Nat) : Option LcsRej :=
  let t := s.token
  if beAt t 0 4 ≠ 0x4C435431 ∨ beAt t 4 1 ≠ 1 ∨ beAt t 5 1 ≠ purpose ∨ beAt t 6 2 ≠ 0 then some .format
  else if beAt t 8 8 ≠ s.serial then some .serial
  else if s.rb Reg.LCS_STAT 8 = false ∨ sliceB t 16 16 ≠ s.challenge then some .challenge
  else if s.lcs.owner ≠ some ((List.range 8).map (keyWord (sha256 (sliceB t 32 32)))) then some .owner
  else if edVerify (sliceB t 32 32) (t.take 64) (sliceB t 64 64) = false then some .sig
  else none

/-- The challenge is consumed (R785). (DEDUCED, log 86.) -/
def dropChallenge (s : State) : State := s.setRb Reg.LCS_STAT 8 false

/-- An accepted transition: keys go, fuses are blown, memories are zeroed and the chip is reset (R783, R917, R941). -/
def lifeCycleTo (st : Nat) (s : State) : State :=
  let s1 := setLode none { s with key := { s.key with staged := none, accepted := none, committing := none } }
  let s2 := if st = 4 then (s1.setKeySlot 0 none).setKeySlot 1 none else s1
  let s3 := if st = 1 then
      { s2 with lcs := { s2.lcs with owner := some ((List.range 8).map (fun i => s2.reg (Reg.LCS_OWNER i))) } }
    else s2
  let s4 := if st = 3 then s3 else { s3 with lcs := { s3.lcs with fused := st } }.setRf Reg.LCS_STATE 4 3 st
  let s5 := { s4.setRf Reg.LCS_STATE 0 3 st with
    dram := [], badWords := s4.badWords.filter (fun p => decide (p.1 < 2 ^ 40 + eaDram) || decide (2 ^ 41 ≤ p.1)) }
  chipReset false (s5.setReg Reg.PWR_RSTCAUSE 4)

/-- A CHALLENGE command (R785). (DEDUCED, log 86.) -/
def lcsChallenge (s : State) : State :=
  match drbg 16 s with
  | (none, s1) => lcsRefuse .noEntropy (dropChallenge s1)
  | (some l, s1) =>
    let s2 := forN 4 (fun i a => a.setReg (Reg.LCS_CHAL i) (keyWord l i)) s1
    raiseEvt Reg.LCS 1 ((s2.setRb Reg.LCS_STAT 8 true).setRf Reg.LCS_STAT 0 4 0)

/-- The refusal of a transition command in its state, or the state it goes to (R781). (DEDUCED, log 86.) -/
def lcsTransition (cmd : Nat) (s : State) : Except LcsRej Nat :=
  let tok (p st : Nat) : Except LcsRej Nat := match tokenRej s p with | some r => .error r | none => .ok st
  match cmd, s.lifeCycle with
  | 2, 0 => if (List.range 8).all (fun i => s.reg (Reg.LCS_OWNER i) == 0) then .error .ownerZero else .ok 1
  | 3, 1 => .ok 2
  | 4, 1 => .ok 3
  | 4, 2 => tok 1 3
  | 5, 0 => .ok 4
  | 5, 1 => tok 2 4
  | 5, 2 => tok 2 4
  | _, _ => .error .state

/-- A write of LCS_CMD (R781 to R785). -/
def wrLcsCmd (m : Master) (v : Word) (s : State) : State :=
  let cmd := fld v 0 3
  let use (t : State) : State := if cmd = 4 ∨ cmd = 5 then dropChallenge t else t
  if cmd = 0 then s
  else if m ≠ .host ∧ m ≠ .jtag then lcsRefuse .source (use s)
  else if cmd = 1 then lcsChallenge s
  else if cmd ≤ 5 ∧ fld v 16 16 ≠ 0x4C43 then lcsRefuse .confirm (use s)
  else match lcsTransition cmd s with
    | .error r => lcsRefuse r (use s)
    | .ok st => lifeCycleTo st s

/-! ### Meanings -/

/-- STAGE (R755). -/
def execKeyStage (m : Master) (v : Word) (s : State) : Host.Outcome State Fault Refusal := cmdW m Reg.KEY_CMD v (wrKeyCmd m) s
/-- STAGED (R756). -/
def execKeyStaged (s : State) : Host.Outcome State Fault Refusal := cmdE Reg.KEY keyStaged s
/-- COMMIT (R757). -/
def execKeyCommit (m : Master) (v : Word) (s : State) : Host.Outcome State Fault Refusal := cmdW m Reg.KEY_CMD v (wrKeyCmd m) s
/-- COMMITTED (R757). -/
def execKeyCommitted (s : State) : Host.Outcome State Fault Refusal := cmdE Reg.KEY keyCommitted s
/-- DISCARD (R756). -/
def execKeyDiscard (m : Master) (v : Word) (s : State) : Host.Outcome State Fault Refusal := cmdW m Reg.KEY_CMD v (wrKeyCmd m) s
/-- HEALTH (R775). -/
def execTrngHealth (apt : Bool) (s : State) : Host.Outcome State Fault Refusal := cmdE Reg.TRN (trnHealth apt) s
/-- RESUMED (R775). -/
def execTrngResumed (s : State) : Host.Outcome State Fault Refusal := cmdE Reg.TRN trnResumed s
/-- DRBG_RESEED (R774). -/
def execDrbgReseed (s : State) : Host.Outcome State Fault Refusal := cmdE Reg.TRN trnReseed s
/-- TRN_OUT_READ (R778). -/
def execTrnOutRead (m : Master) (s : State) : Host.Outcome State Fault Refusal := cmdRd m Reg.TRN_OUT (trnOutRead m) s
/-- CHALLENGE (R785). -/
def execLcsChallenge (m : Master) (v : Word) (s : State) : Host.Outcome State Fault Refusal := cmdW m Reg.LCS_CMD v (wrLcsCmd m) s
/-- PROVISION (R781). -/
def execLcsProvision (m : Master) (v : Word) (s : State) : Host.Outcome State Fault Refusal := cmdW m Reg.LCS_CMD v (wrLcsCmd m) s
/-- FIELD (R781). -/
def execLcsField (m : Master) (v : Word) (s : State) : Host.Outcome State Fault Refusal := cmdW m Reg.LCS_CMD v (wrLcsCmd m) s
/-- DEBUG (R781). -/
def execLcsDebug (m : Master) (v : Word) (s : State) : Host.Outcome State Fault Refusal := cmdW m Reg.LCS_CMD v (wrLcsCmd m) s
/-- RETIRE (R781). -/
def execLcsRetire (m : Master) (v : Word) (s : State) : Host.Outcome State Fault Refusal := cmdW m Reg.LCS_CMD v (wrLcsCmd m) s

end Sys2Proof.Machine
end

