-- ==== Sys2Proof/Machine/MateTime.lean ====
section
/-! DEFINITION. The time of the mate: MATE_PPS_IN captures joined to the times the peer states for them (R808, R809). -/
namespace Sys2Proof.Machine

/-- served(b) - t of a capture and a TIME frame, 2^-16 ns. -/
def State.mateDiff (s : State) (b : BT80) (t : WT96) : Int := (s.servedAt b - t).toInt

/-- The stated time nearest to a capture, within 250 µs (R808). -/
def State.mateNearest (s : State) (b : BT80) : Option WT96 :=
  (s.mate.times.filter (fun t => decide ((s.mateDiff b t).natAbs < 250000 * 65536))).foldl
    (fun best t =>
      match best with
      | none => some t
      | some u => if (s.mateDiff b t).natAbs < (s.mateDiff b u).natAbs then some t else some u) none

/-- Pair a capture, if its time has been stated: one measurement of entry 44, and one term of the residual. -/
def matePair (b : BT80) (s : State) : State :=
  match s.mateNearest b with
  | none => s
  | some t =>
    let d := s.mateDiff b t
    let m := s.mate
    loopsTime 44 b t
      { s with mate := { m with caps := m.caps.filter (fun c => decide (c ≠ b)), times := m.times.filter (fun u => decide (u ≠ t)),
                                residSum := m.residSum + d, residCnt := m.residCnt + 1 } }

/-- Pair what can be paired; captures not paired within 100 µs and times that no capture can still meet are dropped (R808). -/
def matePairAll (s : State) : State :=
  let s1 := s.mate.caps.foldl (fun a b => matePair b a) s
  let m := s1.mate
  { s1 with mate := { m with caps := m.caps.filter (fun b => !s1.elapsedMore b 100000),
                             times := m.times.filter (fun t => decide ((s1.now - t).toInt < 350000 * 65536)) } }

/-- A capture of MATE_PPS_IN: an edge for the loops that follow entry 44, whose time comes with its pair (R223, R440, R808). -/
def mateCapture (b : BT80) (s : State) : State :=
  let t := loopsTake 44 b none 1 s
  matePairAll { t with mate := { t.mate with caps := t.mate.caps ++ [b] } }

/-- A stated time (R808). -/
def mateTime (t : WT96) (s : State) : State := matePairAll { s with mate := { s.mate with times := s.mate.times ++ [t] } }

end Sys2Proof.Machine
end

