-- ==== Sys2Proof/Machine/Rings.lean ====
section
/-! DEFINITION. Host memory as the device writes it, and the host exception rings (R887, R892). -/
namespace Sys2Proof.Machine

/-- The rings run: the link is up and PERST_N is not asserted (R887). -/
def State.ringsRun (s : State) : Bool := s.pci.linkUp && !s.pci.perst

/-- Bytes written into host memory; dropped while the link is down (R887). -/
def hostWr (a : Nat) (l : List Byte) (s : State) : State := if s.ringsRun then s.emit (.hostWrite a l) else s

/-- Exception ring r can take a slot of n bytes (R892). (DEDUCED, log 59.) -/
def State.excRoom (s : State) (r n : Nat) : Bool :=
  let size := 2 ^ s.rf (Reg.PCI_EX_CFG r) 0 4
  let wr := s.rf (Reg.PCI_EX_WR r) 0 14
  s.ringsRun && s.rb (Reg.PCI_EX_CFG r) 31 && decide (n ≤ (if s.rb (Reg.PCI_EX_CFG r) 8 then 16384 else 2048)) &&
    decide ((wr + 1) % size ≠ s.rf (Reg.PCI_EX_RD r) 0 14 % size)

/-- Write one slot of exception ring r: the descriptor and the frame; whether it was written (R892). A slot that does not fit or
meets a full, disabled or stopped ring is dropped and counted. -/
def excPut (r : Nat) (data : List Byte) (s : State) : Bool × State :=
  if s.excRoom r data.length then
    let size := 2 ^ s.rf (Reg.PCI_EX_CFG r) 0 4
    let wr := s.rf (Reg.PCI_EX_WR r) 0 14
    let slot := if s.rb (Reg.PCI_EX_CFG r) 8 then 16384 else 2048
    let s1 := hostWr (s.regN (Reg.PCI_EX_BASE r) 2 + (wr % size) * slot) data s
    (true, raiseEvt Reg.PCI 2 (s1.setReg (Reg.PCI_EX_WR r) (BitVec.ofNat 32 ((wr + 1) % size))))
  else (false, raiseEvt Reg.PCI 3 (s.count (Reg.PCI_EX_DROP r)))

end Sys2Proof.Machine
end

