-- ==== Sys2Proof/Machine/SchCore.lean ====
section
/-! DEFINITION. The transmit path: classes and their queues, descriptors, deficit round robin, shapers and the ends of frames
(R725 to R736), and the link state that lets a port start a frame. -/
namespace Sys2Proof.Machine

/-! ### Classes (R725 to R729) -/

/-- A class of a port; key 8 p + c. (DESIGN CHOICE, log 62.) -/
def State.cls (s : State) (p c : Nat) : SchCls := AMap.get { } s.sch.cls (8 * p + c)
/-- Store a class. -/
def State.setCls (s : State) (p c : Nat) (x : SchCls) : State :=
  { s with sch := { s.sch with cls := AMap.set { } s.sch.cls (8 * p + c) x } }

/-- Queues of a class (R738): the number of them and the first. -/
def State.clsQueues (s : State) (p c : Nat) : Nat × Nat :=
  if s.rb (Reg.SCH_TXQ p c) 31 then (2 ^ s.rf (Reg.SCH_TXQ p c) 20 4, s.rf (Reg.SCH_TXQ p c) 0 18) else (0, 0)

/-- The queue a class visits next: the first that is not empty, from its position on in round robin. -/
def State.headQueue (s : State) (p c : Nat) : Option Nat :=
  let nq := s.clsQueues p c
  ((List.range nq.1).map (fun i => ((s.cls p c).qpos + i) % nq.1)).find? (fun i =>
    (s.queue (nq.2 + i)).en && decide ((s.queue (nq.2 + i)).depth ≠ 0))

/-- The element at the head of a class: its queue's place among the class's queues, and its bytes. -/
def State.headOf (s : State) (p c : Nat) : Option (Nat × List Byte) :=
  match s.headQueue p c with
  | none => none
  | some i =>
    let q := s.queue ((s.clsQueues p c).2 + i)
    some (i, s.sharedRd (q.slot q.head) 32)

/-- Take the element at a place of a class; the next visit goes to the queue after it. -/
def takeHead (p c i : Nat) (s : State) : State :=
  let nq := s.clsQueues p c
  let s1 := (queuePop (nq.2 + i) s).2.2
  s1.setCls p c { s1.cls p c with qpos := (i + 1) % nq.1 }

/-- Engine address of a descriptor's frame (R726). -/
def descBuf (d : List Byte) : Nat := leAt d 0 5
/-- LEN of a descriptor. -/
def descLen (d : List Byte) : Nat := leAt d 6 2
/-- What is returned when the frame is done, with FREE=1 (R734). -/
def descFree (d : List Byte) : Option (Nat × Nat) :=
  if leAt d 15 1 / 2 % 2 = 1 then some (descBuf d, leAt d 18 3 % 2 ^ 18) else none
/-- Length of the frame with its padding and FCS (R483). -/
def wireLen (len : Nat) : Nat := max len 60 + 4
/-- The charge of a frame (R729). -/
def charge (d : List Byte) : Nat := max (descLen d) 60 + 24

/-- n bytes at an engine address lie wholly in one enabled transmit window (R738). -/
def State.inTxWin (s : State) (a n : Nat) : Bool :=
  (List.range 4).any (fun w =>
    let lo := s.reg (Reg.SCH_TXWIN w)
    let base := fld lo 12 20 * 2 ^ 12 + 2 ^ 32 * s.rf (Reg.SCH_TXWIN w + 4) 0 6
    bit lo 6 && decide (base ≤ a) && decide (a + n ≤ base + 2 ^ fld lo 0 6))

/-- A descriptor that the scheduler discards (R727). -/
def State.badDesc (s : State) (p c q : Nat) (d : List Byte) : Bool :=
  let n := descLen d
  decide (leAt d 5 1 ≠ p) || decide (wireLen n < 64) || decide (s.maxLen p < wireLen n) ||
    !(inSram (descBuf d) n || inDram (descBuf d) n) || ((s.queue q).user && !s.inTxWin (descBuf d) n) ||
    (decide (c = 6) && decide (p = 16))

/-- Discard a descriptor (R727, R734). (DEDUCED, log 61.) -/
def badDescriptor (d : List Byte) (s : State) : State :=
  freeBuffer (descFree d) (raiseEvt Reg.SCH 1 (s.count Reg.SCH_CNT_BADDESC))

/-- Discard the bad descriptors at the head of a class, at most n of them. -/
def cleanHead (p c : Nat) : Nat → State → State
  | 0, s => s
  | n + 1, s =>
    match s.headOf p c with
    | none => s
    | some (i, d) =>
      if s.badDesc p c ((s.clsQueues p c).2 + i) d then cleanHead p c n (badDescriptor d (takeHead p c i s)) else s

/-- Elements in the queues of a class. -/
def State.clsDepth (s : State) (p c : Nat) : Nat :=
  let nq := s.clsQueues p c
  (List.range nq.1).foldl (fun n i => n + (s.queue (nq.2 + i)).depth) 0

/-- Discard the bad descriptors at the heads of the classes served. -/
def cleanHeads (p : Nat) (cs : List Nat) (s : State) : State := cs.foldl (fun a c => cleanHead p c (a.clsDepth p c) a) s

/-- A class may send by its shaper (R729). -/
def State.clsEligible (s : State) (p c : Nat) : Bool := decide ((s.cls p c).rate = 0) || decide (0 ≤ (s.cls p c).tok)

/-- Weighted class a port visits next. -/
def State.rrOf (s : State) (p : Nat) : Nat := AMap.get 0 s.sch.rr p
/-- Store it. -/
def State.setRr (s : State) (p r : Nat) : State := { s with sch := { s.sch with rr := AMap.set 0 s.sch.rr p r } }

/-- The loop of choose over the weighted classes (R729); each round of the six adds at least 256 bytes to a class that has a head,
so that 300 visits suffice for any frame. (DESIGN CHOICE, log 62.) -/
def chooseLoop (p : Nat) : Nat → State → Option Nat × State
  | 0, s => (none, s)
  | f + 1, s =>
    if (List.range 6).any (fun c => (s.headOf p c).isSome && s.clsEligible p c) = false then (none, s)
    else
      let c := s.rrOf p
      let x := s.cls p c
      match s.headOf p c with
      | none =>
        chooseLoop p f ((s.setCls p c { x with def_ := 0, fresh := true }).setRr p ((c + 1) % 6))
      | some (_, d) =>
        if s.clsEligible p c then
          let x1 : SchCls := if x.fresh then { x with def_ := x.def_ + x.wgt * 256, fresh := false } else x
          if (charge d : Int) ≤ x1.def_ then (some c, s.setCls p c x1)
          else chooseLoop p f ((s.setCls p c { x1 with fresh := true }).setRr p ((c + 1) % 6))
        else chooseLoop p f ((s.setCls p c { x with fresh := true }).setRr p ((c + 1) % 6))

/-- choose(port p) (R729); while STATE_PAR is raised every port serves class 7 only (R739). -/
def choose (p : Nat) (s0 : State) : Option Nat × State :=
  let only7 := s0.schHalted || s0.fltBit Reg.SCH 0
  let s := cleanHeads p (if only7 then [7] else [7, 0, 1, 2, 3, 4, 5]) s0
  if (s.headOf p 7).isSome then (some 7, s)
  else if only7 then (none, s)
  else chooseLoop p 300 s

/-- start(c) (R729). -/
def chargeStart (p c n : Nat) (s : State) : State :=
  let x := s.cls p c
  if c = 7 then s
  else s.setCls p c { x with def_ := x.def_ - n, tok := if x.rate = 0 then x.tok else x.tok - n * 65536 }

/-! ### When a port may start a frame -/

/-- The port can send: it is active, enabled, its clock runs, its link is up, no remote fault holds it at idle and the line is free
(R462 to R464, R729). -/
def State.canSend (s : State) (p : Nat) : Bool :=
  s.pageLive (prtPage p) && s.pgEn (prtPage p) && !s.pgFrozen (prtPage p) && s.linkUp p && (s.prtS p).tx.isNone &&
    (decide (p = 16) || (s.portActive p && s.rb (Reg.PRT_LINK p) 4 && !s.rb (Reg.PRT_LINK p) 5 && !s.launching p))

/-- A partner pause holds the port (R479). -/
def State.paused (s : State) (p : Nat) : Bool :=
  match (s.prtS p).pauseTo with
  | some b => earlier s.bt b
  | none => false

/-- A frame of n bytes with its FCS, started now, ends with its gap before the next reserved span (R525, R730). -/
def State.fitsGap (s : State) (p n : Nat) : Bool :=
  decide (p = 16) ||
    (let b := s.blockNear p s.bt + 1
     (s.portSlots p).all (fun e => e.2.begun || decide (b + cdiv (n + 12) 8 < e.2.lo) || decide (e.2.hi < b)))

/-- Start a frame on a port. -/
def startTx (p : Nat) (f : TxFrame) (s : State) : State := s.setPrt p { s.prtS p with tx := some f }

/-- The frame that a descriptor names, padded (R483), with what follows its end. -/
def descFrame (d : List Byte) (s : State) : TxFrame :=
  let b := s.sharedRd (descBuf d) (descLen d)
  { kind := .queued, data := b ++ List.replicate (60 - b.length) 0,
    ts := if leAt d 15 1 % 2 = 1 then some (leAt d 12 3 % 2 ^ 18, BitVec.ofNat 32 (leAt d 8 4)) else none,
    free := descFree d }

/-- A transmit opportunity (R729, R730). -/
def txOpportunity (p : Nat) (s0 : State) : State :=
  if !s0.canSend p || s0.paused p || (s0.prtS p).pauseReq.isSome then s0
  else
    match choose p s0 with
    | (none, s) => s
    | (some c, s) =>
      match s.headOf p c with
      | none => s
      | some (i, d) =>
        if s.fitsGap p (wireLen (descLen d)) then
          startTx p (descFrame d s) (chargeStart p c (charge d) (takeHead p c i s))
        else s

/-! ### The ends of frames -/

/-- Latch the to_pt80 of a timestamp into a capture register (R540). -/
def latchCap (a g : Nat) (t : WT96) (s : State) : State :=
  let v := toPt80 t
  let hi := fld v 64 16 + 2 ^ 31
  raiseEvt (Reg.TSU g) 3
    (((s.setReg a (BitVec.ofNat 32 (fld v 0 32))).setReg (a + 4) (BitVec.ofNat 32 (fld v 32 32))).setReg (a + 8) (BitVec.ofNat 32 hi))

/-- The queue takes completions of a host transmit ring, so that its frames are the host's (R540, R893). (DEDUCED, log 60.) -/
def State.hostTxCq (s : State) (q : Nat) : Bool :=
  (List.range 4).any (fun r => s.rb (Reg.PCI_TX_CFG r) 31 && decide (s.rf (Reg.PCI_TX_CQ r) 0 18 = q))

/-- The capture of a two-step frame whose timestamp point lay at block k, and its TX_TS completion (R539, R540). (DEDUCED, log 60.) -/
def txCapture (p k : Nat) (cq : Nat) (tag : Word) (s : State) : State :=
  let g := p / 4
  let tx := s.txAt p k
  let wt := s.servedAt tx
  let s1 := postCompletion g cq (completion .txTs 0 p (s.modelOk p 0) tag tx wt) (s.count (Reg.TSU_CNT_TXTS g))
  if s1.rb (Reg.TSU_CAP_CFG g (p % 4)) 0 && s1.hostTxCq cq then latchCap (Reg.TSU_TXCAP g (p % 4)) g wt s1 else s1

/-- A frame with its FCS (R483). -/
def withFcs (l : List Byte) : List Byte := l ++ bytesLE 4 (crc32 l).toNat

/-- The effect of a frame sent whole, by what it was. -/
def sentKind (p : Nat) (k : TxKind) (s : State) : State :=
  match k with
  | .queued => s
  | .pause _ => stat p 22 1 s
  | .esmc => stat p 23 1 s

/-- The frame in transmission has been sent whole, its timestamp point at block blk (R483, R539, R734); in loopback modes 2 and 3 the
line does not carry it (R475). The transmit path then takes the mode written meanwhile (R473). (DEDUCED, log 125.) -/
def txDone (p blk : Nat) (s : State) : State :=
  match (s.prtS p).tx with
  | none => s
  | some f =>
    let w := withFcs f.data
    let s0 := pathFree p (s.setPrt p { s.prtS p with tx := none })
    let s1 := if 2 ≤ s.lpbk p then s0 else s0.emit (.frame p w)
    let s2 := pmuChip 0x03 p (sentKind p f.kind (stat p 21 1 (stat p 20 w.length s1)))
    let s3 := match f.ts with
      | some (q, tag) => if p = 16 then s2 else txCapture p blk q tag s2
      | none => s2
    freeBuffer f.free s3

/-! ### Shapers and the halt -/

/-- The refill of one class, after its staged values took effect (R732, R733). -/
def refillClass (per p c : Nat) (s : State) : State :=
  let x := s.cls p c
  if x.rate = 0 then s
  else
    let num := x.rate * per * 8192 + x.rem
    let cap : Int := x.burst * 65536
    let t : Int := x.tok + (num / 1000000 : Nat)
    s.setCls p c { x with tok := if cap < t then cap else t, rem := num % 1000000 }

/-- A staged register takes effect at this refill: it was not written in the cycle of the refill (R733). -/
def State.stagedDue (s : State) (a : Nat) : Bool :=
  match AMap.get none s.sch.wrAt a with
  | some b => decide (b ≠ s.bt)
  | none => true

/-- RATE, BURST and WGT of a class take effect (R733). (DESIGN CHOICE, log 62.) -/
def applyClass (p c : Nat) (s : State) : State :=
  let x := s.cls p c
  let rate := if s.stagedDue (Reg.SCH_RATE p c) then s.rf (Reg.SCH_RATE p c) 0 27 else x.rate
  let burst := if s.stagedDue (Reg.SCH_BURST p c) then s.rf (Reg.SCH_BURST p c) 0 24 else x.burst
  let wgt := if s.stagedDue (Reg.SCH_WGT p c) then s.rf (Reg.SCH_WGT p c) 0 8 else x.wgt
  let cap : Int := burst * 65536
  let tok := if x.rate = 0 ∧ rate ≠ 0 then cap else if cap < x.tok then cap else x.tok
  s.setCls p c { x with rate := rate, burst := burst, wgt := wgt, tok := tok }

/-- The refill at the end of a period: every staged write takes effect together, then the tokens are added (R732, R733). While the
scheduler is halted the shapers are frozen (R736). (DESIGN CHOICE, log 62.) -/
def shaperRefill (s : State) : State :=
  if s.elapsed s.sch.refillAt s.sch.period = false then s
  else
    let np := if s.stagedDue Reg.SCH_REFILL then s.rf Reg.SCH_REFILL 0 16 else s.sch.period
    let s1 := forN 17 (fun p a => forN 6 (fun c b => applyClass p c b) a) s
    let s2 := if s1.schHalted then s1 else forN 17 (fun p a => forN 6 (fun c b => refillClass np p c b) a) s1
    { s2 with sch := { s2.sch with refillAt := s2.sch.refillAt + cyc s.sch.period, period := np,
                                   wrAt := s2.sch.wrAt.filter (fun e => decide (e.2 = some s2.bt)) } }

/-- A write of a staged register of SCH: it is held until the next refill (R733). -/
def wrSchStaged (a : Nat) (v : Word) (s : State) : State :=
  let s1 := plainWrite a v s
  { s1 with sch := { s1.sch with wrAt := AMap.set none s1.sch.wrAt a (some s1.bt) } }

end Sys2Proof.Machine
end

