-- ==== Sys2Proof/Machine/Classify.lean ====
section
/-! DEFINITION. The receive path from the MAC to the queues: what a frame is, the command pool, addressing and checks, the Quarry
hash, the ingress policers, the exception rings and the receive descriptor (R644 to R656, R713 to R724). -/
namespace Sys2Proof.Machine

/-! ### Reading a frame -/

/-- The headers of a frame. -/
structure Hdr where
  tags : Nat                            -- 0 to 2
  badTags : Bool                        -- more tags than R644 accepts
  vid : Nat                             -- VID of the innermost tag, 0 untagged
  outer : Nat                           -- TCI of the outer and of the inner tag; 0 when absent
  inner : Nat
  etype : Nat
  l3 : Nat                              -- offset of what follows the Ethertype
  deriving DecidableEq, Repr

/-- An Ethertype is that of a tag (R644). -/
def isTag (e : Nat) : Bool := e == 0x8100 || e == 0x88A8

/-- The Ethernet header and tags of a frame (R644). (DEDUCED, log 58.) -/
def parseHdr (f : List Byte) : Hdr :=
  let e0 := beAt f 12 2
  if isTag e0 = false then { tags := 0, badTags := false, vid := 0, outer := 0, inner := 0, etype := e0, l3 := 14 }
  else
    let e1 := beAt f 16 2
    let t0 := beAt f 14 2
    if isTag e1 = false then { tags := 1, badTags := false, vid := t0 % 4096, outer := 0, inner := t0, etype := e1, l3 := 18 }
    else
      let e2 := beAt f 20 2
      let t1 := beAt f 18 2
      { tags := 2, badTags := e1 != 0x8100 || isTag e2, vid := t1 % 4096, outer := t0, inner := t1, etype := e2, l3 := 22 }

/-- What lies over the Ethertype. -/
structure Net where
  v : Nat                               -- 4 or 6, 0 for anything else
  odd : Bool                            -- options, extension header or fragment
  proto : Nat
  src : List Byte
  dst : List Byte
  l4 : Nat                              -- offset of what follows the IP header
  ipLen : Nat                           -- bytes of the IP packet after its header, by its own length field
  lenOk : Bool                          -- that length agrees with the frame
  deriving DecidableEq, Repr

/-- Protocol numbers that are IPv6 extension headers. -/
def isExt (p : Nat) : Bool := [0, 43, 44, 50, 51, 60, 135, 139, 140].contains p

/-- The IP header of a frame whose bytes are f, without the FCS. -/
def parseNet (f : List Byte) (h : Hdr) : Net :=
  let b := h.l3
  if h.etype = 0x0800 ∧ beAt f b 1 / 16 = 4 then
    let ihl := beAt f b 1 % 16 * 4
    let tl := beAt f (b + 2) 2
    { v := 4, odd := decide (ihl ≠ 20) || decide (beAt f (b + 6) 2 % 0x4000 ≠ 0), proto := beAt f (b + 9) 1,
      src := sliceB f (b + 12) 4, dst := sliceB f (b + 16) 4, l4 := b + ihl, ipLen := tl - ihl,
      lenOk := decide (ihl ≤ tl) && decide (b + tl ≤ f.length) }
  else if h.etype = 0x86DD ∧ beAt f b 1 / 16 = 6 then
    let pl := beAt f (b + 4) 2
    { v := 6, odd := isExt (beAt f (b + 6) 1), proto := beAt f (b + 6) 1, src := sliceB f (b + 8) 16, dst := sliceB f (b + 24) 16,
      l4 := b + 40, ipLen := pl, lenOk := decide (b + 40 + pl ≤ f.length) }
  else { v := 0, odd := false, proto := 0, src := [], dst := [], l4 := 0, ipLen := 0, lenOk := true }

/-- The ones' complement sum of big-endian 16-bit words. -/
def sum16 : List Byte → Nat
  | [] => 0
  | [a] => a.toNat * 256
  | a :: b :: t => let x := a.toNat * 256 + b.toNat + sum16 t
                   if 65536 ≤ x then x - 65535 else x

/-- A checksum covers these bytes correctly. -/
def sumOk (l : List Byte) : Bool := sum16 l == 0xFFFF

/-- The bytes a UDP checksum covers: pseudo-header, header and payload. -/
def udpCover (f : List Byte) (n : Net) : List Byte :=
  let len := beAt f (n.l4 + 4) 2
  n.src ++ n.dst ++ (if n.v = 4 then bytesBE 2 17 ++ bytesBE 2 len else bytesBE 4 len ++ bytesBE 4 17) ++ sliceB f n.l4 len

/-- A frame is malformed at its IP or UDP layer (R647). (DEDUCED, log 58.) -/
def badL4 (csum0 : Bool) (f : List Byte) (h : Hdr) (n : Net) : Bool :=
  if n.v = 0 then false
  else
    (decide (n.v = 4) && !sumOk (sliceB f h.l3 20)) || !n.lenOk ||
      (decide (n.proto = 17) &&
        (decide (beAt f (n.l4 + 4) 2 ≠ n.ipLen) || decide (n.ipLen < 8) ||
          (if beAt f (n.l4 + 6) 2 = 0 then decide (n.v = 6) || !csum0 else !sumOk (udpCover f n))))

/-! ### Addressing (R645) -/

/-- The four words of an address register, as bytes: IPv4 in word 0, IPv6 from word 3 down (R705). -/
def State.addrOf (s : State) (a fam : Nat) : List Byte :=
  if fam = 1 then bytesBE 4 (s.reg a).toNat else bytesBE 16 (s.regN a 4)

/-- Broadcast. -/
def macBroadcast : List Byte := List.replicate 6 0xFF

/-- The MAC condition of R645: the station address, broadcast, or a PTP multicast address enabled in QRY_CLS_CFG, to which the
group addresses of IP map. (DEDUCED, log 58.) -/
def State.macOk (s : State) (p : Nat) (dst : List Byte) : Bool :=
  let c := s.reg Reg.QRY_CLS_CFG
  dst == s.prtMac p || dst == macBroadcast || (bit c 0 && dst == [0x01, 0x1B, 0x19, 0, 0, 0]) ||
    (bit c 1 && dst == [0x01, 0x80, 0xC2, 0, 0, 0x0E]) || (bit c 2 && dst == [0x01, 0x00, 0x5E, 0x00, 0x01, 0x81]) ||
    (bit c 3 && dst == [0x33, 0x33, 0x00, 0x00, 0x01, 0x81])

/-- A service address that serves a port and VLAN (R645, R706). -/
def State.svcFor (s : State) (p vid v : Nat) (dst : List Byte) : Bool :=
  (List.range 32).any (fun k =>
    let c := s.reg (Reg.QRY_SVC_CTL k)
    decide (fld c 14 2 = (if v = 4 then 1 else 2)) && decide (p < 16) && bit c (16 + p) && (bit c 13 || decide (fld c 0 12 = vid)) &&
      dst == s.addrOf (Reg.QRY_SVC_ADDR k 0) (fld c 14 2))

/-- The PTP group addresses enabled (R645, R705). -/
def State.groupOk (s : State) (v : Nat) (dst : List Byte) : Bool :=
  let c := s.reg Reg.QRY_CLS_CFG
  if v = 4 then bit c 2 && dst == [224, 0, 1, 129]
  else bit c 3 && [2, 5, 8, 14].any (fun x => dst == [0xFF, BitVec.ofNat 8 x] ++ List.replicate 12 0 ++ [0x01, 0x81])

/-- A frame is addressed to the device on port p (R645). -/
def State.addressed (s : State) (p : Nat) (f : List Byte) (h : Hdr) (n : Net) : Bool :=
  s.macOk p (sliceB f 0 6) && (decide (n.v = 0) || s.svcFor p h.vid n.v n.dst || s.groupOk n.v n.dst)

/-! ### Kinds (R646, R653) -/

/-- What a frame is: a kind 0 PTP event, 1 PTP general, 2 NTP, 3 ARP/ND, or an exception with its reason, 0 when R653 lists none. -/
inductive FrameKind where
  | service (k : Nat)
  | exception (reason : Nat)
  deriving DecidableEq, Repr

/-- An enabled instance serves a PTP domain on a port. (DEDUCED, log 58.) -/
def State.domainOn (s : State) (p dom : Nat) : Bool :=
  (List.range 8).any (fun i => s.rb (Reg.QRY_PTP_CFG i) 0 && s.rb (Reg.QRY_PTP_CFG i) (16 + p) && decide (s.rf (Reg.QRY_PTP_CFG i) 8 8 = dom))

/-- The upstream session whose port and domain a PTP message names runs (R698). -/
def State.upOn (s : State) (p dom : Nat) : Bool :=
  (List.range 8).any (fun n => s.rb (Reg.QRY_UP_CFG n) 4 && decide (s.rf (Reg.QRY_UP_CFG n) 0 4 = p) && decide (s.rf (Reg.QRY_UP_CFG n) 8 8 = dom))

/-- The kind of a PTP message at an offset (R646, R653). -/
def State.ptpKind (s : State) (p : Nat) (f : List Byte) (o : Nat) : FrameKind :=
  let t := beAt f o 1 % 16
  if t = 0xD ∨ (s.domainOn p (beAt f (o + 4) 1) || s.upOn p (beAt f (o + 4) 1)) = false then .exception 6
  else if t < 4 then .service 0 else .service 1

/-- The kind of a frame addressed to the device (R646, R653). (DEDUCED, log 58, 61.) -/
def State.kindOfFrame (s : State) (p : Nat) (f : List Byte) (h : Hdr) (n : Net) : FrameKind :=
  if h.etype = 0x88F7 then s.ptpKind p f h.l3
  else if h.etype = 0x0806 then .service 3
  else if h.etype = 0x88CC then .exception 9
  else if n.v = 0 then (if sliceB f 0 6 = s.prtMac p then .exception 7 else .exception 0)
  else if n.odd then .exception 4
  else if n.proto = 17 then
    let dp := beAt f (n.l4 + 2) 2
    if dp = 319 ∨ dp = 320 then s.ptpKind p f (n.l4 + 8)
    else if dp = 123 then (if beAt f (n.l4 + 8) 1 % 8 = 6 ∨ beAt f (n.l4 + 8) 1 % 8 = 7 then .exception 2 else .service 2)
    else if s.svcFor p h.vid n.v n.dst then .exception 5 else .exception 0
  else if n.v = 6 ∧ n.proto = 58 then
    (if beAt f n.l4 1 = 135 ∨ beAt f n.l4 1 = 136 then .service 3 else .exception 3)
  else if n.v = 4 ∧ n.proto = 1 then .exception 3
  else if n.proto = 6 then (if s.svcFor p h.vid n.v n.dst then .exception 1 else .exception 0)
  else .exception 0

/-! ### The Quarry hash (R655) -/

/-- The client key: by the IP source address, or by the source MAC and VLAN ID. (DEDUCED, log 58.) -/
def clientKey (f : List Byte) (h : Hdr) (n : Net) : List Byte :=
  if n.v = 4 then (0x04 : Byte) :: n.src
  else if n.v = 6 then (0x06 : Byte) :: n.src
  else (0x02 : Byte) :: (sliceB f 6 6 ++ bytesBE 2 h.vid)

/-- Bucket and tag of a client key (R655). -/
def quarryHash (seeds : DWord × DWord) (log2 : Nat) (key : List Byte) : Nat × Nat :=
  let h1 := (crc32c (bytesBE 8 seeds.1.toNat ++ key)).toNat
  let h2 := (crc32c (bytesBE 8 seeds.2.toNat ++ key)).toNat
  let t := h2 * 2 ^ 32 + h1
  (h1 % 2 ^ (log2 - 3), if t = 0 then 1 else t)

/-- The classifier and the serving code see the Quarry as off (R650, R708). -/
def State.quarryOff (s : State) : Bool := !s.pgEn Reg.QRY || s.svc.seeds.isNone || s.fltBit Reg.QRY 1

/-- Bucket and tag of a frame. -/
def State.hashOf (s : State) (key : List Byte) : Nat × Nat :=
  quarryHash (s.svc.seeds.getD (0, 0)) (s.rf Reg.QRY_TBL_CFG 0 5) key

/-! ### Policers (R722 to R724, R654) -/

/-- The refill of every enabled policer (R722). -/
def policerRefill (s : State) : State :=
  if s.elapsed s.pol.refillAt 1000 = false then s
  else
    let s1 := forN 17 (fun p a => forN 5 (fun i b =>
      if b.rb (Reg.POL_RATE p i) 31 then
        let k := 8 * p + i
        let num := b.rf (Reg.POL_RATE p i) 0 24 * 65536 + AMap.get 0 b.pol.rem k
        let t := min (b.rf (Reg.POL_BURST p i) 0 16 * 65536) (AMap.get 0 b.pol.tok k + num / 1000000)
        { b with pol := { b.pol with tok := AMap.set 0 b.pol.tok k t, rem := AMap.set 0 b.pol.rem k (num % 1000000) } }
      else b) a) s
    { s1 with pol := { s1.pol with refillAt := s1.pol.refillAt + cyc 1000 } }

/-- A frame of ingress class i on port p takes a token, after a refill that is due in its cycle (R722, R723); while CFG_PAR is set every
policer drops (R741). -/
def policeIn (p i : Nat) (s0 : State) : Bool × State :=
  let s := if s0.pageLive Reg.POL && !s0.pgFrozen Reg.POL then policerRefill s0 else s0
  let k := 8 * p + i
  let drop (a : State) : Bool × State := (false, pmuChip 0x0E p (raiseEvt Reg.POL 3 (a.count (Reg.POL_CNT p i))))
  if s.fltBit Reg.POL 0 then drop s
  else if s.rb (Reg.POL_RATE p i) 31 = false then (true, s)
  else
    let t := AMap.get 0 s.pol.tok k
    if 65536 ≤ t then (true, { s with pol := { s.pol with tok := AMap.set 0 s.pol.tok k (t - 65536) } })
    else drop s

/-- A write of a policer's RATE: EN from 0 to 1 fills the bucket (R723). -/
def wrPolRate (p i : Nat) (v : Word) (s : State) : State :=
  let a := Reg.POL_RATE p i
  let s1 := plainWrite a v s
  if !s.rb a 31 && s1.rb a 31 then
    let k := 8 * p + i
    { s1 with pol := { s1.pol with tok := AMap.set 0 s1.pol.tok k (s1.rf (Reg.POL_BURST p i) 0 16 * 65536),
                                   rem := AMap.set 0 s1.pol.rem k 0 } }
  else s1

/-- Exception ring r takes a token (R654); its credit runs in frames * 10^9 * 2^16 of Bedrock. (DEDUCED, log 59.) -/
def excToken (r : Nat) (s : State) : Bool × State :=
  let v := s.reg (Reg.QRY_EXC_RATE r)
  let unit := 1000000000 * 65536
  let x := AMap.get (0, 0) s.svc.excTok r
  let c := min (fld v 24 8 * 16 * unit) (x.1 + fld v 0 24 * (s.bt - x.2).toNat)
  let put (n : Nat) : State := { s with svc := { s.svc with excTok := AMap.set (0, 0) s.svc.excTok r (n, s.bt) } }
  if fld v 0 24 = 0 ∨ c < unit then (false, raiseEvt Reg.QRY 2 ((put c).count Reg.QRY_CNT_EXCDROP))
  else (true, put (c - unit))

/-! ### Receive descriptors (R716) -/

/-- The lane whose receive model times a frame: in 100GBASE-R the one that carried its timestamp block (R516). (DESIGN CHOICE, log 11.) -/
def State.rxLane (s : State) (p blk : Nat) : Nat := if s.gmode (p / 4) = 2 then 4 * (p / 4) + Config.rxLane blk % 4 else p

/-- rx80 of a frame whose timestamp point lay at a receive block, and TS_VALID (R512, R516). (DESIGN CHOICE, log 11.) -/
def State.rxStamp (s : State) (p blk : Nat) : BT80 × Bool :=
  if p = 16 then (0, false)
  else
    let m := s.lane (s.rxLane p blk) 1
    (s.rxOf p (m.at (s.dev p blk) blk), s.laneOk (s.rxLane p blk) 1)

/-- A receive descriptor (R716). (DEDUCED, log 59.) -/
def rxDesc (tag buf p len : Nat) (rx : BT80 × Bool) (bucket kind : Nat) (cmd : Bool) (h : Hdr) (n : Net) : List Byte :=
  let l4 := if n.v ≠ 0 ∧ (n.proto = 17 ∨ (n.v = 6 ∧ n.proto = 58)) then n.l4 else 0
  bytesLE 8 tag ++ bytesLE 5 buf ++ bytesLE 1 p ++ bytesLE 2 len ++ bytesLE 10 rx.1.toNat ++ bytesLE 3 bucket ++
    bytesLE 1 (b2n rx.2 + h.tags * 2 + kind * 8 + b2n cmd * 32) ++ bytesLE 1 h.l3 ++ bytesLE 1 l4

/-- The descriptor that stands before a frame in an exception ring: TAG is 0 but for the reason in byte 8 (R892). -/
def excSlot (reason p : Nat) (f : List Byte) (rx : BT80 × Bool) (cmd : Bool) (h : Hdr) (n : Net) : List Byte :=
  let d := rxDesc 0 0 p f.length rx 0 0 cmd h n
  d.take 8 ++ [BitVec.ofNat 8 reason] ++ [0, 0, 0, 0] ++ d.drop 13 ++ f

/-! ### Command frames (R717 to R721) -/

/-- Filter k matches a frame (R717). -/
def State.cmdMatch (s : State) (k : Nat) (f : List Byte) (h : Hdr) (n : Net) : Bool :=
  let m := s.reg (Reg.POL_CMD_MATCH k)
  let a := s.reg (Reg.POL_CMD_ARG k)
  bit m 31 && decide (h.etype = fld m 0 16) && (!bit m 24 || (decide (n.v ≠ 0) && decide (n.proto = fld m 16 8))) &&
    (!bit m 25 || (decide (n.v ≠ 0) && (decide (n.proto = 17) || decide (n.proto = 6)) && decide (beAt f (n.l4 + 2) 2 = fld a 0 16))) &&
    (!bit m 26 || decide (h.vid = fld a 16 12))

/-- The filter by which a frame is a command frame (R717, R719). -/
def State.cmdFilter (s : State) (p : Nat) (f : List Byte) (h : Hdr) (n : Net) : Option Nat :=
  let dst := sliceB f 0 6
  if p = 16 then (if dst = s.prtMac 16 ∨ dst = macBroadcast then some 0 else none)
  else if s.macOk p dst then (List.range 8).find? (fun k => s.cmdMatch k f h n)
  else none

/-- A command frame is dropped (R720). (DEDUCED, log 59.) -/
def cmdDrop (s : State) : State := raiseEvt Reg.POL 1 (s.count Reg.POL_CNT_CMDDROP)

/-- A command frame has been delivered (R719, R741). -/
def cmdDone (s : State) : State := raiseEvt Reg.POL 0 (s.count Reg.POL_CNT_CMD)

/-- Deliver a command frame (R719, R720). -/
def deliverCmd (k p : Nat) (f : List Byte) (rx : BT80 × Bool) (h : Hdr) (n : Net) (s0 : State) : State :=
  let s := pmuChip 0x0F 0 s0
  if 2048 < f.length then cmdDrop s
  else
    match (List.range 32).find? (fun i => !s.rb Reg.POL_CMD_USE i) with
    | none => cmdDrop s
    | some i =>
      let buf := eaSram + s.rf Reg.POL_CMD_BASE 16 9 * 65536 + 2048 * i
      let sw := s.sharedWr buf f
      let s1 := if sw.inject Reg.POL 1 then fault .pol 0 1 sw else sw
      if s1.rb (Reg.POL_CMD_ARG k) 30 then
        match excPut (s1.rf Reg.POL_CMD_RING 0 2) (excSlot 0 p f rx true h n) s1 with
        | (true, s2) => cmdDone s2
        | (false, s2) => s2
      else
        match blockPush (s1.rf Reg.POL_CMD_Q 0 18) (rxDesc 0 buf p f.length rx 0 0 true h n) s1 with
        | (.ok, s2) => cmdDone (s2.setRb Reg.POL_CMD_USE i true)
        | (_, s2) => cmdDrop s2

/-! ### The steps of R713 -/

/-- Steps 5 to 8 of a frame of kinds 1 to 3 (R713 to R716). -/
def queueFrame (p k : Nat) (f : List Byte) (rx : BT80 × Bool) (h : Hdr) (n : Net) (s0 : State) : State :=
  match policeIn p k s0 with
  | (false, s) => s
  | (true, s) =>
    let hash := s.hashOf (clientKey f h n)
    let r := s.reg (Reg.QRY_RXQ ([1, 2, 0, 3].getD k 0))
    if 2048 * 2 ^ s.rf Reg.POL_FBSZ 0 2 < f.length then s.count Reg.POL_CNT_TOOLONG
    else
      match queuePop (s.rf Reg.POL_FBQ 0 18) s with
      | (.ok, e, s1) =>
        let buf := leAt e 0 5
        let s2 := s1.sharedWr buf f
        let q := fld r 0 18 + hash.1 % 2 ^ fld r 20 4
        match blockPush q (rxDesc hash.2 buf p f.length rx hash.1 k false h n) s2 with
        | (.ok, s3) => s3
        | (_, s3) => (blockPush (s3.rf Reg.POL_FBQ 0 18) e (s3.count Reg.POL_CNT_RXQFULL)).2
      | (_, _, s1) => raiseEvt Reg.POL 2 (s1.count Reg.POL_CNT_NOBUF)

/-- Steps 5 and 6 of an exception frame (R653, R654, R713). -/
def exceptFrame (p reason : Nat) (f : List Byte) (rx : BT80 × Bool) (h : Hdr) (n : Net) (s0 : State) : State :=
  match policeIn p 4 s0 with
  | (false, s) => s
  | (true, s) =>
    if reason = 0 then s
    else
      let r := s.rf Reg.QRY_EXC_MAP (2 * reason) 2
      match excToken r s with
      | (false, s1) => s1
      | (true, s1) =>
        let o := if h.etype = 0x88F7 then h.l3 else n.l4 + 8
        let ev := decide (reason = 6) && decide (beAt f o 1 % 16 < 4)
        match excPut r (excSlot reason p f rx false h n) s1 with
        | (true, s2) =>
          if ev && decide (p < 16) && s2.rb (Reg.TSU_CAP_CFG (p / 4) (p % 4)) 1 then
            latchCap (Reg.TSU_RXCAP (p / 4) (p % 4)) (p / 4) (s2.servedAt rx.1) s2
          else s2
        | (false, s2) => s2

/-- Classification of a frame that R466 passed, from its destination through its FCS (R713). -/
def classify (p : Nat) (f : List Byte) (blk : Nat) (s : State) : State :=
  let body := f.take (f.length - 4)
  let h := parseHdr body
  let n := parseNet body h
  let rx := s.rxStamp p blk
  match s.cmdFilter p body h n with
  | some k => deliverCmd k p f rx h n s
  | none =>
    if s.addressed p body h n = false then s.count Reg.QRY_CNT_NOTME
    else if h.badTags then s.count Reg.QRY_CNT_MALF
    else
      match s.kindOfFrame p body h n with
      | .exception r => exceptFrame p r f rx h n s
      | .service k =>
        if badL4 (s.rb Reg.QRY_CLS_CFG 4) body h n then s.count Reg.QRY_CNT_MALF
        else if s.quarryOff then s.count Reg.QRY_CNT_OFF
        else queueFrame p k f rx h n s

/-- A release of a command buffer; of a buffer not in use it is ignored (R721). -/
def cmdRelease (v : Word) (s : State) : State := s.setRb Reg.POL_CMD_USE (fld v 0 5) false

end Sys2Proof.Machine
end

