-- ==== Sys2Proof/Machine/Tsu.lean ====
section
/-! DEFINITION. The timestamp units: model updates, reservations, submissions, launches and their ends (R507 to R545), and the
class-6 path of the scheduler (R728). -/
namespace Sys2Proof.Machine

/-! ### Models (R510, R511) -/

/-- A visit of the lane scan: the lane's model is the fitted one, and a transmit model re-predicts its port's slots (R510, R535). -/
def boundaryVisit (l : Nat) (rx : Bool) (k : Nat) (p : BT80) (per : Nat) (s : State) : State :=
  if !s.pageLive Reg.TDC || !s.pgEn Reg.TDC || !s.rb Reg.TDC_GCFG 0 then s
  else
    let dir := b2n rx
    let s1 := s.setLane l dir { valid := true, k0 := k, p0 := p, per := per, visit := s.bt }
    let s2 := showPhases (l / 4) s1
    if rx then s2 else rePredict (s2.portOfLane l) (phaseClock (s2.portOfLane l) s2)

/-- A model not visited for 10 µs (R511). -/
def laneExpire (l : Nat) (rx : Bool) (s : State) : State :=
  if s.elapsed (s.lane l (b2n rx)).visit 10000 then loseLane l (b2n rx) s else s

/-- A temperature sample: the delays change, and reserved boundaries are re-predicted with them (R514, R535). -/
def tsuSample (g : Nat) (t : BitVec 16) (s : State) : State :=
  let s1 := { s with tsu := { s.tsu with temp := AMap.set 400 s.tsu.temp g t.toInt } }
  forN 4 (fun i a => rePredict (4 * g + i) a) s1

/-- A transmit model of an enabled port has been invalid for more than 100 µs (R545). -/
def phaseLostAt (p : Nat) (s : State) : State :=
  match AMap.get none s.tsu.lostAt p with
  | some b => if s.elapsedMore b 100000 && s.pgEn (Reg.PRT p) && !s.modelOk p 0 then fault .tsu (p / 4) 1 s else s
  | none => s

/-! ### Reservations (R517 to R523, R530) -/

/-- A write of TSU_RQ_W5 issues the request that the writer's six words hold; the grant is shown (R23, R517, R518, R541). -/
def wrReserve (m : Master) (g : Nat) (v : Word) (s : State) : State :=
  let w := s.commitWords m (Reg.TSU_RQ_W g 0) 6 v
  let s1 := (s.setRegN (Reg.TSU_RQ_W g 0) w 6).dropStaged m (Reg.TSU_RQ_W g 0) 6
  let r := RsvReq.ofWords (BitVec.ofNat 32 w) (BitVec.ofNat 32 (w >>> 32)) (BitVec.ofNat 32 (w >>> 64)) (BitVec.ofNat 96 (w >>> 96))
  match reserve r (some g) s1 with
  | (x, s2) => (List.range 7).foldl (fun a i => a.setReg (Reg.TSU_GR_W g i) (x.words.getD i 0)) s2

/-- A write of TSU_CANCEL (R530). -/
def wrCancel (g : Nat) (v : Word) (s : State) : State := cancelSlot g (fld v 0 11) s

/-! ### Submissions (R527, R528) -/

/-- Discard a submission (R528, R734). (DEDUCED, log 60.) -/
def badSubmission (g : Nat) (d : List Byte) (s : State) : State :=
  freeBuffer (descFree d) (s.count (Reg.TSU_CNT_BADSUB g))

/-- What a descriptor submits (R528, R726). (DEDUCED, log 60.) -/
def submitted (d : List Byte) (s : State) : Submission :=
  let f := descFrame d s
  { data := f.data, free := f.free, ts := f.ts }

/-- A class-6 descriptor of port p reaches its TSU (R527, R528); a frame for a reservation cancelled in the same cycle came first and
went with it (R530). -/
def submit (p : Nat) (d : List Byte) (s : State) : State :=
  let g := p / 4
  let h := leAt d 16 2 % 2048
  match s.slot g h with
  | none =>
    if s.thisCyc.cancelled.contains (2048 * g + h, p) then
      freeBuffer (descFree d) { s with thisCyc := { s.thisCyc with cancelled := s.thisCyc.cancelled.filter (fun e => e ≠ (2048 * g + h, p)) } }
    else badSubmission g d s
  | some x =>
    if x.port ≠ p ∨ x.sub.isSome ∨ s.pastDeadline g x then badSubmission g d s
    else
      let s1 := s.setSlot g h (some { x with sub := some (submitted d s) })
      if x.len < wireLen (descLen d) ∨ s.memBad (descBuf d) (descLen d) then missSlot g h .frameErr s1 else s1

/-- The scheduler passes the head of a class-6 queue, halted or not (R727, R728, R736). -/
def class6 (p : Nat) (s0 : State) : State :=
  let s := cleanHead p 6 (s0.clsDepth p 6) s0
  match s.headOf p 6 with
  | none => s
  | some (i, d) => submit p d (takeHead p 6 i s)

/-! ### Deadlines and launches (R527 to R536) -/

/-- A slot whose stored entry has wrong check bits raises SLOT_ECC when it is read (R545). -/
def slotEcc (g : Nat) (x : TsuSlot) (s : State) : State := if x.bad then fault .tsu g 0 s else s

/-- A slot reaches its deadline (R527, R532). -/
def slotDeadline (g h : Nat) (s : State) : State :=
  match s.slot g h with
  | none => s
  | some x =>
    if x.begun || !s.pastDeadline g x then s
    else
      let s1 := slotEcc g x s
      if x.sub.isNone then missSlot g h .notReady s1
      else if x.bad then missSlot g h .storeErr s1
      else s1

/-- Why a slot cannot launch at its start block: the lowest code (R532, R534). (DEDUCED, log 54.) -/
def State.launchCause (s : State) (g : Nat) (x : TsuSlot) : Option MissCause :=
  let l := s.reg (Reg.PRT_LINK x.port)
  if !bit l 3 || !bit l 4 || bit l 5 then some .linkDown
  else if fld l 12 2 ≠ 0 then some .mode
  else if x.sub.isNone then some .notReady
  else if !s.modelOk x.port 0 then some .noPhase
  else if s.schHalted then some .halt
  else if x.bad then some .storeErr
  else if !s.pgEn (Reg.PRT x.port) || !s.pgEn (Reg.TSU g) then some .disabled
  else none

/-- The start block of a slot comes (R529, R532). -/
def launch (g h : Nat) (s : State) : State :=
  match s.slot g h with
  | none => s
  | some x =>
    if x.begun || earlier s.bt ((s.txAt x.port (x.k - 1) >>> 16) <<< 16) then s
    else
      let s1 := slotEcc g x s
      match s1.launchCause g x with
      | some c => missSlot g h c s1
      | none => s1.setSlot g h (some { x with begun := true })

/-- The last block of a launched frame has been sent (R537 to R539). -/
def launched (g h : Nat) (s : State) : State :=
  match s.slot g h with
  | none => s
  | some x =>
    match x.sub with
    | none => s
    | some u =>
      let w := withFcs u.data
      if !x.begun || earlier s.bt ((s.txAt x.port (x.k + cdiv (w.length + 1) 8) >>> 16) <<< 16) then s
      else
        let s1 := stat x.port 21 1 (stat x.port 20 w.length (s.emit (.frame x.port w)))
        let s2 := match u.ts with
          | some (q, tag) => txCapture x.port x.k q tag s1
          | none => s1
        pathFree x.port (endSlot g h x .sent 0 (s2.count (Reg.TSU_CNT_SENT g)))

/-! ### The commands -/

/-- BOUNDARY_VISIT (R510). -/
def execBoundaryVisit (l : Fin 16) (rx : Bool) (k : BitVec 64) (p : BT80) (per : DWord) (s : State) :
    Host.Outcome State Fault Refusal :=
  cmdE (Reg.TSU (l.val / 4)) (boundaryVisit l.val rx k.toNat p per.toNat) s

/-- LANE_MODEL_EXPIRE (R511). -/
def execLaneModelExpire (l : Fin 16) (rx : Bool) (s : State) : Host.Outcome State Fault Refusal :=
  cmdE (Reg.TSU (l.val / 4)) (laneExpire l.val rx) s

/-- RESERVE (R519). -/
def execTsuReserve (m : Master) (g : Fin 4) (v : Word) (s : State) : Host.Outcome State Fault Refusal :=
  cmdW m (Reg.TSU_RQ_W g.val 5) v (wrReserve m g.val) s

/-- RESERVATION_CANCEL (R530). -/
def execReservationCancel (m : Master) (g : Fin 4) (v : Word) (s : State) : Host.Outcome State Fault Refusal :=
  cmdW m (Reg.TSU_CANCEL g.val) v (wrCancel g.val) s

/-- SUBMISSION (R527): a class-6 descriptor of a port; on port 16 the scheduler discards it (R727). -/
def execTsuSubmission (p : Fin 17) (desc : List Byte) (s : State) : Host.Outcome State Fault Refusal :=
  if p.val = 16 then cmdE Reg.SCH (badDescriptor desc) s else cmdE (Reg.TSU (p.val / 4)) (submit p.val desc) s

/-- SUBMIT_DEADLINE (R527). -/
def execSubmitDeadline (g : Fin 4) (h : BitVec 11) (s : State) : Host.Outcome State Fault Refusal :=
  cmdE (Reg.TSU g.val) (slotDeadline g.val h.toNat) s

/-- LAUNCH (R529). -/
def execTsuLaunch (g : Fin 4) (h : BitVec 11) (s : State) : Host.Outcome State Fault Refusal :=
  cmdE (Reg.TSU g.val) (launch g.val h.toNat) s

/-- LAUNCH_COMPLETE (R538). -/
def execLaunchComplete (g : Fin 4) (h : BitVec 11) (s : State) : Host.Outcome State Fault Refusal :=
  cmdE (Reg.TSU g.val) (launched g.val h.toNat) s

/-- TSU_TEMP_SAMPLE (R514). -/
def execTsuTempSample (g : Fin 4) (t : BitVec 16) (s : State) : Host.Outcome State Fault Refusal :=
  cmdE (Reg.TSU g.val) (tsuSample g.val t) s

/-- PHASE_LOST (R545). -/
def execPhaseLost (p : Fin 16) (s : State) : Host.Outcome State Fault Refusal :=
  cmdE (Reg.TSU (p.val / 4)) (phaseLostAt p.val) s

/-- CLASS6_PASS (R728). -/
def execClass6Pass (p : Fin 17) (s : State) : Host.Outcome State Fault Refusal := cmdT Reg.SCH (class6 p.val) s

end Sys2Proof.Machine
end

