-- ==== Sys2Proof/Machine/ServeCore.lean ====
section
/-! DEFINITION. What the serving code does for every protocol: whether the unit serves, the Quarry record and its policer, the frames
it builds and how they leave, and the bound it carries (R640 to R642, R651, R652, R655 to R663, R667, R153, R156). -/
namespace Sys2Proof.Machine

/-! ### Requests -/

/-- A request as a serving thread takes it from its receive descriptor (R648, R716). -/
structure Req where
  p : Nat
  cl : Nat                              -- the serving cluster
  rx : BT80
  f : List Byte                         -- the frame without its FCS
  h : Hdr
  n : Net
  bucket : Nat
  tag : Nat
  deriving DecidableEq, Repr

/-- A frame, destination through FCS, as a request (R715, R716). -/
def State.request (s : State) (p cl : Nat) (rx : BT80) (data : List Byte) : Req :=
  let f := data.take (data.length - 4)
  let h := parseHdr f
  let n := parseNet f h
  let b := s.hashOf (clientKey f h n)
  { p := p, cl := cl, rx := rx, f := f, h := h, n := n, bucket := b.1, tag := b.2 }

/-- Served time of a request's timestamp point. -/
def Req.at_ (r : Req) (s : State) : WT96 := s.servedAt r.rx

/-- Take the request's descriptor from the head of its receive queue, where it stands there, and give its buffer back (R648, R715). -/
def takeRx (kind : Nat) (r : Req) (data : List Byte) (s : State) : State :=
  let reg := s.reg (Reg.QRY_RXQ ([1, 2, 0, 3].getD kind 0))
  let q := fld reg 0 18 + r.bucket % 2 ^ fld reg 20 4
  let x := s.queue q
  let d := s.sharedRd (x.slot x.head) 32
  if x.en && decide (x.depth ≠ 0) && decide (leAt d 13 1 = r.p) && decide (leAt d 14 2 = data.length) &&
      s.sharedRd (leAt d 8 5) data.length == data then
    (blockPush (s.rf Reg.POL_FBQ 0 18) (bytesLE 16 (leAt d 8 5)) (queuePop q s).2.2).2
  else s

/-- The unit serves what happened, or is due, at a served time: in the roles SOLO and ACTIVE; an active unit what lies at or after the
instant it took over, and one that a handover relieves what lies before the switch (R642, R805, R814). -/
def State.servesAt (s : State) (w : WT96) : Bool :=
  let t : WT96 := BitVec.ofNat 96 (s.regN Reg.MATE_HO_TIME 3)
  match s.mrole with
  | .solo => true
  | .active => if s.mate.leaveAt.isSome then earlier w t else atOrAfter w t
  | .standby => false
  | .isolated => false

/-- A request is neither answered nor looked at (R642, R664). -/
def notServed (r : Req) (s : State) : State := stat1 r.cl 21 s

/-- Log a violation of a client (R701, R702). -/
def clientFault (r : Req) (cls : Nat) (a : VAnswer) (detail : Nat) (s : State) : State :=
  vlog (some r.cl) { cls := cls, port := r.p, answer := a, partner := 0, tag := r.tag, detail := detail } s

/-! ### Quarry records (R657, R658) -/

/-- A Quarry record (R658); `tail` is oldCookies and naks, or the session index. -/
structure QRec where
  tag : Nat
  tokens : Nat
  lastSeen : Nat
  requests : Nat
  drops : Nat
  lastKod : Nat
  nts : Bool
  ptp : Bool
  pinned : Bool
  kodValid : Bool
  profile : Nat
  epoch : Nat
  tail : Nat
  deriving DecidableEq, Repr

/-- The record that 32 bytes hold. -/
def QRec.ofBytes (l : List Byte) : QRec :=
  let fl := leAt l 24 1
  { tag := leAt l 0 8, tokens := leAt l 8 4, lastSeen := leAt l 12 4, requests := leAt l 16 4, drops := leAt l 20 2,
    lastKod := leAt l 22 2, nts := fl % 2 == 1, ptp := fl / 2 % 2 == 1, pinned := fl / 4 % 2 == 1, kodValid := fl / 8 % 2 == 1,
    profile := leAt l 25 1 % 8, epoch := leAt l 26 2, tail := leAt l 28 4 }

/-- The 32 bytes of a record. -/
def QRec.bytes (r : QRec) : List Byte :=
  bytesLE 8 r.tag ++ bytesLE 4 r.tokens ++ bytesLE 4 r.lastSeen ++ bytesLE 4 r.requests ++ bytesLE 2 r.drops ++
    bytesLE 2 r.lastKod ++ bytesLE 1 (b2n r.nts + 2 * b2n r.ptp + 4 * b2n r.pinned + 8 * b2n r.kodValid) ++
    bytesLE 1 r.profile ++ bytesLE 2 r.epoch ++ bytesLE 4 r.tail

/-- Record i of a present bucket. -/
def State.qrec (s : State) (b i : Nat) : QRec := QRec.ofBytes (s.lineRd b (32 * i) 32)
/-- Store record i of a present bucket. -/
def putRec (b i : Nat) (r : QRec) (s : State) : State := lineWr b (32 * i) r.bytes s

/-- Served time in units of 2^-10 s, modulo 2^32 (R662). (DEDUCED, log 65.) -/
def t32 (w : WT96) : Nat := w.toNat * 1024 / (1000000000 * 65536) % 2 ^ 32

/-- Units elapsed since a record was last seen; none where served time stepped back (R662). -/
def QRec.since (r : QRec) (now : Nat) : Nat :=
  let el := (now + 2 ^ 32 - r.lastSeen) % 2 ^ 32
  if 2 ^ 31 ≤ el then 0 else el

/-- The longest prefix entry that matches a client key: the entry and its length (R658). -/
def State.pfxOf (s : State) (key : List Byte) : Option Nat :=
  let fam := if key.headD 0 = 4 then 1 else if key.headD 0 = 6 then 2 else 0
  let w := if fam = 1 then 32 else 128
  let x := natBE (key.drop 1)
  let fits (j : Nat) : Bool :=
    let c := s.reg (Reg.QRY_PFX_CTL j)
    decide (fam ≠ 0) && decide (fld c 8 2 = fam) && decide (fld c 0 8 ≤ w) &&
      decide (x / 2 ^ (w - fld c 0 8) = natBE (s.addrOf (Reg.QRY_PFX_ADDR j 0) fam) / 2 ^ (w - fld c 0 8))
  (List.range 16).foldl (fun best j =>
    if fits j then
      match best with
      | none => some j
      | some b => if s.rf (Reg.QRY_PFX_CTL b) 0 8 < s.rf (Reg.QRY_PFX_CTL j) 0 8 then some j else some b
    else best) none

/-- A new record of a client (R658). -/
def State.newRec (s : State) (r : Req) (now : Nat) : QRec :=
  let j := s.pfxOf (clientKey r.f r.h r.n)
  let prof := match j with | some k => s.rf (Reg.QRY_PFX_CTL k) 12 3 | none => 0
  let pin := match j with | some k => s.rb (Reg.QRY_PFX_CTL k) 16 | none => false
  { tag := r.tag, tokens := s.rf (Reg.QRY_POL_BURST prof) 0 16 * 65536, lastSeen := now, requests := 0, drops := 0, lastKod := 0,
    nts := false, ptp := false, pinned := pin, kodValid := false, profile := prof, epoch := 0, tail := 0 }

/-- Make a bucket present. An access that gets an error is answered by zeroing the bucket and retrying; false where the table does
not answer at all (R661). (DEDUCED, log 65.) -/
def needBucket (b : Nat) (s : State) : Bool × State :=
  match touchLine b s with
  | (true, s1) => (true, s1)
  | (false, s1) =>
    match touchLine b s1 with
    | (true, s2) => (true, lineWr b 0 (List.replicate 256 0) s2)
    | (false, s2) => (false, s2)

/-- The slot a client takes in its present bucket, and whether a record is evicted for it (R657). -/
def State.slotFor (s : State) (r : Req) (now : Nat) : Option (Nat × Bool) :=
  let is := List.range 8
  match is.find? (fun i => decide ((s.qrec r.bucket i).tag = 0)) with
  | some i => some (i, false)
  | none =>
    let old := is.foldl (fun best i => if (s.qrec r.bucket best).since now < (s.qrec r.bucket i).since now then i else best) 0
    let x := s.qrec r.bucket old
    if x.pinned = false ∧ s.rf Reg.QRY_TBL_CFG 16 16 * 1024 ≤ x.since now then some (old, true) else none

/-- Look up a client, initialising or evicting by R657; none when it is served untracked. (DEDUCED, log 65.) -/
def findClient (r : Req) (now : Nat) (s0 : State) : Option (Nat × QRec) × State :=
  match needBucket r.bucket s0 with
  | (false, s) => (none, stat1 r.cl 8 s)
  | (true, s) =>
    match (List.range 8).find? (fun i => decide ((s.qrec r.bucket i).tag = r.tag)) with
    | some i => (some (i, s.qrec r.bucket i), s)
    | none =>
      match s.slotFor r now with
      | some (i, ev) =>
        let x := s.newRec r now
        (some (i, x), putRec r.bucket i x (if ev then stat1 r.cl 9 s else s))
      | none => (none, stat1 r.cl 8 s)

/-- police (R662). -/
def QRec.police (r : QRec) (rate burst now cost : Nat) : Bool × QRec :=
  let t := min (burst * 65536) (r.tokens + rate * r.since now / 4)
  if cost * 65536 ≤ t then (true, { r with tokens := t - cost * 65536, lastSeen := now, requests := satU 32 (r.requests + 1) })
  else (false, { r with tokens := t, lastSeen := now, drops := satU 16 (r.drops + 1) })

/-- Police a request: whether it is admitted, and its record, if it is tracked (R657, R662). (DEDUCED, log 65.) -/
def policeReq (r : Req) (cost : Nat) (s0 : State) : Bool × Option (Nat × QRec) × State :=
  let now := t32 (r.at_ s0)
  match findClient r now s0 with
  | (none, s) => (true, none, s)
  | (some (i, x), s) =>
    match x.police (s.rf (Reg.QRY_POL_RATE x.profile) 0 24) (s.rf (Reg.QRY_POL_BURST x.profile) 0 16) now cost with
    | (ok, y) => (ok, some (i, y), putRec r.bucket i y (if ok then s else stat1 r.cl 7 s))

/-- A KoD, a policed denial or a NAK may be sent to a client now (R663); an untracked client has no interval. (DEDUCED, log 65.) -/
def State.kodMay (s : State) (r : Req) (c : Option (Nat × QRec)) : Bool :=
  match c with
  | none => true
  | some (_, x) =>
    !x.kodValid || decide (s.rf (Reg.QRY_POL_BURST x.profile) 16 16 ≤ (wholeSec (r.at_ s) % 65536 + 65536 - x.lastKod) % 65536)

/-- One of them is sent: lastKod and KOD_VALID are set (R663). -/
def kodSent (r : Req) (c : Option (Nat × QRec)) (nak : Bool) (s : State) : State :=
  match c with
  | none => s
  | some (i, x) =>
    let y := { x with lastKod := wholeSec (r.at_ s) % 65536, kodValid := true }
    let z := if nak ∧ y.ptp = false then { y with tail := y.tail % 65536 + satU 16 (y.tail / 65536 + 1) * 65536 } else y
    putRec r.bucket i z s

/-! ### Frames (R652) -/

/-- Where the answers to a request go (R652). -/
def Req.env (r : Req) : Env :=
  let tos := if r.n.v = 4 then beAt r.f (r.h.l3 + 1) 1 else beAt r.f r.h.l3 2 / 16 % 256
  { port := r.p, mac := sliceB r.f 6 6, tags := sliceB r.f 12 (r.h.l3 - 14), v := r.n.v, src := r.n.dst, dst := r.n.src,
    dscp := tos / 4 }

/-- The complement of a ones' complement sum. -/
def csum (l : List Byte) : Nat := 0xFFFF - sum16 l

/-- The IP header and payload of a message of a protocol; identification and flow label are `id` (R652). -/
def ipPacket (e : Env) (proto id : Nat) (l4 : List Byte) : List Byte :=
  if e.v = 4 then
    let hd (c : Nat) : List Byte := bytesBE 1 0x45 ++ bytesBE 1 (e.dscp * 4) ++ bytesBE 2 (20 + l4.length) ++ bytesBE 2 id ++
      bytesBE 2 0 ++ bytesBE 1 64 ++ bytesBE 1 proto ++ bytesBE 2 c ++ e.src ++ e.dst
    hd (csum (hd 0)) ++ l4
  else
    bytesBE 4 (6 * 2 ^ 28 + e.dscp * 4 * 2 ^ 20 + id % 2 ^ 20) ++ bytesBE 2 l4.length ++ bytesBE 1 proto ++ bytesBE 1 64 ++
      e.src ++ e.dst ++ l4

/-- The pseudo-header of a message. -/
def pseudo (e : Env) (proto len : Nat) : List Byte :=
  e.src ++ e.dst ++ (if e.v = 4 then bytesBE 2 proto ++ bytesBE 2 len else bytesBE 4 len ++ bytesBE 4 proto)

/-- A UDP datagram with its checksum. -/
def udp (e : Env) (sport dport : Nat) (pay : List Byte) : List Byte :=
  let hd (c : Nat) : List Byte := bytesBE 2 sport ++ bytesBE 2 dport ++ bytesBE 2 (8 + pay.length) ++ bytesBE 2 c
  let c := csum (pseudo e 17 (8 + pay.length) ++ hd 0 ++ pay)
  hd (if c = 0 then 0xFFFF else c) ++ pay

/-- The Ethernet header of a message from a port (R652). -/
def State.ethHdr (s : State) (e : Env) (etype : Nat) : List Byte := e.mac ++ s.prtMac e.port ++ e.tags ++ bytesBE 2 etype

/-- A whole UDP frame without its FCS (R652). -/
def State.udpFrame (s : State) (e : Env) (id sport dport : Nat) (pay : List Byte) : List Byte :=
  s.ethHdr e (if e.v = 4 then 0x0800 else 0x86DD) ++ ipPacket e 17 id (udp e sport dport pay)

/-! ### Leaving -/

/-- The queues of the weighted classes of a port (R725, R738). (DEDUCED, log 64.) -/
def State.weightedQueues (s : State) (p : Nat) : List Nat :=
  (List.range 6).flatMap (fun c => (List.range (s.clsQueues p c).1).map (fun i => (s.clsQueues p c).2 + i))

/-- A transmit descriptor of a frame in a buffer of the free-buffer queue, to which it returns (R726, R734). (DESIGN CHOICE, log 63.) -/
def State.txDesc (s : State) (buf p len : Nat) : List Byte :=
  bytesLE 5 buf ++ bytesLE 1 p ++ bytesLE 2 len ++ bytesLE 4 0 ++ bytesLE 3 0 ++ [2] ++ bytesLE 2 0 ++
    bytesLE 3 (s.rf Reg.POL_FBQ 0 18) ++ List.replicate 11 0

/-- Send a frame through a weighted class of its port: in a buffer of the free-buffer queue, by a queue of a class that the spec does
not name; false where the port has no such queue, no buffer is free or the queue is full. (DEDUCED, log 64.) -/
def sendWeighted (p : Nat) (f : List Byte) (s : State) : Bool × State :=
  let qs := s.weightedQueues p
  match qs[s.freeVal % qs.length]? with
  | none => (false, s)
  | some q =>
    if 2048 * 2 ^ s.rf Reg.POL_FBSZ 0 2 < f.length then (false, s)
    else
      match queuePop (s.rf Reg.POL_FBQ 0 18) s.nextFree with
      | (.ok, e, s1) =>
        match blockPush q (s1.txDesc (leAt e 0 5) p f.length) (s1.sharedWr (leAt e 0 5) f) with
        | (.ok, s2) => (true, s2)
        | (_, s2) => (false, (blockPush (s2.rf Reg.POL_FBQ 0 18) e s2).2)
      | (_, _, s1) => (false, s1)

/-- Reserve a launch, again while the refusal is FULL, twice at most (R667). -/
def reserveTry : Nat → RsvReq → State → Grant × State
  | 0, r, s => reserve r none s
  | n + 1, r, s =>
    match reserve r none s with
    | (g, s1) => if g.status = .full then reserveTry n r s1 else (g, s1)

/-- Submit a frame for a reserved slot (R527). -/
def submitFrame (p h : Nat) (f : List Byte) (s : State) : State :=
  match s.slot (p / 4) h with
  | none => s
  | some x => s.setSlot (p / 4) h (some { x with sub := some { data := f, free := none, ts := none } })

/-- A queue and tag for the completion of a launch that belongs to no session: the spec names neither (R691). (DESIGN CHOICE, log 63.) -/
def State.otherCq (s : State) : Nat :=
  let m := min (s.rf Reg.QRY_SESS_CFG 0 19) (2 ^ 18 - 1)
  m + s.freeVal % (2 ^ 18 - m)

/-! ### The bound (R149 to R157, R667) -/

/-- Evaluate for a served message (R149); the request is counted. -/
def evalFor (p : Nat) (b : BT80) (s : State) : (Bound × TimeStatus × Bool × AsySet) × State :=
  let x := evaluate s b (some p)
  (x, noteEval b (some p) x.2.1 (pmuChip 0x0D 0 (s.count Reg.ASY_CNT_EVAL)))

/-- What a message carries of an evaluation. -/
structure Carried where
  e : Nat
  ts : TimeStatus
  past : Bool
  k : Nat
  ref : Nat                             -- activeRef
  deriving DecidableEq, Repr

/-- The result at one boundary, with the reference selected there. -/
def carried (ref : Nat) (x : Bound × TimeStatus × Bool × AsySet) : Carried :=
  { e := x.1.e, ts := x.2.1, past := x.2.2.1, k := x.2.2.2.val 0x044, ref := ref }

/-- The larger of the bound at the receive boundary and at the launch boundary, with the status of the launch (R667).
(DEDUCED, log 68.) -/
def carriedMax (ref : Nat) (rx tx : Bound × TimeStatus × Bool × AsySet) : Carried :=
  if tx.1.e < rx.1.e then { carried ref tx with e := rx.1.e, past := rx.2.2.1 } else carried ref tx

/-- The 20 bytes that the TLV and the extension field share (R153, R156). -/
def State.boundBytes (s : State) (c : Carried) : List Byte :=
  bytesBE 1 1 ++ bytesBE 1 c.ts.code ++ bytesBE 1 (boundFlags s c.past c.e) ++ bytesBE 1 c.ref ++ bytesBE 2 c.k ++
    bytesBE 6 c.e ++ bytesBE 4 (s.recSeq % 2 ^ 32) ++ bytesBE 4 (cfgSum32 s)

/-- The bound extension field; nothing while TYPE is 0 (R156). -/
def State.boundEf (s : State) (c : Carried) : List Byte :=
  let t := s.rf Reg.ASY_NEF 0 16
  if t = 0 then [] else bytesBE 2 t ++ bytesBE 2 24 ++ s.boundBytes c

/-- The bound TLV (R153). -/
def State.boundTlv (s : State) (c : Carried) : List Byte :=
  let t := [0x0003, 0x4000, 0x8000].getD (s.rf Reg.ASY_PTLV_CTRL 0 2) 0x8000
  bytesBE 2 t ++ bytesBE 2 26 ++ bytesBE 3 (s.rf Reg.ASY_PTLV_ORG 0 24) ++ bytesBE 3 (s.rf Reg.ASY_PTLV_SUB 0 24) ++ s.boundBytes c

/-! ### Assay record requests (R168, R700) -/

/-- The index of the ring entry with a sequence number, among those written (R166, R168). -/
def State.recordAt (s : State) (seq : Nat) : Option Nat :=
  let n := 2 ^ s.rf Reg.ASY_RING_SIZE 0 5
  let wr := (s.reg Reg.ASY_RING_WR).toNat % n
  let base := s.regN Reg.ASY_RING_BASE 2 / 4096 * 4096
  let cnt := if s.asy.ringFull then n else wr
  if seq = 2 ^ 64 - 1 then (if cnt = 0 then none else some (base + 256 * ((wr + n - 1) % n)))
  else
    match (List.range cnt).find? (fun i => decide (natBE (s.sharedRd (base + 256 * i + 24) 8) = seq)) with
    | some i => some (base + 256 * i)
    | none => none

/-- The 260 bytes of a record response: the status, three zero bytes and the record. What stands in the record's place without one is
open (R168). -/
def recordValue (seq : Nat) (s : State) : List Byte × State :=
  match s.recordAt seq with
  | some a => if s.sharedOk a 256 then ([0, 0, 0, 0] ++ s.sharedRd a 256, s) else ([1, 0, 0, 0] ++ bytesLE 256 s.freeVal, s.nextFree)
  | none => ([1, 0, 0, 0] ++ bytesLE 256 s.freeVal, s.nextFree)

/-! ### Exceptions found by the serving code (R653 reason 8) -/

/-- Pass a frame to the host exception ring of a reason (R653, R654). -/
def toException (reason : Nat) (r : Req) (data : List Byte) (s : State) : State :=
  match excToken (s.rf Reg.QRY_EXC_MAP (2 * reason) 2) s with
  | (true, s1) => (excPut (s1.rf Reg.QRY_EXC_MAP (2 * reason) 2) (excSlot reason r.p data (r.rx, true) false r.h r.n) s1).2
  | (false, s1) => s1

end Sys2Proof.Machine
end

