-- ==== Sys2Proof/Machine/Ntp.lean ====
section
/-! DEFINITION. NTP, NTS and ARP/ND as the serving code answers them, and cookies minted for the host (R651, R664 to R680). -/
namespace Sys2Proof.Machine

/-! ### Messages -/

/-- An extension field of an NTP message: its type, and its place and whole length in the payload (R664, R669). -/
structure Ef where
  typ : Nat
  off : Nat
  len : Nat
  deriving DecidableEq, Repr

/-- The extension fields from an offset on; none where their lengths do not tile the payload (R664). -/
def parseEfs (pay : List Byte) : Nat → Nat → Option (List Ef)
  | 0, _ => none
  | n + 1, o =>
    if o = pay.length then some []
    else
      let l := beAt pay (o + 2) 2
      if l < 4 ∨ pay.length < o + l then none
      else (parseEfs pay n (o + l)).map ({ typ := beAt pay o 2, off := o, len := l } :: ·)

/-- The body of an extension field. -/
def Ef.body (pay : List Byte) (x : Ef) : List Byte := sliceB pay (x.off + 4) (x.len - 4)

/-- The UDP payload of a request. -/
def Req.pay (r : Req) : List Byte := sliceB r.f (r.n.l4 + 8) (beAt r.f (r.n.l4 + 4) 2 - 8)

/-- The sequence number that a record request field of a message asks for (R168). -/
def State.recReq (s : State) (efs : List Ef) : Option Ef :=
  let t := s.rf Reg.ASY_NEF 16 16
  if t = 0 then none else efs.find? (fun x => decide (x.typ = t))

/-- A record response field (R168). (DEDUCED, log 68.) -/
def State.recEf (s : State) (v : List Byte) : List Byte := bytesBE 2 (s.rf Reg.ASY_NEF 16 16) ++ bytesBE 2 264 ++ v

/-- The automatic Reference ID (R666). -/
def State.autoRefid (s : State) : List Byte :=
  if s.actRef = 0xFF then label8 "NONE"
  else
    match kindOf s.actRef with
    | .gnss => label8 "GNSS"
    | .ptp => label8 "PTP" ++ [0]
    | .phys => label8 "PPS" ++ [0]
    | .atomic => label8 "ATOM"
    | .synce => label8 "SYNC"
    | .mate => label8 "MATE"

/-- Poll of a response: the request's, clamped (R665). -/
def State.pollOf (s : State) (pay : List Byte) : Nat :=
  let c := s.reg Reg.QRY_NTP_CFG
  (clampI (bits c 16 8).toInt (bits c 24 8).toInt (pay.getD 2 0).toInt % 256).toNat

/-- The header of a response (R665). (PRESUMED, log 66.) -/
def State.ntpHeader (s : State) (r : Req) (c : Carried) (wt : WT96) : List Byte :=
  let pay := r.pay
  let b0 := beAt pay 0 1
  let bad := !c.ts.inService
  let leap := s.rf Reg.BDR_UTC_OFS 16 2
  let li := if bad then 3 else if leap = 1 then 1 else if leap = 2 then 2 else 0
  let rid := s.reg Reg.QRY_NTP_REFID
  let disp := if c.e = 2 ^ 48 - 1 then 0xFFFFFFFF else satU 32 (cdiv (c.e * 65536) 1000000000000)
  let refT := match s.asy.cur.lu with | some b => (s.nt64Of (s.servedAt b)).toNat | none => 0
  bytesBE 1 (li * 64 + b0 / 8 % 8 * 8 + (if b0 % 8 = 1 then 2 else 4)) ++
    bytesBE 1 (if bad then 16 else s.rf Reg.QRY_NTP_CFG 8 4) ++ bytesBE 1 (s.pollOf pay) ++ bytesBE 1 0xE2 ++ bytesBE 4 0 ++
    bytesBE 4 disp ++ (if rid = 0 then s.autoRefid else bytesBE 4 rid.toNat) ++ bytesBE 8 refT ++ sliceB pay 40 8 ++
    bytesBE 8 (s.nt64Of (r.at_ s)).toNat ++ bytesBE 8 (s.nt64Of wt).toNat

/-- Length of a UDP frame without its FCS, by that of its payload. -/
def Env.udpLen (e : Env) (n : Nat) : Nat := 14 + e.tags.length + (if e.v = 4 then 20 else 40) + 8 + n

/-- An answer through the weighted classes (R668, R676). -/
def ntpWeighted (r : Req) (pay : List Byte) (s : State) : State :=
  (sendWeighted r.p (s.udpFrame r.env s.freeVal 123 (beAt r.f r.n.l4 2) pay) s.nextFree).2

/-- The header of a KoD or a NAK: what R668 and R676 do not list is open. (DESIGN CHOICE, log 63.) -/
def kissHeader (ver : Nat) (code : String) (pay refT : List Byte) (free : Nat) : List Byte :=
  bytesBE 1 (3 * 64 + ver * 8 + 4) ++ [0] ++ bytesLE 10 free ++ label8 code ++ refT ++ sliceB pay 40 8 ++ List.replicate 16 0

/-- A KoD RATE (R668). -/
def sendKod (r : Req) (c : Option (Nat × QRec)) (s : State) : State :=
  let h := kissHeader (beAt r.pay 0 1 / 8 % 8) "RATE" r.pay (List.replicate 8 0) s.freeVal
  ntpWeighted r h (stat1 r.cl 4 (kodSent r c false s.nextFree))

/-- A dropped plain request: a KoD where the interval allows one, and KOD_INT is not 0 (R663). -/
def ntpPoliced (r : Req) (c : Option (Nat × QRec)) (s : State) : State :=
  let kod := match c with
    | some (_, x) => s.kodMay r c && decide (s.rf (Reg.QRY_POL_BURST x.profile) 16 16 ≠ 0)
    | none => false
  let s1 := clientFault r 11 (if kod then .kod else .dropped) (beAt r.pay 0 1 % 8) s
  if kod then sendKod r c s1 else s1

/-- Reserve the launch of a response and evaluate its bound (R667); none where no slot is had. -/
def ntpLaunch (r : Req) (payLen : Nat) (s : State) : Option (Grant × Carried) × State :=
  let q : RsvReq := { port := r.p, at_ := false, len := wireLen (r.env.udpLen payLen), tag := BitVec.ofNat 32 s.nextFree.freeVal,
                      cq := s.otherCq, target := 0 }
  match reserveTry 2 q s.nextFree.nextFree with
  | (g, s1) =>
    if g.status ≠ .granted then (none, stat1 r.cl 10 s1)
    else
      let a := evalFor r.p r.rx s1
      let b := evalFor r.p g.tx a.2
      (some (g, carriedMax (b.2.actRefAt g.tx) a.1 b.1), b.2)

/-- Submit a response (R527). -/
def ntpSubmit (r : Req) (g : Grant) (pay : List Byte) (s : State) : State :=
  submitFrame r.p g.handle (s.udpFrame r.env s.freeVal 123 (beAt r.f r.n.l4 2) pay) s.nextFree

/-- Serve an admitted plain request (R664 to R667, R700). -/
def ntpAnswer (r : Req) (rq : Option Ef) (s : State) : State :=
  let pay := r.pay
  let efLen := (if rq.isSome then 264 else 0) + (if s.rf Reg.ASY_NEF 0 16 = 0 then 0 else 24)
  if rq.isSome && (!s.rb Reg.QRY_NTP_CFG 4 || decide (pay.length < 48 + efLen)) then
    clientFault r 12 .dropped ((rq.map Ef.typ).getD 0) s
  else
    match ntpLaunch r (48 + efLen) s with
    | (none, s1) => s1
    | (some (g, c), s1) =>
      match rq with
      | none => stat1 r.cl 1 (ntpSubmit r g (s1.ntpHeader r c g.wt ++ s1.boundEf c) s1)
      | some x =>
        match recordValue (beAt pay (x.off + 4) 8) s1 with
        | (v, s2) =>
          let s3 := ntpSubmit r g (s2.ntpHeader r c g.wt ++ s2.recEf v ++ s2.boundEf c) s2
          stat1 r.cl 1 (if v.headD 1 = 0 then stat1 r.cl 20 s3 else s3)

/-- A plain NTP request (R664). -/
def servePlain (r : Req) (efs : List Ef) (s0 : State) : State :=
  let s := stat1 r.cl 0 s0
  let mode := beAt r.pay 0 1 % 8
  if !s.rb Reg.QRY_NTP_CFG 0 || !s.rb Reg.QRY_NTP_CFG 1 || (decide (mode = 1) && !s.rb Reg.QRY_NTP_CFG 3) then notServed r s
  else
    let rq := s.recReq efs
    let s1 := if rq.isSome then stat1 r.cl 19 s else s
    match policeReq r (if rq.isSome then 5 else 1) s1 with
    | (true, _, s2) => ntpAnswer r rq s2
    | (false, c, s2) => ntpPoliced r c s2

/-! ### NTS (R669 to R677) -/

/-- The fields of an NTS request that its answer needs (R669). -/
structure NtsReq where
  uid : Ef
  cookie : List Byte
  places : Nat                          -- placeholders whose body is 104 bytes long
  auth : Ef
  nonce : List Byte
  cipher : List Byte
  deriving DecidableEq, Repr

/-- The types of the NTS extension fields (R669). -/
def ntsTypes : List Nat := [0x0104, 0x0204, 0x0304, 0x0404]

/-- Four-byte alignment. -/
def pad4 (n : Nat) : Nat := (n + 3) / 4 * 4

/-- The checks of R669 on the fields of a request. (DEDUCED, log 69.) -/
def ntsParse (pay : List Byte) (efs : List Ef) : Option NtsReq :=
  let of (t : Nat) : List Ef := efs.filter (fun x => decide (x.typ = t))
  match of 0x0104, of 0x0204, of 0x0404, efs.getLast? with
  | [u], [c], [a], some z =>
    let nl := beAt pay (a.off + 4) 2
    let cl := beAt pay (a.off + 6) 2
    if beAt pay 0 1 / 8 % 8 = 4 ∧ beAt pay 0 1 % 8 = 3 ∧ 36 ≤ u.len ∧ z = a ∧ 16 ≤ nl ∧ nl ≤ 64 ∧ 8 + pad4 nl + pad4 cl ≤ a.len then
      some { uid := u, cookie := c.body pay, places := ((of 0x0304).filter (fun x => decide (x.len = 108))).length, auth := a,
             nonce := sliceB pay (a.off + 8) nl, cipher := sliceB pay (a.off + 8 + pad4 nl) cl }
    else none
  | _, _, _, _ => none

/-- The epoch of a served time (R672). -/
def epochOf (w : WT96) : Nat := wholeSec w / 3600 % 2 ^ 32

/-- A NAK, where the interval and the rate allow it (R663, R676). (DEDUCED, log 61.) -/
def sendNak (r : Req) (q : NtsReq) (c : Option (Nat × QRec)) (cls : Nat) (s : State) : State :=
  let sec := wholeSec s.now
  let n := if s.svc.nakSec = sec then s.svc.nakCnt else 0
  if s.kodMay r c && decide (n < s.rf Reg.QRY_NTS_CFG 16 16 * 1000) then
    let s0 := clientFault r cls .nak 0x0204 s
    let s1 := { s0 with svc := { s0.svc with nakSec := sec, nakCnt := n + 1 } }
    let h := kissHeader 4 "NTSN" r.pay (bytesLE 8 s1.nextFree.freeVal) s1.freeVal
    let s2 := stat1 r.cl 5 (kodSent r c true s1.nextFree.nextFree)
    ntpWeighted r (h ++ sliceB r.pay q.uid.off q.uid.len) s2
  else stat1 r.cl 6 (clientFault r cls .dropped 0x0204 s)

/-- The keys in a cookie, C2S and S2C; none where it does not decrypt or names another AEAD (R670, R671, R673). -/
def openCookie (cookie : List Byte) (s : State) : Option (List Byte × List Byte) × State :=
  if cookie.length ≠ 104 then (none, s)
  else
    match cookieKey (beAt cookie 0 4) s with
    | (none, s1) => (none, s1)
    | (some k, s1) =>
      match sivOpen k (sivAds (sliceB cookie 0 4) (sliceB cookie 4 16)) (sliceB cookie 20 84) with
      | none => (none, s1)
      | some p => (if p.length = 68 ∧ beAt p 0 2 = 15 then some (sliceB p 4 32, sliceB p 36 32) else none, s1)

/-- Mint n cookies for a pair of keys under the epoch in force; none where the Lodestone register or the DRBG gives nothing
(R671, R675, R677). -/
def mintCookies (c2s s2c : List Byte) : Nat → State → Option (List (List Byte)) × State
  | 0, s => (some [], s)
  | n + 1, s =>
    let ep := epochOf s.now
    match cookieKey ep s with
    | (none, s1) => (none, s1)
    | (some k, s1) =>
      match drbg 16 s1 with
      | (none, s2) => (none, s2)
      | (some nonce, s2) =>
        let p := bytesBE 2 15 ++ [0, 0] ++ c2s ++ s2c
        let c := bytesBE 4 ep ++ nonce ++ sivSeal k (sivAds (bytesBE 4 ep) nonce) p
        match mintCookies c2s s2c n s2 with
        | (none, s3) => (none, s3)
        | (some l, s3) => (some (c :: l), s3)

/-- A cookie as an extension field (R674). -/
def cookieEf (c : List Byte) : List Byte := bytesBE 2 0x0204 ++ bytesBE 2 108 ++ c

/-- A response is dropped after its slot was reserved: it is released and the cause counted (R675, R677). (DEDUCED, log 68.) -/
def ntsDrop (r : Req) (g : Grant) (i : Nat) (s : State) : State := stat1 r.cl i (cancelSlot (r.p / 4) g.handle s)

/-- Steps 8 and 9 of R670: mint, seal and submit. -/
def ntsSeal (r : Req) (q : NtsReq) (s2c : List Byte) (cookies : List (List Byte)) (rv : List Byte) (g : Grant) (c : Carried)
    (s : State) : State :=
  match drbg 16 s with
  | (none, s1) => ntsDrop r g 13 s1
  | (some nonce, s1) =>
    let enc := s1.rb Reg.ASY_CFG 6
    let plain := s1.ntpHeader r c g.wt ++ sliceB r.pay q.uid.off q.uid.len ++ (if enc then [] else s1.boundEf c)
    let inner := cookies.flatMap cookieEf ++ rv ++ (if enc then s1.boundEf c else [])
    let ct := sivSeal s2c (sivAds plain nonce) inner
    let auth := bytesBE 2 0x0404 ++ bytesBE 2 (8 + 16 + ct.length) ++ bytesBE 2 16 ++ bytesBE 2 ct.length ++ nonce ++ ct
    stat1 r.cl 3 (ntpSubmit r g (plain ++ auth) s1)

/-- Steps 6 to 9 of R670, after the authenticator has verified. -/
def ntsAnswer (r : Req) (q : NtsReq) (keys : List Byte × List Byte) (c : Option (Nat × QRec)) (rq : Option Ef) (swapped : Bool)
    (s0 : State) : State :=
  let ep := beAt q.cookie 0 4
  let s := match c with
    | none => s0
    | some (i, x) =>
      let old := decide (ep ≠ epochOf (r.at_ s0)) && !x.ptp
      let tl := if old then satU 16 (x.tail % 65536 + 1) + x.tail / 65536 * 65536 else x.tail
      putRec r.bucket i { x with nts := true, epoch := ep % 65536, tail := tl } s0
  let n := min (s.rf Reg.QRY_NTS_CFG 4 4) (1 + q.places)
  let ef := if s.rf Reg.ASY_NEF 0 16 = 0 then 0 else 24
  match ntpLaunch r (48 + q.uid.len + ef + 24 + 16 + 108 * n + (if rq.isSome then 264 else 0)) s with
  | (none, s1) => s1
  | (some (g, cr), s1) =>
    if swapped then ntsDrop r g 12 s1
    else
      match mintCookies keys.1 keys.2 n s1 with
      | (none, s2) => ntsDrop r g 13 s2
      | (some l, s2) =>
        match rq with
        | none => ntsSeal r q keys.2 l [] g cr s2
        | some x =>
          match recordValue (beAt r.pay (x.off + 4) 8) s2 with
          | (v, s3) => ntsSeal r q keys.2 l (s3.recEf v) g cr (if v.headD 1 = 0 then stat1 r.cl 20 s3 else s3)

/-- An NTS request, in the order of R670; `swapped` says that the Lodestone register changes between its steps 4 and 8 (R675).
(DEDUCED, log 69.) -/
def serveNts (r : Req) (efs : List Ef) (swapped : Bool) (s0 : State) : State :=
  let s := stat1 r.cl 2 s0
  if !s.rb Reg.QRY_NTP_CFG 0 then notServed r s
  else
    match (if s.rb Reg.QRY_NTP_CFG 2 then ntsParse r.pay efs else none) with
    | none => clientFault r 10 .dropped 0x0404 s
    | some q =>
      let rq := s.recReq efs
      let s1 := if rq.isSome then stat1 r.cl 19 s else s
      match policeReq r (if rq.isSome then 5 else 1) s1 with
      | (false, _, s2) => clientFault r 11 .dropped (beAt r.pay 0 1 % 8) s2
      | (true, c, s2) =>
        let age := (epochOf (r.at_ s2) + 2 ^ 32 - beAt q.cookie 0 4) % 2 ^ 32
        if q.cookie.length ≠ 104 ∨ s2.rf Reg.QRY_NTS_CFG 0 3 < age then sendNak r q c 8 s2
        else
          match openCookie q.cookie s2 with
          | (none, s3) => sendNak r q c 8 s3
          | (some keys, s3) =>
            match sivOpen keys.1 (sivAds (r.pay.take q.auth.off) q.nonce) q.cipher with
            | none => sendNak r q c 9 s3
            | some _ => ntsAnswer r q keys c rq swapped s3

/-- A message on UDP port 123 (R664). (DEDUCED, log 70.) -/
def serveNtp (p cl : Nat) (rx : BT80) (data : List Byte) (swapped : Bool) (s0 : State) : State :=
  let r := s0.request p cl rx data
  let s := takeRx 2 r data s0
  let pay := r.pay
  let ver := beAt pay 0 1 / 8 % 8
  let mode := beAt pay 0 1 % 8
  if s.servesAt (r.at_ s) = false then notServed r s
  else if mode = 6 ∨ mode = 7 then toException 2 r data s
  else
    match parseEfs pay (pay.length + 1) 48 with
    | none => clientFault r 2 .dropped mode s
    | some efs =>
      let short : Bool := match s.recReq efs with | some x => decide (x.len < 12) | none => false
      if pay.length < 48 ∨ (ver ≠ 3 ∧ ver ≠ 4) ∨ (mode ≠ 1 ∧ mode ≠ 3) ∨ short then clientFault r 2 .dropped mode s
      else if efs.any (fun x => ntsTypes.contains x.typ) then serveNts r efs swapped s
      else servePlain r efs s

/-! ### Minting for the host (R678 to R680) -/

/-- Status of an NTS_MINT (R679). -/
inductive MintStatus where
  | ok | badAead | badCount | noKey | noEntropy | disabled
  deriving DecidableEq, Repr

/-- The code of a status (R679). -/
def MintStatus.code : MintStatus → Nat
  | .ok => 0 | .badAead => 1 | .badCount => 2 | .noKey => 3 | .noEntropy => 4 | .disabled => 5

/-- The result block of a request block, and the status (R678, R679). (DEDUCED, log 69.) -/
def mint (block : List Byte) (s : State) : MintStatus × List Byte × State :=
  let res (st : MintStatus) (l : List (List Byte)) : List Byte :=
    bytesLE 1 st.code ++ bytesLE 1 l.length ++ bytesLE 2 104 ++ bytesBE 4 (epochOf s.now) ++ l.flatten
  let n := leAt block 2 1
  if s.rb Reg.QRY_NTP_CFG 2 = false then (.disabled, res .disabled [], s)
  else if leAt block 0 2 ≠ 15 then (.badAead, res .badAead [], s)
  else if n = 0 ∨ 8 < n then (.badCount, res .badCount [], s)
  else if s.lodestone.isNone then (.noKey, res .noKey [], s)
  else
    match mintCookies (sliceB block 8 32) (sliceB block 40 32) n s with
    | (some l, s1) => (.ok, res .ok l, s1)
    | (none, s1) => (.noEntropy, res .noEntropy [], s1)

/-! ### ARP and ND (R651) -/

/-- Answer an ARP request for a service address. -/
def arpAnswer (r : Req) (s : State) : State :=
  let o := r.h.l3
  let a := bytesBE 2 1 ++ bytesBE 2 0x0800 ++ [6, 4] ++ bytesBE 2 2 ++ s.prtMac r.p ++ sliceB r.f (o + 24) 4 ++ sliceB r.f (o + 8) 10
  (sendWeighted r.p (s.ethHdr r.env 0x0806 ++ a) s).2

/-- Answer a Neighbor Solicitation with a solicited Advertisement whose override flag is set. (DEDUCED, log 70.) -/
def ndAnswer (r : Req) (s : State) : State :=
  let tgt := sliceB r.f (r.n.l4 + 8) 16
  let e := { r.env with src := tgt }
  let m (c : Nat) : List Byte := [136, 0] ++ bytesBE 2 c ++ bytesBE 4 0x60000000 ++ tgt ++ [2, 1] ++ s.prtMac r.p
  let body := m (csum (pseudo e 58 32 ++ m 0))
  (sendWeighted r.p (s.ethHdr e 0x86DD ++ ipPacket e 58 s.freeVal body) s.nextFree).2

/-- An ARP or ND frame (R651, R653). -/
def serveArpNd (p cl : Nat) (rx : BT80) (data : List Byte) (s0 : State) : State :=
  let r := s0.request p cl rx data
  let s := takeRx 3 r data s0
  let o := r.h.l3
  if s.servesAt (r.at_ s) = false then notServed r s
  else if r.h.etype = 0x0806 then
    (if beAt r.f o 2 = 1 ∧ beAt r.f (o + 2) 2 = 0x0800 ∧ beAt r.f (o + 6) 2 = 1 ∧ s.svcFor p r.h.vid 4 (sliceB r.f (o + 24) 4) then
      arpAnswer r s
    else toException 8 r data s)
  else if r.n.v = 6 ∧ r.n.proto = 58 ∧ beAt r.f r.n.l4 1 = 135 ∧ s.svcFor p r.h.vid 6 (sliceB r.f (r.n.l4 + 8) 16) then ndAnswer r s
  else toException 8 r data s

end Sys2Proof.Machine
end

