-- ==== Sys2Proof/Machine/PtpCore.lean ====
section
/-! DEFINITION. PTP messages as the serving code reads and writes them: headers, TLVs, authentication, Announce fields, and the
sessions of the session table (R681 to R697, R762 to R765, R153 to R155). -/
namespace Sys2Proof.Machine

/-! ### Reading a message -/

/-- A TLV: its type, place of its value and length of it. -/
structure Tlv where
  typ : Nat
  off : Nat
  len : Nat
  deriving DecidableEq, Repr

/-- The TLVs from an offset on; none where they do not tile the message (R701). -/
def parseTlvs (m : List Byte) : Nat → Nat → Option (List Tlv)
  | 0, _ => none
  | n + 1, o =>
    if o = m.length then some []
    else
      let l := beAt m (o + 2) 2
      if m.length < o + 4 + l then none else (parseTlvs m n (o + 4 + l)).map ({ typ := beAt m o 2, off := o + 4, len := l } :: ·)

/-- Length of the fixed part of a message by its messageType; 0 for an unknown type (IEEE 1588-2019). (PRESUMED, log 66.) -/
def ptpFixed (t : Nat) : Nat :=
  match t with
  | 0 => 44 | 1 => 44 | 2 => 54 | 3 => 54 | 8 => 44 | 9 => 54 | 0xA => 54 | 0xB => 64 | 0xC => 44 | 0xD => 48 | _ => 0

/-- Offset of the PTP message in a frame. -/
def Req.ptpOff (r : Req) : Nat := if r.h.etype = 0x88F7 then r.h.l3 else r.n.l4 + 8

/-- The message that a request holds and its TLVs; none for a malformed one (R701 class 1). -/
def Req.ptp (r : Req) : Option (List Byte × List Tlv) :=
  let o := r.ptpOff
  let len := beAt r.f (o + 2) 2
  let room := if r.n.v = 0 then r.f.length - o else beAt r.f (r.n.l4 + 4) 2 - 8
  let m := sliceB r.f o len
  let fx := ptpFixed (beAt m 0 1 % 16)
  if fx = 0 ∨ len < fx ∨ room < len ∨ beAt m 1 1 % 16 ≠ 2 then none
  else (parseTlvs m (len + 1) fx).map (fun l => (m, l))

/-- The request's own destination is a group address. -/
def Req.isGroup (r : Req) : Bool :=
  if r.n.v = 0 then (r.f.getD 0 0).getLsbD 0
  else if r.n.v = 4 then decide (224 ≤ (r.n.dst.headD 0).toNat) else decide (r.n.dst.headD 0 = 0xFF)

/-- TRANSPORT of a message (R711). -/
def Req.transport (r : Req) : Nat := if r.n.v = 0 then 0 else if r.n.v = 4 then 1 else 2

/-- The instance that serves a port, transport and domain: the lowest-numbered (R682). -/
def State.instFor (s : State) (p tr dom : Nat) : Option Nat :=
  (List.range 8).find? (fun i =>
    let c := s.reg (Reg.QRY_PTP_CFG i)
    bit c 0 && bit c (16 + p) && decide (fld c 4 2 = tr) && decide (fld c 8 8 = dom))

/-- PROFILE of an instance (R681). -/
def State.profile (s : State) (i : Nat) : Nat := s.rf (Reg.QRY_PTP_CFG i) 2 2

/-- Instance i serves port p with its transport and domain (R682). -/
def State.instServes (s : State) (i p : Nat) : Bool :=
  let c := s.reg (Reg.QRY_PTP_CFG i)
  s.instFor p (fld c 4 2) (fld c 8 8) == some i

/-! ### Authentication (R697, R762 to R765) -/

/-- The lowest-numbered enabled SA that matches (R762), RX_EN included on receive (R765). -/
def State.saFor (s : State) (spp kid : Nat) (rx : Bool) : Option Nat :=
  (List.range 8).find? (fun j =>
    let v := s.reg (Reg.KEY_SA j)
    bit v 31 && decide (fld v 0 8 = spp) && decide (fld v 8 8 = kid) && (!rx || bit v 17))

/-- A received message is authentic (R765). -/
def authOk (m : List Byte) (l : List Tlv) (s : State) : Bool × State :=
  match l.getLast? with
  | none => (false, s)
  | some t =>
    let kid := beAt m (t.off + 2) 4
    if t.typ ≠ 0x8009 ∨ t.len ≠ 22 ∨ beAt m (t.off + 1) 1 ≠ 0 ∨ 256 ≤ kid then (false, s)
    else
      match s.saFor (beAt m t.off 1) kid true with
      | none => (false, s)
      | some j =>
        match saKey j s with
        | (none, s1) => (false, s1)
        | (some k, s1) => (saTag (s.rf (Reg.KEY_SA j) 16 1) k (m.take (t.off + 6)) == sliceB m (t.off + 6) 16, s1)

/-- SPP and key ID of the messages of an instance, if they are authenticated (R697). -/
def State.instAuth (s : State) (i : Nat) : Option (Nat × Nat) :=
  if s.rb (Reg.QRY_PTP_CFG i) 6 then some (s.rf (Reg.QRY_PTP_AUTH i) 8 8, s.rf (Reg.QRY_PTP_AUTH i) 0 8) else none

/-! ### Writing a message -/

/-- What a header is written from; versionPTP is 2.1, sdoId 0. -/
structure PtpHead where
  typ : Nat
  dom : Nat
  flags : Nat
  cf : Int                              -- correctionField, 2^-16 ns
  port : Nat                            -- logical port of sourcePortIdentity
  seq : Nat
  log : Int
  deriving DecidableEq, Repr

/-- The sourcePortIdentity of the device on a port (R686). -/
def State.portId (s : State) (p : Nat) : List Byte := bytesBE 8 (s.regN Reg.QRY_CLKID 2) ++ bytesBE 2 (p + 1)

/-- The 34 bytes of a header for a message of a length. (PRESUMED, log 66.) -/
def State.ptpHeader (s : State) (x : PtpHead) (len : Nat) : List Byte :=
  let ctl := match x.typ with | 0 => 0 | 1 => 1 | 8 => 2 | 9 => 3 | 0xD => 4 | _ => 5
  bytesBE 1 x.typ ++ bytesBE 1 0x12 ++ bytesBE 2 len ++ bytesBE 1 x.dom ++ [0] ++ bytesBE 2 x.flags ++
    bytesBE 8 (x.cf % 2 ^ 64).toNat ++ bytesBE 4 0 ++ s.portId x.port ++ bytesBE 2 x.seq ++ bytesBE 1 ctl ++
    bytesBE 1 (x.log % 256).toNat

/-- A whole message, with its AUTHENTICATION TLV last where one is asked for; none when no SA matches or its key cannot be derived
(R697, R764). -/
def ptpMessage (x : PtpHead) (body : List Byte) (auth : Option (Nat × Nat)) (s : State) : Option (List Byte) × State :=
  match auth with
  | none => (some (s.ptpHeader x (34 + body.length) ++ body), s)
  | some (spp, kid) =>
    match s.saFor spp kid false with
    | none => (none, s)
    | some j =>
      match saKey j s with
      | (none, s1) => (none, s1)
      | (some k, s1) =>
        let m := s.ptpHeader x (34 + body.length + 26) ++ body ++ bytesBE 2 0x8009 ++ bytesBE 2 22 ++ bytesBE 1 spp ++ [0] ++ bytesBE 4 kid
        (some (m ++ saTag (s.rf (Reg.KEY_SA j) 16 1) k m), s1)

/-- The frame of a message: Ethertype 0x88F7, or UDP to port 319 for an event message and 320 for a general one. -/
def State.ptpFrame (s : State) (e : Env) (id typ : Nat) (m : List Byte) : List Byte :=
  if e.v = 0 then s.ethHdr e 0x88F7 ++ m
  else let port := if typ < 4 then 319 else 320
       s.udpFrame e id port port m

/-- Length of such a frame. -/
def Env.ptpLen (e : Env) (n : Nat) : Nat := if e.v = 0 then 14 + e.tags.length + n else 14 + e.tags.length + (if e.v = 4 then 20 else 40) + 8 + n

/-- The bound TLV of a message type enabled in ASY_PTLV_CTRL (R153, R173). -/
def State.tlvFor (s : State) (typ : Nat) (c : Carried) : List Byte :=
  let i := match typ with | 0 => 4 | 8 => 5 | 9 => 6 | 0xB => 7 | _ => 31
  if s.rb Reg.ASY_PTLV_CTRL i then s.boundTlv c else []

/-- The first service address of a port in a family (R652). -/
def State.firstSvc (s : State) (p fam : Nat) : Option (List Byte) :=
  ((List.range 32).find? (fun k => s.rb (Reg.QRY_SVC_CTL k) (16 + p) && decide (s.rf (Reg.QRY_SVC_CTL k) 14 2 = fam))).map
    (fun k => s.addrOf (Reg.QRY_SVC_ADDR k 0) fam)

/-- Where the multicast messages of an instance go on a port; none without a service address to send from (R652, R681, R711). The
scope of the IPv6 group is one of those of R705, which the spec does not choose between. (DESIGN CHOICE, log 63.) -/
def State.groupEnv (s : State) (i p : Nat) : Option Env :=
  let c := s.reg (Reg.QRY_PTP_CFG i)
  match fld c 4 2 with
  | 0 => some { port := p, mac := if bit c 1 then [0x01, 0x80, 0xC2, 0, 0, 0x0E] else [0x01, 0x1B, 0x19, 0, 0, 0], tags := [], v := 0,
                src := [], dst := [], dscp := 0 }
  | 1 => (s.firstSvc p 1).map (fun a => { port := p, mac := [0x01, 0x00, 0x5E, 0x00, 0x01, 0x81], tags := [], v := 4, src := a,
                                          dst := [224, 0, 1, 129], dscp := s.freeVal % 64 })
  | _ => (s.firstSvc p 2).map (fun a =>
      let x := [2, 5, 8, 14].getD (s.freeVal / 64 % 4) 14
      { port := p, mac := [0x33, 0x33, 0x00, 0x00, 0x01, 0x81], tags := [], v := 6, src := a,
        dst := [0xFF, BitVec.ofNat 8 x] ++ List.replicate 12 0 ++ [0x01, 0x81], dscp := s.freeVal % 64 })

/-- Take the next sequenceId of an instance on a port: 0 Sync, 1 Announce, 2 Signaling. -/
def nextSeq (i p k : Nat) (s : State) : Nat × State :=
  let key := (i * 16 + p) * 4 + k
  let n := AMap.get 0 s.svc.seqs key
  (n, { s with svc := { s.svc with seqs := AMap.set 0 s.svc.seqs key ((n + 1) % 2 ^ 16) } })

/-! ### Announce (R154, R155, R686 to R688) -/

/-- The limits of the clockAccuracy codes 0x17 to 0x30, ps (R154). (DEDUCED, log 34.) -/
def accLimits : List Nat :=
  [1, 2, 10, 25, 100, 250, 1000, 2500, 10000, 25000, 100000, 250000, 1000000, 2500000, 10000000, 25000000, 100000000, 250000000,
   1000000000, 2500000000, 10000000000, 25000000000, 100000000000, 250000000000, 1000000000000, 10000000000000]

/-- clockAccuracy (R154). The limit of 2.5 ps is 2 in whole ps. -/
def clockAccuracy (e : Nat) : Nat :=
  if e = 2 ^ 48 - 1 then 0xFE
  else match (List.range 26).find? (fun i => decide (e ≤ accLimits.getD i 0)) with
    | some i => 0x17 + i
    | none => 0x31

/-- ceil(256 log2 x) for x of at least 1. -/
def log256 (x : Nat) : Nat :=
  let y := x ^ 256
  if 2 ^ y.log2 = y then y.log2 else y.log2 + 1

/-- offsetScaledLogVariance (R155). -/
def State.oslv (s : State) (e q : Nat) : Nat :=
  let v := s.reg Reg.ASY_OSLV
  if fld v 16 16 ≠ 0 then fld v 16 16
  else if e = 2 ^ 48 - 1 then 0xFFFF
  else min (fld v 0 16 + log256 (max q 1)) 0xFFFE

/-- clockClass (R687). -/
def State.clockClass (s : State) (i : Nat) (c : Carried) : Nat :=
  match c.ts with
  | .traceable => 6
  | .holdover => if c.e ≤ (s.reg (Reg.QRY_PTP_HOSPEC i)).toNat * 1000 then 7 else s.rf (Reg.QRY_PTP_DS i) 16 8
  | .unset | .coarse | .untraceable => 248

/-- timeSource (R688); of a PHYS entry that asserts no traceable time the spec does not give it. (DESIGN CHOICE, log 63.) -/
def State.timeSource (s : State) : Nat :=
  let e := s.actRef
  if e = 0xFF then 0xA0
  else
    match kindOf e with
    | .gnss => 0x20
    | .ptp => 0x40
    | .phys => if (s.todOf e).isSome then 0x39 else if s.rb (Reg.REF_ENT_CFG e) 7 then 0x90 else s.freeVal % 256
    | .atomic => 0x10
    | .mate => if e = 44 then 0x90 else 0xA0
    | .synce => 0xA0

/-- The flagField of an Announce, beside the unicast flag (R686). (PRESUMED, log 66.) -/
def State.annFlags (s : State) (cls : Nat) : Nat :=
  let u := s.reg Reg.BDR_UTC_OFS
  b2n (decide (fld u 16 2 = 1)) + 2 * b2n (decide (fld u 16 2 = 2)) + 4 * b2n (bit u 18) + 8 + 48 * b2n (decide (cls = 6 ∨ cls = 7))

/-- The body of an Announce (R686). -/
def State.annBody (s : State) (i : Nat) (c : Carried) (q : Nat) (wt : WT96) : List Byte :=
  let ds := s.reg (Reg.QRY_PTP_DS i)
  bytesBE 10 (toPt80 wt).toNat ++ bytesBE 2 (s.rf Reg.BDR_UTC_OFS 0 16) ++ [0] ++
    bytesBE 1 (fld ds 0 8) ++ bytesBE 1 (s.clockClass i c) ++ bytesBE 1 (clockAccuracy c.e) ++ bytesBE 2 (s.oslv c.e q) ++
    bytesBE 1 (fld ds 8 8) ++ bytesBE 8 (s.regN Reg.QRY_CLKID 2) ++ bytesBE 2 0 ++ bytesBE 1 s.timeSource

/-! ### Sessions (R689 to R695) -/

/-- A session as the table holds it (R690). -/
structure Sess where
  client : List Byte                    -- clockIdentity and portNumber, 10 bytes
  inst : Nat
  st : Nat                              -- 0 FREE, 1 ACTIVE, 2 QUARANTINE
  rcd : Nat
  ivs : List (BitVec 8)                 -- Sync, Announce, Delay_Resp
  exp : List Nat
  addr : List Byte
  tci : Nat
  seqs : List Nat
  phase : Nat
  deriving DecidableEq, Repr

/-- The session that 64 bytes hold. -/
def Sess.ofBytes (l : List Byte) : Sess :=
  { client := bytesBE 8 (leAt l 0 8) ++ bytesBE 2 (leAt l 8 2), inst := leAt l 10 1, st := leAt l 11 1, rcd := leAt l 12 4,
    ivs := (List.range 3).map (fun i => l.getD (16 + i) 0), exp := (List.range 3).map (fun i => leAt l (20 + 4 * i) 4),
    addr := sliceB l 32 16, tci := leAt l 48 4, seqs := (List.range 3).map (fun i => leAt l (52 + 2 * i) 2), phase := leAt l 60 4 }

/-- The 64 bytes of a session. -/
def Sess.bytes (x : Sess) : List Byte :=
  bytesLE 8 (beAt x.client 0 8) ++ bytesLE 2 (beAt x.client 8 2) ++ bytesLE 1 x.inst ++ bytesLE 1 x.st ++ bytesLE 4 x.rcd ++
    x.ivs ++ [0] ++ x.exp.flatMap (bytesLE 4) ++ x.addr ++ bytesLE 4 x.tci ++ x.seqs.flatMap (bytesLE 2) ++ [0, 0] ++ bytesLE 4 x.phase

/-- Interval of a grant that is not in force. -/
def noGrant : BitVec 8 := 0x7F

/-- Engine address of session n (R690). (DEDUCED, log 33.) -/
def State.sessAt (s : State) (n : Nat) : Nat := s.regN Reg.QRY_SESS_BASE 2 + 64 * n
/-- Number of sessions the table has room for. -/
def State.sessMax (s : State) : Nat := s.rf Reg.QRY_SESS_CFG 0 19
/-- The table's memory answers for a session. -/
def State.sessOk (s : State) (n : Nat) : Bool := decide (n < s.sessMax) && s.sharedOk (s.sessAt n) 64 && !s.memBad (s.sessAt n) 64
/-- Session n. -/
def State.sess (s : State) (n : Nat) : Sess := Sess.ofBytes (s.sharedRd (s.sessAt n) 64)
/-- Store session n. -/
def putSess (n : Nat) (x : Sess) (s : State) : State := s.sharedWr (s.sessAt n) x.bytes

/-- The client address of a request in the form of R690. -/
def Req.addr16 (r : Req) : List Byte :=
  if r.n.v = 4 then List.replicate 10 0 ++ [0xFF, 0xFF] ++ r.n.src
  else if r.n.v = 6 then r.n.src else sliceB r.f 6 6 ++ List.replicate 10 0

/-- The session that a client address holds (R689). -/
def State.sessOf (s : State) (addr : List Byte) : Option Nat :=
  (List.range s.sessMax).find? (fun n => s.sessOk n && decide ((s.sess n).st = 1) && (s.sess n).addr == addr)

/-- A FREE session; the spec does not say which is taken. (DESIGN CHOICE, log 63.) -/
def State.freeSess (s : State) : Option Nat :=
  let l := (List.range s.sessMax).filter (fun n => s.sessOk n && decide ((s.sess n).st = 0))
  l[s.freeVal % l.length]?

/-- Launches of a log interval, in 1/16 per second (R693). -/
def rate16 (l : BitVec 8) : Nat := if l = noGrant then 0 else if l.toInt ≤ 4 then 2 ^ (4 - l.toInt).toNat else 0

/-- Add to or take from the granted launches of a port group. -/
def grpAdd (g : Nat) (d : Int) (s : State) : State :=
  { s with svc := { s.svc with grp := AMap.set 0 s.svc.grp g (((AMap.get (0 : Nat) s.svc.grp g : Nat) : Int) + d).toNat } }

/-- The Env of a session. -/
def State.sessEnv (s : State) (n : Nat) : Option Env := AMap.get none s.svc.sessEnv n
/-- Store it. -/
def setSessEnv (n : Nat) (e : Option Env) (s : State) : State :=
  { s with svc := { s.svc with sessEnv := AMap.set none s.svc.sessEnv n e } }

/-- A client's record no longer holds a session. (DEDUCED, log 67.) -/
def dropRecSess (rcd : Nat) (s : State) : State :=
  if rcd = 2 ^ 32 - 1 then s
  else
    match needBucket (rcd / 8 % s.qBuckets) s with
    | (true, s1) =>
      let x := s1.qrec (rcd / 8 % s.qBuckets) (rcd % 8)
      if x.ptp then putRec (rcd / 8 % s.qBuckets) (rcd % 8) { x with ptp := false, tail := 0 } s1 else s1
    | (false, s1) => s1

/-- A grant ends; with the last one the session goes to QUARANTINE, its queue drained (R693 to R695). -/
def endGrant (n ty : Nat) (s : State) : State :=
  let x := s.sess n
  let l := x.ivs.getD ty noGrant
  if s.sessOk n = false ∨ x.st ≠ 1 ∨ l = noGrant then s
  else
    let g := ((s.sessEnv n).map Env.port).getD 0 / 4
    let y := { x with ivs := setNth x.ivs ty noGrant, exp := setNth x.exp ty 0 }
    let s1 := if ty < 2 then grpAdd g (-(rate16 l : Int)) s else s
    if y.ivs.all (fun v => decide (v = noGrant)) then
      let q := s1.queue n
      let s2 := dropRecSess x.rcd (putSess n { y with st := 2 } (s1.setQueue n { q with head := q.tail }))
      { s2 with svc := { s2.svc with quar := AMap.set none s2.svc.quar n (some (s2.now + wtNs 2000000000)) } }
    else putSess n y s1

/-- Send a message of an instance to a session or client through a weighted class; one that cannot be authenticated counts as
NOT_SERVED (R652, R764). -/
def sendPtp (cl i : Nat) (e : Env) (x : PtpHead) (body : List Byte) (s : State) : State :=
  match ptpMessage x body (s.instAuth i) s with
  | (none, s1) => stat1 cl 21 s1
  | (some m, s1) => stat1 cl 15 (sendWeighted e.port (s1.ptpFrame e s1.freeVal x.typ m) s1.nextFree).2

/-- The messageType of a grant of a kind: Sync, Announce, Delay_Resp. -/
def grantType (ty : Nat) : Nat := [0x0, 0xB, 0x9].getD ty 0

/-- A Signaling message to a session (R694): its sequenceId is the session's. (DESIGN CHOICE, log 63.) -/
def sessSignal (cl n : Nat) (tlvs : List Byte) (s : State) : State :=
  match s.sessEnv n with
  | none => s
  | some e =>
    let x := s.sess n
    let seq := x.seqs.getD 2 0
    let s1 := putSess n { x with seqs := setNth x.seqs 2 ((seq + 1) % 2 ^ 16) } s
    sendPtp cl x.inst e { typ := 0xC, dom := s.rf (Reg.QRY_PTP_CFG x.inst) 8 8, flags := 0x0400, cf := 0, port := e.port, seq := seq,
                          log := 0x7F } (x.client ++ tlvs) s1

/-- The cluster that does what no request's cluster is named for: the spec does not say which. (DESIGN CHOICE, log 63.) -/
def State.someCluster (s : State) : Nat := s.freeVal % 63

/-- An instance is disabled: CANCEL is sent for each of its grants, and they end (R694). -/
def instanceOff (i : Nat) (s : State) : State :=
  (List.range s.sessMax).foldl (fun a n =>
    if a.sessOk n && decide ((a.sess n).st = 1) && decide ((a.sess n).inst = i) then
      (List.range 3).foldl (fun b ty =>
        if (b.sess n).st = 1 ∧ (b.sess n).ivs.getD ty noGrant ≠ noGrant then
          endGrant n ty (sessSignal b.someCluster n (bytesBE 2 6 ++ bytesBE 2 2 ++ bytesBE 1 (grantType ty * 16) ++ [0]) b)
        else b) a
    else a) s

/-- The control firmware sets up the queues of the sessions: 16 elements of 32 bytes each, after the table (R691). (DEDUCED, log 67.) -/
def setupSessQueues (s : State) : State :=
  let base := (s.sessAt s.sessMax + 511) / 512 * 512
  forN s.sessMax (fun n a =>
    a.setQueue n { base := BitVec.ofNat 32 ((base + 512 * n) / 64), waiter := 0, user := false, waitEn := false, en := true,
                   esize := 1, log2 := 4, head := 0, tail := 0, pops := (a.queue n).pops, pushes := (a.queue n).pushes }) s

end Sys2Proof.Machine
end

