-- ==== Sys2Proof/Machine/Ptp.lean ====
section
/-! DEFINITION. PTP as the serving code serves it: Delay_Resp, unicast negotiation, scheduled Sync and Announce, Follow_Up, and the
upstream sessions (R683 to R700). -/
namespace Sys2Proof.Machine

/-! ### Requests of clients -/

/-- The kind of receive queue of a PTP message (R646). -/
def Req.ptpQueue (r : Req) : Nat := if beAt r.f r.ptpOff 1 % 16 < 4 then 0 else 1

/-- What holds of every PTP message of a client before it is policed: the unit serves, the message is well formed and an instance
serves it (R642, R682, R701). -/
def ptpEnter (p cl : Nat) (rx : BT80) (data : List Byte) (s0 : State) : Option (Req × List Byte × List Tlv × Nat) × State :=
  let r := s0.request p cl rx data
  let s := takeRx r.ptpQueue r data s0
  if s.servesAt (r.at_ s) = false then (none, notServed r s)
  else
    let s1 := stat1 cl 14 s
    match r.ptp with
    | none => (none, clientFault r 1 .dropped (beAt r.f r.ptpOff 1 % 16) s1)
    | some (m, l) =>
      match s1.instFor p r.transport (beAt m 4 1) with
      | none => (none, notServed r s1)
      | some i => (some (r, m, l, i), s1)

/-- On an instance with AUTH=1 a message is authentic (R697, R765). -/
def ptpAuth (i : Nat) (m : List Byte) (l : List Tlv) (s : State) : Bool × State :=
  if s.rb (Reg.QRY_PTP_CFG i) 6 then authOk m l s else (true, s)

/-- A Delay_Resp (R652, R685). -/
def delayResp (r : Req) (i : Nat) (m : List Byte) (e : Env) (uni : Bool) (log : Int) (s : State) : State :=
  let w := r.at_ s
  match evalFor r.p r.rx s with
  | (v, s1) =>
    let cf : Int := (BitVec.ofNat 64 (beAt m 8 8)).toInt - residual w
    let hd : PtpHead := { typ := 9, dom := beAt m 4 1, flags := if uni then 0x0400 else 0, cf := cf, port := r.p, seq := beAt m 30 2,
                          log := log }
    sendPtp r.cl i e hd (bytesBE 10 (toPt80 w).toNat ++ sliceB m 20 10 ++ s1.tlvFor 9 (carried (s1.actRefAt r.rx) v)) s1

/-- A Delay_Req of an instance, policed and authentic (R681, R685, R696). -/
def answerDelay (r : Req) (i : Nat) (m : List Byte) (s : State) : State :=
  let mindreq := (bits (s.reg (Reg.QRY_PTP_LOG i)) 16 8).toInt
  let group := match s.groupEnv i r.p with
    | some e => delayResp r i m e false mindreq s.nextFree
    | none => notServed r s
  match s.profile i with
  | 0 => if r.isGroup then group else delayResp r i m r.env true mindreq s
  | 1 => if r.isGroup then group else notServed r s
  | 2 =>
    match s.sessOf r.addr16 with
    | some n =>
      let x := s.sess n
      if r.isGroup then notServed r s
      else if x.inst = i ∧ x.client = sliceB m 20 10 ∧ x.ivs.getD 2 noGrant ≠ noGrant then
        delayResp r i m r.env true (x.ivs.getD 2 0).toInt s
      else clientFault r 6 .dropped 1 s
    | none => if r.isGroup then notServed r s else clientFault r 6 .dropped 1 s
  | _ => if r.isGroup then notServed r s else delayResp r i m r.env true mindreq s

/-- DELAY_REQ: a PTP event message of a client (R662, R685, R697). -/
def serveDelay (p cl : Nat) (rx : BT80) (data : List Byte) (s0 : State) : State :=
  match ptpEnter p cl rx data s0 with
  | (none, s) => s
  | (some (r, m, l, i), s) =>
    if beAt m 0 1 % 16 ≠ 1 then notServed r s
    else
      match policeReq r 1 s with
      | (false, _, s1) => clientFault r 11 .dropped 1 s1
      | (true, _, s1) =>
        match ptpAuth i m l s1 with
        | (false, s2) => clientFault r 7 .dropped 1 s2
        | (true, s2) => answerDelay r i m s2

/-! ### Unicast negotiation (R689 to R696) -/

/-- A GRANT_UNICAST_TRANSMISSION TLV (R692). -/
def grantTlv (mt : Nat) (log : BitVec 8) (dur : Nat) (renewal : Bool) : List Byte :=
  bytesBE 2 5 ++ bytesBE 2 8 ++ bytesBE 1 (mt * 16) ++ [log] ++ bytesBE 4 dur ++ [0] ++ bytesBE 1 (b2n renewal)

/-- A request is denied: duration 0 (R692, R701). -/
def denyTlv (r : Req) (cls mt : Nat) (log : BitVec 8) (s : State) : List Byte × State :=
  (grantTlv mt log 0 false, stat1 r.cl 17 (clientFault r cls .denied mt s))

/-- The session of a client for an instance, created where it holds none; none where R689 or the table
forbids it, or the DRBG withholds output (R777). -/
def needSess (r : Req) (i : Nat) (m : List Byte) (c : Option (Nat × QRec)) (sync : Option (BitVec 8)) (s : State) :
    Option Nat × State :=
  match s.sessOf r.addr16 with
  | some n => (if (s.sess n).inst = i ∧ (s.sess n).client = sliceB m 20 10 then some n else none, s)
  | none =>
    match s.freeSess with
    | none => (none, s)
    | some n =>
      match drbg 4 s with
      | (none, s1) => (none, s1)
      | (some b, s1) =>
      let v := natLE b
      let lg : Int := match sync with | some x => x.toInt | none => (bits (s.reg (Reg.QRY_PTP_NEG i)) 16 8).toInt
      let per := if lg < 0 then 1000000000 / 2 ^ (-lg).toNat else 1000000000 * 2 ^ lg.toNat
      let rcd := match c with | some (j, _) => r.bucket * 8 + j | none => 2 ^ 32 - 1
      let x : Sess := { client := sliceB m 20 10, inst := i, st := 1, rcd := rcd, ivs := List.replicate 3 noGrant,
                        exp := [0, 0, 0], addr := r.addr16, tci := r.h.inner + r.h.outer * 2 ^ 16, seqs := [0, 0, 0],
                        phase := v % min per (2 ^ 32) }
      let s2 := setSessEnv n (some r.env) (putSess n x s1)
      let s3 := match c with
        | some (j, _) => putRec r.bucket j { s2.qrec r.bucket j with ptp := true, tail := n } s2
        | none => s2
      (some n, s3)

/-- Grant an interval and duration to a session (R692, R693). (DEDUCED, log 67.) -/
def grantTo (r : Req) (n ty : Nat) (log : BitVec 8) (dur : Nat) (s : State) : List Byte × State :=
  let x := s.sess n
  let old := x.ivs.getD ty noGrant
  let y := { x with ivs := setNth x.ivs ty log, exp := setNth x.exp ty ((wholeSec s.now + dur) % 2 ^ 32) }
  let s1 := putSess n y s
  let s2 := if ty < 2 then grpAdd (r.p / 4) ((rate16 log : Int) - rate16 old) s1 else s1
  (grantTlv (grantType ty) log dur (decide (old ≠ noGrant)), stat1 r.cl 16 s2)

/-- The answer to one REQUEST_UNICAST_TRANSMISSION TLV: the first row of R692 that applies decides. (DEDUCED, log 67.) -/
def answerRequest (r : Req) (i : Nat) (m : List Byte) (c : Option (Nat × QRec)) (t : Tlv) (s : State) : List Byte × State :=
  let mt := beAt m t.off 1 / 16
  let log : BitVec 8 := m.getD (t.off + 1) 0
  let dur := beAt m (t.off + 2) 4
  let neg := s.reg (Reg.QRY_PTP_NEG i)
  match [0x0, 0xB, 0x9].idxOf? mt with
  | none => denyTlv r 4 mt log s
  | some ty =>
    let least := if ty = 1 then bits neg 24 8 else bits neg 16 8
    let low := decide (log.toInt < least.toInt)
    let l : BitVec 8 := if low then least else if 4 < log.toInt then 4 else log
    let room (n : Option Nat) : Bool :=
      let old := match n with | some k => rate16 ((s.sess k).ivs.getD ty noGrant) | none => 0
      decide (2 ≤ ty) || decide (AMap.get 0 s.svc.grp (r.p / 4) + rate16 l ≤ s.rf (Reg.QRY_GRPBUD (r.p / 4)) 0 25 * 16 + old)
    if room (s.sessOf r.addr16) = false then
      denyTlv r 4 mt log s
    else
      match needSess r i m c (if ty = 0 then some l else none) s with
      | (none, s1) => denyTlv r 4 mt log s1
      | (some n, s1) =>
        let reduced (a : State) : State := stat1 r.cl 18 (clientFault r 3 .reduced mt a)
        if low then grantTo r n ty l dur (reduced s1)
        else if 4 < log.toInt then grantTo r n ty l dur s1
        else if dur < 10 then grantTo r n ty l 10 (reduced s1)
        else if fld neg 0 16 < dur then grantTo r n ty l (fld neg 0 16) (reduced s1)
        else grantTo r n ty l dur s1

/-- The answer to a CANCEL_UNICAST_TRANSMISSION TLV: the grant ends, and the cancel is acknowledged (R694). (DEDUCED, log 67.) -/
def answerCancel (r : Req) (i : Nat) (m : List Byte) (t : Tlv) (s : State) : List Byte × State :=
  let mt := beAt m t.off 1 / 16
  let ack := bytesBE 2 7 ++ bytesBE 2 2 ++ bytesBE 1 (mt * 16) ++ [0]
  match [0x0, 0xB, 0x9].idxOf? mt, s.sessOf r.addr16 with
  | some ty, some n =>
    if (s.sess n).inst = i ∧ (s.sess n).client = sliceB m 20 10 then (ack, endGrant n ty s) else (ack, s)
  | _, _ => (ack, s)

/-- A TLV is the Assay record request of R168. -/
def State.isRecTlv (s : State) (m : List Byte) (t : Tlv) : Bool :=
  [0x0003, 0x4000, 0x8000].contains t.typ && decide (beAt m t.off 3 = s.rf Reg.ASY_PTLV_ORG 0 24) &&
    decide (beAt m (t.off + 3) 3 = (s.rf Reg.ASY_PTLV_SUB 0 24 + 1) % 2 ^ 24) && decide (14 ≤ t.len)

/-- The answer to a record request (R168, R700). -/
def answerRecord (r : Req) (m : List Byte) (t : Tlv) (s : State) : List Byte × State :=
  if !s.rb Reg.ASY_PTLV_CTRL 8 || (s.sessOf r.addr16).isNone then ([], clientFault r 12 .dropped t.typ s)
  else
    match recordValue (beAt m (t.off + 6) 8) s with
    | (v, s1) =>
      (bytesBE 2 ([0x0003, 0x4000, 0x8000].getD (s.rf Reg.ASY_PTLV_CTRL 0 2) 0x8000) ++ bytesBE 2 266 ++
        bytesBE 3 (s.rf Reg.ASY_PTLV_ORG 0 24) ++ bytesBE 3 ((s.rf Reg.ASY_PTLV_SUB 0 24 + 1) % 2 ^ 24) ++ v,
       if v.headD 1 = 0 then stat1 r.cl 20 s1 else s1)

/-- Answer each TLV of a Signaling message in turn. -/
def answerTlvs (r : Req) (i : Nat) (m : List Byte) (c : Option (Nat × QRec)) : List Tlv → State → List Byte × State
  | [], s => ([], s)
  | t :: l, s =>
    let a :=
      if t.typ = 4 ∧ 6 ≤ t.len then answerRequest r i m c t s
      else if t.typ = 6 ∧ 2 ≤ t.len then answerCancel r i m t s
      else if s.isRecTlv m t then answerRecord r m t s
      else ([], s)
    let b := answerTlvs r i m c l a.2
    (a.1 ++ b.1, b.2)

/-- Send the answers of one Signaling message to a client, none if there are none: its sequenceId is the session's, or the
instance's for a client without one. -/
def replySignal (r : Req) (i : Nat) (m tlvs : List Byte) (s : State) : State :=
  if tlvs.isEmpty then s
  else
    let sq := match s.sessOf r.addr16 with
      | some n =>
        let x := s.sess n
        (x.seqs.getD 2 0, putSess n { x with seqs := setNth x.seqs 2 ((x.seqs.getD 2 0 + 1) % 2 ^ 16) } s)
      | none => nextSeq i r.p 2 s
    sendPtp r.cl i r.env { typ := 0xC, dom := beAt m 4 1, flags := 0x0400, cf := 0, port := r.p, seq := sq.1, log := 0x7F }
      (sliceB m 20 10 ++ tlvs) sq.2

/-- A policed Signaling message: a denial of each request where the interval allows it, and nothing otherwise (R663, R701). -/
def signalPoliced (r : Req) (i : Nat) (m : List Byte) (l : List Tlv) (c : Option (Nat × QRec)) (s : State) : State :=
  let rq := l.filter (fun t => decide (t.typ = 4 ∧ 6 ≤ t.len))
  if rq.isEmpty then clientFault r 11 .dropped 0xC s
  else if s.kodMay r c && decide (s.profile i = 2) then
    let s1 := kodSent r c false s
    let deny (a : List Byte × State) (t : Tlv) : List Byte × State :=
      match denyTlv r 5 (beAt m t.off 1 / 16) (m.getD (t.off + 1) 0) a.2 with
      | (b, s2) => (a.1 ++ b, s2)
    let x := rq.foldl deny ([], s1)
    replySignal r i m x.1 x.2
  else clientFault r 5 .dropped 0xC s

/-- A Signaling message of a client (R692 to R697, R700). -/
def serveSignal (p cl : Nat) (rx : BT80) (data : List Byte) (s0 : State) : State :=
  match ptpEnter p cl rx data s0 with
  | (none, s) => s
  | (some (r, m, l, i), s) =>
    if beAt m 0 1 % 16 ≠ 0xC then notServed r s
    else
      let rec_ := l.any (s.isRecTlv m)
      match policeReq r (if rec_ then 5 else 1) (if rec_ then stat1 cl 19 s else s) with
      | (false, c, s1) => signalPoliced r i m l c s1
      | (true, c, s1) =>
        match ptpAuth i m l s1 with
        | (false, s2) => clientFault r 7 .dropped 0xC s2
        | (true, s2) =>
          let nego := l.any (fun t => decide (t.typ = 4 ∨ t.typ = 6))
          if s2.profile i ≠ 2 then (if rec_ then clientFault r 12 .dropped 0xC s2 else notServed r s2)
          else if nego = false ∧ r.isGroup = false ∧ (s2.sessOf r.addr16).isNone then
            (if rec_ then clientFault r 12 .dropped 0xC s2 else clientFault r 6 .dropped 0xC s2)
          else
            match answerTlvs r i m c l s2 with
            | (b, s3) => replySignal r i m b s3

/-! ### Scheduled messages (R683, R684, R686) -/

/-- The first target of a period 2^L s and a phase at or after an instant (R683). (DEDUCED, log 68.) -/
def nextTarget (log : Int) (phase : Nat) (lo : WT96) : WT96 :=
  let sec := 1000000000 * 65536
  let a := lo.toNat - phase * 65536
  if 0 ≤ log then
    let per := sec * 2 ^ log.toNat
    BitVec.ofNat 96 (phase * 65536 + cdiv a per * per)
  else
    let d := 2 ^ (-log).toNat
    BitVec.ofNat 96 (phase * 65536 + cdiv (cdiv (a * d) sec * sec) d)

/-- What a scheduled message of an instance is sent by: its session, where it goes, its log interval, phase and queue. -/
structure Sched where
  env : Env
  log : Int
  phase : Nat
  cq : Nat
  seq : Nat
  uni : Bool
  deriving DecidableEq, Repr

/-- The scheduled message of an instance on a port, or to a session, is due at all (R681, R682, R690). -/
def State.schedOf (s : State) (i p : Nat) (ses : Option Nat) (ann : Bool) : Option Sched :=
  if s.instServes i p = false then none
  else
    let ty := if ann then 1 else 0
    match ses with
    | none =>
      if s.profile i = 2 then none
      else (s.groupEnv i p).map (fun e =>
        { env := e, log := (bits (s.reg (Reg.QRY_PTP_LOG i)) (8 * ty) 8).toInt, phase := 0, cq := s.nextFree.otherCq,
          seq := AMap.get 0 s.svc.seqs ((i * 16 + p) * 4 + ty), uni := false })
    | some n =>
      let x := s.sess n
      if s.profile i ≠ 2 ∨ s.sessOk n = false ∨ x.st ≠ 1 ∨ x.inst ≠ i ∨ x.ivs.getD ty noGrant = noGrant then none
      else
        match s.sessEnv n with
        | none => none
        | some e =>
          if e.port ≠ p then none
          else some { env := e, log := (x.ivs.getD ty 0).toInt, phase := x.phase, cq := n, seq := x.seqs.getD ty 0, uni := true }

/-- A scheduled message has been built: the next one has the next sequenceId. -/
def schedNext (i p : Nat) (ses : Option Nat) (ann : Bool) (s : State) : State :=
  let ty := if ann then 1 else 0
  match ses with
  | none => (nextSeq i p ty s).2
  | some n =>
    let x := s.sess n
    putSess n { x with seqs := setNth x.seqs ty ((x.seqs.getD ty 0 + 1) % 2 ^ 16) } s

/-- Launch a message in its granted slot, and keep what waits for its completion (R527, R683, R684). -/
def schedLaunch (cl : Nat) (x : Sched) (g : Grant) (m : List Byte) (fup : Option (List Byte)) (s : State) : State :=
  let f := s.ptpFrame x.env s.freeVal (if (m.headD 0).toNat % 16 = 0 then 0 else 0xB) m
  let s1 := stat1 cl 15 (submitFrame x.env.port g.handle f s.nextFree)
  let w : Watch := { cl := cl, port := x.env.port, fup := fup, sent := false }
  { s1 with svc := { s1.svc with watch := AMap.set none s1.svc.watch (2048 * (x.env.port / 4) + g.handle) (some w) } }

/-- The two-step mode of an instance (R40, R684). -/
def State.twoStep (s : State) (i : Nat) : Bool := s.rb (Reg.QRY_PTP_CFG i) 7 || s.rb Reg.SYS_COMPAT 0

/-- Build and launch a Sync in a granted slot (R684). (DEDUCED, log 68.) -/
def buildSync (cl i p : Nat) (ses : Option Nat) (x : Sched) (g : Grant) (s0 : State) : State :=
  match evalFor p g.tx s0 with
  | (v, s) =>
    let two := s.twoStep i
    let uf := if x.uni then 0x0400 else 0
    let dom := s.rf (Reg.QRY_PTP_CFG i) 8 8
    let ts := bytesBE 10 (toPt80 g.wt).toNat
    let hd : PtpHead := { typ := 0, dom := dom, flags := uf + (if two then 0x0200 else 0), cf := if two then 0 else residual g.wt,
                          port := p, seq := x.seq, log := x.log }
    match ptpMessage hd (ts ++ s.tlvFor 0 (carried (s.actRefAt g.tx) v)) (s.instAuth i) s with
    | (none, s1) => stat1 cl 21 (cancelSlot (p / 4) g.handle s1)
    | (some m, s1) =>
      let s2 := schedNext i p ses false s1
      if two then
        let fh : PtpHead := { typ := 8, dom := dom, flags := uf, cf := residual g.wt, port := p, seq := x.seq, log := x.log }
        match ptpMessage fh (ts ++ s2.tlvFor 8 (carried (s2.actRefAt g.tx) v)) (s2.instAuth i) s2 with
        | (f, s3) => schedLaunch cl x g m (f.map (s3.ptpFrame x.env s3.freeVal 8)) s3.nextFree
      else schedLaunch cl x g m none s2

/-- Build and launch an Announce in a granted slot: its own fields take E without port, the bound TLV that of its port (R127, R153,
R686). (DEDUCED, log 68.) -/
def buildAnnounce (cl i p : Nat) (ses : Option Nat) (x : Sched) (g : Grant) (s0 : State) : State :=
  match evalFor p g.tx s0 with
  | (v, s) =>
    let c := carried (s.actRefAt g.tx) v
    let x0 := evaluate s g.tx none
    let c0 := carried c.ref x0
    let hd : PtpHead := { typ := 0xB, dom := s.rf (Reg.QRY_PTP_CFG i) 8 8,
                          flags := (if x.uni then 0x0400 else 0) + s.annFlags (s.clockClass i c0), cf := residual g.wt, port := p,
                          seq := x.seq, log := x.log }
    match ptpMessage hd (s.annBody i c0 x0.1.q g.wt ++ s.tlvFor 0xB c) (s.instAuth i) s.nextFree with
    | (none, s1) => stat1 cl 21 (cancelSlot (p / 4) g.handle s1)
    | (some m, s1) => schedLaunch cl x g m none (schedNext i p ses true s1)

/-- The key under which the latest target of a scheduled message stands. -/
def schedKey (i p : Nat) (ses : Option Nat) (ann : Bool) : Nat :=
  match ses with
  | none => 2 * (16 * i + p) + b2n ann
  | some n => 256 + 2 * n + b2n ann

/-- A target of a Sync or Announce: reserve, or skip and count it; each target is tried once (R683). (DEDUCED, log 68.) -/
def schedTarget (i p : Nat) (ses : Option Nat) (ann : Bool) (s0 : State) : State :=
  match s0.schedOf i p ses ann with
  | none => s0
  | some x =>
    let s := s0.nextFree.nextFree
    let cl := s.someCluster
    let t := nextTarget x.log x.phase (s.servedAt (s.bt + cyc (s.rf (Reg.TSU_LEAD (p / 4)) 0 16)))
    let key := schedKey i p ses ann
    if s.servesAt t = false ∨ AMap.get none s0.svc.tried key = some t then s0
    else
      let auth := if (s.instAuth i).isSome then 26 else 0
      let tlv := if s.rb Reg.ASY_PTLV_CTRL (if ann then 7 else 4) then 30 else 0
      let n := x.env.ptpLen ((if ann then 64 else 44) + tlv + auth)
      let s := { s with svc := { s.svc with tried := AMap.set none s.svc.tried key (some t) } }
      match reserve { port := p, at_ := true, len := wireLen n, tag := BitVec.ofNat 32 s.nextFree.freeVal, cq := x.cq, target := t } none
          s.nextFree.nextFree with
      | (g, s1) =>
        if g.status ≠ .granted then stat1 cl 11 s1
        else if ann then buildAnnounce cl i p ses x g s1 else buildSync cl i p ses x g s1

/-- The Follow_Up of a Sync whose completion reads SENT is submitted (R684). -/
def followUp (g h : Nat) (s : State) : State :=
  let k := 2048 * g + h
  match AMap.get none s.svc.watch k with
  | some { cl := cl, port := p, fup := some f, sent := true } =>
    let s1 := { s with svc := { s.svc with watch := AMap.set none s.svc.watch k none } }
    stat1 cl 15 (sendWeighted p f s1).2
  | _ => s

/-- A grant reaches its expiry second (R694). -/
def grantExpire (n ty : Nat) (s : State) : State :=
  let x := s.sess n
  let e := BitVec.ofNat 32 (x.exp.getD ty 0)
  if s.sessOk n && decide (x.st = 1) && decide (x.ivs.getD ty noGrant ≠ noGrant) && atOrAfter (BitVec.ofNat 32 (wholeSec s.now)) e then
    endGrant n ty s
  else s

/-- A session's quarantine is over (R695). -/
def quarantineEnd (n : Nat) (s : State) : State :=
  match AMap.get none s.svc.quar n with
  | none => s
  | some t =>
    if earlier s.now t ∨ s.sessOk n = false then s
    else
      let s1 := if (s.sess n).st = 2 then putSess n { s.sess n with st := 0 } s else s
      setSessEnv n none { s1 with svc := { s1.svc with quar := AMap.set none s1.svc.quar n none } }

/-! ### Upstream sessions (R698, R699) -/

/-- An upstream session. -/
def State.up (s : State) (n : Nat) : UpSess := AMap.get { } s.svc.ups n
/-- Store it. -/
def setUp (n : Nat) (x : UpSess) (s : State) : State := { s with svc := { s.svc with ups := AMap.set { } s.svc.ups n x } }
/-- Where an upstream session sends (R652, R698). -/
def State.upEnv (s : State) (n : Nat) : Option Env :=
  let c := s.reg (Reg.QRY_UP_CFG n)
  let p := fld c 0 4
  let mac := bytesBE 6 (s.regN (Reg.QRY_UP_NH n) 2)
  match fld c 5 2 with
  | 0 => some { port := p, mac := mac, tags := [], v := 0, src := [], dst := [], dscp := 0 }
  | 1 => (s.firstSvc p 1).map (fun a => { port := p, mac := mac, tags := [], v := 4, src := a, dst := s.addrOf (Reg.QRY_UP_ADDR n 0) 1,
                                          dscp := s.freeVal % 64 })
  | _ => (s.firstSvc p 2).map (fun a => { port := p, mac := mac, tags := [], v := 6, src := a, dst := s.addrOf (Reg.QRY_UP_ADDR n 0) 2,
                                          dscp := s.freeVal % 64 })

/-- The keys of an upstream session's messages: those of instance 0 (R712). -/
def State.upAuth (s : State) (n : Nat) : Option (Nat × Nat) :=
  if s.rb (Reg.QRY_UP_CFG n) 25 then some (s.rf (Reg.QRY_PTP_AUTH 0) 8 8, s.rf (Reg.QRY_PTP_AUTH 0) 0 8) else none

/-- The next sequenceId of a message type that an upstream session sends. -/
def upSeq (n typ : Nat) (s : State) : Nat × State :=
  let x := s.up n
  let q := AMap.get 0 x.seqs (16 + typ)
  (q, setUp n { x with seqs := AMap.set 0 x.seqs (16 + typ) ((q + 1) % 2 ^ 16) } s)

/-- An upstream session is reported LOST to REF (R213, R699). -/
def upLost (n : Nat) (s : State) : State :=
  let s1 := setUp n { s.up n with lost := true } s
  if s1.pgEn Reg.REF then refAnnounce 0 (BitVec.ofNat 32 (2 ^ 22)) (BitVec.ofNat 32 (32 + n)) s1 else s1

/-- Request or renew the grants of an upstream session (R698). -/
def upRenew (n : Nat) (s0 : State) : State :=
  let c := s0.reg (Reg.QRY_UP_CFG n)
  let sec := wholeSec s0.now
  let due := match (s0.up n).asked with | none => true | some t => decide (t + 200 ≤ sec)
  if !bit c 4 || !bit c 24 || !due then s0
  else
    match s0.upEnv n with
    | none => s0
    | some e =>
      match upSeq n 0xC (setUp n { s0.up n with asked := some sec } s0.nextFree) with
      | (q, s) =>
        let rq (mt : Nat) (lg : Nat) : List Byte := bytesBE 2 4 ++ bytesBE 2 6 ++ bytesBE 1 (mt * 16) ++ bytesBE 1 lg ++ bytesBE 4 300
        let tgt := match (s.up n).src with | some x => bytesBE 10 x | none => List.replicate 10 0xFF
        let hd : PtpHead := { typ := 0xC, dom := fld c 8 8, flags := 0x0400, cf := 0, port := e.port, seq := q, log := 0x7F }
        match ptpMessage hd (tgt ++ rq 0xB 0 ++ rq 0x0 (fld c 16 8) ++ rq 0x9 (fld c 16 8)) (s.upAuth n) s with
        | (none, s1) => stat1 s1.someCluster 21 s1.nextFree
        | (some m, s1) => (sendWeighted e.port (s1.ptpFrame e s1.freeVal 0xC m) s1.nextFree).2

/-- Send a Delay_Req of an upstream session when its interval has passed (R698). (DESIGN CHOICE, log 71.) -/
def upDelay (n : Nat) (s0 : State) : State :=
  let c := s0.reg (Reg.QRY_UP_CFG n)
  let lg : Option Int := if bit c 24 then (s0.up n).dreq else some (bits c 16 8).toInt
  match lg with
  | none => s0
  | some l =>
    let per := if l < 0 then 1000000000 / 2 ^ (-l).toNat else 1000000000 * 2 ^ l.toNat
    let due := match (s0.up n).dreqAt with | none => true | some t => atOrAfter s0.now (t + wtNs per)
    if !bit c 4 || !due then s0
    else
      match s0.upEnv n with
      | none => s0
      | some e =>
        match upSeq n 1 (setUp n { s0.up n with dreqAt := some s0.now } s0.nextFree) with
        | (q, s) =>
          let hd : PtpHead := { typ := 1, dom := fld c 8 8, flags := 0x0400, cf := 0, port := e.port, seq := q, log := 0x7F }
          match ptpMessage hd (bytesBE 10 s.freeVal) (s.upAuth n) s.nextFree with
          | (none, s1) => stat1 s1.someCluster 21 s1.nextFree
          | (some m, s1) =>
            match reserve { port := e.port, at_ := false, len := wireLen (e.ptpLen m.length), tag := BitVec.ofNat 32 s1.nextFree.freeVal,
                            cq := s1.otherCq, target := 0 } none s1.nextFree.nextFree with
            | (g, s2) =>
              if g.status ≠ .granted then s2
              else submitFrame e.port g.handle (s2.ptpFrame e s2.freeVal 1 m) s2.nextFree

/-- A malformed or unmatched message of a grandmaster (R699, R701). -/
def upFault (n cls typ : Nat) (s : State) : State :=
  vlog (some s.someCluster) { cls := cls, port := s.rf (Reg.QRY_UP_CFG n) 0 4, answer := .dropped, partner := 1, tag := n, detail := typ }
    s.nextFree

/-- The time status in the bound TLV of a message; 0xFF without one (R213). -/
def State.btsOf (s : State) (m : List Byte) (l : List Tlv) : Nat :=
  match l.find? (fun t => [0x0003, 0x4000, 0x8000].contains t.typ && decide (t.len = 26) &&
      decide (beAt m t.off 3 = s.rf Reg.ASY_PTLV_ORG 0 24) && decide (beAt m (t.off + 3) 3 = s.rf Reg.ASY_PTLV_SUB 0 24)) with
  | some t => beAt m (t.off + 7) 1
  | none => 0xFF

/-- An Announce of the grandmaster is delivered to REF (R213, R698). -/
def upAnnounce (n : Nat) (m : List Byte) (l : List Tlv) (s : State) : State :=
  let x := s.up n
  let src := beAt m 20 10
  let gm := beAt m 53 8
  let fl := beAt m 7 1
  let changed := match x.src with | some y => decide (y ≠ src) | none => false
  let lo := BitVec.ofNat 32 (beAt m 50 2 * 2 ^ 16 + beAt m 49 1 * 2 ^ 8 + beAt m 48 1)
  let mid := BitVec.ofNat 32 (beAt m 33 1 * 2 ^ 24 + b2n changed * 2 ^ 21 + fl / 32 % 2 * 2 ^ 20 + fl / 16 % 2 * 2 ^ 19 +
    fl / 2 % 2 * 2 ^ 18 + fl % 2 * 2 ^ 17 + fl / 4 % 2 * 2 ^ 16 + min 255 (beAt m 61 2) * 2 ^ 8 + s.btsOf m l)
  let hi := BitVec.ofNat 32 (beAt m 44 2 * 2 ^ 16 + 32 + n)
  let s1 := setUp n { x with gm := some gm, src := some (x.src.getD src), annAt := some s.bt, annLog := (m.getD 33 0).toInt, lost := false } s
  if s1.pgEn Reg.REF then refAnnounce lo mid hi s1 else s1

/-- A GRANT_UNICAST_TRANSMISSION of the grandmaster: a denial ends the session (R698, R699). -/
def upGrant (n : Nat) (m : List Byte) (t : Tlv) (s : State) : State :=
  if t.typ ≠ 5 ∨ t.len < 8 then s
  else if beAt m (t.off + 2) 4 = 0 then upLost n s
  else if beAt m t.off 1 / 16 = 9 then setUp n { s.up n with dreq := some (m.getD (t.off + 1) 0).toInt } s
  else s

/-- The sequence of a message fits the session (R699): a Follow_Up that of its Sync, a Delay_Resp that of the latest Delay_Req, any
other the next after the latest of its type. (DEDUCED, log 70.) -/
def UpSess.seqOk (x : UpSess) (typ q : Nat) : Bool :=
  match typ with
  | 8 => decide (x.seqs.find 0 = some q)
  | 9 => decide (AMap.get 0 x.seqs 17 = (q + 1) % 2 ^ 16)
  | _ => match x.seqs.find typ with
    | none => true
    | some o => decide (0 < (q + 2 ^ 16 - o) % 2 ^ 16 ∧ (q + 2 ^ 16 - o) % 2 ^ 16 < 2 ^ 15)

/-- A message that matches the session (R698). (DEDUCED, log 70.) -/
def upTake (n : Nat) (m : List Byte) (l : List Tlv) (s0 : State) : State :=
  let typ := beAt m 0 1 % 16
  let x := s0.up n
  let s := setUp n { x with seqs := x.seqs.insert typ (beAt m 30 2) } s0
  match typ with
  | 0xB => upAnnounce n m l s
  | 0xC => l.foldl (fun a t => upGrant n m t a) s
  | _ => s

/-- UPSTREAM_MESSAGE: a message at the port of an upstream session (R642, R697 to R699). (DEDUCED, log 70.) -/
def upMessage (n : Nat) (rx : BT80) (data : List Byte) (s0 : State) : State :=
  let c := s0.reg (Reg.QRY_UP_CFG n)
  let r := s0.request (fld c 0 4) s0.someCluster rx data
  let s := takeRx r.ptpQueue r data s0.nextFree
  let from_ := match fld c 5 2 with
    | 0 => decide (r.n.v = 0) && decide (beAt r.f 6 6 = s.regN (Reg.QRY_UP_ADDR n 0) 2 % 2 ^ 48)
    | t => decide (r.n.src = s.addrOf (Reg.QRY_UP_ADDR n 0) t)
  if bit c 4 = false then s
  else if s.servesAt (r.at_ s) = false then notServed r s
  else
    match r.ptp with
    | none => upFault n 14 (beAt r.f r.ptpOff 1 % 16) s
    | some (m, l) =>
      let typ := beAt m 0 1 % 16
      let a := if bit c 25 then authOk m l s else (true, s)
      let x := a.2.up n
      let gmBad := decide (typ = 0xB) && (match x.gm with | some g => decide (g ≠ beAt m 53 8) | none => false)
      if a.1 = false then upFault n 7 typ a.2
      else if !from_ || decide (r.transport ≠ fld c 5 2) || decide (beAt m 4 1 ≠ fld c 8 8) || gmBad || !x.seqOk typ (beAt m 30 2) then
        upFault n 14 typ a.2
      else upTake n m l a.2

/-- UPSTREAM_ANNOUNCE_TIMEOUT: no Announce for three intervals (R699). -/
def upTimeout (n : Nat) (s : State) : State :=
  let x := s.up n
  let per := if x.annLog < 0 then 1000000000 / 2 ^ (-x.annLog).toNat else 1000000000 * 2 ^ x.annLog.toNat
  match x.annAt with
  | none => s
  | some b => if s.rb (Reg.QRY_UP_CFG n) 4 && !x.lost && s.elapsed b (3 * per) then upLost n s else s

end Sys2Proof.Machine
end

