-- ==== Sys2Proof/Machine/Qry.lean ====
section
/-! DEFINITION. The two QRY pages: seeds, the commands of the record cache, writes of the service page; and the commands of chapter 14
that the serving code answers. -/
namespace Sys2Proof.Machine

/-! ### Seeds and cache commands (R656, R660) -/

/-- Queue the seeds for the peer, sealed under the B5USER01 key; not while the DRBG withholds the nonce or no key is loaded (R810). -/
def mateSeeds (s : State) : State :=
  match s.svc.seeds with
  | none => s
  | some sd =>
    match subkey "B5USER01" (label8 "B5MATESEEDS" ++ List.replicate 5 0) 256 s with
    | (none, s1) => s1
    | (some k, s1) =>
      match drbg 16 s1 with
      | (none, s2) => s2
      | (some nonce, s2) =>
        mateMirror 2 (nonce ++ sivSeal k (sivAds [] nonce) (bytesBE 8 sd.1.toNat ++ bytesBE 8 sd.2.toNat)) s2

/-- Draw the seeds; while output is withheld the next attempt comes 1 ms later (R656). -/
def quarrySeed (s : State) : State :=
  if s.svc.seeds.isSome || earlier s.bt s.svc.seedTry then s
  else
    match drbg 16 s with
    | (none, s1) => { s1 with svc := { s1.svc with seedTry := s1.bt + cyc 1000000 } }
    | (some b, s1) =>
      let sd : DWord × DWord := (BitVec.ofNat 64 (beAt b 0 8), BitVec.ofNat 64 (beAt b 8 8))
      let s2 := raiseEvt Reg.QRY 3 ({ s1 with svc := { s1.svc with seeds := some sd } }.setRb Reg.QRY_STAT 2 true)
      if s2.mrole = .active then mateSeeds s2 else s2

/-- Invalidate the whole cache. -/
def dropCache (s : State) : State :=
  { s with svc := { s.svc with cache := [], cdata := [] }, badWords := s.badWords.filter (fun e => decide (e.1 < badLine)) }

/-- A write of QRY_CMD (R660). -/
def wrQryCmd (v : Word) (s : State) : State :=
  let s1 := if bit v 0 then { s with svc := { s.svc with flushAt := some s.bt } }.setRb Reg.QRY_STAT 0 true else s
  if (bit v 1 || bit v 2) && !s.pgEn Reg.QRY then
    (dropCache { s1 with svc := { s1.svc with clearAt := some (s.bt, bit v 2) } }).setRb Reg.QRY_STAT 1 true
  else s1

/-- The flush completes: every dirty line has been written back and stays valid (R660). -/
def flushDone (s : State) : State :=
  if s.svc.flushAt.isNone then s
  else
    let s1 := s.svc.cache.foldl (fun a e => writeBack e.1 a) s
    raiseEvt Reg.QRY 0 ({ s1 with svc := { s1.svc with flushAt := none } }.setRb Reg.QRY_STAT 0 false)

/-- Zero the table in DRAM; where the DRAM does not answer, TBL_DMA is raised instead. -/
def zeroTable (s : State) : State :=
  let n := 256 * s.qBuckets
  if s.dramOk s.qBase n then
    { s with dram := s.dram.clearRange s.qBase n, badWords := s.badWords.clearRange (2 ^ 40 + eaDram + s.qBase) n }
  else fault .qry 0 2 s

/-- A CLEAR or RESEED completes; after a RESEED new seeds are drawn (R660). -/
def clearDone (s : State) : State :=
  match s.svc.clearAt with
  | none => s
  | some (_, re) =>
    let s1 := zeroTable (dropCache s)
    let s2 := raiseEvt Reg.QRY 1 ({ s1 with svc := { s1.svc with clearAt := none } }.setRb Reg.QRY_STAT 1 false)
    if re then quarrySeed ({ s2 with svc := { s2.svc with seeds := none, seedTry := s2.bt } }.setRb Reg.QRY_STAT 2 false) else s2

/-! ### Writes of the service page (R641, R709 to R712) -/

/-- Keep a signed 8-bit field given a value outside its range. -/
def keepS8 (lo : Nat) (least greatest : Int) (old v : Word) : Word :=
  let x := (bits v lo 8).toInt
  if least ≤ x ∧ x ≤ greatest then v else setFld v lo 8 (fld old lo 8)

/-- TRANSPORT and DOMAIN lie in the row of the profile (R681). -/
def ptpCfgOk (v : Word) : Bool :=
  let t := fld v 4 2
  let d := fld v 8 8
  match fld v 2 2 with
  | 0 => decide (d ≤ 127)
  | 1 => decide (t = 0 ∧ 24 ≤ d ∧ d ≤ 43)
  | 2 => decide (t ≠ 0 ∧ 44 ≤ d ∧ d ≤ 63)
  | _ => decide (t ≠ 0 ∧ d ≤ 127)

/-- A write of QRY_PTPi_CFG (R681, R694). -/
def wrPtpCfg (i : Nat) (v : Word) (s : State) : State :=
  let a := Reg.QRY_PTP_CFG i
  let x := s.merged a v
  if ptpCfgOk x = false then s
  else
    let s1 := if bit (s.reg a) 0 && !bit x 0 then instanceOff i s else s
    s1.setReg a x

/-- A write of QRY_UPn_CFG: a session that starts has heard nothing (R698, R712). -/
def wrUpCfg (n : Nat) (v : Word) (s : State) : State :=
  let a := Reg.QRY_UP_CFG n
  let s1 := plainWrite a v s
  if s.rb a 4 = s1.rb a 4 then s1
  else if s1.rb a 4 then setUp n { annAt := some s.bt } s1
  else setUp n { } s1

/-- A write of a register of the service page (R641). (DESIGN CHOICE, log 71.) -/
def wrSvc (m : Master) (ofs : Nat) (v : Word) (s : State) : State :=
  let a := Reg.SVC + ofs
  let i := (ofs - 0x300) / 32
  if ofs = 0x054 then
    let x := s.merged a v
    let y := if (bits x 24 8).toInt < (bits x 16 8).toInt then setFld x 16 8 (fld (s.reg a) 16 8) else x
    s.setReg a y
  else if 0x300 ≤ ofs ∧ ofs < 0x400 ∧ ofs % 32 = 0 then wrPtpCfg i v s
  else if 0x300 ≤ ofs ∧ ofs < 0x400 ∧ ofs % 32 = 0x10 then
    let old := s.reg a
    s.setReg a (keepS8 24 (-3) 4 old (keepS8 16 (-7) 4 old (s.merged a v)))
  else if 0x400 ≤ ofs ∧ ofs < 0x500 ∧ ofs % 32 = 0x10 then wrUpCfg ((ofs - 0x400) / 32) v s
  else
    let s1 := valueWrite m a v s
    if (ofs = 0x048 ∨ ofs = 0x050) && (s1.reg Reg.QRY_SESS_CFG != s.reg Reg.QRY_SESS_CFG ||
        s1.regN Reg.QRY_SESS_BASE 2 != s.regN Reg.QRY_SESS_BASE 2) then setupSessQueues s1 else s1

/-! ### The commands -/

/-- QUARRY_SEED (R656). -/
def execQuarrySeed (s : State) : Host.Outcome State Fault Refusal := cmdT Reg.QRY quarrySeed s

/-- FLUSH (R660). -/
def execQryFlush (m : Master) (v : Word) (s : State) : Host.Outcome State Fault Refusal := cmdW m Reg.QRY_CMD v (wrQryCmd) s

/-- FLUSH_DONE (R660). -/
def execFlushDone (s : State) : Host.Outcome State Fault Refusal := cmdT Reg.QRY flushDone s

/-- CLEAR (R660). -/
def execQryClear (m : Master) (v : Word) (s : State) : Host.Outcome State Fault Refusal := cmdW m Reg.QRY_CMD v (wrQryCmd) s

/-- CLEAR_DONE (R660). -/
def execClearDone (s : State) : Host.Outcome State Fault Refusal := cmdT Reg.QRY clearDone s

/-- QUARRY_RESEED (R656, R660). -/
def execQuarryReseed (m : Master) (v : Word) (s : State) : Host.Outcome State Fault Refusal := cmdW m Reg.QRY_CMD v (wrQryCmd) s

/-- NTP_REQUEST (R664). -/
def execNtpRequest (p : Fin 16) (cl : Fin 63) (rx : BT80) (data : List Byte) (s : State) : Host.Outcome State Fault Refusal :=
  cmdT Reg.QRY (serveNtp p.val cl.val rx data false) s

/-- NTS_REQUEST (R670); `swapped`: the Lodestone register changes between its steps 4 and 8 (R675). -/
def execNtsRequest (p : Fin 16) (cl : Fin 63) (rx : BT80) (data : List Byte) (swapped : Bool) (s : State) :
    Host.Outcome State Fault Refusal :=
  cmdT Reg.QRY (serveNtp p.val cl.val rx data swapped) s

/-- ARP_ND_REQUEST (R651). -/
def execArpNdRequest (p : Fin 16) (cl : Fin 63) (rx : BT80) (data : List Byte) (s : State) : Host.Outcome State Fault Refusal :=
  cmdT Reg.QRY (serveArpNd p.val cl.val rx data) s

/-- DELAY_REQ (R685). -/
def execDelayReq (p : Fin 16) (cl : Fin 63) (rx : BT80) (data : List Byte) (s : State) : Host.Outcome State Fault Refusal :=
  cmdT Reg.QRY (serveDelay p.val cl.val rx data) s

/-- SYNC_TARGET (R683, R684). -/
def execSyncTarget (i : Fin 8) (p : Fin 16) (ses : Option (BitVec 18)) (s : State) : Host.Outcome State Fault Refusal :=
  cmdT Reg.QRY (schedTarget i.val p.val (ses.map BitVec.toNat) false) s

/-- ANNOUNCE_TARGET (R683, R686). -/
def execAnnounceTarget (i : Fin 8) (p : Fin 16) (ses : Option (BitVec 18)) (s : State) : Host.Outcome State Fault Refusal :=
  cmdT Reg.QRY (schedTarget i.val p.val (ses.map BitVec.toNat) true) s

/-- FOLLOW_UP (R684). -/
def execFollowUp (g : Fin 4) (h : BitVec 11) (s : State) : Host.Outcome State Fault Refusal :=
  cmdT Reg.QRY (followUp g.val h.toNat) s

/-- UNICAST_NEGOTIATION (R692). -/
def execUnicastNegotiation (p : Fin 16) (cl : Fin 63) (rx : BT80) (data : List Byte) (s : State) :
    Host.Outcome State Fault Refusal :=
  cmdT Reg.QRY (serveSignal p.val cl.val rx data) s

/-- CANCEL_UNICAST_TRANSMISSION (R694). -/
def execCancelUnicastTransmission (p : Fin 16) (cl : Fin 63) (rx : BT80) (data : List Byte) (s : State) :
    Host.Outcome State Fault Refusal :=
  cmdT Reg.QRY (serveSignal p.val cl.val rx data) s

/-- GRANT_EXPIRE (R694): grant 0 Sync, 1 Announce, 2 Delay_Resp. -/
def execGrantExpire (ses : BitVec 18) (ty : Fin 3) (s : State) : Host.Outcome State Fault Refusal :=
  cmdT Reg.QRY (grantExpire ses.toNat ty.val) s

/-- QUARANTINE_END (R695). -/
def execQuarantineEnd (ses : BitVec 18) (s : State) : Host.Outcome State Fault Refusal := cmdT Reg.QRY (quarantineEnd ses.toNat) s

/-- UPSTREAM_RENEW (R698). -/
def execUpstreamRenew (n : Fin 8) (s : State) : Host.Outcome State Fault Refusal := cmdT Reg.QRY (upRenew n.val) s

/-- UPSTREAM_MESSAGE (R699). -/
def execUpstreamMessage (n : Fin 8) (rx : BT80) (data : List Byte) (s : State) : Host.Outcome State Fault Refusal :=
  cmdT Reg.QRY (upMessage n.val rx data) s

/-- UPSTREAM_ANNOUNCE_TIMEOUT (R699). -/
def execUpstreamAnnounceTimeout (n : Fin 8) (s : State) : Host.Outcome State Fault Refusal := cmdT Reg.QRY (upTimeout n.val) s

end Sys2Proof.Machine
end

