-- ==== Sys2Proof/Machine/Mate.lean ====
section
/-! DEFINITION. The mate: lanes and frames, the health word, roles, takeover, handover and reversion, mirroring (chapter 17). -/
namespace Sys2Proof.Machine

/-! ### Roles (R804 to R807) -/

/-- MATE_CFG.EN, with the page enabled. (DEDUCED, log 18.) -/
def State.mateOn (s : State) : Bool := s.pgEn Reg.MATE && s.rb Reg.MATE_CFG 0

/-- Level of MATE_ACTIVE_IN (R819). -/
def State.activeIn (s : State) : Bool := s.rb Reg.MATE_STAT 9

/-- Both units report the same PREF (R807). -/
def State.prefTie (s : State) : Bool :=
  match s.mate.peerHw with
  | some w => bit w 3 == s.rb Reg.MATE_STAT 4
  | none => false

/-- The unit is the preferred one (R807). -/
def State.preferred (s : State) : Bool :=
  if s.prefTie then decide (s.regN Reg.LCS_SERIAL 2 < s.mate.peerSer) else s.rb Reg.MATE_STAT 4

/-- The window of R815 in which the MATE_ACTIVE_IN rows are not applied. -/
def State.hoWindow (s : State) : Bool :=
  match s.mate.switchAt with
  | some b => !s.elapsed b 50000
  | none => false

/-- Why a STANDBY unit would take over (R805). A word of before the switch that made the unit STANDBY does not count: the peer has
become ACTIVE since (R814). (DEDUCED, log 88.) -/
def State.takeoverDue (s : State) : Option RoleCause :=
  if 3 ≤ s.mate.missRow then some .takeoverMiss
  else
    let peerBad := !s.mate.oldWord && match s.mate.peerHw with | some w => !bit w 2 || decide (fld w 0 2 ≠ 1) | none => false
    let low := match s.mate.activeLow with | some b => !s.activeIn && s.elapsed b 250000 | none => false
    if peerBad || low then some .takeoverFault else none

/-- The condition of PEER_LOST holds, or does not: the fault and the event are raised as it begins (R806). -/
def peerLost (b : Bool) (s : State) : State :=
  let s1 := { s with mate := { s.mate with lost := b } }
  if b && !s.mate.lost then raiseEvt Reg.MATE 2 (fault .mate 0 0 s1) else s1

/-- A standby takes over (R805). -/
def takeOver (c : RoleCause) (s : State) : State :=
  setRole .active c ((s.setRegN Reg.MATE_HO_TIME s.now.toNat 3).count Reg.MATE_CNT_TAKEOVER)

/-- Apply the rows of R804 that a level of the pins and the words heard decides. -/
def mateRoles (s : State) : State :=
  if s.mateOn = false then setRole .solo .disabled s
  else
    match s.mrole with
    | .solo =>
      if s.activeIn then setRole .standby .discovery s
      else
        match s.mate.peerHw with
        | some w => if fld w 0 2 = 0 ∨ fld w 0 2 = 2 then setRole (if s.preferred then .active else .standby) .discovery s else s
        | none => s
    | .standby =>
      match s.takeoverDue with
      | some c =>
        if s.mateGood = false then peerLost true s
        else if s.rb Reg.MATE_CFG 2 then takeOver c (peerLost false s) else peerLost false s
      | none => peerLost false s
    | .active =>
      if s.activeIn && !s.hoWindow then
        (if s.mateGood = false then setRole .standby .takeoverFault s
        else if s.preferred then s
        else raiseEvt Reg.MATE 3 (fault .mate 0 2 (setRole .isolated .split s)))
      else peerLost (decide (3 ≤ s.mate.missRow)) s
    | .isolated => s

/-- Evaluate roles, PREF_CONF, the holdoff and the mate entries of the reference table (R804, R807, R816, R183); parity written inverted
into a new role is found at once (R821). -/
def mateEval (s : State) : State :=
  let s1 := if s.prefTie then s.setRb Reg.MATE_STAT 11 true else s
  let s2 := mateRoles s1
  let s3 := if s2.mrole ≠ s.mrole ∧ s.inject Reg.MATE 0 then fault .mate 0 4 s2 else s2
  entEval 45 (entEval 44 (trackGood s3))

/-! ### Frames received (R798 to R800) -/

/-- A frame's type, length, CRC, serial and contents make it well formed (R799). -/
def State.mateOk (s : State) (d : List Byte) : Bool :=
  let n := beAt d 2 2
  let pay := sliceB d 16 n
  let t := beAt d 0 1
  let ser := s.regN Reg.MATE_PEER_SERIAL 2
  let lenOk := match t with
    | 1 => decide (n = 16)
    | 2 => decide (n = 32)
    | 3 => (match beAt pay 0 1 with
      | 1 => decide (n = 260)
      | 2 => decide (n = 52)
      | 3 => decide (n = 68)
      | _ => false)
    | 4 => decide (n = 16) && decide (1 ≤ beAt pay 0 1) && decide (beAt pay 0 1 ≤ 4)
    | _ => false
  decide (d.length = 20 + n) && decide (d.length ≤ 1024) && decide (beAt d 1 1 = 1) && lenOk &&
    decide ((crc32c (sliceB d 0 (16 + n))).toNat = beAt d (16 + n) 4) && (decide (ser = 0) || decide (beAt d 8 8 = ser))

/-- A malformed frame on a lane: counted, logged, and after three in a row the link is degraded (R799 to R801). -/
def mateMalf (l : Nat) (d : List Byte) (s : State) : State :=
  let n := AMap.get 0 s.mate.malfRow l + 1
  let s1 := raiseEvt Reg.MATE 4 (s.count Reg.MATE_CNT_MALF)
  let s2 := vlog none { cls := 15, port := 0xFF, answer := .discarded, partner := 2, tag := 0, detail := beAt d 0 1 } s1
  let s3 := { s2 with mate := { s2.mate with malfRow := AMap.set 0 s2.mate.malfRow l n, goodRow := AMap.set 0 s2.mate.goodRow l 0 } }
  if n = 3 then fault .mate 0 1 (s3.setRb Reg.MATE_STAT 8 true) else s3

/-- DEGRADED clears with 1,000 valid frames in a row on every lane that is up (R800). -/
def mateRecover (s : State) : State :=
  let ok (i : Nat) : Bool := !s.rb Reg.MATE_STAT (6 + i) || decide (1000 ≤ AMap.get 0 s.mate.goodRow i)
  if (s.rb Reg.MATE_STAT 6 || s.rb Reg.MATE_STAT 7) && ok 0 && ok 1 then s.setRb Reg.MATE_STAT 8 false else s

/-- A valid frame on a lane (R800). -/
def mateValid (l : Nat) (s : State) : State :=
  let n := AMap.get 0 s.mate.goodRow l + 1
  mateRecover { s with mate := { s.mate with malfRow := AMap.set 0 s.mate.malfRow l 0, goodRow := AMap.set 0 s.mate.goodRow l n } }

/-- A HEALTH frame: its word is held (R803). The first of a STANDBY peer pairs the units, and the active sends its seeds (R810).
(DEDUCED, log 88.) -/
def mateHealth (d : List Byte) (s : State) : State :=
  let w := BitVec.ofNat 32 (beAt d 16 4)
  let was := match s.mate.peerHw with | some x => decide (fld x 0 2 = 2) | none => false
  let m := { s.mate with heard := true, lastHeard := s.bt, peerHw := some w, peerSer := beAt d 8 8, oldWord := false }
  let s1 := mateEval ({ s with mate := m }.setReg Reg.MATE_PEER_HW w)
  if decide (fld w 0 2 = 2) && !was && decide (s1.mrole = .active) then mateSeeds s1 else s1

/-- The parts of a mirrored record that R123 and R160 recompute: errorBound. -/
def recordBound (r : List Byte) : Nat :=
  if beAt r 6 2 / 8 % 2 = 1 then 2 ^ 48 - 1
  else
    let ds := ((List.range 7).map (fun i => beAt r (76 + 10 * i) 6)).sum
    let q := ((List.range 7).map (fun i => beAt r (82 + 10 * i) 4 ^ 2)).sum
    min (ds + stochTerm (beAt r 72 2) q) (2 ^ 48 - 2)

/-- A mirrored Assay record (R810). -/
def mirrorRecord (r : List Byte) (s : State) : State :=
  let s1 := forN 64 (fun i a => a.setReg (Reg.MATE_PEER_REC i) (BitVec.ofNat 32 (beAt r (4 * i) 4))) s
  if recordBound r = beAt r 56 6 then s1
  else fault .mate 0 3 ({ s1 with mate := { s1.mate with shadowBad := some s1.bt } }.count Reg.MATE_CNT_SHADOW)

/-- Mirrored seeds: opened by CRY, they replace both at once (R810). -/
def mirrorSeeds (b : List Byte) (s : State) : State :=
  match subkey "B5USER01" (label8 "B5MATESEEDS" ++ List.replicate 5 0) 256 s with
  | (none, s1) => raiseEvt Reg.MATE 10 s1
  | (some k, s1) =>
    match sivOpen k (sivAds [] (b.take 16)) (b.drop 16) with
    | none => raiseEvt Reg.MATE 10 s1
    | some p =>
      let sd : DWord × DWord := (BitVec.ofNat 64 (beAt p 0 8), BitVec.ofNat 64 (beAt p 8 8))
      { s1 with svc := { s1.svc with seeds := some sd } }.setRb Reg.QRY_STAT 2 true

/-- A gap in what is mirrored; the standby's firmware asks for the full state (R811). -/
def mirrorGap (s : State) : State :=
  let s1 := raiseEvt Reg.MATE 5 (s.count Reg.MATE_CNT_MGAP)
  if s1.mrole = .standby then mateCtrl .resyncReq 0 s1 else s1

/-- A MIRROR frame (R810, R811). (DEDUCED, log 88.) -/
def mateMirrored (d : List Byte) (s : State) : State :=
  let q := beAt d 4 4
  let gap := match s.mate.rxSeq with | some p => decide (q ≠ (p + 1) % 2 ^ 32) | none => false
  let s0 := { s with mate := { s.mate with rxSeq := some q } }
  let s1 := if gap then mirrorGap s0 else s0
  if s1.mrole ≠ .standby then s1
  else
    match beAt d 16 1 with
    | 1 => mateEval (mirrorRecord (sliceB d 20 256) s1)
    | 2 => mirrorSeeds (sliceB d 20 48) s1
    | _ =>
      match blockPush (s1.rf Reg.MATE_MRQ 0 18) (sliceB d 20 64) s1 with
      | (.ok, s2) => s2
      | (_, s2) => mirrorGap s2

/-- The peer of a reversion arms its own slot of the same number with the same due time (R816). -/
def reversionPeer (due : WT96) (s : State) : State :=
  let held := s.mate.ho.any (fun h => decide (h.due = due))
  let peer := match s.mate.peerHw with | some w => decide (fld w 0 2 = 2) && bit w 11 | none => false
  if held || !(decide (s.mrole = .active) && s.rb Reg.MATE_CFG 1 && !s.preferred && peer) then s
  else
    let n := s.rf Reg.MATE_REV 0 12
    actArm n 5 false 0 true (s.setRegN (slotAddr n 0) due.toNat 3)

/-- ARM_HO: a unit that holds the same handover answers ACK_HO (R812). -/
def mateArmed (due : WT96) (s0 : State) : State :=
  let s := reversionPeer due s0
  if s.mate.ho.any (fun h => decide (h.due = due)) = false then s
  else
    let l := s.mate.ho.map (fun h => if h.due = due then { h with acked := true } else h)
    raiseEvt Reg.MATE 6 (mateCtrl .ackHo due { s with mate := { s.mate with ho := l } })

/-- ACK_HO: the exchange is complete (R812, R820). -/
def mateAcked (due : WT96) (s : State) : State :=
  if s.mate.ho.any (fun h => decide (h.due = due)) = false then s
  else
    let l := s.mate.ho.map (fun h => if h.due = due then { h with acked := true } else h)
    raiseEvt Reg.MATE 6 { s with mate := { s.mate with ho := l } }

/-- A CTRL frame (R798, R812, R820). (DEDUCED, log 88.) -/
def mateCtrlFrame (d : List Byte) (s : State) : State :=
  let due : WT96 := BitVec.ofNat 96 (beAt d 20 12)
  match beAt d 16 1 with
  | 1 => mateArmed due s
  | 2 => mateAcked due s
  | 3 => { s with mate := { s.mate with ho := s.mate.ho.filter (fun h => decide (h.due ≠ due)) } }
  | _ => raiseEvt Reg.MATE 9 s

/-- A frame arrives on a lane (R798, R799); one on a lane that is down is not received. (DEDUCED, log 88.) -/
def mateReceive (l : Nat) (d : List Byte) (s : State) : State :=
  if !s.mateOn || !s.rb Reg.MATE_STAT (6 + l) then s
  else if s.mateOk d = false then mateMalf l d s
  else
    let s1 := mateValid l s
    match beAt d 0 1 with
    | 1 => mateHealth d s1
    | 2 => mateTime (BitVec.ofNat 96 (beAt d 16 12)) s1
    | 3 => mateMirrored d s1
    | _ => mateCtrlFrame d s1

/-! ### Lanes, pulses, publication and intervals (R794, R797, R801, R803) -/

/-- A lane comes up or goes down: its runs of frames begin again (R794, R800). -/
def mateLane (l : Nat) (up : Bool) (s : State) : State :=
  let m := { s.mate with malfRow := AMap.set 0 s.mate.malfRow l 0, goodRow := AMap.set 0 s.mate.goodRow l 0 }
  mateRecover ({ s with mate := m }.setRb Reg.MATE_STAT (6 + l) up)

/-- The least offset in a range at which served time has reached t. -/
def leastReach (p : TimeParams) (t : WT96) (b : BT80) : Nat → Nat → Nat → Nat
  | 0, _, hi => hi
  | k + 1, lo, hi =>
    let m := (lo + hi) / 2
    if hi ≤ lo then hi
    else if atOrAfter (p.served (b + BitVec.ofNat 80 m)) t then leastReach p t b k lo m
    else leastReach p t b k (m + 1) hi

/-- Drive an edge of MATE_PPS_OUT by the placement of R300 (R797). (DESIGN CHOICE, log 43.) -/
def matePin (level : Bool) (b : BT80) (s : State) : State :=
  let ps := rne ((b.toNat % 65536 : Nat) * 1000) 65536 + 256
  let c := BitVec.ofNat 80 (b.toNat / 65536 * 65536) + BitVec.ofInt 80 (ps / 1000 * 65536)
  s.emit (.edge "MATE_PPS_OUT" level c (ps % 1000))

/-- The TIME frame of a millisecond (R798). -/
def mateTimeFrame (t : WT96) (s : State) : State :=
  let s1 := mateSend .time (bytesBE 12 t.toNat ++ bytesBE 6 s.eNow.e ++ bytesBE 1 s.asy.ts.code ++
    bytesBE 1 (b2n s.warm + 2 * b2n s.mate.stepped) ++ bytesBE 1 s.actRef ++ bytesBE 1 (s.rf Reg.BDR_UTC_OFS 16 3) ++
    bytesBE 2 (s.rf Reg.BDR_UTC_OFS 0 16) ++ List.replicate 8 0) s
  { s1 with mate := { s1.mate with stepped := false } }

/-- The pulse of a whole millisecond reached in this cycle, and its TIME frame (R797). (DESIGN CHOICE, log 43.) -/
def matePulse (s : State) : State :=
  let p := s.bdr.par
  let ms := 1000000 * 65536
  let t : WT96 := BitVec.ofNat 96 ((p.served (s.bt + 65535)).toNat / ms * ms)
  if !s.mateOn || !earlier (p.served (s.bt - 1)) t then s
  else
    let b := s.bt + BitVec.ofNat 80 (leastReach p t s.bt 17 0 65535)
    let b2 := b + BitVec.ofNat 80 (leastReach p (t + wtNs 100000) b 34 0 (2 ^ 34))
    mateTimeFrame t (matePin false b2 (matePin true b s))

/-- A grid of 250 µs of Bedrock. (DESIGN CHOICE, log 89.) -/
def State.onGrid (s : State) : Bool := decide (s.bt.toNat / 65536 % 250000 = 0)

/-- Publish the health word; parity written inverted in the health state is found at once (R801, R821). (DESIGN CHOICE, log 89.) -/
def healthPublish (s : State) : State :=
  if !s.mateOn || !s.onGrid then s
  else
    let w := s.healthWord
    let s1 := mateSend .health (bytesBE 4 w.toNat ++ bytesBE 12 s.now.toNat) (s.setReg Reg.MATE_HW w)
    let s2 := if bit w 2 then
        { s1 with mate := { s1.mate with healthOut := !s1.mate.healthOut } }.emit (.pin "MATE_HEALTH_OUT" (!s1.mate.healthOut))
      else s1
    if s2.inject Reg.MATE 0 then fault .mate 0 4 s2 else s2

/-- An interval ends: `toggle` says that MATE_HEALTH_IN toggled in it (R803, R805, R806). (DESIGN CHOICE, log 89.) -/
def healthInterval (toggle : Bool) (s : State) : State :=
  if !s.mateOn || !s.onGrid then s
  else
    let s0 := if toggle then s.setRb Reg.MATE_STAT 10 (!s.rb Reg.MATE_STAT 10) else s
    if s0.mate.heard || toggle then
      let at_ := if toggle then s0.bt else s0.mate.lastHeard
      mateEval ({ s0 with mate := { s0.mate with heard := false, missRow := 0, lastHeard := at_ } }.setRb Reg.MATE_STAT 5 true)
    else
      let s1 := { s0 with mate := { s0.mate with missRow := s0.mate.missRow + 1 } }
      mateEval (raiseEvt Reg.MATE 1 ((s1.setRb Reg.MATE_STAT 5 false).count Reg.MATE_CNT_MISS))

/-- Discovery ends with nothing heard and MATE_ACTIVE_IN low for DISC_T (R804). -/
def discoveryTimeout (s : State) : State :=
  let d := s.rf Reg.MATE_CFG 16 16 * 10000000
  let low := match s.mate.activeLow with | some b => s.elapsed b d | none => true
  if s.mateOn && decide (s.mrole = .solo) && !s.activeIn && s.elapsed s.mate.lastHeard d && low then setRole .active .discovery s else s

/-- MATE_ACTIVE_IN changes level (R796, R804). -/
def activeInChange (level : Bool) (s : State) : State :=
  let since := if s.activeIn || s.mate.activeLow.isNone then some s.bt else s.mate.activeLow
  let low := if level then none else since
  let s1 := { s with mate := { s.mate with activeLow := low } }
  mateEval (s1.setRb Reg.MATE_STAT 9 level)

/-- A mean of paired captures over the served second just ended, in ps (R809). -/
def residUpdate (s : State) : State :=
  let sec := wholeSec s.now
  if sec ≤ s.mate.residSec then s
  else
    let m := s.mate
    let mean := if m.residCnt = 0 then 0 else rne (m.residSum * 1000) (m.residCnt * 65536)
    mateEval ({ s with mate := { m with residSec := sec, residSum := 0, residCnt := 0, paired := m.residCnt } }.setReg Reg.MATE_RESID
      (BitVec.ofInt 32 mean))

/-! ### Mirroring sent, self-test (R810, R811) -/

/-- Send one MIRROR frame of the active: a queued body, or the next element of MATE_MQ (R810). -/
def mirrorSend (s : State) : State :=
  if !s.mateOn || decide (s.mrole ≠ .active) then s
  else
    match s.mate.mirrorQ with
    | b :: l => mateSend .mirror b { s with mate := { s.mate with mirrorQ := l } }
    | [] =>
      match queuePop (s.rf Reg.MATE_MQ 0 18) s with
      | (.ok, e, s1) => mateSend .mirror (bytesBE 1 3 ++ [0, 0, 0] ++ sliceB e 0 64) s1
      | (_, _, s1) => s1

/-- A write of MATE_SWGOOD (R811). -/
def wrSwgood (v : Word) (s : State) : State :=
  let s1 := plainWrite Reg.MATE_SWGOOD v s
  mateEval (if bit v 0 then { s1 with mate := { s1.mate with stAt := some s1.bt } } else s1)

/-- ST reads 0 when it was not written with 1 for TO ms (R811). -/
def selftestTimeout (s : State) : State :=
  match s.mate.stAt with
  | none => s
  | some b => if s.elapsed b (s.rf Reg.MATE_SWGOOD 16 16 * 1000000) then
      mateEval ({ s with mate := { s.mate with stAt := none } }.setRb Reg.MATE_SWGOOD 0 false) else s

/-- SHADOW_OK returns 10 s after a mismatch (R810). -/
def shadowRestore (s : State) : State :=
  match s.mate.shadowBad with
  | none => s
  | some b => if s.elapsed b 10000000000 then mateEval { s with mate := { s.mate with shadowBad := none } } else s

/-! ### Commands and handover (R804, R812 to R816) -/

/-- A write of MATE_CMD (R804). -/
def wrMateCmd (v : Word) (s : State) : State :=
  let s1 := if bit v 1 then mateIsolate .command s else s
  if bit v 0 && decide (s1.mrole = .isolated) then
    mateEval (if s1.activeIn then setRole .standby .command s1 else setRole .solo .command s1)
  else mateEval s1

/-- A write of MATE_CFG: with EN from 0 to 1 discovery begins (R804). -/
def wrMateCfg (v : Word) (s : State) : State :=
  let s1 := plainWrite Reg.MATE_CFG v s
  mateEval (if !s.rb Reg.MATE_CFG 0 && s1.rb Reg.MATE_CFG 0 then
      { s1 with mate := { s1.mate with lastHeard := s1.bt, peerHw := none, heard := false, missRow := 0 } } else s1)

/-- How a taken HANDOVER slot ends (R113, R813, R814). -/
inductive SwitchResult where
  | done | noMate | targetErr
  deriving DecidableEq, Repr

/-- The conditions of R813 hold for the handover of a slot. -/
def State.mayswitch (s : State) (n : Nat) : Bool :=
  let h := s.mate.ho.find? (fun h => decide (h.slot = n))
  match h, s.mate.peerHw, s.mrole with
  | some x, some w, .active => x.acked && decide (fld w 0 2 = 2) && bit w 2
  | some x, some w, .standby => x.acked && decide (fld w 0 2 = 1) && bit (s.reg Reg.MATE_HW) 2
  | _, _, _ => false

/-- A taken HANDOVER slot is initiated: the switch of R814, or its abort (R813). The switch instant S is the served time of the
initiation. (DEDUCED, log 31, 88.) -/
def mateSwitch (n : Nat) (s : State) : SwitchResult × State :=
  if s.mrole = .solo ∨ s.mrole = .isolated then (.noMate, hoDrop n s)
  else
    let h := s.mate.ho.find? (fun h => decide (h.slot = n))
    let due := match h with | some x => x.due | none => (s.actSlot n).due
    let rev := match h with | some x => x.reversion | none => false
    if s.mayswitch n = false then
      (.targetErr, raiseEvt Reg.MATE 8 ((mateCtrl .abortHo due (hoDrop n s)).count Reg.MATE_CNT_HOABORT))
    else
      let s1 := hoDrop n (s.setRegN Reg.MATE_HO_TIME s.now.toNat 3)
      let s2 := { s1 with mate := { s1.mate with switchAt := some s1.bt } }
      if s2.mrole = .standby then (.done, raiseEvt Reg.MATE 7 (setRole .active (if rev then .reversion else .handover) s2))
      else (.done, { s2 with mate := { s2.mate with leaveAt := some (s2.bt + cyc 20000), hoRev := rev } })

/-- The old active becomes STANDBY 20 µs after the switch (R814). (DEDUCED, log 88.) -/
def hoLeave (s : State) : State :=
  match s.mate.leaveAt with
  | none => s
  | some b =>
    if earlier s.bt b then s
    else
      let s1 := { s with mate := { s.mate with leaveAt := none, oldWord := true } }
      mateEval (raiseEvt Reg.MATE 7 (if s1.mrole = .active then setRole .standby (if s1.mate.hoRev then .reversion else .handover) s1 else s1))

/-- A preferred standby whose holdoff is complete arms a reversion (R816). -/
def reversionArm (s : State) : State :=
  let peer := match s.mate.peerHw with | some w => decide (fld w 0 2 = 1) | none => false
  if s.mateOn && s.rb Reg.MATE_CFG 1 && s.preferred && decide (s.mrole = .standby) && s.holdoffDone && peer &&
      !s.mate.ho.any (fun h => h.reversion) then
    let n := s.rf Reg.MATE_REV 0 12
    let sec := cdiv s.now.toNat (65536 * 1000000000) + s.rf Reg.MATE_REV 16 8
    actArm n 5 false 0 true (s.setRegN (slotAddr n 0) (sec * 1000000000 * 65536) 3)
  else s

/-! ### The commands -/

/-- MATE_LANE_UP (R794). -/
def execMateLaneUp (l : Fin 2) (s : State) : Host.Outcome State Fault Refusal := cmdE Reg.MATE (mateLane l.val true) s
/-- MATE_LANE_DOWN (R794). -/
def execMateLaneDown (l : Fin 2) (s : State) : Host.Outcome State Fault Refusal := cmdE Reg.MATE (mateLane l.val false) s
/-- MATE_PPS_PULSE (R797). -/
def execMatePpsPulse (s : State) : Host.Outcome State Fault Refusal := cmdT Reg.MATE matePulse s
/-- HEALTH_PUBLISH (R801). -/
def execHealthPublish (s : State) : Host.Outcome State Fault Refusal := cmdT Reg.MATE healthPublish s
/-- HEALTH_INTERVAL (R803). -/
def execHealthInterval (toggle : Bool) (s : State) : Host.Outcome State Fault Refusal := cmdT Reg.MATE (healthInterval toggle) s
/-- HEALTH_FRAME (R799): a frame as it arrives on a lane; the type it bears decides what it does. -/
def execHealthFrame (l : Fin 2) (data : List Byte) (s : State) : Host.Outcome State Fault Refusal :=
  cmdT Reg.MATE (mateReceive l.val data) s
/-- TIME_FRAME (R808). -/
def execTimeFrame (l : Fin 2) (data : List Byte) (s : State) : Host.Outcome State Fault Refusal :=
  cmdT Reg.MATE (mateReceive l.val data) s
/-- MIRROR_FRAME (R810, R811). -/
def execMirrorFrame (l : Fin 2) (data : List Byte) (s : State) : Host.Outcome State Fault Refusal :=
  cmdT Reg.MATE (mateReceive l.val data) s
/-- ARM_HO (R812). -/
def execArmHo (l : Fin 2) (data : List Byte) (s : State) : Host.Outcome State Fault Refusal := cmdT Reg.MATE (mateReceive l.val data) s
/-- ACK_HO (R812). -/
def execAckHo (l : Fin 2) (data : List Byte) (s : State) : Host.Outcome State Fault Refusal := cmdT Reg.MATE (mateReceive l.val data) s
/-- ABORT_HO (R813). -/
def execAbortHo (l : Fin 2) (data : List Byte) (s : State) : Host.Outcome State Fault Refusal :=
  cmdT Reg.MATE (mateReceive l.val data) s
/-- RESYNC_REQ (R811). -/
def execResyncReq (l : Fin 2) (data : List Byte) (s : State) : Host.Outcome State Fault Refusal :=
  cmdT Reg.MATE (mateReceive l.val data) s
/-- MIRROR_SEND (R810). -/
def execMirrorSend (s : State) : Host.Outcome State Fault Refusal := cmdT Reg.MATE mirrorSend s
/-- MATE_RESID_UPDATE (R809). -/
def execMateResidUpdate (s : State) : Host.Outcome State Fault Refusal := cmdT Reg.MATE residUpdate s
/-- DISCOVERY_TIMEOUT (R804). -/
def execDiscoveryTimeout (s : State) : Host.Outcome State Fault Refusal := cmdT Reg.MATE discoveryTimeout s
/-- ACTIVE_IN_CHANGE (R804). -/
def execActiveInChange (level : Bool) (s : State) : Host.Outcome State Fault Refusal := cmdE Reg.MATE (activeInChange level) s
/-- REJOIN (R804). -/
def execMateRejoin (m : Master) (v : Word) (s : State) : Host.Outcome State Fault Refusal := cmdW m Reg.MATE_CMD v (wrMateCmd) s
/-- ISOLATE (R804). -/
def execMateIsolate (m : Master) (v : Word) (s : State) : Host.Outcome State Fault Refusal := cmdW m Reg.MATE_CMD v (wrMateCmd) s
/-- HO_DONE (R814). -/
def execHoDone (s : State) : Host.Outcome State Fault Refusal := cmdT Reg.MATE hoLeave s
/-- REVERSION_ARM (R816). -/
def execReversionArm (s : State) : Host.Outcome State Fault Refusal := cmdT Reg.MATE reversionArm s
/-- SELFTEST_TIMEOUT (R811). -/
def execSelftestTimeout (s : State) : Host.Outcome State Fault Refusal := cmdT Reg.MATE selftestTimeout s
/-- SHADOW_RESTORE (R810). -/
def execShadowRestore (s : State) : Host.Outcome State Fault Refusal := cmdT Reg.MATE shadowRestore s

end Sys2Proof.Machine
end

