-- ==== Sys2Proof/Machine/PwrCore.lean ====
section
/-! DEFINITION. PWR_CMD and wake requests (R914, R916, R941). -/
namespace Sys2Proof.Machine

/-- The master may command QUIESCE (R914). -/
def mayQuiesce : Master → Bool
  | .host | .jtag | .calendar => true
  | .cluster c => decide (c.val = 63)

/-- Some port serves: an enabled PRT page in mode NORMAL (R914). -/
def State.serving (s : State) : Bool := (List.range 16).any (fun p => s.pgEn (Reg.PRT p) && decide (s.rf (Reg.PRT_LINK p) 12 2 = 0))

/-- The first case in which QUIESCE is refused, by its code; 0 where none holds (R914, R941); busy: an entry is under way.
(DEDUCED, log 97.) -/
def State.quiesceRej (s : State) (busy : Bool) : Nat :=
  if s.quiescent || busy then 5
  else if s.pwr.wakeAt = some s.bt then 6
  else if s.serving then 3
  else if s.mrole = .active then 4
  else 0

/-- The code with which PWR_CMD refuses a write for its master or its CONFIRM; 0 where it does not (R914, R916, R921). -/
def pwrBarred (m : Master) (v : Word) : Nat :=
  match fld v 0 2 with
  | 1 => if mayQuiesce m then 0 else 1
  | 2 => if mayQuiesce m && decide (m ≠ .calendar) then 0 else 1
  | 3 => if decide (m = .host) || decide (m = .jtag) then (if fld v 16 16 = 0x5253 then 0 else 2) else 1
  | _ => 0

/-- The PWR_CMD writes of the cycle act in their order: whether QUIESCE is accepted, and REJ. A wake request of the cycle, before them or
after them, refuses QUIESCE (R914, R941). (DEDUCED, log 97.) -/
def judgePwr (s : State) : State :=
  let was := s.pwr.entering && !s.thisCyc.quies
  let one (x : Bool × Nat) (c : Nat × Nat × Nat) : Bool × Nat :=
    if c.2.2 ≠ 0 then (x.1, c.2.2)
    else
      match c.2.1 with
      | 1 => let r := s.quiesceRej (was || x.1)
             (x.1 || decide (r = 0), r)
      | 2 => (x.1, if s.quiescent || was || x.1 then 0 else 5)
      | _ => x
  if s.thisCyc.pwrCmds.isEmpty then s
  else
    let x := s.thisCyc.pwrCmds.foldl one (false, 0)
    { s with pwr := { s.pwr with entering := was || x.1 }, thisCyc := { s.thisCyc with quies := x.1 } }.setRf Reg.PWR_STAT 0 4 x.2

/-- What the PWR_CMD writes of the cycle did is settled: an entry or an exit has completed after them. -/
def pwrSettled (s : State) : State := { s with thisCyc := { s.thisCyc with pwrCmds := [], quies := false } }

/-- The source of bit i of PWR_WAKE_SRC may wake the device: ports, the alarm and GPIO by PWR_WAKE_EN, the command always (R916). -/
def State.wakeEn (s : State) (i : Nat) : Bool := decide (i = 18) || s.rb Reg.PWR_WAKE_EN i

/-- A wake request from the source of bit i: recorded in every state; it starts the exit from QUIESCENT and is held during an
entry (R916). (DEDUCED, log 97.) -/
def wakeRequest (i : Nat) (s : State) : State :=
  if s.wakeEn i = false then s
  else
    let s0 := s.hwSet Reg.PWR_WAKE_SRC i
    let s1 := judgePwr { s0 with pwr := { s0.pwr with wakeAt := some s.bt } }
    if s1.quiescent then
      let s2 := raiseEvt Reg.PWR 1 s1
      { s2 with pwr := { s2.pwr with exiting := true } }
    else if s1.pwr.entering then { s1 with pwr := { s1.pwr with wakeHeld := true } }
    else s1

end Sys2Proof.Machine
end

