-- ==== Sys2Proof/Machine/Prt.lean ====
section
/-! DEFINITION. Ports: the link, the receive MAC, PAUSE and port modes, wake patterns, ESMC and the transmit MAC (R453 to R506). -/
namespace Sys2Proof.Machine

/-- The port's receive side runs: the device runs and no reset holds the page; QUIESCENT does not stop it (R488). -/
def State.rxAlive (s : State) (p : Nat) : Bool := s.alive && !s.pgRst (prtPage p)

/-- The port is one of its group's and enabled. -/
def State.portOn (s : State) (p : Nat) : Bool := (decide (p = 16) || s.portActive p) && s.pgEn (prtPage p)

/-- MODE_ACT of a port; MGMT always behaves as NORMAL (R499, R502). -/
def State.modeAct (s : State) (p : Nat) : Nat := if p = 16 then 0 else s.rf (Reg.PRT_LINK p) 12 2

/-- Cells of a port's receive buffer (R453, R499). -/
def State.bufCells (s : State) (p : Nat) : Nat := if p = 16 then 128 else if s.gmode (p / 4) = 2 then 2048 else 512

/-! ### PAUSE (R476 to R482) -/

/-- The value a PAUSE frame would carry now (R477). -/
def State.pauseValue (s : State) (p : Nat) : Nat := if s.rb (Reg.PRT_LINK p) 8 then s.rf (Reg.PRT_FC_CFG p) 0 16 else 0

/-- Request a PAUSE frame; one whose value equals that of the last sent is withdrawn, unless it is a refresh (R477). -/
def requestPause (p : Nat) (refresh : Bool) (s : State) : State :=
  let x := s.prtS p
  let same := x.lastPause == some (s.pauseValue p)
  s.setPrt p { x with pauseReq := if same && !refresh then none else some refresh }

/-- The PAUSE state follows the cells in use, outside NORMAL (R476). -/
def pauseEval (p : Nat) (s : State) : State :=
  if p = 16 ∨ s.modeAct p = 0 then s
  else
    let occ := s.rf (Reg.PRT_LINK p) 16 16
    if s.rb (Reg.PRT_LINK p) 8 then
      if occ ≤ s.rf (Reg.PRT_FC_WM p) 16 13 then requestPause p false (s.setRb (Reg.PRT_LINK p) 8 false) else s
    else if s.rf (Reg.PRT_FC_WM p) 0 13 ≤ occ then requestPause p false (s.setRb (Reg.PRT_LINK p) 8 true)
    else s

/-- Show the cells in use (R470). -/
def setOcc (p n : Nat) (s : State) : State :=
  if p = 16 then s else pauseEval p (s.setRf (Reg.PRT_LINK p) 16 16 (min n (s.bufCells p)))

/-- A pause time of q quanta of 512 bit times at the port's speed, as a Bedrock interval. -/
def State.quanta (s : State) (p q : Nat) : BT80 :=
  let gbps := match s.speed p with | 0 => 10 | 1 => 25 | _ => 100
  BitVec.ofNat 80 (q * 512 * 65536 / gbps)

/-- A PAUSE frame of Annex 31B, without its FCS (R478). -/
def pauseFrame (src : List Byte) (q : Nat) : List Byte :=
  [0x01, 0x80, 0xC2, 0, 0, 0x01] ++ src ++ [0x88, 0x08, 0x00, 0x01] ++ bytesBE 2 q ++ List.replicate 42 0

/-- A received PAUSE: outside NORMAL it loads the partner pause timer (R472, R479). -/
def gotPause (p q : Nat) (s : State) : State :=
  if p = 16 ∨ s.modeAct p = 0 then s
  else
    let s1 := s.setPrt p { s.prtS p with pauseTo := if q = 0 then none else some (s.bt + s.quanta p q) }
    s1.setRb (Reg.PRT_LINK p) 7 (decide (q ≠ 0))

/-! ### ESMC (R491 to R497) -/

/-- A frame is an ESMC PDU (R491). -/
def isEsmc (f : List Byte) : Bool :=
  sliceB f 0 6 == [0x01, 0x80, 0xC2, 0, 0, 0x02] && beAt f 12 2 == 0x8809 && beAt f 14 1 == 0x0A

/-- A PDU that R493 accepts. (DEDUCED, log 57.) -/
def esmcOk (f : List Byte) : Bool :=
  beAt f 15 3 == 0x0019A7 && beAt f 18 2 == 1 && beAt f 20 1 / 16 == 1 && beAt f 24 1 == 1 && beAt f 25 2 == 4

/-- Receive an ESMC PDU (R491, R493, R494). (DEDUCED, log 57.) -/
def gotEsmc (p : Nat) (f : List Byte) (s : State) : State :=
  let bad := stat p 15 1 s
  if s.rb (Reg.PRT_ESMC_CFG p) 0 = false ∨ esmcOk f = false then bad
  else
    let x := s.prtS p
    let sec := wholeSec s.now
    let n := if x.esmcSec = sec then x.esmcCnt else 0
    if 10 ≤ n then bad.setRb (Reg.PRT_ESMC_RX p) 17 true
    else
      let ssm := beAt f 27 1 % 16
      let essm := if beAt f 28 1 = 2 ∧ beAt f 29 2 = 0x14 then beAt f 31 1 else 0xFF
      let old := s.reg (Reg.PRT_ESMC_RX p)
      let s1 := stat p 14 1 (s.setPrt p { x with esmcSec := sec, esmcCnt := n + 1 })
      let s2 := ((s1.setRf (Reg.PRT_ESMC_RX p) 0 4 ssm).setRf (Reg.PRT_ESMC_RX p) 8 8 essm).setRb (Reg.PRT_ESMC_RX p) 16 true
      let s3 := if bit old 16 = false ∨ fld old 0 4 ≠ ssm ∨ fld old 8 8 ≠ essm then raiseEvt (Reg.PRT p) 2 s2 else s2
      if s3.pageLive Reg.REF then refSsm p ssm essm s3 else s3

/-- The loop whose own entry the port is, when it drives the group's synthesiser (R496). -/
def State.dnuLoop (s : State) (p : Nat) : Bool :=
  match s.synLoop (s.ptxSyn (p / 4)) with
  | none => false
  | some l =>
    let cur := s.reg (Reg.REF_LOOP_CUR l)
    s.rb (Reg.PRT_ESMC_CFG p) 2 && bit cur 8 && decide (fld cur 0 6 = 16 + p)

/-- SSM and eSSM sent (R496). -/
def State.esmcCodes (s : State) (p : Nat) : Nat × Nat :=
  if s.dnuLoop p then (0xF, 0xFF) else (s.rf (Reg.PRT_ESMC_TX p) 0 4, s.rf (Reg.PRT_ESMC_TX p) 8 8)

/-- An ESMC PDU, without its FCS (R492, R497). -/
def State.esmcPdu (s : State) (p : Nat) (event : Bool) : List Byte :=
  let c := s.esmcCodes p
  let tx := s.reg (Reg.PRT_ESMC_TX p)
  let ext := if s.rb (Reg.PRT_ESMC_CFG p) 3 then
      [0x02, 0x00, 0x14, BitVec.ofNat 8 c.2] ++ bytesBE 8 (s.regN (Reg.PRT_ESMC_ID p) 2) ++
        [BitVec.ofNat 8 (fld tx 16 2), BitVec.ofNat 8 (fld tx 24 8), BitVec.ofNat 8 (s.rf (Reg.PRT_ESMC_CNT p) 0 8)] ++ List.replicate 5 0
    else []
  let l := [0x01, 0x80, 0xC2, 0, 0, 0x02] ++ s.prtMac p ++ [0x88, 0x09, 0x0A, 0x00, 0x19, 0xA7, 0x00, 0x01, if event then 0x18 else 0x10,
    0, 0, 0, 0x01, 0x00, 0x04, BitVec.ofNat 8 c.1] ++ ext
  l ++ List.replicate (60 - l.length) 0

/-- Start an ESMC PDU (R482, R495, R525): a partner pause does not delay it (R479). -/
def sendEsmc (p : Nat) (event : Bool) (s : State) : State :=
  startTx p { kind := .esmc, data := s.esmcPdu p event, ts := none, free := none } s

/-- The port may start an ESMC PDU now. -/
def State.esmcReady (s : State) (p : Nat) : Bool :=
  s.rb (Reg.PRT_ESMC_CFG p) 1 && s.canSend p && (s.prtS p).pauseReq.isNone && s.fitsGap p 64

/-- An information PDU is due: it goes out PHASE ms after each served whole second (R495). -/
def State.infoDue (s : State) (p : Nat) : Bool :=
  let w := s.now.toNat
  decide ((s.prtS p).infoSec ≠ some (wholeSec s.now)) &&
    decide (s.rf (Reg.PRT_ESMC_CFG p) 4 10 * 1000000 * 65536 ≤ w % (1000000000 * 65536))

/-- The information PDU of a served second (R495). -/
def esmcInfo (p : Nat) (s : State) : State :=
  if s.esmcReady p && s.infoDue p then
    let x := s.prtS p
    sendEsmc p false (s.setPrt p { x with infoSec := some (wholeSec s.now), codes := some (x.codes.getD (s.esmcCodes p)) })
  else s

/-- The event PDU of a change of the transmitted codes (R495). -/
def esmcEvent (p : Nat) (s : State) : State :=
  let x := s.prtS p
  if s.esmcReady p ∧ x.codes.isSome ∧ x.codes ≠ some (s.esmcCodes p) then
    sendEsmc p true (s.setPrt p { x with codes := some (s.esmcCodes p) })
  else s

/-- A write of PRT_ESMC_CFG: with TX_EN=0 no PDU is owed, and once it is 1 a change of the codes is (R495). -/
def wrEsmcCfg (p : Nat) (v : Word) (s : State) : State :=
  let s1 := plainWrite (Reg.PRT_ESMC_CFG p) v s
  if s1.rb (Reg.PRT_ESMC_CFG p) 1 then
    s1.setPrt p { s1.prtS p with codes := some ((s1.prtS p).codes.getD (s1.esmcCodes p)) }
  else s1.setPrt p { s1.prtS p with codes := none, infoSec := none }

/-! ### Wake patterns (R485 to R487) -/

/-- Byte k of the mask of pattern i. -/
def State.wakeMask (s : State) (p i k : Nat) : Byte := bits (s.reg (Reg.PRT_WAKE_MASK p i (k / 4))) (8 * (k % 4)) 8

/-- match(pattern i) (R485). -/
def State.wakeMatch (s : State) (p i : Nat) (f : List Byte) : Bool :=
  let m := (List.range 128).map (s.wakeMask p i)
  m.any (fun b => b != 0) &&
    decide ((crc16 (List.zipWith (· &&& ·) (sliceB f 0 128) m)).toNat = s.rf (Reg.PRT_WAKE_CRC p i) 0 16)

/-- A frame is compared with every enabled pattern; a match shows, and in QUIESCENT raises WAKE and is a wake request
(R485 to R487). -/
def wakeCheck (p : Nat) (f : List Byte) (s : State) : State :=
  let hit := (List.range 8).filter (fun i => s.rb (Reg.PRT_WAKE_CFG p) i && s.wakeMatch p i f)
  let s1 := hit.foldl (fun a i => a.hwSet (Reg.PRT_WAKE_STAT p) i) s
  if hit.isEmpty || !s.quiescent then s1 else wakeRequest p (raiseEvt (Reg.PRT p) 3 s1)

/-! ### The receive MAC (R466 to R471) -/

/-- Octets and the destination's class of a good frame (R484). -/
def countGood (p : Nat) (f : List Byte) (s : State) : State :=
  let d := sliceB f 0 6
  let k := if d = macBroadcast then 4 else if (d.headD 0).getLsbD 0 then 3 else 2
  pmuChip 0x02 p (stat p k 1 (stat p 1 1 (stat p 0 f.length s)))

/-- What follows a good frame in RUN: MAC control, ESMC, wake patterns under test, then classification
(R469, R487, R491, R713). -/
def goodFrame (p : Nat) (f : List Byte) (blk : Nat) (s : State) : State :=
  if beAt f 12 2 = 0x8808 then
    (if beAt f 14 2 = 1 then gotPause p (beAt f 16 2) (stat p 12 1 s) else stat p 13 1 s)
  else if p < 16 ∧ isEsmc f then gotEsmc p f s
  else
    let s1 := if p < 16 ∧ s.rb (Reg.PRT_WAKE_CFG p) 8 then wakeCheck p f s else s
    classify p f blk s1

/-- In QUIESCENT a good frame is counted and compared, and goes no further (R485, R488). -/
def quietFrame (p : Nat) (f : List Byte) (s : State) : State :=
  let s1 := if beAt f 12 2 = 0x8808 then stat p (if beAt f 14 2 = 1 then 12 else 13) 1 s else s
  if p < 16 then wakeCheck p f s1 else s1

/-- A received frame (R466): the first matching row decides. -/
def rxFrame (p : Nat) (x : RxFrame) (s : State) : State :=
  let f := x.data
  let fcs := decide (4 ≤ f.length) && decide (bytesLE 4 (crc32 (f.take (f.length - 4))).toNat = f.drop (f.length - 4))
  let cells := cdiv f.length 256
  let quiet := s.quiescent && decide (p < 16)
  let full := !quiet && decide (s.bufCells p < x.occ.toNat + cells)
  let keep (a : State) : State := if quiet then a else setOcc p (x.occ.toNat + cells) a
  let gone (a : State) : State := if quiet then a else setOcc p x.left.toNat a
  if f.length < 64 then stat p (if fcs then 6 else 7) 1 s
  else if s.maxLen p < f.length then gone (stat p (if fcs then 8 else 9) 1 (keep s))
  else if !fcs || x.err then gone (stat p 5 1 (keep s))
  else if full then gone (raiseEvt (prtPage p) 1 (stat p 10 1 (keep s)))
  else if (x.ecc || s.inject (prtPage p) 0) && !quiet then
    gone (fault (if p = 16 then .mgmt else .prt) (p % 16) 0 (stat p 11 1 (keep s)))
  else if quiet then quietFrame p f (countGood p f s)
  else gone (goodFrame p f x.blk.toNat (countGood p f (keep s)))

/-- The PCS counts the blocks and codewords that came with a frame (R460, R484). -/
def pcsCount (p : Nat) (x : RxFrame) (s : State) : State :=
  if p = 16 then s else stat p 19 x.lpi (stat p 18 x.fecUncorr (stat p 17 x.fecCorr (stat p 16 x.codeErr s)))

/-- A frame reaches the receive path of a port: with the link down it is discarded uncounted (R463). -/
def hear (p : Nat) (x : RxFrame) (s : State) : State :=
  if s.rxAlive p && s.portOn p && (decide (p < 16) || !s.pageStopped .mgmt 0) then
    (let s1 := pcsCount p x s
     if s1.linkUp p then rxFrame p x s1 else s1)
  else s

/-- A frame arrives on a port's line: in loopback modes 1 and 2 the port disregards it, and in mode 3 it also goes back to the partner
(R475). (DEDUCED, log 125.) -/
def receive (p : Nat) (x : RxFrame) (s : State) : State :=
  if s.looped p then s
  else if s.lpbk p = 3 ∧ s.rxAlive p ∧ s.portOn p then hear p x (s.emit (.frame p x.data))
  else hear p x s

/-- A frame of these bytes, its FCS appended, that finds the buffer as it is. -/
def State.plainFrame (s : State) (p : Nat) (f : List Byte) : RxFrame :=
  let occ := if p = 16 then 0 else s.rf (Reg.PRT_LINK p) 16 16
  { data := f, err := false, ecc := false, occ := BitVec.ofNat 13 occ, left := BitVec.ofNat 13 occ, blk := 0 }

/-- The frame in transmission has been sent, and in loopback modes 1 and 2 the port receives it; which receive block carries its
timestamp point is a free value (R475). (DEDUCED, log 125.) -/
def sendDone (p blk : Nat) (s : State) : State :=
  match (s.prtS p).tx with
  | none => s
  | some f =>
    let s1 := txDone p blk s
    if s.looped p then hear p { s1.plainFrame p (withFcs f.data) with blk := BitVec.ofNat 64 s1.freeVal } s1.nextFree else s1

/-! ### Link (R461 to R465) -/

/-- The receive conditions have held for 1 ms without a local fault (R461); CFG_PAR holds LINK_UP at 0 (R504), and while the group's
transmit clock is stopped it stays cleared (R464, R465). (DEDUCED, log 56.) -/
def linkGood (p : Nat) (s : State) : State :=
  if p = 16 then
    let c := s.reg Reg.MGMT_CFG
    let sp := if bit c 0 = false then 2 else if bit c 1 then s.freeVal % 3 else fld c 2 2
    let s1 := if bit c 0 && bit c 1 then s.nextFree else s
    setLink 16 true ((((s1.setRf Reg.MGMT_STAT 2 2 sp).setRb Reg.MGMT_STAT 1 (bit c 1)).setRb Reg.MGMT_STAT 4 false))
  else
    let s1 := (((s.setRf (Reg.PRT_LINK p) 0 3 7).setRb (Reg.PRT_LINK p) 6 false))
    entEval (16 + p) (if s.fltBit (Reg.PRT p) 1 = false ∧ s.rb (Reg.PRT_LINK p) 4 then setLink p true s1 else s1)

/-- The receive conditions of a port change (R461, R462). ALIGN reads 1 but at 100GBASE-R, and FEC_LOCK unless RS-FEC is selected
(R502). On MGMT the last operand says that auto-negotiation resolved to half duplex (R498). (DESIGN CHOICE, log 52; DEDUCED, log 56.) -/
def linkChange (p : Nat) (lock align fec lf : Bool) (s : State) : State :=
  if p = 16 then
    let s1 := s.setRb Reg.MGMT_STAT 4 lf
    if lock && !lf then s1 else setLink 16 false s1
  else
    let al := align || decide (s.gmode (p / 4) ≠ 2)
    let fl := fec || decide (s.rf (Reg.PRT_CFG p) 0 2 ≠ 2)
    let s1 := (((s.setRb (Reg.PRT_LINK p) 0 lock).setRb (Reg.PRT_LINK p) 1 al).setRb (Reg.PRT_LINK p) 2 fl).setRb (Reg.PRT_LINK p) 6 lf
    entEval (16 + p) (if lock && al && fl && !lf then s1 else setLink p false s1)

/-- The group's transmit clock stops (R464). (DEDUCED, log 56.) -/
def clockStop (g : Nat) (s : State) : State :=
  forN 4 (fun i a =>
    let p := 4 * g + i
    if a.portActive p then setLink p false ((cutShort p a).setRb (Reg.PRT_LINK p) 4 false) else a) s

/-- Show TX_CLK of a group's ports. -/
def showTxClk (g : Nat) (s : State) : State :=
  forN 4 (fun i a => a.setRb (Reg.PRT_LINK (4 * g + i)) 4 (a.portActive (4 * g + i) && a.ptxRun g)) s

/-! ### Configuration -/

/-- A write of PRT_GMODE: only while the four pages are disabled (R453, R454). (DEDUCED, log 54.) -/
def wrGmode (g : Nat) (v : Word) (s : State) : State :=
  let a := Reg.PRT_GMODE (4 * g)
  if (List.range 4).any (fun i => s.pgEn (Reg.PRT (4 * g + i))) ∨ fld v 0 2 = 3 then s
  else
    let s1 := showTxClk g (plainWrite a v s)
    forN 4 (fun i b => entEval (16 + 4 * g + i) b) s1

/-- FEC codes of a speed (R458). -/
def fecOk (speed code : Nat) : Bool :=
  code == 0 || (code == 1 && decide (speed ≠ 2)) || (code == 2 && decide (speed ≠ 0))

/-- A write of PRT_CFG: a FEC code of another speed leaves the field (R458); a loopback fails the port's SE entry (R490). -/
def wrPrtCfg (p : Nat) (v : Word) (s : State) : State :=
  let a := Reg.PRT_CFG p
  entEval (16 + p) (plainWrite a (if fecOk (s.speed p) (fld v 0 2) then v else setFld v 0 2 (s.rf a 0 2)) s)

/-- A write of PRT_FC_WM (R481). -/
def wrFcWm (p : Nat) (v : Word) (s : State) : State :=
  if fld v 0 13 ≤ fld v 16 13 ∨ s.bufCells p < fld v 0 13 then s
  else pauseEval p (plainWrite (Reg.PRT_FC_WM p) v s)

/-- A write of PRT_MODE: the receive path changes at the next frame boundary, the transmit path when the frame in transmission ends
(R473). -/
def wrPrtMode (p : Nat) (v : Word) (s : State) : State :=
  let s1 := plainWrite (Reg.PRT_MODE p) v s
  pathFree p (s1.setPrt p { s1.prtS p with rxMode := s1.rf (Reg.PRT_MODE p) 0 2 })

/-- The mode in force changes (R473, R474, R480). -/
def modeChange (p : Nat) (s : State) : State :=
  let x := s.prtS p
  let new := s.rf (Reg.PRT_MODE p) 0 2
  let old := s.modeAct p
  if x.rxMode ≠ new ∨ x.txMode ≠ new ∨ old = new then s
  else if new = 0 then
    let s1 := if s.rb (Reg.PRT_LINK p) 8 ∧ s.canSend p then
        let s2 := startTx p { kind := .pause 0, data := pauseFrame (s.prtMac p) 0, ts := none, free := none } s
        let s3 := sendDone p 0 s2
        s3.setPrt p { s3.prtS p with lastPause := some 0 }
      else s
    let s4 := s1.setPrt p { s1.prtS p with pauseReq := none, pauseTo := none }
    entEval (16 + p) (((s4.setRb (Reg.PRT_LINK p) 7 false).setRb (Reg.PRT_LINK p) 8 false).setRf (Reg.PRT_LINK p) 12 2 0)
  else
    let s1 := entEval (16 + p) (s.setRf (Reg.PRT_LINK p) 12 2 new)
    if old = 0 then pauseEval p (missWhere (p / 4) .mode (fun y => decide (y.port = p)) s1) else s1

/-- The port may start its requested PAUSE frame (R477, R482). -/
def pauseTx (p : Nat) (s : State) : State :=
  match (s.prtS p).pauseReq with
  | none => s
  | some refresh =>
    let v := s.pauseValue p
    if !s.canSend p || !s.fitsGap p 64 then s
    else if (s.prtS p).lastPause = some v ∧ refresh = false then s.setPrt p { s.prtS p with pauseReq := none }
    else
      let s1 := startTx p { kind := .pause v, data := pauseFrame (s.prtMac p) v, ts := none, free := none } s
      s1.setPrt p { s1.prtS p with pauseReq := none, lastPause := some v, pauseAt := s1.bt }

/-- A refresh is due QUANTA / 2 quanta after the previous PAUSE frame while the state is set (R476). -/
def pauseRefresh (p : Nat) (s : State) : State :=
  let due := (s.prtS p).pauseAt + s.quanta p (s.rf (Reg.PRT_FC_CFG p) 0 16 / 2)
  if s.rb (Reg.PRT_LINK p) 8 ∧ atOrAfter s.bt due then requestPause p true s else s

/-- The partner pause timer reaches zero (R479). -/
def pauseExpire (p : Nat) (s : State) : State :=
  match (s.prtS p).pauseTo with
  | none => s
  | some b =>
    if earlier s.bt b then s
    else (s.setPrt p { s.prtS p with pauseTo := none }).setRb (Reg.PRT_LINK p) 7 false

/-! ### The commands -/

/-- A command that acts on a port's receive side. -/
def cmdRx (p : Nat) (f : State → State) (s : State) : Host.Outcome State Fault Refusal :=
  cmdA (fun a => if a.rxAlive p && a.portOn p then f a else a) s

/-- A command by which a port acts on its transmit side. -/
def cmdTx (p : Nat) (f : State → State) (s : State) : Host.Outcome State Fault Refusal :=
  cmdT (prtPage p) (fun a => if a.portOn p then f a else a) s

/-- GROUP_MODE_WRITE (R454). -/
def execGroupModeWrite (m : Master) (g : Fin 4) (v : Word) (s : State) : Host.Outcome State Fault Refusal :=
  cmdW m (Reg.PRT_GMODE (4 * g.val)) v (wrGmode g.val) s

/-- LINK_UP (R461). -/
def execLinkUp (p : Fin 17) (s : State) : Host.Outcome State Fault Refusal := cmdRx p.val (linkGood p.val) s

/-- LINK_DOWN (R461). -/
def execLinkDown (p : Fin 17) (lock align fec lf : Bool) (s : State) : Host.Outcome State Fault Refusal :=
  cmdRx p.val (linkChange p.val lock align fec lf) s

/-- FRAME_RECEIVE (R466). -/
def execFrameReceive (p : Fin 17) (f : RxFrame) (s : State) : Host.Outcome State Fault Refusal := cmdA (receive p.val f) s

/-- PAUSE_RECEIVE (R479): a PAUSE frame of Annex 31B arrives. -/
def execPauseReceive (p : Fin 17) (time : BitVec 16) (s : State) : Host.Outcome State Fault Refusal :=
  cmdA (receive p.val (s.plainFrame p.val (withFcs (pauseFrame (List.replicate 6 0) time.toNat)))) s

/-- PARTNER_PAUSE_EXPIRE (R479). -/
def execPartnerPauseExpire (p : Fin 16) (s : State) : Host.Outcome State Fault Refusal := cmdTx p.val (pauseExpire p.val) s

/-- PAUSE_REFRESH (R476). -/
def execPauseRefresh (p : Fin 16) (s : State) : Host.Outcome State Fault Refusal := cmdTx p.val (pauseRefresh p.val) s

/-- PAUSE_TRANSMIT (R477). -/
def execPauseTransmit (p : Fin 16) (s : State) : Host.Outcome State Fault Refusal := cmdTx p.val (pauseTx p.val) s

/-- MODE_WRITE (R473). -/
def execModeWrite (m : Master) (p : Fin 16) (v : Word) (s : State) : Host.Outcome State Fault Refusal :=
  cmdW m (Reg.PRT_MODE p.val) v (wrPrtMode p.val) s

/-- MODE_ACT_CHANGE (R480). -/
def execModeActChange (p : Fin 16) (s : State) : Host.Outcome State Fault Refusal :=
  cmdT (Reg.PRT p.val) (modeChange p.val) s

/-- TX_CLOCK_STOP (R464): the synthesiser named in OUT_PTXSEL no longer clocks the group (R288). -/
def execTxClockStop (g : Fin 4) (s : State) : Host.Outcome State Fault Refusal :=
  cmdA (fun a => if a.ptxRun g.val then a else clockStop g.val a) s

/-- TX_CLOCK_START (R465). -/
def execTxClockStart (g : Fin 4) (s : State) : Host.Outcome State Fault Refusal :=
  cmdA (fun a => if a.ptxRun g.val then showTxClk g.val a else a) s

/-- FRAME_TRANSMIT (R483): the frame in transmission ends. -/
def execFrameTransmit (p : Fin 17) (blk : DWord) (s : State) : Host.Outcome State Fault Refusal :=
  cmdTx p.val (sendDone p.val blk.toNat) s

/-- ESMC_RECEIVE (R493): a PDU arrives, from its destination through its FCS. -/
def execEsmcReceive (p : Fin 16) (data : List Byte) (s : State) : Host.Outcome State Fault Refusal :=
  cmdA (receive p.val (s.plainFrame p.val data)) s

/-- ESMC_INFO_TRANSMIT (R495). -/
def execEsmcInfoTransmit (p : Fin 16) (s : State) : Host.Outcome State Fault Refusal := cmdTx p.val (esmcInfo p.val) s

/-- ESMC_EVENT_TRANSMIT (R495). -/
def execEsmcEventTransmit (p : Fin 16) (s : State) : Host.Outcome State Fault Refusal := cmdTx p.val (esmcEvent p.val) s

/-- REMOTE_FAULT (R462): the port transmits idle while the remote fault lasts, and so starts no frame. -/
def execRemoteFault (p : Fin 17) (on : Bool) (s : State) : Host.Outcome State Fault Refusal :=
  cmdRx p.val (fun a => if p.val = 16 then a else a.setRb (Reg.PRT_LINK p.val) 5 on) s

end Sys2Proof.Machine
end

