-- ==== Sys2Proof/Machine/Bdr.lean ====
section
/-! DEFINITION. The commits of the BDR page, its conversions and captures (R73 to R101). What a change does at its anchor beyond
the time parameters stands in Machine/Anchor.lean. -/
namespace Sys2Proof.Machine

/-- A change of one commit. -/
def ChangeParts.of : CommitPart → ChangeParts
  | .rate v => { rate := some v }
  | .step v => { step := some v }
  | .abort => { abort := true }
  | .slew v => { slew := some v }

/-- Merge a commit into a change: the later value of a register wins (R78). (DEDUCED, log 24.) -/
def ChangeParts.merge (c : ChangeParts) : CommitPart → ChangeParts
  | .rate v => { c with rate := some v }
  | .step v => { c with step := some v }
  | .abort => { c with abort := true }
  | .slew v => { c with slew := some v }

/-- Place a change at an anchor: it is pending, and BDR_ANCH shows the anchor of a RATE (R73, R74, R95). -/
def bdrPlace (a : BT80) (c : ChangeParts) (s : State) : State :=
  let s1 := { s with bdr := { s.bdr with pend := some (a, c), pendCyc := s.bt, pendCom := s.bt } }
  if c.rate.isSome then s1.setRegN Reg.BDR_ANCH a.toNat 3 else s1

/-- The committed value of a register: RATE reads it, and a word of it that a writer leaves unstaged keeps it (R23, R95). -/
def CommitPart.store : CommitPart → State → State
  | .rate v, s => s.setRegN Reg.BDR_RATE v.toNat 2
  | .step v, s => s.setRegN Reg.BDR_STEP v.toNat 3
  | .abort, s => s
  | .slew v, s => s.setRegN Reg.BDR_SLEW_AMT v.toNat 2

/-- A commit takes its place: a new change, part of a change committed in this same cycle (R79), or part of the queued
change (R77, R78). (DEDUCED, log 24.) -/
def bdrCommitNow (p : CommitPart) (s0 : State) : State :=
  let s := p.store s0
  match s.bdr.pend with
  | none => bdrPlace s.anchorNow (ChangeParts.of p) s
  | some (a, c) =>
    if s.bdr.pendCyc = s.bt ∧ s.bdr.queued = none then
      let s1 := { s with bdr := { s.bdr with pend := some (a, c.merge p) } }
      match p with
      | .rate _ => s1.setRegN Reg.BDR_ANCH a.toNat 3
      | _ => s1
    else
      let q := match s.bdr.queued with
        | none => ChangeParts.of p
        | some q => q.merge p
      { s with bdr := { s.bdr with queued := some q, queCom := s.bt } }

/-- The number of the register that a commit sets. -/
def CommitPart.index : CommitPart → Nat
  | .rate _ => 0
  | .step _ => 1
  | .abort => 2
  | .slew _ => 3

/-- A commit is taken, unless one of the same register from a writer later in the order of R79 has come in this cycle. -/
def bdrCommitBy (m : Master) (p : CommitPart) (s : State) : State :=
  if bdrRank m + 1 < AMap.get 0 s.thisCyc.rank p.index then s
  else bdrCommitNow p { s with thisCyc := { s.thisCyc with rank := AMap.set 0 s.thisCyc.rank p.index (bdrRank m + 1) } }

/-- Hold a commit behind those of earlier cycles, and behind those of its own cycle whose writer does not come after its own
(R79, R82). -/
def holdCommit (h : HeldCommit) : List HeldCommit → List HeldCommit
  | [] => [h]
  | g :: t => if g.at_ = h.at_ ∧ h.rank < g.rank then h :: g :: t else g :: holdCommit h t

/-- A commit reaches the page: discarded while EN is 0 (R83), held while FREEZE is 1 (R82), else taken: also where commits held
earlier still wait for their cycle. (DESIGN CHOICE, log 103.) -/
def bdrCommit (m : Master) (p : CommitPart) (s : State) : State :=
  if ¬ s.pgEn Reg.BDR then s
  else if s.pgFrz Reg.BDR then
    { s with bdr := { s.bdr with held := holdCommit { part := p, at_ := s.bt, rank := bdrRank m } s.bdr.held } }
  else bdrCommitBy m p s

/-- Commit the oldest held commit, one per cycle from the cycle in which FREEZE returns to 0 (R82). -/
def bdrReleaseOne (s : State) : State :=
  match s.bdr.held with
  | [] => s
  | h :: t =>
    if s.pgFrz Reg.BDR then s
    else bdrCommitNow h.part { s with bdr := { s.bdr with held := t } }

/-- A write of BDR_RATE_HI (R73, R81, R83, R96). -/
def wrRateHi (m : Master) (v : Word) (s : State) : State :=
  let w := s.commitWords m Reg.BDR_RATE 2 (v &&& 0xFFF#32)
  bdrCommit m (.rate (BitVec.ofNat 44 w)) (s.dropStaged m Reg.BDR_RATE 2)

/-- A write of BDR_STEP_HI (R73, R81, R83). -/
def wrStepHi (m : Master) (v : Word) (s : State) : State :=
  let w := s.commitWords m Reg.BDR_STEP 3 v
  bdrCommit m (.step (BitVec.ofNat 96 w)) (s.dropStaged m Reg.BDR_STEP 3)

/-- A write of BDR_SLEW_AMT_HI (R81, R83, R86). -/
def wrSlewHi (m : Master) (v : Word) (s : State) : State :=
  let w := s.commitWords m Reg.BDR_SLEW_AMT 2 v
  bdrCommit m (.slew (BitVec.ofNat 64 w)) (s.dropStaged m Reg.BDR_SLEW_AMT 2)

/-- A slew is active or a slew commit is outstanding (R89). -/
def State.slewOutstanding (s : State) : Bool :=
  s.bdr.par.slewAct ||
  (match s.bdr.pend with | some (_, c) => c.slew.isSome | none => false) ||
  (match s.bdr.queued with | some c => c.slew.isSome | none => false) ||
  s.bdr.held.any (fun h => match h.part with | .slew _ => true | _ => false)

/-- A write of 1 to BDR_CMD.SLEW_ABORT (R83, R89). -/
def slewAbort (m : Master) (s : State) : State := if s.slewOutstanding then bdrCommit m .abort s else s

/-- A write of 1 to BDR_CMD.CAPTURE: Bedrock and its served time in one cycle (R98). -/
def bdrCapture (s : State) : State :=
  (s.setRegN Reg.BDR_CAPBT s.bt.toNat 3).setRegN Reg.BDR_CAPWT s.now.toNat 3

/-- A write of BDR_CMD (R98). -/
def wrBdrCmd (m : Master) (v : Word) (s : State) : State :=
  let s1 := if bit v 1 then bdrCapture s else s
  if bit v 0 then slewAbort m s1 else s1

/-- A write of BDR_CVT_IN_HI: the conversions of the committed WT96 (R97, R621). (DESIGN CHOICE, log 22.) -/
def wrCvtHi (m : Master) (v : Word) (s : State) : State :=
  let w : WT96 := BitVec.ofNat 96 (s.commitWords m Reg.BDR_CVT_IN 3 v)
  let s1 := (s.setRegN Reg.BDR_CVT_IN w.toNat 3).dropStaged m Reg.BDR_CVT_IN 3
  let s2 := s1.setRegN Reg.BDR_CVT_PT (toPt80 w).toNat 3
  let s3 := s2.setReg Reg.BDR_CVT_RES (BitVec.ofInt 32 (residual w))
  let s4 := s3.setRegN Reg.BDR_CVT_NT (s.nt64Of w).toNat 2
  { s4 with bdr := { s4.bdr with cvtReady := s.bt + cyc 40 } }

/-- A write of BDR_UTC_OFS; the entries that carry time by it are judged in the same cycle (R93, R94, R100, R182, R199, R621).
(DEDUCED, log 26.) -/
def wrUtcOfs (v : Word) (s : State) : State :=
  let old := s.reg Reg.BDR_UTC_OFS
  let w0 := v &&& 0x7FFFF#32
  let w := if fld w0 16 2 = 3 then setFld w0 16 2 (fld old 16 2) else w0
  if w = old then s
  else
    let s1 := s.setReg Reg.BDR_UTC_OFS w
    let s2 := if fld w 0 16 = fld old 0 16 then s1
      else { s1 with bdr := { s1.bdr with prevTai := some (s.now, bits old 0 16) } }
    entEvalAll (raiseEvt Reg.BDR 3 s2)

/-- Retain a parameter set with its anchor: the eight most recent changes are kept (R620). -/
def retain (a : BT80) (p : TimeParams) (h : List (BT80 × TimeParams)) : List (BT80 × TimeParams) :=
  ((a, p) :: h).take 8

/-- The wrap of Bedrock: served time runs on, by the parameters in force and by those retained (R68). -/
def bedrockWrap (s : State) : State :=
  if s.bt.toNat / 65536 + 1 = 2 ^ 64 ∧ s.btRun then
    let t := endCycle s
    let up (p : TimeParams) : TimeParams := { p with ofs := p.ofs + BitVec.ofNat 96 (2 ^ 80) }
    storeWrite .bdr 0 { t.atCycle 0 with bdr := { t.bdr with par := up t.bdr.par, hist := t.bdr.hist.map (fun e => (e.1, up e.2)) } }
  else s

/-! ### Commands -/

/-- RATE_COMMIT (R73). -/
def execRateCommit (m : Master) (v : Word) (s : State) : Host.Outcome State Fault Refusal :=
  cmdW m (Reg.BDR_RATE + 4) v (wrRateHi m) s

/-- STEP_COMMIT (R73). -/
def execStepCommit (m : Master) (v : Word) (s : State) : Host.Outcome State Fault Refusal :=
  cmdW m (Reg.BDR_STEP + 8) v (wrStepHi m) s

/-- SLEW_COMMIT (R86). -/
def execSlewCommit (m : Master) (v : Word) (s : State) : Host.Outcome State Fault Refusal :=
  cmdW m (Reg.BDR_SLEW_AMT + 4) v (wrSlewHi m) s

/-- SLEW_ABORT (R89): a write of BDR_CMD. -/
def execSlewAbort (m : Master) (v : Word) (s : State) : Host.Outcome State Fault Refusal :=
  cmdW m Reg.BDR_CMD v (wrBdrCmd m) s

/-- BDR_CAPTURE (R98): a write of BDR_CMD. -/
def execBdrCapture (m : Master) (v : Word) (s : State) : Host.Outcome State Fault Refusal :=
  cmdW m Reg.BDR_CMD v (wrBdrCmd m) s

/-- BDR_CONVERT (R97). -/
def execBdrConvert (m : Master) (v : Word) (s : State) : Host.Outcome State Fault Refusal :=
  cmdW m (Reg.BDR_CVT_IN + 8) v (wrCvtHi m) s

/-- UTC_OFS_WRITE (R93). -/
def execUtcOfsWrite (m : Master) (v : Word) (s : State) : Host.Outcome State Fault Refusal :=
  cmdW m Reg.BDR_UTC_OFS v (wrUtcOfs) s

/-- BEDROCK_WRAP (R68): Bedrock runs in reset too (R44). -/
def execBedrockWrap (s : State) : Host.Outcome State Fault Refusal := .next (bedrockWrap s)

end Sys2Proof.Machine
end

