-- ==== Sys2Proof/Machine/Anchor.lean ====
section
/-! DEFINITION. What a BDR change does at its anchor, and the end of a slew (R71, R72, R77, R85, R134). -/
namespace Sys2Proof.Machine

/-- The active slew has run its duration: its amount moves into OFS and SLEW_END is raised (R72). -/
def slewFinish (s : State) : State :=
  if s.bdr.par.slewDone s.bt then storeWrite .bdr 0 (raiseEvt Reg.BDR 1 { s with bdr := { s.bdr with par := s.bdr.par.endSlew } }) else s

/-- A step takes effect: the outputs keep their place, the loops and the time status follow (R141, R255, R303, R366, R798). -/
def stepEffect (v : WT96) (s : State) : State :=
  let s1 := gnsStep (asyStep (dplStep (ppsStep v s)))
  { s1 with mate := { s1.mate with stepped := true } }

/-- The queued change is placed in the cycle in which the pending one takes effect (R77). -/
def placeQueued (s : State) : State :=
  match s.bdr.queued with
  | none => s
  | some c =>
    let s1 := bdrPlace s.anchorNow c { s with bdr := { s.bdr with queued := none } }
    { s1 with bdr := { s1.bdr with pendCyc := s.bt - cyc 1, pendCom := s.bdr.queCom } }

/-- The pending change takes effect at its anchor (R71, R80, R85, R100). -/
def changeAnchor (s0 : State) : State :=
  match s0.bdr.pend with
  | none => s0
  | some (a, c) =>
    if earlier s0.bt a then s0
    else
      let s := if s0.bdr.par.slewDone a then
          raiseEvt Reg.BDR 1 { s0 with bdr := { s0.bdr with par := s0.bdr.par.endSlew } }
        else s0
      let dur := s.reg Reg.BDR_SLEW_DUR
      let p := s.bdr.par
      let q := p.apply a c dur
      let changed := decide (q ≠ p)
      let hist := if changed then retain a q s.bdr.hist else s.bdr.hist
      let s1 := { s with bdr := { s.bdr with par := q, pend := none, hist := hist, parCom := if changed then s.bdr.pendCom else s.bdr.parCom } }
      let s2 := match p.discards a c dur with
        | some d => s1.setRegN Reg.BDR_SLEW_DISC d.toNat 2
        | none => s1
      let s3 := match c.step with
        | some v => stepEffect v s2
        | none => s2
      let s4 := match c.slew with
        | some amt => if slewOk amt dur then s3 else raiseEvt Reg.BDR 2 s3
        | none => s3
      let s5 := if changed then raiseEvt Reg.BDR 0 s4 else s4
      placeQueued (if q = s0.bdr.par then s5 else storeWrite .bdr 0 s5)

/-- CHANGE_ANCHOR (R71). -/
def execChangeAnchor (s : State) : Host.Outcome State Fault Refusal := cmdE Reg.BDR changeAnchor s

/-- SLEW_END (R72). -/
def execSlewEnd (s : State) : Host.Outcome State Fault Refusal := cmdE Reg.BDR slewFinish s

/-- BDR_PARAM_FAULT (R101, R141). -/
def execBdrParamFault (s : State) : Host.Outcome State Fault Refusal := cmdE Reg.BDR (fault .bdr 0 0) s

end Sys2Proof.Machine
end

