-- ==== Sys2Proof/Machine/Asy.lean ====
section
/-! DEFINITION. Assay: staged values and commits, changes at their anchors, the transitions that time brings, temperature, and
the staging, signing and delivery of records (chapter 3). -/
namespace Sys2Proof.Machine

/-! ### Commits (R131 to R133, R969) -/

/-- Merge a later commit into a change (R78, R132). -/
def AsyParts.merge (c d : AsyParts) : AsyParts :=
  { commit := match d.commit with | some v => some v | none => c.commit,
    update := c.update || d.update, ts := if d.ts = 0 then c.ts else d.ts }

/-- A commit takes its place: a new change, or part of the queued one (R131, R132). (DEDUCED, log 24, 32.) -/
def asyCommitNow (p : AsyParts) (s : State) : State :=
  match s.asy.pend with
  | none => { s with asy := { s.asy with pend := some (s.anchorNow, p) }, thisCyc := { s.thisCyc with asyNew := true } }
  | some _ =>
    let q := match s.asy.queued with
      | none => p
      | some q => q.merge p
    { s with asy := { s.asy with queued := some q } }

/-- The parts a write of ASY_CMD commits: the values staged when it is written, held by FREEZE or not (R171). (DESIGN CHOICE, log 113.) -/
def asyPartsOf (s : State) (v : Word) : AsyParts :=
  { commit := if bit v 0 then some s.asy.staged else none, update := bit v 1, ts := fld v 4 3 }

/-- A write of ASY_CMD: discarded while EN is 0, held while FREEZE is 1 (R969). -/
def wrAsyCmd (v : Word) (s : State) : State :=
  let p := asyPartsOf s v
  if ¬ s.pgEn Reg.ASY ∨ (p.commit.isNone ∧ p.update = false ∧ p.ts = 0) then s
  else if s.pgFrz Reg.ASY then { s with asy := { s.asy with held := s.asy.held ++ [p] } }
  else asyCommitNow p s

/-- Commit the oldest held commit, one per cycle once FREEZE is 0 (R82, R969). -/
def asyReleaseOne (s : State) : State :=
  match s.asy.held with
  | [] => s
  | p :: t => if s.pgFrz Reg.ASY then s else asyCommitNow p { s with asy := { s.asy with held := t } }

/-- The offsets of the staged registers: ASY_K, the components, the coefficients and the port table (R131, R169). -/
def asyStagedOff (off : Nat) : Bool :=
  off == 0x044 || (decide (0x050 ≤ off) && decide (off ≤ 0x074)) || (decide (0x080 ≤ off) && decide (off ≤ 0x08C)) ||
    (decide (0x180 ≤ off) && decide (off ≤ 0x1FC))

/-- A write of a staged register (R131). -/
def wrAsyStaged (off : Nat) (v : Word) (s : State) : State :=
  let w := if off = 0x044 then v &&& 0xFFFF#32 else v
  { s with asy := { s.asy with staged := AMap.setD asyDefault s.asy.staged off w } }

/-! ### At the anchor (R141 to R148) -/

/-- The queued change is placed in the cycle in which the pending one takes effect (R77, R132). -/
def asyPlaceQueued (s : State) : State :=
  match s.asy.queued with
  | none => s
  | some p => { s with asy := { s.asy with queued := none, pend := some (s.anchorNow, p) } }

/-- The BDR change that has the anchor of the pending ASY change takes effect before it (R134). -/
def bdrFirst (s : State) : State :=
  match s.asy.pend, s.bdr.pend with
  | some (a, _), some (b, _) => if a = b ∧ s.pageLive Reg.BDR then changeAnchor s else s
  | _, _ => s

/-- The pending ASY change takes effect: COMMIT, then UPDATE, then the TS code (R147, R148). (DEDUCED, log 32.) -/
def asyAnchor (s0 : State) : State :=
  match s0.asy.pend with
  | none => s0
  | some (a, p) =>
    if earlier s0.bt a then s0
    else
      let s := asyNote (bdrFirst s0)
      let s1 := { s with asy := { s.asy with pend := none }, thisCyc := { s.thisCyc with asyNew := false, asyCmd := some (a, p, s.asy.cur) } }
      let s2 := match p.commit with
        | some v => { s1 with asy := { s1.asy with cur := { s1.asy.cur with vals := v } } }
        | none => s1
      let r := asyParts a p s.asy.cur s2
      let s3 := if r.2 then raiseEvt Reg.ASY 2 r.1 else r.1
      asyPlaceQueued (if p.commit.isSome || decide (s3.asy.cur ≠ s.asy.cur) then storeWrite .asy 0 s3 else s3)

/-! ### Transitions that time brings (R141) -/

/-- TRACEABLE without an UPDATE for more than ASY_UPD_TO goes to HOLDOVER. -/
def updateTimeout (s : State) : State :=
  match s.tsFrom, s.asy.cur.lu with
  | .traceable, some lu =>
    if s.elapsedMore lu (s.rf Reg.ASY_UPD_TO 0 16 * 1000000) then asyHwMove .holdover s else s
  | _, _ => s

/-- E above ASY_HO_LIM in TRACEABLE or HOLDOVER (R141, R970). -/
def limitExceeded (s : State) : State :=
  if s.tsFrom.inService ∧ s.asy.ts.inService ∧ (s.reg Reg.ASY_HO_LIM).toNat < s.eNow.e then asyFall s else s

/-- HOLDOVER for more than ASY_HO_MAX seconds. -/
def holdoverExpire (s : State) : State :=
  match s.tsFrom, s.asy.cur.lu with
  | .holdover, some lu =>
    if (s.reg Reg.ASY_HO_MAX).toNat * 1000000000 < holdDt lu s.bt then asyFall s else s
  | _, _ => s

/-! ### Temperature (R138 to R140) -/

/-- A sample of the selected source (R138, R139): the firmware register always gives one. -/
def tempSample (x : Option (BitVec 16)) (s : State) : State :=
  let t := if s.rf Reg.ASY_HO_TSRC 0 2 = 0 then some (bits (s.reg Reg.ASY_TEMP_FW) 0 16) else x
  match t with
  | none => s
  | some t =>
    let d := (t.toInt - s.asy.cur.tlu.toInt).natAbs
    let raise := s.asy.cur.lu.isSome && !s.asy.dtHeld && decide (s.asy.dtmax.toNat < d)
    let dtm : BitVec 16 := if raise then BitVec.ofNat 16 d else s.asy.dtmax
    let s1 := { s with asy := { s.asy with lastTemp := s.bt, dtmax := dtm } }
    histTemp t.toInt (s1.setReg Reg.ASY_TEMP (t.setWidth 32))

/-- No sample for 1 s (R140). -/
def tempLost (s : State) : State :=
  if s.elapsed s.asy.lastTemp 1000000000 ∧ s.asy.dtHeld = false then
    let s1 := { s with asy := { s.asy with dtmax := 0x7FFF, dtHeld := true } }
    fault .asy 0 3 (forN 8 (fun l a => a.setDpl l { a.dplS l with hLost := true }) s1)
  else s

/-! ### The E snapshot (R971) -/

/-- The seven words of ASY_E, ASY_EDET, ASY_ESTO and ASY_HOLD with their offsets at the present cycle (R169, R971): HOLD as it contributes
in the status, and a sum that 48 bits do not hold as the implementation shows it. (DESIGN CHOICE, log 111.) -/
def State.eWords (s : State) : List (Nat × Word) :=
  let x := s.eNow
  let w (n i : Nat) : Word := BitVec.ofNat 32 (n / 2 ^ (32 * i))
  let d := if x.dsum < 2 ^ 48 then x.dsum else (Config.wideSum x.dsum).toNat
  [(0x0B8, w x.e 0), (0x0BC, w x.e 1), (0x0C0, w d 0), (0x0C4, w d 1), (0x0C8, BitVec.ofNat 32 (satU 32 x.r)),
   (0x0CC, w x.hold 0), (0x0D0, w x.hold 1)]

/-- A read of ASY_E_LO: the other words go into the reader's shadow (R971). -/
def rdAsyE (m : Master) (s : State) : Word × State :=
  let ws := s.eWords
  ((ws.headD (0, 0)).2, (ws.drop 1).foldl (fun a p => a.setShadow m (Reg.ASY + p.1) p.2) s)

/-! ### Records (R158 to R167) -/

/-- A periodic instant: served time has reached a whole second later than every one recorded (R158). -/
def recordPeriodic (s : State) : State :=
  let sec := wholeSec s.now
  let due := match s.asy.lastSec with | some n => decide (n < sec) | none => true
  if ¬ s.rb Reg.ASY_REC_CTRL 0 ∨ due = false then s
  else
    let typ := if s.asy.startPend then 4 else 0
    takeRecord typ { s with asy := { s.asy with lastSec := some sec, startPend := false } }

/-- A write of ASY_REC_CTRL: EN going to 1 starts snapshots with a START record at the next whole second; EN at 0 discards every
staged entry (R158, R165). -/
def wrRecCtrl (v : Word) (s : State) : State :=
  let was := s.rb Reg.ASY_REC_CTRL 0
  let s1 := plainWrite Reg.ASY_REC_CTRL v s
  let on := s1.rb Reg.ASY_REC_CTRL 0
  if on && !was then
    { s1 with asy := { s1.asy with startPend := true, lastSec := some (max (s1.asy.lastSec.getD 0) (wholeSec s1.now)) } }
  else if !on then s1.setStage (List.replicate 16 none)
  else s1

/-- A write of ASY_REC_SEQ_HI: ignored while EN is 1 (R169). -/
def wrRecSeq (m : Master) (v : Word) (s : State) : State :=
  let s1 := s.dropStaged m Reg.ASY_REC_SEQ 2
  if s.rb Reg.ASY_REC_CTRL 0 then s1 else s1.setRegN Reg.ASY_REC_SEQ (s.commitWords m Reg.ASY_REC_SEQ 2 v) 2

/-- Copy a signed record into the DRAM ring; an address that does not answer raises RING_DMA (R163, R166, R176). (DEDUCED, log 33.) -/
def ringCopy (body : List Byte) (s : State) : State :=
  let n := 2 ^ s.rf Reg.ASY_RING_SIZE 0 5
  let i := (s.reg Reg.ASY_RING_WR).toNat % n
  let a := s.regN Reg.ASY_RING_BASE 2 / 4096 * 4096 + 256 * i
  if s.sharedOk a 256 = false then fault .asy 0 2 s
  else
    let s1 := (s.sharedWr a body).count Reg.ASY_CNT_REC
    let s2 := if s.asy.ringFull then s1.count Reg.ASY_CNT_OVW else s1
    let s3 := s2.setReg Reg.ASY_RING_WR (BitVec.ofNat 32 ((i + 1) % n))
    let s4 := { s3 with asy := { s3.asy with ringFull := s3.asy.ringFull || decide (i + 1 = n) } }
    if s4.mrole = .active then mateMirror 1 body s4 else s4

/-- The host copy of a signed record (R163, R167). (DEDUCED, log 33.) -/
def hostCopy (body : List Byte) (s : State) : State :=
  if ¬ s.rb Reg.ASY_REC_CTRL 1 then s
  else
    let n := 2 ^ s.rf Reg.ASY_HRING_SIZE 0 5
    let i := (s.reg Reg.ASY_HRING_WR).toNat % n
    if (i + 1) % n = s.rf Reg.ASY_HRING_RD 0 16 % n then raiseEvt Reg.ASY 5 (s.count Reg.ASY_CNT_HDROP)
    else if ¬ s.pci.linkUp then fault .asy 0 2 s
    else
      let a := s.regN Reg.ASY_HRING_BASE 2 / 4096 * 4096 + 256 * i
      (s.emit (.hostWrite a body)).setReg Reg.ASY_HRING_WR (BitVec.ofNat 32 ((i + 1) % n))

/-- Index of the oldest staged entry. -/
def Asy.oldest (a : Asy) : Option Nat :=
  ((List.range 16).map (fun i => (a.stgNext + i) % 16)).find? (fun i => (a.stage.getD i none).isSome)

/-- Copy signed entries out in sequence order, freeing each (R163). -/
def drainSigned : Nat → State → State
  | 0, s => s
  | k + 1, s =>
    match s.asy.oldest with
    | none => s
    | some i =>
      match s.asy.stage.getD i none with
      | none => s
      | some e =>
        if ¬ e.signed then s
        else
          let body := s.sramRd (s.rf Reg.ASY_STG_BASE 12 13 * 4096 + 256 * i) 256
          let s1 := hostCopy body (ringCopy body s)
          drainSigned k (raiseEvt Reg.ASY 3 (s1.setStage (setNth s1.asy.stage i none)))

/-- A write of ASY_STG_DONE (R163). -/
def wrStgDone (v : Word) (s : State) : State :=
  let i := fld v 0 4
  match s.asy.stage.getD i none with
  | none => s
  | some e => drainSigned 16 (s.setStage (setNth s.asy.stage i (some { e with signed := true })))

/-- An entry has stayed unsigned for 10 ms (R165). -/
def recordStall (s : State) : State :=
  if s.asy.stage.any (fun e => match e with
      | some e => !e.signed && s.elapsed e.since 10000000
      | none => false) then fault .asy 0 1 s
  else s

/-! ### Commands -/

/-- ASY_COMMIT (R131): a write of ASY_CMD. -/
def execAsyCommit (m : Master) (v : Word) (s : State) : Host.Outcome State Fault Refusal := cmdW m Reg.ASY_CMD v (wrAsyCmd) s
/-- UPDATE (R142): a write of ASY_CMD. -/
def execAsyUpdate (m : Master) (v : Word) (s : State) : Host.Outcome State Fault Refusal := cmdW m Reg.ASY_CMD v (wrAsyCmd) s
/-- SET_COARSE (R141): a write of ASY_CMD. -/
def execSetCoarse (m : Master) (v : Word) (s : State) : Host.Outcome State Fault Refusal := cmdW m Reg.ASY_CMD v (wrAsyCmd) s
/-- DECLARE_TRACEABLE (R141): a write of ASY_CMD. -/
def execDeclareTraceable (m : Master) (v : Word) (s : State) : Host.Outcome State Fault Refusal :=
  cmdW m Reg.ASY_CMD v (wrAsyCmd) s
/-- DECLARE_UNTRACEABLE (R141): a write of ASY_CMD. -/
def execDeclareUntraceable (m : Master) (v : Word) (s : State) : Host.Outcome State Fault Refusal :=
  cmdW m Reg.ASY_CMD v (wrAsyCmd) s

/-- ASY_CHANGE_ANCHOR (R147). -/
def execAsyChangeAnchor (s : State) : Host.Outcome State Fault Refusal := cmdE Reg.ASY asyAnchor s
/-- UPDATE_TIMEOUT (R141). -/
def execUpdateTimeout (s : State) : Host.Outcome State Fault Refusal := cmdE Reg.ASY updateTimeout s
/-- HOLDOVER_LIMIT_EXCEEDED (R141). -/
def execHoldoverLimitExceeded (s : State) : Host.Outcome State Fault Refusal := cmdE Reg.ASY limitExceeded s
/-- HOLDOVER_MAX_EXPIRE (R141). -/
def execHoldoverMaxExpire (s : State) : Host.Outcome State Fault Refusal := cmdE Reg.ASY holdoverExpire s
/-- TEMP_SAMPLE (R138). -/
def execTempSample (x : Option (BitVec 16)) (s : State) : Host.Outcome State Fault Refusal := cmdE Reg.ASY (tempSample x) s
/-- TEMP_LOST (R140). -/
def execTempLost (s : State) : Host.Outcome State Fault Refusal := cmdE Reg.ASY tempLost s
/-- ASY_E_READ (R971). -/
def execAsyERead (m : Master) (s : State) : Host.Outcome State Fault Refusal := cmdRd m Reg.ASY_E (rdAsyE m) s
/-- RECORD_PERIODIC (R158). -/
def execRecordPeriodic (s : State) : Host.Outcome State Fault Refusal := cmdE Reg.ASY recordPeriodic s
/-- RECORD_SIGNED (R163). -/
def execRecordSigned (m : Master) (v : Word) (s : State) : Host.Outcome State Fault Refusal :=
  cmdW m Reg.ASY_STG_DONE v (wrStgDone) s
/-- RECORD_STALL (R165). -/
def execRecordStall (s : State) : Host.Outcome State Fault Refusal := cmdE Reg.ASY recordStall s
/-- RECORD_ENABLE_WRITE (R165). -/
def execRecordEnableWrite (m : Master) (v : Word) (s : State) : Host.Outcome State Fault Refusal :=
  cmdW m Reg.ASY_REC_CTRL v (wrRecCtrl) s
/-- ASY_STORE_FAULT (R177). -/
def execAsyStoreFault (s : State) : Host.Outcome State Fault Refusal := cmdE Reg.ASY (fault .asy 0 0) s

end Sys2Proof.Machine
end

