-- ==== Sys2Proof/Machine/Cry.lean ====
section
/-! DEFINITION. The crypto complex: descriptors, the operations and their completions (R767 to R772, R630, R634). -/
namespace Sys2Proof.Machine

/-- A crypto descriptor's fields (R768). -/
structure CryDesc where
  op : Nat
  ksrc : Nat
  genChk : Bool
  gen : Nat
  karg : Nat
  src : Nat
  dst : Nat
  len : Nat
  alen : Nat
  nlen : Nat
  deriving DecidableEq, Repr

/-- The fields of 32 bytes (R768). -/
def cryDesc (d : List Byte) : CryDesc :=
  { op := leAt d 0 1, ksrc := leAt d 1 1, genChk := decide (leAt d 2 1 % 2 = 1), gen := leAt d 3 1, karg := leAt d 4 4,
    src := leAt d 8 8, dst := leAt d 16 8, len := leAt d 24 4, alen := leAt d 28 2, nlen := leAt d 30 2 }

/-- STATUS of a completion (R772). -/
inductive CryStatus where
  | ok | authFail | badOp | badKey | noKey | keyChanged | noEntropy | access | memErr | length
  deriving DecidableEq, Repr

/-- The code of a status (R772). -/
def CryStatus.code : CryStatus → Nat
  | .ok => 0 | .authFail => 1 | .badOp => 2 | .badKey => 3 | .noKey => 4 | .keyChanged => 5 | .noEntropy => 6
  | .access => 7 | .memErr => 8 | .length => 9

/-- Bytes of an inline key, or of a user context, before the nonce (R768, R770). -/
def CryDesc.keyBytes (d : CryDesc) : Nat :=
  match d.ksrc with
  | 1 => if d.op = 4 ∨ d.op = 5 then 16 else 32
  | 5 => 16
  | _ => 0

/-- Bytes read at SRC: RANDOM reads none. -/
def CryDesc.inBytes (d : CryDesc) : Nat := if d.op = 0x0B then 0 else d.keyBytes + d.nlen + d.alen + d.len

/-- Bytes at DST, and whether the operation writes them (R769). -/
def CryDesc.atDst (d : CryDesc) : Nat × Bool :=
  match d.op with
  | 1 => (32, true)
  | 2 => (16, true)
  | 3 => (16, false)
  | 4 => (16, true)
  | 5 => (16, false)
  | 6 => (d.len + 16, true)
  | 7 => (d.len - 16, true)
  | 8 => (64, true)
  | 9 => (96, false)
  | 0x0A => (128, false)
  | _ => (d.len, true)

/-- The key sources an operation takes (R769). -/
def keySources (op : Nat) : List Nat :=
  match op with
  | 1 => [0]
  | 2 => [1, 3, 5]
  | 3 => [1, 3, 5]
  | 4 => [1, 3]
  | 5 => [1, 3]
  | 6 => [1, 2, 5]
  | 7 => [1, 2, 5]
  | 8 => [4]
  | _ => [0]

/-- The operation uses a signature unit (R767). -/
def sigOp (op : Nat) : Bool := decide (8 ≤ op ∧ op ≤ 0x0A)

/-- The first of the checks of R769 to R771 that a descriptor of a thread fails, but those of its memory. (DEDUCED, log 81.) -/
def State.cryRefuse (s : State) (d : CryDesc) (th : Nat) (user access : Bool) : Option CryStatus :=
  let alg := if d.op = 2 ∨ d.op = 3 then 0 else 1
  let sa := Reg.KEY_SA (d.karg % 8)
  if d.op = 0 ∨ 0x0C ≤ d.op then some .badOp
  else if (keySources d.op).contains d.ksrc = false then some .badKey
  else if d.ksrc = 4 ∧ (th / 32 ≠ 63 ∨ user) then some .badKey
  else if d.ksrc = 3 ∧ (s.rb sa 31 = false ∨ s.rf sa 16 1 ≠ alg) then some .badKey
  else if 16384 < d.len ∨ 4095 < d.alen ∨ 64 < d.nlen ∨ (d.op = 7 ∧ d.len < 16) ∨ (d.op = 0x0B ∧ 4096 < d.len) then some .length
  else if access = false then some .access
  else none

/-- SRC and DST pass the thread's mode and windows (R771). -/
def State.cryAccess (s : State) (d : CryDesc) (th : Nat) (user : Bool) : Bool :=
  let ok (a n : Nat) (w : Bool) : Bool := decide (n = 0) || (s.mayAccess (th / 4) user a n w).isSome
  ok d.src d.inBytes false && ok d.dst d.atDst.1 d.atDst.2

/-- A thread's descriptor is taken: the next ticket is given. A RANDOM that finds output withheld waits (R630, R771, R777). -/
def cryTake (k : Nat) (desc : List Byte) (s : State) : Nat × State :=
  let t := s.th k
  let n := t.nextTicket
  let d := cryDesc desc
  let op : CryOp := { th := k, num := n, user := t.user, desc := desc, access := s.cryAccess d k t.user }
  let s1 := s.setTh k { t with tickets := t.tickets ++ [{ num := n, done := none }], nextTicket := (n + 1) % 2 ^ 16 }
  let s2 := { s1 with cry := s1.cry ++ [op] }
  if d.op = 0x0B ∧ s.withheld ∧ s.cryRefuse d k t.user op.access = none then
    (n, { s2 with trn := { s2.trn with waits := s2.trn.waits ++ [(s.bt, .crypto k n)] } })
  else (n, s2)

/-- Bytes at an address of a thread for the crypto complex; none where the memory answers with an error. -/
def cryRead (th : Nat) (user : Bool) (a n : Nat) (s : State) : Option (List Byte) × State :=
  if n = 0 then (some [], s)
  else match s.mayAccess (th / 4) user a n false with
    | none => (none, s)
    | some t => match memRead (th / 32) n t s with
      | (.ok, l, s1) => (some l, s1)
      | (_, _, s1) => (none, s1)

/-- Write bytes at an address of a thread for the crypto complex. -/
def cryWrite (th : Nat) (user : Bool) (a : Nat) (l : List Byte) (s : State) : Bool × State :=
  if l.isEmpty then (true, s)
  else match s.mayAccess (th / 4) user a l.length true with
    | none => (false, s)
    | some t => match memWrite (th / 32) t l s with
      | (.ok, s1) => (true, s1)
      | (_, s1) => (false, s1)

/-- What an operation computes from its key, its input and what stands at DST: its status and output (R769). -/
def cryCompute (d : CryDesc) (key nonce ad msg dst : List Byte) : CryStatus × List Byte :=
  let judge (b : Bool) : CryStatus × List Byte := (if b then .ok else .authFail, [])
  match d.op with
  | 1 => (.ok, sha256 msg)
  | 2 => (.ok, (hmacSha256 key msg).take 16)
  | 3 => judge (decide ((hmacSha256 key msg).take 16 = dst))
  | 4 => (.ok, aesCmac key msg)
  | 5 => judge (decide (aesCmac key msg = dst))
  | 6 => (.ok, sivSeal key (sivAds ad nonce) msg)
  | 7 => match sivOpen key (sivAds ad nonce) msg with
    | some p => (.ok, p)
    | none => (.authFail, [])
  | 8 => (.ok, edSign key msg)
  | 9 => judge (edVerify (dst.take 32) msg (dst.drop 32))
  | _ => judge (ecVerify (sliceB dst 0 32) (sliceB dst 32 32) (sliceB dst 64 32) (sliceB dst 96 32) msg)

/-- Fetch the key an operation names, from its input for an inline key or user context (R752, R770). (DEDUCED, log 81, 82.) -/
def cryKey (d : CryDesc) (inl : List Byte) (s : State) : Except CryStatus (List Byte) × State :=
  let lode (r : Option (List Byte) × State) : Except CryStatus (List Byte) × State :=
    match r with
    | (some k, s1) => (.ok k, s1)
    | (none, s1) => (.error .noKey, s1)
  if d.genChk ∧ d.gen ≠ (s.reg Reg.KEY_GEN).toNat % 256 then (.error .keyChanged, s)
  else match d.ksrc with
    | 1 => (.ok inl, s)
    | 2 => lode (cookieKey d.karg s)
    | 3 => lode (saKey (d.karg % 8) s)
    | 4 => (match s.root with | some r => .ok (rootKey r "B5IDENT1") | none => .error .noKey, s)
    | 5 => lode (subkey "B5USER01" inl 256 s)
    | _ => (.ok [], s)

/-- Run an operation on its memory: its status, with the output written. (DEDUCED, log 81.) -/
def cryRun (op : CryOp) (d : CryDesc) (s : State) : CryStatus × State :=
  let dst := d.atDst
  let put (l : List Byte) (t : State) : CryStatus × State :=
    match cryWrite op.th op.user d.dst l t with
    | (true, t1) => (.ok, t1)
    | (false, t1) => (.memErr, t1)
  if d.op = 0x0B then
    match drbg d.len s with
    | (some l, s1) => put l s1
    | (none, s1) => (.noEntropy, s1.count Reg.TRN_CNT_NOENT)
  else
    match cryRead op.th op.user d.src d.inBytes s with
    | (none, s1) => (.memErr, s1)
    | (some inp, s1) =>
      match cryKey d (inp.take d.keyBytes) s1 with
      | (.error e, s2) => (e, s2)
      | (.ok key, s2) =>
        match (if dst.2 then (some [], s2) else cryRead op.th op.user d.dst dst.1 s2) with
        | (none, s3) => (.memErr, s3)
        | (some exp, s3) =>
          let body := inp.drop d.keyBytes
          match cryCompute d key (body.take d.nlen) ((body.drop d.nlen).take d.alen) (body.drop (d.nlen + d.alen)) exp with
          | (.ok, out) => if dst.2 then put out s3 else (.ok, s3)
          | (e, _) => (e, s3)

/-- A completion: counted, reported, and given to its ticket if the thread still holds it (R630, R634, R772, R791). -/
def cryDone (op : CryOp) (d : CryDesc) (st : CryStatus) (s : State) : State :=
  let lode := decide (d.ksrc = 2 ∨ d.ksrc = 3 ∨ d.ksrc = 5) && decide (st = .ok ∨ st = .authFail)
  let w := BitVec.ofNat 32 (st.code + d.op * 2 ^ 8 + (if lode then (s.reg Reg.KEY_GEN).toNat % 256 * 2 ^ 16 else 0))
  let s1 := { s with cry := s.cry.filter (fun x => decide (x ≠ op)),
                     trn := { s.trn with waits := s.trn.waits.filter (fun x => decide (x.2 ≠ DrbgUser.crypto op.th op.num)) } }
  let s2 := pmuChip 0x08 0 (s1.count Reg.CRY_CNT_OPS)
  let s3 := if sigOp d.op then pmuChip 0x09 0 (s2.count Reg.CRY_CNT_SIG) else s2
  let s4 := if st = .authFail then s3.count Reg.CRY_CNT_AUTHFAIL else if st = .ok then s3 else s3.count Reg.CRY_CNT_ERR
  let s5 := if st = .memErr then raiseEvt Reg.CRY 0 s4 else s4
  let t := s5.th op.th
  s5.setTh op.th { t with tickets := t.tickets.map (fun x => if x.num = op.num then { x with done := some w } else x) }

/-- After MEM_ERR, DST may hold part of the output: how much is a free value (R772). (DEDUCED, log 81.) -/
def cryPart (op : CryOp) (d : CryDesc) (s : State) : State :=
  let n := s.freeVal % (d.atDst.1 + 1)
  let s1 := s.nextFree
  if d.atDst.2 ∧ 0 < n then (cryWrite op.th op.user d.dst (bytesLE n s1.freeVal) s1.nextFree).2 else s1

/-- A crypto operation completes (R634, R771, R772, R793). A RANDOM that waits for the DRBG does not complete yet (R777).
(DEDUCED, log 83.) -/
def cryComplete (k num : Nat) (memErr : Bool) (s : State) : State :=
  match s.cry.find? (fun x => decide (x.th = k ∧ x.num = num)) with
  | none => s
  | some op =>
    let d := cryDesc op.desc
    match s.cryRefuse d k op.user op.access with
    | some st => cryDone op d st s
    | none =>
      if s.trn.waits.any (fun x => decide (x.2 = DrbgUser.crypto k num)) then s
      else if d.op = 0x0B ∧ s.withheld then { s with trn := { s.trn with waits := s.trn.waits ++ [(s.bt, .crypto k num)] } }
      else if memErr ∨ s.inject Reg.CRY 0 then cryDone op d .memErr (fault .cry 0 0 (cryPart op d s))
      else
        match cryRun op d s with
        | (.memErr, s1) => cryDone op d .memErr (cryPart op d s1)
        | (st, s1) => cryDone op d st s1

/-- Requests for DRBG output that have waited 50 µs complete with NO_ENTROPY (R777). -/
def drbgTimeout (s : State) : State :=
  if s.withheld = false then s
  else
    (s.trn.waits.filter (fun w => s.elapsed w.1 50000)).foldl (fun a w =>
      match w.2 with
      | .crypto k num =>
        match a.cry.find? (fun x => decide (x.th = k ∧ x.num = num)) with
        | none => a
        | some op => cryDone op (cryDesc op.desc) .noEntropy (a.count Reg.TRN_CNT_NOENT)) s

/-- CRYPTO_COMPLETE (R772). -/
def execCryptoComplete (e : Fin 512) (t : Fin 4) (num : BitVec 16) (memErr : Bool) (s : State) :
    Host.Outcome State Fault Refusal :=
  cmdE Reg.CRY (cryComplete (thKey e t) num.toNat memErr) s
/-- DRBG_WAIT_TIMEOUT (R777). -/
def execDrbgWaitTimeout (s : State) : Host.Outcome State Fault Refusal := cmdE Reg.TRN drbgTimeout s

end Sys2Proof.Machine
end

