-- ==== Sys2Proof/Machine/Ddr.lean ====
section
/-! DEFINITION. The DRAM channels: training and zeroing, the patrol scrub, and the retirement of pages (R874 to R878, R919, R920). -/
namespace Sys2Proof.Machine

/-- A DRAM channel, beside its registers. -/
def State.ddrC (s : State) (ch : Nat) : Ddr := AMap.get { } s.ddr ch
/-- Store it. -/
def State.setDdrC (s : State) (ch : Nat) (x : Ddr) : State := { s with ddr := AMap.set { } s.ddr ch x }

/-- A write of DDR_CMD: INIT begins training, SCRUB_NOW a scrub pass (R876, R902, R919). (DEDUCED, log 91.) -/
def wrDdrCmd (ch : Nat) (v : Word) (s : State) : State :=
  let s1 := if bit v 0 then (s.setDdrC ch { s.ddrC ch with training := true }).setRb (Reg.DDR_STAT ch) 0 false else s
  if bit v 1 then s1.setDdrC ch { s1.ddrC ch with scrub := true } else s1

/-- The DRAM offset lies in a channel (R874). -/
def inChannel (ch o : Nat) : Bool := decide (o / 256 % 2 = ch)

/-- Every byte of a channel is written with zero (R919). -/
def ddrZero (ch : Nat) (s : State) : State :=
  let lo := 2 ^ 40 + eaDram
  { s with dram := s.dram.filter (fun p => !inChannel ch p.1)
           badWords := s.badWords.filter (fun p => !(decide (lo ≤ p.1) && decide (p.1 < lo + 2 ^ 35) && inChannel ch (p.1 % 2 ^ 35))) }

/-- Training ends; the first one after a cold reset has zeroed the channel (R919, R920). -/
def ddrTrained (ch : Nat) (s : State) : State :=
  let c := s.ddrC ch
  if c.training = false then s
  else
    let s1 := if c.zeroed then s else ddrZero ch s
    (s1.setDdrC ch { c with training := false, zeroed := true }).setRf (Reg.DDR_STAT ch) 0 2 1

/-- DDR_STAT as it reads: with the number of pages retired (R902). -/
def State.ddrStat (s : State) (ch : Nat) : Word :=
  setFld (s.reg (Reg.DDR_STAT ch)) 2 9 ((List.range 256).countP (fun i => s.rb (Reg.DDR_RET ch i) 31))

/-- Retire a page into the next free entry, or log it where none is left (R877, R878). (DEDUCED, log 91.) -/
def retirePage (ch page : Nat) (s : State) : State :=
  match (List.range 256).find? (fun i => !s.rb (Reg.DDR_RET ch i) 31) with
  | some i => raiseEvt (Reg.DDR ch) 1 (s.setReg (Reg.DDR_RET ch i) (BitVec.ofNat 32 (page + 2 ^ 31)))
  | none =>
    let s1 := s.setReg (Reg.DDR_CELOG ch) (BitVec.ofNat 32 (page + 2 ^ 31))
    if s.rb (Reg.DDR_CELOG ch) 31 then s1 else fault .ddr ch 1 s1

/-- The tracking list with one more error of a page; a full list gives up the entry with the oldest error (R877). (DEDUCED, log 91.) -/
def trackCe (now : BT80) (win page : Nat) (l : List CePage) : List CePage :=
  match l.find? (fun x => decide (x.page = page)) with
  | some x =>
    let y : CePage := if win < (now - x.first).toNat then { page := page, count := 1, first := now, last := now }
                      else { x with count := x.count + 1, last := now }
    l.map (fun z => if z.page = page then y else z)
  | none =>
    let kept := if l.length < 64 then l
      else match l with
        | [] => []
        | h :: t =>
          let oldest := t.foldl (fun (b : CePage) z => if earlier z.last b.last then z else b) h
          l.filter (fun z => decide (z.page ≠ oldest.page))
    kept ++ [{ page := page, count := 1, first := now, last := now }]

/-- A correctable error in a page of a channel: corrected, counted and tracked (R875, R877). -/
def ddrCe (ch page : Nat) (s : State) : State :=
  let win := s.rf (Reg.DDR_RET_TH ch) 16 16 * 3600000000000 * 65536
  let s1 := raiseEvt (Reg.DDR ch) 0 (s.count (Reg.DDR_CNT_CE ch))
  let c := s1.ddrC ch
  let l := trackCe s1.bt win page c.tracked
  match l.find? (fun x => decide (x.page = page)) with
  | none => s1
  | some x =>
    if x.count < s.rf (Reg.DDR_RET_TH ch) 0 8 then s1.setDdrC ch { c with tracked := l }
    else retirePage ch page (s1.setDdrC ch { c with tracked := l.filter (fun z => decide (z.page ≠ page)) })

/-- The patrol scrub has read and corrected every word of a channel: the pages in which it met a correctable error, one for each,
are tracked, and each uncorrectable word is reported (R875 to R878). (DEDUCED, log 91.) -/
def ddrScrub (ch : Nat) (pages : List (BitVec 24)) (s : State) : State :=
  let c := s.ddrC ch
  if s.ddrUp ch = false ∨ (s.rf (Reg.DDR_SCRUB ch) 0 24 = 0 ∧ c.scrub = false) then s
  else
    let lo := 2 ^ 40 + eaDram
    let bad := s.badWords.filter (fun p => p.2 && decide (lo ≤ p.1) && decide (p.1 < lo + 2 ^ 35) && inChannel ch (p.1 % 2 ^ 35))
    let s1 := bad.foldl (fun a p => ddrUe (p.1 % 2 ^ 35) a) (s.setDdrC ch { c with scrub := false })
    pages.foldl (fun a p => ddrCe ch p.toNat a) s1

/-! ### Commands -/

/-- DDR_INIT (R919): a write of DDR_CMD. -/
def execDdrInit (m : Master) (ch : Fin 2) (v : Word) (s : State) : Host.Outcome State Fault Refusal :=
  cmdW m (Reg.DDR_CMD ch.val) v (wrDdrCmd ch.val) s

/-- DDR_TRAINED (R919). -/
def execDdrTrained (ch : Fin 2) (s : State) : Host.Outcome State Fault Refusal := cmdE (Reg.DDR ch.val) (ddrTrained ch.val) s

/-- SCRUB_NOW (R876): a write of DDR_CMD. -/
def execScrubNow (m : Master) (ch : Fin 2) (v : Word) (s : State) : Host.Outcome State Fault Refusal :=
  cmdW m (Reg.DDR_CMD ch.val) v (wrDdrCmd ch.val) s

/-- DDR_SCRUB_PASS (R876). -/
def execDdrScrubPass (ch : Fin 2) (pages : List (BitVec 24)) (s : State) : Host.Outcome State Fault Refusal :=
  cmdT (Reg.DDR ch.val) (ddrScrub ch.val pages) s

end Sys2Proof.Machine
end

