-- ==== Sys2Proof/Machine/Flt.lean ====
section
/-! DEFINITION. The fault collector, the event controller and the performance counters as commands reach them (chapter 18). What a
fault does when it rises stands in Machine/Faults.lean. -/
namespace Sys2Proof.Machine

/-! ### The fault collector -/

/-- A fault bit of the page at a base is set by the hardware path (R822, R823). A bit with no source is no fault. -/
def faultRise (pg n : Nat) (s : State) : State :=
  match pageKindOf pg with
  | none => s
  | some (k, inst) =>
    if (srcOf k inst n).isNone then s
    else if k = .trn ∧ n = 1 then drbgParity s
    else fault k inst n s

/-- Cancel the escalation timer of source n (R825). -/
def cancelTimer (n : Nat) (s : State) : State :=
  { s with flt := { s.flt with timers := AMap.set none s.flt.timers n none } }

/-- What a write of FLT_SRCn.ACK does: a raised MAJOR source that has not escalated is acknowledged (R826). (DEDUCED, log 90.) -/
def fltAck (n : Nat) (s : State) : State :=
  if s.rb (Reg.FLT_SRC n) 31 ∧ s.sevNow n = 2 ∧ s.rb (Reg.FLT_SRC n) 29 = false then
    cancelTimer n (s.setRb (Reg.FLT_SRC n) 30 true)
  else s

/-- A write of FLT_SRCn: SEV and DOM are written, a code that names no domain leaving DOM unchanged; ACK acknowledges; a changed SEV
of a raised source acts by the new severity (R826, R827, R830). -/
def wrFltSrc (n : Nat) (v : Word) (s : State) : State :=
  let a := Reg.FLT_SRC n
  let old := s.sevNow n
  let s1 := if bit v 28 then fltAck n s else s
  let s2 := s1.setRf a 0 2 (fld v 0 2)
  let s2a := if s.rf a 0 2 = 2 ∧ fld v 0 2 ≠ 2 then cancelTimer n s2 else s2
  let s3 := if domOk (fld v 16 6) then s2a.setRf a 16 6 (fld v 16 6) else s2a
  let new := s3.sevNow n
  if old = new then s3
  else
    let s4 := showPin s3
    if s4.rb a 31 = false then s4
    else if new = 3 then critAct n s4
    else if new = 2 then startTimer n s4
    else s4

/-- FLT_RAISEDk (R849). -/
def State.fltRaised (s : State) (k : Nat) : Word :=
  packBits ((List.range 32).map (fun i => s.rb (Reg.FLT_SRC (32 * k + i)) 31))

/-- FLT_UNACKk: MAJOR, raised, not acknowledged, not escalated (R849). -/
def State.fltUnack (s : State) (k : Nat) : Word :=
  packBits ((List.range 32).map (fun i =>
    let n := 32 * k + i
    s.rb (Reg.FLT_SRC n) 31 && decide (s.sevNow n = 2) && !s.rb (Reg.FLT_SRC n) 30 && !s.rb (Reg.FLT_SRC n) 29))

/-! ### The event controller -/

/-- A write of EVT_HMASKk: each pending event whose bit it clears sends its vector, at the end of the cycle (R836, R838).
(DEDUCED, log 90.) -/
def wrHmask (k : Nat) (v : Word) (s : State) : State :=
  let old := s.reg (Reg.EVT_HMASK k)
  forN 32 (fun i a => if bit old i && !bit v i && a.evtPending (32 * k + i) then
      { a with flt := { a.flt with unmasked := insNat a.flt.unmasked (32 * k + i) } } else a)
    (s.setReg (Reg.EVT_HMASK k) v)

/-- EVT_SUMk in the layout of R853 (R835). -/
def State.evtSum (s : State) (k : Nat) : Word := packBits ((List.range 32).map (fun i => s.evtPending (32 * k + i)))

/-- EVT_SUMk as it reads: with B4MODE the layout of the B4 (R840). -/
def State.evtSumRead (s : State) (k : Nat) : Word :=
  if s.rb Reg.SYS_COMPAT 0 = false then s.evtSum k
  else if 8 ≤ k then 0
  else packBits ((List.range 32).map (fun j => s.evtPending (32 * k + (31 - j)) || s.evtPending (256 + 32 * k + (31 - j))))

/-! ### The performance counters -/

/-- Unit and entry of a counter of the window, by its key; a window entry that the unit does not have is none (R845). -/
def State.winCtr (s : State) (m : Master) (i : Nat) : Option Nat :=
  let u := AMap.get 0 s.flt.pmuSel (masterId m)
  if u < 512 ∧ 8 ≤ i then none else some (16 * u + i)

/-- The counter that an offset of the PMU page names for a master, and the word of its group: 0 CFG, 1 LO, 2 HI, 3 and 4 the
snapshot (R854). -/
def State.pmuAt (s : State) (m : Master) (off : Nat) : Option (Nat × Nat) :=
  if 0x100 ≤ off ∧ off < 0x300 then
    match s.winCtr m ((off - 0x100) / 32) with
    | some k => some (k, off % 32 / 4)
    | none => none
  else if 0x400 ≤ off ∧ off < 0xC00 then some (9216 + (off - 0x400) / 32, off % 32 / 4)
  else none

/-- EVENT codes that are not reserved (R847, R848). (DESIGN CHOICE, log 80.) -/
def pmuCodeOk (k c : Nat) : Bool :=
  if k < 8192 then decide (c ≤ 3) || (decide (0x11 ≤ c) && decide (c ≤ 0x1B)) || (decide (0x20 ≤ c) && decide (c ≤ 0x28))
  else if k < 9216 then decide (c ≤ 7)
  else decide (c ≤ 0x11)

/-- Fields of a counter's configuration word (R855). -/
def pmuCfgMask (k : Nat) : Word := if k < 8192 then 0x80003FFF else if k < 9216 then 0x800000FF else 0x80FF00FF

/-- A write of a counter's configuration (R847, R855). -/
def wrPmuCfg (k : Nat) (v : Word) (s : State) : State :=
  let old := s.ctrCfg k
  let w := if pmuCodeOk k (fld v 0 8) then v else setFld v 0 8 (fld old 0 8)
  let x := w &&& pmuCfgMask k
  if 9216 ≤ k then s.setReg (Reg.PMU_C_CFG (k - 9216)) x else s.setCtr k { s.ctr k with cfg := some x }

/-- The upper word of a count with its overflow bit (R854). -/
def ctrHi (c : BitVec 48) (ovf : Bool) : Word := BitVec.ofNat 32 (c.toNat / 2 ^ 32 + 2 ^ 31 * b2n ovf)

/-- What a word of a counter's group reads (R854). -/
def State.pmuWord (s : State) (k w : Nat) : Word :=
  let c := s.ctr k
  match w with
  | 0 => s.ctrCfg k
  | 1 => BitVec.ofNat 32 c.count.toNat
  | 2 => ctrHi c.count c.ovf
  | 3 => BitVec.ofNat 32 c.snap.toNat
  | 4 => ctrHi c.snap c.snapOvf
  | _ => 0

/-- A write of a word of the PMU page beyond PMU_SEL (R843, R845, R854). -/
def wrPmuCtr (m : Master) (a : Nat) (v : Word) (s : State) : State :=
  match s.pmuAt m (a % 0x1000) with
  | none => s
  | some (k, w) =>
    if w = 0 then wrPmuCfg k v s
    else if w = 1 then s.setStaged m a (some v)
    else if w = 2 then
      let lo := (s.stagedOf m (a - 4)).getD (s.pmuWord k 1)
      ((noteCtr k s).setCtr k { s.ctr k with count := BitVec.ofNat 48 (lo.toNat + 2 ^ 32 * fld v 0 16), ovf := bit v 31 || s.thisCyc.ctrWrap.contains k }).dropStaged m (a - 4) 2
    else s

/-- A write of PMU_CTL: CLR_ALL clears every count and OVF, but the OVF of a counter that wraps in the cycle (R843, R854). -/
def wrPmuCtl (v : Word) (s : State) : State :=
  let s1 := plainWrite Reg.PMU_CTL v s
  if bit v 1 = false then s1
  else
    let s2 := (s1.flt.counters.map (·.1)).foldl (fun a k => (noteCtr k a).setCtr k
      { a.ctr k with count := 0, ovf := s1.thisCyc.ctrWrap.contains k }) s1
    { s2 with thisCyc := { s2.thisCyc with ctrClr := true } }

/-- A write of PMU_SEL, which each master has for itself (R845). -/
def wrPmuSel (m : Master) (v : Word) (s : State) : State :=
  if fld v 0 10 ≤ 575 then { s with flt := { s.flt with pmuSel := AMap.set 0 s.flt.pmuSel (masterId m) (fld v 0 10) } } else s

/-- Every counter latches its count and OVF into its snapshot (R581, R846). -/
def pmuSnap (s : State) : State :=
  (s.flt.counters.map (·.1)).foldl (fun a k => a.setCtr k { a.ctr k with snap := (a.ctr k).count, snapOvf := (a.ctr k).ovf }) s

/-! ### Commands -/

/-- FAULT_RISE (R823): a fault bit of a page is set. -/
def execFaultRise (page : BAddr) (n : Fin 32) (s : State) : Host.Outcome State Fault Refusal :=
  cmdE (page.toNat - page.toNat % 0x1000) (faultRise (page.toNat - page.toNat % 0x1000) n.val) s

/-- ESCALATED (R825): the expiry, which an acknowledgement in the same cycle prevents (R826). -/
def execEscalated (n : Fin 384) (s : State) : Host.Outcome State Fault Refusal := cmdT Reg.FLT (escalateDue n.val) s

/-- FAULT_ACK (R826): a write of FLT_SRCn. -/
def execFaultAck (m : Master) (n : Fin 384) (v : Word) (s : State) : Host.Outcome State Fault Refusal :=
  cmdW m (Reg.FLT_SRC n.val) v (wrFltSrc n.val) s

/-- FAULT_SEVERITY_WRITE (R827): a write of FLT_SRCn. -/
def execFaultSeverityWrite (m : Master) (n : Fin 384) (v : Word) (s : State) : Host.Outcome State Fault Refusal :=
  cmdW m (Reg.FLT_SRC n.val) v (wrFltSrc n.val) s

/-- HMASK_WRITE (R836). -/
def execHmaskWrite (m : Master) (k : Fin 16) (v : Word) (s : State) : Host.Outcome State Fault Refusal :=
  cmdW m (Reg.EVT_HMASK k.val) v (wrHmask k.val) s

/-- PMU_COUNTER_HI_WRITE (R843): a write of the upper word of a counter, at an offset of the PMU page. -/
def execPmuCounterHiWrite (m : Master) (addr : BAddr) (v : Word) (s : State) : Host.Outcome State Fault Refusal :=
  let a := Reg.PMU + addr.toNat % 0x1000
  cmdW m a v (wrPmuCtr m a) s

/-- CLR_ALL (R843): a write of PMU_CTL. -/
def execClrAll (m : Master) (v : Word) (s : State) : Host.Outcome State Fault Refusal := cmdW m Reg.PMU_CTL v (wrPmuCtl) s

end Sys2Proof.Machine
end

