-- ==== Sys2Proof/Machine/Geo.lean ====
section
/-! DEFINITION. The Geode: its counter and trim, writes across the crossing, alarm, tamper inputs and WAKE_OUT (R927 to R945). -/
namespace Sys2Proof.Machine

/-- What makes the device drive WAKE_OUT low (R935). -/
def State.wakeLow (s : State) : Bool :=
  (s.rb Reg.GEO_STAT 0 && s.rb Reg.GEO_CFG 1) || (s.rb Reg.GEO_STAT 1 && s.rb Reg.GEO_CFG 2)

/-- Drive WAKE_OUT (R935). -/
def showWake (s : State) : State :=
  let low := s.wakeLow
  if s.geo.wakeOut = low then s else { s with geo := { s.geo with wakeOut := low } }.emit (.pin "WAKE_OUT" (!low))

/-- The Geode counts: no XTAL_STOP (R945). -/
def State.geoRuns (s : State) : Bool := !s.fltBit Reg.GEO 1

/-! ### Writes across the crossing (R929) -/

/-- A write of the register at an offset of the GEO page sets out for the Geode; one that comes while another is under way is discarded
(R929). (DESIGN CHOICE, log 99.) -/
def geoSend (off val : Nat) (s : State) : State :=
  if s.geo.busy.isSome then s.hwSet Reg.GEO_STAT 7
  else { s with geo := { s.geo with busy := some (off, val) } }.setRb Reg.GEO_STAT 5 true

/-- A write of a word of the GEO page: the words of a wider value are staged and the last one sends it (R19, R929).
(DESIGN CHOICE, log 99.) -/
def wrGeo (m : Master) (a : Nat) (v : Word) (s : State) : State :=
  let wide (base n : Nat) : State :=
    let w := (a - base) / 4
    if w + 1 < n then s.setStaged m a (some v)
    else geoSend (base % 0x1000) (s.commitWords m base n v) (s.dropStaged m base n)
  let off := a % 0x1000
  if 0x054 ≤ off ∧ off ≤ 0x05C then wide (Reg.GEO + 0x054) 3
  else if 0x060 ≤ off ∧ off ≤ 0x064 then wide (Reg.GEO + 0x060) 2
  else if off = 0x040 ∨ off = 0x044 ∨ off = 0x068 ∨ off = 0x06C ∨ (0x100 ≤ off ∧ off < 0x200) then geoSend off v.toNat s
  else s

/-- A write of GEO_STAT reaches the Geode: W1C, and TAMPER only after the erasure; a detection of the same tick stays (R12, R938,
R944). -/
def geoStat (v : Word) (s : State) : State :=
  let a := Reg.GEO_STAT
  let s1 := w1cWrite a 0x89 v s
  if bit v 1 && s1.rb a 4 then (w1cWrite a 0x302 0x302 s1).setRb a 4 false else s1

/-- A write reaches the Geode (R929, R930, R943). -/
def geoApply (off val : Nat) (s : State) : State :=
  if off = 0x054 then
    { s with geo := { s.geo with secs := BitVec.ofNat 48 val, sub := BitVec.ofNat 15 (val >>> 64), holdTicks := 0, turned := false } }.setRegN
      (Reg.GEO + 0x054) val 3
  else if off = 0x060 then s.setRegN Reg.GEO_ALARM (val % 2 ^ 48) 2
  else if off = 0x044 then geoStat (BitVec.ofNat 32 val) s
  else plainWrite (Reg.GEO + off) (BitVec.ofNat 32 val) s

/-- The write under way lands at the second tick (R929). -/
def geoLand (s : State) : State :=
  match s.geo.busy with
  | none => s
  | some (off, val) =>
    let s1 := { s with geo := { s.geo with busy := none } }.setRb Reg.GEO_STAT 5 false
    showWake (geoApply off val s1)

/-! ### Counter, trim and alarm (R930 to R934) -/

/-- A new second: SUB becomes 0, and the Bedrock value of the tick is captured, to within 2 cycles (R932). (DESIGN CHOICE, log 76.) -/
def geoSecond (s : State) : State :=
  if s.geoRuns = false then s
  else
    let n := s.geo.secs + 1
    let s1 := { s with geo := { s.geo with secs := n, sub := 0, holdTicks := 0, turned := true } }
    if s.btRun = false then s1
    else
      let d := s1.freeVal % 5
      let b := s1.bt + cyc d - cyc 2
      (s1.nextFree.setRegN Reg.GEO_BTCAP b.toNat 3).setReg Reg.GEO_BTSEC (BitVec.ofNat 32 n.toNat)

/-- GEO_TRIM is applied in a second that is a multiple of 32 (R931). (DESIGN CHOICE, log 99.) -/
def geoTrim (s : State) : State :=
  let t := (bits (s.reg Reg.GEO_TRIM) 0 8).toInt
  if s.geoRuns = false ∨ s.geo.secs.toNat % 32 ≠ 0 ∨ s.geo.sub ≠ 0 ∨ s.geo.holdTicks ≠ 0 then s
  else if 0 ≤ t then { s with geo := { s.geo with sub := BitVec.ofNat 15 t.toNat } }
  else { s with geo := { s.geo with holdTicks := (-t).toNat } }

/-- The alarm fires in the tick in which the count becomes equal to GEO_ALARM (R933, R934). (DESIGN CHOICE, log 99.) -/
def geoAlarm (s : State) : State :=
  if s.rb Reg.GEO_CFG 0 = false ∨ s.geoRuns = false ∨ s.geo.turned = false ∨ s.geo.secs.toNat ≠ s.regN Reg.GEO_ALARM 2 then s
  else
    let s1 := showWake ({ s with geo := { s.geo with turned := false } }.hwSet Reg.GEO_STAT 0)
    if s1.alive then wakeRequest 16 (raiseEvt Reg.GEO 0 s1) else s1

/-! ### Tamper (R936, R937) -/

/-- An input has held a level for the filter time: an enabled input at its active level is a detection. (DESIGN CHOICE, log 99.) -/
def geoTamper (i : Nat) (level : Bool) (s : State) : State :=
  if s.rb Reg.GEO_TCFG (2 * i) = false ∨ s.rb Reg.GEO_TCFG (2 * i + 1) ≠ level then s
  else
    let s1 := (s.hwSet Reg.GEO_STAT 1).hwSet Reg.GEO_STAT (8 + i)
    let s2 := s1.setRegN Reg.GEO_TTIME s.geo.secs.toNat 2
    let s3 := showWake (if s.rb Reg.GEO_TCFG 8 then s2.resetRegs (Reg.GEO_BKP 0) 0x100 else s2)
    if s3.alive then fault .geo 0 0 (raiseEvt Reg.GEO 1 s3) else s3

/-- No supply reaches the Geode: its power-on reset (R927). -/
def geoPor (s : State) : State :=
  if s.pwr.good then s
  else
    let s1 := s.resetRegs (Reg.GEO + 0x040) 0xFC0
    showWake { s1 with geo := { Geo.reset with wakeOut := s.geo.wakeOut }, key := { s1.key with geoCtr := none } }

/-- The oscillator has stopped (R945). -/
def xtalStop (s : State) : State := fault .geo 0 1 s

/-- What the registers of the counter read: the seconds; SUB is where between two seconds the Geode is, which no command tells (R929,
R943). (DESIGN CHOICE, log 99.) -/
def geoTimeRead (s : State) : Nat × State :=
  (s.geo.secs.toNat + s.freeVal % 2 ^ 15 * 2 ^ 64, s.nextFree)

/-! ### Commands -/

/-- GEO_WRITE_LAND (R929). -/
def execGeoWriteLand (s : State) : Host.Outcome State Fault Refusal := .next (geoLand s)

/-- GEO_SET (R930): a write of GEO_SET_HI. -/
def execGeoSet (m : Master) (v : Word) (s : State) : Host.Outcome State Fault Refusal :=
  cmdW m (Reg.GEO + 0x05C) v (wrGeo m (Reg.GEO + 0x05C)) s

/-- GEO_SECOND (R932). -/
def execGeoSecond (s : State) : Host.Outcome State Fault Refusal := .next (geoSecond s)

/-- GEO_TRIM_APPLY (R931). -/
def execGeoTrimApply (s : State) : Host.Outcome State Fault Refusal := .next (geoTrim s)

/-- ALARM (R933). -/
def execGeoAlarm (s : State) : Host.Outcome State Fault Refusal := .next (geoAlarm s)

/-- TAMPER (R936). -/
def execTamper (i : Fin 2) (level : Bool) (s : State) : Host.Outcome State Fault Refusal := .next (geoTamper i.val level s)

/-- TAMPER_CLEAR (R938): a write of GEO_STAT. -/
def execTamperClear (m : Master) (v : Word) (s : State) : Host.Outcome State Fault Refusal := cmdW m Reg.GEO_STAT v (wrGeo m Reg.GEO_STAT) s

/-- GEO_POWER_ON_RESET (R927). -/
def execGeoPowerOnReset (s : State) : Host.Outcome State Fault Refusal := .next (geoPor s)

/-- XTAL_STOP (R945). -/
def execXtalStop (s : State) : Host.Outcome State Fault Refusal := cmdE Reg.GEO xtalStop s

end Sys2Proof.Machine
end

