-- ==== Sys2Proof/Machine/Lsp.lean ====
section
/-! DEFINITION. The low-speed interfaces: boot flash, I2C, UARTs, GPIO and the inventory wire (R894 to R900). -/
namespace Sys2Proof.Machine

/-! ### QSPI (R894) -/

/-- A write of QSPI_CMD: GO starts a command; one that comes while another runs is ignored. (DEDUCED, log 96.) -/
def wrQspiCmd (v : Word) (s : State) : State :=
  if bit v 31 = false ∨ s.lsp.qspi.isSome then s
  else
    let n := s.rf Reg.QSPI_LEN 0 17
    let buf := (s.reg Reg.QSPI_BUF).toNat
    let wr := bit v 13
    let addr : Option Nat := if bit v 8 then some (if s.rb Reg.QSPI_CFG 10 then (s.reg Reg.QSPI_ADDR).toNat else s.rf Reg.QSPI_ADDR 0 24) else none
    let data := if wr then s.sramRd buf (min n (2 ^ 25 - buf)) else []
    let s1 := s.emit (.qspi (fld v 0 8) addr (fld v 9 4) data)
    { s1 with lsp := { s1.lsp with qspi := some (wr, buf, n) } }.setReg Reg.QSPI_STAT 1

/-- The QSPI transfer completes, with the bytes that the flash sent. -/
def qspiDone (data : List Byte) (s : State) : State :=
  match s.lsp.qspi with
  | none => s
  | some (wr, buf, n) =>
    let s1 := if wr then s else s.sramWr buf (data.take (min n (2 ^ 25 - buf)))
    raiseEvt Reg.LSP 2 ({ s1 with lsp := { s1.lsp with qspi := none } }.setReg Reg.QSPI_STAT 2)

/-! ### I2C (R895) -/

/-- Bytes held in four data words: byte 4j + b in bits [8b+7:8b] of word j. -/
def State.i2cBytes (s : State) (i : Nat) : List Byte := (List.range 4).flatMap (fun j => bytesLE 4 (s.reg (Reg.I2C_WDATA i j)).toNat)

/-- A write of I2C_XFER: GO starts a transfer on an enabled, idle master; a length above 16 starts none. (DEDUCED, log 96.) -/
def wrI2cXfer (i : Nat) (v : Word) (s : State) : State :=
  let busy := (AMap.get none s.lsp.i2c i).isSome
  let wl := fld v 8 5
  let rl := fld v 16 5
  if bit v 31 = false ∨ busy ∨ s.rb (Reg.I2C_CFG i) 4 = false ∨ 16 < wl ∨ 16 < rl then s
  else
    let s1 := s.emit (.i2c i (fld v 0 7) ((s.i2cBytes i).take wl) rl)
    { s1 with lsp := { s1.lsp with i2c := AMap.set none s1.lsp.i2c i (some rl) } }.setReg (Reg.I2C_STAT i) 1

/-- The transfer of an I2C master ends. -/
def i2cDone (i : Nat) (nack arb tmo : Bool) (data : List Byte) (s : State) : State :=
  match AMap.get none s.lsp.i2c i with
  | none => s
  | some rl =>
    let s1 := { s with lsp := { s.lsp with i2c := AMap.set none s.lsp.i2c i none } }.setReg (Reg.I2C_STAT i)
      (BitVec.ofNat 32 (2 * b2n nack + 4 * b2n arb + 8 * b2n tmo))
    let d := data.take rl
    let put (a : State) (p : Byte × Nat) : State := a.setRf (Reg.I2C_RDATA i (p.2 / 4)) (8 * (p.2 % 4)) 8 p.1.toNat
    raiseEvt Reg.LSP 0 (if nack || arb || tmo then s1 else d.zipIdx.foldl put s1)

/-! ### UARTs (R896, R897) -/

/-- A UART. -/
def State.uart (s : State) (u : Nat) : Uart := AMap.get { } s.lsp.uarts u
/-- Store it. -/
def State.setUart (s : State) (u : Nat) (x : Uart) : State := { s with lsp := { s.lsp with uarts := AMap.set { } s.lsp.uarts u x } }

/-- Writes to the transmit path are discarded: a loop's template or the GNSS pulse message has it (R261, R421). -/
def State.txTaken (s : State) (u : Nat) : Bool :=
  s.tplUart u || (s.rb Reg.ANT_PPS_CFG 2 && decide (s.rf Reg.ANT_PPS_CFG 8 2 = u))

/-- A byte as a UART sends it: 7 or 8 data bits. -/
def State.uartData (s : State) (u : Nat) (b : Byte) : Byte := if s.rf (Reg.UART_CFG u) 24 2 = 0 then b &&& 0x7F else b

/-- Cycles of CD_TB that a character takes: start, data, parity and stop bits of 16 ticks of DIV / 256 cycles of CD_PBUS (R896). -/
def State.uartChar (s : State) (u : Nat) : Nat :=
  let c := s.reg (Reg.UART_CFG u)
  let bitsN := 1 + (if fld c 24 2 = 0 then 7 else 8) + (if fld c 26 2 = 0 then 0 else 1) + (if bit c 28 then 2 else 1)
  bitsN * fld c 0 20 / 4

/-- A write of UART_TX: the byte joins the 64-byte FIFO of an enabled UART; into a full one it is lost. (DEDUCED, log 96.) -/
def wrUartTx (u : Nat) (v : Word) (s : State) : State :=
  let x := s.uart u
  if s.rb (Reg.UART_CFG u) 31 = false ∨ s.txTaken u ∨ 64 ≤ x.tx.length then s
  else
    let at_ := if x.tx = [] then s.bt else x.txAt
    s.setUart u { x with tx := x.tx ++ [s.uartData u (bits v 0 8)], txAt := at_ }

/-- The character at the head of a UART's transmit FIFO leaves once its time has passed. -/
def uartDrain (u : Nat) (s : State) : State :=
  let x := s.uart u
  match x.tx with
  | [] => s
  | b :: t =>
    if s.rb (Reg.UART_CFG u) 31 ∧ s.elapsed x.txAt (s.uartChar u) then (s.setUart u { x with tx := t, txAt := s.bt }).emit (.uartByte u b) else s

/-- A character arrives: it goes to the bound ToD parser, or to the FIFO, whose overrun marks the next character (R896, R905).
(DEDUCED, log 96.) -/
def uartReceive (u : Nat) (ch : Byte) (fe pe brk : Bool) (s : State) : State :=
  if s.rb (Reg.UART_CFG u) 31 = false then s
  else if s.todBound u then
    if s.rf (Reg.REF_TOD_CFG u) 5 2 = 0 then todByte u ch s
    else if s.nmeaFull u ch then fault .ref 0 1 (nmeaByte u ch s)                    -- R221
    else nmeaByte u ch s
  else
    let x := s.uart u
    if 64 ≤ x.rx.length then s.setUart u { x with ovr := true, brk := brk }
    else
      let w := BitVec.ofNat 32 ((s.uartData u ch).toNat + 256 + 512 * b2n fe + 1024 * b2n pe + 2048 * b2n x.ovr)
      raiseEvt Reg.LSP 1 (s.setUart u { x with rx := x.rx ++ [w], ovr := false, brk := brk })

/-- UART_STAT (R905). -/
def State.uartStat (s : State) (u : Nat) : Word :=
  let x := s.uart u
  BitVec.ofNat 32 (x.tx.length + x.rx.length * 256 + b2n x.brk * 2 ^ 15)

/-- A read of UART_RX takes the oldest character; with none it reads 0 (R905). (DEDUCED, log 96.) -/
def uartRead (u : Nat) (s : State) : Word × State :=
  let x := s.uart u
  match x.rx with
  | [] => (0, s)
  | w :: t => (w, s.setUart u { x with rx := t })

/-! ### GPIO (R898) -/

/-- The level a GPIO drives, if it drives one: a calendar pulse, or its output register as enabled; an open-drain output drives only
low. (DEDUCED, log 96.) -/
def State.gpioOut (s : State) (g : Nat) : Option Bool :=
  let od := s.rb Reg.GPIO_OD g
  let drive (b : Bool) : Option Bool := if od && b then none else some b
  match s.gpioFunc g with
  | 0 => if s.rb Reg.GPIO_OE g then drive (s.rb Reg.GPIO_OUT g) else none
  | 1 => drive (bit s.lsp.gpioCal g)
  | _ => none

/-- Give out the GPIO levels that have changed since `old`. -/
def gpioShow (old s : State) : State :=
  forN 32 (fun g a =>
    match s.gpioOut g with
    | some b => if old.gpioOut g = some b then a else a.emit (.pin ("GPIO" ++ toString g) b)
    | none => a) s

/-- An edge on a GPIO input: an enabled one on a SOFTWARE pin sets its GPIO_EVT bit and may wake the device; a REF_STATUS pin reaches
its ATOM entries (R216, R898, R916). -/
def gpioEdge (g : Nat) (level : Bool) (s : State) : State :=
  let was := bit s.lsp.gpioIn g
  if was = level then s
  else
    let s1 := { s with lsp := { s.lsp with gpioIn := setBit s.lsp.gpioIn g level } }
    match s1.gpioFunc g with
    | 0 =>
      if s1.rb (if level then Reg.GPIO_RISE else Reg.GPIO_FALL) g then
        wakeRequest 17 (raiseEvt Reg.LSP 3 (s1.hwSet Reg.GPIO_EVT g))
      else s1
    | 2 => entEvalAll s1
    | _ => s1

/-! ### The inventory wire (R899, R900) -/

/-- A write of INV_CMD: SEARCH starts a search unless one runs. (DEDUCED, log 96.) -/
def wrInvCmd (v : Word) (s : State) : State :=
  if bit v 0 = false ∨ s.lsp.invBusy then s
  else ({ s with lsp := { s.lsp with invBusy := true } }.resetRegs (Reg.INV_ID 0) 64).setReg Reg.INV_STAT 0x10

/-- One WALK: at each bit, what the ZERO and the ONE slot read (low or not) and the branch taken; where both read low, the branch that
the bits to take give, else 0. The bits, and the places at which a branch 1 is left unexplored; none where no module remains (R899,
R900). -/
def walkFrom : List Bool → Nat → List (Bool × Bool) → Option (List Bool × List Nat)
  | _, _, [] => some ([], [])
  | path, i, (z, o) :: rest =>
    let both := z && o
    let b := if both then path.headD false else o
    if !z && !o then none
    else (walkFrom path.tail (i + 1) rest).map (fun r => (b :: r.1, if both && !b then i :: r.2 else r.2))

/-- An identity of 64 bits, bit 63 first. -/
def idOf (l : List Bool) : DWord := BitVec.ofNat 64 (l.foldl (fun a b => 2 * a + b2n b) 0)

/-- CHECK of an identity is right (R899). -/
def idGood (x : DWord) : Bool := crc8 ((bytesBE 8 x.toNat).take 7) == bits x 0 8

/-- How a search stands: the identities stored, the branches to take, the restarts; whether it has ended, with branch points left
unexplored, or incomplete (R899, R900). -/
structure InvWalk where
  ids : List DWord := []
  path : List Bool := []
  restarts : Nat := 0
  ended : Bool := false
  more : Bool := false
  incomplete : Bool := false
  deriving DecidableEq, Repr

/-- One attempt of the search: the presence sample, and the samples of the slots of its WALK (R899, R900). After the third restart an
INCOMPLETE attempt ends the search. -/
def InvWalk.attempt (x : InvWalk) (a : Bool × List (Bool × Bool)) : InvWalk :=
  if x.ended then x
  else
    let bad : InvWalk := if x.restarts = 3 then { x with ended := true, incomplete := true } else { restarts := x.restarts + 1 }
    match (if a.1 then walkFrom x.path 0 a.2 else none) with
    | none => bad
    | some (l, open_) =>
      if l.length ≠ 64 ∨ idGood (idOf l) = false then bad
      else
        let ids := x.ids ++ [idOf l]
        match open_.getLast? with
        | none => { x with ids := ids, ended := true }
        | some j =>
          if ids.length = 8 then { x with ids := ids, ended := true, more := true }
          else { x with ids := ids, path := l.take j ++ [true] }

/-- The attempts of a search, to its end, each with its presence sample and the samples of its slots, a bit and its complement by turns: the identities are stored as they were found, in ascending order; INCOMPLETE raises
INV_UNSTABLE (R899, R900). Attempts that do not end it leave it running. (DEDUCED, log 96.) -/
def invDone (presence : List Bool) (bits complements : List (List Bool)) (s : State) : State :=
  let x := (presence.zip (List.zipWith List.zip bits complements)).foldl InvWalk.attempt {}
  if s.lsp.invBusy = false ∨ x.ended = false then s
  else
    let s1 := { s with lsp := { s.lsp with invBusy := false } }
    let s2 := x.ids.zipIdx.foldl (fun a p => a.setRegN (Reg.INV_ID p.2) p.1.toNat 2) s1
    let s3 := s2.setReg Reg.INV_STAT
      (BitVec.ofNat 32 (x.ids.length + 32 * b2n x.incomplete + 64 * x.restarts + 256 * b2n x.more))
    raiseEvt Reg.LSP 4 (if x.incomplete then fault .lsp 0 0 s3 else s3)

/-! ### Commands -/

/-- QSPI_COMMAND (R894): a write of QSPI_CMD. -/
def execQspiCommand (m : Master) (v : Word) (s : State) : Host.Outcome State Fault Refusal := cmdW m Reg.QSPI_CMD v (wrQspiCmd) s

/-- QSPI_DONE (R894). -/
def execQspiDone (data : List Byte) (s : State) : Host.Outcome State Fault Refusal := cmdE Reg.LSP (qspiDone data) s

/-- I2C_TRANSFER (R895): a write of I2C_XFER. -/
def execI2cTransfer (m : Master) (i : Fin 4) (v : Word) (s : State) : Host.Outcome State Fault Refusal :=
  cmdW m (Reg.I2C_XFER i.val) v (wrI2cXfer i.val) s

/-- I2C_DONE (R895). -/
def execI2cDone (i : Fin 4) (nack arbLost timeout : Bool) (data : List Byte) (s : State) : Host.Outcome State Fault Refusal :=
  cmdE Reg.LSP (i2cDone i.val nack arbLost timeout data) s

/-- UART_TRANSMIT (R896): a write of UART_TX. -/
def execUartTransmit (m : Master) (u : Fin 4) (v : Word) (s : State) : Host.Outcome State Fault Refusal :=
  cmdW m (Reg.UART_TX u.val) v (wrUartTx u.val) s

/-- UART_RECEIVE (R897). -/
def execUartReceive (u : Fin 4) (ch : Byte) (fe pe brk : Bool) (s : State) : Host.Outcome State Fault Refusal :=
  cmdE Reg.LSP (uartReceive u.val ch fe pe brk) s

/-- GPIO_EDGE (R898). -/
def execGpioEdge (g : Fin 32) (level : Bool) (s : State) : Host.Outcome State Fault Refusal := cmdE Reg.LSP (gpioEdge g.val level) s

/-- SEARCH (R899): a write of INV_CMD. -/
def execInvSearch (m : Master) (v : Word) (s : State) : Host.Outcome State Fault Refusal := cmdW m Reg.INV_CMD v (wrInvCmd) s

/-- INVENTORY_SEARCH_DONE (R900). -/
def execInventorySearchDone (presence : List Bool) (bits complements : List (List Bool)) (s : State) : Host.Outcome State Fault Refusal :=
  cmdE Reg.LSP (invDone presence bits complements) s

end Sys2Proof.Machine
end

