-- ==== Sys2Proof/Machine/Mrm.lean ====
section
/-! DEFINITION. The MRAM: scrub and wear, remaps to spare sectors, read-only sectors and journalled writes (R879 to R886). The host's
journalled write ends on its command ring (Machine/Pci.lean). -/
namespace Sys2Proof.Machine

/-- MRM_STAT as it reads: with the number of spares used (R903). -/
def State.mrmStat (s : State) : Word := setFld (s.reg Reg.MRM_STAT) 0 4 s.mrm.spares

/-- Begin the remap of a logical sector (R882). (DEDUCED, log 92.) -/
def remapStart (k : Nat) (s : State) : State := { s with mrm := { s.mrm with remap := some k } }.setRb Reg.MRM_STAT 8 true

/-- A sector has reached the threshold with every spare in use: it becomes read-only (R883). -/
def sectorReadOnly (k : Nat) (s : State) : State :=
  if s.mramRo k then s else fault .mrm 0 0 (s.setRb (Reg.MRM_RO (k / 32)) (k % 32) true)

/-- A sector's count has reached the threshold: it is remapped, after any remap under way, or becomes read-only (R882, R883).
(DEDUCED, log 92.) -/
def wearOut (k : Nat) (s : State) : State :=
  let taken := s.mrm.spares + (if s.mrm.remap.isSome then 1 else 0) + s.mrm.remapQ.length
  if s.mrm.remap = some k ∨ s.mrm.remapQ.contains k then s
  else if 8 ≤ taken then sectorReadOnly k s
  else if s.mrm.remap.isSome then { s with mrm := { s.mrm with remapQ := s.mrm.remapQ ++ [k] } }
  else remapStart k s

/-- The MRAM scrub has corrected every word: the corrections of each sector are shown, and worn sectors are remapped (R881). -/
def mramScrub (counts : List (Fin 128 × Byte)) (s : State) : State :=
  if s.rf Reg.MRM_SCRUB 0 24 = 0 then s
  else
    let cnt : Nat → Nat := fun k => ((counts.find? (fun p => decide (p.1.val = k))).map (fun p => p.2.toNat)).getD 0
    let worn : Nat → Bool := fun k => decide (s.rf Reg.MRM_WEAR_TH 0 8 ≤ cnt k)
    let lo := 2 ^ 40 + eaMram
    let bad := s.badWords.filter (fun p => p.2 && decide (lo ≤ p.1) && decide (p.1 < lo + 2 ^ 24))
    let s0 := bad.foldl (fun a _ => fault .mrm 0 1 (a.count Reg.MRM_CNT_UE)) s
    let s1 := forN 128 (fun k a => (a.setRf (Reg.MRM_WEAR (k / 4)) (8 * (k % 4)) 8 (cnt k)).countBy Reg.MRM_CNT_CORR (cnt k)) s0
    forN 128 (fun (k : Nat) (a : State) => if worn k then wearOut k a else a) (raiseEvt Reg.MRM 2 s1)

/-- Copy a physical sector to another. -/
def copySector (src dst : Nat) (s : State) : State :=
  let l := s.mram.filter (fun p => decide (p.1 / 0x20000 = src))
  { s with mram := l.foldl (fun m p => AMap.set 0 m (dst * 0x20000 + p.1 % 0x20000) p.2) (s.mram.clearRange (dst * 0x20000) 0x20000) }

/-- A remap completes: the sector lies in the next spare, the writes held for it are made, and a waiting remap begins (R882). -/
def remapDone (s : State) : State :=
  match s.mrm.remap with
  | none => s
  | some k =>
    let spare := 128 + s.mrm.spares
    let s1 := (copySector (s.mramSector k) spare s).setRf (Reg.MRM_MAP (k / 4)) (8 * (k % 4)) 8 spare
    let held := s1.mrm.heldWr
    let s2 := { s1 with mrm := { s1.mrm with remap := none, spares := s1.mrm.spares + 1, heldWr := [] } }.setRb Reg.MRM_STAT 8 false
    let s3 := raiseEvt Reg.MRM 0 (held.foldl (fun a p => mramStore p.1 [p.2] a) s2)
    match s3.mrm.remapQ with
    | [] => s3
    | j :: t => remapStart j { s3 with mrm := { s3.mrm with remapQ := t } }

/-- The first case in which a remap that software asks for is refused, by its code (R884). (DEDUCED, log 92.) -/
def State.remapRej (s : State) (pc : Option DWord) (k : Nat) : Nat :=
  let own := match pc with
    | some a => decide (eaMram ≤ a.toNat) && decide (a.toNat < eaMram + 2 ^ 24) && decide ((a.toNat % eaMram) / 0x20000 = k)
    | none => false
  if own then 1
  else if 8 ≤ s.mrm.spares then 2
  else if s.mrm.remap.isSome then 3
  else if k = 0 ∨ k = 127 then 4
  else 0

/-- A write of MRM_CMD, by a thread at a pc or by another master (R884). (DEDUCED, log 92.) -/
def wrMrmCmd (pc : Option DWord) (v : Word) (s : State) : State :=
  if bit v 8 = false then s
  else
    let k := fld v 0 7
    let r := s.remapRej pc k
    let s1 := s.setRf Reg.MRM_STAT 12 4 r
    if r = 0 then remapStart k s1 else s1

/-! ### Journalled writes (R885) -/

/-- The destination and length of a journalled write are ones it takes (R885). -/
def journalOk (dst n : Nat) : Bool :=
  decide (8 ≤ n) && decide (n ≤ 4096) && decide (n % 8 = 0) && decide (dst % 8 = 0) && decide (0x20000 ≤ dst) && decide (dst + n ≤ 127 * 0x20000)

/-- Begin a journalled write: BUSY, no step done. (DEDUCED, log 93.) -/
def journalStart (w : JWrite) (s : State) : State :=
  { s with mrm := { s.mrm with active := some w } }.setRf Reg.MRM_J_STAT 0 4 4

/-- A journalled write waits while another one runs (R885). -/
def journalAsk (w : JWrite) (s : State) : State :=
  if s.mrm.active.isSome then { s with mrm := { s.mrm with waiting := s.mrm.waiting ++ [w] } } else journalStart w s

/-- Some sector of the destination is read-only. -/
def State.journalRo (s : State) (w : JWrite) : Bool := s.mramRo (w.dst / 0x20000) || s.mramRo ((w.dst + w.data.length - 1) / 0x20000)

/-- The journalled write under way completes its steps: it is applied, or ends after step 1 with FAIL at a read-only sector; JDONE is
raised and the next one begins (R885). (DEDUCED, log 93.) -/
def journalEnd (s : State) : State :=
  match s.mrm.active with
  | none => s
  | some w =>
    let ro := s.journalRo w
    let s1 := { s with mrm := { s.mrm with active := none, journal := { } } }
    let s2 := if ro then s1.setRf Reg.MRM_J_STAT 0 4 9 else (mramHold w.dst w.data s1).setRf Reg.MRM_J_STAT 0 4 3
    let s3 := raiseEvt Reg.MRM 1 s2
    match s3.mrm.waiting with
    | [] => s3
    | x :: t => journalStart x { s3 with mrm := { s3.mrm with waiting := t } }

/-- A write of MRM_J_CMD, by cluster 63 only (R885, R903). A destination or length that a journalled write does not take, or a source
that cannot be read, fails it with nothing written. (DEDUCED, log 93.) -/
def wrJCmd (m : Master) (v : Word) (s : State) : State :=
  let by63 : Bool := match m with | .cluster c => decide (c.val = 63) | _ => false
  if by63 = false ∨ bit v 0 = false then s
  else
    let dst := (s.reg Reg.MRM_J_DST).toNat
    let src := (s.reg Reg.MRM_J_SRC).toNat
    let n := s.rf Reg.MRM_J_LEN 0 13
    if journalOk dst n = false ∨ 2 ^ 25 < src + n ∨ s.memBad (eaSram + src) n then
      (if s.mrm.active.isSome then s else s.setRf Reg.MRM_J_STAT 0 4 8)
    else journalAsk { ring := none, dst := dst, data := s.sramRd src n } s

/-- The journal at boot: a whole entry is written again, a torn one discarded (R886). -/
def journalBoot (s : State) : State :=
  let j := s.mrm.journal
  if j.valid = false then s
  else
    let s1 := { s with mrm := { s.mrm with journal := { } } }
    if j.crcOk then (mramStore j.dst j.data s1).setRb Reg.MRM_J_BOOT 0 true else s1.setRb Reg.MRM_J_BOOT 1 true

/-! ### Commands -/

/-- MRAM_SCRUB_PASS (R881). -/
def execMramScrubPass (counts : List (Fin 128 × Byte)) (s : State) : Host.Outcome State Fault Refusal := cmdT Reg.MRM (mramScrub counts) s

/-- MRAM_REMAP_REQUEST (R884): a write of MRM_CMD. -/
def execMramRemapRequest (m : Master) (pc : Option DWord) (v : Word) (s : State) : Host.Outcome State Fault Refusal :=
  cmdW m Reg.MRM_CMD v (wrMrmCmd pc) s

/-- MRAM_REMAP_DONE (R882). -/
def execMramRemapDone (s : State) : Host.Outcome State Fault Refusal := cmdT Reg.MRM remapDone s

/-- JOURNAL_WRITE (R885): a write of MRM_J_CMD. -/
def execJournalWrite (m : Master) (v : Word) (s : State) : Host.Outcome State Fault Refusal := cmdW m Reg.MRM_J_CMD v (wrJCmd m) s

end Sys2Proof.Machine
end

