-- ==== Sys2Proof/Machine/Pwr.lean ====
section
/-! DEFINITION. Power states, chip resets and the boot (R907 to R926, R941). The exit from QUIESCENT, which delivers the requests that
waited, stands in Machine/Mtx.lean. -/
namespace Sys2Proof.Machine

/-! ### PWR_CMD and the entry to QUIESCENT (R914 to R916, R921, R941) -/

/-- A write of PWR_CMD (R914, R916, R921). Those of one cycle act in the order host, control cluster, JTAG, calendar (R941).
(DEDUCED, log 97.) -/
def wrPwrCmd (m : Master) (v : Word) (s : State) : State :=
  let cmd := fld v 0 2
  let bar := pwrBarred m v
  let first (c : Nat × Nat × Nat) : Bool := decide (c.1 ≤ bdrRank m)
  let cmds := s.thisCyc.pwrCmds.takeWhile first ++ (bdrRank m, cmd, bar) :: s.thisCyc.pwrCmds.dropWhile first
  let s1 := judgePwr { s with thisCyc := { s.thisCyc with pwrCmds := cmds } }
  if cmd = 0 then s
  else if bar ≠ 0 ∨ cmd = 1 then s1
  else if cmd = 2 then wakeRequest 18 s1
  else chipReset false (s.setReg Reg.PWR_RSTCAUSE 3)

/-- The entry to QUIESCENT is complete: DRAM in self-refresh, clocks stopped; a wake request held during it starts the exit
(R335, R915, R916). -/
def quiesceDone (s : State) : State :=
  if s.pwr.entering = false then s
  else
    let s1 := forN 2 (fun ch a => if a.rb (Reg.DDR_STAT ch) 0 then a.setRb (Reg.DDR_STAT ch) 1 true else a) (forN 8 laneDrop s)
    let s2 := (s1.setRf Reg.PWR_STATE 0 2 1).count Reg.PWR_CNT_QUIESCE
    let held := s.pwr.wakeHeld
    let s3 := raiseEvt Reg.PWR 0 { pwrSettled s2 with pwr := { s2.pwr with entering := false, wakeHeld := false, exiting := held, stopAt := s.bt } }
    if held then raiseEvt Reg.PWR 1 s3 else s3

/-- A new VDD_CORE set point (R912). (DESIGN CHOICE, log 98.) -/
def avsChange (t : Nat) (s : State) : State :=
  if t < 720 ∨ 800 < t ∨ t = s.rf Reg.PWR_AVS 0 10 then s else raiseEvt Reg.PWR 2 (s.setReg Reg.PWR_AVS (BitVec.ofNat 32 t))

/-! ### Supply and reset pins (R909 to R911, R917) -/

/-- PWR_GOOD rises: a cold reset, held until RESET_N is released; the oscillator gives the APLL its ratio (R58, R66, R831, R917, R958).
The straps are at the levels given. (DESIGN CHOICE, log 27.) -/
def powerRise (mhz : Nat) (b4 pref : Bool) (s : State) : State :=
  if s.pwr.good then s
  else
    let s0 := (s.resetRegs Reg.FLT_RSTCAUSE 0x10).setReg Reg.PWR_RSTCAUSE 0
    let s1 := chipReset true { s0 with bt := 0, btRun := false }
    { s1 with pwr := { s1.pwr with good := true, goodAt := 0, strapB4 := b4, strapPref := pref,
                                   oscRatio := if mhz = 10 then 100 else if 19 ≤ mhz ∧ mhz ≤ 21 then 50 else 0 } }

/-- The time-base APLL locks: Bedrock starts at 0 (R66). (DESIGN CHOICE, log 27.) -/
def apllLock (s : State) : State :=
  if s.pwr.good = false ∨ s.btRun ∨ s.pwr.oscRatio = 0 then s else { s.atCycle 0 with btRun := true }

/-- PWR_GOOD falls: BACKUP, in which only the Geode runs, and every output but WAKE_OUT is high-impedance (R59, R910, R913). -/
def powerFall (s : State) : State :=
  if s.pwr.good = false then s
  else
    let s1 := journalCut s
    { s1 with btRun := false, mtx := [], pwr := { s1.pwr with good := false } }.emit (.allPins true)

/-- RESET_N goes low: a cold reset (R917). -/
def resetAssert (s : State) : State := if s.pwr.good then chipReset true (s.setReg Reg.PWR_RSTCAUSE 1) else s

/-! ### Boot (R923 to R926) -/

/-- Shared SRAM offset of the boot image (R924). -/
@[reducible] def bootOfs : Nat := 0x1F00000

/-- One boot load from the bytes of the flash: none when it has loaded, else the refusal (R924).
(DESIGN CHOICE, log 6, 98; DEDUCED, log 97.) -/
def bootImage (flash : List Byte) (s : State) : Option LoadRej × State :=
  let h := sliceB flash 0 192
  let x := imgRanges (eaSram + bootOfs) h
  let bytes := if leAt h 0 4 = 0x31434146 then sliceB flash 0 (min (192 + x.imemSize + x.dmemSize) (2 ^ 25 - bootOfs)) else h
  let old := s.regN (Reg.CLU_LOAD 63) 2
  let s1 := (s.sramWr bootOfs bytes).setRegN (Reg.CLU_LOAD 63) (eaSram + bootOfs) 2
  let back (t : State) : State := t.setRegN (Reg.CLU_LOAD 63) old 2
  match s1.loadRej 63 with
  | some r => (some r, back (loadRefused 63 r s1))
  | none =>
    let s2 := loadDone 63 (s1.setClu 63 { s1.clu 63 with load := some x })
    if s2.rb (Reg.CLU_LOAD_STAT 63) 1 then (none, back s2)
    else (some (if s2.rf (Reg.CLU_LOAD_STAT 63) 4 4 = 7 then .hash else .memErr), back s2)

/-- Step 6: engine 504 and cluster 63 are enabled and thread 0 starts (R923). What the boot image lay in holds no content then.
(DESIGN CHOICE, log 98.) -/
def bootStart (src : Nat) (s : State) : State :=
  let s1 := (s.setRf Reg.PWR_BOOT 0 3 src).setRb Reg.PWR_BOOT 18 false
  let s2 := { s1 with sram := s1.sram.clearRange bootOfs (2 ^ 25 - bootOfs) }
  engEnCheck 504 ((s2.setRb (Reg.ENG 504 + 0x008) 0 true).setRb (Reg.CLU 63 + 0x008) 0 true)

/-- Steps 1 to 4 (R287, R886, R917, R923, R934, R945): after a cold reset the straps are sampled (R36, R807, R954).
(DESIGN CHOICE, log 7; DEDUCED, log 97.) -/
def bootPrepare (b4 pref : Bool) (s : State) : State :=
  let s1 := if s.pwr.coldPend = false then s
    else
      let t := (s.setRf Reg.LCS_STATE 0 3 s.lcs.fused).setReg Reg.SYS_COMPAT (if b4 then 3 else 0)
      { t with pwr := { t.pwr with strapB4 := b4, strapPref := pref } }.setRb Reg.MATE_STAT 4 pref
  let cause := fld (s1.reg Reg.PWR_RSTCAUSE) 0 3 + 256 * b2n (s1.rb Reg.GEO_STAT 0) + 512 * b2n (s1.rb Reg.GEO_STAT 1)
  let s2 := s1.setReg Reg.PWR_RSTCAUSE (BitVec.ofNat 32 cause)
  let s3 := (journalBoot s2).setRb Reg.PWR_BOOT 16 true
  outsUpdate (ptxCheck ((bootLoad (showRootKeys s3)).setRb Reg.PWR_BOOT 17 true))

/-- What the Geode's page raises as it leaves reset (R934, R945). -/
def geoLeave (s : State) : State :=
  let s1 := if s.rb Reg.GEO_STAT 0 then raiseEvt Reg.GEO 0 s else s
  if s1.rb Reg.GEO_STAT 3 then raiseEvt Reg.GEO 2 s1 else s1

/-- The boot after a chip reset, with the levels of the straps and what the boot flash holds at the PRIMARY and the SECONDARY address (R923 to R926).
(DESIGN CHOICE, log 7.) -/
def boot (b4 pref : Bool) (primary secondary : List Byte) (s : State) : State :=
  if s.pwr.good = false ∨ s.btRun = false ∨ s.pwr.bootPend = false then s
  else
    let s0 := { s with pwr := { s.pwr with held := false }, fct := { s.fct with since := s.bt } }
    let s1 := bdrLeave (geoLeave (bootPrepare b4 pref s0))
    let s2 := showPin { s1 with pwr := { s1.pwr with bootPend := false, coldPend := false }, flt := { s1.flt with chipRst := false } }
    match bootImage primary s2 with
    | (none, s3) => bootStart 1 s3
    | (some r, s3) =>
      match bootImage secondary (s3.setRf Reg.PWR_BOOT 4 4 r.code) with
      | (none, s4) => bootStart 2 s4
      | (some q, s4) =>
        fault .pwr 0 0 (raiseEvt Reg.PWR 3 ((s4.setRf Reg.PWR_BOOT 8 4 q.code).setRb Reg.PWR_BOOT 18 true))

/-- A load completes; when it is the one that the boot waits for, step 6 follows (R564, R926). -/
def loadEnd (c : Nat) (s : State) : State :=
  let was := (s.clu c).load.isSome
  let s1 := loadDone c s
  if c = 63 ∧ was ∧ s1.rb Reg.PWR_BOOT 18 ∧ s1.rb (Reg.CLU_LOAD_STAT 63) 1 then bootStart (if s1.pwr.bootJtag then 4 else 3) s1 else s1

/-- TRST_N low: the JTAG controller is reset and the semaphores JTAG holds are broken (R585, R917, R962). -/
def tapReset (s : State) : State := semLost semJtag { s with jtagErr := false }

/-! ### Commands -/

/-- LOAD_DONE (R564). -/
def execLoadDone (c : Fin 64) (s : State) : Host.Outcome State Fault Refusal := cmdE (Reg.CLU c.val) (loadEnd c.val) s

/-- POWER_GOOD_RISE (R911). -/
def execPowerGoodRise (oscMhz : Byte) (b4 pref : Bool) (s : State) : Host.Outcome State Fault Refusal :=
  .next (powerRise oscMhz.toNat b4 pref s)

/-- APLL_LOCK (R66). -/
def execApllLock (s : State) : Host.Outcome State Fault Refusal := .next (apllLock s)

/-- POWER_GOOD_FALL (R913). -/
def execPowerGoodFall (s : State) : Host.Outcome State Fault Refusal := .next (powerFall s)

/-- RESET_N_ASSERT (R917). -/
def execResetNAssert (s : State) : Host.Outcome State Fault Refusal := .next (resetAssert s)

/-- RESET_RELEASE (R923), with the levels of COMPAT_B4 and MATE_PREF where they are not as last given, and the bytes of the boot flash from
the address of the primary and of the secondary image. -/
def execResetRelease (straps : Option (Bool × Bool)) (flash : List Byte × List Byte) (s : State) : Host.Outcome State Fault Refusal :=
  let p := straps.getD (s.pwr.strapB4, s.pwr.strapPref)
  .next (boot p.1 p.2 flash.1 flash.2 s)

/-- TAP_RESET (R962). -/
def execTapReset (s : State) : Host.Outcome State Fault Refusal := cmdA tapReset s

/-- QUIESCE (R914): a write of PWR_CMD. -/
def execQuiesce (m : Master) (v : Word) (s : State) : Host.Outcome State Fault Refusal := cmdW m Reg.PWR_CMD v (wrPwrCmd m) s

/-- QUIESCE_ENTRY_DONE (R915). -/
def execQuiesceEntryDone (s : State) : Host.Outcome State Fault Refusal := cmdA quiesceDone s

/-- RUN (R916): a write of PWR_CMD. -/
def execPwrRun (m : Master) (v : Word) (s : State) : Host.Outcome State Fault Refusal := cmdW m Reg.PWR_CMD v (wrPwrCmd m) s

/-- PWR_CHIP_RESET (R921): a write of PWR_CMD. -/
def execPwrChipReset (m : Master) (v : Word) (s : State) : Host.Outcome State Fault Refusal := cmdW m Reg.PWR_CMD v (wrPwrCmd m) s

/-- AVS (R912). -/
def execAvs (target : BitVec 10) (s : State) : Host.Outcome State Fault Refusal := cmdE Reg.PWR (avsChange target.toNat) s

end Sys2Proof.Machine
end

