-- ==== Sys2Proof/Machine/Ref.lean ====
section
/-! DEFINITION. Reference inputs: monitors, messages, selection and fallback (chapter 4). -/
namespace Sys2Proof.Machine

/-- A write of REF_ENTn_CFG (R186, R216). -/
def putEntCfg (n : Nat) (v : Word) (s : State) : State := wrEntCfg n (s.merged (Reg.REF_ENT_CFG n) v) s

/-- The write of REF_QP_HI commits the words of this master, a word not staged keeping its committed value, and delivers the Announce
that they spell (R23, R213). -/
def wrAnnounce (m : Master) (v : Word) (s : State) : State :=
  let w : Nat := s.commitWords m Reg.REF_QP 3 v
  let s1 := (s.setRegN Reg.REF_QP w 3).dropStaged m Reg.REF_QP 3
  refAnnounce (BitVec.ofNat 32 w) (BitVec.ofNat 32 (w / 2 ^ 32)) v s1

/-- A write of a PRIO word: it takes effect in the next cycle (R210); locked bits keep their value (R11). -/
def wrPrio (a : Nat) (v : Word) (s : State) : State :=
  if s.pgLock Reg.REF then s
  else { s with ref := { s.ref with prioStage := AMap.set none s.ref.prioStage a (some (s.merged a v)) } }

/-- The offset of a PRIO word of a loop. -/
def prioAddr (l : Nat) (b : Bool) : Nat := if b then Reg.REF_LOOP_PRIO_B l else Reg.REF_LOOP_PRIO_A l

/-- ACTIVITY_TIMEOUT (R183). -/
def execActivityTimeout (n : Fin 48) (s : State) : Host.Outcome State Fault Refusal := cmdT Reg.REF (activityTimeout n) s

/-- FREQUENCY_GATE_END (R184). -/
def execFrequencyGateEnd (n : Fin 48) (s : State) : Host.Outcome State Fault Refusal := cmdT Reg.REF (gateEnd n) s

/-- MESSAGE_TIMEOUT (R183). -/
def execMessageTimeout (n : Fin 48) (s : State) : Host.Outcome State Fault Refusal := cmdT Reg.REF (messageTimeout n) s

/-- QUALIFICATION_TIMER_EXPIRE (R186). -/
def execQualificationTimerExpire (n : Fin 48) (s : State) : Host.Outcome State Fault Refusal := cmdT Reg.REF (qualExpire n) s

/-- ENTRY_CFG_WRITE (R186, R187). -/
def execEntryCfgWrite (m : Master) (n : Fin 48) (v : Word) (s : State) : Host.Outcome State Fault Refusal :=
  cmdW m (Reg.REF_ENT_CFG n) v (putEntCfg n) s

/-- ANNOUNCE_DELIVERY (R213). -/
def execAnnounceDelivery (m : Master) (v : Word) (s : State) : Host.Outcome State Fault Refusal :=
  cmdW m (Reg.REF_QP + 8) v (wrAnnounce m) s

/-- TOD_BINARY_FRAME (R195, R978): the bytes of a frame on a bound UART in binary format. -/
def execTodBinaryFrame (u : Fin 4) (frame : List Byte) (s : State) : Host.Outcome State Fault Refusal :=
  cmdE Reg.REF (fun s => if s.todBound u ∧ s.rf (Reg.REF_TOD_CFG u) 5 2 = 0 then todBytes u frame s else s) s

/-- TOD_FRAME_TIMEOUT (R978). -/
def execTodFrameTimeout (u : Fin 4) (s : State) : Host.Outcome State Fault Refusal := cmdT Reg.REF (todFrameTimeout u) s

/-- TOD_NMEA_SENTENCE (R196): a whole sentence on a bound UART in an NMEA format. -/
def execTodNmeaSentence (u : Fin 4) (text : List Byte) (s : State) : Host.Outcome State Fault Refusal :=
  cmdE Reg.REF (fun s => if s.todBound u ∧ s.rf (Reg.REF_TOD_CFG u) 5 2 ≠ 0 then todNmea u text s else s) s

/-- TOD_WINDOW_EXPIRE (R197). -/
def execTodWindowExpire (u : Fin 4) (s : State) : Host.Outcome State Fault Refusal := cmdT Reg.REF (todExpire u) s

/-- SELECT (R201, R202). -/
def execRefSelect (m : Master) (l : Fin 8) (v : Word) (s : State) : Host.Outcome State Fault Refusal :=
  cmdW m (Reg.REF_LOOP_SEL l) v (wrSel l) s

/-- DESELECT (R203). -/
def execDeselect (m : Master) (l : Fin 8) (v : Word) (s : State) : Host.Outcome State Fault Refusal :=
  cmdW m (Reg.REF_LOOP_SEL l) v (wrSel l) s

/-- PRIO_WRITE (R210). -/
def execPrioWrite (m : Master) (l : Fin 8) (b : Bool) (v : Word) (s : State) : Host.Outcome State Fault Refusal :=
  cmdW m (prioAddr l b) v (wrPrio (prioAddr l b)) s

/-- FALLBACK (R204). -/
def execFallback (l : Fin 8) (s : State) : Host.Outcome State Fault Refusal := cmdT Reg.REF (onFail l) s

/-- FALLBACK_RESCAN (R205). -/
def execFallbackRescan (l : Fin 8) (s : State) : Host.Outcome State Fault Refusal := cmdT Reg.REF (rescan l) s

/-- REF_TABLE_FAULT (R222). -/
def execRefTableFault (s : State) : Host.Outcome State Fault Refusal := cmdE Reg.REF (fault .ref 0 0) s

end Sys2Proof.Machine
end

