-- ==== Sys2Proof/Machine/Syn.lean ====
section
/-! DEFINITION. Synthesisers, clock outputs and pulse outputs: their commands and what they do by themselves (chapter 6). -/
namespace Sys2Proof.Machine

/-! ### Synthesisers (R273 to R285) -/

/-- Refuse a SYN command with a REJ code (R274, R276, R277). (DEDUCED, log 41.) -/
def synReject (n code : Nat) (s : State) : State := s.setRf (Reg.SYN_STAT n) 24 4 code

/-- A LOCK command: refused with N_RANGE or NO_BAND in any state, and taken in IDLE, LOCKED and LOST (R273, R274, R277, R279).
(DEDUCED, log 41.) -/
def synLockCmd (n : Nat) (s : State) : State :=
  let cfg := s.reg (Reg.SYN_CFG n)
  let num := s.regN (Reg.SYN_NUM n) 2
  if num / 2 ^ 48 < 16 then synReject n 3 s
  else
    match s.pickBand n cfg num (s.bandTable n), s.synSt n with
    | none, _ => synReject n 1 s
    | some _, .measure => s
    | some _, .locking => s
    | some b, _ =>
      let s1 := synReject n 0 (s.setSynS n { s.synS n with cfg := cfg, num := num, bands := s.bandTable n, trying := false })
      setSyn n .locking (s1.setRf (Reg.SYN_STAT n) 8 6 b)

/-- A STOP command, or CTRL.EN at 0 (R279). -/
def synStopCmd (n : Nat) (s : State) : State := setSyn n .idle s

/-- A BMEAS command for a band (R276). -/
def synMeasure (n b : Nat) (s : State) : State :=
  if s.synSt n = .idle then setSyn n .measure (synReject n 0 (s.setSynS n { s.synS n with mband := b }))
  else synReject n 2 s

/-- A write of SYN_CMD: LOCK, STOP and BMEAS, taken in the order of their bits; none while the block is disabled (R279, R309).
(DEDUCED, log 41.) -/
def wrSynCmd (n : Nat) (v : Word) (s : State) : State :=
  if ¬ s.pgEn (Reg.SYN n) then s
  else
    let s1 := if bit v 0 then synLockCmd n s else s
    let s2 := if bit v 1 then synStopCmd n s1 else s1
    if bit v 2 then synMeasure n (fld v 8 6) s2 else s2

/-- F_LO and F_HI of the VCO cycles counted in 100 µs at each limit: a count is 10 kHz, a unit 250 kHz, the lower rounded up and the upper
down (R276). -/
def bandLimits (lo hi : Nat) : Word := BitVec.ofNat 32 (cdiv lo 25 % 2 ^ 16 + hi / 25 % 2 ^ 16 * 65536)

/-- A measurement of a band ends with the counts of its two limits (R276). -/
def synMeasured (n : Nat) (lo hi : BitVec 24) (s : State) : State :=
  if s.synSt n = .measure then raiseEvt (Reg.SYN n) 1 (setSyn n .idle (s.setReg (Reg.SYN_BMEAS n) (bandLimits lo.toNat hi.toNat)))
  else s

/-- The phase error has stayed within the window: a lock attempt succeeds; out of LOST f_app goes on as R283 moves it (R279, R280, R283,
R285). -/
def synAchieved (n : Nat) (s : State) : State :=
  match s.synSt n with
  | .locking => synLocked n s
  | .lost => if (s.synS n).trying then setSyn n .locked (s.setSynS n { s.synS n with trying := false }) else s
  | .idle | .measure | .locked => s

/-- LOST is entered: it is counted and fault LOL is raised (R280). -/
def synLost (n : Nat) (s : State) : State :=
  let s1 := setSyn n .lost (s.setSynS n { s.synS n with trying := false })
  fault .syn n 0 (s1.count (Reg.SYN_CNT_LOL n))

/-- LOCKING has not led to LOCKED within 2 ms (R279). -/
def synTimeout (n : Nat) (s : State) : State :=
  if s.synSt n = .locking ∧ s.elapsed (s.synS n).since 2000000 then synLost n s else s

/-- The phase error has left the window for 4 PFD cycles (R279). -/
def synLol (n : Nat) (s : State) : State := if s.synSt n = .locked then synLost n s else s

/-- Every 2 ms in LOST the band is selected again with the present f_app, from the table of the last LOCK, and a lock is attempted (R273,
R278, R280). -/
def synRelock (n : Nat) (s : State) : State :=
  if s.synSt n = .lost ∧ s.elapsed (s.synS n).since 2000000 then
    let s1 := s.setSynS n { s.synS n with since := s.bt }
    match s1.pickBand n (s1.synS n).cfg (s1.synS n).num (s1.synS n).bands with
    | none => s1.setSynS n { s1.synS n with trying := false }
    | some b => (s1.setSynS n { s1.synS n with trying := true }).setRf (Reg.SYN_STAT n) 8 6 b
  else s

/-- A step of a slew, every 10 µs (R283). -/
def synStep (n : Nat) (s : State) : State :=
  if s.rb (Reg.SYN_STAT n) 16 ∧ s.elapsed (s.synS n).slewAt 10000 then synSlewStep n s else s

/-! ### Clock outputs (R291 to R298) -/

/-- A write of OUT_CMD: the running outputs of the mask are disabled to be aligned; with none, the command completes at once (R298). -/
def wrOutCmd (v : Word) (s : State) : State :=
  let m := (List.range 12).foldl (fun a n => if bit v n && s.outRun n then a + 2 ^ n else a) 0
  if m = 0 ∧ s.outs.sync = 0 then (if fld v 0 12 = 0 then s else raiseEvt Reg.OUT 3 s)
  else outsUpdate { s with outs := { s.outs with sync := s.outs.sync ||| m } }

/-- The divider of an output being aligned restarts on the next edge of its VCO, which the outputs of one synthesiser have in common: a low
phase of the coarse delay, then a full high one if the output is to run (R291, R294, R298). -/
def outRestart (n : Nat) (s : State) : State :=
  let x := s.outClk n
  if x.on = false then s
  else
    let d := s.outDiv n
    let c := s.rf (Reg.OUT_CDLY n) 0 25 % (2 * d)
    s.setOutClk n { x with high := false, d := d, c := c, next := s.synPh x.syn s.bt / phUnit + 1 + c, gate := s.outWant n, fine := s.outFine n }

/-- Every output being aligned has stopped, at the end of a full high phase (R291, R298). -/
def State.syncReady (s : State) : Bool :=
  (List.range 12).all (fun n => decide (s.outs.sync / 2 ^ n % 2 = 0) || !(s.outClk n).gate)

/-- The dividers of the outputs being aligned restart on one edge and the outputs run again, once all of them have stopped (R298). -/
def syncDone (s : State) : State :=
  if s.outs.sync = 0 ∨ s.syncReady = false then s
  else
    let m := s.outs.sync
    let al := (List.range 12).foldl (fun a n => if m / 2 ^ n % 2 = 1 then AMap.set 0 a n s.bt else a) s.outs.align
    let t := { s with outs := { s.outs with sync := 0, align := al } }
    raiseEvt Reg.OUT 3 (outsUpdate (forN 12 (fun n a => if m / 2 ^ n % 2 = 1 then outRestart n a else a) t))

/-- A write of OUTn_CFG: FMT is kept while the output runs (R297). -/
def wrOutCfg (n : Nat) (v : Word) (s : State) : State :=
  let a := Reg.OUT_CFG n
  let w := if s.rb (Reg.OUT_STATN n) 0 then setFld v 8 2 (s.rf a 8 2) else v
  outsUpdate (plainWrite a w s)

/-! ### Pulse outputs (R299 to R308) -/

/-- PPSn_DLY_ECAL (R318). -/
def State.ppsEcal (s : State) (n : Nat) : Int :=
  satS 9 ((bits (s.reg (Reg.PPS_DLY_FCAL n)) 0 9).toInt + (bits (s.reg (Reg.PPS_DLY_UCAL n)) 0 9).toInt)

/-- served(b) - Δ of an output, with the parameters committed 32 cycles before b; a change committed since then is left out, a step with its
share of Δ (R300, R301, R303). (DEDUCED, log 42.) -/
def State.ppsServed (s : State) (n : Nat) (b : BT80) : WT96 :=
  let d := BitVec.ofInt 96 (s.ppsDelta n)
  match s.bdr.hist with
  | (a, p1) :: _ =>
    if atOrAfter (b - cyc 32) s.bdr.parCom then s.bdr.par.served b - d
    else
      let p0 := (s.paramsAt (a - cyc 1)).1
      p0.served b + (p1.served a - p0.served a) - d
  | [] => s.bdr.par.served b - d

/-- The least fraction from f on, among n halvings of the range, at which an edge for target t is due. (DESIGN CHOICE, log 43.) -/
def ppsFraction (s : State) (n : Nat) (t : WT96) : Nat → Nat → Nat → Nat
  | 0, _, hi => hi
  | k + 1, lo, hi =>
    let m := (lo + hi) / 2
    if hi ≤ lo then hi
    else if atOrAfter (s.ppsServed n (s.bt + BitVec.ofNat 80 m)) t then ppsFraction s n t k lo m
    else ppsFraction s n t k (m + 1) hi

/-- The Bedrock value of an edge for target t in the present cycle, if it falls in it (R300). -/
def State.ppsDue (s : State) (n : Nat) (t : WT96) : Option BT80 :=
  if atOrAfter (s.ppsServed n (s.bt + 65535)) t then some (s.bt + BitVec.ofNat 80 (ppsFraction s n t 17 0 65535)) else none

/-- Drive an edge at a Bedrock value, after the fine delay (R300). -/
def ppsDrive (n : Nat) (active : Bool) (b : BT80) (s : State) : State :=
  let ps := rne ((b.toNat % 65536 : Nat) * 1000) 65536 + 256 - s.ppsEcal n
  let c := b.toNat / 65536 * 65536
  s.emit (.edge ("PPS_OUT" ++ toString n) (active != s.rb (Reg.PPS_CFG n) 4) (BitVec.ofNat 80 c + BitVec.ofInt 80 (ps / 1000 * 65536)) (ps % 1000))

/-- The edge of a pulse output that falls in the present cycle: a leading edge at its target, or a trailing edge W after it (R300,
R306, R308). (DEDUCED, log 42.) -/
def ppsEdge (n : Nat) (s : State) : State :=
  let x := s.ppsS n
  match s.ppsRun n, x.target with
  | true, some t =>
    if x.active then
      let due := match x.endAt with
        | some b => if atOrAfter (s.bt + 65535) b then some b else none
        | none => s.ppsDue n (t + wtNs x.width)
      match due with
      | none => s
      | some b =>
        let s1 := ppsDrive n false b s
        if x.stopDue then
          raiseEvt Reg.PPS 3
            ((s1.setPps n { x with active := false, target := none, stopDue := false, endAt := none }).setRb (Reg.PPS_STAT n) 0 false)
        else s1.setPps n { x with active := false, target := some (x.targetNo (x.firstAfter t.toNat)) }
    else
      match s.ppsDue n t with
      | none => s
      | some b => (ppsDrive n true b s).setPps n { x with active := true, last := some t, width := s.ppsW n }
  | _, _ => s

/-- A write of PPS_CMD arms alignments (R305). -/
def wrPpsCmd (v : Word) (s : State) : State := forN 4 (fun n a => if bit v n then ppsArm n a else a) s

/-- A write of MODE, RATE or OFS while the output runs is held until the next switch instant (R307). -/
def ppsHeld (n : Nat) (s : State) : State :=
  let c := s.reg (Reg.PPS_CFG n)
  let x := s.ppsS n
  let ofs := (s.reg (Reg.PPS_OFS n)).toInt
  let differs := decide (fld c 1 3 ≠ x.mode) || decide (fld c 16 14 ≠ x.rate) || decide (ofs ≠ x.ofs)
  if s.ppsRun n then s.setRb (Reg.PPS_STAT n) 2 differs else s

/-- A write of PPSn_CFG: setting EN arms an alignment, clearing it stops the output (R305, R307, R319). -/
def wrPpsCfg (n : Nat) (v : Word) (s : State) : State :=
  let a := Reg.PPS_CFG n
  let old := s.reg a
  let s1 := ppsHeld n (plainWrite a v s)
  let pol := s1.rb a 4
  let s2 := if pol ≠ bit old 4 then s1.emit (.pin ("PPS_OUT" ++ toString n) ((s1.ppsS n).active != pol)) else s1
  if s2.rb a 0 && !bit old 0 then ppsArm n s2
  else if !s2.rb a 0 && bit old 0 then ppsStop n s2
  else s2

/-- A write of PPSn_OFS (R307). -/
def wrPpsOfs (n : Nat) (v : Word) (s : State) : State := ppsHeld n (plainWrite (Reg.PPS_OFS n) v s)

/-- The switch instant has come: the output is inactive and its next leading edge, if it has one, is at least 2 µs ahead (R305). -/
def State.ppsMaySwitch (s : State) (n : Nat) : Bool :=
  let x := s.ppsS n
  s.rb (Reg.PPS_STAT n) 3 && !x.active &&
    match x.target with
    | none => true
    | some t => atOrAfter (t - s.ppsNow n) (wtNs 2000)

/-- A write of PPSn_MTH: the threshold is judged at once (R304). -/
def wrPpsMth (n : Nat) (v : Word) (s : State) : State := ppsJudge n (plainWrite (Reg.PPS_MTH n) v s)

/-- The switch instant of an alignment; an output with EN=0 clears Δ and takes its settings, and stays stopped (R305, R306, R319).
(DEDUCED, log 42.) -/
def ppsSwitch (n : Nat) (s : State) : State :=
  if ¬ s.ppsMaySwitch n then s
  else
    let c := s.reg (Reg.PPS_CFG n)
    let x0 := s.ppsS n
    let x := { x0 with mode := fld c 1 3, rate := fld c 16 14, ofs := (s.reg (Reg.PPS_OFS n)).toInt, stopDue := false }
    let now := s.now.toNat
    let i0 := x.firstAfter now
    let i1 := x.firstAfter (now + 1000 * 65536 : Nat)
    let i2 := match x.last with
      | some l => max i1 (x.firstAfter l.toNat)
      | none => i1
    let s1 := s.setRegN (Reg.PPS_DLT n) 0 2
    let on := bit c 0
    let s2 := s1.setReg (Reg.PPS_STAT n) (BitVec.ofNat 32 (b2n on))
    let s3 := s2.setPps n { x with target := if on then some (x.targetNo i2) else none }
    let s4 := if on = true ∧ i0 < i2 then raiseEvt Reg.PPS 2 (s3.countBy Reg.PPS_CNT_SKIP (i2 - i0)) else s3
    raiseEvt Reg.PPS 1 s4

/-! ### Commands -/

/-- SYN_LOCK (R277): a write of SYN_CMD. -/
def execSynLock (m : Master) (n : Fin 4) (v : Word) (s : State) : Host.Outcome State Fault Refusal :=
  cmdW m (Reg.SYN_CMD n) v (wrSynCmd n) s

/-- SYN_STOP (R279): a write of SYN_CMD. -/
def execSynStop (m : Master) (n : Fin 4) (v : Word) (s : State) : Host.Outcome State Fault Refusal :=
  cmdW m (Reg.SYN_CMD n) v (wrSynCmd n) s

/-- BMEAS (R276): a write of SYN_CMD. -/
def execBmeas (m : Master) (n : Fin 4) (v : Word) (s : State) : Host.Outcome State Fault Refusal :=
  cmdW m (Reg.SYN_CMD n) v (wrSynCmd n) s

/-- BMEAS_DONE (R276). -/
def execBmeasDone (n : Fin 4) (lo hi : BitVec 24) (s : State) : Host.Outcome State Fault Refusal :=
  cmdT (Reg.SYN n) (synMeasured n lo hi) s

/-- SYN_LOCK_ACHIEVED (R279). -/
def execSynLockAchieved (n : Fin 4) (s : State) : Host.Outcome State Fault Refusal := cmdE (Reg.SYN n) (synAchieved n) s

/-- SYN_LOCK_TIMEOUT (R279). -/
def execSynLockTimeout (n : Fin 4) (s : State) : Host.Outcome State Fault Refusal := cmdT (Reg.SYN n) (synTimeout n) s

/-- LOL (R280). -/
def execSynLol (n : Fin 4) (s : State) : Host.Outcome State Fault Refusal := cmdE (Reg.SYN n) (synLol n) s

/-- SYN_RELOCK_ATTEMPT (R280). -/
def execSynRelockAttempt (n : Fin 4) (s : State) : Host.Outcome State Fault Refusal := cmdT (Reg.SYN n) (synRelock n) s

/-- SYN_SLEW_STEP (R283). -/
def execSynSlewStep (n : Fin 4) (s : State) : Host.Outcome State Fault Refusal := cmdT (Reg.SYN n) (synStep n) s

/-- OUTPUT_SYNC (R298). -/
def execOutputSync (m : Master) (v : Word) (s : State) : Host.Outcome State Fault Refusal := cmdW m Reg.OUT_CMD v (wrOutCmd) s

/-- SYNC_DONE (R298). -/
def execSyncDone (s : State) : Host.Outcome State Fault Refusal := cmdT Reg.OUT syncDone s

/-- OUT_CFG_PAR (R317). -/
def execOutCfgPar (s : State) : Host.Outcome State Fault Refusal := cmdE Reg.OUT (fault .out 0 0) s

/-- PPS_EDGE (R300). -/
def execPpsEdge (n : Fin 4) (s : State) : Host.Outcome State Fault Refusal := cmdT Reg.PPS (fun t => if (ppsEdge n t).outs = t.outs then t else storeWrite .pps 0 (ppsEdge n t)) s

/-- ALIGN (R305): a write of PPS_CMD. -/
def execPpsAlign (m : Master) (v : Word) (s : State) : Host.Outcome State Fault Refusal := cmdW m Reg.PPS_CMD v (wrPpsCmd) s

/-- PPS_CFG_WRITE (R305, R307). -/
def execPpsCfgWrite (m : Master) (n : Fin 4) (v : Word) (s : State) : Host.Outcome State Fault Refusal :=
  cmdW m (Reg.PPS_CFG n) v (wrPpsCfg n) s

/-- ALIGNED (R305). -/
def execAligned (n : Fin 4) (s : State) : Host.Outcome State Fault Refusal := cmdT Reg.PPS (fun t => if t.ppsMaySwitch n then storeWrite .pps 0 (ppsSwitch n t) else t) s

end Sys2Proof.Machine
end

