-- ==== Sys2Proof/Machine/Tdc.lean ====
section
/-! DEFINITION. Time-interval measurement: edges, captures, results, arming and the linearity test (chapter 9). -/
namespace Sys2Proof.Machine

/-- A channel beside its registers. -/
def State.tdcCh (s : State) (c : Nat) : TdcCh := AMap.get { } s.tdc.chs c

/-- Store a channel, showing its FIFO level and arming in STAT (R449). -/
def State.setTdcCh (s : State) (c : Nat) (x : TdcCh) : State :=
  { s with tdc := { s.tdc with chs := AMap.set { } s.tdc.chs c x } }.setReg (Reg.TDC_CH_STAT c)
    (BitVec.ofNat 32 (x.fifo.length + b2n (decide (0 < x.arm)) * 256))

/-- SRC of a channel (R450). -/
def State.tdcSrc (s : State) (c : Nat) : Nat := s.rf (Reg.TDC_CH_CFG c) 24 6
/-- EN of a channel (R450). -/
def State.tdcEn (s : State) (c : Nat) : Bool := s.rb (Reg.TDC_CH_CFG c) 0
/-- MODE of a channel (R442). -/
def State.tdcMode (s : State) (c : Nat) : Nat := s.rf (Reg.TDC_CH_CFG c) 2 2
/-- The channel serves the lane scan (R445). -/
def State.tdcTaken (s : State) (c : Nat) : Bool := s.rb Reg.TDC_GCFG 0 && decide (28 ≤ c)
/-- The channel counts: it and the page are enabled, and it is not taken by the lane scan (R431, R445, R975). -/
def State.tdcRuns (s : State) (c : Nat) : Bool := s.tdcEn c && s.pgEn Reg.TDC && !s.tdcTaken c

/-- A SRC code that names a source (R428). -/
def srcOk (v : Nat) : Bool :=
  decide (v ≤ 0x16) || (decide (0x18 ≤ v) && decide (v ≤ 0x1B)) || (decide (0x20 ≤ v) && decide (v ≤ 0x2B)) || decide (v = 0x3F)

/-! ### Capture (R432 to R436) -/

/-- The decimation of a channel (R433). -/
def State.tdcDec (s : State) (c : Nat) : Nat :=
  let d := s.rf (Reg.TDC_CH_CFG c) 8 16
  if d ≠ 0 then d
  else if s.tdcSrc c < 16 then max 1 (cdiv (s.entNom (s.tdcSrc c)) 100000) else 1

/-- INL_ECAL of a segment: the sum of its layers, saturated (R30, R449). -/
def State.inlEcal (s : State) (c seg : Nat) : Int :=
  let part (a : Nat) : Int := (bits (s.reg a) (8 * (seg % 4)) 8).toInt
  satS 8 (part (Reg.TDC_CH_INL_FCAL c (seg / 4)) + part (Reg.TDC_CH_INL_UCAL c (seg / 4)))

/-- The BT80 of a captured edge (R435). -/
def State.tdcTime (s : State) (c : Nat) (n64 raw9 : Nat) : BT80 :=
  let f : Int := (raw9 : Int) * 128 + s.inlEcal c (raw9 / 32) * 16 + s.ecal16 (Reg.TDC_CH_SKEW_FCAL c) (Reg.TDC_CH_SKEW_UCAL c) -
    rne ((s.reg (Reg.TDC_CH_CBL_UCAL c)).toInt * 65536) 1000
  BitVec.ofInt 80 ((n64 : Int) * 65536 + f)

/-- Cycle number of a Bedrock value. -/
def cycleNo (b : BT80) : Nat := b.toNat / 65536

/-- A gate is active for an edge in cycle n64: the sample of three cycles earlier applies (R443). -/
def State.gateActive (s : State) (g n64 : Nat) : Bool :=
  let p := AMap.get { } s.tdc.gates g
  if cycleNo p.at_ + 3 ≤ n64 then p.lvl else p.prev

/-- An edge in cycle n64 lies in the channel's arming window (R442, R443). -/
def State.tdcWindow (s : State) (c n64 : Nat) : Bool :=
  let x := s.tdcCh c
  match s.tdcMode c with
  | 0 => true
  | 1 => s.gateActive (s.rf (Reg.TDC_CH_CFG c) 4 2) n64
  | _ => decide (0 < x.arm) && decide (x.armAt < n64)

/-- Two captures are at least 3.2 ns apart (R432). (DEDUCED, log 50.) -/
def pastDead (last : Option BT80) (b : BT80) : Bool :=
  match last with
  | none => true
  | some l => decide (16 * 65536 ≤ 5 * (b - l).toInt)

/-- Store a result, or lose it to a full FIFO (R437, R439, R452). -/
def tdcStore (c : Nat) (b : BT80) (s : State) : State :=
  let x := s.tdcCh c
  if s.rb (Reg.TDC_CH_CFG c) 6 = false then s
  else
    let flg := BitVec.ofNat 32 (2 ^ 31 + b2n s.warm * 2 ^ 30 + b2n x.ovf * 2 ^ 29 + b2n x.dead * 2 ^ 28 + s.tdcSrc c)
    let r : TdcResult := { bt := b, cnt := x.cnt, flg := flg, bad := s.inject Reg.TDC 0 }
    if 16 ≤ x.fifo.length then
      raiseEvt Reg.TDC 1 ((s.setTdcCh c { x with ovf := true, lost := some (s.bt, r, x.ovf) }).count Reg.TDC_CNT_OVF)
    else raiseEvt Reg.TDC 0 (s.setTdcCh c { x with fifo := x.fifo ++ [r], ovf := false, dead := false })

/-- Take one back from a count: a count that has been cleared since stays 0, and a saturated one stays as it is. -/
def uncount (a : Nat) (s : State) : State :=
  if s.reg a = 0 ∨ s.reg a = BitVec.allOnes 32 then s else s.setReg a (s.reg a - 1)

/-- A result that the cycle of a read has lost to the full FIFO is stored in the place that the read frees (R439).
(DEDUCED, log 50.) -/
def tdcRegain (c : Nat) (s : State) : State :=
  let x := s.tdcCh c
  match x.lost with
  | some (b, r, _) =>
    if b ≠ s.bt ∨ 16 ≤ x.fifo.length then s
    else
      raiseEvt Reg.TDC 0 (uncount Reg.TDC_CNT_OVF
        (s.setTdcCh c { x with fifo := x.fifo ++ [r], ovf := false, dead := false, lost := none }))
  | none => s

/-- The channel that feeds REF for a source (R440). -/
def State.tdcRoute (s : State) (src : Nat) : Option Nat :=
  (List.range 32).find? (fun c => s.tdcRuns c && decide (s.tdcMode c = 0) && decide (s.tdcSrc c = src))

/-- The entries that a channel's edges reach (R440). -/
def State.tdcEntries (s : State) (c : Nat) : List Nat :=
  let src := s.tdcSrc c
  if s.tdcRoute src ≠ some c then []
  else if src < 16 then src :: [46, 47].filter (fun e => decide (s.rf (Reg.REF_ENT_CFG e) 8 4 = src))
  else if src = 0x14 then [44] else []

/-- The time of an edge that serves time: from the last accepted ToD message and the pulses since, or the nearest multiple of the
nominal period where the operator asserts the time (R198, R223). (DEDUCED, log 36.) -/
def State.edgeTime (s : State) (e : Nat) (b : BT80) : Option WT96 :=
  if s.servesTime e = false then none
  else if (s.todOf e).isSome then
    (s.ent e).todSec.map (fun sec => wtNs ((sec + (s.ent e).pulses) * 1000000000))
  else
    let per : Nat := 1000000000 * 65536
    let k := (rne ((s.servedAt b).toNat * s.entNom e) per).toNat
    some (BitVec.ofInt 96 (rne (k * per : Nat) (s.entNom e)))

/-- A captured edge of an entry reaches the loops, one in ceil(NOM / 100,000) as a measurement (R224). -/
def edgeLoops (e k : Nat) (b : BT80) (s : State) : State :=
  let x := s.ent e
  let d := match x.loopK with
    | some j => (k + 2 ^ 32 - j) % 2 ^ 32
    | none => cdiv (s.entNom e) 100000
  if d < cdiv (s.entNom e) 100000 then s
  else
    loopsTake e b (s.edgeTime e b) d (s.setEnt e { x with loopK := some k })

/-- An edge of a channel that is counted and not captured reaches an entry: its activity monitor sees it, and it is a pulse of a REFIN with a
bound ToD UART (R197, R198, R431, R440). -/
def tdcSeen (n64 e : Nat) (s : State) : State :=
  let s1 := refCounted e s
  if (s1.todOf e).isSome ∧ e < 16 then todPulse e (BitVec.ofNat 80 (n64 * 65536)) s1 else s1

/-- A captured edge reaches an entry (R197, R440). -/
def tdcDeliver (k : Nat) (b : BT80) (e : Nat) (s : State) : State :=
  let s1 := refEdge e k b s
  let s2 := if (s1.todOf e).isSome ∧ e < 16 then todPulse e b s1 else s1
  if e = 44 then mateCapture b s2 else edgeLoops e k b s2

/-- An edge of a channel's source and polarity in cycle n64 (R431 to R434). -/
def tdcCount (c n64 raw9 : Nat) (s : State) : State :=
  let x0 := s.tdcCh c
  if n64 ≤ x0.enAt then s
  else
    let k := x0.cnt + 1
    let es := s.tdcEntries c
    let s1 := s.setTdcCh c { x0 with cnt := k }
    let x := s1.tdcCh c
    let seen (t : State) : State := es.foldl (fun a e => tdcSeen n64 e a) t
    if k ≠ x.due then seen s1
    else if s1.tdcWindow c n64 = false ∨ s1.fltBit Reg.TDC 1 then seen (s1.setTdcCh c { x with due := k + 1 })
    else
      let b := s1.tdcTime c n64 raw9
      if pastDead x.lastCap b then
        let arm := if 2 ≤ s1.tdcMode c then x.arm - 1 else x.arm
        let s2 := s1.setTdcCh c { x with due := k + BitVec.ofNat 32 (s1.tdcDec c), lastCap := some b, arm := arm }
        es.foldl (fun a e => tdcDeliver k.toNat b e a) (tdcStore c b s2)
      else
        seen (raiseEvt Reg.TDC 2 ((s1.setTdcCh c { x with due := k + 1, dead := true }).count Reg.TDC_CNT_DEAD))

/-- An edge on a source: `rise` is its direction at the ball (R430). -/
def tdcEdge (src : Nat) (rise : Bool) (n64 raw9 : Nat) (s : State) : State :=
  forN 32 (fun c a =>
    if a.tdcRuns c && decide (a.tdcSrc c = src) && (rise != a.rb (Reg.TDC_CH_CFG c) 1) then tdcCount c n64 raw9 a else a) s

/-! ### Results (R438) -/

/-- A read of RES_LO: the oldest result, its other words in the reader's shadow (R438, R452). -/
def rdTdcRes (m : Master) (c : Nat) (s : State) : Word × State :=
  let x := s.tdcCh c
  let put (b : BT80) (cnt flg : Word) (t : State) : Word × State :=
    let t1 := (t.setShadow m (Reg.TDC_CH_RES_MID c) (bits b 32 32)).setShadow m (Reg.TDC_CH_RES_HI c) (BitVec.ofNat 32 (fld b 64 16))
    (bits b 0 32, (t1.setShadow m (Reg.TDC_CH_RES_CNT c) cnt).setShadow m (Reg.TDC_CH_RES_FLG c) flg)
  match x.fifo with
  | [] => put 0 0 0 s
  | r :: t =>
    let s1 := tdcRegain c (s.setTdcCh c { x with fifo := t })
    if r.bad then put r.bt r.cnt (r.flg &&& 0x7FFFFFFF#32) (fault .tdc 0 0 s1) else put r.bt r.cnt r.flg s1

/-! ### Arming and configuration (R442 to R446) -/

/-- An arming event of a channel in a cycle (R442, R443). -/
def armCh (c n64 : Nat) (s : State) : State :=
  let x := s.tdcCh c
  s.setTdcCh c { x with arm := s.rf (Reg.TDC_CH_ARMN c) 0 16, armAt := if x.arm = 0 then n64 else x.armAt }

/-- A write of TDC_ARM (R442). -/
def wrTdcArm (v : Word) (s : State) : State :=
  forN 32 (fun c a => if bit v c && decide (a.tdcMode c = 3) && !a.tdcTaken c then armCh c (cycleNo s.bt) a else a) s

/-- The sample of a gate has a level, with the polarity applied: it applies three cycles later, and an active-going edge arms the channels in
TRIGGER mode on the gate (R442, R443). (DEDUCED, log 50.) -/
def gateSample (g : Nat) (lvl : Bool) (s : State) : State :=
  let p := AMap.get { } s.tdc.gates g
  if p.lvl = lvl then s
  else
    let s1 := { s with tdc := { s.tdc with gates := AMap.set { } s.tdc.gates g { p with lvl := lvl, prev := p.lvl, at_ := s.bt } } }
    if lvl = false then s1
    else
      forN 32 (fun c a =>
        if decide (a.tdcMode c = 2) && decide (a.rf (Reg.TDC_CH_CFG c) 4 2 = g) && !a.tdcTaken c then armCh c (cycleNo s.bt + 3) a
        else a) s1

/-- A gate pin has a level (R443). (DEDUCED, log 50.) -/
def gateEdge (g : Nat) (level : Bool) (s : State) : State :=
  let p := AMap.get { } s.tdc.gates g
  gateSample g (level != s.rb Reg.TDC_GATE_CFG g)
    { s with tdc := { s.tdc with gates := AMap.set { } s.tdc.gates g { p with pin := level } } }

/-- A write of TDC_GATE_CFG: the gates are sampled with the new polarity (R443). -/
def wrGateCfg (v : Word) (s : State) : State :=
  forN 4 (fun g a => gateSample g ((AMap.get { } a.tdc.gates g).pin != a.rb Reg.TDC_GATE_CFG g) a) (plainWrite Reg.TDC_GATE_CFG v s)

/-- A write of TDC_CHc_CFG (R428, R444, R445, R448). (DEDUCED, log 42.) -/
def wrChCfg (c : Nat) (v : Word) (s : State) : State :=
  let a := Reg.TDC_CH_CFG c
  if s.tdcTaken c ∨ (s.tdc.calCh = some c ∧ bit v 0) then s
  else
    let old := s.reg a
    let v1 := if bit old 0 then (old &&& 0x3FFFFF3E#32) ||| (v &&& 0x41#32) else v
    let v2 := if srcOk (fld v1 24 6) then v1 else setFld v1 24 6 (fld old 24 6)
    let s1 := plainWrite a v2 s
    if bit old 0 = false ∧ s1.tdcEn c then s1.setTdcCh c { enAt := cycleNo s.bt } else s1

/-- A write of TDC_CHc_ARMN: ignored for a channel of the lane scan (R445). -/
def wrArmN (c : Nat) (v : Word) (s : State) : State := if s.tdcTaken c then s else plainWrite (Reg.TDC_CH_ARMN c) v s

/-- A write of TDC_GCFG: the lane scan takes channels 28 to 31, or frees them and ends every lane model (R445, R446, R511). -/
def wrTdcGcfg (v : Word) (s : State) : State :=
  let s1 := plainWrite Reg.TDC_GCFG v s
  if s1.rb Reg.TDC_GCFG 0 = s.rb Reg.TDC_GCFG 0 then s1
  else
    let s2 := forN 4 (fun i a => a.setTdcCh (28 + i) { }) s1
    if s2.rb Reg.TDC_GCFG 0 then s2
    else
      let s3 := forN 4 (fun i a => a.setRb (Reg.TDC_CH_CFG (28 + i)) 0 false) s2
      forN 16 (fun l a => loseLane l 1 (loseLane l 0 a)) s3

/-! ### The linearity test (R447, R448) -/

/-- A write of TDC_CAL_CMD. (DEDUCED, log 41, 50.) -/
def wrCalCmd (v : Word) (s : State) : State :=
  let c := fld v 0 5
  if ¬ bit v 8 ∨ s.pgEn Reg.TDC = false then s
  else if s.tdcEn c then s.setRf Reg.TDC_GSTAT 2 2 1
  else if s.tdc.calCh.isSome then s.setRf Reg.TDC_GSTAT 2 2 2
  else { s with tdc := { s.tdc with calCh := some c } }.setRf Reg.TDC_GSTAT 1 3 1

/-- The test ends with the corrections of the sixteen segments, in 1/8 LSB. -/
def calEnd (corr : List Byte) (s : State) : State :=
  match s.tdc.calCh with
  | none => s
  | some _ =>
    let s1 := { s with tdc := { s.tdc with calCh := none } }.setRb Reg.TDC_GSTAT 1 false
    raiseEvt Reg.TDC 3 (forN 4 (fun i a => a.setReg (Reg.TDC_CAL_RES i) (BitVec.ofNat 32 (leAt corr (4 * i) 4))) s1)

/-! ### OCXO_RDY (R441) -/

/-- OCXO_RDY has a level: a change raises WARM, and a fall ends TRACEABLE and HOLDOVER (R141, R441). -/
def ocxoRdy (level : Bool) (s : State) : State :=
  if s.warm = level then s
  else
    let s1 := raiseEvt Reg.TDC 4 (s.setRb Reg.TDC_GSTAT 0 level)
    if level then s1 else asyWithdraw s1

/-! ### Commands -/

/-- TDC_EDGE (R432). -/
def execTdcEdge (src : BitVec 6) (rise : Bool) (c : BitVec 64) (raw : BitVec 9) (s : State) : Host.Outcome State Fault Refusal :=
  cmdE Reg.TDC (tdcEdge src.toNat rise c.toNat raw.toNat) s
/-- TDC_RESULT_READ (R438): a read of RES_LO. -/
def execTdcResultRead (m : Master) (c : Fin 32) (s : State) : Host.Outcome State Fault Refusal :=
  cmdRd m (Reg.TDC_CH_RES_LO c) (rdTdcRes m c) s
/-- TDC_ARM (R442): a write of TDC_ARM. -/
def execTdcArm (m : Master) (v : Word) (s : State) : Host.Outcome State Fault Refusal := cmdW m Reg.TDC_ARM v (wrTdcArm) s
/-- TDC_GATE_EDGE (R442). -/
def execTdcGateEdge (g : Fin 4) (level : Bool) (s : State) : Host.Outcome State Fault Refusal := cmdE Reg.TDC (gateEdge g level) s
/-- TDC_CHANNEL_CFG_WRITE (R444). -/
def execTdcChannelCfgWrite (m : Master) (c : Fin 32) (v : Word) (s : State) : Host.Outcome State Fault Refusal :=
  cmdW m (Reg.TDC_CH_CFG c) v (wrChCfg c) s
/-- TDC_CAL_START (R447): a write of TDC_CAL_CMD. -/
def execTdcCalStart (m : Master) (v : Word) (s : State) : Host.Outcome State Fault Refusal := cmdW m Reg.TDC_CAL_CMD v (wrCalCmd) s
/-- CAL_DONE (R447). -/
def execCalDone (corr : List Byte) (s : State) : Host.Outcome State Fault Refusal := cmdT Reg.TDC (calEnd corr) s
/-- OCXO_RDY_CHANGE (R441): while a reset holds the page only the level is kept. -/
def execOcxoRdyChange (level : Bool) (s : State) : Host.Outcome State Fault Refusal :=
  .next (if s.alive then settle s (ocxoRdy level s) else s.setRb Reg.TDC_GSTAT 0 level)

end Sys2Proof.Machine
end

