-- ==== Sys2Proof/Machine/RegRead.lean ====
section
/-! DEFINITION. What a read of a register page or of a window returns, and what it does (R5 to R18, R24 to R27, R102, R566, R967). -/
namespace Sys2Proof.Machine

/-! ### The page header (R24 to R27, R51 to R56) -/

/-- The defined EVT_RAW bits of a page. (DEDUCED, log 20.) -/
def evtMask (k : PageKind) (inst : Nat) : Nat := natBits ((List.range 32).map (fun i => (evtOf k inst i).isSome))

/-- The defined FLT_RAW bits of a page. (DEDUCED, log 20.) -/
def fltMask (k : PageKind) (inst : Nat) : Nat := natBits ((List.range 32).map (fun i => (srcOf k inst i).isSome))

/-- The defined INJECT bits of a page. (DEDUCED, log 20.) -/
def injectMask : PageKind → Nat
  | .tdc | .prt | .pol | .qry | .trn | .clu | .eng => 3
  | .bdr | .act | .asy | .ref | .dpl | .syn | .out | .pps | .ant | .acq | .gch | .nav | .mgmt | .tsu | .sch | .key | .cry | .mate
  | .flt | .evt | .pmu | .sem | .mtx | .ddr | .mrm | .pci | .lsp => 1
  | .sys | .lcs | .pwr | .geo | .clk | .gns | .svc | .qdr => 0

/-- CAPS of a page: a port that can run 100GBASE-R shows it (R504). -/
def capsOf (p : PageRow) (inst : Nat) : Nat := if p.kind = .prt ∧ inst % 4 = 0 then 0x807 else p.caps

/-- Clusters that a quadrant page covers (R56). -/
def quadClusters (q : Nat) : List Nat := (List.range (if q = 3 then 15 else 16)).map (fun i => 16 * q + i)

/-- A cluster's engines are READY, and it is (R51). -/
def State.cluReady (s : State) (c : Nat) : Bool :=
  s.rb (Reg.CLU c + 0x00C) 0 && (List.range 8).all (fun i => s.rb (Reg.ENG (8 * c + i) + 0x00C) 0)

/-- STAT.READY of a page (R27, R51, R455). -/
def State.ready (s : State) (k : PageKind) (inst pg : Nat) : Bool :=
  match k with
  | .clu => s.cluReady inst
  | .qdr => s.rb (pg + 0x00C) 0 && (quadClusters inst).all s.cluReady
  | .prt => s.rb (pg + 0x00C) 0 && s.portActive inst
  | _ => s.rb (pg + 0x00C) 0

/-- A thread runs or waits. (DEDUCED, log 19.) -/
def State.engBusy (s : State) (e : Nat) : Bool :=
  (List.range 4).any (fun t => decide ((s.th (4 * e + t)).st = .run) || decide ((s.th (4 * e + t)).st = .wait))

/-- A cluster loads an image or one of its engines is busy (R51). (DEDUCED, log 19.) -/
def State.cluBusy (s : State) (c : Nat) : Bool := (s.clu c).load.isSome || (List.range 8).any (fun i => s.engBusy (8 * c + i))

/-- STAT.BUSY of a page: the block has work in progress that its chapter gives it (R27, R51). DEDUCED. (DEDUCED, log 19.) -/
def State.busy (s : State) (k : PageKind) (inst : Nat) : Bool :=
  match k with
  | .pwr => s.pwr.entering || s.pwr.exiting
  | .geo => s.geo.busy.isSome
  | .bdr => s.bdr.pend.isSome || s.bdr.queued.isSome || !s.bdr.held.isEmpty || s.bdr.par.slewAct
  | .act => !s.act.initQ.isEmpty || !s.act.pulses.isEmpty || s.act.slots.any (fun p => p.2.taken)
  | .asy => s.asy.pend.isSome || s.asy.queued.isSome || !s.asy.held.isEmpty
  | .syn => decide (s.synSt inst = .measure) || decide (s.synSt inst = .locking)
  | .out => decide (s.outs.sync ≠ 0)
  | .pps => (List.range 4).any (fun n => (s.ppsS n).active)
  | .tdc => s.tdc.calCh.isSome
  | .gns => s.gns.trainAt.isSome
  | .acq => s.gns.acq.active.isSome || !s.gns.acq.chq.isEmpty
  | .gch => decide (s.gchSt inst ≠ .idle) && decide (s.gchSt inst ≠ .lost)
  | .prt => (s.prtS inst).tx.isSome
  | .mgmt => (s.prtS 16).tx.isSome
  | .tsu => s.tsu.slots.any (fun p => decide (p.1 / 2048 = inst))
  | .qry => s.svc.flushAt.isSome || s.svc.clearAt.isSome
  | .key => s.key.accepted.isSome || s.key.committing.isSome
  | .trn => !s.trn.waits.isEmpty
  | .cry => !s.cry.isEmpty
  | .mate => !s.mate.ho.isEmpty || s.mate.switchAt.isSome || s.mate.leaveAt.isSome
  | .mtx => s.rb Reg.MTX_STAT 0
  | .ddr => (s.ddrC inst).training || (s.ddrC inst).scrub
  | .mrm => s.mrm.active.isSome || s.mrm.remap.isSome
  | .pci => s.pci.running.any (fun p => p.2.isSome)
  | .lsp => s.lsp.qspi.isSome || s.lsp.i2c.any (fun p => p.2.isSome) || s.lsp.invBusy
  | .clu => s.cluBusy inst
  | .qdr => (quadClusters inst).any s.cluBusy
  | .eng => s.engBusy inst
  | .sys | .lcs | .clk | .ref | .dpl | .ant | .nav | .sch | .pol | .svc | .flt | .evt | .pmu | .sem => false

/-- STAT.FROZEN of a page (R27, R51, R52). -/
def State.frozen (s : State) (k : PageKind) (inst pg : Nat) : Bool :=
  match k with
  | .eng => s.engFrozen inst
  | .clu => s.pgFrozen pg || (decide (inst ≠ 63) && s.pgFrozen (Reg.QDR (inst / 16)))
  | _ => s.pgFrozen pg

/-- Some FLT_RAW bit of a page is 1. -/
def State.pgFault (s : State) (pg : Nat) : Bool := s.reg (pg + 0x020) != 0

/-- A cluster or one of its engines shows a fault (R51). -/
def State.cluFault (s : State) (c : Nat) : Bool :=
  s.pgFault (Reg.CLU c) || (List.range 8).any (fun i => s.pgFault (Reg.ENG (8 * c + i)))

/-- STAT.FAULT of a page (R27, R51). -/
def State.faulty (s : State) (k : PageKind) (inst pg : Nat) : Bool :=
  match k with
  | .clu => s.cluFault inst
  | .qdr => s.pgFault pg || (quadClusters inst).any s.cluFault
  | _ => s.pgFault pg

/-- STAT of a page (R27). (DEDUCED, log 19.) -/
def State.statWord (s : State) (k : PageKind) (inst pg : Nat) : Word :=
  packBits [s.ready k inst pg, s.busy k inst, s.frozen k inst pg, s.faulty k inst pg]

/-- A header register as it reads (R24, R964, R966). -/
def State.hdrRead (s : State) (p : PageRow) (inst off : Nat) : Word :=
  let pg := p.base + inst * 0x1000
  if off = 0x000 then BitVec.ofNat 32 (p.typ * 0x10000 + inst % 256 * 0x100 + 1)
  else if off = 0x004 then BitVec.ofNat 32 (capsOf p inst)
  else if off = 0x00C then s.statWord p.kind inst pg
  else if off = 0x018 then s.evtPend pg
  else if off = 0x028 then BitVec.ofNat 32 (pageSum s p inst)
  else if off = 0x008 ∨ off = 0x010 ∨ off = 0x014 ∨ off = 0x020 ∨ off = 0x024 ∨ off = 0x02C then s.reg (pg + off)
  else 0

/-! ### Live values -/

/-- BDR_TSTAT (R99). -/
def State.bdrTstat (s : State) : Nat := natBits [s.bdr.pend.isSome, s.bdr.queued.isSome, s.bdr.par.slewAct]

/-- BDR_SLEW_LEFT (R87). -/
def State.slewLeft (s : State) : Nat :=
  if s.bdr.par.slewAct then (s.bdr.par.amt - BitVec.ofInt 64 (s.bdr.par.slewed s.bt)).toNat else 0

/-- ASY_TSTAT (R172). -/
def State.asyTstat (s : State) : Nat :=
  s.actRef * 2 ^ 24 + s.rf Reg.ASY_TSTAT 20 4 * 2 ^ 20 + b2n s.asy.pend.isSome * 2 ^ 19 + b2n s.asy.queued.isSome * 2 ^ 18 +
    b2n s.warm * 2 ^ 17 + b2n s.tsLocked * 2 ^ 16 + b2n s.refTrc * 2 ^ 15 + s.asy.ts.code

/-- ENG_THn_STAT (R594). -/
def Thread.statWord (t : Thread) : Nat :=
  let st := match t.st with
    | .halt => 0
    | .run => 1
    | .wait => 2
    | .fault => 3
  let on := match t.waitOn with
    | .none => 0
    | .event => 1
    | .queue => 2
    | .crypto => 3
    | .barrier => 4
    | .sema => 5
  st + b2n t.user * 4 + on * 0x100 + t.cause.toNat * 0x10000

/-- SEM_n as it reads (R596). -/
def Sem.word (x : Sem) : Nat :=
  x.owner.getD 0 + b2n x.owner.isSome * 2 ^ 16 + b2n x.broken * 2 ^ 17 + b2n (!x.waiters.isEmpty) * 2 ^ 18

/-- A two's complement number in the low bits of a word. -/
def twos (w : Nat) (x : Int) : Nat := (BitVec.ofInt w x).toNat

/-- Word j of TDC_CHc_INL_ECAL (R30). -/
def State.inlWord (s : State) (c j : Nat) : Nat :=
  (List.range 4).foldl (fun a i => a + twos 8 (s.inlEcal c (4 * j + i)) * 2 ^ (8 * i)) 0

/-- The registers of a thread as they read (R593). -/
def Thread.value (t : Thread) (off : Nat) : Option Nat :=
  match off with
  | 0x104 => some t.statWord
  | 0x108 => some t.pc.toNat
  | 0x110 => some t.epc.toNat
  | 0x118 => some t.jrnl.toNat
  | 0x120 => some t.bcast.toNat
  | 0x128 => some t.tmr.toNat
  | 0x134 => some (t.fifo.length + b2n t.tmrArmed * 0x100)
  | _ => none

/-- The value of the register whose row begins at an offset of a page, and of its index i and j, where it is not simply held: it is
taken from the block in the cycle of the read. -/
def State.liveVal (s : State) (m : Master) (k : PageKind) (inst off i j : Nat) : Option Nat :=
  match k with
  | .bdr =>
    match off with
    | 0x040 => some s.bt.toNat
    | 0x04C => some s.now.toNat
    | 0x058 => some s.bdr.par.ofs.toNat
    | 0x090 => some s.slewLeft
    | 0x0A4 => some s.bdrTstat
    | _ => none
  | .act =>
    match off with
    | 0x048 => some s.actNext.toNat
    | 0x04C => some s.actArmed
    | _ => none
  | .asy =>
    if off = 0x04C then some s.asyTstat
    else if off = 0x09C then some s.asy.cur.tlu.toNat
    else if off = 0x0A0 then some s.asy.dtmax.toNat
    else if off = 0x0D8 then some ((s.asy.cur.lu.map BitVec.toNat).getD 0)
    else if asyStagedOff (off + 8 * i) then some (s.asy.cur.val (off + 8 * i))
    else none
  | .ref =>
    if off = 0x214 then some ((setFld (s.reg (Reg.REF_ENT_STAT i)) 16 12 (s.qtLeft i)).toNat)
    else if off = 0x404 then some (s.entNom (16 + i))
    else if off = 0x7A4 then some (s.entNom 45) else none
  | .out =>
    if off = 0x118 then some (twos 9 (s.outEcal i))
    else if off = 0x048 then some (natBits ((List.range 4).map s.ptxWrong)) else none
  | .pps => if off = 0x120 then some (twos 9 (s.ppsEcal i)) else none
  | .tdc =>
    if off = 0x508 then some (twos 16 (s.ecal16 (Reg.TDC_CH_SKEW_FCAL i) (Reg.TDC_CH_SKEW_UCAL i)))
    else if off = 0x720 then some (s.inlWord i j) else none
  | .gns =>
    if off = 0x0C0 then some (natBits ((List.range 32).map (fun b => (s.gchSt (32 * i + b)).active)))
    else if off = 0x0E0 then some (natBits ((List.range 32).map (fun b => s.evtPend (Reg.GCH (32 * i + b)) != 0)))
    else none
  | .acq => if off = 0x05C then some s.acqStat else none
  | .gch => if off = 0x064 then some (twos 32 (gchAt s inst s.bt).dop) else none
  | .prt => if off = 0x060 then some (s.prtLink inst).toNat else none
  | .tsu =>
    if off = 0x04C then some (setFld (setFld (s.reg (Reg.TSU_STAT inst)) 16 4 (s.phases inst 0)) 20 4 (s.phases inst 1)).toNat
    else if off = 0x108 then some (twos 32 (s.ecal32 (Reg.TSU_TXDLY_FCAL inst i) (Reg.TSU_TXDLY_UCAL inst i)))
    else if off = 0x114 then some (twos 32 (s.ecal32 (Reg.TSU_RXDLY_FCAL inst i) (Reg.TSU_RXDLY_UCAL inst i)))
    else if off = 0x208 then some (twos 16 (s.ecal16 (Reg.TSU_TCO_FCAL inst i) (Reg.TSU_TCO_UCAL inst i)))
    else none
  | .cry => if off = 0x040 then some (s.cry.length + b2n (s.cry.any (fun o => sigOp (leAt o.desc 0 1))) * 2 ^ 16) else none
  | .flt =>
    if off = 0x080 then some (s.fltRaised i).toNat
    else if off = 0x0C0 then some (s.fltUnack i).toNat else none
  | .evt => if off = 0x040 then some (s.evtSumRead i).toNat else none
  | .pmu => if off = 0x044 then some (AMap.get 0 s.flt.pmuSel (masterId m)) else none
  | .sem => if off = 0x040 then some (s.sem i).word else none
  | .mtx => if off = 0x080 then some (configSum s) else none
  | .ddr => if off = 0x048 then some (s.ddrStat inst).toNat else none
  | .mrm => if off = 0x04C then some s.mrmStat.toNat else none
  | .lsp =>
    if off = 0x20C then some (s.uartStat i).toNat
    else if off = 0x30C then some s.lsp.gpioIn.toNat else none
  | .eng => (s.th (4 * inst + i)).value off
  | .clu =>
    if off = 0x084 then some ((s.clu inst).samples.length + b2n (decide (64 ≤ (s.clu inst).samples.length)) * 0x80)
    else none
  | .dpl =>
    if off = 0x05C then some (setFld (setFld (s.reg (Reg.DPL_STAT inst)) 22 1 (b2n (s.curValid inst))) 16 6 (s.curEntry inst)).toNat
    else if off = 0x0D0 ∧ s.outs.efcBy = some inst then some s.outs.efc.code else none
  | .syn =>
    if off ≠ 0x050 then none
    else match s.synLoop inst with
      | some l => some (setFld (s.reg (Reg.SYN_STAT inst)) 19 4 (1 + 2 * l)).toNat
      | none => some (s.reg (Reg.SYN_STAT inst)).toNat
  | .sys | .lcs | .pwr | .geo | .clk | .ant  | .nav | .mgmt | .sch | .pol | .qry | .svc | .key | .trn
  | .mate | .pci | .qdr => none

/-- Word i of a number. -/
def wordOf (v i : Nat) : Word := BitVec.ofNat 32 (v >>> (32 * i))

/-- Read the low word of a value of n words at an offset: the others go into the reader's shadow (R15, R17). -/
def readLow (m : Master) (a n v : Nat) (s : State) : Word × State :=
  (wordOf v 0, forN (n - 1) (fun i t => t.setShadow m (a + 4 * (i + 1)) (wordOf v (i + 1))) s)

/-- The registers of a port that does not run read 0: its counters, and its delays and captures (R455, R541). -/
def State.readsZero (s : State) (k : PageKind) (inst off : Nat) : Bool :=
  match k with
  | .prt => !s.portActive inst && decide (0x100 ≤ off ∧ off < 0x1C8)
  | .tsu =>
    decide (s.gmode inst = 2) && ((decide (0x140 ≤ off) && decide (off < 0x200)) || (decide (0x210 ≤ off) && decide (off < 0x240)))
  | _ => false

/-- What a read of a register does besides returning it: a read-clear counter clears (R10), a capture loses NEW (R540), a rate flag
clears (R494). -/
def readEffect (k : PageKind) (r : RegRow) (a w : Nat) (s : State) : State :=
  if r.rc then (if w = 0 then s.setRegN a 0 r.words else s)
  else if k = .tsu ∧ (r.off = 0x120 ∨ r.off = 0x130) ∧ w = 0 then s.setRb (a + 8) 31 false
  else if k = .prt ∧ r.off = 0x07C then s.setRb a 17 false
  else s

/-- A value of a capture register as it is presented: with B4MODE its upper word reads 0 (R38, R540). -/
def State.present (s : State) (k : PageKind) (r : RegRow) (v : Nat) : Nat :=
  if k = .tsu ∧ (r.off = 0x120 ∨ r.off = 0x130) ∧ s.rb Reg.SYS_COMPAT 0 = true then v % 2 ^ 64 else v

/-- Read a register row: the word of the value it holds or shows (R10, R15 to R18). (DESIGN CHOICE, log 22.) -/
def rowRead (m : Master) (k : PageKind) (inst a : Nat) (r : RegRow) (i j w : Nat) (s : State) : Word × State :=
  let base := a - 4 * w
  if r.wo then (0, s)
  else if w ≠ 0 then (s.shadowOf m a, s)
  else
    let v := s.present k r ((s.liveVal m k inst r.off i j).getD (s.regN base r.words))
    let x := readLow m base r.words v s
    (x.1, readEffect k r base w x.2)

/-- Registers whose read takes something from the block: the E snapshot, a stored result, a sample, random bits, a character, the
Geode's time; words behind them read the shadow (R437, R591, R790, R905, R943, R971). -/
def takeRead (m : Master) (k : PageKind) (inst off a : Nat) (s : State) : Option (Word × State) :=
  match k with
  | .asy =>
    if off = 0x0B8 then some (rdAsyE m s)
    else if 0x0BC ≤ off ∧ off ≤ 0x0D0 then some (s.shadowOf m a, s) else none
  | .tdc =>
    if 0x100 ≤ off ∧ off < 0x500 then
      let d := (off - 0x100) % 32
      if d = 4 then some (rdTdcRes m ((off - 0x100) / 32) s)
      else if 4 < d ∧ d < 0x18 then some (s.shadowOf m a, s) else none
    else none
  | .clu =>
    if off = 0x0A0 then some (sampleRead m inst s)
    else if 0x0A0 < off ∧ off < 0x0C0 then some (s.shadowOf m a, s) else none
  | .trn => if off = 0x048 then some (trnOutRead m s) else none
  | .lsp => if 0x200 ≤ off ∧ off < 0x280 ∧ (off - 0x200) % 32 = 8 then some (uartRead ((off - 0x200) / 32) s) else none
  | .geo =>
    if off = 0x048 then
      let x := geoTimeRead s
      some (readLow m a 3 x.1 x.2)
    else none
  | _ => none

/-- A read of the counter groups of the PMU page (R845, R854). -/
def pmuRead (m : Master) (off a : Nat) (s : State) : Word × State :=
  match s.pmuAt m off with
  | none => (0, s)
  | some (k, w) =>
    if w = 1 ∨ w = 3 then (s.pmuWord k w, s.setShadow m (a + 4) (s.pmuWord k (w + 1)))
    else if w = 2 ∨ w = 4 then (s.shadowOf m a, s)
    else (s.pmuWord k w, s)

/-- A read of the register at an offset of BAR0 that lies in a page: what it returns, and what it does (R9, R10). -/
def pageRead (m : Master) (a : Nat) (s : State) : Word × State :=
  match pageAt a with
  | none => (0, s)
  | some (p, inst, off) =>
    if off < 0x040 then (s.hdrRead p inst off, s)
    else if s.readsZero p.kind inst off then (0, s)
    else if p.kind = .pmu ∧ 0x100 ≤ off then pmuRead m off a s
    else
      match takeRead m p.kind inst off a s with
      | some x => x
      | none =>
        match rowAt p.kind off with
        | some (r, i, j, w) => rowRead m p.kind inst a r i j w s
        | none => (0, s)

/-- A read of a word of the slot window: the due time is one value of three words (R102). -/
def slotRead (m : Master) (n w : Nat) (s : State) : Word × State :=
  if w = 3 then ((s.actSlot n).ctl, s)
  else if w = 0 then readLow m (slotAddr n 0) 3 (s.regN (slotAddr n 0) 3) s
  else (s.shadowOf m (slotAddr n w), s)

/-- A read of a queue state word: word 0 latches the others (R566). -/
def queueRead (m : Master) (n w : Nat) (s : State) : Word × State :=
  if w = 0 then
    ((s.queue n).word 0, forN 3 (fun i t => t.setShadow m (queueAddr n (i + 1)) ((s.queue n).word (i + 1))) s)
  else (s.shadowOf m (queueAddr n w), s)

end Sys2Proof.Machine
end

