-- ==== Sys2Proof/Machine/Sch.lean ====
section
/-! DEFINITION. The scheduler and the ingress policers as commands (R721 to R741). -/
namespace Sys2Proof.Machine

/-- A change of HALT_TX_N (R735). -/
def haltPin (low : Bool) (s : State) : State := showHalt { s with sch := { s.sch with pinLow := low } }

/-- A write of SCH_CTL (R735). -/
def wrSchCtl (v : Word) (s : State) : State := showHalt (plainWrite Reg.SCH_CTL v s)

/-- TRANSMIT_OPPORTUNITY (R729). -/
def execTransmitOpportunity (p : Fin 17) (s : State) : Host.Outcome State Fault Refusal := cmdT Reg.SCH (txOpportunity p.val) s

/-- SHAPER_REFILL (R732). -/
def execShaperRefill (s : State) : Host.Outcome State Fault Refusal := cmdT Reg.SCH shaperRefill s

/-- HALT_PIN_CHANGE (R735): the level of the pin is kept while the page is in reset. -/
def execHaltPinChange (low : Bool) (s : State) : Host.Outcome State Fault Refusal :=
  .next (if s.pageLive Reg.SCH then haltPin low s else { s with sch := { s.sch with pinLow := low } })

/-- SWHALT_WRITE (R735). -/
def execSwhaltWrite (m : Master) (v : Word) (s : State) : Host.Outcome State Fault Refusal := cmdW m Reg.SCH_CTL v (wrSchCtl) s

/-- POLICER_REFILL (R722). -/
def execPolicerRefill (s : State) : Host.Outcome State Fault Refusal := cmdT Reg.POL policerRefill s

/-- COMMAND_BUFFER_RELEASE (R721). -/
def execCommandBufferRelease (m : Master) (v : Word) (s : State) : Host.Outcome State Fault Refusal :=
  cmdW m Reg.POL_CMD_REL v (cmdRelease) s

end Sys2Proof.Machine
end

