-- ==== Sys2Proof/Machine/RegWrite.lean ====
section
/-! DEFINITION. What a write of a register of a page does (R10, R11, R19, R23 to R28, R51, R57), page by page. -/
namespace Sys2Proof.Machine

/-! ### CTRL (R26, R28, R51, R57) -/

/-- Every slot of a port or of a TSU is given up: those begun are cut short, the others missed (R532). -/
def dropSlots (g : Nat) (pick : TsuSlot → Bool) (s : State) : State := truncWhere g pick (missWhere g .disabled pick s)

/-- The engines of a range of clusters: their effective EN may have changed (R549, R551). -/
def engEnCheckAll (c n : Nat) (s : State) : State := forN (8 * n) (fun i a => engEnCheck (8 * c + i) a) s

/-- What a change of CTRL.EN of a page does at once; EN is already written. -/
def enChanged (k : PageKind) (inst : Nat) (on : Bool) (s : State) : State :=
  match k with
  | .ref => if on then entEvalAll s else refDisable s                             -- R972
  | .dpl => dplEval inst (dplOutputs s)                                           -- R236, R253, R258
  | .syn => if on then s else outsUpdate (ptxCheck (synStopCmd inst s))           -- R279
  | .out => outsUpdate s                                                          -- R291
  | .pps => if on then ppsArmAll s else ppsStopAll s                              -- R974
  | .gch => if on then s else gchStop inst s                                      -- R352
  | .gns => if on then s else (s.gns.chs.map (·.1)).foldl (fun a c => gchStop c a) s
  | .prt =>
    let s1 := if on then s.setRb (Reg.PRT_ESMC_RX inst) 16 false
      else setLink inst false (dropSlots (inst / 4) (fun x => decide (x.port = inst)) s)
    entEval (16 + inst) s1
  | .mgmt => if on then s else setLink 16 false s
  | .tsu => if on then s else dropSlots inst (fun _ => true) s                    -- R532
  | .mate => mateEval s
  | .eng => engEnCheck inst s
  | .clu => engEnCheckAll inst 1 s
  | .qdr => engEnCheckAll (16 * inst) 16 s
  | .sys | .lcs | .pwr | .geo | .clk | .bdr | .act | .asy | .tdc | .ant | .acq | .nav | .sch | .pol | .qry | .svc | .key | .trn
  | .cry | .flt | .evt | .pmu | .sem | .mtx | .ddr | .mrm | .pci | .lsp => s

/-- Write EN of a page. (DESIGN CHOICE, log 15.) -/
def setEn (k : PageKind) (inst pg : Nat) (on : Bool) (s : State) : State :=
  if s.pgEn pg = on then s else enChanged k inst on (s.setRb (pg + 0x008) 0 on)

/-- Write FREEZE of a page: a block that resumes is not FROZEN (R26, R27); BDR and ASY commit the first of the commits they hold in
the cycle of the release (R82, R969). (DESIGN CHOICE, log 15.) -/
def setFreeze (k : PageKind) (pg : Nat) (on : Bool) (s : State) : State :=
  let s1 := s.setRb (pg + 0x008) 2 on
  if on then s1
  else
    let s2 := s1.setRb (pg + 0x00C) 2 false
    if s.pgFrz pg = false then s2
    else
      match k with
      | .bdr => bdrReleaseOne s2
      | .asy => asyReleaseOne s2
      | _ => s2

/-- A reset of a page by its own SOFT_RESET; that of cluster 63 is the host's and JTAG's alone (R28, R57). (DESIGN CHOICE, log 15.) -/
def softReset (m : Master) (k : PageKind) (inst : Nat) (s : State) : State :=
  if k = .clu ∧ inst = 63 ∧ m ≠ .host ∧ m ≠ .jtag then s else resetPage k inst s

/-- A write of CTRL: one that sets SOFT_RESET acts only as that reset; else EN and FREEZE are written and CFG_LOCK may be set
(R26, R28). (DESIGN CHOICE, log 15.) -/
def wrCtrl (m : Master) (k : PageKind) (inst pg : Nat) (v : Word) (s : State) : State :=
  if bit v 1 then softReset m k inst s
  else
    let s1 := if bit v 3 then s.setRb (pg + 0x008) 3 true else s
    setEn k inst pg (bit v 0) (setFreeze k pg (bit v 2) s1)

/-! ### The rest of the header -/

/-- What else shows that a fault flag of a page has cleared. -/
def fltCleared (k : PageKind) (inst : Nat) (s : State) : State :=
  match k with
  | .ant => antRefresh s                                                          -- R426
  | .out => outsUpdate s                                                          -- R317
  | .dpl => dplEval inst s                                                        -- R236
  | .ref => entEvalAll s                                                          -- R222
  | .flt => showPin s                                                             -- R834
  | .sys | .lcs | .pwr | .geo | .clk | .bdr | .act | .asy | .syn | .pps | .tdc | .gns | .acq | .nav | .prt | .tsu | .mgmt | .sch
  | .pol | .qry | .svc | .key | .trn | .cry | .mate | .evt | .pmu | .sem | .mtx | .ddr | .mrm | .pci | .lsp | .gch | .clu | .qdr
  | .eng => s

/-- A write of FLT_RAW: the flags clear, sources fall whose flags are all 0, and a store that still holds a bad word in use is found
again (R10, R822, R833). -/
def wrFltRaw (k : PageKind) (inst pg : Nat) (v : Word) (s : State) : State :=
  let s1 := fltSync (w1cWrite (pg + 0x020) (fltMask k inst) v s)
  if s1.reg (pg + 0x020) = s.reg (pg + 0x020) then s1 else recheckBad k inst (fltCleared k inst s1)

/-- A write of INJECT (R833); a noise source held constant fails the repetition count test (R793). -/
def wrInject (k : PageKind) (pg : Nat) (v : Word) (s : State) : State :=
  let s1 := s.setReg (pg + 0x024) (v &&& BitVec.ofNat 32 (injectMask k))
  if k = .trn ∧ bit v 1 then trnHealth false s1 else s1

/-- A write of EVT_FORCE (R25). -/
def wrForce (k : PageKind) (inst pg : Nat) (v : Word) (s : State) : State :=
  forN 32 (fun i a => if bit v i && (evtOf k inst i).isSome then raiseEvt pg i a else a) s

/-- A write of a header register (R24 to R28). (DEDUCED, log 20.) -/
def hdrWrite (m : Master) (k : PageKind) (inst pg off : Nat) (v : Word) (s : State) : State :=
  if off = 0x008 then wrCtrl m k inst pg v s
  else if off = 0x010 then w1cWrite (pg + 0x010) (evtMask k inst) v s
  else if off = 0x014 then evtRecheck pg s (s.setReg (pg + 0x014) (v &&& BitVec.ofNat 32 (evtMask k inst)))
  else if off = 0x01C then wrForce k inst pg v s
  else if off = 0x020 then wrFltRaw k inst pg v s
  else if off = 0x024 then wrInject k pg v s
  else if off = 0x02C then s.setReg (pg + 0x02C) v
  else s

/-! ### Registers whose write does something -/

/-- A write of a word of the BDR page (R73, R81, R93, R97, R98). -/
def bdrWrite (m : Master) (off a : Nat) (v : Word) (s : State) : State :=
  if off = 0x068 then wrRateHi m v s
  else if off = 0x080 then wrStepHi m v s
  else if off = 0x08C then wrSlewHi m v s
  else if off = 0x0A0 then wrBdrCmd m v s
  else if off = 0x0A8 then wrUtcOfs v s
  else if off = 0x0E8 then wrCvtHi m v s
  else valueWrite m a v s

/-- A change of the time-scale loop may leave the status without a locked loop, and selects another reference (R141, R158, R170). -/
def wrAsyCfg (v : Word) (s : State) : State :=
  let t := refChanged s.actRef (plainWrite Reg.ASY_CFG v s)
  if s.tsLocked && !t.tsLocked then asyUnlock t else t

/-- A write of a word of the ASY page (R131, R133, R158, R162, R165). -/
def asyWrite (m : Master) (off a : Nat) (v : Word) (s : State) : State :=
  if off = 0x040 then wrAsyCfg v s
  else if off = 0x048 then wrAsyCmd v s
  else if off = 0x0F8 then wrRecCtrl v s
  else if off = 0x100 ∧ s.rb Reg.ASY_REC_CTRL 0 = true then s
  else if off = 0x104 then wrRecSeq m v s
  else if off = 0x110 then wrStgDone v s
  else if asyStagedOff off then wrAsyStaged off v s
  else valueWrite m a v s

/-- A write of a word of the REF page (R194, R201 to R210). -/
def refWrite (m : Master) (off a : Nat) (v : Word) (s : State) : State :=
  if off = 0x05C then wrAnnounce m v s
  else if 0x080 ≤ off ∧ off < 0x100 then
    (if off % 16 = 0 then wrSel ((off - 0x080) / 16) v s
     else if off % 16 = 4 ∨ off % 16 = 8 then wrPrio a v s else s)
  else if 0x200 ≤ off ∧ off < 0x800 ∧ off % 32 = 0 then putEntCfg ((off - 0x200) / 32) v s
  else if off = 0x054 ∨ off = 0x058 then s.setStaged m a (some v)
  else entEvalAll (valueWrite m a v s)

/-- A value of DPL_TPL_CFG whose WIDTH does not suit its FMT keeps WIDTH (R268). -/
def tplCfg (l : Nat) (v : Word) (s : State) : Word :=
  let a := Reg.DPL_TPL_CFG l
  let x := s.merged a v
  if fld x 20 2 = 2 ∧ 8 < fld x 16 4 then setFld v 16 4 (s.rf a 16 4) else v

/-- A write of DPL_FRFREQ_HI: the value is sign-extended, and y of a loop that runs on it takes it from now on (R240, R264). -/
def wrFrFreq (m : Master) (l : Nat) (v : Word) (s : State) : State :=
  let t := valueWrite m (Reg.DPL_FRFREQ l + 4) v (dplAdvance l s)
  dplAdvance l (t.setReg (Reg.DPL_FRFREQ l + 4) ((bits (t.reg (Reg.DPL_FRFREQ l + 4)) 0 12).signExtend 32))

/-- A write of a word of a DPL page (R236, R258). -/
def dplWrite (m : Master) (l off a : Nat) (v : Word) (s : State) : State :=
  if off = 0x058 then wrDplCmd l v s
  else if off = 0x0D4 then wrDplCfg l a (tplCfg l v s) s
  else if off = 0x094 then wrFrFreq m l v s
  else if off = 0x090 ∨ off = 0x0A0 ∨ off = 0x0A4 then valueWrite m a v s
  else wrDplCfg l a v s

/-- A write of a word of the OUT page (R286, R297, R298). -/
def outWrite (m : Master) (off a : Nat) (v : Word) (s : State) : State :=
  if off = 0x044 then wrOutCmd v s
  else if off = 0x040 then outsUpdate (ptxCheck (valueWrite m a v s))
  else if 0x100 ≤ off ∧ off < 0x280 ∧ off % 32 = 0 then wrOutCfg ((off - 0x100) / 32) v s
  else outsUpdate (valueWrite m a v s)

/-- A write of a word of the PPS page (R305, R307). -/
def ppsWrite (m : Master) (off a : Nat) (v : Word) (s : State) : State :=
  let n := (off - 0x100) / 64
  if off = 0x040 then wrPpsCmd v s
  else if 0x100 ≤ off ∧ off < 0x200 ∧ off % 64 = 0 then wrPpsCfg n v s
  else if 0x100 ≤ off ∧ off < 0x200 ∧ off % 64 = 8 then wrPpsOfs n v s
  else if 0x100 ≤ off ∧ off < 0x200 ∧ off % 64 = 12 then wrPpsMth n v s
  else valueWrite m a v s

/-- A write of a word of the TDC page (R442 to R448). -/
def tdcWrite (m : Master) (off a : Nat) (v : Word) (s : State) : State :=
  let c := (off - 0x100) / 32
  if off = 0x040 then wrTdcGcfg v s
  else if off = 0x044 then wrGateCfg v s
  else if off = 0x048 then wrTdcArm v s
  else if off = 0x04C then wrCalCmd v s
  else if 0x100 ≤ off ∧ off < 0x500 ∧ off % 32 = 0 then wrChCfg c v s
  else if 0x100 ≤ off ∧ off < 0x500 ∧ off % 32 = 0x18 then wrArmN c v s
  else valueWrite m a v s

/-- A write of a word of the GNS page (R324 to R337). -/
def gnsWrite (m : Master) (off a : Nat) (v : Word) (s : State) : State :=
  if off = 0x040 then wrSifCfg v s
  else if off = 0x04C then wrSifCmd v s
  else if off = 0x054 ∨ off = 0x058 then wrIf ((off - 0x054) / 4) a v s
  else if off = 0x068 then wrAiding (valueWrite m a v) s
  else if off = 0x074 then wrApwr v s
  else valueWrite m a v s

/-- A write of a word of the ANT page (R395 to R420). -/
def antWrite (m : Master) (off a : Nat) (v : Word) (s : State) : State :=
  if off = 0x064 then wrSolCtl v s
  else if off = 0x040 ∨ off = 0x044 ∨ off = 0x068 then antRefresh (valueWrite m a v s)
  else if off = 0x078 then wrScfg v s
  else if off = 0x07C then wrGppsCfg v s
  else if off = 0x088 then wrPpsBtHi m v s
  else if 0x180 ≤ off ∧ off < 0x200 then wrNotch ((off - 0x180) / 16) (off % 16 / 4) v s
  else if 0x200 ≤ off ∧ off < 0x400 ∧ off % 8 = 4 then wrSvB ((off - 0x200) / 8) v s
  else valueWrite m a v s

/-- A write of a word of a GCH page (R350, R356 to R359). -/
def gchWrite (m : Master) (c off a : Nat) (v : Word) (s : State) : State :=
  if off = 0x044 then wrGchTrk c v s
  else if off = 0x048 then wrGchLoop c v s
  else if off = 0x04C then wrGchCmd c v s
  else if off = 0x05C then wrAiding (valueWrite m a v) s
  else valueWrite m a v s

/-- A write of a word of a PRT page (R454, R473, R481, R495); GMODE lies in the first page of a group (R500). -/
def prtWrite (m : Master) (p off a : Nat) (v : Word) (s : State) : State :=
  if off = 0x040 then (if p % 4 = 0 ∧ s.pgLock (Reg.PRT p) = false then wrGmode (p / 4) v s else s)
  else if off = 0x044 then wrPrtCfg p v s
  else if off = 0x048 then wrPrtMode p v s
  else if off = 0x058 then wrFcWm p v s
  else if off = 0x068 then wrEsmcCfg p v s
  else if off = 0x084 then w1cWrite a 0xFF v s
  else valueWrite m a v s

/-- The two lead limits are written together, and only in range (R541). -/
def wrTsuLead (a : Nat) (v : Word) (s : State) : State :=
  let ok (x : Nat) : Bool := decide (2000 ≤ x) && decide (x ≤ 16000)
  if ok (fld v 0 16) && ok (fld v 16 16) && decide (fld v 0 16 ≤ fld v 16 16) then plainWrite a v s else s

/-- A write of a word of a TSU page (R517, R518, R541). -/
def tsuWrite (m : Master) (g off a : Nat) (v : Word) (s : State) : State :=
  if off = 0x044 then wrTsuLead a v s
  else if 0x050 ≤ off ∧ off < 0x064 then s.setStaged m a (some v)
  else if off = 0x064 then wrReserve m g v s
  else if off = 0x084 then wrCancel g v s
  else if s.readsZero .tsu g off then s
  else valueWrite m a v s

/-- A write of a word of the SCH page (R733, R735). -/
def schWrite (m : Master) (off a : Nat) (v : Word) (s : State) : State :=
  if off = 0x040 then wrSchCtl v s
  else if off = 0x044 ∨ (0x700 ≤ off ∧ off % 128 < 0x60 ∧ off % 16 ≠ 0) then wrSchStaged a v s
  else valueWrite m a v s

/-- A write of a word of the POL page (R721, R722). -/
def polWrite (m : Master) (off a : Nat) (v : Word) (s : State) : State :=
  if off = 0x054 then cmdRelease v s
  else if 0x100 ≤ off ∧ off < 0x980 ∧ off % 128 < 0x50 ∧ off % 16 = 0 then wrPolRate ((off - 0x100) / 128) (off % 128 / 16) v s
  else valueWrite m a v s

/-- A write of a word of the LCS page (R781 to R786). -/
def lcsWrite (m : Master) (off a : Nat) (v : Word) (s : State) : State :=
  if off = 0x044 then wrLcsCmd m v s
  else if 0x060 ≤ off ∧ off < 0x080 then (if s.lifeCycle = 0 then s.setReg a v else s)
  else if 0x100 ≤ off ∧ off < 0x180 then s.setReg a v
  else valueWrite m a v s

/-- A write of a word of the MATE page (R802, R804, R808). -/
def mateWrite (m : Master) (off a : Nat) (v : Word) (s : State) : State :=
  if off = 0x040 then wrMateCfg v s
  else if off = 0x044 then wrMateCmd v s
  else if off = 0x054 then wrSwgood v s
  else mateEval (valueWrite m a v s)

/-- A write of a word of the FLT page (R826, R827, R829). -/
def fltWrite (m : Master) (off a : Nat) (v : Word) (s : State) : State :=
  if off = 0x040 then showPin (plainWrite a v s)
  else if 0x400 ≤ off ∧ off < 0xA00 then wrFltSrc ((off - 0x400) / 4) v s
  else valueWrite m a v s

/-- A write of a word of the PMU page (R843, R845). -/
def pmuWrite (m : Master) (off a : Nat) (v : Word) (s : State) : State :=
  if off = 0x040 then wrPmuCtl v s
  else if off = 0x044 then wrPmuSel m v s
  else wrPmuCtr m a v s

/-- A write of a word of the SEM page (R578, R582 to R587). -/
def semWrite (m : Master) (off : Nat) (v : Word) (s : State) : State :=
  if 0x040 ≤ off ∧ off < 0x440 then wrSem m ((off - 0x040) / 4) v s
  else if 0x440 ≤ off ∧ off < 0x480 then wrBarScope ((off - 0x440) / 4) v s
  else s

/-- A write of a word of a DDR page; the retirement table may be written only while the page is disabled (R876, R902, R919). -/
def ddrWrite (m : Master) (ch off a : Nat) (v : Word) (s : State) : State :=
  if off = 0x044 then wrDdrCmd ch v s
  else if 0x400 ≤ off ∧ s.pgEn (Reg.DDR ch) then s
  else valueWrite m a v s

/-- A write of a word of the LSP page; the entries that a UART or a GPIO serves are judged in the same cycle (R182, R183, R894 to R899). -/
def lspWrite (m : Master) (off a : Nat) (v : Word) (s : State) : State :=
  if off = 0x044 then wrQspiCmd v s
  else if 0x100 ≤ off ∧ off < 0x200 ∧ off % 64 = 4 then wrI2cXfer ((off - 0x100) / 64) v s
  else if 0x200 ≤ off ∧ off < 0x280 ∧ off % 32 = 4 then wrUartTx ((off - 0x200) / 32) v s
  else if off = 0x318 then w1cWrite a 0xFFFFFFFF v s
  else if off = 0x400 then wrInvCmd v s
  else
    let s1 := gpioShow s (valueWrite m a v s)
    if (0x200 ≤ off ∧ off < 0x280 ∧ off % 32 = 0) ∨ off = Reg.GPIO_FUNC 0 % 0x1000 ∨ off = Reg.GPIO_FUNC 1 % 0x1000 then entEvalAll s1 else s1

/-- A write of a word of an ENG page (R549, R552, R553, R573, R576, R578). -/
def engWrite (m : Master) (e off a : Nat) (v : Word) (s : State) : State :=
  if off < 0x100 ∨ 0x200 ≤ off then valueWrite m a v s
  else
    let t := (off - 0x100) / 64
    let k := 4 * e + t
    match (off - 0x100) % 64 with
    | 0x00 => wrThCtl e t v s
    | 0x0C => wrPc m e t v s
    | 0x18 => if s.thisCyc.jrnl.contains k then s else s.setTh k { s.th k with jrnl := v }     -- R635
    | 0x1C => wrThBar e t v s
    | 0x30 => wrTmr m e t v s
    | 0x38 => postTo k 2 (fld v 0 24) s
    | _ => valueWrite m a v s

/-- A write of SYS_COMPAT: only while every port is disabled (R37). -/
def wrCompat (v : Word) (s : State) : State :=
  if (List.range 16).any (fun p => s.pgEn (Reg.PRT p)) then s else plainWrite Reg.SYS_COMPAT v s

/-- A write of a register of a page, beyond the header; an engine's store brings its PC. -/
def bodyWrite (m : Master) (pc : Option DWord) (k : PageKind) (inst off a : Nat) (v : Word) (s : State) : State :=
  match k with
  | .sys => if off = 0x1F0 then wrCompat v s else s
  | .lcs => lcsWrite m off a v s
  | .pwr =>
    if off = 0x044 then wrPwrCmd m v s
    else if off = 0x050 then w1cWrite a 0x7FFFF v s else valueWrite m a v s
  | .geo => wrGeo m a v s
  | .bdr => bdrWrite m off a v s
  | .act => if off = 0x084 then wrDisarm v s else valueWrite m a v s
  | .asy => asyWrite m off a v s
  | .ref => refWrite m off a v s
  | .dpl => dplWrite m inst off a v s
  | .syn =>
    if off = 0x04C then wrSynCmd inst v s
    else if off = 0x05C then synFollow inst false (valueWrite m a v s)                 -- R282, R283
    else valueWrite m a v s
  | .out => outWrite m off a v s
  | .pps => ppsWrite m off a v s
  | .tdc => tdcWrite m off a v s
  | .gns => gnsWrite m off a v s
  | .ant => antWrite m off a v s
  | .acq => if off = 0x058 then wrAcqCmd v s else valueWrite m a v s
  | .nav => if off = 0x040 then wrNavCfg v s else valueWrite m a v s
  | .prt => prtWrite m inst off a v s
  | .tsu => tsuWrite m inst off a v s
  | .sch => schWrite m off a v s
  | .pol => polWrite m off a v s
  | .qry => if off = 0x04C then wrQryCmd v s else valueWrite m a v s
  | .svc => wrSvc m off v s
  | .key => if off = 0x044 then wrKeyCmd m v s else valueWrite m a v s
  | .mate => mateWrite m off a v s
  | .flt => fltWrite m off a v s
  | .evt => if 0x080 ≤ off ∧ off < 0x0C0 then wrHmask ((off - 0x080) / 4) v s else valueWrite m a v s
  | .pmu => pmuWrite m off a v s
  | .sem => semWrite m off v s
  | .mtx => if off = 0x044 then (if bit v 0 then s.setRb Reg.MTX_STAT 0 true else s) else valueWrite m a v s
  | .ddr => ddrWrite m inst off a v s
  | .mrm => if off = 0x048 then wrMrmCmd pc v s else if off = 0x07C then wrJCmd m v s else valueWrite m a v s
  | .lsp => lspWrite m off a v s
  | .gch => gchWrite m inst off a v s
  | .clu => if off = 0x058 then wrLoadCmd m inst v s else valueWrite m a v s
  | .eng => engWrite m inst off a v s
  | .clk | .mgmt | .trn | .cry | .pci | .qdr => valueWrite m a v s

/-- A row takes writes: it has a writable bit, a bit that a write clears, or acts as it defines. -/
def RegRow.takes (r : RegRow) : Bool := r.wo || decide (r.rw ≠ 0) || decide (r.rwl ≠ 0) || decide (r.w1c ≠ 0)

/-- A write of the register at an offset of BAR0 that lies in a page: a read-only register and a reserved offset ignore it
(R9, R10); INJECT acts on the store written (R833). -/
def pageWrite (m : Master) (pc : Option DWord) (a : Nat) (v : Word) (s : State) : State :=
  match pageAt a with
  | none => s
  | some (p, inst, off) =>
    if off < 0x040 then hdrWrite m p.kind inst (a - off) off v s
    else
      match rowAt p.kind off with
      | none => s
      | some (r, _, _, _) =>
        if r.takes || p.kind == .geo then injectNote a s (bodyWrite m pc p.kind inst off a v s) else s

end Sys2Proof.Machine
end

