-- ==== Sys2Proof/Machine/Bus.lean ====
section
/-! DEFINITION. An access of BAR0 by its offset: the pages and the four windows, the sizes they take, and the answer it gets (R5 to R7,
R102, R554, R566, R862 to R866, R873, R967, R976). -/
namespace Sys2Proof.Machine

/-- A window of registers takes 32-bit transfers only; the memory windows take every aligned size (R5, R6, R976). (DEDUCED, log 14.) -/
def sizeOk (a n : Nat) : Bool :=
  match windowOf a with
  | .mram _ | .sram _ => decide (a % n = 0)
  | .slot _ _ | .queue _ _ | .page => decide (n = 4) && decide (a % 4 = 0)

/-- How an access was answered: with data, with no answer to give, with an error, or it waits. -/
inductive Answer where
  | data (v : Nat)
  | taken
  | err
  | waits
  deriving DecidableEq, Repr

/-- The offset reads a sum, which waits while it is recomputed (R873). (DEDUCED, log 23.) -/
def isSum (a : Nat) : Bool :=
  match pageAt a with
  | some (_, _, off) => decide (off = 0x028) || decide (a = Reg.MTX_CFGSUM)
  | none => false

/-- The offset reads a conversion whose result is not ready: within 40 ns of the write that started it (R97). -/
def State.cvtWaits (s : State) (a : Nat) : Bool :=
  (decide (a = Reg.BDR_CVT_PT) || decide (a = Reg.BDR_CVT_RES) || decide (a = Reg.BDR_CVT_NT)) &&
    decide (0 < (s.bdr.cvtReady - s.bt).toNat) && decide ((s.bdr.cvtReady - s.bt).toNat ≤ 40 * 65536)

/-- A read waits for its value: a sum under recomputation (R873), or a conversion (R97). -/
def State.readWaits (s : State) (a : Nat) : Bool := (isSum a && s.rb Reg.MTX_STAT 0) || s.cvtWaits a

/-- What becomes of an access to a window (R48, R554, R780). (DEDUCED, log 14.) -/
def windowGate (m : Master) (a : Nat) (write : Bool) (s : State) : Gate :=
  match windowOf a with
  | .slot _ _ => slotGate m write s
  | .queue _ _ | .mram _ | .sram _ => queueGate m s
  | .page => if !write && s.readWaits a && s.alive then (if gate m a false s = .go then .wait else gate m a false s)
             else gate m a write s

/-- What becomes of a new access to a window, which the matrix may not admit yet (R859 to R861). -/
def windowGateIn (m : Master) (a : Nat) (write : Bool) (s : State) : Gate :=
  if s.alive && s.backed m a then .wait else windowGate m a write s

/-- The answer of a memory window: data, or an error response already counted. -/
def memAnswer (m : Master) (a : Nat) (r : Option (List Byte) × State) : Answer × State :=
  match r with
  | (some l, s) => (.data (natLE l), s)
  | (none, s) => (.err, tellErr m a 1 s)

/-! ### Masked writes of the calendar (R107) -/

/-- The word that a register of a page holds or shows; of a value of several words the word itself, and no shadow (R15, R107). -/
def State.liveWord (s : State) (m : Master) (a : Nat) : Word :=
  match pageAt a with
  | none => 0
  | some (p, inst, off) =>
    match rowAt p.kind off with
    | some (r, i, j, w) => if r.wo then 0 else wordOf ((s.liveVal m p.kind inst r.off i j).getD (s.regN (a - 4 * w) r.words)) w
    | none => (pageRead m a s).1

/-- The value that a masked write puts: the masked bits of VALUE, the rest as the register holds it (R107). (DEDUCED, log 29.) -/
def State.maskedVal (s : State) (a : Nat) (mask v : Word) : Word :=
  (v &&& mask) ||| (s.liveWord .calendar a &&& ~~~ mask &&& BitVec.ofNat 32 (heldBits a))

/-- A master's write of a page: where the calendar has written the same register in this cycle, its bits stand (R49). -/
def masterWrite (m : Master) (pc : Option DWord) (a : Nat) (v : Word) (s : State) : State :=
  pageWrite m pc a (s.underCal m a v) (s.calStaged m a)

/-! ### Accesses -/

/-- A read of n bytes is performed at its target. -/
def readNow (m : Master) (a n : Nat) (s : State) : Answer × State :=
  let word (x : Word × State) : Answer × State := (.data x.1.toNat, x.2)
  match windowOf a with
  | .slot i w => word (slotRead m i w s)
  | .queue q w => word (queueRead m q w s)
  | .mram o => memAnswer m a (mramGet (masterId m) o n s)
  | .sram o =>
    memAnswer m a (if s.memBad (eaSram + o) n then (none, mtxErr (masterId m) (eaSram + o) 1 false s) else (some (s.sramRd o n), s))
  | .page => word (pageRead m a s)

/-- A write of n bytes is performed at its target. -/
def writeNow (m : Master) (pc : Option DWord) (a n v : Nat) (s : State) : Answer × State :=
  match windowOf a with
  | .slot i w => (.taken, wrSlotWord m i w (BitVec.ofNat 32 v) s)
  | .queue q w => (.taken, wrQueue q w (BitVec.ofNat 32 v) s)
  | .mram o =>
    (match mramPut (masterId m) o (bytesLE n v) s with
     | (true, s1) => (.taken, s1)
     | (false, s1) => (.err, tellErr m a 1 s1))
  | .sram o => (.taken, s.sharedWr (eaSram + o) (bytesLE n v))
  | .page => (.taken, masterWrite m pc a (BitVec.ofNat 32 v) s)

/-- Read n bytes at an offset of BAR0 for a master; `reply` says who waits for the answer. (DEDUCED, log 14.) -/
def busRead (m : Master) (reply : Reply) (a n : Nat) (s : State) : Answer × State :=
  if s.alive = false then (.taken, s)
  else if sizeOk a n = false then (.err, busErr m a 1 false s)
  else
    match windowGateIn m a false s with
    | .ignore => (.taken, s)
    | .err k => (.err, busErr m a k false s)
    | .wait => (.waits, hold { who := m, addr := a, write := false, val := 0, reply := reply, size := n, issued := s.bt } s)
    | .go => readNow m a n s

/-- Write n bytes at an offset of BAR0 for a master. (DEDUCED, log 14.) -/
def busWrite (m : Master) (reply : Reply) (pc : Option DWord) (a n v : Nat) (s : State) : Answer × State :=
  if s.alive = false then (.taken, s)
  else if sizeOk a n = false then (.err, busErr m a 1 true s)
  else
    match windowGateIn m a true s with
    | .ignore => (.taken, s)
    | .err k => (.err, busErr m a k true s)
    | .wait => (.waits, hold { who := m, addr := a, write := true, val := BitVec.ofNat 32 v, hi := BitVec.ofNat 32 (v / 2 ^ 32), reply := reply,
                               pc := pc, size := n, issued := s.bt } s)
    | .go => writeNow m pc a n v s

/-- A masked write covers locked bits (R104, R107). -/
def State.lockedUnder (s : State) (a : Nat) (mask : Word) : Bool := rwlUnder a mask && s.pgLock (pageBase a)

/-- The write of a request arrives at its page; the calendar's is noted for its cycle (R49). (DEDUCED, log 79.) -/
def reqWrite (r : MtxReq) (s : State) : State :=
  if r.who = .calendar then
    pageWrite r.who r.pc r.addr (if r.mask = BitVec.allOnes 32 then r.val else s.maskedVal r.addr r.mask r.val) (noteCal r.addr r.mask r.val s)
  else masterWrite r.who r.pc r.addr r.val s

/-- Give a master the data it has read, word by word. -/
def giveData (m : Master) (a n v : Nat) (s : State) : State :=
  let s1 := s.emit (.readData m a (BitVec.ofNat 32 v))
  if n = 8 then s1.emit (.readData m (a + 4) (BitVec.ofNat 32 (v / 2 ^ 32))) else s1

/-! ### Answers that come later (R610, R865, R866) -/

/-- A thread's load beyond the cluster completes: a 32-bit word, extended. -/
def loadArrives (k rd : Nat) (signed : Bool) (v : Word) (s : State) : State :=
  next k (wrRg k rd (if signed then v.signExtend 64 else v.setWidth 64) s)

/-- One posted store of a thread is answered. -/
def unpost (k a : Nat) (s : State) : State :=
  s.setTh k { s.th k with posted := (s.th k).posted.erase (BitVec.ofNat 64 (eaPages + a)) }

/-- A request is answered without an error; v is what a read returns. -/
def answered (r : MtxReq) (v : Word) (locked : Bool) (s : State) : State :=
  match r.reply with
  | .plain => if r.write then s else s.emit (.readData r.who r.addr v)
  | .load k rd sg => loadArrives k rd sg v s
  | .store k => unpost k r.addr s
  | .rsv _ _ _ _ => s
  | .slot n => setResult n (if locked then .locked else .completed) s

/-- An error response to a posted store is raised at the thread's next instruction boundary (R610). -/
def postFailed (k : Nat) (a : DWord) (s : State) : State :=
  let s1 := s.setTh k { s.th k with posted := (s.th k).posted.erase a }
  if s1.canIssue k then raiseExc k .busErr (some a) s1 else s1.setTh k { s1.th k with postErr := some a }

/-- A request is answered with an error (R866). -/
def answeredErr (r : MtxReq) (s : State) : State :=
  let ea : DWord := BitVec.ofNat 64 (eaPages + r.addr)
  match r.reply with
  | .plain => s
  | .load k _ _ | .rsv k _ _ _ => raiseExc k .busErr (some ea) s
  | .store k => postFailed k ea s
  | .slot n => setResult n .targetErr s

end Sys2Proof.Machine
end

