-- ==== Sys2Proof/Machine/Action.lean ====
section
/-! DEFINITION. What a calendar action does once it is initiated (R105 to R107, R113, R116, R117, R575, R581, R846). -/
namespace Sys2Proof.Machine

/-- A calendar WRITE reaches its register (R107, R866). (DEDUCED, log 29.) -/
def calWrite (n : Nat) (x : Slot) (s : State) : State :=
  let a := x.w0.toNat
  match gateIn .calendar a true s with
  | .go =>
    let r : MtxReq := { who := .calendar, addr := a, write := true, val := x.w2, mask := x.w1, issued := s.bt }
    setResult n (if s.lockedUnder a x.w1 then .locked else .completed) (reqWrite r s)
  | .ignore => setResult n .completed s
  | .wait => hold { who := .calendar, addr := a, write := true, val := x.w2, mask := x.w1, reply := .slot n, issued := s.bt } s
  | .err k => setResult n .targetErr (busErr .calendar a k true s)

/-- A calendar PULSE: the leading edge is driven; a GPIO that is not the calendar's takes none (R104, R117). (DEDUCED, log 30.) -/
def calPulse (n : Nat) (x : Slot) (s : State) : State :=
  let g := fld x.w0 0 5
  if s.gpioFunc g ≠ 1 then setResult n .targetErr s
  else
    let p : Pulse := { gpio := g, stop := s.bt + cyc (fld x.w1 0 20), slot := n, counted := true }
    gpioShow s { s with lsp := { s.lsp with gpioCal := setBit s.lsp.gpioCal g true }, act := { s.act with pulses := s.act.pulses ++ [p] } }

/-- An engine latches its snapshot at a CAPTURE (R581). (DEDUCED, log 30.) -/
def engSnap (e : Nat) (tag : Word) (s : State) : State :=
  let s1 := (s.setReg (Reg.ENG_SNAP_TAG e) tag).setRegN (Reg.ENG_SNAP_BT e) s.bt.toNat 3
  raiseEvt (Reg.ENG e) 3 (forN 4 (fun t a => a.setReg (Reg.ENG_TH_SNAPJ e t) (a.th (4 * e + t)).jrnl) s1)

/-- A calendar CAPTURE (R117, R581, R846): engines whose clock stands still or that are in reset latch nothing. (DEDUCED, log 30.) -/
def calCapture (n : Nat) (x : Slot) (s : State) : State :=
  let s1 := ((s.setReg Reg.ACT_CAPTAG x.w0).setRegN Reg.ACT_CAPBT s.bt.toNat 3).setRegN Reg.ACT_CAPWT s.now.toNat 3
  let s2 := forN 512 (fun e a => if a.pageLive (Reg.ENG e) then engSnap e x.w0 a else a) (pmuSnap s1)
  setResult n .completed (raiseEvt Reg.ACT 4 s2)

/-- A calendar EVENT (R105, R573, R575). -/
def calEvent (n : Nat) (x : Slot) (s : State) : State :=
  let e := fld x.w0 0 9
  if s.engEn e ∧ s.engRst e = false then setResult n .completed (postTo (4 * e + fld x.w0 9 2) 0 (fld x.w1 0 16) s)
  else setResult n .targetErr s

/-- A calendar HANDOVER (R117, R813). (DEDUCED, log 31.) -/
def calHandover (n : Nat) (s : State) : State :=
  match mateSwitch n s with
  | (.done, s1) => setResult n .completed s1
  | (.noMate, s1) => setResult n .noMate s1
  | (.targetErr, s1) => setResult n .targetErr s1

/-- The next slot of the initiation queue begins its action: one in a cycle. A slot taken in this very cycle has its COND judged
first (R113, R116, R117). (DESIGN CHOICE, log 104.) -/
def initiate (s0 : State) : State :=
  let s := judgeConds s0
  match s.act.initQ with
  | [] => s
  | n :: rest =>
    if s.thisCyc.begun then s0
    else
    let s1 := { s with act := { s.act with initQ := rest }, thisCyc := { s.thisCyc with begun := true } }
    let x := s.actSlot n
    match x.typ.toNat with
    | 1 => calWrite n x s1
    | 2 => calPulse n x s1
    | 3 => calCapture n x s1
    | 4 => calEvent n x s1
    | _ => calHandover n s1

/-- The width of a calendar PULSE on a GPIO has elapsed: the level falls unless another pulse still holds it (R117). (DEDUCED, log 30.) -/
def pulseEnd (g : Nat) (s : State) : State :=
  let isOver (p : Pulse) : Bool := decide (p.gpio = g) && atOrAfter s.bt p.stop
  let ended := s.act.pulses.filter isOver
  if ended.isEmpty then s
  else
    let left := s.act.pulses.filter (fun p => !isOver p)
    let lvl := left.any (fun p => decide (p.gpio = g))
    let s1 := gpioShow s { s with lsp := { s.lsp with gpioCal := setBit s.lsp.gpioCal g lvl }, act := { s.act with pulses := left } }
    ended.foldl (fun a p => if p.counted then setResult p.slot .completed a else a) s1

/-- ACTION_INITIATE (R116). -/
def execActionInitiate (s : State) : Host.Outcome State Fault Refusal := cmdE Reg.ACT initiate s

/-- PULSE_WIDTH_END (R117): a reset of the ACT page does not shorten a pulse (R119). -/
def execPulseWidthEnd (g : Fin 32) (s : State) : Host.Outcome State Fault Refusal := cmdA (pulseEnd g.val) s

end Sys2Proof.Machine
end

