-- ==== Sys2Proof/Machine/IsaInt.lean ====
section
/-! DEFINITION. The integer instructions, branches and jumps (R605, R615 to R617). -/
namespace Sys2Proof.Machine

/-- The number of leading zeros of a 64-bit value (R615). -/
def leadZeros (x : DWord) : Nat := ((List.range 64).takeWhile (fun i => !bit x (63 - i))).length

/-- The number of 1 bits of a 64-bit value (R615). -/
def oneBits (x : DWord) : Nat := (List.range 64).countP (fun i => bit x i)

/-- The low n bytes of a value in reverse order, zero-extended (R615). -/
def swapBytes (n : Nat) (x : DWord) : DWord := BitVec.ofNat 64 (natBE (bytesLE n x.toNat))

/-- DIV (R615, R616): rounded toward zero; by 0 all ones. -/
def divS (a b : DWord) : DWord := if b = 0 then BitVec.allOnes 64 else BitVec.ofInt 64 (a.toInt.tdiv b.toInt)

/-- DIVU (R615, R616). -/
def divU (a b : DWord) : DWord := if b = 0 then BitVec.allOnes 64 else BitVec.ofNat 64 (a.toNat / b.toNat)

/-- REM (R615, R616): the sign of the dividend; by 0 the dividend. -/
def remS (a b : DWord) : DWord := if b = 0 then a else BitVec.ofInt 64 (a.toInt.tmod b.toInt)

/-- REMU (R615, R616). -/
def remU (a b : DWord) : DWord := if b = 0 then a else BitVec.ofNat 64 (a.toNat % b.toNat)

/-- SHI (R615): bits [7:6] choose left, right logical, right arithmetic or rotate right. -/
def shiftImm (a : DWord) (imm : BitVec 16) : DWord :=
  let n := fld imm 0 6
  match fld imm 6 2 with
  | 0 => a <<< n
  | 1 => a >>> n
  | 2 => a.sshiftRight n
  | _ => a.rotateRight n

/-- INSH (R615): halfword h of a register replaced. -/
def insertHalf (a : DWord) (imm : BitVec 16) (h : BitVec 2) : DWord :=
  let p := 16 * h.toNat
  (a &&& ~~~ (0xFFFF#64 <<< p)) ||| (imm.setWidth 64 <<< p)

/-- The number of a truth value. -/
def flag64 (b : Bool) : DWord := if b then 1 else 0

/-- An immediate, sign-extended and zero-extended. -/
def sx (imm : BitVec 16) : DWord := imm.signExtend 64
def zx (imm : BitVec 16) : DWord := imm.setWidth 64

/-! ### Branches and jumps (R605, R617) -/

/-- Go to a target: a misaligned one raises ALIGN at the branch; `link` writes the register of a jump (R605). -/
def branchTo (k : Nat) (target : DWord) (link : State → State) (s : State) : State :=
  if target.toNat % 4 ≠ 0 then raiseExc k .align (some target) s
  else finish k target (link (pmuUnit (k / 4) 0x28 (k % 4) (s.th k).user s))

/-- A conditional branch (R617). -/
def branchOp (e : Fin 512) (t : Fin 4) (rx ry : GReg) (off : BitVec 16) (c : DWord → DWord → Bool) (s : State) :
    Host.Outcome State Fault Refusal :=
  runOp e t false false [rx, ry] (fun k a =>
    let x := a.th k
    if c (x.r rx) (x.r ry) then branchTo k (x.pc + (sx off <<< 2)) id a else next k a) s

/-! ### Integer instructions (R615) -/

/-- ADD (R615). -/
def execAdd (e : Fin 512) (t : Fin 4) (rd ra rb : GReg) (s : State) : Host.Outcome State Fault Refusal :=
  aluOp e t rd [ra, rb] (fun x => x.r ra + x.r rb) s
/-- SUB (R615). -/
def execSub (e : Fin 512) (t : Fin 4) (rd ra rb : GReg) (s : State) : Host.Outcome State Fault Refusal :=
  aluOp e t rd [ra, rb] (fun x => x.r ra - x.r rb) s
/-- AND (R615). -/
def execAndOp (e : Fin 512) (t : Fin 4) (rd ra rb : GReg) (s : State) : Host.Outcome State Fault Refusal :=
  aluOp e t rd [ra, rb] (fun x => x.r ra &&& x.r rb) s
/-- OR (R615). -/
def execOrOp (e : Fin 512) (t : Fin 4) (rd ra rb : GReg) (s : State) : Host.Outcome State Fault Refusal :=
  aluOp e t rd [ra, rb] (fun x => x.r ra ||| x.r rb) s
/-- XOR (R615). -/
def execXorOp (e : Fin 512) (t : Fin 4) (rd ra rb : GReg) (s : State) : Host.Outcome State Fault Refusal :=
  aluOp e t rd [ra, rb] (fun x => x.r ra ^^^ x.r rb) s
/-- SLL (R615). -/
def execSll (e : Fin 512) (t : Fin 4) (rd ra rb : GReg) (s : State) : Host.Outcome State Fault Refusal :=
  aluOp e t rd [ra, rb] (fun x => x.r ra <<< fld (x.r rb) 0 6) s
/-- SRL (R615). -/
def execSrl (e : Fin 512) (t : Fin 4) (rd ra rb : GReg) (s : State) : Host.Outcome State Fault Refusal :=
  aluOp e t rd [ra, rb] (fun x => x.r ra >>> fld (x.r rb) 0 6) s
/-- SRA (R615). -/
def execSra (e : Fin 512) (t : Fin 4) (rd ra rb : GReg) (s : State) : Host.Outcome State Fault Refusal :=
  aluOp e t rd [ra, rb] (fun x => (x.r ra).sshiftRight (fld (x.r rb) 0 6)) s
/-- SLT (R615). -/
def execSlt (e : Fin 512) (t : Fin 4) (rd ra rb : GReg) (s : State) : Host.Outcome State Fault Refusal :=
  aluOp e t rd [ra, rb] (fun x => flag64 ((x.r ra).slt (x.r rb))) s
/-- SLTU (R615). -/
def execSltu (e : Fin 512) (t : Fin 4) (rd ra rb : GReg) (s : State) : Host.Outcome State Fault Refusal :=
  aluOp e t rd [ra, rb] (fun x => flag64 ((x.r ra).ult (x.r rb))) s
/-- MUL (R615). -/
def execMul (e : Fin 512) (t : Fin 4) (rd ra rb : GReg) (s : State) : Host.Outcome State Fault Refusal :=
  aluOp e t rd [ra, rb] (fun x => x.r ra * x.r rb) s
/-- MULH (R615). -/
def execMulh (e : Fin 512) (t : Fin 4) (rd ra rb : GReg) (s : State) : Host.Outcome State Fault Refusal :=
  aluOp e t rd [ra, rb] (fun x => BitVec.ofInt 64 ((x.r ra).toInt * (x.r rb).toInt / 2 ^ 64)) s
/-- MULHU (R615). -/
def execMulhu (e : Fin 512) (t : Fin 4) (rd ra rb : GReg) (s : State) : Host.Outcome State Fault Refusal :=
  aluOp e t rd [ra, rb] (fun x => BitVec.ofNat 64 ((x.r ra).toNat * (x.r rb).toNat / 2 ^ 64)) s
/-- DIV (R615, R616). -/
def execDiv (e : Fin 512) (t : Fin 4) (rd ra rb : GReg) (s : State) : Host.Outcome State Fault Refusal :=
  aluOp e t rd [ra, rb] (fun x => divS (x.r ra) (x.r rb)) s
/-- DIVU (R615, R616). -/
def execDivu (e : Fin 512) (t : Fin 4) (rd ra rb : GReg) (s : State) : Host.Outcome State Fault Refusal :=
  aluOp e t rd [ra, rb] (fun x => divU (x.r ra) (x.r rb)) s
/-- REM (R615, R616). -/
def execRem (e : Fin 512) (t : Fin 4) (rd ra rb : GReg) (s : State) : Host.Outcome State Fault Refusal :=
  aluOp e t rd [ra, rb] (fun x => remS (x.r ra) (x.r rb)) s
/-- REMU (R615, R616). -/
def execRemu (e : Fin 512) (t : Fin 4) (rd ra rb : GReg) (s : State) : Host.Outcome State Fault Refusal :=
  aluOp e t rd [ra, rb] (fun x => remU (x.r ra) (x.r rb)) s
/-- CLZ (R615). -/
def execClz (e : Fin 512) (t : Fin 4) (rd ra : GReg) (s : State) : Host.Outcome State Fault Refusal :=
  aluOp e t rd [ra] (fun x => BitVec.ofNat 64 (leadZeros (x.r ra))) s
/-- POPC (R615). -/
def execPopc (e : Fin 512) (t : Fin 4) (rd ra : GReg) (s : State) : Host.Outcome State Fault Refusal :=
  aluOp e t rd [ra] (fun x => BitVec.ofNat 64 (oneBits (x.r ra))) s
/-- BSWAP (R615). -/
def execBswap (e : Fin 512) (t : Fin 4) (rd ra : GReg) (s : State) : Host.Outcome State Fault Refusal :=
  aluOp e t rd [ra] (fun x => swapBytes 8 (x.r ra)) s
/-- BSWAP32 (R615). -/
def execBswap32 (e : Fin 512) (t : Fin 4) (rd ra : GReg) (s : State) : Host.Outcome State Fault Refusal :=
  aluOp e t rd [ra] (fun x => swapBytes 4 (x.r ra)) s
/-- BSWAP16 (R615). -/
def execBswap16 (e : Fin 512) (t : Fin 4) (rd ra : GReg) (s : State) : Host.Outcome State Fault Refusal :=
  aluOp e t rd [ra] (fun x => swapBytes 2 (x.r ra)) s
/-- ADDI (R615). -/
def execAddi (e : Fin 512) (t : Fin 4) (rd ra : GReg) (imm : BitVec 16) (s : State) : Host.Outcome State Fault Refusal :=
  aluOp e t rd [ra] (fun x => x.r ra + sx imm) s
/-- SLTI (R615). -/
def execSlti (e : Fin 512) (t : Fin 4) (rd ra : GReg) (imm : BitVec 16) (s : State) : Host.Outcome State Fault Refusal :=
  aluOp e t rd [ra] (fun x => flag64 ((x.r ra).slt (sx imm))) s
/-- SLTIU (R615). -/
def execSltiu (e : Fin 512) (t : Fin 4) (rd ra : GReg) (imm : BitVec 16) (s : State) : Host.Outcome State Fault Refusal :=
  aluOp e t rd [ra] (fun x => flag64 ((x.r ra).ult (sx imm))) s
/-- ANDI (R615). -/
def execAndi (e : Fin 512) (t : Fin 4) (rd ra : GReg) (imm : BitVec 16) (s : State) : Host.Outcome State Fault Refusal :=
  aluOp e t rd [ra] (fun x => x.r ra &&& zx imm) s
/-- ORI (R615). -/
def execOri (e : Fin 512) (t : Fin 4) (rd ra : GReg) (imm : BitVec 16) (s : State) : Host.Outcome State Fault Refusal :=
  aluOp e t rd [ra] (fun x => x.r ra ||| zx imm) s
/-- XORI (R615). -/
def execXori (e : Fin 512) (t : Fin 4) (rd ra : GReg) (imm : BitVec 16) (s : State) : Host.Outcome State Fault Refusal :=
  aluOp e t rd [ra] (fun x => x.r ra ^^^ zx imm) s
/-- LUI (R615). -/
def execLui (e : Fin 512) (t : Fin 4) (rd : GReg) (imm : BitVec 16) (s : State) : Host.Outcome State Fault Refusal :=
  aluOp e t rd [] (fun _ => (imm.setWidth 32 <<< 16).signExtend 64) s
/-- SHI: imm16[15:8] is zero, else ILLEGAL (R601, R615). -/
def execShi (e : Fin 512) (t : Fin 4) (rd ra : GReg) (imm : BitVec 16) (s : State) : Host.Outcome State Fault Refusal :=
  runOp e t (decide (fld imm 8 8 ≠ 0)) false [ra] (fun k a => next k (wrRg k rd.toNat (shiftImm ((a.th k).r ra) imm) a)) s
/-- INSH: it reads and writes rd (R615). -/
def execInsh (e : Fin 512) (t : Fin 4) (rd : GReg) (imm : BitVec 16) (h : BitVec 2) (s : State) : Host.Outcome State Fault Refusal :=
  aluOp e t rd [rd] (fun x => insertHalf (x.r rd) imm h) s

/-! ### Control transfer (R617) -/

/-- BEQ (R617). -/
def execBeq (e : Fin 512) (t : Fin 4) (rx ry : GReg) (off : BitVec 16) (s : State) : Host.Outcome State Fault Refusal :=
  branchOp e t rx ry off (fun a b => a == b) s
/-- BNE (R617). -/
def execBne (e : Fin 512) (t : Fin 4) (rx ry : GReg) (off : BitVec 16) (s : State) : Host.Outcome State Fault Refusal :=
  branchOp e t rx ry off (fun a b => a != b) s
/-- BLT (R617). -/
def execBlt (e : Fin 512) (t : Fin 4) (rx ry : GReg) (off : BitVec 16) (s : State) : Host.Outcome State Fault Refusal :=
  branchOp e t rx ry off (fun a b => a.slt b) s
/-- BGE (R617). -/
def execBge (e : Fin 512) (t : Fin 4) (rx ry : GReg) (off : BitVec 16) (s : State) : Host.Outcome State Fault Refusal :=
  branchOp e t rx ry off (fun a b => !a.slt b) s
/-- BLTU (R617). -/
def execBltu (e : Fin 512) (t : Fin 4) (rx ry : GReg) (off : BitVec 16) (s : State) : Host.Outcome State Fault Refusal :=
  branchOp e t rx ry off (fun a b => a.ult b) s
/-- BGEU (R617). -/
def execBgeu (e : Fin 512) (t : Fin 4) (rx ry : GReg) (off : BitVec 16) (s : State) : Host.Outcome State Fault Refusal :=
  branchOp e t rx ry off (fun a b => !a.ult b) s
/-- JAL (R617). -/
def execJal (e : Fin 512) (t : Fin 4) (rd : GReg) (off : BitVec 21) (s : State) : Host.Outcome State Fault Refusal :=
  runOp e t false false [] (fun k a =>
    let pc := (a.th k).pc
    branchTo k (pc + (off.signExtend 64 <<< 2)) (wrRg k rd.toNat (pc + 4)) a) s
/-- JALR: ra is read before rd is written (R617). -/
def execJalr (e : Fin 512) (t : Fin 4) (rd ra : GReg) (imm : BitVec 16) (s : State) : Host.Outcome State Fault Refusal :=
  runOp e t false false [ra] (fun k a =>
    let x := a.th k
    branchTo k (x.r ra + sx imm) (wrRg k rd.toNat (x.pc + 4)) a) s

end Sys2Proof.Machine
end

