-- ==== Sys2Proof/Machine/IsaMem.lean ====
section
/-! DEFINITION. Loads and stores (R554, R556, R607 to R611, R617). -/
namespace Sys2Proof.Machine

/-- The check of an access of n bytes at an address that must be a multiple of `align`: ALIGN comes before ACCESS (R607, R612). -/
def State.access (s : State) (k a n align : Nat) (write : Bool) : Except Cause Target :=
  if a % align ≠ 0 then .error .align
  else
    match s.mayAccess (k / 4) (s.th k).user a n write with
    | none => .error .access
    | some t => .ok t

/-- The exception that ends a read or write (R556, R557). -/
def MemEnd.cause : MemEnd → Cause
  | .ecc => .memEcc
  | .ok | .bus => .busErr

/-- Sign or zero extension of n bytes (R617). -/
def extend (n : Nat) (signed : Bool) (v : Nat) : DWord :=
  if signed then BitVec.ofInt 64 (BitVec.ofNat (8 * n) v).toInt else BitVec.ofNat 64 v

/-- Count a data access of a thread: its kind, a far target, the cluster's data memory (R847). -/
def countAccess (k code : Nat) (t : Target) (s : State) : State :=
  let u := (s.th k).user
  let s1 := pmuUnit (k / 4) code (k % 4) u s
  match t with
  | .dmem _ _ => pmuUnit (512 + k / 32) 0x03 0 false s1
  | _ => if t.isFar then pmuUnit (k / 4) 0x22 (k % 4) u s1 else s1

/-- The master that a thread's cluster is on the matrix (R858). -/
def masterOf (k : Nat) : Master := .cluster (Fin.ofNat 64 (k / 32))

/-- A load of n bytes into rd (R617). -/
def load (k rd : Nat) (ea : DWord) (n : Nat) (signed : Bool) (s : State) : State :=
  match s.access k ea.toNat n n false with
  | .error c => raiseExc k c (some ea) s
  | .ok t =>
    let s0 := countAccess k 0x20 t s
    let put (v : Nat) (a : State) : State := next k (wrRg k rd (extend n signed v) a)
    match t with
    | .page a =>
      (match busRead (masterOf k) (.load k rd signed) a n s0 with
       | (.data v, s1) => put v s1
       | (.err, s1) => raiseExc k .busErr (some ea) s1
       | (.taken, s1) | (.waits, s1) => s1)
    | _ =>
      match memRead (k / 32) n t s0 with
      | (.ok, l, s1) => put (natLE l) s1
      | (x, _, s1) => raiseExc k x.cause (some ea) s1

/-- A thread has a posted store that is not yet answered (R610). (DESIGN CHOICE, log 75.) -/
def addPosted (k : Nat) (ea : DWord) (s : State) : State := s.setTh k { s.th k with posted := (s.th k).posted ++ [ea] }

/-- A store of the low n bytes of a value; beyond the cluster it is posted: the thread goes on at once, and a ninth outstanding one stalls
(R610, R617). (DESIGN CHOICE, log 75.) -/
def store (k : Nat) (v ea : DWord) (n : Nat) (s : State) : Option State :=
  match s.access k ea.toNat n n true with
  | .error c => some (raiseExc k c (some ea) s)
  | .ok t =>
    if t.isFar ∧ 8 ≤ (s.th k).posted.length then none
    else
      let s1 := next k (countAccess k 0x21 t s)
      match t with
      | .page a =>
        (match busWrite (masterOf k) (.store k) (some (s.th k).pc) a n (v.toNat % 2 ^ (8 * n)) s1 with
         | (.err, s2) | (.waits, s2) => some (addPosted k ea s2)
         | (.taken, s2) | (.data _, s2) => some s2)
      | _ =>
        match memWrite (k / 32) t (bytesLE n v.toNat) s1 with
        | (.ok, s2) => some s2
        | (_, s2) => some (addPosted k ea s2)

/-- The effective address of a load or store (R617). -/
def Thread.ea (t : Thread) (ra : GReg) (imm : BitVec 16) : DWord := t.r ra + imm.signExtend 64

/-- A load instruction (R617). -/
def loadOp (e : Fin 512) (t : Fin 4) (rd ra : GReg) (imm : BitVec 16) (n : Nat) (signed : Bool) (s : State) :
    Host.Outcome State Fault Refusal :=
  runOp e t false false [ra] (fun k a => load k rd.toNat ((a.th k).ea ra imm) n signed a) s

/-- A store instruction (R617). -/
def storeOp (e : Fin 512) (t : Fin 4) (rs ra : GReg) (imm : BitVec 16) (n : Nat) (s : State) :
    Host.Outcome State Fault Refusal :=
  stallOp e t false false [rs, ra] (fun k a => store k ((a.th k).r rs) ((a.th k).ea ra imm) n a) s

/-- A request of this address is still outstanding, so that its error has not come. -/
def State.held (s : State) (k : Nat) (a : DWord) : Bool :=
  s.mtx.any (fun r => decide (r.reply = .store k) && decide (BitVec.ofNat 64 (eaPages + r.addr) = a))

/-- The error response to a posted store of a thread arrives (R610). (DESIGN CHOICE, log 75.) -/
def postedError (k : Nat) (a : DWord) (s : State) : State :=
  if (s.th k).posted.contains a ∧ s.held k a = false then postFailed k a s else s

/-- LD (R617). -/
def execLd (e : Fin 512) (t : Fin 4) (rd ra : GReg) (imm : BitVec 16) (s : State) : Host.Outcome State Fault Refusal :=
  loadOp e t rd ra imm 8 false s
/-- LW (R617). -/
def execLw (e : Fin 512) (t : Fin 4) (rd ra : GReg) (imm : BitVec 16) (s : State) : Host.Outcome State Fault Refusal :=
  loadOp e t rd ra imm 4 true s
/-- LWU (R617). -/
def execLwu (e : Fin 512) (t : Fin 4) (rd ra : GReg) (imm : BitVec 16) (s : State) : Host.Outcome State Fault Refusal :=
  loadOp e t rd ra imm 4 false s
/-- LH (R617). -/
def execLh (e : Fin 512) (t : Fin 4) (rd ra : GReg) (imm : BitVec 16) (s : State) : Host.Outcome State Fault Refusal :=
  loadOp e t rd ra imm 2 true s
/-- LHU (R617). -/
def execLhu (e : Fin 512) (t : Fin 4) (rd ra : GReg) (imm : BitVec 16) (s : State) : Host.Outcome State Fault Refusal :=
  loadOp e t rd ra imm 2 false s
/-- LB (R617). -/
def execLb (e : Fin 512) (t : Fin 4) (rd ra : GReg) (imm : BitVec 16) (s : State) : Host.Outcome State Fault Refusal :=
  loadOp e t rd ra imm 1 true s
/-- LBU (R617). -/
def execLbu (e : Fin 512) (t : Fin 4) (rd ra : GReg) (imm : BitVec 16) (s : State) : Host.Outcome State Fault Refusal :=
  loadOp e t rd ra imm 1 false s
/-- SD (R617). -/
def execSd (e : Fin 512) (t : Fin 4) (rs ra : GReg) (imm : BitVec 16) (s : State) : Host.Outcome State Fault Refusal :=
  storeOp e t rs ra imm 8 s
/-- SW (R617). -/
def execSw (e : Fin 512) (t : Fin 4) (rs ra : GReg) (imm : BitVec 16) (s : State) : Host.Outcome State Fault Refusal :=
  storeOp e t rs ra imm 4 s
/-- SH (R617). -/
def execSh (e : Fin 512) (t : Fin 4) (rs ra : GReg) (imm : BitVec 16) (s : State) : Host.Outcome State Fault Refusal :=
  storeOp e t rs ra imm 2 s
/-- SB (R617). -/
def execSb (e : Fin 512) (t : Fin 4) (rs ra : GReg) (imm : BitVec 16) (s : State) : Host.Outcome State Fault Refusal :=
  storeOp e t rs ra imm 1 s
/-- POSTED_STORE_ERROR (R610). -/
def execPostedStoreError (e : Fin 512) (t : Fin 4) (addr : DWord) (s : State) : Host.Outcome State Fault Refusal :=
  .next (if s.alive then settle s (postedError (thKey e t) addr s) else s)

end Sys2Proof.Machine
end

