-- ==== Sys2Proof/Machine/IsaQueue.lean ====
section
/-! DEFINITION. The queue instructions (R569 to R572, R624 to R627). -/
namespace Sys2Proof.Machine

/-- A queue operation of a thread in the counters (R847). -/
def countQueue (k : Nat) (st : QStatus) (s : State) : State :=
  let u := (s.th k).user
  let s1 := pmuUnit (k / 4) 0x23 (k % 4) u s
  if st = .empty ∨ st = .full then pmuUnit (k / 4) 0x24 (k % 4) u s1 else s1

/-- The result of a queue operation (R624). -/
def queueDone (k rd : Nat) (st : QStatus) (s : State) : State :=
  next k (wrRg k rd (BitVec.ofNat 64 st.code) (countQueue k st s))

/-- The checks of a queue operation on its element: ALIGN, ACCESS, then QUEUE (R612, R625, R626). -/
def queueCheck (k n : Nat) (a : DWord) (write : Bool) (s : State) : Except (Cause × Option DWord) Target :=
  match s.access k a.toNat (s.queue n).size (s.queue n).size write with
  | .error c => .error (c, some a)
  | .ok t => if (s.th k).user ∧ (s.queue n).user = false then .error (.queue, none) else .ok t

/-- A push: the element is read, then stored (R569, R627); an exception leaves the queue as it was. -/
def pushNow (k rd n : Nat) (a : DWord) (t : Target) (s : State) : State :=
  let q := s.queue n
  if q.en = false then queueDone k rd .disabled s
  else if q.cap ≤ q.depth then queueDone k rd .full s
  else
    match memRead (k / 32) q.size t s with
    | (.ok, l, s1) =>
      (match queuePush n l s1 with
       | (st, ovf, s2) => queueDone k rd st (match ovf with | some w => raiseEvt (Reg.ENG (w / 4)) 2 s2 | none => s2))
    | (x, _, s1) => raiseExc k x.cause (some a) s1

/-- A pop: the element is copied to the thread before HEAD advances (R569, R627). -/
def popNow (k rd n : Nat) (a : DWord) (t : Target) (s : State) : State :=
  match queuePop n s with
  | (.ok, l, s1) =>
    (match memWrite (k / 32) t l s1 with
     | (.ok, s2) => queueDone k rd .ok s2
     | (_, _) => raiseExc k .busErr (some a) (memWrite (k / 32) t l s).2)
  | (st, _, _) => queueDone k rd st s

/-- A thread begins to wait on a queue (R569). -/
def queueWait (k : Nat) (w : Waiting) (s : State) : State :=
  let s1 := s.setTh k { s.th k with st := .wait, waitOn := .queue, waiting := w }
  match w with
  | .qpush _ n _ => s1.setQueue n { s1.queue n with pushes := insNat (s1.queue n).pushes k }
  | .qpop _ n _ => s1.setQueue n { s1.queue n with pops := insNat (s1.queue n).pops k }
  | _ => s1

/-- QPUSH and QPUSHW (R611, R624, R625): they fence first. -/
def pushOp (k rd n : Nat) (a : DWord) (wait : Bool) (s : State) : Option State :=
  if (s.th k).posted.isEmpty = false then none
  else
    match queueCheck k n a false s with
    | .error (c, b) => some (raiseExc k c b s)
    | .ok t =>
      if wait ∧ (s.queue n).en ∧ (s.queue n).cap ≤ (s.queue n).depth then some (queueWait k (.qpush rd n a) s)
      else some (pushNow k rd n a t s)

/-- QPOP and QPOPW (R624, R625). -/
def popOp (k rd n : Nat) (a : DWord) (wait : Bool) (s : State) : State :=
  match queueCheck k n a true s with
  | .error (c, b) => raiseExc k c b s
  | .ok t =>
    if wait ∧ (s.queue n).en ∧ (s.queue n).depth = 0 then queueWait k (.qpop rd n a) s
    else popNow k rd n a t s

/-- A thread leaves its wait to complete its instruction (R549). -/
def wakeUp (k : Nat) (s : State) : State :=
  let s1 := queueLeave k s
  s1.setTh k { s1.th k with st := .run, waitOn := .none, waiting := .nothing }

/-- A waiting queue operation completes (R569, R604). -/
def queueResume (k : Nat) (s : State) : State :=
  let w := (s.th k).waiting
  if s.queueTurn k w = false then s
  else
    let s1 := wakeUp k s
    match w with
    | .qpush rd n a =>
      (match queueCheck k n a false s1 with
       | .error (c, b) => raiseExc k c b s1
       | .ok t => pushNow k rd n a t s1)
    | .qpop rd n a =>
      (match queueCheck k n a true s1 with
       | .error (c, b) => raiseExc k c b s1
       | .ok t => popNow k rd n a t s1)
    | _ => s

/-- What QSTAT reads (R624). -/
def Queue.statWord (q : Queue) : DWord :=
  BitVec.ofNat 64 (q.depth + b2n q.en * 2 ^ 29 + b2n (decide (q.depth = 0)) * 2 ^ 30 + b2n (decide (q.depth = q.cap)) * 2 ^ 31)

/-- The queue a register names (R624). -/
def queueOf (v : DWord) : Nat := fld v 0 18

/-- QPUSH (R624). -/
def execQpush (e : Fin 512) (t : Fin 4) (rd ra rb : GReg) (s : State) : Host.Outcome State Fault Refusal :=
  stallOp e t false false [ra, rb] (fun k a => pushOp k rd.toNat (queueOf ((a.th k).r ra)) ((a.th k).r rb) false a) s
/-- QPOP (R624). -/
def execQpop (e : Fin 512) (t : Fin 4) (rd ra rb : GReg) (s : State) : Host.Outcome State Fault Refusal :=
  runOp e t false false [ra, rb] (fun k a => popOp k rd.toNat (queueOf ((a.th k).r ra)) ((a.th k).r rb) false a) s
/-- QPUSHW (R624). -/
def execQpushw (e : Fin 512) (t : Fin 4) (rd ra rb : GReg) (s : State) : Host.Outcome State Fault Refusal :=
  stallOp e t false false [ra, rb] (fun k a => pushOp k rd.toNat (queueOf ((a.th k).r ra)) ((a.th k).r rb) true a) s
/-- QPOPW (R624). -/
def execQpopw (e : Fin 512) (t : Fin 4) (rd ra rb : GReg) (s : State) : Host.Outcome State Fault Refusal :=
  runOp e t false false [ra, rb] (fun k a => popOp k rd.toNat (queueOf ((a.th k).r ra)) ((a.th k).r rb) true a) s
/-- QSTAT (R624, R626). -/
def execQstat (e : Fin 512) (t : Fin 4) (rd ra : GReg) (s : State) : Host.Outcome State Fault Refusal :=
  runOp e t false false [ra] (fun k a =>
    let q := a.queue (queueOf ((a.th k).r ra))
    if (a.th k).user ∧ q.user = false then raiseExc k .queue none a else next k (wrRg k rd.toNat q.statWord a)) s

end Sys2Proof.Machine
end

