-- ==== Sys2Proof/Machine/IsaSync.lean ====
section
/-! DEFINITION. Events, barriers, semaphores, crypto submission, the journal and the fence; and the end of a wait (R549, R573, R577 to
R583, R611, R628 to R635). -/
namespace Sys2Proof.Machine

/-- A thread goes to WAIT on an instruction (R549). -/
def beginWait (k : Nat) (on : WaitOn) (w : Waiting) (s : State) : State :=
  s.setTh k { s.th k with st := .wait, waitOn := on, waiting := w }

/-- The instruction of a thread completes with a result. -/
def give (k rd : Nat) (v : DWord) (s : State) : State := next k (wrRg k rd v s)

/-- An instruction that fences first: while posted stores are outstanding it stalls (R611). (DESIGN CHOICE, log 75.) -/
def fenced (k : Nat) (op : State → State) (s : State) : Option State :=
  if (s.th k).posted.isEmpty then some (op s) else none

/-- The oldest entry of a thread's event FIFO is taken (R573, R628). -/
def takeEvent (k rd : Nat) (w : Word) (rest : List Word) (s : State) : State :=
  let u := (s.th k).user
  give k rd (w.setWidth 64) (pmuUnit (k / 4) 0x26 (k % 4) u (s.setTh k { s.th k with fifo := rest }))

/-- EWAIT and ETRY (R628). -/
def eventOp (k rd : Nat) (wait : Bool) (s : State) : State :=
  match (s.th k).fifo with
  | w :: rest => takeEvent k rd w rest s
  | [] => if wait then beginWait k .event (.ewait rd) s else give k rd 0x8000000000000000 s

/-- EPOST (R628, R632). -/
def postOp (k : Nat) (ra rb : DWord) (s : State) : State :=
  let e := 8 * (k / 32) + fld ra 2 3
  let s1 := next k s
  if s1.engEn e ∧ s1.engRst e = false then postTo (4 * e + fld ra 0 2) 5 (fld rb 0 24) s1 else s1

/-- BAR: arrive at a barrier (R577, R579, R599, R628, R631). -/
def barOp (k rd b : Nat) (s : State) : State :=
  if s.barMember b k = false then give k rd 2 s
  else if (s.arrivedAt b).contains k then raiseExc k .illegal none s
  else
    let s1 := pmuUnit (512 + k / 32) 0x07 0 false (beginWait k .barrier (.bar rd b) s)
    let s2 := s1.setArrived b (s1.arrivedAt b ++ [k])
    if s2.fltBit Reg.SEM 0 then barBreak b s2 else barCheck b s2

/-- BCAST: every member receives the value and a BROADCAST event (R580). (DEDUCED, log 74.) -/
def bcastOp (k b : Nat) (v : DWord) (s : State) : State :=
  (s.barMembers b).foldl (fun a j => postTo j 4 b (a.setTh j { a.th j with bcast := v })) (next k s)

/-- SACQ: a held semaphore is waited for (R582, R629); while SEM STORE is set every acquire returns BUSY (R599). (DEDUCED, log 74.) -/
def acquireOp (k rd n : Nat) (s : State) : State :=
  match semTry k n s with
  | (.busy, s1) =>
    if s1.fltBit Reg.SEM 0 then give k rd 2 s1
    else (beginWait k .sema (.sacq rd n) s1).setSem n ((s1.sem n).enqueue s1.bt k)
  | (r, s1) => give k rd (BitVec.ofNat 64 r.code) s1

/-- Submit the descriptor at an address (R630); its memory has been checked. -/
def submitNow (k rd : Nat) (a : DWord) (t : Target) (s : State) : State :=
  match memRead (k / 32) 32 t s with
  | (.ok, l, s1) =>
    (match cryTake k l s1 with
     | (n, s2) => give k rd (BitVec.ofNat 64 n) (pmuUnit (k / 4) 0x25 (k % 4) (s2.th k).user s2))
  | (x, _, s1) => raiseExc k x.cause (some a) s1

/-- CSUB: while eight tickets are outstanding it waits (R628, R630). -/
def submitOp (k rd : Nat) (a : DWord) (s : State) : State :=
  match s.access k a.toNat 32 32 false with
  | .error c => raiseExc k c (some a) s
  | .ok t => if 8 ≤ (s.th k).tickets.length then beginWait k .crypto (.csub rd a) s else submitNow k rd a t s

/-- Collect a completed ticket (R630). -/
def collect (k rd n : Nat) (w : Word) (s : State) : State :=
  give k rd (w.setWidth 64) (s.setTh k { s.th k with tickets := (s.th k).tickets.filter (fun x => decide (x.num ≠ n)) })

/-- CWAIT and CTRY (R628, R630). -/
def collectOp (k rd n : Nat) (wait : Bool) (s : State) : State :=
  match (s.th k).tickets.find? (fun x => decide (x.num = n)) with
  | none => give k rd 0x8000000000000000 s
  | some x =>
    match x.done with
    | some w => collect k rd n w s
    | none => if wait then beginWait k .crypto (.cwait rd n) s else give k rd 0x4000000000000000 s

/-- The awaited condition of a thread in WAIT holds: its instruction completes (R549, R569, R604, R633). -/
def resume (k : Nat) (s : State) : State :=
  let t := s.th k
  match t.waiting with
  | .nothing => s
  | .done rd v => thDone k rd v s
  | .ewait rd =>
    (match t.fifo with
     | [] => s
     | w :: rest => takeEvent k rd w rest (wakeUp k s))
  | .qpush _ _ _ | .qpop _ _ _ => queueResume k s
  | .bar _ _ | .sacq _ _ => s
  | .csub rd a => if 8 ≤ t.tickets.length then s else submitOp k rd a (wakeUp k s)
  | .cwait rd n =>
    (match t.tickets.find? (fun x => decide (x.num = n)) with
     | some { num := _, done := some w } => collect k rd n w (wakeUp k s)
     | _ => s)

/-- JRNL: a write through the page in the same cycle gives way to it (R628, R635). -/
def journalSet (k : Nat) (v : Word) (s : State) : State :=
  { s.setTh k { s.th k with jrnl := v } with thisCyc := { s.thisCyc with jrnl := k :: s.thisCyc.jrnl } }

/-- WAIT_RESUME (R549, R633). -/
def execWaitResume (e : Fin 512) (t : Fin 4) (s : State) : Host.Outcome State Fault Refusal :=
  let k := thKey e t
  .next (if s.engRuns e.val ∧ (s.th k).st = .wait then settle s (haltAfter k (resume k s)) else s)

/-- EWAIT (R628). -/
def execEwait (e : Fin 512) (t : Fin 4) (rd : GReg) (s : State) : Host.Outcome State Fault Refusal :=
  runOp e t false false [] (fun k a => eventOp k rd.toNat true a) s
/-- ETRY (R628). -/
def execEtry (e : Fin 512) (t : Fin 4) (rd : GReg) (s : State) : Host.Outcome State Fault Refusal :=
  runOp e t false false [] (fun k a => eventOp k rd.toNat false a) s
/-- EPOST (R628). -/
def execEpost (e : Fin 512) (t : Fin 4) (ra rb : GReg) (s : State) : Host.Outcome State Fault Refusal :=
  stallOp e t false true [ra, rb] (fun k a => fenced k (postOp k ((a.th k).r ra) ((a.th k).r rb)) a) s
/-- BAR (R628). -/
def execBarArrive (e : Fin 512) (t : Fin 4) (rd ra : GReg) (s : State) : Host.Outcome State Fault Refusal :=
  runOp e t false false [ra] (fun k a => barOp k rd.toNat (fld ((a.th k).r ra) 0 4) a) s
/-- BCAST: ILLEGAL for a thread that is no member (R628, R631). -/
def execBcast (e : Fin 512) (t : Fin 4) (ra rb : GReg) (s : State) : Host.Outcome State Fault Refusal :=
  let b := fld ((s.th (thKey e t)).r ra) 0 4
  stallOp e t (!s.barMember b (thKey e t)) true [ra, rb] (fun k a => fenced k (bcastOp k b ((a.th k).r rb)) a) s
/-- SACQ (R628). -/
def execSacq (e : Fin 512) (t : Fin 4) (rd ra : GReg) (s : State) : Host.Outcome State Fault Refusal :=
  runOp e t false false [ra] (fun k a => acquireOp k rd.toNat (fld ((a.th k).r ra) 0 8) a) s
/-- STRY (R628). -/
def execStry (e : Fin 512) (t : Fin 4) (rd ra : GReg) (s : State) : Host.Outcome State Fault Refusal :=
  runOp e t false false [ra] (fun k a =>
    let r := semTry k (fld ((a.th k).r ra) 0 8) a
    give k rd.toNat (BitVec.ofNat 64 r.1.code) r.2) s
/-- SREL (R611, R628). -/
def execSrel (e : Fin 512) (t : Fin 4) (rd ra : GReg) (s : State) : Host.Outcome State Fault Refusal :=
  stallOp e t false false [ra] (fun k a => fenced k (fun b =>
    let r := semRelease k (fld ((b.th k).r ra) 0 8) b
    give k rd.toNat (BitVec.ofNat 64 r.1.code) r.2) a) s
/-- CSUB (R611, R628). -/
def execCsub (e : Fin 512) (t : Fin 4) (rd ra : GReg) (s : State) : Host.Outcome State Fault Refusal :=
  stallOp e t false false [ra] (fun k a => fenced k (submitOp k rd.toNat ((a.th k).r ra)) a) s
/-- CWAIT (R628). -/
def execCwait (e : Fin 512) (t : Fin 4) (rd ra : GReg) (s : State) : Host.Outcome State Fault Refusal :=
  runOp e t false false [ra] (fun k a => collectOp k rd.toNat (fld ((a.th k).r ra) 0 16) true a) s
/-- CTRY (R628). -/
def execCtry (e : Fin 512) (t : Fin 4) (rd ra : GReg) (s : State) : Host.Outcome State Fault Refusal :=
  runOp e t false false [ra] (fun k a => collectOp k rd.toNat (fld ((a.th k).r ra) 0 16) false a) s
/-- JRNL (R628, R635). -/
def execJrnl (e : Fin 512) (t : Fin 4) (ra : GReg) (s : State) : Host.Outcome State Fault Refusal :=
  runOp e t false false [ra] (fun k a => next k (journalSet k (((a.th k).r ra).setWidth 32) a)) s
/-- FENCE (R611). -/
def execFence (e : Fin 512) (t : Fin 4) (s : State) : Host.Outcome State Fault Refusal :=
  stallOp e t false false [] (fun k a => fenced k (next k) a) s

end Sys2Proof.Machine
end

