-- ==== Sys2Proof/Machine/IsaSys.lean ====
section
/-! DEFINITION. The system instructions, the special registers, and which words are instructions at all (R600 to R602, R614, R637 to
R639). -/
namespace Sys2Proof.Machine

/-! ### Special registers (R638) -/

/-- CD_ENG cycles since the engine left reset; how the clock lies in the cycle of CD_TB is free (R58, R638). (DESIGN CHOICE, log 77.) -/
def State.engCycles (s : State) (e : Nat) : Nat :=
  let t := match (s.eng e).since with
    | some b => s.engClock e - b
    | none => s.engClock e - s.fct.since
  t.toNat / 65536 * 6 / 5 + s.freeVal % 2

/-- A special register as MFSR reads it; none for a number that R638 does not list. -/
def State.srRead (s : State) (k n : Nat) : Option DWord :=
  let t := s.th k
  match n with
  | 0 => some t.epc
  | 1 => some (BitVec.ofNat 64 t.statWord)
  | 2 => some (BitVec.ofNat 64 (k + k / 32 * 2 ^ 16))
  | 3 => some (BitVec.ofNat 64 (s.regN (Reg.ENG_VEC (k / 4)) 2))
  | 4 => some t.badaddr
  | 5 => some (BitVec.ofNat 64 (s.engCycles (k / 4)))
  | 6 => some t.sscr
  | _ => none

/-- A write of VEC by a thread: of the threads that write it in one cycle the highest-numbered one stands (R638). -/
def vecWrite (k : Nat) (v : DWord) (s : State) : State :=
  let e := k / 4
  let a := Reg.ENG_VEC e
  if k % 4 + 1 < AMap.get 0 s.thisCyc.vec e then s
  else injectNote (a + 4) s { s.setRegN a v.toNat 2 with thisCyc := { s.thisCyc with vec := AMap.set 0 s.thisCyc.vec e (k % 4 + 1) } }

/-- A write of a special register; none for one that is read-only or not listed (R638). -/
def srWrite (k n : Nat) (v : DWord) (s : State) : Option State :=
  let t := s.th k
  match n with
  | 0 => some (s.setTh k { t with epc := v })
  | 3 => some (vecWrite k v s)
  | 6 => some (s.setTh k { t with sscr := v })
  | _ => none

/-- The counter that a PMRD index names: the engine's, its cluster's, the chip's (R639). -/
def pmrdKey (k n : Nat) : Option Nat :=
  if n < 8 then some (16 * (k / 4) + n)
  else if n < 24 then some (16 * (512 + k / 32) + (n - 8))
  else if n < 88 then some (9216 + (n - 24)) else none

/-- PMRD (R639, R844). -/
def pmrdOp (k rd n : Nat) (s : State) : State :=
  match pmrdKey k n with
  | none => raiseExc k .illegal none s
  | some c =>
    let u := (s.th k).user
    if u ∧ s.rb (Reg.ENG_CFG (k / 4)) 0 = false then raiseExc k .priv none s
    else if u ∧ s.rb Reg.PMU_CTL 2 = false ∧ 24 ≤ n then next k (wrRg k rd 0 s)
    else next k (wrRg k rd (BitVec.ofNat 64 ((s.ctr c).count.toNat + b2n (s.ctr c).ovf * 2 ^ 63)) s)

/-! ### The words that are instructions (R600 to R602, R614) -/

/-- An ALU word is listed: fn, and the fields that it does not use are zero (R615). -/
def aluListed (fn rb : Nat) : Bool :=
  fn ≤ 9 || [0x10, 0x11, 0x12, 0x14, 0x15, 0x16, 0x17].contains fn || ([0x20, 0x21, 0x22, 0x23, 0x24].contains fn && decide (rb = 0))

/-- A register field names a pair (R602). -/
def pairField (r : Nat) : Bool := decide (r ≠ 0) && decide (r % 2 = 0)

/-- A TIME word is listed (R602, R618). -/
def timeListed (fn rd ra rb : Nat) : Bool :=
  match fn with
  | 0x000 | 0x001 => pairField rd && decide (ra = 0) && decide (rb = 0)
  | 0x002 | 0x005 | 0x008 => pairField rd && pairField ra && decide (rb = 0)
  | 0x003 | 0x004 => pairField ra && pairField rb
  | 0x006 | 0x007 => pairField ra && decide (rb = 0)
  | 0x009 | 0x00A => pairField rd && pairField ra
  | 0x00B | 0x00C => true
  | 0x00D => decide (rd = 0) && decide (rb = 0)
  | 0x00E => decide (rd = 0) && pairField ra && decide (rb = 0)
  | _ => false

/-- A SYNC word is listed (R628). -/
def syncListed (fn rd ra rb : Nat) : Bool :=
  match fn with
  | 0x000 | 0x001 => decide (ra = 0) && decide (rb = 0)
  | 0x002 | 0x009 => decide (rd = 0)
  | 0x008 | 0x010 | 0x011 | 0x012 | 0x018 | 0x019 | 0x01A => decide (rb = 0)
  | 0x020 => decide (rd = 0) && decide (rb = 0)
  | 0x021 => decide (rd = 0) && decide (ra = 0) && decide (rb = 0)
  | _ => false

/-- A SYS word is listed (R637, R638). -/
def sysListed (fn rd ra rb : Nat) : Bool :=
  match fn with
  | 0x000 | 0x001 | 0x002 => decide (rd = 0) && decide (ra = 0) && decide (rb = 0)
  | 0x003 => decide (ra = 0) && decide (rb ≤ 6)
  | 0x004 => decide (rd = 0) && (decide (rb = 0) || decide (rb = 3) || decide (rb = 6))
  | 0x005 => decide (rb = 0)
  | _ => false

/-- A word is an instruction that the tables list (R601, R602, R614). (DESIGN CHOICE, log 78.) -/
def listedWord (w : Word) : Bool :=
  let op := fld w 26 6
  let rd := fld w 21 5
  let ra := fld w 16 5
  let rb := fld w 11 5
  let fn := fld w 0 11
  if op = 0 then aluListed fn rb
  else if op ≤ 6 then true
  else if op = 7 then decide (ra = 0)
  else if op = 8 then decide (fld w 8 8 = 0)
  else if op = 9 then decide (ra < 4)
  else if (0x10 ≤ op ∧ op ≤ 0x16) ∨ (0x18 ≤ op ∧ op ≤ 0x1B) ∨ (0x20 ≤ op ∧ op ≤ 0x27) then true
  else if op = 0x30 then timeListed fn rd ra rb
  else if op = 0x31 then decide (fn ≤ 3) || (decide (fn = 4) && decide (rb = 0))
  else if op = 0x32 then syncListed fn rd ra rb
  else if op = 0x3F then sysListed fn rd ra rb
  else false

/-! ### Meanings -/

/-- SYSCALL: ILLEGAL in supervisor mode (R558, R559, R637). -/
def execSysCall (e : Fin 512) (t : Fin 4) (s : State) : Host.Outcome State Fault Refusal :=
  runOp e t (!(s.th (thKey e t)).user) false [] (fun k a => raiseExc k .sysCall none a) s
/-- BREAK (R558, R559, R637). -/
def execBreakOp (e : Fin 512) (t : Fin 4) (s : State) : Host.Outcome State Fault Refusal :=
  runOp e t false false [] (fun k a => raiseExc k .breakPoint none a) s
/-- ERET (R637). -/
def execEret (e : Fin 512) (t : Fin 4) (s : State) : Host.Outcome State Fault Refusal :=
  runOp e t false true [] (fun k a =>
    let b := finish k (a.th k).epc a
    b.setTh k { b.th k with user := true }) s
/-- MFSR (R637, R638). -/
def execMfsr (e : Fin 512) (t : Fin 4) (rd : GReg) (sr : BitVec 5) (s : State) : Host.Outcome State Fault Refusal :=
  runOp e t (decide (6 < sr.toNat)) true [] (fun k a =>
    match a.srRead k sr.toNat with
    | some v => next k (wrRg k rd.toNat v (if sr = 5 then a.nextFree else a))
    | none => a) s
/-- MTSR (R637, R638). -/
def execMtsr (e : Fin 512) (t : Fin 4) (sr : BitVec 5) (ra : GReg) (s : State) : Host.Outcome State Fault Refusal :=
  runOp e t (decide (sr ≠ 0) && decide (sr ≠ 3) && decide (sr ≠ 6)) true [ra] (fun k a =>
    match srWrite k sr.toNat ((a.th k).r ra) a with
    | some b => next k b
    | none => a) s
/-- PMRD (R637, R639). -/
def execPmrd (e : Fin 512) (t : Fin 4) (rd ra : GReg) (s : State) : Host.Outcome State Fault Refusal :=
  runOp e t false false [ra] (fun k a => pmrdOp k rd.toNat (fld ((a.th k).r ra) 0 7) a) s
/-- ILLEGAL_ENCODING: a word that the tables do not list raises ILLEGAL; a word that they list is no such thing (R601). -/
def execIllegalEncoding (e : Fin 512) (t : Fin 4) (word : Word) (s : State) : Host.Outcome State Fault Refusal :=
  if listedWord word then .next s else runOp e t true false [] (fun _ a => a) s

end Sys2Proof.Machine
end

