-- ==== Sys2Proof/Machine/IsaTime.lean ====
section
/-! DEFINITION. The time instructions (R602, R618 to R623, R636). -/
namespace Sys2Proof.Machine

/-- sat64 of a signed value (R618). -/
def sat64 (x : Int) : DWord := BitVec.ofInt 64 (satS 64 x)

/-- A WT96 and a BT80 in a register pair; bits above the format are ignored (R602). -/
def Thread.wt (t : Thread) (r : GReg) : WT96 := (t.pair r).setWidth 96
def Thread.bt (t : Thread) (r : GReg) : BT80 := (t.pair r).setWidth 80

/-- The Bedrock value that RDBT and RDWT read: a cycle that begins no more than 2 ns before this one; which is free (R619).
(DESIGN CHOICE, log 76.) -/
def State.readBt (s : State) : BT80 := s.bt - cyc (s.freeVal % 3)

/-- A time instruction that writes a pair (R602, R618). (DEDUCED, log 79.) -/
def pairOp (e : Fin 512) (t : Fin 4) (pd : GReg) (ill : Bool) (srcs : List GReg) (f : State → Thread → Nat) (s : State) :
    Host.Outcome State Fault Refusal :=
  runOp e t (badPair pd || ill) false srcs (fun k a => next k (wrPair k pd (f a (a.th k)) a)) s

/-- A time instruction that writes one register. -/
def timeOp (e : Fin 512) (t : Fin 4) (rd : GReg) (ill : Bool) (srcs : List GReg) (f : State → Thread → DWord) (s : State) :
    Host.Outcome State Fault Refusal :=
  runOp e t ill false srcs (fun k a => next k (wrRg k rd.toNat (f a (a.th k)) a)) s

/-- RDBT (R618, R619). -/
def execRdbt (e : Fin 512) (t : Fin 4) (pd : GReg) (s : State) : Host.Outcome State Fault Refusal :=
  runOp e t (badPair pd) false [] (fun k a => next k (wrPair k pd a.readBt.toNat a.nextFree)) s
/-- RDWT (R618, R619). -/
def execRdwt (e : Fin 512) (t : Fin 4) (pd : GReg) (s : State) : Host.Outcome State Fault Refusal :=
  runOp e t (badPair pd) false [] (fun k a => next k (wrPair k pd (a.servedAt a.readBt).toNat a.nextFree)) s
/-- CVWT: OLD is bit 63 of the upper register (R618, R620). -/
def execCvwt (e : Fin 512) (t : Fin 4) (pd pa : GReg) (s : State) : Host.Outcome State Fault Refusal :=
  pairOp e t pd (badPair pa) (pairOf pa) (fun a x =>
    let p := a.paramsAt (x.bt pa)
    (p.1.served (x.bt pa)).toNat + b2n p.2 * 2 ^ 127) s
/-- TDIFF (R618). -/
def execTdiff (e : Fin 512) (t : Fin 4) (rd pa pb : GReg) (s : State) : Host.Outcome State Fault Refusal :=
  timeOp e t rd (badPair pa || badPair pb) (pairOf pa ++ pairOf pb) (fun _ x => sat64 (x.wt pa - x.wt pb).toInt) s
/-- TDIFFB (R618). -/
def execTdiffb (e : Fin 512) (t : Fin 4) (rd pa pb : GReg) (s : State) : Host.Outcome State Fault Refusal :=
  timeOp e t rd (badPair pa || badPair pb) (pairOf pa ++ pairOf pb) (fun _ x => sat64 (x.bt pa - x.bt pb).toInt) s
/-- TOPT (R618). -/
def execTopt (e : Fin 512) (t : Fin 4) (pd pa : GReg) (s : State) : Host.Outcome State Fault Refusal :=
  pairOp e t pd (badPair pa) (pairOf pa) (fun _ x => (toPt80 (x.wt pa)).toNat) s
/-- TRES (R618). -/
def execTres (e : Fin 512) (t : Fin 4) (rd pa : GReg) (s : State) : Host.Outcome State Fault Refusal :=
  timeOp e t rd (badPair pa) (pairOf pa) (fun _ x => BitVec.ofInt 64 (residual (x.wt pa))) s
/-- TONT (R618, R621). -/
def execTont (e : Fin 512) (t : Fin 4) (rd pa : GReg) (s : State) : Host.Outcome State Fault Refusal :=
  timeOp e t rd (badPair pa) (pairOf pa) (fun a x => a.nt64Of (x.wt pa)) s
/-- FRPT (R618). -/
def execFrpt (e : Fin 512) (t : Fin 4) (pd pa : GReg) (s : State) : Host.Outcome State Fault Refusal :=
  pairOp e t pd (badPair pa) (pairOf pa) (fun _ x => (fromPt80 (x.bt pa)).toNat) s
/-- TADD (R618). -/
def execTadd (e : Fin 512) (t : Fin 4) (pd pa rb : GReg) (s : State) : Host.Outcome State Fault Refusal :=
  pairOp e t pd (badPair pa) (pairOf pa ++ [rb]) (fun _ x => (x.wt pa + (x.r rb).signExtend 96).toNat) s
/-- TADDB (R618). -/
def execTaddb (e : Fin 512) (t : Fin 4) (pd pa rb : GReg) (s : State) : Host.Outcome State Fault Refusal :=
  pairOp e t pd (badPair pa) (pairOf pa ++ [rb]) (fun _ x => (x.bt pa + (x.r rb).signExtend 80).toNat) s

/-! ### EVAL, RSV, RCAN and TARM -/

/-- Read a request of n bytes at an address for an instruction: the exception that it meets, or its bytes. -/
def readRequest (k : Nat) (a : DWord) (n : Nat) (t : Target) (s : State) : Option (List Byte) × State :=
  match memRead (k / 32) n t s with
  | (.ok, l, s1) => (some l, s1)
  | (x, _, s1) => (none, raiseExc k x.cause (some a) s1)

/-- Write the result of an instruction at an address, with what it does besides; an error response makes it BUS_ERR, without effect
(R556, R604). (DEDUCED, log 79.) -/
def writeResult (k : Nat) (a : DWord) (l : List Byte) (t : Target) (done : State → State) (new old : State) : State :=
  match memWrite (k / 32) t l new with
  | (.ok, s1) => done s1
  | (_, _) => raiseExc k .busErr (some a) (memWrite (k / 32) t l old).2

/-- The result of an evaluation (R622). -/
def evalResult (s : State) (b : BT80) (port : Option Nat) : List Byte :=
  let x := evaluate s b port
  bytesLE 8 x.1.e ++ bytesLE 1 x.2.1.code ++ bytesLE 1 (boundFlags s x.2.2.1 x.1.e) ++ bytesLE 1 (s.actRefAt b) ++ [0] ++
    bytesLE 2 (x.2.2.2.val 0x044) ++ [0, 0] ++ bytesLE 4 s.recSeq ++ bytesLE 4 (configSum s) ++ List.replicate 8 0

/-- EVAL (R622). (DEDUCED, log 79.) -/
def evalOp (k rd : Nat) (ra rb : DWord) (s : State) : State :=
  match s.access k ra.toNat 16 8 false, s.access k rb.toNat 32 8 true with
  | .error .align, _ => raiseExc k .align (some ra) s
  | _, .error .align => raiseExc k .align (some rb) s
  | .error c, _ => raiseExc k c (some ra) s
  | _, .error c => raiseExc k c (some rb) s
  | .ok x, .ok y =>
    match readRequest k ra 16 x s with
    | (none, s1) => s1
    | (some q, s1) =>
      let port := leAt q 10 1
      if 16 ≤ port ∧ port ≤ 254 then next k (wrRg k rd 1 s1)
      else
        let b : BT80 := BitVec.ofNat 80 (leAt q 0 10)
        let pt := if port = 0xFF then none else some port
        writeResult k rb (evalResult s1 b pt) y (fun a => next k (wrRg k rd 0 a))
          (noteEval b pt (evaluate s1 b pt).2.1 (pmuChip 0x0D 0 (s1.count Reg.ASY_CNT_EVAL))) s1

/-- The request of RSV at the bytes read (R517, R623). -/
def rsvReq (q : List Byte) : RsvReq :=
  let w (i : Nat) : Word := BitVec.ofNat 32 (leAt q (4 * i) 4)
  RsvReq.ofWords (w 0) (w 1) (w 2) (BitVec.ofNat 96 (leAt q 12 12))

/-- RSV: the TSU of the port named serves the request; while its clock is stopped, or while the matrix does not admit it, the request
waits (R623, R859 to R864). `fresh` says that it is new. (DEDUCED, log 79.) -/
def rsvAt (fresh : Bool) (k rd ra rb : Nat) (s : State) : State :=
  let pa := (s.th k).rg ra
  let pb := (s.th k).rg rb
  match s.access k pa.toNat 24 8 false, s.access k pb.toNat 28 8 true with
  | .error .align, _ => raiseExc k .align (some pa) s
  | _, .error .align => raiseExc k .align (some pb) s
  | .error c, _ => raiseExc k c (some pa) s
  | _, .error c => raiseExc k c (some pb) s
  | .ok x, .ok y =>
    match readRequest k pa 24 x s with
    | (none, s1) => s1
    | (some q, s1) =>
      let r := rsvReq q
      let g := r.port / 4
      if s1.pageStopped .tsu g || (fresh && s1.backed (masterOf k) (Reg.TSU_RQ_W g 5)) then
        hold { who := masterOf k, addr := Reg.TSU_RQ_W g 5, write := false, val := 0, reply := .rsv k rd ra rb, issued := s1.bt } s1
      else
        match reserve r none s1 with
        | (gr, s2) =>
          let st : DWord := BitVec.ofNat 64 gr.status.code
          writeResult k pb (gr.words.flatMap (fun w => bytesLE 4 w.toNat)) y (fun a => next k (wrRg k rd st a)) s2 s1

/-- RSV as an instruction issues it (R623). (DEDUCED, log 79.) -/
def rsvOp (k rd ra rb : Nat) (s : State) : State := rsvAt true k rd ra rb s

/-- EVAL (R622). -/
def execEval (e : Fin 512) (t : Fin 4) (rd ra rb : GReg) (s : State) : Host.Outcome State Fault Refusal :=
  runOp e t false false [ra, rb] (fun k a => evalOp k rd.toNat ((a.th k).r ra) ((a.th k).r rb) a) s
/-- RSV (R623). -/
def execRsv (e : Fin 512) (t : Fin 4) (rd ra rb : GReg) (s : State) : Host.Outcome State Fault Refusal :=
  runOp e t false false [ra, rb] (fun k a => rsvOp k rd.toNat ra.toNat rb.toNat a) s
/-- RCAN: a TSU whose clock is stopped or that is in reset holds no reservation to cancel (R530, R618). -/
def execRcan (e : Fin 512) (t : Fin 4) (ra : GReg) (s : State) : Host.Outcome State Fault Refusal :=
  runOp e t false false [ra] (fun k a =>
    let v := (a.th k).r ra
    let g := fld v 16 2
    next k (if a.pageLive (Reg.TSU g) then cancelSlot g (fld v 0 11) a else a)) s
/-- TARM: a due time that has come posts its event first (R618, R636). -/
def execTarm (e : Fin 512) (t : Fin 4) (pa : GReg) (s : State) : Host.Outcome State Fault Refusal :=
  runOp e t (badPair pa) false (pairOf pa) (fun k a => next k (armTimer k ((a.th k).wt pa) (timerFire e.val t.val a))) s

end Sys2Proof.Machine
end

