-- ==== Sys2Proof/Machine/Mtx.lean ====
section
/-! DEFINITION. The matrix: requests that have waited and are answered, timeouts, the configuration sum's recomputation, and the exit
from QUIESCENT, which lets the waiting requests go (R864 to R873, R916). -/
namespace Sys2Proof.Machine

/-- A request that waited is performed at its target, and answered. -/
def perform (r : MtxReq) (s : State) : State :=
  match r.reply with
  | .rsv k rd ra rb => rsvAt false k rd ra rb s
  | _ =>
    if windowOf r.addr ≠ .page then
      (match windowGate r.who r.addr r.write s with
       | .go =>
         (match (if r.write then writeNow r.who r.pc r.addr r.size (r.val.toNat + 2 ^ 32 * r.hi.toNat) s else readNow r.who r.addr r.size s) with
          | (.data v, s1) => giveData r.who r.addr r.size v s1
          | (.err, s1) => answeredErr r s1
          | (_, s1) => s1)
       | .err k => answeredErr r (busErr r.who r.addr k r.write s)
       | _ => s)
    else if (pageAt r.addr).isNone then answeredErr r (busErr r.who r.addr (if (bridgeRange r.addr).isSome then 1 else 0) r.write s)
    else
      match gate r.who r.addr r.write s with
      | .err k => answeredErr r (busErr r.who r.addr k r.write s)
      | .go =>
        if r.write then answered r 0 (s.lockedUnder r.addr r.mask) (reqWrite r s)
        else (fun x => answered r x.1 false x.2) (pageRead r.who r.addr s)
      | _ => if r.write then answered r 0 false s else s

/-- A request need wait no longer: it is admitted, no earlier one of its master with its ID waits, its domain runs, and the value it
reads is ready (R97, R860, R864, R873). (DEDUCED, log 17.) -/
def State.reqReady (s : State) (pre : List MtxReq) (r : MtxReq) : Bool :=
  decide (r.stage = .sent) && !pre.any (fun q => decide (q.who = r.who) && decide (q.id = r.id)) &&
    (s.reqDomain r).isNone && (r.write || !s.readWaits r.addr)

/-- Look at a request that waits again: it moves on, and is performed once it need wait no longer. -/
def reexamine (s : State) (r : MtxReq) : State :=
  let pre := s.mtx.takeWhile (fun q => decide (q ≠ r))
  let q := r.move pre s.mtx s.bt
  if s.reqReady pre q then perform q { s with mtx := s.mtx.erase r }
  else { s with mtx := s.mtx.map (fun x => if x = r then q else x) }

/-- Look at the requests that wait, in the order in which they came (R859 to R861, R869). (DEDUCED, log 17.) -/
def deliverHeld (s : State) : State := showHeld (s.mtx.foldl reexamine s)

/-- The matrix timeout of the oldest request expires (R865). (DEDUCED, log 17, 97.) -/
def mtxTimeout (s : State) : State :=
  match s.mtx.find? (fun r => decide (r.stage ≠ .port)) with
  | none => s
  | some r =>
    if s.elapsed r.issued (s.rf Reg.MTX_TO 0 20 * 1000) = false then s
    else fault .mtx 0 0 (answeredErr r (busErr r.who r.addr 2 r.write (showHeld { s with mtx := s.mtx.erase r })))

/-- A recomputation of the sums completes: the reads that waited are answered (R873). (DEDUCED, log 23.) -/
def recalcEnd (s : State) : State := deliverHeld (s.setRb Reg.MTX_STAT 0 false)

/-- The exit from QUIESCENT is complete: PLLs locked, DRAM out of self-refresh (R916). -/
def exitDone (s : State) : State :=
  if s.pwr.exiting = false ∨ s.quiescent = false then s
  else
    let wake (ch : Nat) (a : State) : State := if a.rb (Reg.DDR_STAT ch) 0 then a.setRb (Reg.DDR_STAT ch) 1 false else a
    let s1 := forN 2 wake (s.setRf Reg.PWR_STATE 0 2 2)
    let s2 := { s1 with pwr := { s1.pwr with exiting := false }, fct := { s1.fct with stopped := s1.fct.stopped + (s1.bt - s1.pwr.stopAt) } }
    deliverHeld (raiseEvt Reg.PWR 0 (pwrSettled s2))

/-- MATRIX_TIMEOUT (R865). -/
def execMatrixTimeout (s : State) : Host.Outcome State Fault Refusal := cmdA mtxTimeout s

/-- LATE_RESPONSE (R865). -/
def execLateResponse (s : State) : Host.Outcome State Fault Refusal := cmdE Reg.MTX (fun a => a.count Reg.MTX_CNT_LATE) s

/-- RECALC (R873): a write of MTX_CMD. -/
def execCfgRecalc (m : Master) (v : Word) (s : State) : Host.Outcome State Fault Refusal :=
  .next (settle s (busWrite m .plain none Reg.MTX_CMD 4 v.toNat s).2)

/-- RECALC_DONE (R873). -/
def execRecalcDone (s : State) : Host.Outcome State Fault Refusal := cmdE Reg.MTX recalcEnd s

/-- WAKE_EXIT_DONE (R916). -/
def execWakeExitDone (s : State) : Host.Outcome State Fault Refusal := cmdA exitDone s

end Sys2Proof.Machine
end

