-- ==== Sys2Proof/Machine/Pci.lean ====
section
/-! DEFINITION. The host's rings: command rings with their status blocks, host transmit rings, and the PCIe link (R841, R887 to
R893). The exception rings stand in Machine/Rings.lean. -/
namespace Sys2Proof.Machine

/-! ### Command rings (R888 to R891) -/

/-- Entries of command ring r. -/
def State.crSize (s : State) (r : Nat) : Nat := 2 ^ s.rf (Reg.PCI_CR_CFG r) 0 4

/-- The entry under way on command ring r. -/
def State.ringCmd (s : State) (r : Nat) : Option RingCmd := AMap.get none s.pci.running r
/-- Store it. -/
def State.setRingCmd (s : State) (r : Nat) (x : Option RingCmd) : State :=
  { s with pci := { s.pci with running := AMap.set none s.pci.running r x } }

/-- Command ring r has an entry to start: the rings run, it is enabled, none of its entries runs and HEAD differs from TAIL. -/
def State.crReady (s : State) (r : Nat) : Bool :=
  s.ringsRun && s.rb (Reg.PCI_CR_CFG r) 31 && (s.ringCmd r).isNone &&
    decide (s.rf (Reg.PCI_CR_HEAD r) 0 12 % s.crSize r ≠ s.rf (Reg.PCI_CR_TAIL r) 0 12 % s.crSize r)

/-- The ring visited next: the first with an entry to start, after the ring visited last (R889). -/
def State.crNext (s : State) : Option Nat := ((List.range 4).map (fun i => (s.pci.rr + 1 + i) % 4)).find? s.crReady

/-- Write into host memory for an entry, unless the link has gone down under it. -/
def ringWr (c : RingCmd) (a : Nat) (l : List Byte) (s : State) : State := if c.mute then s else hostWr a l s

/-- The PARTIAL descriptor (R841). -/
def partialDesc (c : RingCmd) (step state : Nat) (s : State) : List Byte :=
  bytesLE 4 c.seq.toNat ++ bytesLE 2 c.opcode ++ [BitVec.ofNat 8 step, BitVec.ofNat 8 state] ++ bytesLE 4 (wholeSec s.now) ++ bytesLE 4 0

/-- Write the PARTIAL descriptor of the entry on ring r (R841). -/
def ringPartial (r : Nat) (c : RingCmd) (step state : Nat) (s : State) : State :=
  ringWr c (s.regN (Reg.PCI_CR_STS r) 2 + 16) (partialDesc c step state s) s

/-- An entry of ring r completes with a status after a number of steps: status block, PARTIAL DONE, CMD_DONE (R841, R889). -/
def ringEnd (r status steps : Nat) (s : State) : State :=
  match s.ringCmd r with
  | none => s
  | some c =>
    let s0 := s.setRingCmd r none
    let s1 := if c.orphan then s0
      else
        let head := (s0.rf (Reg.PCI_CR_HEAD r) 0 12 + 1) % s0.crSize r
        (s0.setReg (Reg.PCI_CR_HEAD r) (BitVec.ofNat 32 head)).setReg (Reg.PCI_CR_SEQ r) c.seq
    let s2 := ringWr c (s1.regN (Reg.PCI_CR_STS r) 2) (bytesLE 4 c.seq.toNat ++ bytesLE 4 status ++ bytesLE 8 0) s1
    raiseEvt Reg.PCI 1 (ringPartial r c steps 2 s2)

/-- The opcodes of R891. -/
def ringOps : List Nat := [0x0001, 0x0010, 0x0011, 0x0020, 0x0031]

/-- The next entry of ring r is read and started; an opcode that no command has completes it with BAD_OPCODE (R889, R891).
(DEDUCED, log 95.) -/
def ringStart (r : Nat) (seq : Word) (opcode : Nat) (s : State) : State :=
  if s.crNext ≠ some r then s
  else
    let c : RingCmd := { seq := seq, opcode := opcode }
    let s1 := { s with pci := { s.pci with rr := r } }.setRingCmd r (some c)
    let s2 := ringPartial r c 0 1 s1
    if ringOps.contains opcode then s2 else ringEnd r 1 0 s2

/-- A one-step entry has had its effect: STEP is rewritten and the entry completes. -/
def ringOnce (r status : Nat) (s : State) : State :=
  match s.ringCmd r with
  | none => s
  | some c => ringEnd r status 1 (ringPartial r c 1 1 s)

/-- A host transfer has failed or was poisoned (R904, R906). (DEDUCED, log 95.) -/
def hostFail (s : State) : State := fault .pci 0 0 (s.count Reg.PCI_CNT_ERR)

/-- Do what the entry on ring r asks, if it has that opcode. (DEDUCED, log 95.) -/
def ringDo (r op : Nat) (f : State → State) (s : State) : State :=
  match s.ringCmd r with
  | some c => if c.opcode = op then f s else s
  | none => s

/-- COPY_IN (R891). (DEDUCED, log 95.) -/
def copyIn (r : Nat) (addr : Nat) (data : List Byte) (hostErr : Bool) (s : State) : State :=
  let n := data.length
  if hostErr then ringEnd r 3 0 (hostFail s)
  else if 2 ^ 20 < n then ringEnd r 3 0 s
  else if inSram addr n then ringOnce r 0 (s.sharedWr addr data)
  else if inDram addr n then
    match dramPut 64 (addr % eaDram) data s with
    | (true, s1) => ringOnce r 0 s1
    | (false, s1) => ringEnd r 3 0 s1
  else ringEnd r 3 0 s

/-- COPY_OUT (R891): the data go to the result block at a host address. (DEDUCED, log 95.) -/
def copyOut (r : Nat) (addr n res : Nat) (hostErr : Bool) (s : State) : State :=
  let give (l : List Byte) (t : State) : State :=
    if hostErr then ringEnd r 3 0 (hostFail t)
    else match t.ringCmd r with | some c => ringOnce r 0 (ringWr c res l t) | none => t
  if 2 ^ 20 < n then ringEnd r 3 0 s
  else if inSram addr n then
    (if s.memBad addr n then ringEnd r 3 0 (mtxErr 64 addr 1 false s) else give (s.sharedRd addr n) s)
  else if inDram addr n then
    match dramGet 64 (addr % eaDram) n s with
    | (some l, s1) => give l s1
    | (none, s1) => ringEnd r 3 0 s1
  else ringEnd r 3 0 s

/-- MRAM_WRITE (R885, R891): the write is journalled, and the entry completes with it. A length it does not take is BAD_LEN; for a
destination it does not take the spec names no status. (DESIGN CHOICE, log 94.) -/
def mramWrite (r ofs : Nat) (data : List Byte) (hostErr : Bool) (s : State) : State :=
  let n := data.length
  if hostErr then ringEnd r 3 0 (hostFail s)
  else if n < 8 ∨ 4096 < n ∨ n % 8 ≠ 0 then ringEnd r 2 0 s
  else if journalOk ofs n = false then ringEnd r (2 + s.freeVal % 4) 0 s.nextFree
  else journalAsk { ring := some r, dst := ofs, data := data } s

/-- NTS_MINT (R678 to R680, R890). (DEDUCED, log 95.) -/
def ntsMint (r : Nat) (block : List Byte) (addr : Nat) (s : State) : State :=
  if block.length ≠ 72 then ringEnd r 2 0 s
  else
    match mint block s with
    | (st, l, s1) =>
      match s1.ringCmd r with
      | none => s1
      | some c => ringOnce r (if st = .ok then 0 else 4) (ringWr c addr l s1)

/-- The journalled write under way ends, and with it the host's entry that asked for it: its three steps, or READ_ONLY after the first
(R885, R890). -/
def journalDone (s : State) : State :=
  match s.mrm.active with
  | none => s
  | some w =>
    let ro := s.journalRo w
    let s1 := journalEnd s
    match w.ring with
    | none => s1
    | some r =>
      match s1.ringCmd r with
      | none => s1
      | some c =>
        let s2 := ringPartial r c 1 1 s1
        if ro then ringEnd r 5 1 s2 else ringEnd r 0 3 (ringPartial r c 3 1 (ringPartial r c 2 1 s2))

/-! ### Host transmit rings (R893) -/

/-- Entries of host transmit ring r. -/
def State.txSize (s : State) (r : Nat) : Nat := 2 ^ s.rf (Reg.PCI_TX_CFG r) 0 4

/-- Host transmit ring r has an entry. -/
def State.txReady (s : State) (r : Nat) : Bool :=
  s.ringsRun && s.rb (Reg.PCI_TX_CFG r) 31 &&
    decide (s.rf (Reg.PCI_TX_HEAD r) 0 12 % s.txSize r ≠ s.rf (Reg.PCI_TX_TAIL r) 0 12 % s.txSize r)

/-- The next entry of transmit ring r. -/
def txAdvance (r : Nat) (s : State) : State :=
  s.setReg (Reg.PCI_TX_HEAD r) (BitVec.ofNat 32 ((s.rf (Reg.PCI_TX_HEAD r) 0 12 + 1) % s.txSize r))

/-- The descriptor of a host frame (R726, R893). -/
def State.hostDesc (s : State) (r buf port len : Nat) (flags : Byte) (tag : Word) : List Byte :=
  bytesLE 5 buf ++ bytesLE 1 port ++ bytesLE 2 len ++ bytesLE 4 tag.toNat ++ bytesLE 3 (s.rf (Reg.PCI_TX_CQ r) 0 18) ++
    bytesLE 1 (fld flags 0 1 + 2) ++ bytesLE 2 0 ++ bytesLE 3 (s.rf (Reg.PCI_TX_FBQ r) 0 18) ++ List.replicate 11 0

/-- An entry of transmit ring r: a buffer is popped, the frame copied and its descriptor pushed. It waits while there is no buffer,
or no room in the transmit queue; a failed transfer drops it (R893, R904). (DEDUCED, log 95.) -/
def hostTx (r port : Nat) (flags : Byte) (tag : Word) (data : List Byte) (dmaErr : Bool) (s : State) : State :=
  if s.txReady r = false then s
  else if dmaErr then txAdvance r ((hostFail s).count Reg.PCI_CNT_TXDROP)
  else
    match queuePop (s.rf (Reg.PCI_TX_FBQ r) 0 18) s with
    | (.ok, e, s1) =>
      let buf := leAt e 0 5
      match blockPush (s.rf (Reg.PCI_TX_Q r) 0 18) (s.hostDesc r buf port data.length flags tag) (s1.sharedWr buf data) with
      | (.ok, s2) => txAdvance r s2
      | (_, _) => s
    | (_, _, _) => s

/-! ### The link (R585, R887, R917) -/

/-- The ring state returns to reset: a reset of the PCIe core (R917). (DEDUCED, log 95.) -/
def ringsReset (s : State) : State :=
  let s1 := forN 4 (fun r a =>
    (((((a.resetRegs (Reg.PCI_CR_TAIL r) 8).resetRegs (Reg.PCI_CR_SEQ r) 4).resetRegs (Reg.PCI_EX_WR r) 8).resetRegs
      (Reg.PCI_TX_TAIL r) 8))) s
  { s1 with pci := { s1.pci with rr := 3, running := s1.pci.running.map (fun p => (p.1, p.2.map (fun c => { c with orphan := true }))) } }

/-- The PCIe link or PERST_N changes: a change of the link raises LINK; a loss or PERST_N mutes the entries that have started and breaks
the semaphores the host holds (R585, R887, R917). -/
def pcieLink (up perst : Bool) (lanes gen : Nat) (s : State) : State :=
  let was := s.pci.linkUp
  let now := up && !perst
  let stat := BitVec.ofNat 32 (b2n now + (if now then lanes * 2 + gen * 32 else 0) + b2n perst * 256)
  let s1 := { s with pci := { s.pci with linkUp := now, perst := perst } }.setReg Reg.PCI_STAT stat
  let s2 := if perst && !s.pci.perst then ringsReset s1 else s1
  let s3 := if now then s2
    else semLost semHost { s2 with pci := { s2.pci with running := s2.pci.running.map (fun p => (p.1, p.2.map (fun c => { c with mute := true }))) } }
  if was = now then s3 else raiseEvt Reg.PCI 0 s3

/-! ### Commands -/

/-- COMMAND_RING_ENTRY (R889). -/
def execCommandRingEntry (r : Fin 4) (seq : Word) (opcode : BitVec 16) (s : State) : Host.Outcome State Fault Refusal :=
  cmdT Reg.PCI (ringStart r.val seq opcode.toNat) s

/-- NOP (R891). -/
def execHostNop (r : Fin 4) (s : State) : Host.Outcome State Fault Refusal := cmdE Reg.PCI (ringDo r.val 0x0001 (ringOnce r.val 0)) s

/-- COPY_IN (R891). -/
def execCopyIn (r : Fin 4) (addr : DWord) (data : List Byte) (hostErr : Bool) (s : State) : Host.Outcome State Fault Refusal :=
  cmdE Reg.PCI (ringDo r.val 0x0010 (copyIn r.val addr.toNat data hostErr)) s

/-- COPY_OUT (R891). -/
def execCopyOut (r : Fin 4) (addr : DWord) (len : Word) (res : DWord) (hostErr : Bool) (s : State) : Host.Outcome State Fault Refusal :=
  cmdE Reg.PCI (ringDo r.val 0x0011 (copyOut r.val addr.toNat len.toNat res.toNat hostErr)) s

/-- MRAM_WRITE (R885, R891). -/
def execMramWrite (r : Fin 4) (ofs : Word) (data : List Byte) (hostErr : Bool) (s : State) : Host.Outcome State Fault Refusal :=
  cmdE Reg.PCI (ringDo r.val 0x0020 (fun t =>
    if t.mrm.active.toList.any (fun w => decide (w.ring = some r.val)) || t.mrm.waiting.any (fun w => decide (w.ring = some r.val)) then t
    else mramWrite r.val ofs.toNat data hostErr t)) s

/-- NTS_MINT (R678). -/
def execNtsMint (r : Fin 4) (block : List Byte) (addr : DWord) (s : State) : Host.Outcome State Fault Refusal :=
  cmdE Reg.PCI (ringDo r.val 0x0031 (ntsMint r.val block addr.toNat)) s

/-- JDONE (R885). -/
def execJdone (s : State) : Host.Outcome State Fault Refusal := cmdT Reg.MRM journalDone s

/-- HOST_TX_ENTRY (R893). -/
def execHostTxEntry (r : Fin 4) (port flags : Byte) (tag : Word) (data : List Byte) (dmaErr : Bool) (s : State) :
    Host.Outcome State Fault Refusal := cmdT Reg.PCI (hostTx r.val port.toNat flags tag data dmaErr) s

/-- PCIE_LINK_CHANGE (R887). -/
def execPcieLinkChange (up perst : Bool) (lanes : BitVec 4) (gen : BitVec 3) (s : State) : Host.Outcome State Fault Refusal :=
  cmdE Reg.PCI (pcieLink up perst lanes.toNat gen.toNat) s

end Sys2Proof.Machine
end

