-- ==== Sys2Proof/Machine/Regs.lean ====
section
/-! DEFINITION. Register accesses that have no row of their own, and the operations of the common page header (R5 to R41, R51 to R57). -/
namespace Sys2Proof.Machine

/-- A write of n bytes that arrives as a command of its own. -/
def writeCmd (m : Master) (a n v : Nat) (s : State) : Host.Outcome State Fault Refusal :=
  .next (settle s (busWrite m .plain none a n v s).2)

/-- Read n bytes at an offset for a master that waits for them; what it reads is given out. -/
def readAt (m : Master) (a n : Nat) (s : State) : State :=
  match busRead m .plain a n s with
  | (.data v, s1) => giveData m a n v s1
  | (_, s1) => s1

/-- An offset holds a read-clear counter (R10). -/
def isRc (a : Nat) : Bool :=
  match pageAt a with
  | some (p, _, off) => (match rowAt p.kind off with | some (r, _, _, _) => r.rc | none => false)
  | none => false

/-- Base of the page that an operand names. -/
def baseOf (page : BAddr) : Nat := pageBase page.toNat

/-- CTRL of the page that an operand names. -/
def ctrlOf (page : BAddr) : Nat := baseOf page + 0x008

/-! ### The end of a reset, and the safe point (R27, R28, R51 to R54) -/

/-- Engines e to e + n - 1 have left reset: READY, with their cycle counts from now (R51, R638). -/
def engLeave (e n : Nat) (s : State) : State :=
  forN n (fun i a => (a.setReg (Reg.ENG (e + i) + 0x00C) 1).setEng (e + i) { a.eng (e + i) with since := some (a.engClock (e + i)) }) s

/-- What else happens as a page leaves reset: its children with it; the Lodestone register is loaded; the Geode's page raises what the
Geode has latched (R51, R748, R934, R945). -/
def pageLeave (k : PageKind) (inst : Nat) (s : State) : State :=
  match k with
  | .eng => engLeave inst 1 s
  | .clu => engLeave (8 * inst) 8 s
  | .qdr =>
    let n := (quadClusters inst).length
    engLeave (128 * inst) (8 * n) (forN n (fun i a => a.setReg (Reg.CLU (16 * inst + i) + 0x00C) 1) s)
  | .key => bootLoad (showRootKeys s)
  | .geo => geoLeave s
  | .bdr => bdrLeave s
  | .sys | .lcs | .pwr | .clk | .act | .asy | .ref | .dpl | .syn | .out | .pps | .tdc | .gns | .ant | .acq | .nav | .prt
  | .tsu | .mgmt | .sch | .pol | .qry | .svc | .trn | .cry | .mate | .flt | .evt | .pmu | .sem | .mtx | .ddr | .mrm | .pci
  | .lsp | .gch => s

/-- The reset and the memory wipe of a page end: SOFT_RESET clears itself and READY is 1 (R26, R27). (DESIGN CHOICE, log 7.) -/
def resetEnd (pg : Nat) (s : State) : State :=
  match pageAt pg with
  | none => s
  | some (p, inst, _) =>
    if s.alive = false ∨ s.pgRst pg = false ∨ s.pageStopped p.kind inst then s
    else pageLeave p.kind inst ((s.setReg (pg + 0x008) 0).setReg (pg + 0x00C) 1)

/-- A block may stop at its safe point: a TSU once it holds no reservation (R543). (DEDUCED, log 55.) -/
def State.atSafePoint (s : State) (k : PageKind) (inst : Nat) : Bool :=
  match k with
  | .tsu => (s.tsuSlots inst).isEmpty
  | _ => true

/-- A block with FREEZE=1 reaches its safe point (R26, R27, R543). (DEDUCED, log 55.) -/
def safePoint (pg : Nat) (s : State) : State :=
  match pageAt pg with
  | none => s
  | some (p, inst, _) => if s.pgFrz pg && s.atSafePoint p.kind inst then s.setRb (pg + 0x00C) 2 true else s

/-! ### Commands -/

/-- REGISTER_WRITE (R5 to R7, R10): a 64-bit PCIe write is split into two at ascending addresses. -/
def execRegisterWrite (m : Master) (size : AccSize) (addr : BAddr) (v : DWord) (s : State) : Host.Outcome State Fault Refusal :=
  let a := addr.toNat
  match size with
  | .byte => writeCmd m a 1 (fld v 0 8) s
  | .half => writeCmd m a 2 (fld v 0 16) s
  | .word => writeCmd m a 4 (fld v 0 32) s
  | .double =>
    if m = .host then
      .next (settle s (busWrite m .plain none (a + 4) 4 (fld v 32 32) (busWrite m .plain none a 4 (fld v 0 32) s).2).2)
    else writeCmd m a 8 v.toNat s

/-- MULTIWORD_LO_READ (R6, R7, R15 to R18): a 64-bit PCIe read is split into two at ascending addresses. -/
def execMultiwordLoRead (m : Master) (r : ReadAt) (s : State) : Host.Outcome State Fault Refusal :=
  let a := r.addr.toNat
  let t := match r.size with
    | .byte => readAt m a 1 s
    | .half => readAt m a 2 s
    | .word => readAt m a 4 s
    | .double => if m = .host then readAt m (a + 4) 4 (readAt m a 4 s) else readAt m a 8 s
  .next (settle s t)

/-- MULTIWORD_HI_WRITE (R19, R23). -/
def execMultiwordHiWrite (m : Master) (addr : BAddr) (v : Word) (s : State) : Host.Outcome State Fault Refusal :=
  writeCmd m addr.toNat 4 v.toNat s

/-- READ_CLEAR_COUNTER_READ, with an increment in the same cycle or not (R13, R14). -/
def execReadClearCounterRead (m : Master) (addr : BAddr) (inc : Bool) (s : State) : Host.Outcome State Fault Refusal :=
  let a := addr.toNat
  let t := readAt m a 4 s
  .next (settle s (if inc && isRc a && s.pageLive (pageBase a) then t.count a else t))

/-- EVT_FORCE_WRITE (R25). -/
def execEvtForceWrite (m : Master) (page : BAddr) (v : Word) (s : State) : Host.Outcome State Fault Refusal :=
  writeCmd m (baseOf page + 0x01C) 4 v.toNat s

/-- SOFT_RESET (R28): a write of CTRL. -/
def execSoftReset (m : Master) (page : BAddr) (v : Word) (s : State) : Host.Outcome State Fault Refusal :=
  writeCmd m (ctrlOf page) 4 v.toNat s

/-- SOFT_RESET_COMPLETE (R27). -/
def execSoftResetComplete (page : BAddr) (s : State) : Host.Outcome State Fault Refusal :=
  .next (settle s (resetEnd (baseOf page) s))

/-- BLOCK_ENABLE (R26, R51): a write of CTRL. -/
def execBlockEnable (m : Master) (page : BAddr) (v : Word) (s : State) : Host.Outcome State Fault Refusal :=
  writeCmd m (ctrlOf page) 4 v.toNat s

/-- BLOCK_FREEZE (R26, R51): a write of CTRL. -/
def execBlockFreeze (m : Master) (page : BAddr) (v : Word) (s : State) : Host.Outcome State Fault Refusal :=
  writeCmd m (ctrlOf page) 4 v.toNat s

/-- FREEZE_SAFE_POINT (R27). -/
def execFreezeSafePoint (page : BAddr) (s : State) : Host.Outcome State Fault Refusal := cmdE (baseOf page) (safePoint (baseOf page)) s

/-- CFG_LOCK (R11, R26): a write of CTRL. -/
def execCfgLock (m : Master) (page : BAddr) (v : Word) (s : State) : Host.Outcome State Fault Refusal :=
  writeCmd m (ctrlOf page) 4 v.toNat s

/-- B4MODE_WRITE (R37): a write of SYS_COMPAT. -/
def execB4modeWrite (m : Master) (v : Word) (s : State) : Host.Outcome State Fault Refusal := writeCmd m Reg.SYS_COMPAT 4 v.toNat s

/-- SERVICE_PAGE_WRITE (R662): a write of a register of the service page. -/
def execServicePageWrite (m : Master) (ofs : BitVec 12) (v : Word) (s : State) : Host.Outcome State Fault Refusal :=
  writeCmd m (Reg.SVC + ofs.toNat) 4 v.toNat s

end Sys2Proof.Machine
end

