-- ==== Sys2Proof/Machine/Dispatch.lean ====
section
/-! DEFINITION. The effect of each command on everything but the queue: one arm for each row of the table. -/
namespace Sys2Proof.Machine

def exec (i : Instr) (s : State) : Host.Outcome State Fault Refusal :=
  match i with
  | .registerWrite m size addr v => Sys2Proof.Machine.execRegisterWrite m size addr v s
  | .multiwordLoRead m r => Sys2Proof.Machine.execMultiwordLoRead m r s
  | .multiwordHiWrite m addr v => Sys2Proof.Machine.execMultiwordHiWrite m addr v s
  | .readClearCounterRead m addr inc => Sys2Proof.Machine.execReadClearCounterRead m addr inc s
  | .evtForceWrite m page v => Sys2Proof.Machine.execEvtForceWrite m page v s
  | .softReset m page v => Sys2Proof.Machine.execSoftReset m page v s
  | .softResetComplete page => Sys2Proof.Machine.execSoftResetComplete page s
  | .blockEnable m page v => Sys2Proof.Machine.execBlockEnable m page v s
  | .blockFreeze m page v => Sys2Proof.Machine.execBlockFreeze m page v s
  | .freezeSafePoint page => Sys2Proof.Machine.execFreezeSafePoint page s
  | .cfgLock m page v => Sys2Proof.Machine.execCfgLock m page v s
  | .b4modeWrite m v => Sys2Proof.Machine.execB4modeWrite m v s
  | .bedrockWrap => Sys2Proof.Machine.execBedrockWrap s
  | .rateCommit m v => Sys2Proof.Machine.execRateCommit m v s
  | .stepCommit m v => Sys2Proof.Machine.execStepCommit m v s
  | .slewCommit m v => Sys2Proof.Machine.execSlewCommit m v s
  | .slewAbort m v => Sys2Proof.Machine.execSlewAbort m v s
  | .bdrCapture m v => Sys2Proof.Machine.execBdrCapture m v s
  | .changeAnchor => Sys2Proof.Machine.execChangeAnchor s
  | .slewEnd => Sys2Proof.Machine.execSlewEnd s
  | .bdrConvert m v => Sys2Proof.Machine.execBdrConvert m v s
  | .utcOfsWrite m v => Sys2Proof.Machine.execUtcOfsWrite m v s
  | .slotArm m n v => Sys2Proof.Machine.execSlotArm m n v s
  | .slotClear m n v => Sys2Proof.Machine.execSlotClear m n v s
  | .actDisarm m v => Sys2Proof.Machine.execActDisarm m v s
  | .slotTake n => Sys2Proof.Machine.execSlotTake n s
  | .slotStoreError n => Sys2Proof.Machine.execSlotStoreError n s
  | .actionInitiate => Sys2Proof.Machine.execActionInitiate s
  | .pulseWidthEnd g => Sys2Proof.Machine.execPulseWidthEnd g s
  | .actionOutcome n => Sys2Proof.Machine.execActionOutcome n s
  | .asyCommit m v => Sys2Proof.Machine.execAsyCommit m v s
  | .asyUpdate m v => Sys2Proof.Machine.execAsyUpdate m v s
  | .setCoarse m v => Sys2Proof.Machine.execSetCoarse m v s
  | .declareTraceable m v => Sys2Proof.Machine.execDeclareTraceable m v s
  | .declareUntraceable m v => Sys2Proof.Machine.execDeclareUntraceable m v s
  | .asyChangeAnchor => Sys2Proof.Machine.execAsyChangeAnchor s
  | .updateTimeout => Sys2Proof.Machine.execUpdateTimeout s
  | .holdoverLimitExceeded => Sys2Proof.Machine.execHoldoverLimitExceeded s
  | .holdoverMaxExpire => Sys2Proof.Machine.execHoldoverMaxExpire s
  | .tempSample sample => Sys2Proof.Machine.execTempSample sample s
  | .tempLost => Sys2Proof.Machine.execTempLost s
  | .asyERead m => Sys2Proof.Machine.execAsyERead m s
  | .recordPeriodic => Sys2Proof.Machine.execRecordPeriodic s
  | .recordSigned m v => Sys2Proof.Machine.execRecordSigned m v s
  | .recordStall => Sys2Proof.Machine.execRecordStall s
  | .recordEnableWrite m v => Sys2Proof.Machine.execRecordEnableWrite m v s
  | .asyStoreFault => Sys2Proof.Machine.execAsyStoreFault s
  | .bdrParamFault => Sys2Proof.Machine.execBdrParamFault s
  | .activityTimeout n => Sys2Proof.Machine.execActivityTimeout n s
  | .frequencyGateEnd n => Sys2Proof.Machine.execFrequencyGateEnd n s
  | .messageTimeout n => Sys2Proof.Machine.execMessageTimeout n s
  | .qualificationTimerExpire n => Sys2Proof.Machine.execQualificationTimerExpire n s
  | .entryCfgWrite m n v => Sys2Proof.Machine.execEntryCfgWrite m n v s
  | .announceDelivery m v => Sys2Proof.Machine.execAnnounceDelivery m v s
  | .todBinaryFrame u frame => Sys2Proof.Machine.execTodBinaryFrame u frame s
  | .todFrameTimeout u => Sys2Proof.Machine.execTodFrameTimeout u s
  | .todNmeaSentence u text => Sys2Proof.Machine.execTodNmeaSentence u text s
  | .todWindowExpire u => Sys2Proof.Machine.execTodWindowExpire u s
  | .refSelect m l v => Sys2Proof.Machine.execRefSelect m l v s
  | .deselect m l v => Sys2Proof.Machine.execDeselect m l v s
  | .prioWrite m l b v => Sys2Proof.Machine.execPrioWrite m l b v s
  | .fallback l => Sys2Proof.Machine.execFallback l s
  | .fallbackRescan l => Sys2Proof.Machine.execFallbackRescan l s
  | .refTableFault => Sys2Proof.Machine.execRefTableFault s
  | .solutionDelivery m v => Sys2Proof.Machine.execSolutionDelivery m v s
  | .loopMeasurement l n b x edges => Sys2Proof.Machine.execLoopMeasurement l n b x edges s
  | .reportInstant l => Sys2Proof.Machine.execReportInstant l s
  | .forceHo m l v => Sys2Proof.Machine.execForceHo m l v s
  | .release m l v => Sys2Proof.Machine.execRelease m l v s
  | .reseed m l v => Sys2Proof.Machine.execReseed m l v s
  | .historySample l => Sys2Proof.Machine.execHistorySample l s
  | .dplStatePar l => Sys2Proof.Machine.execDplStatePar l s
  | .synLock m n v => Sys2Proof.Machine.execSynLock m n v s
  | .synStop m n v => Sys2Proof.Machine.execSynStop m n v s
  | .bmeas m n v => Sys2Proof.Machine.execBmeas m n v s
  | .bmeasDone n lo hi => Sys2Proof.Machine.execBmeasDone n lo hi s
  | .synLockAchieved n => Sys2Proof.Machine.execSynLockAchieved n s
  | .synLockTimeout n => Sys2Proof.Machine.execSynLockTimeout n s
  | .synLol n => Sys2Proof.Machine.execSynLol n s
  | .synRelockAttempt n => Sys2Proof.Machine.execSynRelockAttempt n s
  | .synSlewStep n => Sys2Proof.Machine.execSynSlewStep n s
  | .outputSync m v => Sys2Proof.Machine.execOutputSync m v s
  | .syncDone => Sys2Proof.Machine.execSyncDone s
  | .outCfgPar => Sys2Proof.Machine.execOutCfgPar s
  | .ppsEdge n => Sys2Proof.Machine.execPpsEdge n s
  | .ppsAlign m v => Sys2Proof.Machine.execPpsAlign m v s
  | .ppsCfgWrite m n v => Sys2Proof.Machine.execPpsCfgWrite m n v s
  | .aligned n => Sys2Proof.Machine.execAligned n s
  | .gnsTrain m v => Sys2Proof.Machine.execGnsTrain m v s
  | .trainDone found => Sys2Proof.Machine.execTrainDone found s
  | .gnsSif lane => Sys2Proof.Machine.execGnsSif lane s
  | .laneStuck lane stuck => Sys2Proof.Machine.execLaneStuck lane stuck s
  | .antPwr a low => Sys2Proof.Machine.execAntPwr a low s
  | .acqRequest => Sys2Proof.Machine.execAcqRequest s
  | .acqResult ratio cn0 dop code memErr => Sys2Proof.Machine.execAcqResult ratio cn0 dop code memErr s
  | .cancelAll m v => Sys2Proof.Machine.execCancelAll m v s
  | .channelStart m c v => Sys2Proof.Machine.execChannelStart m c v s
  | .channelStop m c v => Sys2Proof.Machine.execChannelStop m c v s
  | .aidedPullinStart c => Sys2Proof.Machine.execAidedPullinStart c s
  | .channelIntegration c x => Sys2Proof.Machine.execChannelIntegration c x s
  | .pullinTimeout c => Sys2Proof.Machine.execPullinTimeout c s
  | .channelLaneLoss c => Sys2Proof.Machine.execChannelLaneLoss c s
  | .channelReacquire c => Sys2Proof.Machine.execChannelReacquire c s
  | .measurementEpoch => Sys2Proof.Machine.execMeasurementEpoch s
  | .navRecord c x => Sys2Proof.Machine.execNavRecord c x s
  | .economyEvaluate => Sys2Proof.Machine.execEconomyEvaluate s
  | .burstStart c => Sys2Proof.Machine.execBurstStart c s
  | .burstEnd c => Sys2Proof.Machine.execBurstEnd c s
  | .jamEvaluate lanes => Sys2Proof.Machine.execJamEvaluate lanes s
  | .gnssPpsArm m v => Sys2Proof.Machine.execGnssPpsArm m v s
  | .gnssPpsEdge => Sys2Proof.Machine.execGnssPpsEdge s
  | .gnssPpsCfgWrite m v => Sys2Proof.Machine.execGnssPpsCfgWrite m v s
  | .antCfgPar => Sys2Proof.Machine.execAntCfgPar s
  | .tdcEdge src rise c raw => Sys2Proof.Machine.execTdcEdge src rise c raw s
  | .tdcResultRead m c => Sys2Proof.Machine.execTdcResultRead m c s
  | .tdcArm m v => Sys2Proof.Machine.execTdcArm m v s
  | .tdcGateEdge g level => Sys2Proof.Machine.execTdcGateEdge g level s
  | .tdcChannelCfgWrite m c v => Sys2Proof.Machine.execTdcChannelCfgWrite m c v s
  | .tdcCalStart m v => Sys2Proof.Machine.execTdcCalStart m v s
  | .calDone corr => Sys2Proof.Machine.execCalDone corr s
  | .boundaryVisit l rx k p per => Sys2Proof.Machine.execBoundaryVisit l rx k p per s
  | .laneModelExpire l rx => Sys2Proof.Machine.execLaneModelExpire l rx s
  | .ocxoRdyChange level => Sys2Proof.Machine.execOcxoRdyChange level s
  | .groupModeWrite m g v => Sys2Proof.Machine.execGroupModeWrite m g v s
  | .linkUp p => Sys2Proof.Machine.execLinkUp p s
  | .linkDown p lock align fec lf => Sys2Proof.Machine.execLinkDown p lock align fec lf s
  | .frameReceive p f => Sys2Proof.Machine.execFrameReceive p f s
  | .pauseReceive p time => Sys2Proof.Machine.execPauseReceive p time s
  | .partnerPauseExpire p => Sys2Proof.Machine.execPartnerPauseExpire p s
  | .pauseRefresh p => Sys2Proof.Machine.execPauseRefresh p s
  | .pauseTransmit p => Sys2Proof.Machine.execPauseTransmit p s
  | .modeWrite m p v => Sys2Proof.Machine.execModeWrite m p v s
  | .modeActChange p => Sys2Proof.Machine.execModeActChange p s
  | .txClockStop g => Sys2Proof.Machine.execTxClockStop g s
  | .txClockStart g => Sys2Proof.Machine.execTxClockStart g s
  | .frameTransmit p blk => Sys2Proof.Machine.execFrameTransmit p blk s
  | .esmcReceive p data => Sys2Proof.Machine.execEsmcReceive p data s
  | .esmcInfoTransmit p => Sys2Proof.Machine.execEsmcInfoTransmit p s
  | .esmcEventTransmit p => Sys2Proof.Machine.execEsmcEventTransmit p s
  | .tsuReserve m g v => Sys2Proof.Machine.execTsuReserve m g v s
  | .reservationCancel m g v => Sys2Proof.Machine.execReservationCancel m g v s
  | .tsuSubmission p desc => Sys2Proof.Machine.execTsuSubmission p desc s
  | .submitDeadline g h => Sys2Proof.Machine.execSubmitDeadline g h s
  | .tsuLaunch g h => Sys2Proof.Machine.execTsuLaunch g h s
  | .launchComplete g h => Sys2Proof.Machine.execLaunchComplete g h s
  | .tsuTempSample g t => Sys2Proof.Machine.execTsuTempSample g t s
  | .phaseLost p => Sys2Proof.Machine.execPhaseLost p s
  | .threadStart m e t => Sys2Proof.Machine.execThreadStart m e t s
  | .threadHalt m e t => Sys2Proof.Machine.execThreadHalt m e t s
  | .clrflt m e t => Sys2Proof.Machine.execClrflt m e t s
  | .waitResume e t => Sys2Proof.Machine.execWaitResume e t s
  | .imageLoad m c v => Sys2Proof.Machine.execImageLoad m c v s
  | .loadDone c => Sys2Proof.Machine.execLoadDone c s
  | .queueStateWrite m q w v => Sys2Proof.Machine.execQueueStateWrite m q w v s
  | .doorbell m e t v => Sys2Proof.Machine.execDoorbell m e t v s
  | .timerArm m e t v => Sys2Proof.Machine.execTimerArm m e t v s
  | .timerFire e t => Sys2Proof.Machine.execTimerFire e t s
  | .semTryAcquire m n => Sys2Proof.Machine.execSemTryAcquire m n s
  | .semRelease m n => Sys2Proof.Machine.execSemRelease m n s
  | .semForce m n => Sys2Proof.Machine.execSemForce m n s
  | .sampleRead m c => Sys2Proof.Machine.execSampleRead m c s
  | .add e t rd ra rb => Sys2Proof.Machine.execAdd e t rd ra rb s
  | .sub e t rd ra rb => Sys2Proof.Machine.execSub e t rd ra rb s
  | .andOp e t rd ra rb => Sys2Proof.Machine.execAndOp e t rd ra rb s
  | .orOp e t rd ra rb => Sys2Proof.Machine.execOrOp e t rd ra rb s
  | .xorOp e t rd ra rb => Sys2Proof.Machine.execXorOp e t rd ra rb s
  | .sll e t rd ra rb => Sys2Proof.Machine.execSll e t rd ra rb s
  | .srl e t rd ra rb => Sys2Proof.Machine.execSrl e t rd ra rb s
  | .sra e t rd ra rb => Sys2Proof.Machine.execSra e t rd ra rb s
  | .slt e t rd ra rb => Sys2Proof.Machine.execSlt e t rd ra rb s
  | .sltu e t rd ra rb => Sys2Proof.Machine.execSltu e t rd ra rb s
  | .mul e t rd ra rb => Sys2Proof.Machine.execMul e t rd ra rb s
  | .mulh e t rd ra rb => Sys2Proof.Machine.execMulh e t rd ra rb s
  | .mulhu e t rd ra rb => Sys2Proof.Machine.execMulhu e t rd ra rb s
  | .div e t rd ra rb => Sys2Proof.Machine.execDiv e t rd ra rb s
  | .divu e t rd ra rb => Sys2Proof.Machine.execDivu e t rd ra rb s
  | .rem e t rd ra rb => Sys2Proof.Machine.execRem e t rd ra rb s
  | .remu e t rd ra rb => Sys2Proof.Machine.execRemu e t rd ra rb s
  | .clz e t rd ra => Sys2Proof.Machine.execClz e t rd ra s
  | .popc e t rd ra => Sys2Proof.Machine.execPopc e t rd ra s
  | .bswap e t rd ra => Sys2Proof.Machine.execBswap e t rd ra s
  | .bswap32 e t rd ra => Sys2Proof.Machine.execBswap32 e t rd ra s
  | .bswap16 e t rd ra => Sys2Proof.Machine.execBswap16 e t rd ra s
  | .addi e t rd ra imm => Sys2Proof.Machine.execAddi e t rd ra imm s
  | .slti e t rd ra imm => Sys2Proof.Machine.execSlti e t rd ra imm s
  | .sltiu e t rd ra imm => Sys2Proof.Machine.execSltiu e t rd ra imm s
  | .andi e t rd ra imm => Sys2Proof.Machine.execAndi e t rd ra imm s
  | .ori e t rd ra imm => Sys2Proof.Machine.execOri e t rd ra imm s
  | .xori e t rd ra imm => Sys2Proof.Machine.execXori e t rd ra imm s
  | .lui e t rd imm => Sys2Proof.Machine.execLui e t rd imm s
  | .shi e t rd ra imm => Sys2Proof.Machine.execShi e t rd ra imm s
  | .insh e t rd imm h => Sys2Proof.Machine.execInsh e t rd imm h s
  | .ld e t rd ra imm => Sys2Proof.Machine.execLd e t rd ra imm s
  | .lw e t rd ra imm => Sys2Proof.Machine.execLw e t rd ra imm s
  | .lwu e t rd ra imm => Sys2Proof.Machine.execLwu e t rd ra imm s
  | .lh e t rd ra imm => Sys2Proof.Machine.execLh e t rd ra imm s
  | .lhu e t rd ra imm => Sys2Proof.Machine.execLhu e t rd ra imm s
  | .lb e t rd ra imm => Sys2Proof.Machine.execLb e t rd ra imm s
  | .lbu e t rd ra imm => Sys2Proof.Machine.execLbu e t rd ra imm s
  | .sd e t rs ra imm => Sys2Proof.Machine.execSd e t rs ra imm s
  | .sw e t rs ra imm => Sys2Proof.Machine.execSw e t rs ra imm s
  | .sh e t rs ra imm => Sys2Proof.Machine.execSh e t rs ra imm s
  | .sb e t rs ra imm => Sys2Proof.Machine.execSb e t rs ra imm s
  | .postedStoreError e t addr => Sys2Proof.Machine.execPostedStoreError e t addr s
  | .beq e t rx ry off => Sys2Proof.Machine.execBeq e t rx ry off s
  | .bne e t rx ry off => Sys2Proof.Machine.execBne e t rx ry off s
  | .blt e t rx ry off => Sys2Proof.Machine.execBlt e t rx ry off s
  | .bge e t rx ry off => Sys2Proof.Machine.execBge e t rx ry off s
  | .bltu e t rx ry off => Sys2Proof.Machine.execBltu e t rx ry off s
  | .bgeu e t rx ry off => Sys2Proof.Machine.execBgeu e t rx ry off s
  | .jal e t rd off => Sys2Proof.Machine.execJal e t rd off s
  | .jalr e t rd ra imm => Sys2Proof.Machine.execJalr e t rd ra imm s
  | .illegalEncoding e t word => Sys2Proof.Machine.execIllegalEncoding e t word s
  | .rdbt e t pd => Sys2Proof.Machine.execRdbt e t pd s
  | .rdwt e t pd => Sys2Proof.Machine.execRdwt e t pd s
  | .cvwt e t pd pa => Sys2Proof.Machine.execCvwt e t pd pa s
  | .tdiff e t rd pa pb => Sys2Proof.Machine.execTdiff e t rd pa pb s
  | .tdiffb e t rd pa pb => Sys2Proof.Machine.execTdiffb e t rd pa pb s
  | .topt e t pd pa => Sys2Proof.Machine.execTopt e t pd pa s
  | .tres e t rd pa => Sys2Proof.Machine.execTres e t rd pa s
  | .tont e t rd pa => Sys2Proof.Machine.execTont e t rd pa s
  | .frpt e t pd pa => Sys2Proof.Machine.execFrpt e t pd pa s
  | .tadd e t pd pa rb => Sys2Proof.Machine.execTadd e t pd pa rb s
  | .taddb e t pd pa rb => Sys2Proof.Machine.execTaddb e t pd pa rb s
  | .eval e t rd ra rb => Sys2Proof.Machine.execEval e t rd ra rb s
  | .rsv e t rd ra rb => Sys2Proof.Machine.execRsv e t rd ra rb s
  | .rcan e t ra => Sys2Proof.Machine.execRcan e t ra s
  | .tarm e t pa => Sys2Proof.Machine.execTarm e t pa s
  | .qpush e t rd ra rb => Sys2Proof.Machine.execQpush e t rd ra rb s
  | .qpop e t rd ra rb => Sys2Proof.Machine.execQpop e t rd ra rb s
  | .qpushw e t rd ra rb => Sys2Proof.Machine.execQpushw e t rd ra rb s
  | .qpopw e t rd ra rb => Sys2Proof.Machine.execQpopw e t rd ra rb s
  | .qstat e t rd ra => Sys2Proof.Machine.execQstat e t rd ra s
  | .ewait e t rd => Sys2Proof.Machine.execEwait e t rd s
  | .etry e t rd => Sys2Proof.Machine.execEtry e t rd s
  | .epost e t ra rb => Sys2Proof.Machine.execEpost e t ra rb s
  | .barArrive e t rd ra => Sys2Proof.Machine.execBarArrive e t rd ra s
  | .bcast e t ra rb => Sys2Proof.Machine.execBcast e t ra rb s
  | .sacq e t rd ra => Sys2Proof.Machine.execSacq e t rd ra s
  | .stry e t rd ra => Sys2Proof.Machine.execStry e t rd ra s
  | .srel e t rd ra => Sys2Proof.Machine.execSrel e t rd ra s
  | .csub e t rd ra => Sys2Proof.Machine.execCsub e t rd ra s
  | .cwait e t rd ra => Sys2Proof.Machine.execCwait e t rd ra s
  | .ctry e t rd ra => Sys2Proof.Machine.execCtry e t rd ra s
  | .jrnl e t ra => Sys2Proof.Machine.execJrnl e t ra s
  | .fence e t => Sys2Proof.Machine.execFence e t s
  | .sysCall e t => Sys2Proof.Machine.execSysCall e t s
  | .breakOp e t => Sys2Proof.Machine.execBreakOp e t s
  | .eret e t => Sys2Proof.Machine.execEret e t s
  | .mfsr e t rd sr => Sys2Proof.Machine.execMfsr e t rd sr s
  | .mtsr e t sr ra => Sys2Proof.Machine.execMtsr e t sr ra s
  | .pmrd e t rd ra => Sys2Proof.Machine.execPmrd e t rd ra s
  | .cryptoComplete e t num memErr => Sys2Proof.Machine.execCryptoComplete e t num memErr s
  | .servicePageWrite m ofs v => Sys2Proof.Machine.execServicePageWrite m ofs v s
  | .commandBufferRelease m v => Sys2Proof.Machine.execCommandBufferRelease m v s
  | .policerRefill => Sys2Proof.Machine.execPolicerRefill s
  | .quarrySeed => Sys2Proof.Machine.execQuarrySeed s
  | .qryFlush m v => Sys2Proof.Machine.execQryFlush m v s
  | .flushDone => Sys2Proof.Machine.execFlushDone s
  | .qryClear m v => Sys2Proof.Machine.execQryClear m v s
  | .clearDone => Sys2Proof.Machine.execClearDone s
  | .quarryReseed m v => Sys2Proof.Machine.execQuarryReseed m v s
  | .ntpRequest p cl rx data => Sys2Proof.Machine.execNtpRequest p cl rx data s
  | .ntsRequest p cl rx data swapped => Sys2Proof.Machine.execNtsRequest p cl rx data swapped s
  | .ntsMint r block addr => Sys2Proof.Machine.execNtsMint r block addr s
  | .arpNdRequest p cl rx data => Sys2Proof.Machine.execArpNdRequest p cl rx data s
  | .delayReq p cl rx data => Sys2Proof.Machine.execDelayReq p cl rx data s
  | .syncTarget ix p ses => Sys2Proof.Machine.execSyncTarget ix p ses s
  | .announceTarget ix p ses => Sys2Proof.Machine.execAnnounceTarget ix p ses s
  | .followUp g h => Sys2Proof.Machine.execFollowUp g h s
  | .unicastNegotiation p cl rx data => Sys2Proof.Machine.execUnicastNegotiation p cl rx data s
  | .cancelUnicastTransmission p cl rx data => Sys2Proof.Machine.execCancelUnicastTransmission p cl rx data s
  | .grantExpire ses ty => Sys2Proof.Machine.execGrantExpire ses ty s
  | .quarantineEnd ses => Sys2Proof.Machine.execQuarantineEnd ses s
  | .upstreamRenew n => Sys2Proof.Machine.execUpstreamRenew n s
  | .upstreamMessage n rx data => Sys2Proof.Machine.execUpstreamMessage n rx data s
  | .upstreamAnnounceTimeout n => Sys2Proof.Machine.execUpstreamAnnounceTimeout n s
  | .transmitOpportunity p => Sys2Proof.Machine.execTransmitOpportunity p s
  | .class6Pass p => Sys2Proof.Machine.execClass6Pass p s
  | .shaperRefill => Sys2Proof.Machine.execShaperRefill s
  | .haltPinChange low => Sys2Proof.Machine.execHaltPinChange low s
  | .swhaltWrite m v => Sys2Proof.Machine.execSwhaltWrite m v s
  | .keyStage m v => Sys2Proof.Machine.execKeyStage m v s
  | .keyStaged => Sys2Proof.Machine.execKeyStaged s
  | .keyCommit m v => Sys2Proof.Machine.execKeyCommit m v s
  | .keyCommitted => Sys2Proof.Machine.execKeyCommitted s
  | .keyDiscard m v => Sys2Proof.Machine.execKeyDiscard m v s
  | .trngHealth apt => Sys2Proof.Machine.execTrngHealth apt s
  | .trngResumed => Sys2Proof.Machine.execTrngResumed s
  | .drbgReseed => Sys2Proof.Machine.execDrbgReseed s
  | .drbgWaitTimeout => Sys2Proof.Machine.execDrbgWaitTimeout s
  | .trnOutRead m => Sys2Proof.Machine.execTrnOutRead m s
  | .lcsChallenge m v => Sys2Proof.Machine.execLcsChallenge m v s
  | .lcsProvision m v => Sys2Proof.Machine.execLcsProvision m v s
  | .lcsField m v => Sys2Proof.Machine.execLcsField m v s
  | .lcsDebug m v => Sys2Proof.Machine.execLcsDebug m v s
  | .lcsRetire m v => Sys2Proof.Machine.execLcsRetire m v s
  | .mateLaneUp l => Sys2Proof.Machine.execMateLaneUp l s
  | .mateLaneDown l => Sys2Proof.Machine.execMateLaneDown l s
  | .matePpsPulse => Sys2Proof.Machine.execMatePpsPulse s
  | .healthPublish => Sys2Proof.Machine.execHealthPublish s
  | .healthInterval toggle => Sys2Proof.Machine.execHealthInterval toggle s
  | .healthFrame l data => Sys2Proof.Machine.execHealthFrame l data s
  | .timeFrame l data => Sys2Proof.Machine.execTimeFrame l data s
  | .mirrorFrame l data => Sys2Proof.Machine.execMirrorFrame l data s
  | .armHo l data => Sys2Proof.Machine.execArmHo l data s
  | .ackHo l data => Sys2Proof.Machine.execAckHo l data s
  | .abortHo l data => Sys2Proof.Machine.execAbortHo l data s
  | .resyncReq l data => Sys2Proof.Machine.execResyncReq l data s
  | .mirrorSend => Sys2Proof.Machine.execMirrorSend s
  | .mateResidUpdate => Sys2Proof.Machine.execMateResidUpdate s
  | .discoveryTimeout => Sys2Proof.Machine.execDiscoveryTimeout s
  | .activeInChange level => Sys2Proof.Machine.execActiveInChange level s
  | .mateRejoin m v => Sys2Proof.Machine.execMateRejoin m v s
  | .mateIsolate m v => Sys2Proof.Machine.execMateIsolate m v s
  | .hoDone => Sys2Proof.Machine.execHoDone s
  | .reversionArm => Sys2Proof.Machine.execReversionArm s
  | .selftestTimeout => Sys2Proof.Machine.execSelftestTimeout s
  | .shadowRestore => Sys2Proof.Machine.execShadowRestore s
  | .faultRise page n => Sys2Proof.Machine.execFaultRise page n s
  | .escalated n => Sys2Proof.Machine.execEscalated n s
  | .faultAck m n v => Sys2Proof.Machine.execFaultAck m n v s
  | .faultSeverityWrite m n v => Sys2Proof.Machine.execFaultSeverityWrite m n v s
  | .hmaskWrite m k v => Sys2Proof.Machine.execHmaskWrite m k v s
  | .pmuCounterHiWrite m addr v => Sys2Proof.Machine.execPmuCounterHiWrite m addr v s
  | .clrAll m v => Sys2Proof.Machine.execClrAll m v s
  | .matrixTimeout => Sys2Proof.Machine.execMatrixTimeout s
  | .lateResponse => Sys2Proof.Machine.execLateResponse s
  | .cfgRecalc m v => Sys2Proof.Machine.execCfgRecalc m v s
  | .recalcDone => Sys2Proof.Machine.execRecalcDone s
  | .ddrInit m ch v => Sys2Proof.Machine.execDdrInit m ch v s
  | .ddrTrained ch => Sys2Proof.Machine.execDdrTrained ch s
  | .scrubNow m ch v => Sys2Proof.Machine.execScrubNow m ch v s
  | .ddrScrubPass ch pages => Sys2Proof.Machine.execDdrScrubPass ch pages s
  | .mramScrubPass counts => Sys2Proof.Machine.execMramScrubPass counts s
  | .mramRemapRequest m pc v => Sys2Proof.Machine.execMramRemapRequest m pc v s
  | .journalWrite m v => Sys2Proof.Machine.execJournalWrite m v s
  | .jdone => Sys2Proof.Machine.execJdone s
  | .commandRingEntry r seq opcode => Sys2Proof.Machine.execCommandRingEntry r seq opcode s
  | .hostNop r => Sys2Proof.Machine.execHostNop r s
  | .copyIn r addr data hostErr => Sys2Proof.Machine.execCopyIn r addr data hostErr s
  | .copyOut r addr len res hostErr => Sys2Proof.Machine.execCopyOut r addr len res hostErr s
  | .mramWrite r ofs data hostErr => Sys2Proof.Machine.execMramWrite r ofs data hostErr s
  | .hostTxEntry r port flags tag data dmaErr => Sys2Proof.Machine.execHostTxEntry r port flags tag data dmaErr s
  | .pcieLinkChange up perst lanes gen => Sys2Proof.Machine.execPcieLinkChange up perst lanes gen s
  | .qspiCommand m v => Sys2Proof.Machine.execQspiCommand m v s
  | .qspiDone data => Sys2Proof.Machine.execQspiDone data s
  | .i2cTransfer m ix v => Sys2Proof.Machine.execI2cTransfer m ix v s
  | .i2cDone ix nack arbLost timeout data => Sys2Proof.Machine.execI2cDone ix nack arbLost timeout data s
  | .uartTransmit m u v => Sys2Proof.Machine.execUartTransmit m u v s
  | .uartReceive u ch fe pe brk => Sys2Proof.Machine.execUartReceive u ch fe pe brk s
  | .gpioEdge g level => Sys2Proof.Machine.execGpioEdge g level s
  | .invSearch m v => Sys2Proof.Machine.execInvSearch m v s
  | .inventorySearchDone presence bits complements => Sys2Proof.Machine.execInventorySearchDone presence bits complements s
  | .powerGoodRise oscMhz b4 pref => Sys2Proof.Machine.execPowerGoodRise oscMhz b4 pref s
  | .apllLock => Sys2Proof.Machine.execApllLock s
  | .powerGoodFall => Sys2Proof.Machine.execPowerGoodFall s
  | .resetNAssert => Sys2Proof.Machine.execResetNAssert s
  | .resetRelease straps flash => Sys2Proof.Machine.execResetRelease straps flash s
  | .tapReset => Sys2Proof.Machine.execTapReset s
  | .quiesce m v => Sys2Proof.Machine.execQuiesce m v s
  | .quiesceEntryDone => Sys2Proof.Machine.execQuiesceEntryDone s
  | .pwrRun m v => Sys2Proof.Machine.execPwrRun m v s
  | .wakeExitDone => Sys2Proof.Machine.execWakeExitDone s
  | .pwrChipReset m v => Sys2Proof.Machine.execPwrChipReset m v s
  | .avs target => Sys2Proof.Machine.execAvs target s
  | .geoWriteLand => Sys2Proof.Machine.execGeoWriteLand s
  | .geoSet m v => Sys2Proof.Machine.execGeoSet m v s
  | .geoSecond => Sys2Proof.Machine.execGeoSecond s
  | .geoTrimApply => Sys2Proof.Machine.execGeoTrimApply s
  | .geoAlarm => Sys2Proof.Machine.execGeoAlarm s
  | .tamper ix level => Sys2Proof.Machine.execTamper ix level s
  | .tamperClear m v => Sys2Proof.Machine.execTamperClear m v s
  | .geoPowerOnReset => Sys2Proof.Machine.execGeoPowerOnReset s
  | .xtalStop => Sys2Proof.Machine.execXtalStop s
  | .remoteFault p on => Sys2Proof.Machine.execRemoteFault p on s
  | .mramRemapDone => Sys2Proof.Machine.execMramRemapDone s

end Sys2Proof.Machine
end

