-- ==== Sys2Proof/Machine/Tick.lean ====
section
/-! DEFINITION. What time does that no command of the table does: one cycle of CD_TB. The happenings of time that are rows of the
table (a change reaching its anchor, a slot taken, a timer firing) are commands, which the sender gives in the cycle in which they
fall due; here stand the advance of Bedrock and the effects that follow it without a row of their own. -/
namespace Sys2Proof.Machine

/-- The cycles of CD_ENG, at 1.2 GHz, that end in a cycle of CD_TB, at 1 GHz (R58). (DESIGN CHOICE, log 77.) -/
def engCycles (n : Nat) : Nat := 6 * (n + 1) / 5 - 6 * n / 5

/-- Bedrock advances by one cycle of CD_TB, or wraps (R66, R68). (DESIGN CHOICE, log 3.) -/
def bedrockAdvance (s : State) : State :=
  if s.bt.toNat / 65536 + 1 = 2 ^ 64 then Sys2Proof.Machine.bedrockWrap s else (endCycle s).atCycle (s.bt + 0x10000)

/-- The STALL code of a thread that waits: for memory beyond its cluster, or in WAIT (R592, R594). What stalls a pipeline has none
here. (DESIGN CHOICE, log 80.) -/
def State.stallCode (s : State) (k : Nat) : Nat :=
  if s.stalled k then 4
  else if (s.th k).st ≠ .wait then 0
  else match (s.th k).waitOn with
    | .none => 0
    | .queue => 5
    | .crypto => 6
    | .event => 7
    | .barrier => 8
    | .sema => 9

/-- How much one cycle of CD_ENG adds to a counter of an engine or a cluster: 1 where its EVENT is the cycles, and for an EVENT of stall
cycles the threads that it counts and that stall so (R847). (DESIGN CHOICE, log 80.) -/
def State.engAdds (s : State) (k : Nat) : Nat :=
  let c := s.ctrCfg k
  let u := k / 16
  let code := fld c 0 8
  if code = 0x01 then 1
  else if u < 512 ∧ 0x11 ≤ code ∧ code ≤ 0x1B then
    ((List.range 4).filter (fun t => bit c (8 + t) && bit c (if (s.th (4 * u + t)).user then 12 else 13) &&
      decide (0x10 + s.stallCode (4 * u + t) = code))).length
  else 0

/-- The counters of engines and clusters that count cycles count one cycle of CD_ENG (R847). (DESIGN CHOICE, log 80.) -/
def countEngCycle (s : State) : State :=
  if ¬ s.pmuOn then s
  else
    (s.flt.counters.map (·.1)).foldl
      (fun a k =>
        let u := k / 16
        if k < 9216 ∧ bit (a.ctrCfg k) 31 = true ∧ s.pageLive (if u < 512 then Reg.ENG u else Reg.CLU (u - 512)) = true then
          Nat.repeat (fun b =>
            match bumpCtr k b with
            | (b1, true) => raiseEvt Reg.PMU 0 b1
            | (b1, false) => b1) (s.engAdds k) a
        else a) s

/-- The PMU counts the cycle: the chip counters of CD_TB cycles, and the cycles of CD_ENG in it (R847, R848).
(DESIGN CHOICE, log 3, 80.) -/
def countCycle (s : State) : State :=
  if s.pageLive Reg.PMU then Nat.repeat countEngCycle (engCycles (s.bt.toNat / 65536)) (pmuChip 0x01 0 s) else s

/-- The commits held by FREEZE are released, one each cycle, in BDR and in ASY (R82, R969). (DESIGN CHOICE, log 3.) -/
def releaseHeld (s : State) : State :=
  let s1 := if s.pageLive Reg.BDR then bdrReleaseOne s else s
  if s1.pageLive Reg.ASY then asyReleaseOne s1 else s1

/-- A cycle of CD_SCAL, one cycle of CD_TB in four: the staged priorities take effect, and EFC_PWM goes on (R206, R257).
(DESIGN CHOICE, log 3; DEDUCED, log 35.) -/
def scalCycle (s : State) : State :=
  if (s.bt.toNat / 65536) % 4 ≠ 0 then s
  else efcCycle (if s.pageLive Reg.REF then prioApply s else s)

/-- Characters leave the UARTs whose character time has passed (R896). (DESIGN CHOICE, log 3.) -/
def uartCycle (s : State) : State :=
  if s.pageLive Reg.LSP then (List.range 4).foldl (fun a u => uartDrain u a) s else s

/-- The upstream sessions whose Delay_Req is due send it (R698). (DESIGN CHOICE, log 3.) -/
def upstreamCycle (s : State) : State :=
  if s.pageLive Reg.QRY then (List.range 8).foldl (fun a n => upDelay n a) s else s

/-- Roles and the mate's conditions are judged again (R804, R816). (DESIGN CHOICE, log 3.) -/
def mateCycle (s : State) : State := if s.pageLive Reg.MATE then mateEval s else s

/-- Phase 2 of a commit in progress goes on (R757). (DEDUCED, log 85.) -/
def keyCycle (s : State) : State := if s.pageLive Reg.KEY then commitCount s else s

/-- The requests that wait in the matrix: they are looked at in every cycle, and a cycle in which one is held back by R861 is counted
(R97, R861). (DESIGN CHOICE, log 3.) -/
def answerCycle (s : State) : State :=
  if s.mtx.isEmpty then s
  else
    let s1 := deliverHeld s
    if s1.mtx.any (fun r => decide (r.stage = .back) && closesCycle s1.mtx r) then pmuChip 0x0C 0 s1 else s1

/-- The GNSS sample clock, a capture at its frame boundary, and notches that take effect there (R325, R339, R403). (DESIGN CHOICE, log 3.) -/
def gnssCycle (s : State) : State :=
  let s1 := if s.pageLive Reg.GNS then sclkCycle s else s
  let s2 := if s1.pageLive Reg.ACQ then acqBegin s1 else s1
  if s2.pageLive Reg.ANT then notchCycle s2 else s2

/-- One cycle of CD_TB. Bedrock runs on while a reset holds the device (R44, R64); nothing else then happens, and with Bedrock stopped
nothing at all. (DESIGN CHOICE, log 3.) -/
def tick (s : State) : State :=
  if s.btRun = false then s
  else if s.alive = false then bedrockAdvance s
  else answerCycle (keyCycle (mateCycle (upstreamCycle (uartCycle (scalCycle (gnssCycle (outsCycle (releaseHeld (countCycle (bedrockAdvance s))))))))))

end Sys2Proof.Machine
end

