-- ==== Sys2Proof/Safety.lean ====
section
/-! DEFINITION. What counts as a safe run of the device, and the words in which the claims speak of commands that take effect. -/
namespace Sys2Proof.Machine

/-! ### Commands that take effect -/

/-- The calendar has written nothing in this cycle that would stand before a write by this master (R49). -/
abbrev Unopposed (m : Master) (s : State) : Prop := m = .calendar ∨ s.thisCyc.cal = []

/-- A write by a master of the register at an offset arrives there, and no write of the calendar in the cycle stands before it. -/
abbrev Reaches (m : Master) (a : Nat) (s : State) : Prop := gateIn m a true s = .go ∧ Unopposed m s

/-- A write by a master of the word at an offset of BAR0 arrives at the register of a page. -/
abbrev Arrives (m : Master) (a : Nat) (s : State) : Prop := Reaches m a s ∧ windowOf a = .page ∧ a % 4 = 0

/-- A read by a master of the register at an offset is answered at once. -/
abbrev Reads (m : Master) (a : Nat) (s : State) : Prop := gateIn m a false s = .go

/-- The state after a write that arrives at the register at an offset and does what leaves u behind: what INJECT makes of the stored
word is noted, and what the change brings about elsewhere in the same cycle is done. -/
def wrote (a : Nat) (s u : State) : State := settle s (injectNote a s u)

/-- The state after an event that does what leaves u behind: what the change brings about elsewhere in the same cycle is done. -/
def became (s u : State) : State := settle s u

/-- The block of a page takes part in what happens: the device runs, the block's clock runs, and no reset holds it. -/
abbrev Live (pg : Nat) (s : State) : Prop := s.pageLive pg = true

/-- The block of a page is live and not frozen at its safe point, so that it acts by itself. (DEDUCED, log 18.) -/
abbrev Acts (pg : Nat) (s : State) : Prop := s.pageLive pg = true ∧ s.pgFrozen pg = false

/-- A thread issues an instruction that reads the registers `srcs` and is privileged or not, and the instruction is fetched: `s1` is the
state after the fetch (R592, R599, R612). -/
def Issues (k : Nat) (priv : Bool) (srcs : List GReg) (s s1 : State) : Prop :=
  s.canIssue k = true ∧ (s.th k).postErr = none ∧ fetchAt k s = (true, s1) ∧ (priv && (s1.th k).user) = false ∧
    (srcs.map BitVec.toNat).any (s1.rgBad k) = false

/-- A load of n bytes by a thread is permitted, aligned, and answered at once with the number v, and leaves s2 behind (R556, R607, R608). -/
def LoadReads (k rd : Nat) (ea : DWord) (n : Nat) (signed : Bool) (s1 : State) (v : Nat) (s2 : State) : Prop :=
  ∃ t, s1.access k ea.toNat n n false = .ok t ∧
    ((∃ a, t = .page a ∧ busRead (masterOf k) (.load k rd signed) a n (countAccess k 0x20 t s1) = (.data v, s2)) ∨
      ((∀ a, t ≠ .page a) ∧ ∃ l, v = natLE l ∧ memRead (k / 32) n t (countAccess k 0x20 t s1) = (.ok, l, s2)))

/-- A store of the low n bytes of v by a thread is permitted, aligned, finds room among the posted stores, and is taken at once; s2 is
the state in which the bytes are written and the thread goes on (R556, R607, R610). -/
def StoreWrites (k : Nat) (v ea : DWord) (n : Nat) (s1 s2 : State) : Prop :=
  ∃ t, s1.access k ea.toNat n n true = .ok t ∧ ¬ (t.isFar ∧ 8 ≤ (s1.th k).posted.length) ∧
    ((∃ a, t = .page a ∧ busWrite (masterOf k) (.store k) (some (s1.th k).pc) a n (v.toNat % 2 ^ (8 * n))
        (next k (countAccess k 0x21 t s1)) = (.taken, s2)) ∨
      ((∀ a, t ≠ .page a) ∧ memWrite (k / 32) t (bytesLE n v.toNat) (next k (countAccess k 0x21 t s1)) = (.ok, s2)))

/-- No KEY_CMD write of the cycle came before this one out of the order host, control cluster, JTAG, calendar (R759). -/
abbrev KeyCmdInOrder (m : Master) (s : State) : Prop := ∀ c ∈ s.keyBase.cmds, c.1 ≤ bdrRank m

/-! ### Safe runs -/

/-- Bedrock counts whole cycles: its fraction is 0 (R67). -/
abbrev State.bedrockWhole (s : State) : Prop := s.bt.toNat % 65536 = 0

/-- Every memory and the register file are in canonical form. -/
abbrev State.storesWf (s : State) : Prop :=
  Memory.wf s.sram = true ∧ Memory.wf s.dram = true ∧ Memory.wf s.mram = true ∧ AMap.wf resetAt s.regs = true

/-- A command never stops the device: it is answered with a next state. -/
def Completes (c : Instr) (s : State) : Prop := ∃ t, exec c s = .next t

/-- The commands that are the device's own supply, clock and wrap, and so move Bedrock or start or stop it (R66, R68). -/
def movesBedrock : Instr → Bool
  | .bedrockWrap | .powerGoodRise .. | .powerGoodFall | .apllLock => true
  | _ => false

end Sys2Proof.Machine
end

