-- ==== Sys2Proof/Certificates/Slice0/Obligations.lean ====
section
/-! DEFINITION. The statements about the model. -/
open Sys2Proof Sys2Proof.Machine

/-- A step of a device with a waiting command runs the command at the front of the queue on the state with the queue's rest. -/
def Obligations.StepRunsFront : Prop :=
  ∀ (c : Instr) (s : State), step { s with pending := c :: s.pending } = exec c s

/-- With no command waiting, a step is one cycle of CD_TB: Bedrock, if it runs, counts one cycle, and while a reset holds the device that is
all that happens; with Bedrock stopped nothing changes. That time passes on an empty queue is the model's choice (log entry 3). -/
def Obligations.EmptyQueueTicks : Prop :=
  (∀ s : State, s.pending = [] → s.btRun = true → s.bt.toNat / 65536 + 1 < 2 ^ 64 →
    ∃ t, step s = .next t ∧ t.bt = s.bt + 0x10000 ∧ t.btRun = true ∧ t.pending = []) ∧
  (∀ s : State, s.pending = [] → s.btRun = true → s.alive = false → step s = .next (bedrockAdvance s)) ∧
  (∀ s : State, s.pending = [] → s.btRun = false → step s = .next s)

/-- After reset every register reads its reset value, no memory holds anything, no thread, slot or command is under way, the time status is
UNSET and Bedrock stands at 0, in whole cycles. Where the spec states no reset value the values are the model's (log entries 1 and 2). -/
def Obligations.ResetLeavesDefaults : Prop :=
  (∀ a, State.reset.reg a = resetAt a) ∧ State.reset.storesWf ∧ State.reset.bedrockWhole ∧ State.reset.bt = 0 ∧
  State.reset.pending = [] ∧ State.reset.asy.ts = .unset ∧ (∀ n, (State.reset.actSlot n).st = .empty) ∧
  (∀ k r, (State.reset.th k).rg r = 0) ∧ (∀ n, (State.reset.queue n).en = false) ∧ (∀ n, (State.reset.sem n).owner = none)

/-- Bedrock counts whole cycles: its fraction is 0 in every state that a step leaves, whatever the command, if it was 0 before; and a step
on an empty queue adds one cycle, modulo 2^80 (R64). -/
def Obligations.EveryStepKeepsWholeCycles : Prop :=
  (∀ s t : State, s.bedrockWhole → step s = .next t → t.bedrockWhole) ∧
  (∀ s : State, s.bedrockWhole → s.pending = [] → s.btRun = true →
    ∃ t, step s = .next t ∧ t.bt = s.bt + 0x10000 ∧ t.bedrockWhole)

/-- Bedrock starts at 0 when the APLL locks with PWR_GOOD high; and no command but the supply's own, the lock and the wrap changes it,
starts it or stops it: no reset of any kind, no write, no event. No command touches the waiting commands (R66). -/
def Obligations.CommandsLeaveBedrock : Prop :=
  (∀ s : State, s.pwr.good = true → s.btRun = false → s.pwr.oscRatio ≠ 0 →
    ∃ t, exec .apllLock s = .next t ∧ t.bt = 0 ∧ t.btRun = true) ∧
  (∀ (c : Instr) (s t : State), movesBedrock c = false → exec c s = .next t → t.bt = s.bt ∧ t.btRun = s.btRun) ∧
  (∀ (c : Instr) (s t : State), exec c s = .next t → t.pending = s.pending)

/-- No command stops the device: each is answered with a next state, whatever the state. -/
def Obligations.EveryCommandCompletes : Prop :=
  ∀ (c : Instr) (s : State), Completes c s

/-- Writes that the device ignores. A write of CTL with TYPE 0 empties a slot that has not been taken and changes nothing at all of one
that is being taken, awaits its outcome or has it; a write of B4MODE is taken only while no port is enabled; a W1C of TAMPER clears TAMPER, TSRC and ERASED together, and only
while ERASED is 1, but for a TAMPER that is detected in the same cycle (R12, R37, R110, R938). -/
def Obligations.GuardedWritesActOrChangeNothing : Prop :=
  (∀ (m : Master) (n : BitVec 12) (v : Word) (s : State), slotGate m true s = .go → fld v 28 4 = 0 →
    (s.slotGoing n.toNat = true ∨ (s.actSlot n.toNat).st = .applied ∨ (s.actSlot n.toNat).st = .notApplied →
      exec (.slotClear m n v) s = .next s) ∧
    (s.slotGoing n.toNat = false → (s.actSlot n.toNat).st ≠ .applied → (s.actSlot n.toNat).st ≠ .notApplied →
      ∃ t, exec (.slotClear m n v) s = .next t ∧ (t.actSlot n.toNat).st = .empty)) ∧
  (∀ (m : Master) (v : Word) (s : State), Reaches m Reg.SYS_COMPAT s →
    ((∃ p < 16, s.pgEn (Reg.PRT p) = true) → exec (.b4modeWrite m v) s = .next s) ∧
    ((∀ p < 16, s.pgEn (Reg.PRT p) = false) → s.rb (Reg.SYS + 0x008) 3 = false →
      ∃ t, exec (.b4modeWrite m v) s = .next t ∧ t.rb Reg.SYS_COMPAT 0 = bit v 0)) ∧
  (∀ (val : Nat) (s : State), s.geo.busy = some (0x044, val) → ∃ t, exec .geoWriteLand s = .next t ∧
    (s.rb Reg.GEO_STAT 4 = true → (BitVec.ofNat 32 val).getLsbD 1 = true → t.rb Reg.GEO_STAT 4 = false ∧
      (s.setNow Reg.GEO_STAT = 0 → t.rb Reg.GEO_STAT 1 = false ∧ t.rf Reg.GEO_STAT 8 2 = 0) ∧
      (bit (s.setNow Reg.GEO_STAT) 1 = true → t.rb Reg.GEO_STAT 1 = s.rb Reg.GEO_STAT 1)) ∧
    (s.rb Reg.GEO_STAT 4 = false ∨ (BitVec.ofNat 32 val).getLsbD 1 = false →
      t.rb Reg.GEO_STAT 1 = s.rb Reg.GEO_STAT 1 ∧ t.rf Reg.GEO_STAT 8 2 = s.rf Reg.GEO_STAT 8 2 ∧ t.rb Reg.GEO_STAT 4 = s.rb Reg.GEO_STAT 4))

/-- Times compare by their difference: a is earlier than b when the highest bit of a - b, modulo 2^N, is 1, and at or after b otherwise; and a
calendar WRITE may name exactly the aligned offsets up to 0x7FFFFC outside the ACT page and the slot window (R90, R106). -/
def Obligations.TimesAndAddressesAreJudged : Prop :=
  (∀ (N : Nat) (a b : BitVec N), 0 < N →
    (earlier a b = true ↔ 2 ^ (N - 1) ≤ (a.toNat + 2 ^ N - b.toNat) % 2 ^ N) ∧ atOrAfter a b = !earlier a b) ∧
  (∀ a : Nat, writeAllowed a = true ↔
    4 ∣ a ∧ a ≤ 0x07FFFFC ∧ ¬ (0x0011000 ≤ a ∧ a ≤ 0x0011FFF) ∧ ¬ (0x0020000 ≤ a ∧ a ≤ 0x002FFFF))

/-- Register accesses. A word written to a page's SCRATCH is held, EVT_RAW bits are cleared by ones, EVT_FORCE raises the events it names; a
register that takes writes gets what its page makes of the word, and the last word of a wider value commits the words staged before it; the
read of the first word of a value latches the others for its reader; a read-clear counter reads and clears, an increment in the same cycle
being kept; a 64-bit access by the host is two; a byte or halfword sent to or asked of a page is an error; where the calendar has written a
register in the same cycle, its bits stand (R5 to R7, R10, R12 to R19, R25, R49, R662). -/
def Obligations.RegisterAccessesAct : Prop :=
  (∀ (m : Master) (addr : BAddr) (v : DWord) (s : State) (p : PageRow) (inst off : Nat), Arrives m addr.toNat s →
    pageAt addr.toNat = some (p, inst, off) →
    (off = 0x02C → exec (.registerWrite m .word addr v) s = .next (settle s (s.setReg (addr.toNat) (v.setWidth 32)))) ∧
    (off = 0x010 → exec (.registerWrite m .word addr v) s = .next (settle s (s.setReg (addr.toNat)
      (s.reg (addr.toNat) &&& ~~~ (v.setWidth 32 &&& BitVec.ofNat 32 (evtMask p.kind inst) &&& ~~~ s.setNow addr.toNat))))) ∧
    (∀ (r : RegRow) (x : Nat × Nat × Nat) (u : Word), 0x040 ≤ off → rowAt p.kind off = some (r, x) → r.takes = true →
      exec (.registerWrite m .word addr v) s =
        .next (wrote addr.toNat s (bodyWrite m none p.kind inst off addr.toNat (v.setWidth 32) s)) ∧
      exec (.multiwordHiWrite m addr u) s = .next (wrote addr.toNat s (bodyWrite m none p.kind inst off addr.toNat u s)))) ∧
  (∀ (m : Master) (a off inst : Nat) (v lo : Word) (s : State) (p : PageRow) (r : RegRow) (i j : Nat),
    pageAt a = some (p, inst, off) → rowAt p.kind off = some (r, i, j, 1) → r.words = 2 → s.stagedOf m (a - 4) = some lo → 4 ≤ a →
    valueWrite m a v s = ((s.setReg (a - 4) (r.merge (s.pgLock (a - off)) 0 (s.reg (a - 4)) lo)).setReg a
      (r.merge (s.pgLock (a - off)) 1 (s.reg a) v)).dropStaged m (a - 4) 2) ∧
  (∀ (m : Master) (addr : BAddr) (v : DWord) (s : State), s.alive = true → windowOf addr.toNat = .page →
    exec (.registerWrite m .byte addr v) s = .next (settle s (busErr m addr.toNat 1 true s)) ∧
    exec (.registerWrite m .half addr v) s = .next (settle s (busErr m addr.toNat 1 true s)) ∧
    (m ≠ .host → exec (.registerWrite m .double addr v) s = .next (settle s (busErr m addr.toNat 1 true s)))) ∧
  (∀ (addr : BAddr) (v : DWord) (s : State), exec (.registerWrite .host .double addr v) s =
    .next (settle s (busWrite .host .plain none (addr.toNat + 4) 4 (fld v 32 32)
      (busWrite .host .plain none addr.toNat 4 (fld v 0 32) s).2).2)) ∧
  (∀ (m : Master) (addr : BAddr) (s : State) (p : PageRow) (inst off i j v : Nat) (r : RegRow), Reads m addr.toNat s →
    windowOf addr.toNat = .page → addr.toNat % 4 = 0 → s.readWaits addr.toNat = false →
    pageAt addr.toNat = some (p, inst, off) → 0x040 ≤ off → s.readsZero p.kind inst off = false → p.kind ≠ .pmu → p.kind ≠ .tsu →
    p.kind ≠ .prt → takeRead m p.kind inst off addr.toNat s = none → rowAt p.kind off = some (r, i, j, 0) → r.wo = false →
    (s.liveVal m p.kind inst r.off i j).getD (s.regN addr.toNat r.words) = v →
    (r.rc = false → exec (.multiwordLoRead m ⟨addr, .word⟩) s = .next (settle s ((forN (r.words - 1)
      (fun n t => t.setShadow m (addr.toNat + 4 * (n + 1)) (wordOf v (n + 1))) s).emit (.readData m addr.toNat (wordOf v 0))))) ∧
    (r.rc = true → exec (.readClearCounterRead m addr false) s = .next (settle s (((forN (r.words - 1)
      (fun n t => t.setShadow m (addr.toNat + 4 * (n + 1)) (wordOf v (n + 1))) s).setRegN addr.toNat 0 r.words).emit
        (.readData m addr.toNat (wordOf v 0))))) ∧
    (r.rc = true → s.pageLive (pageBase addr.toNat) = true → exec (.readClearCounterRead m addr true) s =
      .next (settle s ((((forN (r.words - 1) (fun n t => t.setShadow m (addr.toNat + 4 * (n + 1)) (wordOf v (n + 1))) s).setRegN
        addr.toNat 0 r.words).emit (.readData m addr.toNat (wordOf v 0))).count addr.toNat)))) ∧
  (∀ (m : Master) (page : BAddr) (v : Word) (s : State) (p : PageRow) (inst : Nat), Arrives m (baseOf page + 0x01C) s →
    pageAt (baseOf page + 0x01C) = some (p, inst, 0x01C) →
    exec (.evtForceWrite m page v) s = .next (settle s (forN 32 (fun i a =>
      if bit v i && (evtOf p.kind inst i).isSome then raiseEvt (baseOf page) i a else a) s))) ∧
  (∀ (m : Master) (ofs : BitVec 12) (v : Word) (s : State) (p : PageRow) (inst : Nat) (r : RegRow) (x : Nat × Nat × Nat),
    Arrives m (Reg.SVC + ofs.toNat) s → pageAt (Reg.SVC + ofs.toNat) = some (p, inst, ofs.toNat) → p.kind = .svc →
    0x040 ≤ ofs.toNat → rowAt .svc ofs.toNat = some (r, x) → r.takes = true →
    exec (.servicePageWrite m ofs v) s = .next (wrote (Reg.SVC + ofs.toNat) s (wrSvc m ofs.toNat v s))) ∧
  (∀ (m : Master) (addr : BAddr) (s : State), s.alive = true → windowOf addr.toNat = .page →
    exec (.multiwordLoRead m ⟨addr, .byte⟩) s = .next (settle s (busErr m addr.toNat 1 false s)) ∧
    exec (.multiwordLoRead m ⟨addr, .half⟩) s = .next (settle s (busErr m addr.toNat 1 false s)) ∧
    (m ≠ .host → exec (.multiwordLoRead m ⟨addr, .double⟩) s = .next (settle s (busErr m addr.toNat 1 false s)))) ∧
  (∀ (addr : BAddr) (s : State), exec (.multiwordLoRead .host ⟨addr, .double⟩) s =
    .next (settle s (readAt .host (addr.toNat + 4) 4 (readAt .host addr.toNat 4 s)))) ∧
  (∀ (m : Master) (addr : BAddr) (v : DWord) (s : State) (p : PageRow) (inst off : Nat) (r : RegRow) (x : Nat × Nat × Nat),
    gateIn m addr.toNat true s = .go → windowOf addr.toNat = .page → addr.toNat % 4 = 0 → pageAt addr.toNat = some (p, inst, off) →
    0x040 ≤ off → rowAt p.kind off = some (r, x) → r.takes = true →
    ∃ w, (∀ i, i < 32 → w.getLsbD i = if m ≠ .calendar ∧ (s.calOver addr.toNat).1.getLsbD i = true
        then (s.calOver addr.toNat).2.getLsbD i else v.getLsbD i) ∧
      exec (.registerWrite m .word addr v) s = .next (settle s (injectNote addr.toNat (s.calStaged m addr.toNat)
        (bodyWrite m none p.kind inst off addr.toNat w (s.calStaged m addr.toNat)))))

/-- The common page header. CTRL resets a page, and else writes EN, FREEZE and CFG_LOCK, which only sets; a reset ends with READY and with
what the page does as it leaves reset; a frozen block shows FROZEN once it is at its safe point; SYS_COMPAT is written only while no port is
enabled (R26 to R28, R37, R51 to R54). SOFT_RESET of cluster 63 is the host's and JTAG's alone (R57). -/
def Obligations.PageHeadersAct : Prop :=
  (∀ (m : Master) (page : BAddr) (v : Word) (s : State) (p : PageRow) (inst : Nat), Arrives m (ctrlOf page) s →
    pageAt (ctrlOf page) = some (p, inst, 0x008) →
    (bit v 1 = true → p.kind ≠ .clu → exec (.softReset m page v) s = .next (settle s (resetPage p.kind inst s))) ∧
    (bit v 1 = false → bit v 3 = false →
      exec (.blockEnable m page v) s = .next (settle s (setEn p.kind inst (baseOf page) (bit v 0) (setFreeze p.kind (baseOf page) (bit v 2) s))) ∧
      exec (.blockFreeze m page v) s = .next (settle s (setEn p.kind inst (baseOf page) (bit v 0) (setFreeze p.kind (baseOf page) (bit v 2) s)))) ∧
    (bit v 1 = false → bit v 3 = true → exec (.cfgLock m page v) s = .next (settle s
      (setEn p.kind inst (baseOf page) (bit v 0) (setFreeze p.kind (baseOf page) (bit v 2) (s.setRb (baseOf page + 0x008) 3 true)))))) ∧
  (∀ (page : BAddr) (s : State) (p : PageRow) (inst off : Nat), pageAt (baseOf page) = some (p, inst, off) → s.alive = true →
    s.pgRst (baseOf page) = true → s.pageStopped p.kind inst = false →
    exec (.softResetComplete page) s = .next (settle s
      (pageLeave p.kind inst ((s.setReg (baseOf page + 0x008) 0).setReg (baseOf page + 0x00C) 1)))) ∧
  (∀ (page : BAddr) (s : State) (p : PageRow) (inst off : Nat), Live (baseOf page) s → pageAt (baseOf page) = some (p, inst, off) →
    s.pgFrz (baseOf page) = true → s.atSafePoint p.kind inst = true →
    exec (.freezeSafePoint page) s = .next (became s (s.setRb (baseOf page + 0x00C) 2 true))) ∧
  (∀ (m : Master) (v : Word) (s : State), Reaches m Reg.SYS_COMPAT s → (∀ p < 16, s.pgEn (Reg.PRT p) = false) →
    exec (.b4modeWrite m v) s = .next (wrote Reg.SYS_COMPAT s (plainWrite Reg.SYS_COMPAT v s))) ∧
  (∀ (m : Master) (page : BAddr) (v : Word) (s : State) (p : PageRow) (inst : Nat), Arrives m (ctrlOf page) s →
    pageAt (ctrlOf page) = some (p, inst, 0x008) → p.kind = .clu → bit v 1 = true →
    (inst ≠ 63 ∨ m = .host ∨ m = .jtag → exec (.softReset m page v) s = .next (settle s (resetPage .clu inst s))) ∧
    (inst = 63 → m ≠ .host → m ≠ .jtag → exec (.softReset m page v) s = .next s))

/-- BDR commits. While EN is 1, a write of the _HI word of BDR_RATE, BDR_STEP or BDR_SLEW_AMT commits the words staged (R73, R83, R86),
and a slew abort commits while a slew is active or outstanding (R89); a capture keeps Bedrock and its served time of one cycle (R98); a conversion
keeps the value written and what it converts to, ready 40 ns later (R97); a new UTC offset is kept and raises UTC (R93). -/
def Obligations.BdrWritesTakeEffect : Prop :=
  (∀ (m : Master) (v : Word) (s : State), Reaches m (Reg.BDR_RATE + 4) s → s.pgEn Reg.BDR = true →
    exec (.rateCommit m v) s = .next (wrote (Reg.BDR_RATE + 4) s
      (let w := s.commitWords m Reg.BDR_RATE 2 (v &&& 0xFFF#32)
       bdrCommit m (.rate (BitVec.ofNat 44 w)) (s.dropStaged m Reg.BDR_RATE 2)))) ∧
  (∀ (m : Master) (v : Word) (s : State), Reaches m (Reg.BDR_STEP + 8) s →
    exec (.stepCommit m v) s = .next (wrote (Reg.BDR_STEP + 8) s
      (bdrCommit m (.step (BitVec.ofNat 96 (s.commitWords m Reg.BDR_STEP 3 v))) (s.dropStaged m Reg.BDR_STEP 3)))) ∧
  (∀ (m : Master) (v : Word) (s : State), Reaches m (Reg.BDR_SLEW_AMT + 4) s →
    exec (.slewCommit m v) s = .next (wrote (Reg.BDR_SLEW_AMT + 4) s
      (bdrCommit m (.slew (BitVec.ofNat 64 (s.commitWords m Reg.BDR_SLEW_AMT 2 v))) (s.dropStaged m Reg.BDR_SLEW_AMT 2)))) ∧
  (∀ (m : Master) (v : Word) (s : State), Reaches m Reg.BDR_CMD s → bit v 0 = true → bit v 1 = false →
    exec (.slewAbort m v) s = .next (wrote Reg.BDR_CMD s (if s.slewOutstanding then bdrCommit m .abort s else s))) ∧
  (∀ (m : Master) (v : Word) (s : State), Reaches m Reg.BDR_CMD s → bit v 1 = true → bit v 0 = false →
    exec (.bdrCapture m v) s =
      .next (wrote Reg.BDR_CMD s ((s.setRegN Reg.BDR_CAPBT s.bt.toNat 3).setRegN Reg.BDR_CAPWT s.now.toNat 3))) ∧
  (∀ (m : Master) (v : Word) (s : State), Reaches m (Reg.BDR_CVT_IN + 8) s →
    ∃ t, exec (.bdrConvert m v) s = .next (wrote (Reg.BDR_CVT_IN + 8) s t) ∧ t.bdr.cvtReady = s.bt + cyc 40) ∧
  (∀ (m : Master) (v : Word) (s : State), Reaches m Reg.BDR_UTC_OFS s → fld (v &&& 0x7FFFF#32) 16 2 ≠ 3 →
    v &&& 0x7FFFF#32 ≠ s.reg Reg.BDR_UTC_OFS → fld (v &&& 0x7FFFF#32) 0 16 ≠ fld (s.reg Reg.BDR_UTC_OFS) 0 16 →
    exec (.utcOfsWrite m v) s = .next (wrote Reg.BDR_UTC_OFS s (entEvalAll (raiseEvt Reg.BDR 3
      (let t := s.setReg Reg.BDR_UTC_OFS (v &&& 0x7FFFF#32)
       { t with bdr := { t.bdr with prevTai := some (s.now, bits (s.reg Reg.BDR_UTC_OFS) 0 16) } })))))

/-- What a commit does (R73, R78, R79, R82, R83): with EN 0 it is discarded; with FREEZE 1 it is held behind those of earlier cycles; with no
change pending it is placed at the anchor of this cycle, the first cycle boundary at least 4 cycles from now and later than the horizon, and
BDR_ANCH shows the anchor of a rate; with a change placed in this cycle it joins it; with one pending since an earlier cycle it becomes the
queued change, or part of it; and after a commit of the same register in this cycle by a writer later in the order it changes nothing. -/
def Obligations.BdrCommitIsPlaced : Prop :=
  ∀ (m : Master) (p : CommitPart) (s : State),
    (s.pgEn Reg.BDR = false → bdrCommit m p s = s) ∧
    (s.pgEn Reg.BDR = true → s.pgFrz Reg.BDR = true →
      (bdrCommit m p s).bdr.held = holdCommit { part := p, at_ := s.bt, rank := bdrRank m } s.bdr.held ∧
      (bdrCommit m p s).bdr.pend = s.bdr.pend ∧
      ((∀ h ∈ s.bdr.held, h.at_ ≠ s.bt) →
        (bdrCommit m p s).bdr.held = s.bdr.held ++ [{ part := p, at_ := s.bt, rank := bdrRank m }])) ∧
    (s.pgEn Reg.BDR = true → s.pgFrz Reg.BDR = false → AMap.get 0 s.thisCyc.rank p.index ≤ bdrRank m + 1 → s.bdr.pend = none →
      (bdrCommit m p s).bdr.pend = some (s.anchorNow, ChangeParts.of p) ∧ (bdrCommit m p s).bdr.queued = s.bdr.queued ∧
      (bdrCommit m p s).bdr.par = s.bdr.par) ∧
    (s.pgEn Reg.BDR = true → s.pgFrz Reg.BDR = false → AMap.get 0 s.thisCyc.rank p.index ≤ bdrRank m + 1 →
      (∃ a c, s.bdr.pend = some (a, c)) → s.bdr.pendCyc ≠ s.bt →
      (bdrCommit m p s).bdr.pend = s.bdr.pend ∧
      (bdrCommit m p s).bdr.queued = some ((s.bdr.queued.map (fun q => q.merge p)).getD (ChangeParts.of p))) ∧
    (∀ a c, s.pgEn Reg.BDR = true → s.pgFrz Reg.BDR = false → AMap.get 0 s.thisCyc.rank p.index ≤ bdrRank m + 1 →
      s.bdr.pend = some (a, c) → s.bdr.pendCyc = s.bt → s.bdr.queued = none →
      (bdrCommit m p s).bdr.pend = some (a, c.merge p) ∧ (bdrCommit m p s).bdr.queued = none) ∧
    (s.pgEn Reg.BDR = true → s.pgFrz Reg.BDR = false → bdrRank m + 1 < AMap.get 0 s.thisCyc.rank p.index → bdrCommit m p s = s)

/-- What time does to the BDR. A pending change whose anchor has come takes its parts, raising CHANGE, and a queued change is placed; a
slew ends once its duration has run, its amount moved into OFS and SLEW_END raised; the wrap of Bedrock, once its cycle has ended, adds 2^80 to OFS; a fault of the
parameter store is raised (R68, R71, R72, R77, R101). -/
def Obligations.BdrTimeTakesEffect : Prop :=
  (∀ (s : State) (a : BT80) (c : ChangeParts), Live Reg.BDR s → s.bdr.pend = some (a, c) → earlier s.bt a = false →
    s.bdr.par.slewAct = false → c.step = none → c.slew = none → s.bdr.par.apply a c (s.reg Reg.BDR_SLEW_DUR) ≠ s.bdr.par →
    exec .changeAnchor s = .next (became s (placeQueued (storeWrite .bdr 0 (raiseEvt Reg.BDR 0
      (let q := s.bdr.par.apply a c (s.reg Reg.BDR_SLEW_DUR)
       { s with bdr := { s.bdr with par := q, pend := none, hist := retain a q s.bdr.hist, parCom := s.bdr.pendCom } })))))) ∧
  (∀ (s : State), Live Reg.BDR s → s.bdr.par.slewDone s.bt = true →
    exec .slewEnd s = .next (became s (storeWrite .bdr 0 (raiseEvt Reg.BDR 1 { s with bdr := { s.bdr with par :=
      { s.bdr.par with ofs := s.bdr.par.ofs + s.bdr.par.amt.signExtend 96, slewAct := false } } })))) ∧
  (∀ (s : State), s.btRun = true → s.bt.toNat / 65536 + 1 = 2 ^ 64 →
    ∃ t, exec .bedrockWrap s = .next t ∧ t.bt = 0 ∧
      t.bdr.par.ofs = (endCycle s).bdr.par.ofs + BitVec.ofNat 96 (2 ^ 80)) ∧
  (∀ (s : State), Live Reg.BDR s → exec .bdrParamFault s = .next (became s (fault .bdr 0 0 s)))

/-- Arming. A write of a slot's CTL that passes the checks of R104 arms the slot with a copy of its due time and of its parameter entry;
one that fails them leaves it REFUSED with the reason, raises REFUSED and is counted; TYPE 0 empties a slot that is not taken and has no outcome; ACT_DISARM empties every
armed slot that is not taken (R102, R104, R108, R110, R114). -/
def Obligations.SlotsAreArmed : Prop :=
  (∀ (m : Master) (n : BitVec 12) (v : Word) (s : State), slotGate m true s = .go → s.slotGoing n.toNat = false →
    fld v 28 4 ≠ 0 → fld v 28 4 ≠ 5 → armRefusal (hoDrop n.toNat s) n.toNat (bits v 28 4) (bits v 21 2) = none →
    exec (.slotArm m n v) s = .next (became s
      (let a := hoDrop n.toNat s
       a.setActSlot n.toNat
         { typ := bits v 28 4, lateOk := bit v 23, cond := bits v 21 2, st := .armed,
           due := BitVec.ofNat 96 (a.regN (slotAddr n.toNat 0) 3), w0 := a.actParamW n.toNat 0, w1 := a.actParamW n.toNat 1,
           w2 := a.actParamW n.toNat 2, bad := a.inject Reg.ACT 0 }))) ∧
  (∀ (m : Master) (n : BitVec 12) (v : Word) (s : State) (r : BitVec 4), slotGate m true s = .go → s.slotGoing n.toNat = false →
    fld v 28 4 ≠ 0 → armRefusal (hoDrop n.toNat s) n.toNat (bits v 28 4) (bits v 21 2) = some r →
    exec (.slotArm m n v) s = .next (became s (raiseEvt Reg.ACT 3 (((hoDrop n.toNat s).setActSlot n.toNat
      { typ := bits v 28 4, lateOk := bit v 23, cond := bits v 21 2, st := .refused, reason := r }).count Reg.ACT_CNT_REFUSED)))) ∧
  (∀ (m : Master) (n : BitVec 12) (v : Word) (s : State), slotGate m true s = .go → s.slotGoing n.toNat = false →
    fld v 28 4 = 0 → (s.actSlot n.toNat).st ≠ .applied → (s.actSlot n.toNat).st ≠ .notApplied →
    exec (.slotClear m n v) s = .next (became s (hoDrop n.toNat (s.setActSlot n.toNat { lateOk := bit v 23, cond := bits v 21 2 })))) ∧
  (∀ (m : Master) (v : Word) (s : State), Reaches m Reg.ACT_DISARM s → bit v 0 = true →
    ∃ t, exec (.actDisarm m v) s = .next (wrote Reg.ACT_DISARM s t) ∧ ∀ n, t.actSlot n =
      if (s.actSlot n).st = .armed ∧ s.slotGoing n = false then
        { s.actSlot n with st := .empty, reason := 0, wasLate := false }
      else s.actSlot n)

/-- Taking and acting. An armed slot whose due time has come is taken and joins the initiation queue, its COND judged as the cycle ends; one
too late for LATE_OK 0 ends NOT_APPLIED at once, one whose COND is not met as it is judged; an uncorrectable copy is reported. The action at the
head of the queue is initiated, one in a cycle: a WRITE, PULSE, CAPTURE, EVENT or HANDOVER; the pulse ends after its width; and the result of an
action is the outcome of its slot (R111, R113, R114, R116, R117). -/
def Obligations.SlotsAreTaken : Prop :=
  (∀ (n : BitVec 12) (s : State), Live Reg.ACT s → (s.actSlot n.toNat).st = .armed → (s.actSlot n.toNat).taken = false →
    (s.actSlot n.toNat).bad = false → s.actTakes = true → earlier s.now (s.actSlot n.toNat).due = false →
    (s.now - (s.actSlot n.toNat).due).toNat ≤ s.rf Reg.ACT_LATE_TH 0 24 * 65536 →
    exec (.slotTake n) s = .next (became s
      (let a := showTaken n.toNat (s.setActSlot n.toNat { s.actSlot n.toNat with wasLate := false })
       let b := queueTaken n.toNat (a.setActSlot n.toNat { a.actSlot n.toNat with taken := true, result := none })
       { b with thisCyc := { b.thisCyc with judge := insNat b.thisCyc.judge n.toNat } }))) ∧
  (∀ (n : BitVec 12) (s : State), Live Reg.ACT s → (s.actSlot n.toNat).st ≠ .armed →
    exec (.slotStoreError n) s = .next (became s (fault .act 0 0 s))) ∧
  (∀ (n : BitVec 12) (s : State), Live Reg.ACT s → (s.actSlot n.toNat).st = .armed → (s.actSlot n.toNat).taken = false →
    exec (.slotStoreError n) s = .next (became s (takeBad n.toNat s))) ∧
  (∀ (s u : State) (n : Nat) (rest : List Nat), Live Reg.ACT s → judgeConds s = u → u.act.initQ = n :: rest → u.thisCyc.begun = false →
    (u.actSlot n).typ = 3 → exec .actionInitiate s = .next (became s (calCapture n (u.actSlot n)
      { u with act := { u.act with initQ := rest }, thisCyc := { u.thisCyc with begun := true } }))) ∧
  (∀ (s u : State) (n : Nat) (rest : List Nat), Live Reg.ACT s → judgeConds s = u → u.act.initQ = n :: rest → u.thisCyc.begun = false →
    (u.actSlot n).typ = 4 → exec .actionInitiate s = .next (became s (calEvent n (u.actSlot n)
      { u with act := { u.act with initQ := rest }, thisCyc := { u.thisCyc with begun := true } }))) ∧
  (∀ (s u : State) (n : Nat) (rest : List Nat), Live Reg.ACT s → judgeConds s = u → u.act.initQ = n :: rest → u.thisCyc.begun = false →
    (u.actSlot n).typ = 2 → u.gpioFunc (fld (u.actSlot n).w0 0 5) = 1 →
    ∃ t, exec .actionInitiate s = .next (became s t) ∧ t.lsp.gpioCal = setBit u.lsp.gpioCal (fld (u.actSlot n).w0 0 5) true) ∧
  (∀ (g : Fin 32) (s : State) (p : Pulse), s.alive = true → s.act.pulses = [p] → p.gpio = g.val → atOrAfter s.bt p.stop = true →
    p.counted = true →
    exec (.pulseWidthEnd g) s = .next (became s (setResult p.slot .completed (gpioShow s { s with
      lsp := { s.lsp with gpioCal := setBit s.lsp.gpioCal g.val false }, act := { s.act with pulses := [] } })))) ∧
  (∀ (n : BitVec 12) (s : State), Live Reg.ACT s → (s.actSlot n.toNat).taken = true →
    (s.actSlot n.toNat).result = some .completed →
    exec (.actionOutcome n) s = .next (became s (slotEnd n.toNat .applied 0 s))) ∧
  (∀ (n : BitVec 12) (s : State), Live Reg.ACT s → (s.actSlot n.toNat).st = .armed → (s.actSlot n.toNat).taken = false →
    (s.actSlot n.toNat).bad = false → s.actTakes = true → earlier s.now (s.actSlot n.toNat).due = false →
    s.rf Reg.ACT_LATE_TH 0 24 * 65536 < (s.now - (s.actSlot n.toNat).due).toNat → (s.actSlot n.toNat).lateOk = false →
    exec (.slotTake n) s = .next (became s (slotEnd n.toNat .notApplied 1 (hoDrop n.toNat (raiseEvt Reg.ACT 2
      ((showTaken n.toNat (s.setActSlot n.toNat { s.actSlot n.toNat with wasLate := true })).count Reg.ACT_CNT_LATE)))))) ∧
  (∀ (s : State) (n : Nat), s.thisCyc.judge = [n] → (s.actSlot n).taken = true → s.condOk (s.actSlot n).cond = false →
    judgeConds s = (let u := { s with thisCyc := { s.thisCyc with judge := [] } }
      slotEnd n .notApplied 2 (hoDrop n { u with act := { u.act with initQ := u.act.initQ.filter (fun k => decide (k ≠ n)) } }))) ∧
  (∀ (s u : State) (n : Nat) (rest : List Nat), Live Reg.ACT s → judgeConds s = u → u.act.initQ = n :: rest → u.thisCyc.begun = false →
    ((u.actSlot n).typ = 1 → exec .actionInitiate s = .next (became s (calWrite n (u.actSlot n)
      { u with act := { u.act with initQ := rest }, thisCyc := { u.thisCyc with begun := true } }))) ∧
    ((u.actSlot n).typ = 5 → exec .actionInitiate s = .next (became s (calHandover n
      { u with act := { u.act with initQ := rest }, thisCyc := { u.thisCyc with begun := true } })))) ∧
  (∀ (s u : State), Live Reg.ACT s → judgeConds s = u → u.act.initQ ≠ [] → u.thisCyc.begun = true →
    exec .actionInitiate s = .next (became s s))

/-- ASY_CMD. While EN is 1, a write that commits staged values, an UPDATE or a change of the time status becomes the pending change,
anchored as the BDR's are, or joins the queued one; it is held while FREEZE is 1 (R131, R132, R969). The five commands are writes of one
register. -/
def Obligations.AsyCommandsArePlaced : Prop :=
  ∀ (m : Master) (v : Word) (s : State), Reaches m Reg.ASY_CMD s →
    (s.pgEn Reg.ASY = true → s.pgFrz Reg.ASY = false → s.asy.pend = none → bit v 0 = true →
      exec (.asyCommit m v) s = .next (wrote Reg.ASY_CMD s { s with thisCyc := { s.thisCyc with asyNew := true }, asy := { s.asy with
        pend := some (s.anchorNow, { commit := some s.asy.staged, update := bit v 1, ts := fld v 4 3 }) } })) ∧
    (s.pgEn Reg.ASY = true → s.pgFrz Reg.ASY = false → s.asy.pend = none → bit v 0 = false → bit v 1 = true →
      exec (.asyUpdate m v) s = .next (wrote Reg.ASY_CMD s { s with thisCyc := { s.thisCyc with asyNew := true }, asy := { s.asy with
        pend := some (s.anchorNow, { commit := none, update := true, ts := fld v 4 3 }) } })) ∧
    (∀ c : Instr, (c = .setCoarse m v ∧ fld v 4 3 = 1) ∨ (c = .declareTraceable m v ∧ fld v 4 3 = 2) ∨
        (c = .declareUntraceable m v ∧ fld v 4 3 = 3) →
      s.pgEn Reg.ASY = true → s.pgFrz Reg.ASY = false → s.asy.pend = none → bit v 0 = false → bit v 1 = false →
      exec c s = .next (wrote Reg.ASY_CMD s { s with thisCyc := { s.thisCyc with asyNew := true }, asy := { s.asy with
        pend := some (s.anchorNow, { commit := none, update := false, ts := fld v 4 3 }) } })) ∧
    (s.pgEn Reg.ASY = false → exec (.asyCommit m v) s = .next (wrote Reg.ASY_CMD s s)) ∧
    (s.pgEn Reg.ASY = true → s.pgFrz Reg.ASY = true → bit v 0 = true →
      exec (.asyCommit m v) s = .next (wrote Reg.ASY_CMD s { s with asy := { s.asy with held := s.asy.held ++
        [{ commit := some s.asy.staged, update := bit v 1, ts := fld v 4 3 }] } })) ∧
    (s.pgEn Reg.ASY = true → s.pgFrz Reg.ASY = false → bit v 0 = true → ∀ (x : BT80 × AsyParts) (q : AsyParts), s.asy.pend = some x →
      s.asy.queued = some q → exec (.asyCommit m v) s = .next (wrote Reg.ASY_CMD s
        (let r := AsyParts.mk (some s.asy.staged) (q.update || bit v 1) (if fld v 4 3 = 0 then q.ts else fld v 4 3)
         { s with asy := { s.asy with queued := some r } })))

/-- What time does to the time status. A pending COMMIT takes its values at the anchor and raises COMMIT; TRACEABLE without an UPDATE
for longer than ASY_UPD_TO goes to HOLDOVER; a bound above ASY_HO_LIM, or HOLDOVER for longer than ASY_HO_MAX, falls to UNTRACEABLE;
a temperature sample is kept and the largest distance from the temperature of the last UPDATE with it; one second without a sample
holds that distance at its greatest value and raises the fault (R138 to R141, R147, R177). -/
def Obligations.AsyTimeTakesEffect : Prop :=
  (∀ (s : State) (a : BT80) (v : AMap Word), Live Reg.ASY s → s.asy.pend = some (a, { commit := some v }) → earlier s.bt a = false →
    v ≠ s.asy.cur.vals → s.bdr.pend = none → s.asy.queued = none →
    exec .asyChangeAnchor s = .next (became s (storeWrite .asy 0 (raiseEvt Reg.ASY 2
      (let n := asyNote s
       let t := { n with asy := { n.asy with pend := none, cur := { n.asy.cur with vals := v } },
                         thisCyc := { n.thisCyc with asyNew := false, asyCmd := some (a, { commit := some v }, n.asy.cur) } }
       let u := noteChange 3 t
       { u with asy := { u.asy with hist := retainSet a u.asy.cur u.asy.hist } }))))) ∧
  (∀ (s : State) (lu : BT80), Live Reg.ASY s → s.tsFrom = .traceable → s.asy.cur.lu = some lu →
    s.elapsedMore lu (s.rf Reg.ASY_UPD_TO 0 16 * 1000000) = true →
    exec .updateTimeout s = .next (became s (asyHwMove .holdover s))) ∧
  (∀ (s : State), Live Reg.ASY s → s.tsFrom.inService = true → s.asy.ts.inService = true →
    (s.reg Reg.ASY_HO_LIM).toNat < s.eNow.e → exec .holdoverLimitExceeded s = .next (became s (asyFall s))) ∧
  (∀ (s : State) (lu : BT80), Live Reg.ASY s → s.tsFrom = .holdover → s.asy.cur.lu = some lu →
    (s.reg Reg.ASY_HO_MAX).toNat * 1000000000 < holdDt lu s.bt → exec .holdoverMaxExpire s = .next (became s (asyFall s))) ∧
  (∀ (s : State) (t : BitVec 16), Live Reg.ASY s → s.rf Reg.ASY_HO_TSRC 0 2 ≠ 0 → s.asy.cur.lu = none →
    exec (.tempSample (some t)) s = .next (became s (histTemp t.toInt
      ((State.setReg { s with asy := { s.asy with lastTemp := s.bt, dtmax := s.asy.dtmax } } Reg.ASY_TEMP (t.setWidth 32)))))) ∧
  (∀ (s : State), Live Reg.ASY s → s.elapsed s.asy.lastTemp 1000000000 = true → s.asy.dtHeld = false →
    exec .tempLost s = .next (became s (fault .asy 0 3 (forN 8 (fun l a => a.setDpl l { a.dplS l with hLost := true })
      { s with asy := { s.asy with dtmax := 0x7FFF, dtHeld := true } })))) ∧
  (∀ (s : State), Live Reg.ASY s → exec .asyStoreFault s = .next (became s (fault .asy 0 0 s))) ∧
  (∀ (s : State) (h : TimeStatus) (t : TimeStatus), s.thisCyc.asyCmd = none → s.thisCyc.asyHw = some h → s.thisCyc.asyBase.isSome = true →
    t.rank ≤ h.rank → asyHwMove t s = s) ∧
  (∀ (s : State) (t : TimeStatus), s.thisCyc.asyCmd = none → s.thisCyc.asyHw = none → s.thisCyc.asyBase.isSome = true →
    s.asy.cycTs = none → t ≠ s.asy.ts → ∃ u, asyHwMove t s = changeRecord 1 0 (raiseEvt Reg.ASY 0 u) ∧ u.asy.ts = t)

/-- The bound and the time records. A read of ASY_E_LO gives the low word of E at this cycle and keeps the rest for the reader; while
ASY_REC_CTRL.EN is 1 a record is taken at a whole second not recorded before; a record signed is copied out in its place; an entry
unsigned for 10 ms raises the fault; EN going to 1 starts the records (R158, R163, R165, R971). -/
def Obligations.AsyRecordsAreKept : Prop :=
  (∀ (m : Master) (s : State), Reads m Reg.ASY_E s →
    ∃ t, exec (.asyERead m) s = .next (State.emit t (.readData m Reg.ASY_E (BitVec.ofNat 32 s.eNow.e)))) ∧
  (∀ (s : State), Live Reg.ASY s → s.rb Reg.ASY_REC_CTRL 0 = true → s.asy.lastSec = none →
    exec .recordPeriodic s = .next (became s (takeRecord (if s.asy.startPend then 4 else 0)
      { s with asy := { s.asy with lastSec := some (wholeSec s.now), startPend := false } }))) ∧
  (∀ (m : Master) (v : Word) (s : State) (e : StgEntry), Reaches m Reg.ASY_STG_DONE s →
    s.asy.stage.getD (fld v 0 4) none = some e →
    exec (.recordSigned m v) s = .next (wrote Reg.ASY_STG_DONE s
      (drainSigned 16 (s.setStage (setNth s.asy.stage (fld v 0 4) (some { e with signed := true })))))) ∧
  (∀ (s : State) (k : Nat) (e : StgEntry), Live Reg.ASY s → s.asy.stage.getD k none = some e → e.signed = false →
    s.elapsed e.since 10000000 = true → exec .recordStall s = .next (became s (fault .asy 0 1 s))) ∧
  (∀ (m : Master) (v : Word) (s : State), Reaches m Reg.ASY_REC_CTRL s → s.rb Reg.ASY_REC_CTRL 0 = true →
    (plainWrite Reg.ASY_REC_CTRL v s).rb Reg.ASY_REC_CTRL 0 = false →
    exec (.recordEnableWrite m v) s = .next (wrote Reg.ASY_REC_CTRL s
      ((plainWrite Reg.ASY_REC_CTRL v s).setStage (List.replicate 16 none))))

/-- The monitors of a reference entry. An activity window without an edge, a gate whose frequency is off by more than FLIM, and a message
that does not come in its time each set the entry's monitor and have it judged; an entry whose qualification time has run becomes
QUALIFIED; a write of its configuration is judged in the same cycle (R183, R184, R186). -/
def Obligations.RefMonitorsJudge : Prop :=
  (∀ (n : Fin 48) (s : State), Acts Reg.REF s → s.entEn n = true → (s.ent n).actFail = false → s.laneClock n = false →
    s.actWindow n ≤ cycSince s.bt (s.ent n).lastAct →
    exec (.activityTimeout n) s = .next (became s (entEval n (s.setEnt n { s.ent n with actFail := true })))) ∧
  (∀ (n : Fin 48) (s : State) (k1 k2 : Nat) (b1 b2 : BT80), Acts Reg.REF s → s.entEn n = true →
    (s.ent n).gateLen ≤ cycSince s.bt (s.ent n).gateAt → (s.ent n).gate1 = some (k1, b1) → (s.ent n).gate2 = some (k2, b2) → k1 ≠ k2 →
    exec (.frequencyGateEnd n) s = .next (became s (entEval n
      ((s.setReg (Reg.REF_ENT_FOFS n) (BitVec.ofInt 32 (fofsOf (s.entNom n) k1 b1 k2 b2))).setEnt n
        { s.ent n with gateAt := (s.ent n).gateAt + cyc (s.ent n).gateLen,
                       gateLen := max ([10000000, 100000000, 1000000000, 10000000000, 100000000000].getD (s.rf (Reg.REF_ENT_MON n) 8 3)
                         1000000000) (cdiv 4000000000 (s.entNom n)),
                       gate1 := none, gate2 := none, gated := true,
                       freqFail := s.rb (Reg.REF_ENT_CFG n) 5 && decide (s.rf (Reg.REF_ENT_FLIM n) 0 20 < (fofsOf (s.entNom n) k1 b1 k2 b2).natAbs) })))) ∧
  (∀ (n : Fin 48) (s : State), Acts Reg.REF s → s.entEn n = true → (s.ent n).stale = false → n.val < 44 →
    s.msgTo n ≤ cycSince s.bt (s.ent n).msgAt →
    exec (.messageTimeout n) s = .next (became s (entEval n (s.setEnt n { s.ent n with stale := true })))) ∧
  (∀ (n : Fin 48) (s : State) (b : BT80), Acts Reg.REF s → (s.ent n).due = some b → atOrAfter s.bt b = true →
    s.entSt n = .qualifying →
    exec (.qualificationTimerExpire n) s = .next (became s (entFollow n (entMove n .qualified .none s)))) ∧
  (∀ (m : Master) (n : Fin 48) (v : Word) (s : State), Reaches m (Reg.REF_ENT_CFG n) s →
    exec (.entryCfgWrite m n v) s = .next (wrote (Reg.REF_ENT_CFG n) s (wrEntCfg n (s.merged (Reg.REF_ENT_CFG n) v) s))) ∧
  (∀ s : State, Live Reg.REF s → exec .refTableFault s = .next (became s (fault .ref 0 0 s))) ∧
  (∀ (n : Fin 48) (s : State), Acts Reg.REF s → s.laneClock n = true → exec (.activityTimeout n) s = .next (became s s))

/-- The messages of a reference. The write of REF_QP_HI delivers the Announce its three words spell; a time-of-day frame on a bound UART
that its check refuses is discarded and counted, one that is whole and has no pulse to wait for is applied to its entry; a frame not
complete 10 ms after its sync, and a message whose pulse has not come in 990 ms, are discarded (R195 to R197, R213, R978). -/
def Obligations.RefMessagesAreTaken : Prop :=
  (∀ (m : Master) (v : Word) (s : State), Reaches m (Reg.REF_QP + 8) s → s.pgEn Reg.REF = true →
    exec (.announceDelivery m v) s = .next (wrote (Reg.REF_QP + 8) s (
      let w := s.commitWords m Reg.REF_QP 3 v
      refAnnounce (BitVec.ofNat 32 w) (BitVec.ofNat 32 (w / 2 ^ 32)) v ((s.setRegN Reg.REF_QP w 3).dropStaged m Reg.REF_QP 3)))) ∧
  (∀ (u : Fin 4) (b : Byte) (s : State), Live Reg.REF s → s.todBound u = true → s.rf (Reg.REF_TOD_CFG u) 5 2 = 0 →
    (s.tod u).buf.length = 23 → todParse ((s.tod u).buf.map (·.1) ++ [b]) = none →
    exec (.todBinaryFrame u [b]) s = .next (became s (todDiscard u false
      (s.setTod u { s.tod u with buf := todRehunt ((s.tod u).buf ++ [(b, s.bt)]) })))) ∧
  (∀ (u : Fin 4) (f : List Byte) (s : State) (x : TodMsg), Live Reg.REF s → s.todBound u = true → s.rf (Reg.REF_TOD_CFG u) 5 2 = 0 →
    (s.tod u).buf = [] → f.take 2 = [0xB5#8, 0x12#8] → todParse f = some x → s.rb (Reg.REF_TOD_CFG u) 7 = false →
    exec (.todBinaryFrame u f) s = .next (became s (s.setTod u { s.tod u with waiting := (s.tod u).waiting ++ [(x, s.bt)] }))) ∧
  (∀ (u : Fin 4) (s : State), Acts Reg.REF s → s.rf (Reg.REF_TOD_CFG u) 5 2 = 0 → 2 ≤ (s.tod u).buf.length →
    10000000 < cycSince s.bt (s.tod u).syncAt →
    exec (.todFrameTimeout u) s = .next (became s (todDiscard u false (s.setTod u
      { s.tod u with buf := todRehunt (s.tod u).buf })))) ∧
  (∀ (u : Fin 4) (l : List Byte) (s : State), Live Reg.REF s → s.todBound u = true → s.rf (Reg.REF_TOD_CFG u) 5 2 ≠ 0 →
    nmeaFields (l.filter (fun b => b ≠ 13#8 ∧ b ≠ 10#8)) = none →
    exec (.todNmeaSentence u l) s = .next (became s (todDiscard u false s))) ∧
  (∀ (u : Fin 4) (l : List Byte) (s : State) (ff : List (List Byte)), Live Reg.REF s → s.todBound u = true →
    s.rf (Reg.REF_TOD_CFG u) 5 2 ≠ 0 → nmeaFields (l.filter (fun b => b ≠ 13#8 ∧ b ≠ 10#8)) = some ff →
    (ff.headD []).drop 2 = [82#8, 77#8, 67#8] →
    exec (.todNmeaSentence u l) s = .next (became s (s.setTod u { s.tod u with rmc := some (decide (ff.getD 2 [] = [65#8]), s.bt) }))) ∧
  (∀ (u : Fin 4) (s : State) (x : TodMsg) (b : BT80), Acts Reg.REF s → (s.tod u).waiting = [(x, b)] →
    990000000 * 65536 ≤ (s.bt - b).toNat →
    exec (.todWindowExpire u) s = .next (became s (todDiscard u true (s.setTod u { s.tod u with waiting := [] }))))

/-- Selection. A manual selection of an entry a loop may take sets it as the loop's entry and raises the event; one that is not allowed
is refused with its code; VALID 0 lets the loop go; a priority word takes effect in the next cycle; in the cycle after its entry failed
a loop spends that entry and falls back to the first usable entry of its list, and a scanning loop takes one that has become usable
(R201 to R206, R210). -/
def Obligations.RefSelects : Prop :=
  (∀ (m : Master) (l : Fin 8) (v : Word) (s : State), Reaches m (Reg.REF_LOOP_SEL l) s → bit v 8 = true →
    AMap.get none s.ref.fbDue l = none → (s.setReg (Reg.REF_LOOP_SEL l) (v &&& 0x13F#32)).selRej (fld v 0 6) = none →
    exec (.refSelect m l v) s = .next (wrote (Reg.REF_LOOP_SEL l) s (raiseEvt Reg.REF 2
      (setCur l (fld v 0 6) true .manual 0 ((s.setReg (Reg.REF_LOOP_SEL l) (v &&& 0x13F#32)).clearFb l))))) ∧
  (∀ (m : Master) (l : Fin 8) (v : Word) (s : State) (r : SelRej), Reaches m (Reg.REF_LOOP_SEL l) s → bit v 8 = true →
    AMap.get none s.ref.fbDue l = none → (s.setReg (Reg.REF_LOOP_SEL l) (v &&& 0x13F#32)).selRej (fld v 0 6) = some r →
    exec (.refSelect m l v) s = .next (wrote (Reg.REF_LOOP_SEL l) s (raiseEvt Reg.REF 3
      (((s.setReg (Reg.REF_LOOP_SEL l) (v &&& 0x13F#32)).setRf (Reg.REF_LOOP_CUR l) 12 4 r.code).count Reg.REF_CNT_SELREJ)))) ∧
  (∀ (m : Master) (l : Fin 8) (v : Word) (s : State), Reaches m (Reg.REF_LOOP_SEL l) s → bit v 8 = false →
    AMap.get none s.ref.fbDue l = none →
    exec (.deselect m l v) s = .next (wrote (Reg.REF_LOOP_SEL l) s
      (setCur l 0 false .none 0 ((s.setReg (Reg.REF_LOOP_SEL l) (v &&& 0x13F#32)).clearFb l)))) ∧
  (∀ (m : Master) (l : Fin 8) (b : Bool) (v : Word) (s : State), Reaches m (prioAddr l b) s → s.pgLock Reg.REF = false →
    exec (.prioWrite m l b v) s = .next (wrote (prioAddr l b) s { s with ref := { s.ref with
      prioStage := AMap.set none s.ref.prioStage (prioAddr l b) (some (s.merged (prioAddr l b) v)) } })) ∧
  (∀ (l : Fin 8) (s : State) (e : Nat) (b : BT80), Acts Reg.REF s → AMap.get none s.ref.fbDue l = some (e, b) →
    s.nextScal b = true → (s.clearFb l).curValid l = true → (s.clearFb l).curEntry l = e →
    exec (.fallback l) s = .next (became s (raiseEvt Reg.REF 1
      ((Machine.fallback l ((s.clearFb l).setRf (Reg.REF_LOOP_CUR l) 24 8 ((List.range 8).foldl (fun a i =>
        if (s.clearFb l).prio l i % 64 = e ∧ 128 ≤ (s.clearFb l).prio l i ∧ a / 2 ^ i % 2 = 0 then a + 2 ^ i else a)
        ((s.clearFb l).rf (Reg.REF_LOOP_CUR l) 24 8)))).count Reg.REF_CNT_FALLBACK)))) ∧
  (∀ (l : Fin 8) (s : State) (b : BT80) (i : Nat), Acts Reg.REF s → AMap.get none s.ref.rescan l = some b → s.nextScal b = true →
    (let t := { s with ref := { s.ref with rescan := AMap.set none s.ref.rescan l none } }
     t.scans l = true ∧ t.pickPrio l (t.rf (Reg.REF_LOOP_CUR l) 24 8) = some i) →
    (let t := { s with ref := { s.ref with rescan := AMap.set none s.ref.rescan l none } }
     exec (.fallbackRescan l) s = .next (became s (setCur l (t.prio l i % 64) true .fallback (t.rf (Reg.REF_LOOP_CUR l) 24 8) t))))

/-- Loop units. A measurement of the loop's entry updates a loop that acquires or is locked and is only noted by one that runs free or
holds; one of another entry is discarded and counted; a holding loop reports at a report instant; FORCE_HO, RELEASE and RESEED act by the
state they find; a history sample is taken when its interval ends; a fault of the state store is raised (R223, R225, R237 to R239, R249,
R262, R270). -/
def Obligations.LoopsAct : Prop :=
  (∀ (l : Fin 8) (n : Fin 48) (b : BT80) (x : WT96) (e : Word) (s r t : State) (v : Int), Acts (Reg.DPL l) s →
    (if s.pageLive Reg.REF then refDelivery n b e.toNat s else s) = r → r.pgEn (Reg.DPL l) = true → r.curValid l = true →
    r.curEntry l = n.val → r.setDpl l { r.dplS l with edges := (r.dplS l).edges + e.toNat } = t →
    t.dplSt l = .locked ∨ t.dplSt l = .acquire → t.measX l n (some x) = some v →
    exec (.loopMeasurement l n b x e) s = .next (became s (dplUpdate l b n v t))) ∧
  (∀ (l : Fin 8) (n : Fin 48) (b : BT80) (x : WT96) (e : Word) (s r : State), Acts (Reg.DPL l) s →
    (if s.pageLive Reg.REF then refDelivery n b e.toNat s else s) = r → r.pgEn (Reg.DPL l) = true → r.curEntry l ≠ n.val →
    exec (.loopMeasurement l n b x e) s = .next (became s (r.count (Reg.DPL_CNT_DISC l)))) ∧
  (∀ (l : Fin 8) (s : State), Acts (Reg.DPL l) s → s.dplSt l = .holdover → s.pgEn (Reg.DPL l) = true →
    s.rptDue l = true →
    exec (.reportInstant l) s = .next (became s
      (let t := s.dplTime l s.bt
       let a := s.setDpl l { s.dplS l with p := (s.dplAt l t).1, y := (s.dplAt l t).2, bprev := t }
       dplReport l s.bt (a.dplS l).p (a.dplS l).y a))) ∧
  (∀ (m : Master) (l : Fin 8) (v : Word) (s : State), Reaches m (Reg.DPL_CMD l) s → bit v 0 = true → bit v 1 = false →
    bit v 2 = false → s.hoValid l = true → s.dplSt l = .locked →
    exec (.forceHo m l v) s = .next (wrote (Reg.DPL_CMD l) s
      (let t := setDplSt l .holdover s
       t.setDpl l { t.dplS l with forced := true }))) ∧
  (∀ (m : Master) (l : Fin 8) (v : Word) (s : State), Reaches m (Reg.DPL_CMD l) s → bit v 0 = true → bit v 1 = false →
    bit v 2 = false → s.hoValid l = false →
    exec (.forceHo m l v) s = .next (wrote (Reg.DPL_CMD l) s (s.setRf (Reg.DPL_STAT l) 24 4 1))) ∧
  (∀ (m : Master) (l : Fin 8) (v : Word) (s : State), Reaches m (Reg.DPL_CMD l) s → bit v 1 = true → bit v 0 = false →
    bit v 2 = false → (s.dplS l).forced = true → s.dplSt l = .holdover →
    exec (.release m l v) s = .next (wrote (Reg.DPL_CMD l) s (dplEval l (s.setDpl l { s.dplS l with forced := false })))) ∧
  (∀ (m : Master) (l : Fin 8) (v : Word) (s : State), Reaches m (Reg.DPL_CMD l) s → bit v 1 = true → bit v 0 = false →
    bit v 2 = false → (s.dplS l).forced = false →
    exec (.release m l v) s = .next (wrote (Reg.DPL_CMD l) s (s.setRf (Reg.DPL_STAT l) 24 4 2))) ∧
  (∀ (m : Master) (l : Fin 8) (v : Word) (s : State), Reaches m (Reg.DPL_CMD l) s → bit v 2 = true → bit v 0 = false →
    bit v 1 = false → s.dplSt l ≠ .freerun →
    exec (.reseed m l v) s = .next (wrote (Reg.DPL_CMD l) s
      (let a := Reg.DPL_STAT l
       let t := (((s.setDpl l { s.dplS l with reseed := true, forced := false, build := 0 }).setRb a 2 false).setRb a 3 false).setRb a 7
         false
       dplEval l (setDplSt l (if t.curValid l then .acquire else .freerun) t)))) ∧
  (∀ (l : Fin 8) (s : State), Acts (Reg.DPL l) s → s.rb (Reg.DPL_HIST_CFG l) 8 = true → (s.dplS l).hIdx < s.histNo l →
    exec (.historySample l) s = .next (became s (raiseEvt (Reg.DPL l) 3 (histBegin l (State.nextFree
      ((s.sramWr (s.rf (Reg.DPL_HIST_BASE l) 12 13 * 4096 + 64 * ((s.reg (Reg.DPL_HIST_WR l)).toNat % 2 ^ s.rf (Reg.DPL_HIST_BASE l) 0 4))
          (histBody l s ++ bytesBE 4 (crc32c (histBody l s)).toNat)).setReg (Reg.DPL_HIST_WR l) (BitVec.ofNat 32
        (((s.reg (Reg.DPL_HIST_WR l)).toNat % 2 ^ s.rf (Reg.DPL_HIST_BASE l) 0 4 + 1) % 2 ^ s.rf (Reg.DPL_HIST_BASE l) 0 4)))))))) ∧
  (∀ (l : Fin 8) (s : State), Live (Reg.DPL l) s → exec (.dplStatePar l) s = .next (became s (fault .dpl l 0 s))) ∧
  (∀ (m : Master) (l : Fin 8) (v : Word) (s : State), Reaches m (Reg.DPL_CMD l) s → bit v 2 = true → s.dplSt l ≠ .freerun →
    exec (.forceHo m l v) s = exec (.reseed m l v) s ∧ exec (.release m l v) s = exec (.reseed m l v) s) ∧
  (∀ (m : Master) (l : Fin 8) (v : Word) (s : State), Reaches m (Reg.DPL_CMD l) s → bit v 2 = false → bit v 0 = true →
    s.hoValid l = true → s.dplSt l = .acquire →
    exec (.forceHo m l v) s = .next (wrote (Reg.DPL_CMD l) s
      (let t := setDplSt l .holdover s
       t.setDpl l { t.dplS l with forced := true }))) ∧
  (∀ (l : Fin 8) (n : Fin 48) (b : BT80) (x : WT96) (e : Word) (s r t : State), Acts (Reg.DPL l) s →
    (if s.pageLive Reg.REF then refDelivery n b e.toNat s else s) = r → r.pgEn (Reg.DPL l) = true → r.curValid l = true →
    r.curEntry l = n.val → r.setDpl l { r.dplS l with edges := (r.dplS l).edges + e.toNat } = t →
    t.dplSt l = .freerun ∨ t.dplSt l = .holdover → exec (.loopMeasurement l n b x e) s = .next (became s t))

/-- Synthesisers. LOCK takes the configuration and tries the band its table gives, or is refused with a code; STOP goes to IDLE; BMEAS
measures a band in IDLE and its end gives the two bounds; a lock attempt ends LOCKED, or after 2 ms LOST with the fault; a lost lock is
counted and raised, and every 2 ms tried again; a slew steps every 10 µs (R274, R276 to R280, R283). -/
def Obligations.SynthesisersAct : Prop :=
  (∀ (m : Master) (n : Fin 4) (v : Word) (s : State) (b : Nat), Reaches m (Reg.SYN_CMD n) s → s.pgEn (Reg.SYN n) = true →
    bit v 0 = true → bit v 1 = false → bit v 2 = false → s.synSt n = .idle → 16 ≤ s.regN (Reg.SYN_NUM n) 2 / 2 ^ 48 →
    s.pickBand n (s.reg (Reg.SYN_CFG n)) (s.regN (Reg.SYN_NUM n) 2) (s.bandTable n) = some b →
    exec (.synLock m n v) s = .next (wrote (Reg.SYN_CMD n) s (setSyn n .locking ((synReject n 0 (s.setSynS n
      { s.synS n with cfg := s.reg (Reg.SYN_CFG n), num := s.regN (Reg.SYN_NUM n) 2, bands := s.bandTable n, trying := false })).setRf
        (Reg.SYN_STAT n) 8 6 b)))) ∧
  (∀ (m : Master) (n : Fin 4) (v : Word) (s : State), Reaches m (Reg.SYN_CMD n) s → s.pgEn (Reg.SYN n) = true →
    bit v 0 = true → bit v 1 = false → bit v 2 = false → s.regN (Reg.SYN_NUM n) 2 / 2 ^ 48 < 16 →
    exec (.synLock m n v) s = .next (wrote (Reg.SYN_CMD n) s (s.setRf (Reg.SYN_STAT n) 24 4 3))) ∧
  (∀ (m : Master) (n : Fin 4) (v : Word) (s : State), Reaches m (Reg.SYN_CMD n) s → s.pgEn (Reg.SYN n) = true →
    bit v 0 = false → bit v 1 = true → bit v 2 = false →
    exec (.synStop m n v) s = .next (wrote (Reg.SYN_CMD n) s (setSyn n .idle s))) ∧
  (∀ (m : Master) (n : Fin 4) (v : Word) (s : State), Reaches m (Reg.SYN_CMD n) s → s.pgEn (Reg.SYN n) = true →
    bit v 0 = false → bit v 1 = false → bit v 2 = true → s.synSt n = .idle →
    exec (.bmeas m n v) s = .next (wrote (Reg.SYN_CMD n) s
      (setSyn n .measure ((s.setSynS n { s.synS n with mband := fld v 8 6 }).setRf (Reg.SYN_STAT n) 24 4 0)))) ∧
  (∀ (n : Fin 4) (lo hi : BitVec 24) (s : State), Acts (Reg.SYN n) s → s.synSt n = .measure →
    exec (.bmeasDone n lo hi) s = .next (became s (raiseEvt (Reg.SYN n) 1 (setSyn n .idle
      (s.setReg (Reg.SYN_BMEAS n) (BitVec.ofNat 32 (cdiv lo.toNat 25 % 2 ^ 16 + hi.toNat / 25 % 2 ^ 16 * 65536))))))) ∧
  (∀ (n : Fin 4) (s : State), Live (Reg.SYN n) s → s.synSt n = .locking →
    exec (.synLockAchieved n) s = .next (became s (synLocked n s))) ∧
  (∀ (n : Fin 4) (s : State), Acts (Reg.SYN n) s → s.synSt n = .locking → s.elapsed (s.synS n).since 2000000 = true →
    exec (.synLockTimeout n) s = .next (became s (synLost n s))) ∧
  (∀ (n : Fin 4) (s : State), Live (Reg.SYN n) s → s.synSt n = .locked →
    exec (.synLol n) s = .next (became s (fault .syn n 0
      ((setSyn n .lost (s.setSynS n { s.synS n with trying := false })).count (Reg.SYN_CNT_LOL n))))) ∧
  (∀ (n : Fin 4) (s : State) (b : Nat), Acts (Reg.SYN n) s → s.synSt n = .lost → s.elapsed (s.synS n).since 2000000 = true →
    (let t := s.setSynS n { s.synS n with since := s.bt }
     t.pickBand n (t.synS n).cfg (t.synS n).num (t.synS n).bands = some b →
     exec (.synRelockAttempt n) s = .next (became s ((t.setSynS n { t.synS n with trying := true }).setRf (Reg.SYN_STAT n) 8 6 b)))) ∧
  (∀ (n : Fin 4) (s : State), Acts (Reg.SYN n) s → s.rb (Reg.SYN_STAT n) 16 = true → s.elapsed (s.synS n).slewAt 10000 = true →
    exec (.synSlewStep n) s = .next (became s (synSlewStep n s))) ∧
  (∀ (m : Master) (n : Fin 4) (v : Word) (s : State), Reaches m (Reg.SYN_CMD n) s → s.pgEn (Reg.SYN n) = true →
    bit v 0 = true → bit v 1 = false → bit v 2 = false → 16 ≤ s.regN (Reg.SYN_NUM n) 2 / 2 ^ 48 →
    s.pickBand n (s.reg (Reg.SYN_CFG n)) (s.regN (Reg.SYN_NUM n) 2) (s.bandTable n) = none →
    exec (.synLock m n v) s = .next (wrote (Reg.SYN_CMD n) s (s.setRf (Reg.SYN_STAT n) 24 4 1)))

/-- Clock and pulse outputs. OUT_CMD disables the running outputs of its mask until they restart on one edge, which raises SYNC_DONE; a
pulse output drives its leading edge at its target and its trailing edge a width later; setting EN arms an alignment and clearing it
stops the output; the switch of an alignment raises ALIGNED (R298, R300, R305 to R308, R317). -/
def Obligations.OutputsAct : Prop :=
  (∀ (m : Master) (v : Word) (s : State), Reaches m Reg.OUT_CMD s →
    (let k := (List.range 12).foldl (fun a n => if bit v n && s.outRun n then a + 2 ^ n else a) 0
     k ≠ 0 → exec (.outputSync m v) s = .next (wrote Reg.OUT_CMD s
       (outsUpdate { s with outs := { s.outs with sync := s.outs.sync ||| k } })))) ∧
  (∀ (m : Master) (v : Word) (s : State), Reaches m Reg.OUT_CMD s → s.outs.sync = 0 → (∀ n, s.outRun n = false) → fld v 0 12 ≠ 0 →
    exec (.outputSync m v) s = .next (wrote Reg.OUT_CMD s (raiseEvt Reg.OUT 3 s))) ∧
  (∀ (s : State), Acts Reg.OUT s → s.outs.sync ≠ 0 → s.syncReady = true →
    exec .syncDone s = .next (became s (raiseEvt Reg.OUT 3
      (let al := (List.range 12).foldl (fun m n => if s.outs.sync / 2 ^ n % 2 = 1 then AMap.set 0 m n s.bt else m) s.outs.align
       outsUpdate (forN 12 (fun n a => if s.outs.sync / 2 ^ n % 2 = 1 then outRestart n a else a)
        { s with outs := { s.outs with sync := 0, align := al } }))))) ∧
  (∀ (s : State), Live Reg.OUT s → exec .outCfgPar s = .next (became s (fault .out 0 0 s))) ∧
  (∀ (n : Fin 4) (s : State) (t : WT96) (b : BT80), Acts Reg.PPS s → s.ppsRun n = true → (s.ppsS n).target = some t →
    (s.ppsS n).active = false → s.ppsDue n t = some b →
    (let u := (ppsDrive n true b s).setPps n { s.ppsS n with active := true, last := some t, width := s.ppsW n }
     u.outs ≠ s.outs → exec (.ppsEdge n) s = .next (became s (storeWrite .pps 0 u)))) ∧
  (∀ (m : Master) (v : Word) (s : State), Reaches m Reg.PPS_CMD s →
    exec (.ppsAlign m v) s = .next (wrote Reg.PPS_CMD s (forN 4 (fun n a => if bit v n then ppsArm n a else a) s))) ∧
  (∀ (m : Master) (n : Fin 4) (v : Word) (s : State), Reaches m (Reg.PPS_CFG n) s →
    (let t := ppsHeld n (plainWrite (Reg.PPS_CFG n) v s)
     t.rb (Reg.PPS_CFG n) 4 = bit (s.reg (Reg.PPS_CFG n)) 4 → t.rb (Reg.PPS_CFG n) 0 = true →
     bit (s.reg (Reg.PPS_CFG n)) 0 = false → exec (.ppsCfgWrite m n v) s = .next (wrote (Reg.PPS_CFG n) s (ppsArm n t)))) ∧
  (∀ (n : Fin 4) (s : State), Acts Reg.PPS s → s.ppsMaySwitch n = true →
    exec (.aligned n) s = .next (became s (storeWrite .pps 0 (ppsSwitch n s)))) ∧
  (∀ (m : Master) (v : Word) (s : State), Reaches m Reg.OUT_CMD s → fld v 0 12 = 0 → s.outs.sync = 0 →
    exec (.outputSync m v) s = .next (wrote Reg.OUT_CMD s s))

/-- The sample interface and acquisition. Training starts with TRAIN, drives the framing pin and ends with the lanes found ALIGNED; a lane
whose phase moves loses its alignment; a stuck word raises the fault; an antenna fault switches the supply off once after 1 ms; the
engine takes the software's request, answers at once one it cannot search, and its end hands a detected signal to the channel that
waits for it (R329, R332, R333, R337, R339, R341 to R345, R349). -/
def Obligations.GnssAcquires : Prop :=
  (∀ (m : Master) (v : Word) (s : State), Reaches m Reg.GNS_SIF_CMD s → bit v 0 = true → s.rb Reg.GNS_SIF_STAT 24 = false →
    (let t := forN 8 (fun n a => if s.laneEn / 2 ^ n % 2 = 1 then laneDrop n (a.setRb Reg.GNS_SIF_STAT (16 + n) false) else a) s
     exec (.gnsTrain m v) s = .next (wrote Reg.GNS_SIF_CMD s
       ((State.setRb { t with gns := { t.gns with trainAt := some s.bt } } Reg.GNS_SIF_STAT 24 true).emit (.pin "GNSS_FRM" true))))) ∧
  (∀ (f : Byte) (s : State), Acts Reg.GNS s → s.rb Reg.GNS_SIF_STAT 24 = true → s.trainOver = true →
    ∃ t, exec (.trainDone f) s = .next (became s (raiseEvt Reg.GNS 1 ((State.setRb t Reg.GNS_SIF_STAT 24 false).emit (.pin "GNSS_FRM" false)))) ∧
      t.gns.trainAt = none) ∧
  (∀ (n : Fin 8) (s : State), Live Reg.GNS s → s.laneAligned n = true →
    exec (.gnsSif n) s = .next (became s (raiseEvt Reg.GNS 0 (laneDrop n s)))) ∧
  (∀ (n : Fin 8) (s : State), Live Reg.GNS s → s.laneAligned n = true → s.rb Reg.GNS_SIF_STAT (8 + n) = false →
    exec (.laneStuck n true) s = .next (became s (fault .gns 0 0 (s.setRb Reg.GNS_SIF_STAT (8 + n) true)))) ∧
  (∀ (n : Fin 8) (s : State), Live Reg.GNS s → exec (.laneStuck n false) s = .next (became s (s.setRb Reg.GNS_SIF_STAT (8 + n) false))) ∧
  (∀ (a : Fin 4) (s : State) (b : BT80), Live Reg.GNS s → AMap.get none s.gns.antLow a = some (b, false) →
    (let t := s.setRb Reg.GNS_APWR (8 + a) true
     t.elapsed b 1000000 = true → t.rb Reg.GNS_APWR (4 + a) = true →
     exec (.antPwr a true) s = .next (became s (fault .gns 0 1 (raiseEvt Reg.GNS 4 (antDrive a false
       { t with gns := { t.gns with antLow := AMap.set none t.gns.antLow a (some (b, true)) } })))))) ∧
  (∀ s : State, Acts Reg.ACQ s → s.pgEn Reg.ACQ = true → s.gns.acq.active = none → s.gns.acq.chq = [] →
    (let hd := (s.reg Reg.ACQ_RQ_HEAD).toNat % 2 ^ s.rf Reg.ACQ_RQ_BASE 0 3
     let r := acqWords s (s.rf Reg.ACQ_RQ_BASE 12 13 * 4096 + 16 * hd)
     let q := { s.gns.acq with swLast := true, sw := true, noHand := false, begun := false }
     let u := { s with gns := { s.gns with acq := q } }
     hd ≠ (s.reg Reg.ACQ_RQ_TAIL).toNat % 2 ^ s.rf Reg.ACQ_RQ_BASE 0 3 → acqRefusal u r = none →
     exec .acqRequest s = .next (became s
       { u with gns := { u.gns with acq := { q with active := some (r, u.nextFrame) } } }))) ∧
  (∀ (ra cn : BitVec 16) (dop code : Word) (s : State) (r : AcqReq) (b : BT80), Acts Reg.ACQ s → s.inject Reg.ACQ 0 = false →
    s.gns.acq.active = some (r, b) → s.gns.acq.begun = true → r.handoff = false → r.thr ≤ ra.toNat →
    exec (.acqResult ra cn dop code false) s = .next (became s (acqAnswer r 0 false dop code ra cn b
      { s with gns := { s.gns with acq := { s.gns.acq with active := none, noHand := false, begun := false } } }))) ∧
  (∀ (ra cn : BitVec 16) (dop code : Word) (s : State) (r : AcqReq) (b : BT80), Acts Reg.ACQ s → s.inject Reg.ACQ 0 = false →
    s.gns.acq.active = some (r, b) → s.gns.acq.begun = true → r.handoff = true → r.thr ≤ ra.toNat → s.gns.acq.noHand = false →
    (let t := { s with gns := { s.gns with acq := { s.gns.acq with active := none, noHand := false, begun := false } } }
     t.gchSt r.chan = .acqWait → (t.gch r.chan).sig = r.sig → (t.gch r.chan).prn = r.prn → (t.gch r.chan).ant = r.ant →
     exec (.acqResult ra cn dop code false) s = .next (became s
       (acqAnswer r 0 true dop code ra cn b (acqHandoff r.chan dop code b t))))) ∧
  (∀ (m : Master) (v : Word) (s : State), Reaches m Reg.ACQ_CMD s → bit v 0 = true → s.gns.acq.active = none →
    (let n := 2 ^ s.rf Reg.ACQ_RQ_BASE 0 3
     let hd := (s.reg Reg.ACQ_RQ_HEAD).toNat % n
     let tl := (s.reg Reg.ACQ_RQ_TAIL).toNat % n
     exec (.cancelAll m v) s = .next (wrote Reg.ACQ_CMD s ((forN ((tl + n - hd) % n) (fun i a =>
       acqAnswer (acqWords a (a.rf Reg.ACQ_RQ_BASE 12 13 * 4096 + 16 * ((hd + i) % n))) 5 false 0 0 0 0 0 a) s).setReg
         Reg.ACQ_RQ_HEAD (BitVec.ofNat 32 tl))))) ∧
  (∀ s : State, Acts Reg.ACQ s → s.pgEn Reg.ACQ = true → s.gns.acq.active = none → s.gns.acq.chq = [] →
    (let hd := (s.reg Reg.ACQ_RQ_HEAD).toNat % 2 ^ s.rf Reg.ACQ_RQ_BASE 0 3
     let r := acqWords s (s.rf Reg.ACQ_RQ_BASE 12 13 * 4096 + 16 * hd)
     let u := { s with gns := { s.gns with acq := { s.gns.acq with swLast := true, sw := true, noHand := false, begun := false } } }
     hd ≠ (s.reg Reg.ACQ_RQ_TAIL).toNat % 2 ^ s.rf Reg.ACQ_RQ_BASE 0 3 → sigOk r.sig r.prn = false →
     exec .acqRequest s = .next (became s (acqAnswer r 2 false 0 0 0 0 0
       (u.setReg Reg.ACQ_RQ_HEAD (BitVec.ofNat 32 (((u.reg Reg.ACQ_RQ_HEAD).toNat + 1) % 2 ^ u.rf Reg.ACQ_RQ_BASE 0 3)))))))

/-- The channels. START begins an allowed channel or refuses it with a code; STOP, and a START with STOP, stop it; an aided start enters
PULLIN at its second; an integration updates a running channel; 3 s of pull-in, and 20 ms without its lane, lose it; a lost channel
with AUTO_REACQ waits for acquisition again; a navigation unit becomes a record; economy is evaluated once for each second; a burst
begins at its instant (R350 to R352, R361, R370 to R377). -/
def Obligations.GnssChannelsRun : Prop :=
  (∀ (m : Master) (c : Fin 256) (v : Word) (s : State), Reaches m (Reg.GCH_CMD c) s → s.gchOn c = true → bit v 0 = true →
    bit v 1 = false → (s.gch c).stopAt ≠ some s.bt → sigOk (fld (s.reg (Reg.GCH_CFG c)) 12 4) (fld (s.reg (Reg.GCH_CFG c)) 16 8) = true →
    tcohOk (s.rf (Reg.GCH_LOOP c) 16 3) (fld (s.reg (Reg.GCH_CFG c)) 12 4) = true →
    s.laneAligned (laneOf (fld (s.reg (Reg.GCH_CFG c)) 10 2) (fld (s.reg (Reg.GCH_CFG c)) 12 4)) = true →
    exec (.channelStart m c v) s = .next (wrote (Reg.GCH_CMD c) s (gchBegin c s))) ∧
  (∀ (m : Master) (c : Fin 256) (v : Word) (s : State), Reaches m (Reg.GCH_CMD c) s → s.gchOn c = true → bit v 0 = true →
    bit v 1 = false → (s.gch c).stopAt ≠ some s.bt → sigOk (fld (s.reg (Reg.GCH_CFG c)) 12 4) (fld (s.reg (Reg.GCH_CFG c)) 16 8) = false →
    exec (.channelStart m c v) s = .next (wrote (Reg.GCH_CMD c) s
      (raiseEvt (Reg.GCH c) 5 (s.setRf (Reg.GCH_STAT c) 28 4 1)))) ∧
  (∀ (m : Master) (c : Fin 256) (v : Word) (s : State), Reaches m (Reg.GCH_CMD c) s → s.gchOn c = true → bit v 1 = true →
    exec (.channelStop m c v) s = .next (wrote (Reg.GCH_CMD c) s (gchStop c s))) ∧
  (∀ (c : Fin 256) (s : State) (n : Nat), Acts (Reg.GCH c) s → (s.gch c).startSec = some n → n ≤ wholeSec s.now → s.gchOn c = true →
    (let t := setGchSt c .pullin s
     exec (.aidedPullinStart c) s = .next (became s (t.setGch c
       { t.gch c with startSec := none, at_ := s.bt, code := (s.reg (Reg.GCH_AIDCODE c)).toNat, dop := (s.reg (Reg.GCH_AIDDOP c)).toInt })))) ∧
  (∀ (c : Fin 256) (x : Integration) (s : State), Acts (Reg.GCH c) s → s.gchSt c = .pullin →
    s.laneAligned (laneOf (s.gch c).ant (s.gch c).sig) = true → s.inject (Reg.GCH c) 0 = true →
    exec (.channelIntegration c x) s = .next (became s (fault .gch c 0 s))) ∧
  (∀ (c : Fin 256) (x : Integration) (s : State), Acts (Reg.GCH c) s → s.gchSt c = .pullin →
    s.laneAligned (laneOf (s.gch c).ant (s.gch c).sig) = true → s.inject (Reg.GCH c) 0 = false → x.sync = false →
    (let t := (s.setGch c (gchLoops c x s)).setReg (Reg.GCH_CN0 c) (x.cn0.setWidth 32)
     let u := burstJudge c (gchLocks c t)
     let v := setGchSt c .track u
     u.rb (Reg.GCH_STAT c) 8 = true → u.rb (Reg.GCH_STAT c) 10 = true →
     exec (.channelIntegration c x) s = .next (became s
       (v.setGch c ((v.gch c).latch (v.reg (Reg.GCH_TRK c)) (v.reg (Reg.GCH_LOOP c)) (v.intMs c)))))) ∧
  (∀ (c : Fin 256) (s : State), Acts (Reg.GCH c) s → s.gchSt c = .pullin → s.elapsed (s.gch c).since 3000000000 = true →
    exec (.pullinTimeout c) s = .next (became s (gchLose c s))) ∧
  (∀ (c : Fin 256) (s : State) (b : BT80), Acts (Reg.GCH c) s → (s.gchSt c).active = true →
    AMap.get none s.gns.down (laneOf (s.gch c).ant (s.gch c).sig) = some b →
    s.laneAligned (laneOf (s.gch c).ant (s.gch c).sig) = false → s.elapsed b 20000000 = true →
    exec (.channelLaneLoss c) s = .next (became s (gchLose c s))) ∧
  (∀ (c : Fin 256) (s : State), Acts (Reg.GCH c) s → s.gchSt c = .lost → (s.gch c).reacq = true → s.gchOn c = true →
    exec (.channelReacquire c) s = .next (became s (setGchSt c .acqWait s))) ∧
  (∀ (c : Fin 256) (x : NavUnit) (s : State), Acts (Reg.GCH c) s → s.gchSt c = .track → s.rb Reg.NAV_CFG 0 = true →
    s.pgEn Reg.NAV = true → x.parErr = true → exec (.navRecord c x) s = .next (became s (fault .nav 0 0 s))) ∧
  (∀ (c : Fin 256) (x : NavUnit) (s : State), Acts (Reg.GCH c) s → s.gchSt c = .track → s.rb Reg.NAV_CFG 0 = true →
    s.pgEn Reg.NAV = true → x.parErr = false → s.inject Reg.NAV 0 = false → navCheck (s.gch c).sig (navPass (s.gch c).sig x) = 0 →
    (let t := (navSync c 0 x.inverted s).count Reg.NAV_CNT_PASS
     let u := putNav (navBody t c x ++ bytesBE 4 (crc32c (navBody t c x)).toNat) t
     exec (.navRecord c x) s = .next (became s (u.setGch c { u.gch c with stepNav := u.gns.stepNo })))) ∧
  (∀ (s : State), Acts Reg.GNS s → s.gns.lastEco ≠ some (wholeSec s.now) →
    exec .economyEvaluate s = .next (became s (forN 256 (fun c a =>
      let e := a.econ c
      let b := if a.rb (Reg.GCH_STAT c) 13 = e then a else a.setRb (Reg.GCH_STAT c) 13 e
      if b.gchSt c = .track ∧ e = true then burstEnter c b
      else if b.gchSt c = .burst ∧ e = false ∧ (b.gch c).burstSec = none then setGchSt c .pullin (b.setGch c (gchAt b c b.bt))
      else b) { s with gns := { s.gns with lastEco := some (wholeSec s.now) } }))) ∧
  (∀ (c : Fin 256) (s : State), Acts (Reg.GCH c) s → s.gchSt c = .burst → (s.gch c).burstSec = none →
    (let sec := (s.now.toNat - s.rf Reg.GNS_BURST 0 10 * 1000000 * 65536) / (65536 * 1000000000)
     let y := (gchAt s c s.bt).latch (s.reg (Reg.GCH_TRK c)) (s.reg (Reg.GCH_LOOP c)) (codeMs (s.gch c).sig)
     (s.gch c).lastBurst ≠ some sec → after (s.servedAt (s.gch c).since) (s.burstTime sec 0) = false →
     after s.now (s.burstTime sec (s.rf Reg.GNS_BURST 16 5 * 20)) = false →
     exec (.burstStart c) s = .next (became s
       (s.setGch c { y with burstSec := some sec, lastBurst := some sec, pred := some (s.bt, y.car) })))) ∧
  (∀ (m : Master) (c : Fin 256) (v : Word) (s : State), Reaches m (Reg.GCH_CMD c) s → s.gchOn c = false →
    exec (.channelStart m c v) s = .next (wrote (Reg.GCH_CMD c) s s) ∧
    exec (.channelStop m c v) s = .next (wrote (Reg.GCH_CMD c) s s))

/-- GNSS time integrity. A solution delivered for an entry reaches its monitor and its loops, one for no such entry is counted; an epoch
is recorded and checked; interference is evaluated for both sets; the end of a burst is recorded; an allowed arm of the receiver pulse is
shown and reported, one that is not is refused with a code; the pulse begins and ends at its edges; EN at 0 cancels one not begun
(R365, R377, R395, R396, R404, R405, R416 to R418, R426). -/
def Obligations.GnssIntegrityActs : Prop :=
  (∀ (m : Master) (v : Word) (s : State), Reaches m Reg.ANT_SOL_CTL s → 40 ≤ fld v 0 6 → fld v 0 6 ≤ 43 → fld v 8 8 ≤ 3 →
    s.rf (Reg.REF_ENT_QTH (fld v 0 6)) 0 8 ≤ fld v 8 8 →
    (let t := refMessage (fld v 0 6) (fld v 8 8) 0xFF none false s
     let b : BT80 := BitVec.ofNat 80 (s.regN Reg.ANT_SOLB 3)
     exec (.solutionDelivery m v) s = .next (wrote Reg.ANT_SOL_CTL s (loopsTake (fld v 0 6) b (some (BitVec.ofNat 96 (s.regN Reg.ANT_SOLX 3))) 1
       (refEdge (fld v 0 6) ((t.ent (fld v 0 6)).edges + 1) b t))))) ∧
  (∀ (m : Master) (v : Word) (s : State), Reaches m Reg.ANT_SOL_CTL s → fld v 0 6 < 40 →
    exec (.solutionDelivery m v) s = .next (wrote Reg.ANT_SOL_CTL s (s.count Reg.ANT_CNT_SOLREJ))) ∧
  (∀ (s : State) (t : WT96), Acts Reg.GNS s → s.epochDue = some t →
    exec .measurementEpoch s = .next (became s (epochCheck t (raiseEvt Reg.GNS 2 ((s.gns.chs.map (·.1)).foldl (fun a c =>
      if a.gchSt c = .pullin ∨ a.gchSt c = .track then
        measRecord c t (s.epochAt t) false (gather t (epRec a c (s.epochAt t)) a) else a)
      { s with gns := { s.gns with lastEpoch := some t } }))))) ∧
  (∀ (c : Fin 256) (s : State) (t : WT96), Acts (Reg.GCH c) s → s.burstEpoch c = some t → s.gchSt c = .burst →
    earlier s.now t = false →
    (let u := measRecord c t (s.epochAt t) true (gather t (epRec s c (s.epochAt t)) s)
     u.rb (Reg.GCH_STAT c) 8 = true → fld (u.gch c).lp 20 8 * 256 ≤ u.rf (Reg.GCH_CN0 c) 0 16 →
     exec (.burstEnd c) s = .next (became s (epochCheck t (u.setGch c
       { (gchAt u c u.bt).predictFrom u with burstSec := none, pred := none, missRow := 0 }))))) ∧
  (∀ (l : List JamLane) (s : State), Acts Reg.ANT s →
    exec (.jamEvaluate l) s = .next (became s (jamJudge 1 (jamJudge 0 ((List.finRange 8).foldl (fun a n => jamShow l n a) s))))) ∧
  (∀ (m : Master) (v : Word) (s : State), Reaches m (Reg.ANT_PPS_BT + 8) s →
    (let w := s.commitWords m Reg.ANT_PPS_BT 3 (v &&& 0xFFFF#32)
     let t := (s.setRegN Reg.ANT_PPS_BT w 3).dropStaged m Reg.ANT_PPS_BT 3
     exec (.gnssPpsArm m v) s = .next (wrote (Reg.ANT_PPS_BT + 8) s (gppsArm (BitVec.ofNat 80 w) t)) ∧
     (∀ r, t.gppsRej (BitVec.ofNat 80 w) = some r →
       exec (.gnssPpsArm m v) s = .next (wrote (Reg.ANT_PPS_BT + 8) s (raiseEvt Reg.ANT 4 (t.setRf Reg.ANT_PPS_STAT 4 3 r)))))) ∧
  (∀ (s : State) (a b : BT80), Acts Reg.ANT s → s.ant.pulse = some (a, b, false) → atOrAfter s.bt a = true →
    exec .gnssPpsEdge s = .next (became s (gppsDrive true { s with ant := { s.ant with pulse := some (a, b, true) } }))) ∧
  (∀ (s : State) (a b : BT80), Acts Reg.ANT s → s.ant.pulse = some (a, b, true) → atOrAfter s.bt b = true →
    exec .gnssPpsEdge s = .next (became s
      (gppsDrive false (State.setRb { s with ant := { s.ant with pulse := none } } Reg.ANT_PPS_STAT 0 false)))) ∧
  (∀ (m : Master) (v : Word) (s : State) (a b : BT80), Reaches m Reg.ANT_PPS_CFG s →
    (let t := plainWrite Reg.ANT_PPS_CFG v s
     t.ant.pulse = some (a, b, false) → t.rb Reg.ANT_PPS_CFG 0 = false → t.rb Reg.ANT_PPS_CFG 1 = s.rb Reg.ANT_PPS_CFG 1 →
     exec (.gnssPpsCfgWrite m v) s = .next (wrote Reg.ANT_PPS_CFG s
       (State.setRb { t with ant := { t.ant with pulse := none } } Reg.ANT_PPS_STAT 0 false)))) ∧
  (∀ s : State, Live Reg.ANT s → exec .antCfgPar s = .next (became s (fault .ant 0 0 s)))

/-- Time-interval measurement. An edge is counted by every channel of its source and polarity; a read of the result FIFO gives the oldest
result, with its other words in the reader's shadow, and frees it; TDC_ARM arms the channels it names; a gate edge arms the channels it
triggers; a channel's configuration keeps its locked fields while it is enabled; the linearity test starts for a free channel and ends
with its corrections; OCXO_RDY is kept and its fall ends traceable time (R430, R438, R441, R442, R444, R447). -/
def Obligations.TdcMeasures : Prop :=
  (∀ (src : BitVec 6) (rise : Bool) (n : BitVec 64) (raw : BitVec 9) (s : State), Live Reg.TDC s →
    exec (.tdcEdge src rise n raw) s = .next (became s (forN 32 (fun c a =>
      if a.tdcRuns c && decide (a.tdcSrc c = src.toNat) && (rise != a.rb (Reg.TDC_CH_CFG c) 1) then tdcCount c n.toNat raw.toNat a
      else a) s))) ∧
  (∀ (c n raw : Nat) (s : State), (s.tdcCh c).enAt < n → s.tdcEntries c = [] → (s.tdcCh c).cnt + 1 = (s.tdcCh c).due →
    s.tdcMode c = 0 → s.fltBit Reg.TDC 1 = false →
    (let u := s.setTdcCh c { s.tdcCh c with cnt := (s.tdcCh c).cnt + 1 }
     u.tdcMode c = 0 → u.fltBit Reg.TDC 1 = false → pastDead (u.tdcCh c).lastCap (u.tdcTime c n raw) = true →
     (u.tdcCh c).due = (s.tdcCh c).due →
     tdcCount c n raw s = tdcStore c (u.tdcTime c n raw) (u.setTdcCh c
       { u.tdcCh c with due := (s.tdcCh c).cnt + 1 + BitVec.ofNat 32 (u.tdcDec c), lastCap := some (u.tdcTime c n raw) }))) ∧
  (∀ (m : Master) (c : Fin 32) (s : State), Reads m (Reg.TDC_CH_RES_LO c) s → (s.tdcCh c).fifo = [] →
    ∃ t, exec (.tdcResultRead m c) s = .next (State.emit t (.readData m (Reg.TDC_CH_RES_LO c) 0)) ∧ t.tdc = s.tdc) ∧
  (∀ (m : Master) (c : Fin 32) (s : State) (r : TdcResult) (l : List TdcResult), Reads m (Reg.TDC_CH_RES_LO c) s →
    (s.tdcCh c).fifo = r :: l → r.bad = false → (s.tdcCh c).lost = none →
    exec (.tdcResultRead m c) s = .next (State.emit (((((s.setTdcCh c { s.tdcCh c with fifo := l }).setShadow m
      (Reg.TDC_CH_RES_MID c) (bits r.bt 32 32)).setShadow m (Reg.TDC_CH_RES_HI c) (BitVec.ofNat 32 (fld r.bt 64 16))).setShadow m
        (Reg.TDC_CH_RES_CNT c) r.cnt).setShadow m (Reg.TDC_CH_RES_FLG c) r.flg)
          (.readData m (Reg.TDC_CH_RES_LO c) (bits r.bt 0 32)))) ∧
  (∀ (m : Master) (v : Word) (s : State), Reaches m Reg.TDC_ARM s →
    exec (.tdcArm m v) s = .next (wrote Reg.TDC_ARM s (forN 32 (fun c a =>
      if bit v c && decide (a.tdcMode c = 3) && !a.tdcTaken c then armCh c (cycleNo s.bt) a else a) s))) ∧
  (∀ (g : Fin 4) (s : State), Live Reg.TDC s → (AMap.get { } s.tdc.gates g : GatePin).lvl = false →
    s.rb Reg.TDC_GATE_CFG g = true →
    exec (.tdcGateEdge g true) s = .next (became s
      (let p : GatePin := { AMap.get { } s.tdc.gates g with pin := true }
       { s with tdc := { s.tdc with gates := AMap.set { } s.tdc.gates g p } }))) ∧
  (∀ (m : Master) (c : Fin 32) (v : Word) (s : State), Reaches m (Reg.TDC_CH_CFG c) s → s.tdcTaken c = false →
    s.tdc.calCh = none → bit (s.reg (Reg.TDC_CH_CFG c)) 0 = true →
    (let w := (s.reg (Reg.TDC_CH_CFG c) &&& 0x3FFFFF3E#32) ||| (v &&& 0x41#32)
     srcOk (fld w 24 6) = true →
     exec (.tdcChannelCfgWrite m c v) s = .next (wrote (Reg.TDC_CH_CFG c) s (plainWrite (Reg.TDC_CH_CFG c) w s)))) ∧
  (∀ (m : Master) (v : Word) (s : State), Reaches m Reg.TDC_CAL_CMD s → bit v 8 = true → s.pgEn Reg.TDC = true →
    s.tdcEn (fld v 0 5) = false → s.tdc.calCh = none →
    exec (.tdcCalStart m v) s = .next (wrote Reg.TDC_CAL_CMD s
      (State.setRf { s with tdc := { s.tdc with calCh := some (fld v 0 5) } } Reg.TDC_GSTAT 1 3 1))) ∧
  (∀ (l : List Byte) (s : State) (c : Nat), Acts Reg.TDC s → s.tdc.calCh = some c →
    exec (.calDone l) s = .next (became s (raiseEvt Reg.TDC 3 (forN 4 (fun i a =>
      a.setReg (Reg.TDC_CAL_RES i) (BitVec.ofNat 32 (leAt l (4 * i) 4)))
      (State.setRb { s with tdc := { s.tdc with calCh := none } } Reg.TDC_GSTAT 1 false))))) ∧
  (∀ (s : State), s.alive = true → s.warm = true →
    exec (.ocxoRdyChange false) s = .next (became s (asyWithdraw (raiseEvt Reg.TDC 4 (s.setRb Reg.TDC_GSTAT 0 false))))) ∧
  (∀ (g : Fin 4) (s : State), Live Reg.TDC s → (AMap.get { } s.tdc.gates g : GatePin).lvl = false →
    s.rb Reg.TDC_GATE_CFG g = false → (∀ c < 32, s.tdcMode c ≠ 2) →
    ∃ t, exec (.tdcGateEdge g true) s = .next (became s t) ∧
      AMap.get { } t.tdc.gates g = ({ pin := true, lvl := true, prev := false, at_ := s.bt } : GatePin)) ∧
  (∀ (c : Nat) (s : State) (r : TdcResult) (o : Bool), (s.tdcCh c).lost = some (s.bt, r, o) → (s.tdcCh c).fifo.length < 16 →
    (let y := { s.tdcCh c with fifo := (s.tdcCh c).fifo ++ [r], ovf := false, dead := false, lost := none }
     tdcRegain c s = raiseEvt Reg.TDC 0 (uncount Reg.TDC_CNT_OVF (s.setTdcCh c y))))

/-- The link and the modes of a port. LINK_UP needs the block to be on its receive side; a loss of lock ends the link in the same cycle;
the group mode is written only while the four pages are disabled; PRT_MODE takes effect on the paths; the mode in force changes with
what it discards; a transmit clock that stops ends what the ports send, and one that starts is shown; a remote fault is shown
(R454, R461, R462, R464, R465, R473). -/
def Obligations.PortLinksFollow : Prop :=
  (∀ (m : Master) (g : Fin 4) (v : Word) (s : State), Reaches m (Reg.PRT_GMODE (4 * g.val)) s →
    (∀ i, i < 4 → s.pgEn (Reg.PRT (4 * g.val + i)) = false) → fld v 0 2 ≠ 3 →
    exec (.groupModeWrite m g v) s = .next (wrote (Reg.PRT_GMODE (4 * g.val)) s
      (forN 4 (fun i b => entEval (16 + 4 * g + i) b) (showTxClk g (plainWrite (Reg.PRT_GMODE (4 * g.val)) v s))))) ∧
  (∀ (p : Fin 17) (s : State), s.rxAlive p = true → s.portOn p = true → p.val < 16 → s.fltBit (Reg.PRT p) 1 = false →
    s.rb (Reg.PRT_LINK p) 4 = true →
    exec (.linkUp p) s = .next (became s (entEval (16 + p)
      (setLink p true ((s.setRf (Reg.PRT_LINK p) 0 3 7).setRb (Reg.PRT_LINK p) 6 false))))) ∧
  (∀ (p : Fin 17) (al fec lf : Bool) (s : State), s.rxAlive p = true → s.portOn p = true → p.val < 16 →
    exec (.linkDown p false al fec lf) s = .next (became s (entEval (16 + p) (setLink p false
      ((((s.setRb (Reg.PRT_LINK p) 0 false).setRb (Reg.PRT_LINK p) 1 (al || decide (s.gmode (p / 4) ≠ 2))).setRb (Reg.PRT_LINK p) 2
        (fec || decide (s.rf (Reg.PRT_CFG p) 0 2 ≠ 2))).setRb (Reg.PRT_LINK p) 6 lf))))) ∧
  (∀ (p : Fin 17) (on : Bool) (s : State), s.rxAlive p = true → s.portOn p = true → p.val < 16 →
    exec (.remoteFault p on) s = .next (became s (s.setRb (Reg.PRT_LINK p) 5 on))) ∧
  (∀ (m : Master) (p : Fin 16) (v : Word) (s : State), Reaches m (Reg.PRT_MODE p) s →
    (let t := plainWrite (Reg.PRT_MODE p) v s
     exec (.modeWrite m p v) s = .next (wrote (Reg.PRT_MODE p) s
       (pathFree p (t.setPrt p { t.prtS p with rxMode := t.rf (Reg.PRT_MODE p) 0 2 }))))) ∧
  (∀ (p : Fin 16) (s : State), Acts (Reg.PRT p) s → (s.prtS p).rxMode = s.rf (Reg.PRT_MODE p) 0 2 →
    (s.prtS p).txMode = s.rf (Reg.PRT_MODE p) 0 2 → s.modeAct p = 0 → s.rf (Reg.PRT_MODE p) 0 2 ≠ 0 →
    exec (.modeActChange p) s = .next (became s (pauseEval p (missWhere (p / 4) .mode (fun y => decide (y.port = p))
      (entEval (16 + p) (s.setRf (Reg.PRT_LINK p) 12 2 (s.rf (Reg.PRT_MODE p) 0 2))))))) ∧
  (∀ (g : Fin 4) (s : State), s.alive = true → s.ptxRun g = false → exec (.txClockStop g) s = .next (became s (clockStop g s))) ∧
  (∀ (g : Fin 4) (s : State), s.alive = true → s.ptxRun g = true → exec (.txClockStart g) s = .next (became s (showTxClk g s)))

/-- Frames of a port. A frame on a link that is down is discarded uncounted; one that is whole is counted and goes on, while a short one,
a long one and one with an error are counted by kind; PAUSE loads and clears the partner timer; a requested PAUSE frame is sent unless
it would repeat the last; an ESMC PDU is taken where it is enabled, its information and event PDUs are sent when they are due; the end
of a frame in transmission is taken (R463, R466, R476, R477, R479, R483, R493, R495). -/
def Obligations.PortFramesPass : Prop :=
  (∀ (p : Fin 17) (f : RxFrame) (s : State), s.alive = true → s.looped p = false → s.lpbk p ≠ 3 → s.rxAlive p = false →
    exec (.frameReceive p f) s = .next (became s s)) ∧
  (∀ (p : Fin 17) (f : RxFrame) (s : State), s.rxAlive p = true → s.portOn p = true → p.val < 16 → s.looped p = false →
    s.lpbk p ≠ 3 → (pcsCount p f s).linkUp p = true → f.data.length < 4 →
    exec (.frameReceive p f) s = .next (became s (stat p 7 1 (pcsCount p f s)))) ∧
  (∀ (p : Fin 17) (f : RxFrame) (s : State), s.rxAlive p = true → s.portOn p = true → p.val < 16 → s.looped p = false →
    s.lpbk p ≠ 3 →
    (let u := pcsCount p f s
     u.linkUp p = true → 64 ≤ f.data.length → f.data.length ≤ u.maxLen p → u.quiescent = false → f.err = false → f.ecc = false →
     u.inject (prtPage p) 0 = false → f.occ.toNat + cdiv f.data.length 256 ≤ u.bufCells p →
     (bytesLE 4 (crc32 (f.data.take (f.data.length - 4))).toNat) = f.data.drop (f.data.length - 4) →
     exec (.frameReceive p f) s = .next (became s (setOcc p f.left.toNat (goodFrame p f.data f.blk.toNat
       (countGood p f.data (setOcc p (f.occ.toNat + cdiv f.data.length 256) u))))))) ∧
  (∀ (p : Fin 17) (q : BitVec 16) (s : State), s.alive = true →
    exec (.pauseReceive p q) s = .next (became s
      (receive p (s.plainFrame p (withFcs (pauseFrame (List.replicate 6 0) q.toNat))) s))) ∧
  (∀ (p q : Nat) (s : State), p < 16 → s.modeAct p ≠ 0 → q ≠ 0 →
    gotPause p q s = (s.setPrt p { s.prtS p with pauseTo := some (s.bt + s.quanta p q) }).setRb (Reg.PRT_LINK p) 7 true) ∧
  (∀ (p : Fin 16) (s : State) (b : BT80), Acts (Reg.PRT p) s → s.portOn p = true → (s.prtS p).pauseTo = some b →
    earlier s.bt b = false →
    exec (.partnerPauseExpire p) s = .next (became s ((s.setPrt p { s.prtS p with pauseTo := none }).setRb (Reg.PRT_LINK p) 7 false))) ∧
  (∀ (p : Fin 16) (s : State), Acts (Reg.PRT p) s → s.portOn p = true → s.rb (Reg.PRT_LINK p) 8 = true →
    atOrAfter s.bt ((s.prtS p).pauseAt + s.quanta p (s.rf (Reg.PRT_FC_CFG p) 0 16 / 2)) = true →
    exec (.pauseRefresh p) s = .next (became s (requestPause p true s))) ∧
  (∀ (p : Fin 16) (s : State) (r : Bool), Acts (Reg.PRT p) s → s.portOn p = true → (s.prtS p).pauseReq = some r →
    s.canSend p = true → s.fitsGap p 64 = true → (s.prtS p).lastPause ≠ some (s.pauseValue p) →
    (let t := startTx p { kind := .pause (s.pauseValue p), data := pauseFrame (s.prtMac p) (s.pauseValue p), ts := none, free := none } s
     exec (.pauseTransmit p) s = .next (became s (t.setPrt p
       { t.prtS p with pauseReq := none, lastPause := some (s.pauseValue p), pauseAt := t.bt })))) ∧
  (∀ (p : Fin 17) (b : DWord) (s : State) (f : TxFrame), Acts (prtPage p) s → s.portOn p = true → (s.prtS p).tx = some f →
    s.looped p = false → exec (.frameTransmit p b) s = .next (became s (txDone p b.toNat s))) ∧
  (∀ (p : Fin 16) (d : List Byte) (s : State), s.alive = true →
    exec (.esmcReceive p d) s = .next (became s (receive p (s.plainFrame p d) s))) ∧
  (∀ (p : Fin 16) (s : State), Acts (Reg.PRT p) s → s.portOn p = true → s.esmcReady p = true → s.infoDue p = true →
    exec (.esmcInfoTransmit p) s = .next (became s (sendEsmc p false (s.setPrt p { s.prtS p with
      infoSec := some (wholeSec s.now), codes := some ((s.prtS p).codes.getD (s.esmcCodes p)) })))) ∧
  (∀ (p : Fin 16) (s : State), Acts (Reg.PRT p) s → s.portOn p = true → s.esmcReady p = true → (s.prtS p).codes.isSome = true →
    (s.prtS p).codes ≠ some (s.esmcCodes p) →
    exec (.esmcEventTransmit p) s = .next (became s (sendEsmc p true (s.setPrt p { s.prtS p with codes := some (s.esmcCodes p) })))) ∧
  (∀ (p : Fin 17) (f : RxFrame) (s : State), s.alive = true → s.looped p = true → exec (.frameReceive p f) s = .next (became s s)) ∧
  (∀ (p : Fin 17) (f : RxFrame) (s : State), s.rxAlive p = true → s.portOn p = true → p.val < 16 → s.looped p = false →
    s.lpbk p ≠ 3 → (pcsCount p f s).linkUp p = false → exec (.frameReceive p f) s = .next (became s (pcsCount p f s))) ∧
  (∀ (p : Fin 17) (b : DWord) (s : State), Acts (prtPage p) s → s.portOn p = true → (s.prtS p).tx = none →
    exec (.frameTransmit p b) s = .next (became s s))

/-- Timestamp units. A visit sets a lane's model and the port's slots are predicted with it; a model not visited for 10 µs is lost; a
request that finds a boundary is granted it, shows the grant and takes a slot, one that does not is counted and refused; a reservation
is cancelled before its deadline; a submission joins its slot once; a slot not submitted at its deadline is missed; the start block
launches a slot that nothing prevents, and its last block sends the frame and completes it; temperature re-predicts; a model gone for
100 µs on an enabled port is a fault (R510, R511, R514, R518, R519, R527, R528, R530, R532, R538, R545). -/
def Obligations.TimestampUnitsAct : Prop :=
  (∀ (l : Fin 16) (k : BitVec 64) (b : BT80) (per : DWord) (s : State), Live (Reg.TSU (l.val / 4)) s → Live Reg.TDC s →
    s.rb Reg.TDC_GCFG 0 = true → s.pgEn Reg.TDC = true →
    (let t := showPhases (l / 4) (s.setLane l 1 { valid := true, k0 := k.toNat, p0 := b, per := per.toNat, visit := s.bt })
     exec (.boundaryVisit l true k b per) s = .next (became s t))) ∧
  (∀ (l : Fin 16) (rx : Bool) (s : State), Live (Reg.TSU (l.val / 4)) s → s.elapsed (s.lane l (b2n rx)).visit 10000 = true →
    exec (.laneModelExpire l rx) s = .next (became s (loseLane l (b2n rx) s))) ∧
  (∀ (m : Master) (g : Fin 4) (v : Word) (s : State), Reaches m (Reg.TSU_RQ_W g.val 5) s →
    (let w := s.commitWords m (Reg.TSU_RQ_W g.val 0) 6 v
     let t := (s.setRegN (Reg.TSU_RQ_W g.val 0) w 6).dropStaged m (Reg.TSU_RQ_W g.val 0) 6
     let r := RsvReq.ofWords (BitVec.ofNat 32 w) (BitVec.ofNat 32 (w >>> 32)) (BitVec.ofNat 32 (w >>> 64)) (BitVec.ofNat 96 (w >>> 96))
     exec (.tsuReserve m g v) s = .next (wrote (Reg.TSU_RQ_W g.val 5) s ((List.range 7).foldl (fun a i =>
       a.setReg (Reg.TSU_GR_W g.val i) ((reserve r (some g.val) t).1.words.getD i 0)) (reserve r (some g.val) t).2)))) ∧
  (∀ (r : RsvReq) (s : State) (k : Nat), refuseReq s r none = none → s.pickBoundary r = some k → reserve r none s = grantAt r k s) ∧
  (∀ (r : RsvReq) (s : State) (st : GrantStatus), refuseReq s r none = some st →
    reserve r none s = ({ status := st, handle := 0, tx := 0, wt := 0 }, s.count (Reg.TSU_CNT_REFUSE (r.port / 4)))) ∧
  (∀ (m : Master) (g : Fin 4) (v : Word) (s : State) (x : TsuSlot), Reaches m (Reg.TSU_CANCEL g.val) s →
    s.slot g.val (fld v 0 11) = some x → s.pastDeadline g.val x = false →
    x.sub.isSome = true → exec (.reservationCancel m g v) s = .next (wrote (Reg.TSU_CANCEL g.val) s (endSlot g.val (fld v 0 11) x .cancelled 0 s))) ∧
  (∀ (p : Fin 17) (d : List Byte) (s : State) (x : TsuSlot), p.val < 16 → Live (Reg.TSU (p.val / 4)) s →
    s.slot (p.val / 4) (leAt d 16 2 % 2048) = some x → x.port = p.val → x.sub = none → s.pastDeadline (p.val / 4) x = false →
    wireLen (descLen d) ≤ x.len → s.memBad (descBuf d) (descLen d) = false →
    exec (.tsuSubmission p d) s = .next (became s
      (s.setSlot (p.val / 4) (leAt d 16 2 % 2048) (some { x with sub := some (submitted d s) })))) ∧
  (∀ (p : Fin 17) (d : List Byte) (s : State), p.val < 16 → Live (Reg.TSU (p.val / 4)) s →
    s.slot (p.val / 4) (leAt d 16 2 % 2048) = none → s.thisCyc.cancelled = [] →
    exec (.tsuSubmission p d) s = .next (became s (badSubmission (p.val / 4) d s))) ∧
  (∀ (g : Fin 4) (h : BitVec 11) (s : State) (x : TsuSlot), Live (Reg.TSU g.val) s → s.slot g.val h.toNat = some x →
    x.begun = false → s.pastDeadline g.val x = true → x.bad = false → x.sub = none →
    exec (.submitDeadline g h) s = .next (became s (missSlot g.val h.toNat .notReady s))) ∧
  (∀ (g : Fin 4) (h : BitVec 11) (s : State) (x : TsuSlot), Live (Reg.TSU g.val) s → s.slot g.val h.toNat = some x →
    x.begun = false → earlier s.bt ((s.txAt x.port (x.k - 1) >>> 16) <<< 16) = false → x.bad = false → s.launchCause g.val x = none →
    exec (.tsuLaunch g h) s = .next (became s (s.setSlot g.val h.toNat (some { x with begun := true })))) ∧
  (∀ (g : Fin 4) (h : BitVec 11) (s : State) (x : TsuSlot) (c : MissCause), Live (Reg.TSU g.val) s → s.slot g.val h.toNat = some x →
    x.begun = false → earlier s.bt ((s.txAt x.port (x.k - 1) >>> 16) <<< 16) = false → x.bad = false →
    s.launchCause g.val x = some c → exec (.tsuLaunch g h) s = .next (became s (missSlot g.val h.toNat c s))) ∧
  (∀ (g : Fin 4) (h : BitVec 11) (s : State) (x : TsuSlot) (u : Submission), Live (Reg.TSU g.val) s →
    s.slot g.val h.toNat = some x → x.sub = some u → x.begun = true → u.ts = none →
    earlier s.bt ((s.txAt x.port (x.k + cdiv ((withFcs u.data).length + 1) 8) >>> 16) <<< 16) = false →
    exec (.launchComplete g h) s = .next (became s (pathFree x.port (endSlot g.val h.toNat x .sent 0
      ((stat x.port 21 1 (stat x.port 20 (withFcs u.data).length (s.emit (.frame x.port (withFcs u.data))))).count
        (Reg.TSU_CNT_SENT g.val)))))) ∧
  (∀ (g : Fin 4) (t : BitVec 16) (s : State), Live (Reg.TSU g.val) s →
    exec (.tsuTempSample g t) s = .next (became s (forN 4 (fun i a => rePredict (4 * g + i) a)
      { s with tsu := { s.tsu with temp := AMap.set 400 s.tsu.temp g.val t.toInt } }))) ∧
  (∀ (p : Fin 16) (s : State) (b : BT80), Live (Reg.TSU (p.val / 4)) s → AMap.get none s.tsu.lostAt p.val = some b →
    s.elapsedMore b 100000 = true → s.pgEn (Reg.PRT p.val) = true → s.modelOk p.val 0 = false →
    exec (.phaseLost p) s = .next (became s (fault .tsu (p.val / 4) 1 s))) ∧
  (∀ (p : Fin 17) (s : State) (i : Nat) (d : List Byte), Acts Reg.SCH s →
    (let t := cleanHead p.val 6 (s.clsDepth p.val 6) s
     t.headOf p.val 6 = some (i, d) →
     exec (.class6Pass p) s = .next (became s (submit p.val d (takeHead p.val 6 i t))))) ∧
  (∀ (m : Master) (g : Fin 4) (v : Word) (s : State) (x : TsuSlot), Reaches m (Reg.TSU_CANCEL g.val) s →
    s.slot g.val (fld v 0 11) = some x → s.pastDeadline g.val x = true →
    exec (.reservationCancel m g v) s = .next (wrote (Reg.TSU_CANCEL g.val) s s))

/-- Threads, queues and semaphores as masters reach them. START runs a halted thread in supervisor mode, HALT halts a running one and
CLRFLT a faulted one; a load that its checks refuse shows the reason and raises the event, one that they pass starts; a queue's words are
written while it is disabled; a doorbell and a timer post their event; a semaphore is taken, released or broken for the master; a sample
is read out; a wait ends when what it waits for has come; an error of a posted store is kept for the thread (R549, R550, R562, R566,
R568, R573, R576, R582 to R587, R591, R596, R610). -/
def Obligations.ThreadsAreReached : Prop :=
  (∀ (m : Master) (e : Fin 512) (t : Fin 4) (s : State), Reaches m (Reg.ENG_TH_CTL e t) s → (s.th (4 * e + t)).st = .halt →
    exec (.threadStart m e t) s = .next (wrote (Reg.ENG_TH_CTL e t) s
      (s.setTh (4 * e + t) { s.th (4 * e + t) with st := .run, user := false }))) ∧
  (∀ (m : Master) (e : Fin 512) (t : Fin 4) (s : State), Reaches m (Reg.ENG_TH_CTL e t) s → (s.th (4 * e + t)).st = .run →
    exec (.threadHalt m e t) s = .next (wrote (Reg.ENG_TH_CTL e t) s (thHalt (4 * e + t) (dropLoads (4 * e + t) s)))) ∧
  (∀ (m : Master) (e : Fin 512) (t : Fin 4) (s : State), Reaches m (Reg.ENG_TH_CTL e t) s → (s.th (4 * e + t)).st = .fault →
    exec (.clrflt m e t) s = .next (wrote (Reg.ENG_TH_CTL e t) s (thHalt (4 * e + t) s))) ∧
  (∀ (m : Master) (c : Fin 64) (v : Word) (s : State) (r : LoadRej), Reaches m (Reg.CLU_LOAD_CMD c) s → bit v 0 = true →
    s.mayLoad m c = true → s.loadRej c = some r →
    exec (.imageLoad m c v) s = .next (wrote (Reg.CLU_LOAD_CMD c) s (raiseEvt (Reg.CLU c) 1 (s.setRf (Reg.CLU_LOAD_STAT c) 4 4 r.code)))) ∧
  (∀ (m : Master) (c : Fin 64) (v : Word) (s : State), Reaches m (Reg.CLU_LOAD_CMD c) s → bit v 0 = true →
    s.mayLoad m c = true → s.loadRej c = none → c.val ≠ 63 →
    exec (.imageLoad m c v) s = .next (wrote (Reg.CLU_LOAD_CMD c) s
      ((s.setClu c { s.clu c with load := some (s.imgAt c) }).setRf (Reg.CLU_LOAD_STAT c) 0 8
        (1 + s.rf (Reg.CLU_LOAD_STAT c) 0 8 % 8 / 2 * 2)))) ∧
  (∀ (c : Fin 64) (s : State), Live (Reg.CLU c) s → c.val ≠ 63 → exec (.loadDone c) s = .next (became s (Machine.loadDone c s))) ∧
  (∀ (m : Master) (q : BitVec 18) (v : Word) (s : State), queueGate m s = .go → (s.queue q.toNat).en = false →
    exec (.queueStateWrite m q 0 v) s = .next (s.setQueue q.toNat { s.queue q.toNat with base := v }) ∧
    exec (.queueStateWrite m q 2 v) s = .next (s.setQueue q.toNat { s.queue q.toNat with head := fld v 0 21 }) ∧
    exec (.queueStateWrite m q 3 v) s = .next (s.setQueue q.toNat { s.queue q.toNat with tail := fld v 0 21 })) ∧
  (∀ (m : Master) (e : Fin 512) (t : Fin 4) (v : Word) (s : State), Reaches m (Reg.ENG_TH_DOORBELL e t) s →
    exec (.doorbell m e t v) s = .next (wrote (Reg.ENG_TH_DOORBELL e t) s (postTo (4 * e + t) 2 (fld v 0 24) s))) ∧
  (∀ (m : Master) (e : Fin 512) (t : Fin 4) (v : Word) (s : State), Reaches m (Reg.ENG_TH_TMR e t + 8) s →
    exec (.timerArm m e t v) s = .next (wrote (Reg.ENG_TH_TMR e t + 8) s (armTimer (4 * e + t)
      (BitVec.ofNat 96 (commitHeld m (Reg.ENG_TH_TMR e t) 3 (s.th (4 * e + t)).tmr.toNat v s)) (s.dropStaged m (Reg.ENG_TH_TMR e t) 3)))) ∧
  (∀ (e : Fin 512) (t : Fin 4) (s : State), Live (Reg.ENG e) s → (s.th (4 * e + t)).tmrArmed = true →
    atOrAfter s.now (s.th (4 * e + t)).tmr = true →
    exec (.timerFire e t) s = .next (became s (postTo (4 * e + t) 3 0 (s.setTh (4 * e + t) { s.th (4 * e + t) with tmrArmed := false })))) ∧
  (∀ (n : BitVec 8) (s : State), Reaches .host (Reg.SEM_N n.toNat) s →
    exec (.semTryAcquire .host n) s = .next (wrote (Reg.SEM_N n.toNat) s (semTry semHost n.toNat s).2) ∧
    exec (.semRelease .host n) s = .next (wrote (Reg.SEM_N n.toNat) s (Machine.semRelease semHost n.toNat s).2) ∧
    exec (.semForce .host n) s = .next (wrote (Reg.SEM_N n.toNat) s (semBreak n.toNat s))) ∧
  (∀ (m : Master) (c : Fin 64) (s : State) (w : List Word) (l : List (List Word)), Reads m (Reg.CLU_SMP_D c 0) s →
    (s.clu c).samples = w :: l →
    exec (.sampleRead m c) s = .next ((forN 7 (fun i a => a.setShadow m (Reg.CLU_SMP_D c (i + 1)) (w.getD (i + 1) 0))
      (s.setClu c { s.clu c with samples := l, smpFull := false })).emit (.readData m (Reg.CLU_SMP_D c 0) (w.getD 0 0)))) ∧
  (∀ (e : Fin 512) (t : Fin 4) (s : State) (rd : Nat) (v : DWord), s.engRuns e.val = true → (s.th (thKey e t)).st = .wait →
    (s.th (thKey e t)).waiting = .done rd v → ((thDone (thKey e t) rd v s).th (thKey e t)).haltDue = false →
    exec (.waitResume e t) s = .next (became s (thDone (thKey e t) rd v s))) ∧
  (∀ (e : Fin 512) (t : Fin 4) (a : DWord) (s : State), s.alive = true → (s.th (thKey e t)).posted.contains a = true →
    s.held (thKey e t) a = false → exec (.postedStoreError e t a) s = .next (became s (postFailed (thKey e t) a s))) ∧
  (∀ (m : Master) (n : BitVec 8) (id : Nat) (s : State), Reaches m (Reg.SEM_N n.toNat) s → semId m = some id →
    exec (.semTryAcquire m n) s = .next (wrote (Reg.SEM_N n.toNat) s (semTry id n.toNat s).2) ∧
    exec (.semRelease m n) s = .next (wrote (Reg.SEM_N n.toNat) s (Machine.semRelease id n.toNat s).2) ∧
    exec (.semForce m n) s = .next (wrote (Reg.SEM_N n.toNat) s (semBreak n.toNat s))) ∧
  (∀ (m : Master) (c : Fin 64) (v : Word) (s : State), Reaches m (Reg.CLU_LOAD_CMD c) s → bit v 0 = true → s.mayLoad m c = false →
    exec (.imageLoad m c v) s = .next (wrote (Reg.CLU_LOAD_CMD c) s s))

/-- An integer instruction that a thread issues completes: the destination register gets its result, a write of g0 being discarded, and
PC advances by 4. The results are those of R615: exact arithmetic narrowed to 64 bits, shifts by the low six bits, comparisons that give 1
or 0, counts of leading zeros and of ones, byte orders reversed, immediates sign-extended for ADDI, SLTI and SLTIU and zero-extended for
the logical ones (R603, R605, R615). -/
def Obligations.IntegerResultsAreWritten : Prop :=
  (∀ (e : Fin 512) (t : Fin 4) (rd ra rb : GReg) (s s1 : State) (x y : DWord), Issues (thKey e t) false [ra, rb] s s1 →
    (s1.th (thKey e t)).r ra = x → (s1.th (thKey e t)).r rb = y →
      exec (.add e t rd ra rb) s = .next (became s (next (thKey e t) (wrRg (thKey e t) rd.toNat (x + y) s1))) ∧
      exec (.sub e t rd ra rb) s = .next (became s (next (thKey e t) (wrRg (thKey e t) rd.toNat (x - y) s1))) ∧
      exec (.andOp e t rd ra rb) s = .next (became s (next (thKey e t) (wrRg (thKey e t) rd.toNat (x &&& y) s1))) ∧
      exec (.orOp e t rd ra rb) s = .next (became s (next (thKey e t) (wrRg (thKey e t) rd.toNat (x ||| y) s1))) ∧
      exec (.xorOp e t rd ra rb) s = .next (became s (next (thKey e t) (wrRg (thKey e t) rd.toNat (x ^^^ y) s1))) ∧
      exec (.sll e t rd ra rb) s = .next (became s (next (thKey e t) (wrRg (thKey e t) rd.toNat (x <<< (y.toNat % 64)) s1))) ∧
      exec (.srl e t rd ra rb) s = .next (became s (next (thKey e t) (wrRg (thKey e t) rd.toNat (x >>> (y.toNat % 64)) s1))) ∧
      exec (.sra e t rd ra rb) s = .next (became s (next (thKey e t) (wrRg (thKey e t) rd.toNat (x.sshiftRight (y.toNat % 64)) s1))) ∧
      exec (.slt e t rd ra rb) s = .next (became s (next (thKey e t) (wrRg (thKey e t) rd.toNat (flag64 (decide (x.toInt < y.toInt))) s1))) ∧
      exec (.sltu e t rd ra rb) s = .next (became s (next (thKey e t) (wrRg (thKey e t) rd.toNat (flag64 (decide (x.toNat < y.toNat))) s1))) ∧
      exec (.mul e t rd ra rb) s = .next (became s (next (thKey e t) (wrRg (thKey e t) rd.toNat (x * y) s1))) ∧
      exec (.mulh e t rd ra rb) s = .next (became s (next (thKey e t) (wrRg (thKey e t) rd.toNat (BitVec.ofInt 64 (x.toInt * y.toInt / 2 ^ 64)) s1))) ∧
      exec (.mulhu e t rd ra rb) s = .next (became s (next (thKey e t) (wrRg (thKey e t) rd.toNat (BitVec.ofNat 64 (x.toNat * y.toNat / 2 ^ 64)) s1))) ∧
      exec (.div e t rd ra rb) s = .next (became s (next (thKey e t) (wrRg (thKey e t) rd.toNat (divS x y) s1))) ∧
      exec (.divu e t rd ra rb) s = .next (became s (next (thKey e t) (wrRg (thKey e t) rd.toNat (divU x y) s1))) ∧
      exec (.rem e t rd ra rb) s = .next (became s (next (thKey e t) (wrRg (thKey e t) rd.toNat (remS x y) s1))) ∧
      exec (.remu e t rd ra rb) s = .next (became s (next (thKey e t) (wrRg (thKey e t) rd.toNat (remU x y) s1)))) ∧
  (∀ (e : Fin 512) (t : Fin 4) (rd ra : GReg) (s s1 : State) (x : DWord), Issues (thKey e t) false [ra] s s1 →
    (s1.th (thKey e t)).r ra = x →
      exec (.clz e t rd ra) s = .next (became s (next (thKey e t) (wrRg (thKey e t) rd.toNat (BitVec.ofNat 64 (leadZeros x)) s1))) ∧
      exec (.popc e t rd ra) s = .next (became s (next (thKey e t) (wrRg (thKey e t) rd.toNat (BitVec.ofNat 64 (oneBits x)) s1))) ∧
      exec (.bswap e t rd ra) s = .next (became s (next (thKey e t) (wrRg (thKey e t) rd.toNat (swapBytes 8 x) s1))) ∧
      exec (.bswap32 e t rd ra) s = .next (became s (next (thKey e t) (wrRg (thKey e t) rd.toNat (swapBytes 4 x) s1))) ∧
      exec (.bswap16 e t rd ra) s = .next (became s (next (thKey e t) (wrRg (thKey e t) rd.toNat (swapBytes 2 x) s1)))) ∧
  (∀ (e : Fin 512) (t : Fin 4) (rd ra : GReg) (imm : BitVec 16) (s s1 : State) (x : DWord), Issues (thKey e t) false [ra] s s1 →
    (s1.th (thKey e t)).r ra = x →
      exec (.addi e t rd ra imm) s = .next (became s (next (thKey e t) (wrRg (thKey e t) rd.toNat (x + imm.signExtend 64) s1))) ∧
      exec (.slti e t rd ra imm) s = .next (became s (next (thKey e t) (wrRg (thKey e t) rd.toNat (flag64 (decide (x.toInt < imm.toInt))) s1))) ∧
      exec (.sltiu e t rd ra imm) s = .next (became s (next (thKey e t) (wrRg (thKey e t) rd.toNat (flag64 (decide (x.toNat < (imm.signExtend 64).toNat))) s1))) ∧
      exec (.andi e t rd ra imm) s = .next (became s (next (thKey e t) (wrRg (thKey e t) rd.toNat (x &&& imm.setWidth 64) s1))) ∧
      exec (.ori e t rd ra imm) s = .next (became s (next (thKey e t) (wrRg (thKey e t) rd.toNat (x ||| imm.setWidth 64) s1))) ∧
      exec (.xori e t rd ra imm) s = .next (became s (next (thKey e t) (wrRg (thKey e t) rd.toNat (x ^^^ imm.setWidth 64) s1)))) ∧
  (∀ (e : Fin 512) (t : Fin 4) (rd : GReg) (imm : BitVec 16) (s s1 : State), Issues (thKey e t) false [] s s1 →
      exec (.lui e t rd imm) s = .next (became s (next (thKey e t) (wrRg (thKey e t) rd.toNat ((imm.setWidth 32 <<< 16).signExtend 64) s1)))) ∧
  (∀ (e : Fin 512) (t : Fin 4) (rd ra : GReg) (n : Fin 64) (s s1 : State) (x : DWord), Issues (thKey e t) false [ra] s s1 →
    (s1.th (thKey e t)).r ra = x →
      exec (.shi e t rd ra (BitVec.ofNat 16 n)) s = .next (became s (next (thKey e t) (wrRg (thKey e t) rd.toNat (x <<< n.val) s1))) ∧
      exec (.shi e t rd ra (BitVec.ofNat 16 (64 + n))) s = .next (became s (next (thKey e t) (wrRg (thKey e t) rd.toNat (x >>> n.val) s1))) ∧
      exec (.shi e t rd ra (BitVec.ofNat 16 (128 + n))) s =
        .next (became s (next (thKey e t) (wrRg (thKey e t) rd.toNat (x.sshiftRight n.val) s1))) ∧
      exec (.shi e t rd ra (BitVec.ofNat 16 (192 + n))) s =
        .next (became s (next (thKey e t) (wrRg (thKey e t) rd.toNat (x.rotateRight n.val) s1)))) ∧
  (∀ (e : Fin 512) (t : Fin 4) (rd : GReg) (imm : BitVec 16) (h : BitVec 2) (s s1 : State) (x : DWord),
    Issues (thKey e t) false [rd] s s1 → (s1.th (thKey e t)).r rd = x →
      exec (.insh e t rd imm h) s = .next (became s (next (thKey e t) (wrRg (thKey e t) rd.toNat (insertHalf x imm h) s1))))

/-- What the integer operations compute, where a reader could take them two ways: division by 0 and of the most negative number, the
sign of a remainder, the counts at 0, the orders of bytes and the halfword that INSH replaces (R615, R616). -/
def Obligations.DivisionAndBitCounts : Prop :=
  (∀ x : DWord, divS x 0 = BitVec.allOnes 64 ∧ divU x 0 = BitVec.allOnes 64 ∧ remS x 0 = x ∧ remU x 0 = x) ∧
  (∀ x y : DWord, y ≠ 0 → x.toNat = (divU x y).toNat * y.toNat + (remU x y).toNat ∧ (remU x y).toNat < y.toNat) ∧
  (∀ x y : DWord, y ≠ 0 → ¬ (x = BitVec.intMin 64 ∧ y = BitVec.allOnes 64) →
    x.toInt = (divS x y).toInt * y.toInt + (remS x y).toInt ∧ (remS x y).toInt.natAbs < y.toInt.natAbs ∧
    0 ≤ (remS x y).toInt * x.toInt) ∧
  (divS (BitVec.intMin 64) (BitVec.allOnes 64) = BitVec.intMin 64 ∧ remS (BitVec.intMin 64) (BitVec.allOnes 64) = 0) ∧
  (leadZeros 0 = 64 ∧ oneBits 0 = 0) ∧
  (∀ x : DWord, x ≠ 0 → 2 ^ (63 - leadZeros x) ≤ x.toNat ∧ x.toNat < 2 ^ (64 - leadZeros x)) ∧
  (∀ (x : DWord) (i : Fin 64), (swapBytes 8 x).getLsbD i = x.getLsbD (8 * (7 - i.val / 8) + i.val % 8)) ∧
  (∀ (x : DWord) (i : Fin 64), (swapBytes 4 x).getLsbD i = (decide (i.val < 32) && x.getLsbD (8 * (3 - i.val / 8) + i.val % 8))) ∧
  (∀ (x : DWord) (i : Fin 64), (swapBytes 2 x).getLsbD i = (decide (i.val < 16) && x.getLsbD (8 * (1 - i.val / 8) + i.val % 8))) ∧
  (∀ (x : DWord) (imm : BitVec 16) (h : BitVec 2) (i : Fin 64), (insertHalf x imm h).getLsbD i =
    if i.val / 16 = h.toNat then imm.getLsbD (i.val % 16) else x.getLsbD i)

/-- A load completes: the register gets the bytes at ra plus the sign-extended offset, sign- or zero-extended, and PC advances by 4. An
address that is not a multiple of the width, or that the thread may not reach, raises its exception with BADADDR instead, and writes no
register (R556, R605, R607, R613, R617). -/
def Obligations.LoadsReadMemory : Prop :=
  (∀ (e : Fin 512) (t : Fin 4) (rd ra : GReg) (imm : BitVec 16) (s s1 s2 : State) (v : Nat) (ea : DWord),
    Issues (thKey e t) false [ra] s s1 → (s1.th (thKey e t)).r ra + imm.signExtend 64 = ea →
    (LoadReads (thKey e t) rd.toNat ea 8 false s1 v s2 →
      exec (.ld e t rd ra imm) s = .next (became s (next (thKey e t) (wrRg (thKey e t) rd.toNat (BitVec.ofNat 64 v) s2)))) ∧
    (LoadReads (thKey e t) rd.toNat ea 4 true s1 v s2 →
      exec (.lw e t rd ra imm) s = .next (became s (next (thKey e t) (wrRg (thKey e t) rd.toNat ((BitVec.ofNat 32 v).signExtend 64) s2)))) ∧
    (LoadReads (thKey e t) rd.toNat ea 4 false s1 v s2 →
      exec (.lwu e t rd ra imm) s = .next (became s (next (thKey e t) (wrRg (thKey e t) rd.toNat (BitVec.ofNat 64 v) s2)))) ∧
    (LoadReads (thKey e t) rd.toNat ea 2 true s1 v s2 →
      exec (.lh e t rd ra imm) s = .next (became s (next (thKey e t) (wrRg (thKey e t) rd.toNat ((BitVec.ofNat 16 v).signExtend 64) s2)))) ∧
    (LoadReads (thKey e t) rd.toNat ea 2 false s1 v s2 →
      exec (.lhu e t rd ra imm) s = .next (became s (next (thKey e t) (wrRg (thKey e t) rd.toNat (BitVec.ofNat 64 v) s2)))) ∧
    (LoadReads (thKey e t) rd.toNat ea 1 true s1 v s2 →
      exec (.lb e t rd ra imm) s = .next (became s (next (thKey e t) (wrRg (thKey e t) rd.toNat ((BitVec.ofNat 8 v).signExtend 64) s2)))) ∧
    (LoadReads (thKey e t) rd.toNat ea 1 false s1 v s2 →
      exec (.lbu e t rd ra imm) s = .next (became s (next (thKey e t) (wrRg (thKey e t) rd.toNat (BitVec.ofNat 64 v) s2))))) ∧
  (∀ (e : Fin 512) (t : Fin 4) (rd ra : GReg) (imm : BitVec 16) (s s1 : State) (ea : DWord) (c : Cause),
    Issues (thKey e t) false [ra] s s1 → (s1.th (thKey e t)).r ra + imm.signExtend 64 = ea →
    (s1.access (thKey e t) ea.toNat 8 8 false = .error c →
      exec (.ld e t rd ra imm) s = .next (became s (raiseExc (thKey e t) c (some ea) s1))) ∧
    (s1.access (thKey e t) ea.toNat 4 4 false = .error c →
      exec (.lw e t rd ra imm) s = .next (became s (raiseExc (thKey e t) c (some ea) s1))) ∧
    (s1.access (thKey e t) ea.toNat 4 4 false = .error c →
      exec (.lwu e t rd ra imm) s = .next (became s (raiseExc (thKey e t) c (some ea) s1))) ∧
    (s1.access (thKey e t) ea.toNat 2 2 false = .error c →
      exec (.lh e t rd ra imm) s = .next (became s (raiseExc (thKey e t) c (some ea) s1))) ∧
    (s1.access (thKey e t) ea.toNat 2 2 false = .error c →
      exec (.lhu e t rd ra imm) s = .next (became s (raiseExc (thKey e t) c (some ea) s1))) ∧
    (s1.access (thKey e t) ea.toNat 1 1 false = .error c →
      exec (.lb e t rd ra imm) s = .next (became s (raiseExc (thKey e t) c (some ea) s1))) ∧
    (s1.access (thKey e t) ea.toNat 1 1 false = .error c →
      exec (.lbu e t rd ra imm) s = .next (became s (raiseExc (thKey e t) c (some ea) s1))))

/-- A store completes: the low bytes of rs stand at ra plus the sign-extended offset, and the thread goes on. An address that is not a
multiple of the width, or that the thread may not write, raises its exception with BADADDR instead; while eight posted stores are
outstanding, a store beyond the cluster has no effect yet (R556, R607, R610, R613, R617). -/
def Obligations.StoresWriteMemory : Prop :=
  (∀ (e : Fin 512) (t : Fin 4) (rs ra : GReg) (imm : BitVec 16) (s s1 s2 : State) (ea : DWord),
    Issues (thKey e t) false [rs, ra] s s1 → (s1.th (thKey e t)).r ra + imm.signExtend 64 = ea →
    (StoreWrites (thKey e t) ((s1.th (thKey e t)).r rs) ea 8 s1 s2 → exec (.sd e t rs ra imm) s = .next (became s s2)) ∧
    (StoreWrites (thKey e t) ((s1.th (thKey e t)).r rs) ea 4 s1 s2 → exec (.sw e t rs ra imm) s = .next (became s s2)) ∧
    (StoreWrites (thKey e t) ((s1.th (thKey e t)).r rs) ea 2 s1 s2 → exec (.sh e t rs ra imm) s = .next (became s s2)) ∧
    (StoreWrites (thKey e t) ((s1.th (thKey e t)).r rs) ea 1 s1 s2 → exec (.sb e t rs ra imm) s = .next (became s s2))) ∧
  (∀ (e : Fin 512) (t : Fin 4) (rs ra : GReg) (imm : BitVec 16) (s s1 : State) (ea : DWord) (c : Cause),
    Issues (thKey e t) false [rs, ra] s s1 → (s1.th (thKey e t)).r ra + imm.signExtend 64 = ea →
    (s1.access (thKey e t) ea.toNat 8 8 true = .error c →
      exec (.sd e t rs ra imm) s = .next (became s (raiseExc (thKey e t) c (some ea) s1))) ∧
    (s1.access (thKey e t) ea.toNat 4 4 true = .error c →
      exec (.sw e t rs ra imm) s = .next (became s (raiseExc (thKey e t) c (some ea) s1))) ∧
    (s1.access (thKey e t) ea.toNat 2 2 true = .error c →
      exec (.sh e t rs ra imm) s = .next (became s (raiseExc (thKey e t) c (some ea) s1))) ∧
    (s1.access (thKey e t) ea.toNat 1 1 true = .error c →
      exec (.sb e t rs ra imm) s = .next (became s (raiseExc (thKey e t) c (some ea) s1)))) ∧
  (∀ (e : Fin 512) (t : Fin 4) (rs ra : GReg) (imm : BitVec 16) (s s1 : State) (ea : DWord) (g : Target),
    Issues (thKey e t) false [rs, ra] s s1 → (s1.th (thKey e t)).r ra + imm.signExtend 64 = ea → g.isFar = true →
    8 ≤ (s1.th (thKey e t)).posted.length →
    (s1.access (thKey e t) ea.toNat 8 8 true = .ok g → exec (.sd e t rs ra imm) s = .next (became s s)) ∧
    (s1.access (thKey e t) ea.toNat 4 4 true = .ok g → exec (.sw e t rs ra imm) s = .next (became s s)) ∧
    (s1.access (thKey e t) ea.toNat 2 2 true = .ok g → exec (.sh e t rs ra imm) s = .next (became s s)) ∧
    (s1.access (thKey e t) ea.toNat 1 1 true = .ok g → exec (.sb e t rs ra imm) s = .next (became s s)))

/-- A branch goes to PC plus four times its offset when its condition holds, and to the next instruction otherwise; JAL and JALR write PC
plus 4 and go to their target, JALR reading its base first. A JALR target that is not a multiple of 4 raises ALIGN with BADADDR
the target; the PC of a fetched instruction is a multiple of 4, and so is every other target (R605, R617). -/
def Obligations.BranchesAndJumps : Prop :=
  (∀ (e : Fin 512) (t : Fin 4) (rx ry : GReg) (off : BitVec 16) (s s1 : State) (x y g : DWord), Issues (thKey e t) false [rx, ry] s s1 →
    (s1.th (thKey e t)).r rx = x → (s1.th (thKey e t)).r ry = y → (s1.th (thKey e t)).pc + (off.signExtend 64 <<< 2) = g →
    g.toNat % 4 = 0 →
    exec (.beq e t rx ry off) s = .next (became s (if x = y then
      finish (thKey e t) g (pmuUnit (thKey e t / 4) 0x28 (thKey e t % 4) (s1.th (thKey e t)).user s1) else next (thKey e t) s1)) ∧
    exec (.bne e t rx ry off) s = .next (became s (if x ≠ y then
      finish (thKey e t) g (pmuUnit (thKey e t / 4) 0x28 (thKey e t % 4) (s1.th (thKey e t)).user s1) else next (thKey e t) s1)) ∧
    exec (.blt e t rx ry off) s = .next (became s (if x.toInt < y.toInt then
      finish (thKey e t) g (pmuUnit (thKey e t / 4) 0x28 (thKey e t % 4) (s1.th (thKey e t)).user s1) else next (thKey e t) s1)) ∧
    exec (.bge e t rx ry off) s = .next (became s (if y.toInt ≤ x.toInt then
      finish (thKey e t) g (pmuUnit (thKey e t / 4) 0x28 (thKey e t % 4) (s1.th (thKey e t)).user s1) else next (thKey e t) s1)) ∧
    exec (.bltu e t rx ry off) s = .next (became s (if x.toNat < y.toNat then
      finish (thKey e t) g (pmuUnit (thKey e t / 4) 0x28 (thKey e t % 4) (s1.th (thKey e t)).user s1) else next (thKey e t) s1)) ∧
    exec (.bgeu e t rx ry off) s = .next (became s (if y.toNat ≤ x.toNat then
      finish (thKey e t) g (pmuUnit (thKey e t / 4) 0x28 (thKey e t % 4) (s1.th (thKey e t)).user s1) else next (thKey e t) s1))) ∧
  (∀ (e : Fin 512) (t : Fin 4) (rd : GReg) (off : BitVec 21) (s s1 : State) (p g : DWord), Issues (thKey e t) false [] s s1 →
    (s1.th (thKey e t)).pc = p → p + (off.signExtend 64 <<< 2) = g → g.toNat % 4 = 0 →
    exec (.jal e t rd off) s = .next (became s (finish (thKey e t) g (wrRg (thKey e t) rd.toNat (p + 4)
      (pmuUnit (thKey e t / 4) 0x28 (thKey e t % 4) (s1.th (thKey e t)).user s1))))) ∧
  (∀ (e : Fin 512) (t : Fin 4) (rd ra : GReg) (imm : BitVec 16) (s s1 : State) (p g : DWord), Issues (thKey e t) false [ra] s s1 →
    (s1.th (thKey e t)).pc = p → (s1.th (thKey e t)).r ra + imm.signExtend 64 = g →
    (g.toNat % 4 = 0 → exec (.jalr e t rd ra imm) s = .next (became s (finish (thKey e t) g (wrRg (thKey e t) rd.toNat (p + 4)
      (pmuUnit (thKey e t / 4) 0x28 (thKey e t % 4) (s1.th (thKey e t)).user s1))))) ∧
    (g.toNat % 4 ≠ 0 → exec (.jalr e t rd ra imm) s = .next (became s (raiseExc (thKey e t) .align (some g) s1))))

/-- The time instructions complete. RDBT and RDWT read Bedrock or the served time of a cycle no more than two cycles old; CVWT converts with
the parameters of the instant and shows OLD in bit 127; differences saturate; TOPT, TRES, TONT and FRPT convert between the formats; TADD
and TADDB add a signed register. A pair operand named by g0 or an odd register raises ILLEGAL (R602, R618 to R621). -/
def Obligations.TimeInstructionsGiveTimes : Prop :=
  (∀ (e : Fin 512) (t : Fin 4) (pd : GReg) (s s1 : State), Issues (thKey e t) false [] s s1 → badPair pd = false → ∃ n ≤ 2,
    exec (.rdbt e t pd) s = .next (became s (next (thKey e t) (wrPair (thKey e t) pd (s1.bt - cyc n).toNat s1.nextFree))) ∧
    exec (.rdwt e t pd) s =
      .next (became s (next (thKey e t) (wrPair (thKey e t) pd (s1.servedAt (s1.bt - cyc n)).toNat s1.nextFree)))) ∧
  (∀ (e : Fin 512) (t : Fin 4) (pd pa : GReg) (s s1 : State) (x : BT80) (y : WT96), Issues (thKey e t) false (pairOf pa) s s1 →
    badPair pd = false → badPair pa = false → (s1.th (thKey e t)).bt pa = x → (s1.th (thKey e t)).wt pa = y →
    exec (.cvwt e t pd pa) s = .next (became s (next (thKey e t) (wrPair (thKey e t) pd
      (((s1.paramsAt x).1.served x).toNat + b2n (s1.paramsAt x).2 * 2 ^ 127) s1))) ∧
    exec (.topt e t pd pa) s = .next (became s (next (thKey e t) (wrPair (thKey e t) pd (toPt80 y).toNat s1))) ∧
    exec (.frpt e t pd pa) s = .next (became s (next (thKey e t) (wrPair (thKey e t) pd (fromPt80 x).toNat s1)))) ∧
  (∀ (e : Fin 512) (t : Fin 4) (rd pa : GReg) (s s1 : State) (y : WT96), Issues (thKey e t) false (pairOf pa) s s1 →
    badPair pa = false → (s1.th (thKey e t)).wt pa = y →
    exec (.tres e t rd pa) s = .next (became s (next (thKey e t) (wrRg (thKey e t) rd.toNat (BitVec.ofInt 64 (residual y)) s1))) ∧
    exec (.tont e t rd pa) s = .next (became s (next (thKey e t) (wrRg (thKey e t) rd.toNat (s1.nt64Of y) s1)))) ∧
  (∀ (e : Fin 512) (t : Fin 4) (rd pa pb : GReg) (s s1 : State), Issues (thKey e t) false (pairOf pa ++ pairOf pb) s s1 →
    badPair pa = false → badPair pb = false →
    exec (.tdiff e t rd pa pb) s = .next (became s (next (thKey e t) (wrRg (thKey e t) rd.toNat
      (BitVec.ofInt 64 (max (-2 ^ 63) (min (2 ^ 63 - 1) ((s1.th (thKey e t)).wt pa - (s1.th (thKey e t)).wt pb).toInt))) s1))) ∧
    exec (.tdiffb e t rd pa pb) s = .next (became s (next (thKey e t) (wrRg (thKey e t) rd.toNat
      (BitVec.ofInt 64 (max (-2 ^ 63) (min (2 ^ 63 - 1) ((s1.th (thKey e t)).bt pa - (s1.th (thKey e t)).bt pb).toInt))) s1)))) ∧
  (∀ (e : Fin 512) (t : Fin 4) (pd pa rb : GReg) (s s1 : State), Issues (thKey e t) false (pairOf pa ++ [rb]) s s1 →
    badPair pd = false → badPair pa = false →
    exec (.tadd e t pd pa rb) s = .next (became s (next (thKey e t) (wrPair (thKey e t) pd
      ((s1.th (thKey e t)).wt pa + ((s1.th (thKey e t)).r rb).signExtend 96).toNat s1))) ∧
    exec (.taddb e t pd pa rb) s = .next (became s (next (thKey e t) (wrPair (thKey e t) pd
      ((s1.th (thKey e t)).bt pa + ((s1.th (thKey e t)).r rb).signExtend 80).toNat s1)))) ∧
  (∀ (e : Fin 512) (t : Fin 4) (pd pa : GReg) (s s1 : State), s.canIssue (thKey e t) = true → (s.th (thKey e t)).postErr = none →
    fetchAt (thKey e t) s = (true, s1) → badPair pd = true ∨ badPair pa = true →
    exec (.topt e t pd pa) s = .next (became s (raiseExc (thKey e t) .illegal none s1)))

/-- EVAL, RSV, RCAN and TARM complete. EVAL stores the evaluation of the instant and port of its request and gives 0, or 1 for a port that
does not exist; RSV stores the words that the port's timestamp unit gives and writes their status; RCAN cancels the reservation that its
handle names; TARM arms the thread's timer (R517, R618, R622, R623, R636). -/
def Obligations.EvaluationsAndReservations : Prop :=
  (∀ (e : Fin 512) (t : Fin 4) (rd ra rb : GReg) (s s1 s2 : State) (a b : DWord) (g h : Target) (q : List Byte),
    Issues (thKey e t) false [ra, rb] s s1 → (s1.th (thKey e t)).r ra = a → (s1.th (thKey e t)).r rb = b →
    s1.access (thKey e t) a.toNat 16 8 false = .ok g → s1.access (thKey e t) b.toNat 32 8 true = .ok h →
    readRequest (thKey e t) a 16 g s1 = (some q, s2) →
    ((16 ≤ leAt q 10 1 ∧ leAt q 10 1 ≤ 254) →
      exec (.eval e t rd ra rb) s = .next (became s (next (thKey e t) (wrRg (thKey e t) rd.toNat 1 s2)))) ∧
    (∀ s3 : State, ¬ (16 ≤ leAt q 10 1 ∧ leAt q 10 1 ≤ 254) →
      memWrite (thKey e t / 32) h (evalResult s2 (BitVec.ofNat 80 (leAt q 0 10))
        (if leAt q 10 1 = 0xFF then none else some (leAt q 10 1)))
        (let b : BT80 := BitVec.ofNat 80 (leAt q 0 10)
         let p := if leAt q 10 1 = 0xFF then none else some (leAt q 10 1)
         noteEval b p (evaluate s2 b p).2.1 (pmuChip 0x0D 0 (s2.count Reg.ASY_CNT_EVAL))) = (.ok, s3) →
      exec (.eval e t rd ra rb) s = .next (became s (next (thKey e t) (wrRg (thKey e t) rd.toNat 0 s3))))) ∧
  (∀ (e : Fin 512) (t : Fin 4) (rd ra rb : GReg) (s s1 s2 s3 s4 : State) (a b : DWord) (g h : Target) (q : List Byte) (r : RsvReq)
    (gr : Grant),
    Issues (thKey e t) false [ra, rb] s s1 → (s1.th (thKey e t)).r ra = a → (s1.th (thKey e t)).r rb = b →
    s1.access (thKey e t) a.toNat 24 8 false = .ok g → s1.access (thKey e t) b.toNat 28 8 true = .ok h →
    readRequest (thKey e t) a 24 g s1 = (some q, s2) → rsvReq q = r → s2.pageStopped .tsu (r.port / 4) = false →
    s2.backed (masterOf (thKey e t)) (Reg.TSU_RQ_W (r.port / 4) 5) = false →
    reserve r none s2 = (gr, s3) →
    memWrite (thKey e t / 32) h (gr.words.flatMap (fun w => bytesLE 4 w.toNat)) s3 = (.ok, s4) →
    exec (.rsv e t rd ra rb) s =
      .next (became s (next (thKey e t) (wrRg (thKey e t) rd.toNat (BitVec.ofNat 64 gr.status.code) s4)))) ∧
  (∀ (e : Fin 512) (t : Fin 4) (ra : GReg) (s s1 : State) (v : DWord), Issues (thKey e t) false [ra] s s1 →
    (s1.th (thKey e t)).r ra = v → s1.pageLive (Reg.TSU (fld v 16 2)) = true →
    exec (.rcan e t ra) s = .next (became s (next (thKey e t) (cancelSlot (fld v 16 2) (fld v 0 11) s1)))) ∧
  (∀ (e : Fin 512) (t : Fin 4) (pa : GReg) (s s1 : State), Issues (thKey e t) false (pairOf pa) s s1 → badPair pa = false →
    (s1.th (thKey e t)).tmrArmed = false →
    exec (.tarm e t pa) s = .next (became s (next (thKey e t) (s1.setTh (thKey e t)
      { s1.th (thKey e t) with tmr := (s1.th (thKey e t)).wt pa, tmrArmed := true }))))

/-- The queue instructions complete. A push reads its element and stores it at TAIL, a pop copies the element at HEAD and then advances
HEAD; a full, empty or disabled queue gives its status without effect, but the waiting forms wait at a full or empty queue; QSTAT reads
the depth and the flags. While posted stores are outstanding a push has no effect yet (R567, R569, R604, R611, R624 to R627). -/
def Obligations.QueueInstructionsRun : Prop :=
  (∀ (e : Fin 512) (t : Fin 4) (rd ra rb : GReg) (s s1 : State) (n : Nat) (a : DWord) (g : Target),
    Issues (thKey e t) false [ra, rb] s s1 → queueOf ((s1.th (thKey e t)).r ra) = n → (s1.th (thKey e t)).r rb = a →
    (s1.th (thKey e t)).posted = [] → queueCheck (thKey e t) n a false s1 = .ok g →
    ((s1.queue n).en = false →
      exec (.qpush e t rd ra rb) s = .next (became s (queueDone (thKey e t) rd.toNat .disabled s1)) ∧
      exec (.qpushw e t rd ra rb) s = .next (became s (queueDone (thKey e t) rd.toNat .disabled s1))) ∧
    ((s1.queue n).en = true → (s1.queue n).cap ≤ (s1.queue n).depth →
      exec (.qpush e t rd ra rb) s = .next (became s (queueDone (thKey e t) rd.toNat .full s1)) ∧
      exec (.qpushw e t rd ra rb) s = .next (became s (queueWait (thKey e t) (.qpush rd.toNat n a) s1))) ∧
    (∀ (l : List Byte) (s2 s3 : State), (s1.queue n).en = true → (s1.queue n).depth < (s1.queue n).cap →
      memRead (thKey e t / 32) (s1.queue n).size g s1 = (.ok, l, s2) → queuePush n l s2 = (.ok, none, s3) →
      exec (.qpush e t rd ra rb) s = .next (became s (queueDone (thKey e t) rd.toNat .ok s3)) ∧
      exec (.qpushw e t rd ra rb) s = .next (became s (queueDone (thKey e t) rd.toNat .ok s3)))) ∧
  (∀ (e : Fin 512) (t : Fin 4) (rd ra rb : GReg) (s s1 : State) (n : Nat) (a : DWord) (g : Target),
    Issues (thKey e t) false [ra, rb] s s1 → queueOf ((s1.th (thKey e t)).r ra) = n → (s1.th (thKey e t)).r rb = a →
    queueCheck (thKey e t) n a true s1 = .ok g →
    ((s1.queue n).en = false →
      exec (.qpop e t rd ra rb) s = .next (became s (queueDone (thKey e t) rd.toNat .disabled s1)) ∧
      exec (.qpopw e t rd ra rb) s = .next (became s (queueDone (thKey e t) rd.toNat .disabled s1))) ∧
    ((s1.queue n).en = true → (s1.queue n).depth = 0 →
      exec (.qpop e t rd ra rb) s = .next (became s (queueDone (thKey e t) rd.toNat .empty s1)) ∧
      exec (.qpopw e t rd ra rb) s = .next (became s (queueWait (thKey e t) (.qpop rd.toNat n a) s1))) ∧
    (∀ (l : List Byte) (s2 s3 : State), (s1.queue n).depth ≠ 0 → queuePop n s1 = (.ok, l, s2) →
      memWrite (thKey e t / 32) g l s2 = (.ok, s3) →
      exec (.qpop e t rd ra rb) s = .next (became s (queueDone (thKey e t) rd.toNat .ok s3)) ∧
      exec (.qpopw e t rd ra rb) s = .next (became s (queueDone (thKey e t) rd.toNat .ok s3)))) ∧
  (∀ (e : Fin 512) (t : Fin 4) (rd ra : GReg) (s s1 : State) (n : Nat), Issues (thKey e t) false [ra] s s1 →
    queueOf ((s1.th (thKey e t)).r ra) = n → ((s1.th (thKey e t)).user = false ∨ (s1.queue n).user = true) →
    exec (.qstat e t rd ra) s = .next (became s (next (thKey e t) (wrRg (thKey e t) rd.toNat (BitVec.ofNat 64 ((s1.queue n).depth +
      b2n (s1.queue n).en * 2 ^ 29 + b2n (decide ((s1.queue n).depth = 0)) * 2 ^ 30 +
      b2n (decide ((s1.queue n).depth = (s1.queue n).cap)) * 2 ^ 31)) s1))))

/-- Events, barriers, semaphores, the crypto complex, the journal and the fence as a thread uses them. EWAIT and ETRY take the oldest
event, and without one wait or say so; EPOST and BCAST post events; BAR waits at a barrier; SACQ and STRY take a free semaphore, SREL
releases an owned one; CSUB gives a ticket, CWAIT and CTRY collect it; JRNL writes the journal word; FENCE completes once no posted store
is outstanding (R573, R577, R580, R582, R583, R611, R628 to R632, R635). -/
def Obligations.EventsAndSemaphoresRun : Prop :=
  (∀ (e : Fin 512) (t : Fin 4) (rd : GReg) (s s1 : State), Issues (thKey e t) false [] s s1 →
    (∀ (w : Word) (rest : List Word), (s1.th (thKey e t)).fifo = w :: rest →
      exec (.ewait e t rd) s = .next (became s (takeEvent (thKey e t) rd.toNat w rest s1)) ∧
      exec (.etry e t rd) s = .next (became s (takeEvent (thKey e t) rd.toNat w rest s1))) ∧
    ((s1.th (thKey e t)).fifo = [] →
      exec (.ewait e t rd) s = .next (became s (s1.setTh (thKey e t)
        { s1.th (thKey e t) with st := .wait, waitOn := .event, waiting := .ewait rd.toNat })) ∧
      exec (.etry e t rd) s = .next (became s (next (thKey e t) (wrRg (thKey e t) rd.toNat 0x8000000000000000 s1))))) ∧
  (∀ (e : Fin 512) (t : Fin 4) (ra rb : GReg) (s s1 : State) (x y : DWord) (d : Nat), Issues (thKey e t) true [ra, rb] s s1 →
    (s1.th (thKey e t)).posted = [] → (s1.th (thKey e t)).r ra = x → (s1.th (thKey e t)).r rb = y →
    8 * (thKey e t / 32) + fld x 2 3 = d → (next (thKey e t) s1).engEn d = true → (next (thKey e t) s1).engRst d = false →
    exec (.epost e t ra rb) s = .next (became s (postTo (4 * d + fld x 0 2) 5 (fld y 0 24) (next (thKey e t) s1)))) ∧
  (∀ (e : Fin 512) (t : Fin 4) (rd ra : GReg) (s s1 : State) (b : Nat), Issues (thKey e t) false [ra] s s1 →
    fld ((s1.th (thKey e t)).r ra) 0 4 = b →
    (s1.barMember b (thKey e t) = false →
      exec (.barArrive e t rd ra) s = .next (became s (next (thKey e t) (wrRg (thKey e t) rd.toNat 2 s1)))) ∧
    (∀ s2 : State, s1.barMember b (thKey e t) = true → (s1.arrivedAt b).contains (thKey e t) = false → s2.fltBit Reg.SEM 0 = false →
      (pmuUnit (512 + thKey e t / 32) 0x07 0 false (s1.setTh (thKey e t)
        { s1.th (thKey e t) with st := .wait, waitOn := .barrier, waiting := .bar rd.toNat b })).setArrived b
          ((pmuUnit (512 + thKey e t / 32) 0x07 0 false (s1.setTh (thKey e t)
            { s1.th (thKey e t) with st := .wait, waitOn := .barrier, waiting := .bar rd.toNat b })).arrivedAt b ++ [thKey e t]) = s2 →
      exec (.barArrive e t rd ra) s = .next (became s (barCheck b s2)))) ∧
  (∀ (e : Fin 512) (t : Fin 4) (ra rb : GReg) (s s1 : State) (b : Nat), Issues (thKey e t) true [ra, rb] s s1 →
    (s1.th (thKey e t)).posted = [] → fld ((s.th (thKey e t)).r ra) 0 4 = b → s.barMember b (thKey e t) = true →
    exec (.bcast e t ra rb) s = .next (became s ((s1.barMembers b).foldl (fun a j => postTo j 4 b
      (a.setTh j { a.th j with bcast := (s1.th (thKey e t)).r rb })) (next (thKey e t) s1)))) ∧
  (∀ (e : Fin 512) (t : Fin 4) (rd ra : GReg) (s s1 : State) (n : Nat), Issues (thKey e t) false [ra] s s1 →
    fld ((s1.th (thKey e t)).r ra) 0 8 = n → s1.fltBit Reg.SEM 0 = false → (s1.sem n).owner = none →
    exec (.sacq e t rd ra) s = .next (became s (next (thKey e t) (wrRg (thKey e t) rd.toNat (if (s1.sem n).broken then 1 else 0)
      (s1.setSem n { s1.sem n with owner := some (thKey e t) })))) ∧
    exec (.stry e t rd ra) s = .next (became s (next (thKey e t) (wrRg (thKey e t) rd.toNat (if (s1.sem n).broken then 1 else 0)
      (s1.setSem n { s1.sem n with owner := some (thKey e t) }))))) ∧
  (∀ (e : Fin 512) (t : Fin 4) (rd ra : GReg) (s s1 : State) (n j : Nat), Issues (thKey e t) false [ra] s s1 →
    fld ((s1.th (thKey e t)).r ra) 0 8 = n → s1.fltBit Reg.SEM 0 = false → (s1.sem n).owner = some j → j ≠ thKey e t →
    exec (.sacq e t rd ra) s = .next (became s ((s1.setTh (thKey e t)
      { s1.th (thKey e t) with st := .wait, waitOn := .sema, waiting := .sacq rd.toNat n }).setSem n
        ((s1.sem n).enqueue s1.bt (thKey e t)))) ∧
    exec (.stry e t rd ra) s = .next (became s (next (thKey e t) (wrRg (thKey e t) rd.toNat 2 s1)))) ∧
  (∀ (e : Fin 512) (t : Fin 4) (rd ra : GReg) (s s1 : State) (n : Nat), Issues (thKey e t) false [ra] s s1 →
    (s1.th (thKey e t)).posted = [] → fld ((s1.th (thKey e t)).r ra) 0 8 = n → (s1.sem n).owner = some (thKey e t) →
    exec (.srel e t rd ra) s = .next (became s (next (thKey e t) (wrRg (thKey e t) rd.toNat 0
      (semPass n (s1.setSem n { s1.sem n with owner := none, broken := false })))))) ∧
  (∀ (e : Fin 512) (t : Fin 4) (rd ra : GReg) (s s1 s2 s3 : State) (a : DWord) (g : Target) (l : List Byte) (n : Nat),
    Issues (thKey e t) false [ra] s s1 →
    (s1.th (thKey e t)).posted = [] → (s1.th (thKey e t)).r ra = a → s1.access (thKey e t) a.toNat 32 32 false = .ok g →
    (s1.th (thKey e t)).tickets.length < 8 → memRead (thKey e t / 32) 32 g s1 = (.ok, l, s2) → cryTake (thKey e t) l s2 = (n, s3) →
    exec (.csub e t rd ra) s = .next (became s (next (thKey e t) (wrRg (thKey e t) rd.toNat (BitVec.ofNat 64 n)
      (pmuUnit (thKey e t / 4) 0x25 (thKey e t % 4) (s3.th (thKey e t)).user s3))))) ∧
  (∀ (e : Fin 512) (t : Fin 4) (rd ra : GReg) (s s1 : State) (n : Nat), Issues (thKey e t) false [ra] s s1 →
    fld ((s1.th (thKey e t)).r ra) 0 16 = n →
    (∀ (x : Ticket) (w : Word), (s1.th (thKey e t)).tickets.find? (fun y => decide (y.num = n)) = some x → x.done = some w →
      exec (.cwait e t rd ra) s = .next (became s (collect (thKey e t) rd.toNat n w s1)) ∧
      exec (.ctry e t rd ra) s = .next (became s (collect (thKey e t) rd.toNat n w s1))) ∧
    ((s1.th (thKey e t)).tickets.find? (fun y => decide (y.num = n)) = none →
      exec (.cwait e t rd ra) s = .next (became s (next (thKey e t) (wrRg (thKey e t) rd.toNat 0x8000000000000000 s1))) ∧
      exec (.ctry e t rd ra) s = .next (became s (next (thKey e t) (wrRg (thKey e t) rd.toNat 0x8000000000000000 s1))))) ∧
  (∀ (e : Fin 512) (t : Fin 4) (ra : GReg) (s s1 : State), Issues (thKey e t) false [ra] s s1 →
    exec (.jrnl e t ra) s = .next (became s (next (thKey e t) (journalSet (thKey e t)
      (((s1.th (thKey e t)).r ra).setWidth 32) s1)))) ∧
  (∀ (e : Fin 512) (t : Fin 4) (s s1 : State), Issues (thKey e t) false [] s s1 →
    ((s1.th (thKey e t)).posted = [] → exec (.fence e t) s = .next (became s (next (thKey e t) s1))) ∧
    ((s1.th (thKey e t)).posted ≠ [] → exec (.fence e t) s = .next (became s s))) ∧
  (∀ (x : Sem) (b : BT80) (k : Nat), x.lastAt ≠ b → (x.enqueue b k).waiters = x.waiters ++ [k])

/-- What an exception does to its thread: EPC names the instruction, or the next one for SYSCALL; CAUSE holds the code; BADADDR changes
only where an address is concerned. A user thread goes on at ENG_VEC in supervisor mode; a supervisor thread halts at BREAK and otherwise
faults (R557 to R560, R613). -/
def Obligations.ExceptionsAreTaken : Prop :=
  ∀ (k : Nat) (c : Cause) (bad : Option DWord) (s s1 : State) (t : Thread),
    pmuUnit (k / 4) 0x27 (k % 4) (s.th k).user s = s1 →
    t = { s1.th k with epc := if c = .sysCall then (s.th k).pc + 4 else (s.th k).pc, cause := BitVec.ofNat 4 c.code,
                       badaddr := bad.getD (s.th k).badaddr } →
    ((s.th k).user = true → raiseExc k c bad s =
      s1.setTh k { t with user := false, pc := BitVec.ofNat 64 (s1.regN (Reg.ENG_VEC (k / 4)) 2) }) ∧
    ((s.th k).user = false → c = .breakPoint → raiseExc k c bad s = thHalt k (s1.setTh k t)) ∧
    ((s.th k).user = false → c ≠ .breakPoint → raiseExc k c bad s = fault .eng (k / 4) 2 (thFault k (s1.setTh k t))) ∧
    (c.code = 1 ↔ c = .illegal) ∧ (c.code = 2 ↔ c = .priv) ∧ (c.code = 3 ↔ c = .access) ∧ (c.code = 4 ↔ c = .align) ∧
    (c.code = 5 ↔ c = .memEcc) ∧ (c.code = 6 ↔ c = .fetch) ∧ (c.code = 7 ↔ c = .sysCall) ∧ (c.code = 8 ↔ c = .breakPoint) ∧
    (c.code = 9 ↔ c = .busErr) ∧ (c.code = 10 ↔ c = .queue)

/-- An instruction that a thread issues meets its exceptions in order: an error of an earlier posted store, then a fetch that is not
permitted or not correctable, then an unlisted word, then a privileged instruction of a user thread (R599, R610, R612). -/
def Obligations.ExceptionsComeInOrder : Prop :=
  (∀ (e : Fin 512) (t : Fin 4) (rd ra rb : GReg) (a : DWord) (s : State), s.canIssue (thKey e t) = true →
    (s.th (thKey e t)).postErr = some a →
    exec (.add e t rd ra rb) s =
      .next (became s (raiseExc (thKey e t) .busErr (some a) (s.setTh (thKey e t) { s.th (thKey e t) with postErr := none })))) ∧
  (∀ (e : Fin 512) (t : Fin 4) (rd ra rb : GReg) (s s1 : State), s.canIssue (thKey e t) = true → (s.th (thKey e t)).postErr = none →
    fetchAt (thKey e t) s = (false, s1) →
    exec (.add e t rd ra rb) s = .next (became s (raiseExc (thKey e t) .fetch (some (s1.th (thKey e t)).pc) s1))) ∧
  (∀ (e : Fin 512) (t : Fin 4) (w : Word) (s s1 : State), s.canIssue (thKey e t) = true → (s.th (thKey e t)).postErr = none →
    fetchAt (thKey e t) s = (true, s1) → listedWord w = false →
    exec (.illegalEncoding e t w) s = .next (became s (raiseExc (thKey e t) .illegal none s1))) ∧
  (∀ (e : Fin 512) (t : Fin 4) (ra rb : GReg) (s s1 : State), s.canIssue (thKey e t) = true → (s.th (thKey e t)).postErr = none →
    fetchAt (thKey e t) s = (true, s1) → (s1.th (thKey e t)).user = true →
    exec (.eret e t) s = .next (became s (raiseExc (thKey e t) .priv none s1)) ∧
    exec (.epost e t ra rb) s = .next (became s (raiseExc (thKey e t) .priv none s1))) ∧
  (∀ (e : Fin 512) (t : Fin 4) (rd ra rb : GReg) (s s1 : State), s.canIssue (thKey e t) = true → (s.th (thKey e t)).postErr = none →
    fetchAt (thKey e t) s = (true, s1) → s1.rgBad (thKey e t) ra.toNat = true →
    exec (.add e t rd ra rb) s = .next (became s (regfFault (thKey e t) s1))) ∧
  (∀ (e : Fin 512) (t : Fin 4) (rd ra rb : GReg) (s : State), s.canIssue (thKey e t) = false → exec (.add e t rd ra rb) s = .next s)

/-- The system instructions run. SYSCALL of a user thread and BREAK take their exception, and SYSCALL of a supervisor is ILLEGAL; ERET goes
to EPC in user mode; MFSR reads the special registers and MTSR writes EPC, VEC and SSCR; PMRD reads a counter with its overflow flag in bit
63 (R557 to R559, R637 to R639). -/
def Obligations.SystemInstructionsRun : Prop :=
  (∀ (e : Fin 512) (t : Fin 4) (s s1 : State), Issues (thKey e t) false [] s s1 →
    ((s.th (thKey e t)).user = true → exec (.sysCall e t) s = .next (became s (raiseExc (thKey e t) .sysCall none s1))) ∧
    ((s.th (thKey e t)).user = false → exec (.sysCall e t) s = .next (became s (raiseExc (thKey e t) .illegal none s1))) ∧
    exec (.breakOp e t) s = .next (became s (raiseExc (thKey e t) .breakPoint none s1))) ∧
  (∀ (e : Fin 512) (t : Fin 4) (s s1 s2 : State), Issues (thKey e t) true [] s s1 →
    finish (thKey e t) (s1.th (thKey e t)).epc s1 = s2 →
    exec (.eret e t) s = .next (became s (s2.setTh (thKey e t) { s2.th (thKey e t) with user := true }))) ∧
  (∀ (e : Fin 512) (t : Fin 4) (rd : GReg) (s s1 : State), Issues (thKey e t) true [] s s1 →
    exec (.mfsr e t rd 0) s = .next (became s (next (thKey e t) (wrRg (thKey e t) rd.toNat (s1.th (thKey e t)).epc s1))) ∧
    exec (.mfsr e t rd 1) s =
      .next (became s (next (thKey e t) (wrRg (thKey e t) rd.toNat (BitVec.ofNat 64 (s1.th (thKey e t)).statWord) s1))) ∧
    exec (.mfsr e t rd 2) s = .next (became s (next (thKey e t) (wrRg (thKey e t) rd.toNat
      (BitVec.ofNat 64 (4 * e.val + t.val + e.val / 8 * 2 ^ 16)) s1))) ∧
    exec (.mfsr e t rd 3) s = .next (became s (next (thKey e t) (wrRg (thKey e t) rd.toNat
      (BitVec.ofNat 64 (s1.regN (Reg.ENG_VEC (thKey e t / 4)) 2)) s1))) ∧
    exec (.mfsr e t rd 4) s = .next (became s (next (thKey e t) (wrRg (thKey e t) rd.toNat (s1.th (thKey e t)).badaddr s1))) ∧
    exec (.mfsr e t rd 5) s = .next (became s (next (thKey e t) (wrRg (thKey e t) rd.toNat
      (BitVec.ofNat 64 (s1.engCycles (thKey e t / 4))) s1.nextFree))) ∧
    exec (.mfsr e t rd 6) s = .next (became s (next (thKey e t) (wrRg (thKey e t) rd.toNat (s1.th (thKey e t)).sscr s1)))) ∧
  (∀ (e : Fin 512) (t : Fin 4) (ra : GReg) (s s1 : State) (v : DWord), Issues (thKey e t) true [ra] s s1 →
    (s1.th (thKey e t)).r ra = v →
    exec (.mtsr e t 0 ra) s = .next (became s (next (thKey e t) (s1.setTh (thKey e t) { s1.th (thKey e t) with epc := v }))) ∧
    exec (.mtsr e t 3 ra) s = .next (became s (next (thKey e t) (vecWrite (thKey e t) v s1))) ∧
    exec (.mtsr e t 6 ra) s = .next (became s (next (thKey e t) (s1.setTh (thKey e t) { s1.th (thKey e t) with sscr := v })))) ∧
  (∀ (e : Fin 512) (t : Fin 4) (rd ra : GReg) (s s1 : State) (c : Nat), Issues (thKey e t) false [ra] s s1 →
    (s1.th (thKey e t)).user = false → pmrdKey (thKey e t) (fld ((s1.th (thKey e t)).r ra) 0 7) = some c →
    exec (.pmrd e t rd ra) s = .next (became s (next (thKey e t) (wrRg (thKey e t) rd.toNat
      (BitVec.ofNat 64 ((s1.ctr c).count.toNat + b2n (s1.ctr c).ovf * 2 ^ 63)) s1)))) ∧
  (∀ (e : Fin 512) (t : Fin 4) (w : Word) (s s1 : State), s.canIssue (thKey e t) = true → (s.th (thKey e t)).postErr = none →
    fetchAt (thKey e t) s = (true, s1) → listedWord w = false →
    exec (.illegalEncoding e t w) s = .next (became s (raiseExc (thKey e t) .illegal none s1))) ∧
  (∀ (k : Nat) (v : DWord) (s : State),
    (AMap.get 0 s.thisCyc.vec (k / 4) ≤ k % 4 + 1 → vecWrite k v s = injectNote (Reg.ENG_VEC (k / 4) + 4) s
      (let c := AMap.set 0 s.thisCyc.vec (k / 4) (k % 4 + 1)
       { s.setRegN (Reg.ENG_VEC (k / 4)) v.toNat 2 with thisCyc := { s.thisCyc with vec := c } })) ∧
    (k % 4 + 1 < AMap.get 0 s.thisCyc.vec (k / 4) → vecWrite k v s = s))

/-- What an integer instruction leaves alone, where no performance counter and no sampler watches its engine: it completes, PC advances by
4, and every other general register and every other part of its thread, every other thread, every memory and every register of the device
stays as the fetch left it. g0 stays 0 (R603 to R605, R615). -/
def Obligations.IntegerInstructionsFrame : Prop :=
  ∀ (e : Fin 512) (t : Fin 4) (rd ra rb : GReg) (imm : BitVec 16) (h : BitVec 2) (s s1 : State) (i : Instr),
    Issues (thKey e t) false [ra, rb, rd] s s1 → s1.pmuOn = false → s1.samples (thKey e t / 4) = false → s1.asy.ts = s.asy.ts →
    s1.regs = s.regs → s1.dpl = s.dpl →
    i ∈ [.add e t rd ra rb, .sub e t rd ra rb, .andOp e t rd ra rb, .orOp e t rd ra rb, .xorOp e t rd ra rb, .sll e t rd ra rb,
      .srl e t rd ra rb, .sra e t rd ra rb, .slt e t rd ra rb, .sltu e t rd ra rb, .mul e t rd ra rb, .mulh e t rd ra rb,
      .mulhu e t rd ra rb, .div e t rd ra rb, .divu e t rd ra rb, .rem e t rd ra rb, .remu e t rd ra rb, .clz e t rd ra,
      .popc e t rd ra, .bswap e t rd ra, .bswap32 e t rd ra, .bswap16 e t rd ra, .addi e t rd ra imm, .slti e t rd ra imm,
      .sltiu e t rd ra imm, .andi e t rd ra imm, .ori e t rd ra imm, .xori e t rd ra imm, .lui e t rd imm, .shi e t rd ra (imm % 256),
      .insh e t rd imm h] →
    ∃ u, exec i s = .next u ∧ (u.th (thKey e t)).pc = (s1.th (thKey e t)).pc + 4 ∧
      (∀ r, r ≠ rd.toNat ∨ r = 0 → (u.th (thKey e t)).rg r = (s1.th (thKey e t)).rg r) ∧
      { u.th (thKey e t) with g := (s1.th (thKey e t)).g, pc := (s1.th (thKey e t)).pc } = s1.th (thKey e t) ∧
      (∀ k, k ≠ thKey e t → u.th k = s1.th k) ∧
      { u with fct := s1.fct, badWords := s1.badWords } = s1 ∧
      { u.fct with threads := s1.fct.threads } = s1.fct ∧
      (∀ j, j ≠ rgKey (thKey e t) rd.toNat → AMap.get false u.badWords j = AMap.get false s1.badWords j)

/-- What a store leaves alone, where no performance counter and no sampler watches its engine: every byte outside the bytes
stored, at the address that ra and the offset give, in every memory (local, data, shared SRAM, MRAM, and DRAM outside the record table, which
stores reach through the record cache), and every other thread (R554, R607, R617). -/
def Obligations.StoresFrame : Prop :=
  ∀ (e : Fin 512) (t : Fin 4) (rs ra : GReg) (imm : BitVec 16) (s s1 s2 : State) (ea : DWord) (i : Instr) (n : Nat) (g : Target),
    Issues (thKey e t) false [rs, ra] s s1 → s1.pmuOn = false → s1.samples (thKey e t / 4) = false →
    (s1.th (thKey e t)).r ra + imm.signExtend 64 = ea → s1.access (thKey e t) ea.toNat n n true = .ok g →
    (i, n) ∈ [(.sd e t rs ra imm, 8), (.sw e t rs ra imm, 4), (.sh e t rs ra imm, 2), (.sb e t rs ra imm, 1)] →
    StoreWrites (thKey e t) ((s1.th (thKey e t)).r rs) ea n s1 s2 →
    exec i s = .next (became s s2) ∧
    (∀ m off, g = .lmem m off → s2.dram = s1.dram ∧ s2.sram = s1.sram ∧ s2.mram = s1.mram ∧ s2.regs = s1.regs ∧
      s2.fct.dmem = s1.fct.dmem ∧ s2.fct.imem = s1.fct.imem ∧ (∀ k, k ≠ thKey e t → s2.th k = s1.th k) ∧
      ∀ x, ¬ (m * 0x10000 + off ≤ x ∧ x < m * 0x10000 + off + n) → AMap.get 0 s2.fct.lmem x = AMap.get 0 s1.fct.lmem x) ∧
    (∀ c off, g = .dmem c off → s2.dram = s1.dram ∧ s2.sram = s1.sram ∧ s2.mram = s1.mram ∧ s2.regs = s1.regs ∧
      s2.fct.lmem = s1.fct.lmem ∧ s2.fct.imem = s1.fct.imem ∧ (∀ k, k ≠ thKey e t → s2.th k = s1.th k) ∧
      ∀ x, ¬ (c * 0x80000 + off ≤ x ∧ x < c * 0x80000 + off + n) → AMap.get 0 s2.fct.dmem x = AMap.get 0 s1.fct.dmem x) ∧
    (∀ off, g = .sram off → s2.dram = s1.dram ∧ s2.mram = s1.mram ∧ s2.regs = s1.regs ∧ s2.fct.lmem = s1.fct.lmem ∧
      s2.fct.dmem = s1.fct.dmem ∧ s2.fct.imem = s1.fct.imem ∧ (∀ k, k ≠ thKey e t → s2.th k = s1.th k) ∧
      ∀ x, ¬ (off ≤ x ∧ x < off + n) → AMap.get 0 s2.sram x = AMap.get 0 s1.sram x) ∧
    (∀ off, g = .dram off → s1.inTable off n = false → s2.sram = s1.sram ∧ s2.mram = s1.mram ∧ s2.fct.lmem = s1.fct.lmem ∧
      s2.fct.dmem = s1.fct.dmem ∧ s2.fct.imem = s1.fct.imem ∧ (∀ k, k ≠ thKey e t → s2.th k = s1.th k) ∧
      ∀ x, ¬ (off ≤ x ∧ x < off + n) → AMap.get 0 s2.dram x = AMap.get 0 s1.dram x) ∧
    (∀ off, g = .mram off → s1.mrm.remap ≠ some (off / 0x20000) → s2.sram = s1.sram ∧ s2.dram = s1.dram ∧ s2.fct.lmem = s1.fct.lmem ∧
      s2.fct.dmem = s1.fct.dmem ∧ s2.fct.imem = s1.fct.imem ∧ (∀ k, k ≠ thKey e t → s2.th k = s1.th k) ∧
      ∀ x, (∀ i, i < n → x ≠ s1.mramPhys (off + i)) → AMap.get 0 s2.mram x = AMap.get 0 s1.mram x)

/-- A queue gives back what it took, in the order in which it took it: after a push into an empty queue whose ring lies in the shared
memories, a pop gives the element that was pushed and leaves the queue empty; and a push or pop of one queue leaves every other queue as it
was (R566, R567, R569). -/
def Obligations.QueuesGiveBackElements : Prop :=
  (∀ (n : Nat) (l r : List Byte) (w : Option Nat) (s s1 s2 : State), (s.queue n).depth = 0 → l.length = (s.queue n).size →
    (inSram ((s.queue n).slot (s.queue n).tail) l.length = true ∨ inDram ((s.queue n).slot (s.queue n).tail) l.length = true) →
    queuePush n l s = (.ok, w, s1) → queuePop n s1 = (.ok, r, s2) → r = l ∧ (s2.queue n).depth = 0 ∧ (s1.queue n).depth = 1) ∧
  (∀ (n m : Nat) (l r : List Byte) (st : QStatus) (w : Option Nat) (s s1 s2 : State), n ≠ m → queuePush n l s = (st, w, s1) →
    queuePop n s = (st, r, s2) → s1.queue m = s.queue m ∧ s2.queue m = s.queue m) ∧
  (∀ (n : Nat) (l : List Byte) (s : State), (s.queue n).en = true →
    ((queuePush n l s).1 = .ok ↔ (s.queue n).depth < (s.queue n).cap)) ∧
  (∀ (n : Nat) (s : State), (s.queue n).en = true → ((queuePop n s).1 = .ok ↔ (s.queue n).depth ≠ 0))

/-- The record cache and the NTP service. Seeds are drawn once and shown ready; FLUSH, CLEAR and RESEED mark the cache busy, and their end
writes the dirty lines back or empties the table; a well-formed NTP request of a served time is answered as plain NTP or, with NTS extension
fields, as NTS, one of mode 6 or 7 goes to the exception ring, a malformed one is dropped as a client fault, and nothing is served while the
time is not; an ARP or neighbour request for a served address is answered (R651, R656, R660, R664, R670). -/
def Obligations.CacheAndNtpServe : Prop :=
  (∀ (s s1 s2 : State) (b : List Byte), Acts Reg.QRY s → s.svc.seeds = none → earlier s.bt s.svc.seedTry = false →
    drbg 16 s = (some b, s1) → raiseEvt Reg.QRY 3 ({ s1 with svc := { s1.svc with
      seeds := some (BitVec.ofNat 64 (beAt b 0 8), BitVec.ofNat 64 (beAt b 8 8)) } }.setRb Reg.QRY_STAT 2 true) = s2 →
    exec .quarrySeed s = .next (became s (if s2.mrole = .active then mateSeeds s2 else s2))) ∧
  (∀ (m : Master) (v : Word) (s : State), Reaches m Reg.QRY_CMD s → bit v 0 = true → bit v 1 = false → bit v 2 = false →
    exec (.qryFlush m v) s = .next (wrote Reg.QRY_CMD s ({ s with svc := { s.svc with flushAt := some s.bt } }.setRb Reg.QRY_STAT 0 true))) ∧
  (∀ (b : BT80) (s s1 : State), Acts Reg.QRY s → s.svc.flushAt = some b → s.svc.cache.foldl (fun a e => writeBack e.1 a) s = s1 →
    exec .flushDone s = .next (became s (raiseEvt Reg.QRY 0 ({ s1 with svc := { s1.svc with flushAt := none } }.setRb Reg.QRY_STAT 0 false)))) ∧
  (∀ (m : Master) (v : Word) (s : State), Reaches m Reg.QRY_CMD s → bit v 0 = false → s.pgEn Reg.QRY = false →
    (bit v 1 = true → bit v 2 = false → exec (.qryClear m v) s = .next (wrote Reg.QRY_CMD s
      ((dropCache { s with svc := { s.svc with clearAt := some (s.bt, false) } }).setRb Reg.QRY_STAT 1 true))) ∧
    (bit v 1 = false → bit v 2 = true → exec (.quarryReseed m v) s = .next (wrote Reg.QRY_CMD s
      ((dropCache { s with svc := { s.svc with clearAt := some (s.bt, true) } }).setRb Reg.QRY_STAT 1 true)))) ∧
  (∀ (b : BT80) (re : Bool) (s s1 s2 : State), Acts Reg.QRY s → s.svc.clearAt = some (b, re) → zeroTable (dropCache s) = s1 →
    raiseEvt Reg.QRY 1 ({ s1 with svc := { s1.svc with clearAt := none } }.setRb Reg.QRY_STAT 1 false) = s2 →
    exec .clearDone s = .next (became s (if re then
      quarrySeed ({ s2 with svc := { s2.svc with seeds := none, seedTry := s2.bt } }.setRb Reg.QRY_STAT 2 false) else s2))) ∧
  (∀ (p : Fin 16) (cl : Fin 63) (rx : BT80) (d : List Byte) (s s1 : State) (r : Req), Acts Reg.QRY s →
    s.request p cl rx d = r → takeRx 2 r d s = s1 →
    (s1.servesAt (r.at_ s1) = false → exec (.ntpRequest p cl rx d) s = .next (became s (notServed r s1))) ∧
    (s1.servesAt (r.at_ s1) = true → beAt r.pay 0 1 % 8 = 6 ∨ beAt r.pay 0 1 % 8 = 7 →
      exec (.ntpRequest p cl rx d) s = .next (became s (toException 2 r d s1))) ∧
    (s1.servesAt (r.at_ s1) = true → beAt r.pay 0 1 % 8 = 3 ∨ beAt r.pay 0 1 % 8 = 1 →
      beAt r.pay 0 1 / 8 % 8 = 3 ∨ beAt r.pay 0 1 / 8 % 8 = 4 → 48 ≤ r.pay.length →
      ∀ efs, parseEfs r.pay (r.pay.length + 1) 48 = some efs → (∀ x, s1.recReq efs = some x → 12 ≤ x.len) →
      (efs.any (fun x => ntsTypes.contains x.typ) = false →
        exec (.ntpRequest p cl rx d) s = .next (became s (servePlain r efs s1))) ∧
      (∀ swapped, efs.any (fun x => ntsTypes.contains x.typ) = true →
        exec (.ntsRequest p cl rx d swapped) s = .next (became s (serveNts r efs swapped s1))))) ∧
  (∀ (p : Fin 16) (cl : Fin 63) (rx : BT80) (d : List Byte) (s s1 : State) (r : Req), Acts Reg.QRY s →
    s.request p cl rx d = r → takeRx 3 r d s = s1 → s1.servesAt (r.at_ s1) = true →
    (r.h.etype = 0x0806 → beAt r.f (r.h.l3 + 2) 2 = 0x0800 → beAt r.f r.h.l3 2 = 1 → beAt r.f (r.h.l3 + 6) 2 = 1 →
      s1.svcFor p r.h.vid 4 (sliceB r.f (r.h.l3 + 24) 4) = true →
      exec (.arpNdRequest p cl rx d) s = .next (became s (arpAnswer r s1))) ∧
    (r.h.etype ≠ 0x0806 → r.n.v = 6 → r.n.proto = 58 → beAt r.f r.n.l4 1 = 135 →
      s1.svcFor p r.h.vid 6 (sliceB r.f (r.n.l4 + 8) 16) = true →
      exec (.arpNdRequest p cl rx d) s = .next (became s (ndAnswer r s1))))

/-- The PTP service and its upstream sessions. An authentic Delay_Req that the policer passes is answered; a scheduled Sync or Announce is
reserved for its next target and built; a Follow_Up is sent once its Sync is; Signaling is answered TLV by TLV; an expired grant and a
finished quarantine end; an upstream session asks for renewal, takes its messages and is lost after three silent intervals (R683 to R686,
R692 to R699). -/
def Obligations.PtpServes : Prop :=
  (∀ (p : Fin 16) (cl : Fin 63) (rx : BT80) (d m : List Byte) (l : List Tlv) (i : Nat) (c : Option (Nat × QRec)) (r : Req) (s s1 s2 : State), Acts Reg.QRY s →
    ptpEnter p cl rx d s = (some (r, m, l, i), s1) → beAt m 0 1 % 16 = 1 → policeReq r 1 s1 = (true, c, s2) →
    (∀ s3 : State, ptpAuth i m l s2 = (true, s3) → exec (.delayReq p cl rx d) s = .next (became s (answerDelay r i m s3))) ∧
    (∀ s3 : State, ptpAuth i m l s2 = (false, s3) → exec (.delayReq p cl rx d) s = .next (became s (clientFault r 7 .dropped 1 s3)))) ∧
  (∀ (i : Fin 8) (p : Fin 16) (ses : Option (BitVec 18)) (ann : Bool) (x : Sched) (s s1 s2 : State) (t : WT96) (n : Nat) (g : Grant),
    Acts Reg.QRY s → s.schedOf i p (ses.map BitVec.toNat) ann = some x → s.nextFree.nextFree = s1 →
    nextTarget x.log x.phase (s1.servedAt (s1.bt + cyc (s1.rf (Reg.TSU_LEAD (p.val / 4)) 0 16))) = t → s1.servesAt t = true →
    AMap.get none s.svc.tried (schedKey i p (ses.map BitVec.toNat) ann) ≠ some t →
    x.env.ptpLen ((if ann then 64 else 44) + (if s1.rb Reg.ASY_PTLV_CTRL (if ann then 7 else 4) then 30 else 0) +
      (if (s1.instAuth i).isSome then 26 else 0)) = n →
    reserve { port := p, at_ := true, len := wireLen n, tag := BitVec.ofNat 32 s1.nextFree.freeVal, cq := x.cq, target := t } none
      (let y := AMap.set none s1.svc.tried (schedKey i p (ses.map BitVec.toNat) ann) (some t);
       State.nextFree (State.nextFree { s1 with svc := { s1.svc with tried := y } })) = (g, s2) → g.status = .granted →
    (ann = false → exec (.syncTarget i p ses) s = .next (became s (buildSync s1.someCluster i p (ses.map BitVec.toNat) x g s2))) ∧
    (ann = true → exec (.announceTarget i p ses) s = .next (became s (buildAnnounce s1.someCluster i p (ses.map BitVec.toNat) x g s2)))) ∧
  (∀ (g : Fin 4) (h : BitVec 11) (w : Watch) (f : List Byte) (s s1 : State), Acts Reg.QRY s →
    AMap.get none s.svc.watch (2048 * g.val + h.toNat) = some w → w.fup = some f → w.sent = true →
    { s with svc := { s.svc with watch := AMap.set none s.svc.watch (2048 * g.val + h.toNat) none } } = s1 →
    exec (.followUp g h) s = .next (became s (stat1 w.cl 15 (sendWeighted w.port f s1).2))) ∧
  (∀ (p : Fin 16) (cl : Fin 63) (rx : BT80) (d m b : List Byte) (l : List Tlv) (i : Nat) (c : Option (Nat × QRec)) (r : Req) (s s1 s2 s3 s4 : State),
    Acts Reg.QRY s → ptpEnter p cl rx d s = (some (r, m, l, i), s1) → beAt m 0 1 % 16 = 0xC → l.any (s1.isRecTlv m) = false →
    policeReq r 1 s1 = (true, c, s2) → ptpAuth i m l s2 = (true, s3) → s3.profile i = 2 →
    l.any (fun t => decide (t.typ = 4 ∨ t.typ = 6)) = true → answerTlvs r i m c l s3 = (b, s4) →
    exec (.unicastNegotiation p cl rx d) s = .next (became s (replySignal r i m b s4)) ∧
    exec (.cancelUnicastTransmission p cl rx d) s = .next (became s (replySignal r i m b s4))) ∧
  (∀ (n : BitVec 18) (ty : Fin 3) (s : State), Acts Reg.QRY s → s.sessOk n.toNat = true → (s.sess n.toNat).st = 1 →
    (s.sess n.toNat).ivs.getD ty noGrant ≠ noGrant →
    atOrAfter (BitVec.ofNat 32 (wholeSec s.now)) (BitVec.ofNat 32 ((s.sess n.toNat).exp.getD ty 0)) = true →
    exec (.grantExpire n ty) s = .next (became s (endGrant n.toNat ty s))) ∧
  (∀ (n : BitVec 18) (t : WT96) (s s1 : State), Acts Reg.QRY s → AMap.get none s.svc.quar n.toNat = some t → earlier s.now t = false →
    s.sessOk n.toNat = true → (if (s.sess n.toNat).st = 2 then putSess n.toNat { s.sess n.toNat with st := 0 } s else s) = s1 →
    exec (.quarantineEnd n) s = .next (became s (setSessEnv n.toNat none
      { s1 with svc := { s1.svc with quar := AMap.set none s1.svc.quar n.toNat none } }))) ∧
  (∀ (n : Fin 8) (e : Env) (q : Nat) (rq : Nat → Nat → List Byte) (s s1 : State), Acts Reg.QRY s →
    (∀ mt lg, rq mt lg = bytesBE 2 4 ++ bytesBE 2 6 ++ bytesBE 1 (mt * 16) ++ bytesBE 1 lg ++ bytesBE 4 300) → bit (s.reg (Reg.QRY_UP_CFG n)) 4 = true →
    bit (s.reg (Reg.QRY_UP_CFG n)) 24 = true → (s.up n).asked = none → s.upEnv n = some e →
    upSeq n 0xC (setUp n { s.up n with asked := some (wholeSec s.now) } s.nextFree) = (q, s1) → (s1.up n).src = none →
    ∀ (m : List Byte) (s2 : State),
      ptpMessage { typ := 0xC, dom := fld (s.reg (Reg.QRY_UP_CFG n)) 8 8, flags := 0x0400, cf := 0, port := e.port, seq := q, log := 0x7F }
        (List.replicate 10 0xFF ++ rq 0xB 0 ++ rq 0x0 (fld (s.reg (Reg.QRY_UP_CFG n)) 16 8) ++
          rq 0x9 (fld (s.reg (Reg.QRY_UP_CFG n)) 16 8)) (s1.upAuth n) s1 = (some m, s2) →
      exec (.upstreamRenew n) s = .next (became s (sendWeighted e.port (s2.ptpFrame e s2.freeVal 0xC m) s2.nextFree).2)) ∧
  (∀ (n : Fin 8) (rx : BT80) (d m : List Byte) (l : List Tlv) (r : Req) (s s1 : State), Acts Reg.QRY s →
    s.request (fld (s.reg (Reg.QRY_UP_CFG n)) 0 4) s.someCluster rx d = r → takeRx r.ptpQueue r d s.nextFree = s1 →
    bit (s.reg (Reg.QRY_UP_CFG n)) 4 = true → bit (s.reg (Reg.QRY_UP_CFG n)) 25 = false → s1.servesAt (r.at_ s1) = true →
    r.ptp = some (m, l) → fld (s.reg (Reg.QRY_UP_CFG n)) 5 2 = r.transport →
    (r.transport = 0 ∧ r.n.v = 0 ∧ beAt r.f 6 6 = s1.regN (Reg.QRY_UP_ADDR n 0) 2 % 2 ^ 48 ∨
      r.transport ≠ 0 ∧ r.n.src = s1.addrOf (Reg.QRY_UP_ADDR n 0) r.transport) →
    beAt m 4 1 = fld (s.reg (Reg.QRY_UP_CFG n)) 8 8 → (beAt m 0 1 % 16 = 0xB → ∀ g, (s1.up n).gm = some g → g = beAt m 53 8) →
    (s1.up n).seqOk (beAt m 0 1 % 16) (beAt m 30 2) = true →
    exec (.upstreamMessage n rx d) s = .next (became s (upTake n m l s1))) ∧
  (∀ (n : Fin 8) (b : BT80) (s : State), Acts Reg.QRY s → (s.up n).annAt = some b → s.rb (Reg.QRY_UP_CFG n) 4 = true →
    (s.up n).lost = false → 0 ≤ (s.up n).annLog → s.elapsed b (3 * (1000000000 * 2 ^ (s.up n).annLog.toNat)) = true →
    exec (.upstreamAnnounceTimeout n) s = .next (became s (upLost n s))) ∧
  (∀ (i : Fin 8) (p : Fin 16) (ses : Option (BitVec 18)) (x : Sched) (s : State) (ann : Bool) (t : WT96), Acts Reg.QRY s →
    s.schedOf i p (ses.map BitVec.toNat) ann = some x →
    (let u := s.nextFree.nextFree; nextTarget x.log x.phase (u.servedAt (u.bt + cyc (u.rf (Reg.TSU_LEAD (p.val / 4)) 0 16)))) = t →
    AMap.get none s.svc.tried (schedKey i p (ses.map BitVec.toNat) ann) = some t →
    (ann = false → exec (.syncTarget i p ses) s = .next (became s s)) ∧
    (ann = true → exec (.announceTarget i p ses) s = .next (became s s)))

/-- Scheduling and policing. At a transmit opportunity a port that can send starts the head of the class chosen and charges it; the
refills add the tokens of their period; the halt pin and SWHALT are shown; a command buffer is returned to its pool (R721, R722, R729,
R732, R735). -/
def Obligations.SchedulerActs : Prop :=
  (∀ (p : Fin 17) (s t : State) (c i : Nat) (d : List Byte), Acts Reg.SCH s → s.canSend p.val = true → s.paused p.val = false →
    (s.prtS p.val).pauseReq = none → choose p.val s = (some c, t) → t.headOf p.val c = some (i, d) →
    t.fitsGap p.val (wireLen (descLen d)) = true →
    exec (.transmitOpportunity p) s = .next (became s
      (startTx p.val (descFrame d t) (chargeStart p.val c (charge d) (takeHead p.val c i t))))) ∧
  (∀ (p : Nat) (s : State), (s.schHalted || s.fltBit Reg.SCH 0) = true →
    (let t := cleanHeads p [7] s
     choose p s = if (t.headOf p 7).isSome then (some 7, t) else (none, t))) ∧
  (∀ (s : State), Acts Reg.SCH s → s.elapsed s.sch.refillAt s.sch.period = true →
    (let np := if s.stagedDue Reg.SCH_REFILL then s.rf Reg.SCH_REFILL 0 16 else s.sch.period
     let t := forN 17 (fun p a => forN 6 (fun c b => applyClass p c b) a) s
     t.schHalted = false →
     (let u := forN 17 (fun p a => forN 6 (fun c b => refillClass np p c b) a) t
      let l := u.sch.wrAt.filter (fun e => decide (e.2 = some u.bt))
      exec .shaperRefill s = .next (became s
        { u with sch := { u.sch with refillAt := u.sch.refillAt + cyc s.sch.period, period := np, wrAt := l } })))) ∧
  (∀ (per p c : Nat) (s : State), (s.cls p c).rate ≠ 0 →
    (let n := (s.cls p c).rate * per * 8192 + (s.cls p c).rem
     refillClass per p c s = s.setCls p c { s.cls p c with
       tok := min ((s.cls p c).burst * 65536 : Int) ((s.cls p c).tok + (n / 1000000 : Nat)), rem := n % 1000000 })) ∧
  (∀ (low : Bool) (s : State), Live Reg.SCH s →
    exec (.haltPinChange low) s = .next (showHalt { s with sch := { s.sch with pinLow := low } })) ∧
  (∀ (m : Master) (v : Word) (s : State), Reaches m Reg.SCH_CTL s →
    exec (.swhaltWrite m v) s = .next (wrote Reg.SCH_CTL s (showHalt (plainWrite Reg.SCH_CTL v s)))) ∧
  (∀ (s : State), Acts Reg.POL s → s.elapsed s.pol.refillAt 1000 = true →
    (let t := forN 17 (fun p a => forN 5 (fun i b =>
       if b.rb (Reg.POL_RATE p i) 31 then
         let num := b.rf (Reg.POL_RATE p i) 0 24 * 65536 + AMap.get 0 b.pol.rem (8 * p + i)
         let lvl := min (b.rf (Reg.POL_BURST p i) 0 16 * 65536) (AMap.get 0 b.pol.tok (8 * p + i) + num / 1000000)
         { b with pol := { b.pol with tok := AMap.set 0 b.pol.tok (8 * p + i) lvl, rem := AMap.set 0 b.pol.rem (8 * p + i) (num % 1000000) } }
       else b) a) s
     exec .policerRefill s = .next (became s { t with pol := { t.pol with refillAt := t.pol.refillAt + cyc 1000 } }))) ∧
  (∀ (m : Master) (v : Word) (s : State), Reaches m Reg.POL_CMD_REL s →
    exec (.commandBufferRelease m v) s = .next (wrote Reg.POL_CMD_REL s (s.setRb Reg.POL_CMD_USE (fld v 0 5) false)))

/-- Keys, random numbers and crypto operations. STAGE takes an envelope that passes every check and refuses the first that fails; a staged key
is committed in phases, the last of which makes it the Lodestone key, and may be discarded; a failed health test withholds, a passed start-up
test resumes, and the DRBG is reseeded when due; TRN_OUT reads fresh bits, or 0 while withheld; a crypto operation completes with its status
and output, and requests that waited too long complete with NO_ENTROPY; a write of KEY_CMD that the order of writers puts before another of the
same cycle is taken in its place, whatever their order in the queue (R753 to R759, R771 to R778). -/
def Obligations.KeysAndEntropyAct : Prop :=
  (∀ (m : Master) (v : Word) (s : State), Reaches m Reg.KEY_CMD s → KeyCmdInOrder m s →
    bit v 0 = true → bit v 1 = false → bit v 2 = false →
    (∀ (k : List Byte) (ctr : Nat), stageCheck s = .ok (k, ctr) → exec (.keyStage m v) s =
      .next (wrote Reg.KEY_CMD s (keyNoted m v s { s with key := { s.key with accepted := some (BitVec.ofNat 256 (natBE k), ctr) } }))) ∧
    (∀ r : KeyRej, stageCheck s = .error r → exec (.keyStage m v) s = .next (wrote Reg.KEY_CMD s (keyNoted m v s
      (raiseEvt Reg.KEY 2 ((s.setRf Reg.KEY_STAT 8 4 r.code).count Reg.KEY_CNT_REJ)))))) ∧
  (∀ (k : BitVec 256) (ctr : Nat) (s : State), Live Reg.KEY s → s.key.accepted = some (k, ctr) →
    (let u := { s with key := { s.key with accepted := none, staged := some (k, ctr) }, thisCyc := { s.thisCyc with key := none } }
     exec .keyStaged s = .next (became s (raiseEvt Reg.KEY 0
       ((u.setRb Reg.KEY_STAT 1 true).setReg Reg.KEY_STG_CTR (BitVec.ofNat 32 ctr)))))) ∧
  (∀ (m : Master) (v : Word) (k : BitVec 256) (ctr : Nat) (s s1 : State), Reaches m Reg.KEY_CMD s → KeyCmdInOrder m s →
    bit v 0 = false → bit v 1 = true →
    bit v 2 = false → s.rb Reg.KEY_STAT 2 = false → s.key.staged = some (k, ctr) →
    { s with key := { s.key with committing := some (k, ctr) } }.setRb Reg.KEY_STAT 2 true = s1 →
    (s.lifeCycle = 3 → exec (.keyCommit m v) s = .next (wrote Reg.KEY_CMD s (keyNoted m v s s1))) ∧
    (s.lifeCycle ≠ 3 → exec (.keyCommit m v) s = .next (wrote Reg.KEY_CMD s (keyNoted m v s (commitStore k ctr s1))))) ∧
  (∀ (k : BitVec 256) (ctr : Nat) (s s0 s1 : State), Live Reg.KEY s → s.key.committing = some (k, ctr) →
    commitCount (commitCount s) = s0 →
    setLode (some k) { s0 with key := { s0.key with committing := none, staged := none }, thisCyc := { s0.thisCyc with key := none } } = s1 →
    s.lifeCycle ≠ 3 →
    exec .keyCommitted s = .next (became s (raiseEvt Reg.KEY 1 ((((s1.setReg Reg.KEY_GEN (s1.reg Reg.KEY_GEN + 1)).setReg Reg.KEY_CTR
      (BitVec.ofNat 32 ctr)).setRf Reg.KEY_STAT 1 2 0).setRf Reg.KEY_CSW 0 2 3)))) ∧
  (∀ (m : Master) (v : Word) (s : State), Reaches m Reg.KEY_CMD s → KeyCmdInOrder m s →
    bit v 0 = false → bit v 1 = false → bit v 2 = true → s.rb Reg.KEY_STAT 2 = false →
    exec (.keyDiscard m v) s = .next (wrote Reg.KEY_CMD s (keyNoted m v s
      ({ s with key := { s.key with staged := none } }.setRb Reg.KEY_STAT 1 false)))) ∧
  (∀ (apt : Bool) (s : State), Live Reg.TRN s →
    exec (.trngHealth apt) s = .next (became s (healthFail (s.count (if apt then Reg.TRN_CNT_APT else Reg.TRN_CNT_RCT))))) ∧
  (∀ s s1 : State, Live Reg.TRN s → s.rb Reg.TRN_STAT 0 = true → s.inject Reg.TRN 1 = false →
    { s with trn := { s.trn with passAt := some s.bt } }.setRb Reg.TRN_STAT 0 false = s1 → s.rb Reg.TRN_STAT 2 = true →
    exec .trngResumed s = .next (became s s1)) ∧
  (∀ s : State, Live Reg.TRN s → s.withheld = false → s.elapsed s.trn.reseedAt 10000000 = true →
    exec .drbgReseed s = .next (became s ({ s with trn := { s.trn with reseedAt := s.bt, requests := 0 } }.count Reg.TRN_CNT_RESEED))) ∧
  (∀ (m : Master) (s s1 : State), Reads m Reg.TRN_OUT s →
    (∀ l : List Byte, drbg 4 s = (some l, s1) → exec (.trnOutRead m) s =
      .next ((s1.setShadow m (Reg.TRN_OUT + 4) 1).emit (.readData m Reg.TRN_OUT (BitVec.ofNat 32 (natLE l))))) ∧
    (drbg 4 s = (none, s1) → exec (.trnOutRead m) s =
      .next ((s1.setShadow m (Reg.TRN_OUT + 4) 0).emit (.readData m Reg.TRN_OUT 0)))) ∧
  (∀ (e : Fin 512) (t : Fin 4) (n : BitVec 16) (op : CryOp) (s : State), Live Reg.CRY s →
    s.cry.find? (fun x => decide (x.th = thKey e t ∧ x.num = n.toNat)) = some op →
    (∀ st : CryStatus, s.cryRefuse (cryDesc op.desc) (thKey e t) op.user op.access = some st →
      exec (.cryptoComplete e t n false) s = .next (became s (cryDone op (cryDesc op.desc) st s))) ∧
    (∀ (st : CryStatus) (s1 : State), s.cryRefuse (cryDesc op.desc) (thKey e t) op.user op.access = none →
      s.trn.waits.any (fun x => decide (x.2 = DrbgUser.crypto (thKey e t) n.toNat)) = false → (cryDesc op.desc).op ≠ 0x0B →
      s.inject Reg.CRY 0 = false → cryRun op (cryDesc op.desc) s = (st, s1) → st ≠ .memErr →
      exec (.cryptoComplete e t n false) s = .next (became s (cryDone op (cryDesc op.desc) st s1)))) ∧
  (∀ (b : BT80) (k n : Nat) (op : CryOp) (s : State), Live Reg.TRN s → s.withheld = true → s.trn.waits = [(b, .crypto k n)] →
    s.elapsed b 50000 = true → s.cry.find? (fun x => decide (x.th = k ∧ x.num = n)) = some op →
    exec .drbgWaitTimeout s = .next (became s (cryDone op (cryDesc op.desc) .noEntropy (s.count Reg.TRN_CNT_NOENT)))) ∧
  (∀ (m : Master) (v : Word) (s : State), Reaches m Reg.KEY_CMD s → ¬ KeyCmdInOrder m s →
    exec (.keyCommit m v) s = .next (wrote Reg.KEY_CMD s
      (keyNoted m v s ((s.keyCmds m v).foldl (fun t c => keyCmd c.2 t) (keyBack s.keyBase s))))) ∧
  (∀ (k : BitVec 256) (ctr : Nat) (s s1 : State), Live Reg.KEY s → s.key.committing = some (k, ctr) → s.lifeCycle = 3 →
    setLode (some k) { s with key := { s.key with committing := none, staged := none }, thisCyc := { s.thisCyc with key := none } } = s1 →
    exec .keyCommitted s = .next (became s (raiseEvt Reg.KEY 1
      (((s1.setReg Reg.KEY_GEN (s1.reg Reg.KEY_GEN + 1)).setRf Reg.KEY_STAT 1 2 0).setRf Reg.KEY_CSW 0 2 3))))

/-- The life cycle. A command by another master than the host and JTAG is refused for its SOURCE; CHALLENGE gives a fresh challenge; a
transition that its state allows and its confirmation and token support is made, with its fuses, its erasures and a chip reset, and any other
is refused with the reason (R779 to R786, R792). -/
def Obligations.LifeCycleActs : Prop :=
  (∀ (v : Word) (l : List Byte) (s s1 : State), Reaches .host Reg.LCS_CMD s → fld v 0 3 = 1 → drbg 16 s = (some l, s1) →
    exec (.lcsChallenge .host v) s = .next (wrote Reg.LCS_CMD s (raiseEvt Reg.LCS 1
      (((forN 4 (fun i a => a.setReg (Reg.LCS_CHAL i) (keyWord l i)) s1).setRb Reg.LCS_STAT 8 true).setRf Reg.LCS_STAT 0 4 0)))) ∧
  (∀ (v : Word) (s : State), Reaches .host Reg.LCS_CMD s → fld v 16 16 = 0x4C43 →
    (fld v 0 3 = 2 → s.lifeCycle = 0 → (∃ i < 8, s.reg (Reg.LCS_OWNER i) ≠ 0) →
      exec (.lcsProvision .host v) s = .next (wrote Reg.LCS_CMD s (lifeCycleTo 1 s))) ∧
    (fld v 0 3 = 3 → s.lifeCycle = 1 → exec (.lcsField .host v) s = .next (wrote Reg.LCS_CMD s (lifeCycleTo 2 s))) ∧
    (fld v 0 3 = 4 → s.lifeCycle = 1 ∨ s.lifeCycle = 2 ∧ tokenRej s 1 = none →
      exec (.lcsDebug .host v) s = .next (wrote Reg.LCS_CMD s (lifeCycleTo 3 s))) ∧
    (fld v 0 3 = 5 → s.lifeCycle = 0 ∨ (s.lifeCycle = 1 ∨ s.lifeCycle = 2) ∧ tokenRej s 2 = none →
      exec (.lcsRetire .host v) s = .next (wrote Reg.LCS_CMD s (lifeCycleTo 4 s))) ∧
    (fld v 0 3 = 4 → s.lifeCycle = 2 → ∀ r : LcsRej, tokenRej s 1 = some r →
      exec (.lcsDebug .host v) s = .next (wrote Reg.LCS_CMD s (raiseEvt Reg.LCS 0 ((dropChallenge s).setRf Reg.LCS_STAT 0 4 r.code))))) ∧
  (∀ (v : Word) (s : State), Reaches .calendar Reg.LCS_CMD s → fld v 0 3 = 3 →
    exec (.lcsField .calendar v) s = .next (wrote Reg.LCS_CMD s (raiseEvt Reg.LCS 0 (s.setRf Reg.LCS_STAT 0 4 1)))) ∧
  (∀ (v : Word) (s : State), Reaches .host Reg.LCS_CMD s → fld v 0 3 = 3 → fld v 16 16 ≠ 0x4C43 →
    exec (.lcsField .host v) s = .next (wrote Reg.LCS_CMD s (raiseEvt Reg.LCS 0 (s.setRf Reg.LCS_STAT 0 4 2))))

/-- The frames and lanes of the mate. A valid frame of each type is taken as its chapter says: the peer's health word, its time, mirrored state,
and the messages that arm, acknowledge, abort a handover or ask for the full state; a malformed one is counted and logged. A lane that changes
forgets its malformed frames; the active sends mirrored state (R794, R798 to R800, R803, R810 to R812, R820). -/
def Obligations.MateFramesAreTaken : Prop :=
  (∀ (l : Fin 2) (d : List Byte) (s s1 : State), Acts Reg.MATE s → s.mateOn = true → s.rb Reg.MATE_STAT (6 + l.val) = true →
    s.mateOk d = true → mateValid l s = s1 → beAt d 0 1 = 1 →
    exec (.healthFrame l d) s = .next (became s (mateHealth d s1))) ∧
  (∀ (l : Fin 2) (d : List Byte) (s s1 : State), Acts Reg.MATE s → s.mateOn = true → s.rb Reg.MATE_STAT (6 + l.val) = true →
    s.mateOk d = true → mateValid l s = s1 → beAt d 0 1 = 2 →
    exec (.timeFrame l d) s = .next (became s (mateTime (BitVec.ofNat 96 (beAt d 16 12)) s1))) ∧
  (∀ (l : Fin 2) (d : List Byte) (s s1 : State), Acts Reg.MATE s → s.mateOn = true → s.rb Reg.MATE_STAT (6 + l.val) = true →
    s.mateOk d = true → mateValid l s = s1 → beAt d 0 1 = 3 →
    exec (.mirrorFrame l d) s = .next (became s (mateMirrored d s1))) ∧
  (∀ (l : Fin 2) (d : List Byte) (s s1 : State), Acts Reg.MATE s → s.mateOn = true → s.rb Reg.MATE_STAT (6 + l.val) = true →
    s.mateOk d = true → mateValid l s = s1 → beAt d 0 1 = 4 → beAt d 16 1 = 1 →
    exec (.armHo l d) s = .next (became s (mateArmed (BitVec.ofNat 96 (beAt d 20 12)) s1))) ∧
  (∀ (l : Fin 2) (d : List Byte) (s s1 : State), Acts Reg.MATE s → s.mateOn = true → s.rb Reg.MATE_STAT (6 + l.val) = true →
    s.mateOk d = true → mateValid l s = s1 → beAt d 0 1 = 4 → beAt d 16 1 = 2 →
    exec (.ackHo l d) s = .next (became s (mateAcked (BitVec.ofNat 96 (beAt d 20 12)) s1))) ∧
  (∀ (l : Fin 2) (d : List Byte) (s s1 : State), Acts Reg.MATE s → s.mateOn = true → s.rb Reg.MATE_STAT (6 + l.val) = true →
    s.mateOk d = true → mateValid l s = s1 → beAt d 0 1 = 4 → beAt d 16 1 = 3 →
    exec (.abortHo l d) s = .next (became s ({ s1 with mate := { s1.mate with
      ho := s1.mate.ho.filter (fun h => decide (h.due ≠ BitVec.ofNat 96 (beAt d 20 12))) } }))) ∧
  (∀ (l : Fin 2) (d : List Byte) (s s1 : State), Acts Reg.MATE s → s.mateOn = true → s.rb Reg.MATE_STAT (6 + l.val) = true →
    s.mateOk d = true → mateValid l s = s1 → beAt d 0 1 = 4 → beAt d 16 1 = 4 →
    exec (.resyncReq l d) s = .next (became s (raiseEvt Reg.MATE 9 s1))) ∧
  (∀ (l : Fin 2) (d : List Byte) (s : State), Acts Reg.MATE s → s.mateOn = true → s.rb Reg.MATE_STAT (6 + l.val) = true →
    s.mateOk d = false → exec (.healthFrame l d) s = .next (became s (mateMalf l d s))) ∧
  (∀ (l : Fin 2) (s : State), Live Reg.MATE s →
    (let m := { s.mate with malfRow := AMap.set 0 s.mate.malfRow l.val 0, goodRow := AMap.set 0 s.mate.goodRow l.val 0 }
     exec (.mateLaneUp l) s = .next (became s (mateRecover ({ s with mate := m }.setRb Reg.MATE_STAT (6 + l.val) true))) ∧
     exec (.mateLaneDown l) s = .next (became s (mateRecover ({ s with mate := m }.setRb Reg.MATE_STAT (6 + l.val) false))))) ∧
  (∀ s : State, Acts Reg.MATE s → s.mateOn = true → s.mrole = .active →
    (∀ (b : List Byte) (l : List (List Byte)), s.mate.mirrorQ = b :: l →
      exec .mirrorSend s = .next (became s (mateSend .mirror b { s with mate := { s.mate with mirrorQ := l } }))) ∧
    (∀ (e : List Byte) (s1 : State), s.mate.mirrorQ = [] → queuePop (s.rf Reg.MATE_MQ 0 18) s = (.ok, e, s1) →
      exec .mirrorSend s = .next (became s (mateSend .mirror (bytesBE 1 3 ++ [0, 0, 0] ++ sliceB e 0 64) s1))))

/-- The time, health and roles of the mate. The pulse of each served millisecond is placed where served time reaches it, with its TIME frame;
the health word is published and an interval counted on the 250 µs grid; the mean of a second's captures is shown and judged; an undisturbed
discovery makes the unit active; MATE_ACTIVE_IN, commands, the end of a handover, the holdoff and the self-test timer change roles as
their rules say; SLAVE_OK and SHADOW_OK hold in STANDBY alone, under the conditions of their rules (R797, R801, R803 to R811, R814, R816). -/
def Obligations.MateRolesChange : Prop :=
  (∀ (s : State) (t : WT96) (b b2 : BT80), Acts Reg.MATE s → s.mateOn = true →
    BitVec.ofNat 96 ((s.bdr.par.served (s.bt + 65535)).toNat / 65536000000 * 65536000000) = t →
    earlier (s.bdr.par.served (s.bt - 1)) t = true → s.bt + BitVec.ofNat 80 (leastReach s.bdr.par t s.bt 17 0 65535) = b →
    b + BitVec.ofNat 80 (leastReach s.bdr.par (t + wtNs 100000) b 34 0 (2 ^ 34)) = b2 →
    exec .matePpsPulse s = .next (became s (mateTimeFrame t (matePin false b2 (matePin true b s))))) ∧
  (∀ s s1 s2 : State, Acts Reg.MATE s → s.mateOn = true → s.onGrid = true →
    mateSend .health (bytesBE 4 s.healthWord.toNat ++ bytesBE 12 s.now.toNat) (s.setReg Reg.MATE_HW s.healthWord) = s1 →
    (if bit s.healthWord 2 then { s1 with mate := { s1.mate with healthOut := !s1.mate.healthOut } }.emit
      (.pin "MATE_HEALTH_OUT" (!s1.mate.healthOut)) else s1) = s2 →
    exec .healthPublish s = .next (became s (if s2.inject Reg.MATE 0 then fault .mate 0 4 s2 else s2))) ∧
  (∀ s : State, Acts Reg.MATE s → s.mateOn = true → s.onGrid = true →
    (s.mate.heard = true → exec (.healthInterval false) s =
      .next (became s (mateEval ({ s with mate := { s.mate with heard := false, missRow := 0 } }.setRb Reg.MATE_STAT 5 true)))) ∧
    (s.mate.heard = false → exec (.healthInterval false) s = .next (became s (mateEval (raiseEvt Reg.MATE 1
      (({ s with mate := { s.mate with missRow := s.mate.missRow + 1 } }.setRb Reg.MATE_STAT 5 false).count Reg.MATE_CNT_MISS)))))) ∧
  (∀ (mean : Int) (s : State), Acts Reg.MATE s → s.mate.residSec < wholeSec s.now → s.mate.residCnt ≠ 0 →
    rne (s.mate.residSum * 1000) (s.mate.residCnt * 65536) = mean →
    (let m := { s.mate with residSec := wholeSec s.now, residSum := 0, residCnt := 0, paired := s.mate.residCnt }
     exec .mateResidUpdate s = .next (became s (mateEval ({ s with mate := m }.setReg Reg.MATE_RESID (BitVec.ofInt 32 mean)))))) ∧
  (∀ s : State, Acts Reg.MATE s → s.mateOn = true → s.mrole = .solo → s.activeIn = false → s.mate.activeLow = none →
    s.elapsed s.mate.lastHeard (s.rf Reg.MATE_CFG 16 16 * 10000000) = true →
    exec .discoveryTimeout s = .next (became s (setRole .active .discovery s))) ∧
  (∀ s : State, Live Reg.MATE s →
    exec (.activeInChange true) s = .next (became s (mateEval ({ s with mate := { s.mate with activeLow := none } }.setRb Reg.MATE_STAT 9 true))) ∧
    (s.activeIn = true → exec (.activeInChange false) s =
      .next (became s (mateEval ({ s with mate := { s.mate with activeLow := some s.bt } }.setRb Reg.MATE_STAT 9 false))))) ∧
  (∀ (m : Master) (v : Word) (s : State), Reaches m Reg.MATE_CMD s → bit v 0 = true → bit v 1 = false → s.mrole = .isolated →
    exec (.mateRejoin m v) s = .next (wrote Reg.MATE_CMD s
      (mateEval (if s.activeIn then setRole .standby .command s else setRole .solo .command s)))) ∧
  (∀ (m : Master) (v : Word) (s : State), Reaches m Reg.MATE_CMD s → bit v 0 = false → bit v 1 = true →
    exec (.mateIsolate m v) s = .next (wrote Reg.MATE_CMD s (mateEval (mateIsolate .command s)))) ∧
  (∀ (b : BT80) (s s1 : State), Acts Reg.MATE s → s.mate.leaveAt = some b → earlier s.bt b = false →
    { s with mate := { s.mate with leaveAt := none, oldWord := true } } = s1 → s1.mrole = .active →
    exec .hoDone s = .next (became s (mateEval (raiseEvt Reg.MATE 7
      (setRole .standby (if s.mate.hoRev then .reversion else .handover) s1))))) ∧
  (∀ (w : Word) (s : State), Acts Reg.MATE s → s.mateOn = true → s.rb Reg.MATE_CFG 1 = true → s.preferred = true →
    s.mrole = .standby → s.holdoffDone = true → s.mate.peerHw = some w → fld w 0 2 = 1 →
    s.mate.ho.any (fun h => h.reversion) = false →
    exec .reversionArm s = .next (became s (actArm (s.rf Reg.MATE_REV 0 12) 5 false 0 true (s.setRegN (slotAddr (s.rf Reg.MATE_REV 0 12) 0)
      ((cdiv s.now.toNat (65536 * 1000000000) + s.rf Reg.MATE_REV 16 8) * 1000000000 * 65536) 3)))) ∧
  (∀ (b : BT80) (s : State), Acts Reg.MATE s → s.mate.stAt = some b → s.elapsed b (s.rf Reg.MATE_SWGOOD 16 16 * 1000000) = true →
    exec .selftestTimeout s =
      .next (became s (mateEval ({ s with mate := { s.mate with stAt := none } }.setRb Reg.MATE_SWGOOD 0 false)))) ∧
  (∀ (b : BT80) (s : State), Acts Reg.MATE s → s.mate.shadowBad = some b → s.elapsed b 10000000000 = true →
    exec .shadowRestore s = .next (became s (mateEval { s with mate := { s.mate with shadowBad := none } }))) ∧
  (∀ s : State, (s.slaveOk = true ↔ s.mrole = .standby ∧ 900 ≤ s.mate.paired ∧
      (s.reg Reg.MATE_RESID).toInt.natAbs ≤ s.rf Reg.MATE_SLV_LIM 0 16) ∧
    (s.shadowOk = true ↔ s.mrole = .standby ∧ s.mate.shadowBad = none)) ∧
  (∀ s : State, Acts Reg.MATE s → s.mateOn = true → s.onGrid = true →
    (let u := s.setRb Reg.MATE_STAT 10 (!s.rb Reg.MATE_STAT 10)
     let m := { u.mate with heard := false, missRow := 0, lastHeard := u.bt }
     exec (.healthInterval true) s = .next (became s (mateEval ({ u with mate := m }.setRb Reg.MATE_STAT 5 true)))))

/-- Faults and their handling. A fault bit that has a source takes its severity's course when it rises; an unacknowledged timer escalates;
ACK stops the timer of a raised MAJOR source, and a write of SEV and DOM that keeps the severity changes nothing else, while a raised
source made CRITICAL acts at once; at the end of the cycle the sources whose timers expired in it escalate and the actions due are taken
(R822 to R828, R830). -/
def Obligations.FaultsAreHandled : Prop :=
  (∀ (page : BAddr) (n : Fin 32) (s : State) (k : PageKind) (inst i : Nat), Live (page.toNat - page.toNat % 0x1000) s →
    pageKindOf (page.toNat - page.toNat % 0x1000) = some (k, inst) → srcOf k inst n.val = some i → k ≠ .trn →
    exec (.faultRise page n) s = .next (became s (fault k inst n.val s))) ∧
  (∀ (n : Fin 384) (b : BT80) (s : State), Acts Reg.FLT s → AMap.get none s.flt.timers n.val = some b →
    s.elapsed b (1000 * s.rf Reg.FLT_ESC 0 20) = true → s.rb (Reg.FLT_SRC n.val) 30 = false → s.sevNow n.val = 2 →
    exec (.escalated n) s = .next (became s { s with flt := { s.flt with escs := insNat s.flt.escs n.val } })) ∧
  (∀ (m : Master) (n : Fin 384) (v : Word) (s s2 : State), Reaches m (Reg.FLT_SRC n) s → bit v 28 = true →
    s.rb (Reg.FLT_SRC n) 31 = true → s.sevNow n = 2 → s.rb (Reg.FLT_SRC n) 29 = false → fld v 0 2 = 2 → domOk (fld v 16 6) = true →
    (((cancelTimer n (s.setRb (Reg.FLT_SRC n) 30 true)).setRf (Reg.FLT_SRC n) 0 2 2).setRf (Reg.FLT_SRC n) 16 6
      (fld v 16 6)) = s2 → s2.sevNow n = 2 → exec (.faultAck m n v) s = .next (wrote (Reg.FLT_SRC n) s s2)) ∧
  (∀ (m : Master) (n : Fin 384) (v : Word) (s s1 s2 : State), Reaches m (Reg.FLT_SRC n) s → bit v 28 = false →
    domOk (fld v 16 6) = true → s.setRf (Reg.FLT_SRC n) 0 2 (fld v 0 2) = s1 →
    (if s.rf (Reg.FLT_SRC n) 0 2 = 2 ∧ fld v 0 2 ≠ 2 then cancelTimer n s1 else s1).setRf (Reg.FLT_SRC n) 16 6 (fld v 16 6) = s2 →
    (s2.sevNow n = s.sevNow n → exec (.faultSeverityWrite m n v) s = .next (wrote (Reg.FLT_SRC n) s s2)) ∧
    (s2.sevNow n = 3 → s.sevNow n = 1 → (showPin s2).rb (Reg.FLT_SRC n) 31 = true →
      exec (.faultSeverityWrite m n v) s = .next (wrote (Reg.FLT_SRC n) s (critAct n (showPin s2))))) ∧
  (∀ (n : Nat) (s s1 : State), s.flt.escs = [n] → s.escDue n = true → { s with flt := { s.flt with escs := [] } } = s1 →
    (escalate n s1).flt.acts ≠ [] → endFaults s = takeActions (escalate n s1)) ∧
  (∀ (n : Fin 384) (s : State), s.sevNow n = 2 →
    ((escalate n s).flt.acts.head? = some (n.val, s.rf Reg.FLT_ACT 8 3) ∧ (escalate n s).rb (Reg.FLT_SRC n) 29 = true))

/-- Masks, counters and the matrix. Clearing a host mask sends the vectors of the pending events it uncovers, and events that have risen are
delivered, at the end of the cycle; a write of a counter's upper
word commits the whole count; CLR_ALL clears every count; the oldest request that is never answered is answered with an error after the
matrix timeout and MTX TIMEOUT rises; a late response is counted; RECALC starts a recomputation, whose end answers the waiting reads; a
request is performed after those of its master and ID before it (R836, R838, R843, R854, R860, R865, R873). -/
def Obligations.CountersAndMatrixAct : Prop :=
  (∀ (m : Master) (k : Fin 16) (v : Word) (s : State), Reaches m (Reg.EVT_HMASK k) s →
    exec (.hmaskWrite m k v) s = .next (wrote (Reg.EVT_HMASK k) s (forN 32 (fun i a =>
      if bit (s.reg (Reg.EVT_HMASK k)) i && !bit v i && a.evtPending (32 * k.val + i) then
        { a with flt := { a.flt with unmasked := insNat a.flt.unmasked (32 * k.val + i) } } else a)
      (s.setReg (Reg.EVT_HMASK k) v)))) ∧
  (∀ (m : Master) (addr : BAddr) (v : Word) (s : State) (a c : Nat), Reg.PMU + addr.toNat % 0x1000 = a → Reaches m a s →
    s.pmuAt m (a % 0x1000) = some (c, 2) →
    exec (.pmuCounterHiWrite m addr v) s = .next (wrote a s (((noteCtr c s).setCtr c { s.ctr c with
      count := BitVec.ofNat 48 (((s.stagedOf m (a - 4)).getD (s.pmuWord c 1)).toNat + 2 ^ 32 * fld v 0 16)
      ovf := bit v 31 || s.thisCyc.ctrWrap.contains c }).dropStaged m (a - 4) 2))) ∧
  (∀ (m : Master) (v : Word) (s s1 s2 : State), Reaches m Reg.PMU_CTL s → bit v 1 = true → plainWrite Reg.PMU_CTL v s = s1 →
    (s1.flt.counters.map (·.1)).foldl
      (fun a k => (noteCtr k a).setCtr k { a.ctr k with count := 0, ovf := s1.thisCyc.ctrWrap.contains k }) s1 = s2 →
    exec (.clrAll m v) s = .next (wrote Reg.PMU_CTL s { s2 with thisCyc := { s2.thisCyc with ctrClr := true } })) ∧
  (∀ (r : MtxReq) (rest : List MtxReq) (s : State), s.alive = true → s.mtx = r :: rest → r.stage ≠ .port →
    s.elapsed r.issued (s.rf Reg.MTX_TO 0 20 * 1000) = true →
    exec .matrixTimeout s =
      .next (became s (fault .mtx 0 0 (answeredErr r (busErr r.who r.addr 2 r.write (showHeld { s with mtx := rest })))))) ∧
  (∀ s : State, Live Reg.MTX s → exec .lateResponse s = .next (became s (s.count Reg.MTX_CNT_LATE))) ∧
  (∀ (m : Master) (v : Word) (s : State), Reaches m Reg.MTX_CMD s → s.alive = true → bit v 0 = true →
    exec (.cfgRecalc m v) s = .next (wrote Reg.MTX_CMD s (s.setRb Reg.MTX_STAT 0 true))) ∧
  (∀ s : State, Live Reg.MTX s → exec .recalcDone s = .next (became s (deliverHeld (s.setRb Reg.MTX_STAT 0 false)))) ∧
  (∀ s : State, endEvents s = (s.flt.unmasked.foldl insNat s.flt.risen).foldl
    (fun a n => if s.flt.risen.contains n then deliver n a else msixNow n a)
    { s with flt := { s.flt with risen := [], unmasked := [] } }) ∧
  (∀ (s : State) (pre : List MtxReq) (r : MtxReq), s.reqReady pre r = true →
    (r.stage = .sent ∧ (∀ q ∈ pre, q.who = r.who → q.id ≠ r.id) ∧ s.reqDomain r = none))

/-- The memories. INIT starts the training of a DRAM channel, whose first end zeroes it; SCRUB_NOW asks for a pass, and a pass reports the
uncorrectable words and tracks the pages it corrected; an MRAM pass shows each sector's corrections and remaps or closes the worn ones; an
accepted remap starts and its end puts the sector into the next spare; a journalled write starts or waits, and its end applies it (R876,
R877, R881 to R885, R919). -/
def Obligations.MemoriesAreKept : Prop :=
  (∀ (m : Master) (ch : Fin 2) (v : Word) (s : State), Reaches m (Reg.DDR_CMD ch) s → bit v 0 = true → bit v 1 = false →
    exec (.ddrInit m ch v) s =
      .next (wrote (Reg.DDR_CMD ch) s ((s.setDdrC ch { s.ddrC ch with training := true }).setRb (Reg.DDR_STAT ch) 0 false))) ∧
  (∀ (ch : Fin 2) (s : State), Live (Reg.DDR ch) s → (s.ddrC ch).training = true →
    ((s.ddrC ch).zeroed = true → exec (.ddrTrained ch) s = .next (became s
      ((s.setDdrC ch { s.ddrC ch with training := false, zeroed := true }).setRf (Reg.DDR_STAT ch) 0 2 1))) ∧
    ((s.ddrC ch).zeroed = false → exec (.ddrTrained ch) s = .next (became s
      (((ddrZero ch s).setDdrC ch { s.ddrC ch with training := false, zeroed := true }).setRf (Reg.DDR_STAT ch) 0 2 1)))) ∧
  (∀ (m : Master) (ch : Fin 2) (v : Word) (s : State), Reaches m (Reg.DDR_CMD ch) s → bit v 0 = false → bit v 1 = true →
    exec (.scrubNow m ch v) s = .next (wrote (Reg.DDR_CMD ch) s (s.setDdrC ch { s.ddrC ch with scrub := true }))) ∧
  (∀ (ch : Fin 2) (pages : List (BitVec 24)) (s : State), Acts (Reg.DDR ch) s → s.ddrUp ch = true →
    (s.rf (Reg.DDR_SCRUB ch) 0 24 ≠ 0 ∨ (s.ddrC ch).scrub = true) →
    exec (.ddrScrubPass ch pages) s = .next (became s (pages.foldl (fun a p => ddrCe ch p.toNat a)
      ((s.badWords.filter (fun p => p.2 && decide (2 ^ 40 + eaDram ≤ p.1) && decide (p.1 < 2 ^ 40 + eaDram + 2 ^ 35) &&
        inChannel ch (p.1 % 2 ^ 35))).foldl (fun a p => ddrUe (p.1 % 2 ^ 35) a) (s.setDdrC ch { s.ddrC ch with scrub := false }))))) ∧
  (∀ (counts : List (Fin 128 × Byte)) (cnt : Nat → Nat) (s s1 : State), Acts Reg.MRM s → s.rf Reg.MRM_SCRUB 0 24 ≠ 0 →
    (∀ k, cnt k = ((counts.find? (fun p => decide (p.1.val = k))).map (fun p => p.2.toNat)).getD 0) →
    (s.badWords.filter (fun p => p.2 && decide (2 ^ 40 + eaMram ≤ p.1) && decide (p.1 < 2 ^ 40 + eaMram + 2 ^ 24))).foldl
      (fun a _ => fault .mrm 0 1 (a.count Reg.MRM_CNT_UE)) s = s1 →
    exec (.mramScrubPass counts) s = .next (became s (forN 128
      (fun (k : Nat) (a : State) => if s.rf Reg.MRM_WEAR_TH 0 8 ≤ cnt k then wearOut k a else a)
      (raiseEvt Reg.MRM 2 (forN 128 (fun k a => (a.setRf (Reg.MRM_WEAR (k / 4)) (8 * (k % 4)) 8 (cnt k)).countBy
        Reg.MRM_CNT_CORR (cnt k)) s1))))) ∧
  (∀ (m : Master) (pc : Option DWord) (v : Word) (s : State), Reaches m Reg.MRM_CMD s → bit v 8 = true →
    (s.remapRej pc (fld v 0 7) = 0 → exec (.mramRemapRequest m pc v) s =
      .next (wrote Reg.MRM_CMD s (remapStart (fld v 0 7) (s.setRf Reg.MRM_STAT 12 4 0)))) ∧
    (s.remapRej pc (fld v 0 7) ≠ 0 → exec (.mramRemapRequest m pc v) s =
      .next (wrote Reg.MRM_CMD s (s.setRf Reg.MRM_STAT 12 4 (s.remapRej pc (fld v 0 7)))))) ∧
  (∀ (k : Nat) (s s1 s2 : State), Acts Reg.MRM s → s.mrm.remap = some k →
    (copySector (s.mramSector k) (128 + s.mrm.spares) s).setRf (Reg.MRM_MAP (k / 4)) (8 * (k % 4)) 8 (128 + s.mrm.spares) = s1 →
    s1.mrm.heldWr = [] →
    raiseEvt Reg.MRM 0 ({ s1 with mrm := { s1.mrm with remap := none, spares := s1.mrm.spares + 1, heldWr := [] } }.setRb
      Reg.MRM_STAT 8 false) = s2 → s2.mrm.remapQ = [] →
    exec .mramRemapDone s = .next (became s s2)) ∧
  (∀ (v : Word) (s : State), Reaches (.cluster 63) Reg.MRM_J_CMD s → bit v 0 = true →
    journalOk (s.reg Reg.MRM_J_DST).toNat (s.rf Reg.MRM_J_LEN 0 13) = true →
    (s.reg Reg.MRM_J_SRC).toNat + s.rf Reg.MRM_J_LEN 0 13 ≤ 2 ^ 25 →
    s.memBad (eaSram + (s.reg Reg.MRM_J_SRC).toNat) (s.rf Reg.MRM_J_LEN 0 13) = false →
    (let w : JWrite := { ring := none, dst := (s.reg Reg.MRM_J_DST).toNat
                         data := s.sramRd (s.reg Reg.MRM_J_SRC).toNat (s.rf Reg.MRM_J_LEN 0 13) }
     exec (.journalWrite (.cluster 63) v) s = .next (wrote Reg.MRM_J_CMD s (journalAsk w s)))) ∧
  (∀ (w : JWrite) (s : State), Acts Reg.MRM s → s.mrm.active = some w → w.ring = none →
    exec .jdone s = .next (became s (journalEnd s))) ∧
  (∀ (w : JWrite) (s : State), (s.mrm.active = none → journalAsk w s =
      { s with mrm := { s.mrm with active := some w } }.setRf Reg.MRM_J_STAT 0 4 4) ∧
    (s.mrm.active.isSome = true → journalAsk w s = { s with mrm := { s.mrm with waiting := s.mrm.waiting ++ [w] } }))

/-- The host's rings and the low-speed interfaces. The next entry of the ring whose turn it is starts, an unknown opcode ending it at once
with BAD_OPCODE; NOP, COPY_IN, COPY_OUT, MRAM_WRITE and NTS_MINT do their work and complete; a host transmit entry takes a buffer and queues
its frame; a change of the link raises LINK; a QSPI or I2C command starts and its end shows the result; a UART sends from and receives into
its FIFO; a GPIO edge sets its event bit; an inventory search clears and later shows its identities (R887 to R900). -/
def Obligations.HostAndSerialAct : Prop :=
  (∀ (r : Fin 4) (seq : Word) (opcode : BitVec 16) (s s1 : State), Acts Reg.PCI s → s.crNext = some r.val →
    ringPartial r { seq := seq, opcode := opcode.toNat } 0 1 ({ s with pci := { s.pci with rr := r } }.setRingCmd r
      (some { seq := seq, opcode := opcode.toNat })) = s1 →
    exec (.commandRingEntry r seq opcode) s =
      .next (became s (if opcode.toNat ∈ [0x0001, 0x0010, 0x0011, 0x0020, 0x0031] then s1 else ringEnd r 1 0 s1))) ∧
  (∀ (r : Fin 4) (c : RingCmd) (s : State), Live Reg.PCI s → s.ringCmd r = some c → c.opcode = 0x0001 →
    exec (.hostNop r) s = .next (became s (ringEnd r 0 1 (ringPartial r c 1 1 s)))) ∧
  (∀ (r : Fin 4) (c : RingCmd) (addr : DWord) (data : List Byte) (s : State), Live Reg.PCI s → s.ringCmd r = some c →
    c.opcode = 0x0010 → data.length ≤ 2 ^ 20 → inSram addr.toNat data.length = true →
    exec (.copyIn r addr data false) s = .next (became s (ringOnce r 0 (s.sharedWr addr.toNat data)))) ∧
  (∀ (r : Fin 4) (c : RingCmd) (addr res : DWord) (n : Word) (s : State), Live Reg.PCI s → s.ringCmd r = some c →
    c.opcode = 0x0011 → n.toNat ≤ 2 ^ 20 → inSram addr.toNat n.toNat = true → s.memBad addr.toNat n.toNat = false →
    exec (.copyOut r addr n res false) s =
      .next (became s (ringOnce r 0 (ringWr c res.toNat (s.sharedRd addr.toNat n.toNat) s)))) ∧
  (∀ (r : Fin 4) (c : RingCmd) (ofs : Word) (data : List Byte) (s : State), Live Reg.PCI s → s.ringCmd r = some c →
    c.opcode = 0x0020 → s.mrm.active = none → s.mrm.waiting = [] →
    (journalOk ofs.toNat data.length = true → exec (.mramWrite r ofs data false) s =
      .next (became s (journalAsk { ring := some r.val, dst := ofs.toNat, data := data } s))) ∧
    ((data.length < 8 ∨ 4096 < data.length ∨ data.length % 8 ≠ 0) →
      exec (.mramWrite r ofs data false) s = .next (became s (ringEnd r 2 0 s)))) ∧
  (∀ (r : Fin 4) (c c1 : RingCmd) (block l : List Byte) (addr : DWord) (st : MintStatus) (s s1 : State), Live Reg.PCI s →
    s.ringCmd r = some c → c.opcode = 0x0031 → block.length = 72 → mint block s = (st, l, s1) → s1.ringCmd r = some c1 →
    exec (.ntsMint r block addr) s = .next (became s (ringOnce r (if st = .ok then 0 else 4) (ringWr c1 addr.toNat l s1)))) ∧
  (∀ (r : Fin 4) (port flags : Byte) (tag : Word) (data e : List Byte) (s s1 s2 : State), Acts Reg.PCI s → s.txReady r = true →
    queuePop (s.rf (Reg.PCI_TX_FBQ r) 0 18) s = (.ok, e, s1) →
    blockPush (s.rf (Reg.PCI_TX_Q r) 0 18) (s.hostDesc r (leAt e 0 5) port.toNat data.length flags tag)
      (s1.sharedWr (leAt e 0 5) data) = (.ok, s2) →
    exec (.hostTxEntry r port flags tag data false) s = .next (became s (txAdvance r s2))) ∧
  (∀ (lanes : BitVec 4) (gen : BitVec 3) (s : State), Live Reg.PCI s → s.pci.linkUp = false → s.pci.perst = false →
    exec (.pcieLinkChange true false lanes gen) s = .next (became s (raiseEvt Reg.PCI 0
      ({ s with pci := { s.pci with linkUp := true, perst := false } }.setReg Reg.PCI_STAT
        (BitVec.ofNat 32 (1 + lanes.toNat * 2 + gen.toNat * 32)))))) ∧
  (∀ (m : Master) (v : Word) (s : State), Reaches m Reg.QSPI_CMD s → bit v 31 = true → bit v 13 = false → bit v 8 = false →
    s.lsp.qspi = none → exec (.qspiCommand m v) s = .next (wrote Reg.QSPI_CMD s
      ({ s.emit (.qspi (fld v 0 8) none (fld v 9 4) []) with
         lsp := { s.lsp with qspi := some (false, (s.reg Reg.QSPI_BUF).toNat, s.rf Reg.QSPI_LEN 0 17) } }.setReg Reg.QSPI_STAT 1))) ∧
  (∀ (data : List Byte) (buf n : Nat) (s : State), Live Reg.LSP s → s.lsp.qspi = some (true, buf, n) →
    exec (.qspiDone data) s = .next (became s (raiseEvt Reg.LSP 2 ({ s with lsp := { s.lsp with qspi := none } }.setReg Reg.QSPI_STAT 2)))) ∧
  (∀ (m : Master) (i : Fin 4) (v : Word) (s : State), Reaches m (Reg.I2C_XFER i) s → bit v 31 = true →
    AMap.get none s.lsp.i2c i.val = none → s.rb (Reg.I2C_CFG i) 4 = true → fld v 8 5 ≤ 16 → fld v 16 5 ≤ 16 →
    exec (.i2cTransfer m i v) s = .next (wrote (Reg.I2C_XFER i) s
      ({ s.emit (.i2c i (fld v 0 7) ((s.i2cBytes i).take (fld v 8 5)) (fld v 16 5)) with
         lsp := { s.lsp with i2c := AMap.set none s.lsp.i2c i.val (some (fld v 16 5)) } }.setReg (Reg.I2C_STAT i) 1))) ∧
  (∀ (i : Fin 4) (data : List Byte) (rl : Nat) (s : State), Live Reg.LSP s → AMap.get none s.lsp.i2c i.val = some rl →
    exec (.i2cDone i true false false data) s = .next (became s (raiseEvt Reg.LSP 0
      ({ s with lsp := { s.lsp with i2c := AMap.set none s.lsp.i2c i.val none } }.setReg (Reg.I2C_STAT i) 2)))) ∧
  (∀ (m : Master) (u : Fin 4) (v : Word) (s : State), Reaches m (Reg.UART_TX u) s → s.rb (Reg.UART_CFG u) 31 = true →
    s.txTaken u = false → (s.uart u).tx.length < 64 →
    exec (.uartTransmit m u v) s = .next (wrote (Reg.UART_TX u) s (s.setUart u { s.uart u with
      tx := (s.uart u).tx ++ [s.uartData u (bits v 0 8)]
      txAt := if (s.uart u).tx = [] then s.bt else (s.uart u).txAt }))) ∧
  (∀ (u : Fin 4) (ch : Byte) (fe pe brk : Bool) (s : State), Live Reg.LSP s → s.rb (Reg.UART_CFG u) 31 = true → s.todBound u = false →
    (s.uart u).rx.length < 64 →
    exec (.uartReceive u ch fe pe brk) s = .next (became s (raiseEvt Reg.LSP 1 (s.setUart u { s.uart u with
      rx := (s.uart u).rx ++ [BitVec.ofNat 32 ((s.uartData u ch).toNat + 256 + 512 * b2n fe + 1024 * b2n pe +
        2048 * b2n (s.uart u).ovr)]
      ovr := false
      brk := brk })))) ∧
  (∀ (g : Fin 32) (s s1 : State), Live Reg.LSP s → bit s.lsp.gpioIn g = false →
    { s with lsp := { s.lsp with gpioIn := setBit s.lsp.gpioIn g true } } = s1 → s1.gpioFunc g = 0 → s1.rb Reg.GPIO_RISE g = true →
    exec (.gpioEdge g true) s = .next (became s (wakeRequest 17 (raiseEvt Reg.LSP 3 (s1.hwSet Reg.GPIO_EVT g))))) ∧
  (∀ (m : Master) (v : Word) (s : State), Reaches m Reg.INV_CMD s → bit v 0 = true → s.lsp.invBusy = false →
    exec (.invSearch m v) s = .next (wrote Reg.INV_CMD s
      (({ s with lsp := { s.lsp with invBusy := true } }.resetRegs (Reg.INV_ID 0) 64).setReg Reg.INV_STAT 0x10))) ∧
  (∀ (pr : List Bool) (bs cs : List (List Bool)) (x : InvWalk) (s s1 : State), Live Reg.LSP s → s.lsp.invBusy = true →
    (pr.zip (List.zipWith List.zip bs cs)).foldl InvWalk.attempt {} = x → x.ended = true → x.incomplete = false →
    x.ids.zipIdx.foldl (fun a p => a.setRegN (Reg.INV_ID p.2) p.1.toNat 2) { s with lsp := { s.lsp with invBusy := false } } = s1 →
    exec (.inventorySearchDone pr bs cs) s = .next (became s (raiseEvt Reg.LSP 4 (s1.setReg Reg.INV_STAT
      (BitVec.ofNat 32 (x.ids.length + 64 * x.restarts + 256 * b2n x.more)))))) ∧
  (∀ (x : InvWalk) (l : List (Bool × Bool)) (bs : List Bool), x.ended = false → walkFrom x.path 0 l = some (bs, []) → bs.length = 64 →
    idGood (idOf bs) = true → x.attempt (true, l) = { x with ids := x.ids ++ [idOf bs], ended := true }) ∧
  (∀ (x : InvWalk) (l : List (Bool × Bool)), x.ended = false → x.restarts < 3 →
    x.attempt (false, l) = { restarts := x.restarts + 1 }) ∧
  (∀ (x : InvWalk) (l : List (Bool × Bool)), x.ended = false → x.restarts = 3 →
    x.attempt (false, l) = { x with ended := true, incomplete := true })

/-- Supply, resets, boot and power states. The supply's rise is a cold reset in which Bedrock stands; the APLL's lock starts it at 0; the
supply's fall stops it; RESET_N and PWR_CMD reset the chip; the release of a reset boots from the first image that loads; QUIESCE, if nothing
refuses it, begins the entry whose end stops the clocks, and RUN wakes the device; writes of PWR_CMD that meet in one cycle are taken in the order of
their writers; a new set point of the core supply raises its event (R59, R66, R911 to R917, R921 to R926,
R941, R962). -/
def Obligations.PowerAndBootAct : Prop :=
  (∀ (mhz : Byte) (b4 pref : Bool) (s s1 : State), s.pwr.good = false →
    chipReset true { (s.resetRegs Reg.FLT_RSTCAUSE 0x10).setReg Reg.PWR_RSTCAUSE 0 with bt := 0, btRun := false } = s1 →
    exec (.powerGoodRise mhz b4 pref) s = .next { s1 with pwr := { s1.pwr with
      good := true
      goodAt := 0
      strapB4 := b4
      strapPref := pref
      oscRatio := if mhz.toNat = 10 then 100 else if 19 ≤ mhz.toNat ∧ mhz.toNat ≤ 21 then 50 else 0 } }) ∧
  (∀ s : State, s.pwr.good = true → s.btRun = false → s.pwr.oscRatio ≠ 0 →
    exec .apllLock s = .next { s.atCycle 0 with btRun := true }) ∧
  (∀ s s1 : State, s.pwr.good = true → journalCut s = s1 → exec .powerGoodFall s =
    .next ({ s1 with btRun := false, mtx := [], pwr := { s1.pwr with good := false } }.emit (.allPins true))) ∧
  (∀ s : State, s.pwr.good = true → exec .resetNAssert s = .next (chipReset true (s.setReg Reg.PWR_RSTCAUSE 1))) ∧
  (∀ (straps : Option (Bool × Bool)) (b4 pref : Bool) (primary secondary : List Byte) (s s1 s2 s3 : State), s.pwr.good = true →
    s.btRun = true → s.pwr.bootPend = true → straps.getD (s.pwr.strapB4, s.pwr.strapPref) = (b4, pref) →
    bdrLeave (geoLeave (bootPrepare b4 pref { s with pwr := { s.pwr with held := false }, fct := { s.fct with since := s.bt } })) = s1 →
    showPin { s1 with pwr := { s1.pwr with bootPend := false, coldPend := false }, flt := { s1.flt with chipRst := false } } = s2 →
    (bootImage primary s2 = (none, s3) → exec (.resetRelease straps (primary, secondary)) s = .next (bootStart 1 s3)) ∧
    (∀ (r : LoadRej) (s4 : State), bootImage primary s2 = (some r, s3) →
      bootImage secondary (s3.setRf Reg.PWR_BOOT 4 4 r.code) = (none, s4) →
      exec (.resetRelease straps (primary, secondary)) s = .next (bootStart 2 s4)) ∧
    (∀ (r q : LoadRej) (s4 : State), bootImage primary s2 = (some r, s3) →
      bootImage secondary (s3.setRf Reg.PWR_BOOT 4 4 r.code) = (some q, s4) →
      exec (.resetRelease straps (primary, secondary)) s =
        .next (fault .pwr 0 0 (raiseEvt Reg.PWR 3 ((s4.setRf Reg.PWR_BOOT 8 4 q.code).setRb Reg.PWR_BOOT 18 true))))) ∧
  (∀ s : State, s.alive = true → exec .tapReset s = .next (became s (semLost semJtag { s with jtagErr := false }))) ∧
  (∀ (m : Master) (v : Word) (s s1 : State), Reaches m Reg.PWR_CMD s → fld v 0 2 = 1 → s.thisCyc.pwrCmds = [] → s.thisCyc.quies = false →
    { s with thisCyc := { s.thisCyc with pwrCmds := [(bdrRank m, 1, 0)] } } = s1 →
    (mayQuiesce m = true → s.quiesceRej s.pwr.entering = 0 → exec (.quiesce m v) s = .next (wrote Reg.PWR_CMD s
      ({ s1 with pwr := { s1.pwr with entering := true }, thisCyc := { s1.thisCyc with quies := true } }.setRf Reg.PWR_STAT 0 4 0))) ∧
    (mayQuiesce m = true → s.quiesceRej s.pwr.entering ≠ 0 → exec (.quiesce m v) s =
      .next (wrote Reg.PWR_CMD s (s1.setRf Reg.PWR_STAT 0 4 (s.quiesceRej s.pwr.entering))))) ∧
  (∀ s s1 s2 : State, s.alive = true → s.pwr.entering = true →
    forN 2 (fun ch a => if a.rb (Reg.DDR_STAT ch) 0 then a.setRb (Reg.DDR_STAT ch) 1 true else a) (forN 8 laneDrop s) = s1 →
    (s1.setRf Reg.PWR_STATE 0 2 1).count Reg.PWR_CNT_QUIESCE = s2 →
    (s.pwr.wakeHeld = false → exec .quiesceEntryDone s = .next (became s (raiseEvt Reg.PWR 0 { pwrSettled s2 with pwr := { s2.pwr with
      entering := false
      wakeHeld := false
      exiting := false
      stopAt := s.bt } }))) ∧
    (s.pwr.wakeHeld = true → exec .quiesceEntryDone s = .next (became s (raiseEvt Reg.PWR 1 (raiseEvt Reg.PWR 0 { pwrSettled s2 with pwr := { s2.pwr with
      entering := false
      wakeHeld := false
      exiting := true
      stopAt := s.bt } }))))) ∧
  (∀ (v : Word) (s s1 : State), Reaches .host Reg.PWR_CMD s → fld v 0 2 = 2 → s.quiescent = true → s.thisCyc.pwrCmds = [] →
    s.thisCyc.quies = false → { s with thisCyc := { s.thisCyc with pwrCmds := [(bdrRank .host, 2, 0)] } } = s1 →
    exec (.pwrRun .host v) s = .next (wrote Reg.PWR_CMD s (wakeRequest 18 (s1.setRf Reg.PWR_STAT 0 4 0)))) ∧
  (∀ (v : Word) (s : State), Reaches .host Reg.PWR_CMD s → fld v 0 2 = 3 → fld v 16 16 = 0x5253 →
    exec (.pwrChipReset .host v) s = .next (wrote Reg.PWR_CMD s (chipReset false (s.setReg Reg.PWR_RSTCAUSE 3)))) ∧
  (∀ (t : BitVec 10) (s : State), Live Reg.PWR s → 720 ≤ t.toNat → t.toNat ≤ 800 → t.toNat ≠ s.rf Reg.PWR_AVS 0 10 →
    exec (.avs t) s = .next (became s (raiseEvt Reg.PWR 2 (s.setReg Reg.PWR_AVS (BitVec.ofNat 32 t.toNat))))) ∧
  (∀ s s1 s2 : State, s.alive = true → s.pwr.exiting = true → s.quiescent = true →
    forN 2 (fun ch a => if a.rb (Reg.DDR_STAT ch) 0 then a.setRb (Reg.DDR_STAT ch) 1 false else a) (s.setRf Reg.PWR_STATE 0 2 2) = s1 →
    { s1 with pwr := { s1.pwr with exiting := false }, fct := { s1.fct with stopped := s1.fct.stopped + (s1.bt - s1.pwr.stopAt) } } = s2 →
    exec .wakeExitDone s = .next (became s (deliverHeld (raiseEvt Reg.PWR 0 (pwrSettled s2))))) ∧
  (∀ (m : Master) (v : Word) (s : State), Reaches m Reg.PWR_CMD s → fld v 0 2 = 1 →
    (let first (c : Nat × Nat × Nat) : Bool := decide (c.1 ≤ bdrRank m)
     let cmds := s.thisCyc.pwrCmds.takeWhile first ++ (bdrRank m, 1, if mayQuiesce m then 0 else 1) :: s.thisCyc.pwrCmds.dropWhile first
     exec (.quiesce m v) s = .next (wrote Reg.PWR_CMD s (judgePwr { s with thisCyc := { s.thisCyc with pwrCmds := cmds } })))) ∧
  (∀ (v : Word) (s s1 : State), Reaches .calendar Reg.PWR_CMD s → fld v 0 2 = 2 → s.thisCyc.pwrCmds = [] → s.thisCyc.quies = false →
    { s with thisCyc := { s.thisCyc with pwrCmds := [(bdrRank .calendar, 2, 1)] } } = s1 →
    exec (.pwrRun .calendar v) s = .next (wrote Reg.PWR_CMD s (s1.setRf Reg.PWR_STAT 0 4 1))) ∧
  (∀ s : State, s.quiescent = false → s.pwr.wakeAt = some s.bt → s.quiesceRej false = 6) ∧
  (∀ s : State, s.pwr.good = false → exec .powerGoodFall s = .next s)

/-- The Geode. A write crosses to it and lands; a set of its counter is staged word by word; a second counts, and captures Bedrock to
within two cycles; the trim applies in every thirty-second second; the alarm fires in the second it names; a detected tamper is recorded
with its time, erases the backup where so configured, and is cleared by a write that lands; with no supply it resets (R927 to R938, R945). -/
def Obligations.GeodeActs : Prop :=
  (∀ (off val : Nat) (s s1 : State), s.geo.busy = some (off, val) →
    { s with geo := { s.geo with busy := none } }.setRb Reg.GEO_STAT 5 false = s1 →
    exec .geoWriteLand s = .next (showWake (geoApply off val s1))) ∧
  (∀ (m : Master) (v : Word) (s s1 : State), Reaches m (Reg.GEO + 0x05C) s → s.dropStaged m (Reg.GEO + 0x054) 3 = s1 →
    s1.geo.busy = none → exec (.geoSet m v) s = .next (wrote (Reg.GEO + 0x05C) s ({ s1 with geo := { s1.geo with
      busy := some (0x054, s.commitWords m (Reg.GEO + 0x054) 3 v) } }.setRb Reg.GEO_STAT 5 true))) ∧
  (∀ s s1 : State, s.geoRuns = true → { s with geo := { s.geo with secs := s.geo.secs + 1, sub := 0, holdTicks := 0, turned := true } } = s1 →
    (s.btRun = false → exec .geoSecond s = .next s1) ∧
    (s.btRun = true → ∃ d ≤ 4, exec .geoSecond s = .next
      ((s1.nextFree.setRegN Reg.GEO_BTCAP (s.bt + cyc d - cyc 2).toNat 3).setReg Reg.GEO_BTSEC
        (BitVec.ofNat 32 (s.geo.secs + 1).toNat)))) ∧
  (∀ s : State, s.geoRuns = true → s.geo.secs.toNat % 32 = 0 → s.geo.sub = 0 → s.geo.holdTicks = 0 →
    (0 ≤ (bits (s.reg Reg.GEO_TRIM) 0 8).toInt → exec .geoTrimApply s =
      .next { s with geo := { s.geo with sub := BitVec.ofNat 15 (bits (s.reg Reg.GEO_TRIM) 0 8).toInt.toNat } }) ∧
    ((bits (s.reg Reg.GEO_TRIM) 0 8).toInt < 0 → exec .geoTrimApply s =
      .next { s with geo := { s.geo with holdTicks := (-(bits (s.reg Reg.GEO_TRIM) 0 8).toInt).toNat } })) ∧
  (∀ s s1 : State, s.rb Reg.GEO_CFG 0 = true → s.geoRuns = true → s.geo.turned = true → s.geo.secs.toNat = s.regN Reg.GEO_ALARM 2 →
    showWake ({ s with geo := { s.geo with turned := false } }.hwSet Reg.GEO_STAT 0) = s1 →
    exec .geoAlarm s = .next (if s1.alive then wakeRequest 16 (raiseEvt Reg.GEO 0 s1) else s1)) ∧
  (∀ (i : Fin 2) (s s1 s2 s3 : State), s.rb Reg.GEO_TCFG (2 * i.val) = true → s.rb Reg.GEO_TCFG (2 * i.val + 1) = true →
    (s.hwSet Reg.GEO_STAT 1).hwSet Reg.GEO_STAT (8 + i.val) = s1 → s1.setRegN Reg.GEO_TTIME s.geo.secs.toNat 2 = s2 →
    showWake (if s.rb Reg.GEO_TCFG 8 then s2.resetRegs (Reg.GEO_BKP 0) 0x100 else s2) = s3 →
    exec (.tamper i true) s = .next (if s3.alive then fault .geo 0 0 (raiseEvt Reg.GEO 1 s3) else s3)) ∧
  (∀ (m : Master) (v : Word) (s : State), Reaches m Reg.GEO_STAT s → s.geo.busy = none →
    exec (.tamperClear m v) s = .next (wrote Reg.GEO_STAT s
      ({ s with geo := { s.geo with busy := some (0x044, v.toNat) } }.setRb Reg.GEO_STAT 5 true))) ∧
  (∀ s s1 : State, s.pwr.good = false → s.resetRegs (Reg.GEO + 0x040) 0xFC0 = s1 →
    exec .geoPowerOnReset s = .next (showWake { s1 with
      geo := { Geo.reset with wakeOut := s.geo.wakeOut }
      key := { s1.key with geoCtr := none } })) ∧
  (∀ s : State, Live Reg.GEO s → exec .xtalStop s = .next (became s (fault .geo 0 1 s)))
end

