-- ==== Sys2Proof/Laws/Cmd.lean ====
section
/-! SUPPORT. How a command runs: one lemma for each way in which a command arrives, for the case in which it takes effect. -/
namespace Sys2Proof.Machine

/-! ### A command that changes nothing -/

theorem tsReach_self (s : State) : tsReach s s = s := by simp [tsReach]

theorem forN_fixed {σ : Type} {n : Nat} {f : Nat → σ → σ} {s : σ} (h : ∀ i, f i s = s) : forN n f s = s := by
  unfold forN forEach
  induction List.range n with
  | nil => rfl
  | cons a l ih => rw [List.foldl_cons, h]; exact ih

theorem ownStores_self (s : State) : ownStores s s = s := by
  have hw : ∀ l : List Nat, l.foldl (fun a o => if s.reg (Reg.REF + o) = s.reg (Reg.REF + o) then a else storeMark .ref 0 o a) s = s := by
    intro l
    induction l with
    | nil => rfl
    | cons a l ih => rw [List.foldl_cons, if_pos rfl]; exact ih
  unfold ownStores
  split
  · rfl
  · dsimp only
    rw [hw]
    exact forN_fixed (fun i => by simp)

theorem settle_self (s : State) : settle s s = s := by rw [settle, tsReach_self, ownStores_self]

/-! ### Writes and reads by a master -/

theorem underCal_unopposed {m : Master} {a : Nat} {v : Word} {s : State} (h : Unopposed m s) : s.underCal m a v = v := by
  rcases h with rfl | h
  · rfl
  · by_cases hm : m = .calendar
    · simp [State.underCal, hm]
    · rw [State.underCal, if_neg hm, State.calOver, h]
      show v &&& ~~~(0#32) ||| (0#32 &&& 0#32) = v
      rw [show ~~~(0#32) = BitVec.allOnes 32 from rfl, BitVec.and_allOnes]
      simp

theorem calStaged_unopposed {m : Master} {a : Nat} {s : State} (h : Unopposed m s) : s.calStaged m a = s := by
  unfold State.calStaged
  rw [if_pos h]

theorem masterWrite_unopposed {m : Master} {pc : Option DWord} {a : Nat} {v : Word} {s : State} (h : Unopposed m s) :
    masterWrite m pc a v s = pageWrite m pc a v s := by
  rw [masterWrite, underCal_unopposed h, calStaged_unopposed h]

theorem gate_of_gateIn {m : Master} {a : Nat} {w : Bool} {s : State} (h : gateIn m a w s = .go) : gate m a w s = .go := by
  unfold gateIn at h
  split at h
  · cases h
  · exact h

theorem cmdW_reaches {m : Master} {a : Nat} {v : Word} {f : Word → State → State} {s : State} (h : Reaches m a s) :
    cmdW m a v f s = .next (wrote a s (f v s)) := by
  obtain ⟨h1, h2⟩ := h
  simp only [cmdW, regW, h1, wrote, underCal_unopposed h2, calStaged_unopposed h2]

theorem cmdE_live {pg : Nat} {f : State → State} {s : State} (h : Live pg s) : cmdE pg f s = .next (became s (f s)) := by
  unfold Live at h
  simp [cmdE, h, became]

theorem cmdT_acts {pg : Nat} {f : State → State} {s : State} (h : Acts pg s) : cmdT pg f s = .next (became s (f s)) := by
  obtain ⟨h1, h2⟩ := h
  simp [cmdT, h1, h2, became]

theorem cmdA_alive {f : State → State} {s : State} (h : s.alive = true) : cmdA f s = .next (became s (f s)) := by
  simp [cmdA, h, became]

theorem cmdRd_reaches {m : Master} {a : Nat} {f : State → Word × State} {s : State} (h : Reads m a s) :
    cmdRd m a f s = .next ((f s).2.emit (.readData m a (f s).1)) := by
  unfold Reads at h
  simp only [cmdRd, regR, h]

theorem stallOp_issues {e : Fin 512} {t : Fin 4} {priv : Bool} {srcs : List GReg} {op : Nat → State → Option State} {s s1 : State}
    (h : Issues (thKey e t) priv srcs s s1) :
    stallOp e t false priv srcs op s = .next (became s ((op (thKey e t) s1).getD s)) := by
  obtain ⟨h1, h2, h3, h4, h5⟩ := h
  unfold stallOp issue became
  simp only [h1, if_true, h2, h3, h4, h5]
  simp

theorem runOp_issues {e : Fin 512} {t : Fin 4} {priv : Bool} {srcs : List GReg} {op : Nat → State → State} {s s1 : State}
    (h : Issues (thKey e t) priv srcs s s1) :
    runOp e t false priv srcs op s = .next (became s (op (thKey e t) s1)) := by
  unfold runOp
  rw [stallOp_issues h]
  rfl

theorem alive_of_gateIn {m : Master} {a : Nat} {w : Bool} {s : State} (h : gateIn m a w s = .go) : s.alive = true := by
  have hg := gate_of_gateIn h
  by_cases hs : s.alive = true
  · exact hs
  · unfold gate at hg
    rw [if_pos hs] at hg
    cases hg

theorem backed_of_gateIn {m : Master} {a : Nat} {w : Bool} {s : State} (h : gateIn m a w s = .go) : s.backed m a = false := by
  have ha := alive_of_gateIn h
  unfold gateIn at h
  split at h
  · cases h
  · rename_i hn
    simpa [ha] using hn

theorem writeCmd_arrives {m : Master} {a v : Nat} {s : State} (h : Arrives m a s) :
    writeCmd m a 4 v s = .next (settle s (pageWrite m none a (BitVec.ofNat 32 v) s)) := by
  obtain ⟨⟨h, u⟩, w, z⟩ := h
  have ha := alive_of_gateIn h
  have hz : sizeOk a 4 = true := by simp [sizeOk, w, z]
  have hg : windowGateIn m a true s = .go := by simp [windowGateIn, windowGate, w, gate_of_gateIn h, backed_of_gateIn h]
  unfold writeCmd busWrite writeNow
  rw [if_neg (by simp [ha]), if_neg (by simp [hz])]
  simp only [hg, w, masterWrite_unopposed u]

theorem pageWrite_header {m : Master} {a : Nat} {pc : Option DWord} {v : Word} {p : PageRow} {inst off : Nat} {s : State}
    (h : pageAt a = some (p, inst, off)) (ho : off < 0x040) :
    pageWrite m pc a v s = hdrWrite m p.kind inst (a - off) off v s := by
  unfold pageWrite
  simp only [h, if_pos ho]

theorem pageWrite_body {m : Master} {a : Nat} {pc : Option DWord} {v : Word} {p : PageRow} {inst off : Nat} {s : State} {r : RegRow}
    {x : Nat × Nat × Nat} (h : pageAt a = some (p, inst, off)) (ho : 0x040 ≤ off) (hr : rowAt p.kind off = some (r, x))
    (ht : r.takes = true) :
    pageWrite m pc a v s = injectNote a s (bodyWrite m pc p.kind inst off a v s) := by
  unfold pageWrite
  simp only [h, if_neg (Nat.not_lt.mpr ho), hr, ht, Bool.true_or, if_true]

theorem pageIn_off_le : ∀ (l : List PageRow) (a : Nat) (p : PageRow) (inst off : Nat), pageIn l a = some (p, inst, off) → off ≤ a
  | [], _, _, _, _, h => by cases h
  | q :: l, a, p, inst, off, h => by
    unfold pageIn at h
    split at h
    · cases h
      omega
    · exact pageIn_off_le l a p inst off h

theorem pageAt_off_le {a : Nat} {p : PageRow} {inst off : Nat} (h : pageAt a = some (p, inst, off)) : off ≤ a :=
  pageIn_off_le pageTable a p inst off h

theorem readAt_arrives {m : Master} {a : Nat} {s : State} (hg : Reads m a s) (hw : windowOf a = .page) (hz : a % 4 = 0)
    (hi : s.readWaits a = false) :
    readAt m a 4 s = (pageRead m a s).2.emit (.readData m a (BitVec.ofNat 32 (pageRead m a s).1.toNat)) := by
  have ha := alive_of_gateIn hg
  have h1 : sizeOk a 4 = true := by simp [sizeOk, hw, hz]
  have h2 : windowGateIn m a false s = .go := by simp [windowGateIn, windowGate, hw, gate_of_gateIn hg, backed_of_gateIn hg, hi]
  unfold readAt busRead readNow
  rw [if_neg (by simp [ha]), if_neg (by simp [h1])]
  simp only [h2, hw]
  rfl

theorem aluOp_issues {e : Fin 512} {t : Fin 4} {rd : GReg} {srcs : List GReg} {f : Thread → DWord} {s s1 : State}
    (h : Issues (thKey e t) false srcs s s1) :
    aluOp e t rd srcs f s = .next (became s (next (thKey e t) (wrRg (thKey e t) rd.toNat (f (s1.th (thKey e t))) s1))) :=
  runOp_issues h

theorem branchOp_issues {e : Fin 512} {t : Fin 4} {rx ry : GReg} {off : BitVec 16} {c : DWord → DWord → Bool} {s s1 : State}
    (h : Issues (thKey e t) false [rx, ry] s s1) :
    branchOp e t rx ry off c s = .next (became s
      (if c ((s1.th (thKey e t)).r rx) ((s1.th (thKey e t)).r ry) then
        branchTo (thKey e t) ((s1.th (thKey e t)).pc + (sx off <<< 2)) id s1
      else next (thKey e t) s1)) :=
  runOp_issues h

theorem loadOp_issues {e : Fin 512} {t : Fin 4} {rd ra : GReg} {imm : BitVec 16} {n : Nat} {signed : Bool} {s s1 : State}
    (h : Issues (thKey e t) false [ra] s s1) :
    loadOp e t rd ra imm n signed s = .next (became s
      (load (thKey e t) rd.toNat ((s1.th (thKey e t)).ea ra imm) n signed s1)) :=
  runOp_issues h

theorem storeOp_issues {e : Fin 512} {t : Fin 4} {rs ra : GReg} {imm : BitVec 16} {n : Nat} {s s1 : State}
    (h : Issues (thKey e t) false [rs, ra] s s1) :
    storeOp e t rs ra imm n s = .next (became s
      ((store (thKey e t) ((s1.th (thKey e t)).r rs) ((s1.th (thKey e t)).ea ra imm) n s1).getD s)) :=
  stallOp_issues h

theorem load_reads {k rd : Nat} {ea : DWord} {n : Nat} {signed : Bool} {s1 s2 : State} {v : Nat}
    (h : LoadReads k rd ea n signed s1 v s2) : load k rd ea n signed s1 = next k (wrRg k rd (extend n signed v) s2) := by
  obtain ⟨t, ha, h⟩ := h
  unfold load
  rw [ha]
  rcases h with ⟨a, rfl, h⟩ | ⟨hp, l, rfl, h⟩
  · simp only [h]
  · cases t with
    | page a => exact absurd rfl (hp a)
    | _ => simp only [h]

theorem load_refused {k rd : Nat} {ea : DWord} {n : Nat} {signed : Bool} {s1 : State} {c : Cause}
    (h : s1.access k ea.toNat n n false = .error c) : load k rd ea n signed s1 = raiseExc k c (some ea) s1 := by
  unfold load
  rw [h]

theorem store_writes {k : Nat} {v ea : DWord} {n : Nat} {s1 s2 : State} (h : StoreWrites k v ea n s1 s2) :
    store k v ea n s1 = some s2 := by
  obtain ⟨t, ha, hf, h⟩ := h
  unfold store
  rw [ha]
  simp only [if_neg hf]
  rcases h with ⟨a, rfl, h⟩ | ⟨hp, h⟩
  · simp only [h]
  · cases t with
    | page a => exact absurd rfl (hp a)
    | _ => simp only [h]

theorem store_refused {k : Nat} {v ea : DWord} {n : Nat} {s1 : State} {c : Cause}
    (h : s1.access k ea.toNat n n true = .error c) : store k v ea n s1 = some (raiseExc k c (some ea) s1) := by
  unfold store
  rw [h]

theorem pairOp_issues {e : Fin 512} {t : Fin 4} {pd : GReg} {ill : Bool} {srcs : List GReg} {f : State → Thread → Nat} {s s1 : State}
    (h : Issues (thKey e t) false srcs s s1) (hd : badPair pd = false) (hi : ill = false) :
    pairOp e t pd ill srcs f s = .next (became s (next (thKey e t) (wrPair (thKey e t) pd (f s1 (s1.th (thKey e t))) s1))) := by
  subst hi
  unfold pairOp
  rw [hd]
  exact runOp_issues h

theorem timeOp_issues {e : Fin 512} {t : Fin 4} {rd : GReg} {ill : Bool} {srcs : List GReg} {f : State → Thread → DWord} {s s1 : State}
    (h : Issues (thKey e t) false srcs s s1) (hi : ill = false) :
    timeOp e t rd ill srcs f s = .next (became s (next (thKey e t) (wrRg (thKey e t) rd.toNat (f s1 (s1.th (thKey e t))) s1))) := by
  subst hi
  exact runOp_issues h

end Sys2Proof.Machine
end

