-- ==== Sys2Proof/Laws/Spine.lean ====
section
/-! SUPPORT. The spine of a state: what no effect of a command touches but those of power and the wrap, namely Bedrock, whether it
runs, and the queue of waiting commands. One lemma for each function of the model says that it keeps the spine; here stand those of
the general folds. -/
namespace Sys2Proof.Machine
/-- Bedrock, whether it runs, and the commands that wait. -/
def State.spine (s : State) : BT80 × Bool × List Instr := (s.bt, s.btRun, s.pending)
@[simp] theorem State.mk_spine {bt} {btRun} {thisCyc} {regs} {staged} {shadow} {sram} {dram} {mram} {badWords} {free} {out} {bdr} {act} {asy} {fct} {flt} {mtx} {jtagErr} {ddr} {mrm} {pci} {lsp} {tsu} {mate} {pwr} {geo} {ref} {dpl} {syn} {outs} {tdc} {gns} {ant} {prt} {svc} {sch} {pol} {key} {trn} {cry} {lcs} {pending} :
    (State.mk bt btRun thisCyc regs staged shadow sram dram mram badWords free out bdr act asy fct flt mtx jtagErr ddr mrm pci lsp tsu mate pwr geo ref dpl syn outs tdc gns ant prt svc sch pol key trn cry lcs pending).spine = (bt, btRun, pending) := by unfold State.spine; rfl
@[simp] theorem State.spine_eta (s : State) : (s.bt, s.btRun, s.pending) = s.spine := by unfold State.spine; rfl
@[simp] theorem foldl_spine {α : Type} {l : List α} {f : State → α → State} {s : State} (h : ∀ a x, (f a x).spine = a.spine) : (l.foldl f s).spine = s.spine := by
  induction l generalizing s <;> simp_all
@[simp] theorem forEach_spine {l : List Nat} {f : Nat → State → State} {s : State} (h : ∀ x a, (f x a).spine = a.spine) : (forEach l f s).spine = s.spine :=
  foldl_spine (fun a x => h x a)
@[simp] theorem forN_spine {n : Nat} {f : Nat → State → State} {s : State} (h : ∀ i a, (f i a).spine = a.spine) : (forN n f s).spine = s.spine :=
  forEach_spine h
@[simp] theorem foldl_spine1 {α β : Type} {l : List α} {f : State × β → α → State × β} {p : State × β} (h : ∀ a x, (f a x).1.spine = a.1.spine) : (l.foldl f p).1.spine = p.1.spine := by
  induction l generalizing p <;> simp_all
@[simp] theorem foldl_spine2 {α β : Type} {l : List α} {f : β × State → α → β × State} {p : β × State} (h : ∀ a x, (f a x).2.spine = a.2.spine) : (l.foldl f p).2.spine = p.2.spine := by
  induction l generalizing p <;> simp_all
end Sys2Proof.Machine
end

