-- ==== Sys2Proof/Laws/SpineBase.lean ====
section
/-! SUPPORT. The spine is kept by the shared operations, events, time scale and block cores. -/
set_option linter.unusedSimpArgs false
namespace Sys2Proof.Machine

/-! ### Ops -/

@[simp] theorem State.setReg_spine (s : State) (a : Nat) (v : Word) : (State.setReg s a v).spine = s.spine := by
  simp [State.setReg, apply_ite State.spine]
@[simp] theorem State.setRf_spine (s : State) (a : Nat) (lo : Nat) (n : Nat) (v : Nat) : (State.setRf s a lo n v).spine = s.spine := by
  simp [State.setRf, apply_ite State.spine]
@[simp] theorem State.setRb_spine (s : State) (a : Nat) (i : Nat) (b : Bool) : (State.setRb s a i b).spine = s.spine := by
  simp [State.setRb, apply_ite State.spine]
@[simp] theorem State.hwSet_spine (s : State) (a : Nat) (i : Nat) : (State.hwSet s a i).spine = s.spine := by
  simp [State.hwSet, apply_ite State.spine]
@[simp] theorem State.setRegN_spine (s : State) (a : Nat) (v : Nat) (a3 : Nat) : (State.setRegN s a v a3).spine = s.spine := by
  fun_induction State.setRegN s a v a3 <;> (first | rfl | (simp_all [apply_ite State.spine]; done) | grind [State.setReg_spine])
@[simp] theorem State.countBy_spine (s : State) (a : Nat) (n : Nat) : (State.countBy s a n).spine = s.spine := by
  simp [State.countBy, apply_ite State.spine]
@[simp] theorem State.count_spine (s : State) (a : Nat) : (State.count s a).spine = s.spine := by
  simp [State.count, apply_ite State.spine]
@[simp] theorem State.resetRegs_spine (s : State) (lo : Nat) (n : Nat) : (State.resetRegs s lo n).spine = s.spine := by
  simp [State.resetRegs, apply_ite State.spine]
@[simp] theorem State.emit_spine (s : State) (o : Output) : (State.emit s o).spine = s.spine := by
  simp [State.emit, apply_ite State.spine]
@[simp] theorem State.nextFree_spine (s : State) : (State.nextFree s).spine = s.spine := by
  simp [State.nextFree, apply_ite State.spine]
@[simp] theorem State.setShadow_spine (s : State) (m : Master) (a : Nat) (v : Word) : (State.setShadow s m a v).spine = s.spine := by
  simp [State.setShadow, apply_ite State.spine]
@[simp] theorem State.setStaged_spine (s : State) (m : Master) (a : Nat) (v : Option Word) : (State.setStaged s m a v).spine = s.spine := by
  simp [State.setStaged, apply_ite State.spine]
@[simp] theorem State.dropStaged_spine (s : State) (m : Master) (a : Nat) (a3 : Nat) : (State.dropStaged s m a a3).spine = s.spine := by
  fun_induction State.dropStaged s m a a3 <;> (first | rfl | (simp_all [apply_ite State.spine]; done) | grind [State.setStaged_spine])
@[simp] theorem State.dropStagedRange_spine (s : State) (lo : Nat) (n : Nat) : (State.dropStagedRange s lo n).spine = s.spine := by
  simp [State.dropStagedRange, apply_ite State.spine]
@[simp] theorem State.sramWr_spine (s : State) (a : Nat) (l : List Byte) : (State.sramWr s a l).spine = s.spine := by
  simp [State.sramWr, apply_ite State.spine]
@[simp] theorem State.dramWr_spine (s : State) (a : Nat) (l : List Byte) : (State.dramWr s a l).spine = s.spine := by
  simp [State.dramWr, apply_ite State.spine]
@[simp] theorem markBad_spine (inj : Nat → Bool) (base : Nat) (off : Nat) (n : Nat) (s : State) : (markBad inj base off n s).spine = s.spine := by
  simp [markBad, apply_ite State.spine]
@[simp] theorem markDram_spine (o : Nat) (n : Nat) (s : State) : (markDram o n s).spine = s.spine := by
  simp [markDram, apply_ite State.spine]
@[simp] theorem State.sharedWr_spine (s : State) (a : Nat) (l : List Byte) : (State.sharedWr s a l).spine = s.spine := by
  simp [State.sharedWr, apply_ite State.spine]

/-! ### Threads -/

@[simp] theorem State.setTh_spine (s : State) (k : Nat) (t : Thread) : (State.setTh s k t).spine = s.spine := by
  simp [State.setTh, apply_ite State.spine]
@[simp] theorem State.setEng_spine (s : State) (e : Nat) (x : Engine) : (State.setEng s e x).spine = s.spine := by
  simp [State.setEng, apply_ite State.spine]
@[simp] theorem State.setClu_spine (s : State) (c : Nat) (x : Cluster) : (State.setClu s c x).spine = s.spine := by
  simp [State.setClu, apply_ite State.spine]
@[simp] theorem State.setQueue_spine (s : State) (q : Nat) (x : Queue) : (State.setQueue s q x).spine = s.spine := by
  simp [State.setQueue, apply_ite State.spine]
@[simp] theorem State.setSem_spine (s : State) (n : Nat) (x : Sem) : (State.setSem s n x).spine = s.spine := by
  simp [State.setSem, apply_ite State.spine]
@[simp] theorem State.setArrived_spine (s : State) (b : Nat) (l : List Nat) : (State.setArrived s b l).spine = s.spine := by
  simp [State.setArrived, apply_ite State.spine]
@[simp] theorem postEvent_spine (k : Nat) (source : Nat) (code : Nat) (s : State) : (postEvent k source code s).1.spine = s.spine := by
  simp [postEvent, apply_ite State.spine]; (repeat' split) <;> simp [apply_ite State.spine]
@[simp] theorem queuePush_spine (n : Nat) (data : List Byte) (s : State) : (queuePush n data s).2.2.spine = s.spine := by
  grind [queuePush, State.sharedWr_spine, State.setQueue_spine, postEvent_spine]
@[simp] theorem queuePop_spine (n : Nat) (s : State) : (queuePop n s).2.2.spine = s.spine := by
  simp [queuePop, apply_ite State.spine]; (repeat' split) <;> simp [apply_ite State.spine]

/-! ### Events -/

@[simp] theorem State.setCtr_spine (s : State) (k : Nat) (c : Counter) : (State.setCtr s k c).spine = s.spine := by
  simp [State.setCtr, apply_ite State.spine, State.mk_spine]
@[simp] theorem noteCtr_spine (k : Nat) (s : State) : (noteCtr k s).spine = s.spine := by
  simp [noteCtr, apply_ite State.spine]; (repeat' split) <;> simp [apply_ite State.spine]
@[simp] theorem bumpCtr_spine (k : Nat) (s : State) : (bumpCtr k s).1.spine = s.spine := by
  simp [bumpCtr, apply_ite State.spine]; (repeat' split) <;> simp [apply_ite State.spine]
@[simp] theorem bumpChip_spine (code : Nat) (inst : Nat) (s : State) : (bumpChip code inst s).1.spine = s.spine := by
  simp [bumpChip, apply_ite State.spine]
@[simp] theorem sendMsix_spine (n : Nat) (s : State) : (sendMsix n s).1.spine = s.spine := by
  simp [sendMsix, apply_ite State.spine]; (repeat' split) <;> simp [apply_ite State.spine]
@[simp] theorem pushCc_spine (n : Nat) (s : State) : (pushCc n s).1.spine = s.spine := by
  dsimp only [pushCc]; (repeat' (first | (simp [apply_ite State.spine]; done) | split | (refine (foldl_spine ?_).trans ?_; intro _ _) | (refine (forN_spine ?_).trans ?_; intro _ _) | (refine (forEach_spine ?_).trans ?_; intro _ _) | (refine (foldl_spine1 ?_).trans ?_; intro _ _) | (refine (foldl_spine2 ?_).trans ?_; intro _ _) | (simp_all [apply_ite State.spine]; done) | grind [State.count_spine, queuePush_spine] | (simp; grind [State.mk_spine, State.spine_eta, State.count_spine, queuePush_spine])))
@[simp] theorem deliverOnce_spine (n : Nat) (s : State) : (deliverOnce n s).1.spine = s.spine := by
  simp [deliverOnce, apply_ite State.spine]; (repeat' split) <;> simp [apply_ite State.spine]
@[simp] theorem raiseEvt_spine (pg : Nat) (i : Nat) (s : State) : (raiseEvt pg i s).spine = s.spine := by
  simp [raiseEvt, apply_ite State.spine]; (repeat' split) <;> simp [apply_ite State.spine]
@[simp] theorem evtRecheck_spine (pg : Nat) (old : State) (s : State) : (evtRecheck pg old s).spine = s.spine := by
  simp [evtRecheck, apply_ite State.spine]
@[simp] theorem deliver_spine (n : Nat) (s : State) : (deliver n s).spine = s.spine := by
  simp [deliver, apply_ite State.spine]; (repeat' split) <;> simp [apply_ite State.spine]
@[simp] theorem msixNow_spine (n : Nat) (s : State) : (msixNow n s).spine = s.spine := by
  grind [msixNow, sendMsix_spine, raiseEvt_spine]
@[simp] theorem endEvents_spine (s : State) : (endEvents s).spine = s.spine := by
  simp [endEvents, apply_ite State.spine]
@[simp] theorem pmuChip_spine (code : Nat) (inst : Nat) (s : State) : (pmuChip code inst s).spine = s.spine := by
  grind [pmuChip, bumpChip_spine, raiseEvt_spine]
@[simp] theorem pmuUnit_spine (unit : Nat) (code : Nat) (thread : Nat) (user : Bool) (s : State) : (pmuUnit unit code thread user s).spine = s.spine := by
  dsimp only [pmuUnit]; (repeat' (first | (simp [apply_ite State.spine]; done) | split | (refine (foldl_spine ?_).trans ?_; intro _ _) | (refine (forN_spine ?_).trans ?_; intro _ _) | (refine (forEach_spine ?_).trans ?_; intro _ _) | (refine (foldl_spine1 ?_).trans ?_; intro _ _) | (refine (foldl_spine2 ?_).trans ?_; intro _ _) | (simp_all [apply_ite State.spine]; done) | grind [bumpCtr_spine, raiseEvt_spine] | (simp; grind [State.mk_spine, State.spine_eta, bumpCtr_spine, raiseEvt_spine])))
@[simp] theorem blockPush_spine (q : Nat) (data : List Byte) (s : State) : (blockPush q data s).2.spine = s.spine := by
  grind [blockPush, queuePush_spine, raiseEvt_spine]
@[simp] theorem postTo_spine (k : Nat) (source : Nat) (code : Nat) (s : State) : (postTo k source code s).spine = s.spine := by
  have h := postEvent_spine k source code s
  rcases e : postEvent k source code s with ⟨t, b⟩
  rw [e] at h
  cases b <;> simp only [postTo, e]
  · exact h
  · exact (raiseEvt_spine ..).trans h

/-! ### Vlog -/

@[simp] theorem statBy_spine (c : Nat) (i : Nat) (n : Nat) (s : State) : (statBy c i n s).spine = s.spine := by
  simp [statBy, apply_ite State.spine]
@[simp] theorem stat1_spine (c : Nat) (i : Nat) (s : State) : (stat1 c i s).spine = s.spine := by
  simp [stat1, apply_ite State.spine]
@[simp] theorem vlog_spine (cl : Option Nat) (v : Violation) (s : State) : (vlog cl v s).spine = s.spine := by
  simp [vlog, apply_ite State.spine]; (repeat' split) <;> simp [apply_ite State.spine]

/-! ### TsuCore -/

@[simp] theorem State.setLane_spine (s : State) (l : Nat) (dir : Nat) (m : LaneModel) : (State.setLane s l dir m).spine = s.spine := by
  simp [State.setLane, apply_ite State.spine]
@[simp] theorem State.setSlot_spine (s : State) (g : Nat) (h : Nat) (x : Option TsuSlot) : (State.setSlot s g h x).spine = s.spine := by
  simp [State.setSlot, apply_ite State.spine]
@[simp] theorem postCompletion_spine (g : Nat) (cq : Nat) (data : List Byte) (s : State) : (postCompletion g cq data s).spine = s.spine := by
  grind [postCompletion, State.count_spine, raiseEvt_spine, blockPush_spine]
@[simp] theorem freeBuffer_spine (f : Option (Nat × Nat)) (s : State) : (freeBuffer f s).spine = s.spine := by
  dsimp only [freeBuffer]; (repeat' split) <;> first | (simp_all [apply_ite State.spine]; done) | grind [State.count_spine, raiseEvt_spine, blockPush_spine]
@[simp] theorem watchEnd_spine (g : Nat) (h : Nat) (st : CplStatus) (s : State) : (watchEnd g h st s).spine = s.spine := by
  simp [watchEnd, apply_ite State.spine]; (repeat' split) <;> simp [apply_ite State.spine]
@[simp] theorem endSlot_spine (g : Nat) (h : Nat) (x : TsuSlot) (st : CplStatus) (cause : Nat) (s : State) : (endSlot g h x st cause s).spine = s.spine := by
  simp [endSlot, apply_ite State.spine]; (repeat' split) <;> simp [apply_ite State.spine]
@[simp] theorem missSlot_spine (g : Nat) (h : Nat) (c : MissCause) (s : State) : (missSlot g h c s).spine = s.spine := by
  simp [missSlot, apply_ite State.spine]; (repeat' split) <;> simp [apply_ite State.spine]
@[simp] theorem missWhere_spine (g : Nat) (c : MissCause) (pick : TsuSlot → Bool) (s : State) : (missWhere g c pick s).spine = s.spine := by
  simp [missWhere, apply_ite State.spine]
@[simp] theorem truncWhere_spine (g : Nat) (pick : TsuSlot → Bool) (s : State) : (truncWhere g pick s).spine = s.spine := by
  simp [truncWhere, apply_ite State.spine]
@[simp] theorem noteEval_spine (b : BT80) (port : Option Nat) (t : TimeStatus) (s : State) : (noteEval b port t s).spine = s.spine := by
  simp [noteEval, apply_ite State.spine]
@[simp] theorem purgeReserved_spine (s : State) : (purgeReserved s).spine = s.spine := by
  simp [purgeReserved, apply_ite State.spine]
@[simp] theorem missAllTimeReset_spine (s : State) : (missAllTimeReset s).spine = s.spine := by
  simp [missAllTimeReset, apply_ite State.spine]
@[simp] theorem rePredict_spine (p : Nat) (s : State) : (rePredict p s).spine = s.spine := by
  simp [rePredict, apply_ite State.spine]
@[simp] theorem showPhases_spine (g : Nat) (s : State) : (showPhases g s).spine = s.spine := by
  simp [showPhases, apply_ite State.spine]
@[simp] theorem phaseClock_spine (p : Nat) (s : State) : (phaseClock p s).spine = s.spine := by
  simp [phaseClock, apply_ite State.spine]
@[simp] theorem loseLane_spine (l : Nat) (dir : Nat) (s : State) : (loseLane l dir s).spine = s.spine := by
  simp [loseLane, apply_ite State.spine]
@[simp] theorem reAnchor_spine (s : State) : (reAnchor s).spine = s.spine := by
  simp [reAnchor, apply_ite State.spine]; (repeat' split) <;> simp [apply_ite State.spine]
@[simp] theorem refuse_spine (g : Nat) (st : GrantStatus) (s : State) : (refuse g st s).2.spine = s.spine := by
  simp [refuse, apply_ite State.spine]
@[simp] theorem grantAt_spine (r : RsvReq) (k : Nat) (s : State) : (grantAt r k s).2.spine = s.spine := by
  simp [grantAt, apply_ite State.spine]
@[simp] theorem reserve_spine (r : RsvReq) (path : Option Nat) (s : State) : (reserve r path s).2.spine = s.spine := by
  simp [reserve, apply_ite State.spine]; (repeat' split) <;> simp [apply_ite State.spine]
@[simp] theorem cancelSlot_spine (g : Nat) (h : Nat) (s : State) : (cancelSlot g h s).spine = s.spine := by
  simp [cancelSlot, apply_ite State.spine]; (repeat' split) <;> simp [apply_ite State.spine]

/-! ### AsyCore -/

@[simp] theorem State.setStage_spine (s : State) (l : List (Option StgEntry)) : (State.setStage s l).spine = s.spine := by
  simp [State.setStage, apply_ite State.spine]
@[simp] theorem takeRecord_spine (typ : Nat) (s : State) : (takeRecord typ s).spine = s.spine := by
  simp [takeRecord, apply_ite State.spine]
@[simp] theorem noteChange_spine (i : Nat) (s : State) : (noteChange i s).spine = s.spine := by
  simp [noteChange, apply_ite State.spine]
@[simp] theorem changeRecord_spine (typ : Nat) (i : Nat) (s : State) : (changeRecord typ i s).spine = s.spine := by
  simp [changeRecord, apply_ite State.spine]
@[simp] theorem setStatus_spine (t : TimeStatus) (s : State) : (setStatus t s).spine = s.spine := by
  simp [setStatus, apply_ite State.spine]
@[simp] theorem asyMove_spine (t : TimeStatus) (s : State) : (asyMove t s).1.spine = s.spine := by
  simp [asyMove, apply_ite State.spine]; (repeat' split) <;> simp [apply_ite State.spine]
@[simp] theorem applyUpdate_spine (a : BT80) (s : State) : (applyUpdate a s).1.spine = s.spine := by
  dsimp only [applyUpdate]; (repeat' (first | (simp [apply_ite State.spine]; done) | split | (refine (foldl_spine ?_).trans ?_; intro _ _) | (refine (forN_spine ?_).trans ?_; intro _ _) | (refine (forEach_spine ?_).trans ?_; intro _ _) | (refine (foldl_spine1 ?_).trans ?_; intro _ _) | (refine (foldl_spine2 ?_).trans ?_; intro _ _) | (simp_all [apply_ite State.spine]; done) | grind [refuse_spine, asyMove_spine] | (simp; grind [State.mk_spine, State.spine_eta, refuse_spine, asyMove_spine])))
@[simp] theorem applyTs_spine (a : BT80) (code : Nat) (now : TimeStatus) (upd : Option BT80) (s : State) : (applyTs a code now upd s).1.spine = s.spine := by
  grind [applyTs, refuse_spine, asyMove_spine]
@[simp] theorem asyParts_spine (a : BT80) (p : AsyParts) (old : AsySet) (s : State) : (asyParts a p old s).1.spine = s.spine := by
  simp [asyParts, apply_ite State.spine]; (repeat' split) <;> simp [apply_ite State.spine]
@[simp] theorem asyNote_spine (s : State) : (asyNote s).spine = s.spine := by
  simp [asyNote, apply_ite State.spine]; (repeat' split) <;> simp [apply_ite State.spine]
@[simp] theorem asyBack_spine (b : AsyBase) (s : State) : (asyBack b s).spine = s.spine := by
  simp [asyBack, apply_ite State.spine]
@[simp] theorem asyResolve_spine (s : State) : (asyResolve s).spine = s.spine := by
  simp [asyResolve, apply_ite State.spine]; (repeat' split) <;> simp [apply_ite State.spine]
@[simp] theorem asyHwMove_spine (t : TimeStatus) (s : State) : (asyHwMove t s).spine = s.spine := by
  simp [asyHwMove, apply_ite State.spine]; (repeat' split) <;> simp [apply_ite State.spine]
@[simp] theorem asyInput_spine (s : State) : (asyInput s).spine = s.spine := by
  simp [asyInput, apply_ite State.spine]
@[simp] theorem asyFall_spine (s : State) : (asyFall s).spine = s.spine := by
  simp [asyFall, apply_ite State.spine]
@[simp] theorem asyWithdraw_spine (s : State) : (asyWithdraw s).spine = s.spine := by
  simp [asyWithdraw, apply_ite State.spine]
@[simp] theorem asyUnlock_spine (s : State) : (asyUnlock s).spine = s.spine := by
  simp [asyUnlock, apply_ite State.spine]
@[simp] theorem asyStep_spine (s0 : State) : (asyStep s0).spine = s0.spine := by
  simp [asyStep, apply_ite State.spine]
@[simp] theorem refChanged_spine (was : Nat) (s : State) : (refChanged was s).spine = s.spine := by
  simp [refChanged, apply_ite State.spine]

/-! ### GnsCore -/

@[simp] theorem State.setGch_spine (s : State) (c : Nat) (x : Gch) : (State.setGch s c x).spine = s.spine := by
  simp [State.setGch, apply_ite State.spine]
@[simp] theorem acqWithdraw_spine (c : Nat) (s : State) : (acqWithdraw c s).spine = s.spine := by
  simp [acqWithdraw, apply_ite State.spine]
@[simp] theorem acqQueue_spine (r : AcqReq) (s : State) : (acqQueue r s).spine = s.spine := by
  simp [acqQueue, apply_ite State.spine]
@[simp] theorem setGchSt_spine (c : Nat) (st : GchState) (s : State) : (setGchSt c st s).spine = s.spine := by
  simp [setGchSt, apply_ite State.spine]
@[simp] theorem gchStop_spine (c : Nat) (s : State) : (gchStop c s).spine = s.spine := by
  simp [gchStop, apply_ite State.spine]
@[simp] theorem gchLose_spine (c : Nat) (s : State) : (gchLose c s).spine = s.spine := by
  simp [gchLose, apply_ite State.spine]
@[simp] theorem gchSlip_spine (c : Nat) (s : State) : (gchSlip c s).spine = s.spine := by
  simp [gchSlip, apply_ite State.spine]
@[simp] theorem gchRebase_spine (c : Nat) (s : State) : (gchRebase c s).spine = s.spine := by
  simp [gchRebase, apply_ite State.spine]
@[simp] theorem gchRebaseAll_spine (f : State → Nat → Bool) (s : State) : (gchRebaseAll f s).spine = s.spine := by
  simp [gchRebaseAll, apply_ite State.spine]
@[simp] theorem laneDrop_spine (n : Nat) (s : State) : (laneDrop n s).spine = s.spine := by
  simp [laneDrop, apply_ite State.spine]
@[simp] theorem laneUp_spine (n : Nat) (s : State) : (laneUp n s).spine = s.spine := by
  simp [laneUp, apply_ite State.spine]
@[simp] theorem ringPut_spine (base : Nat) (wr : Nat) (rd : Nat) (size : Nat) (cnt : Nat) (pg : Nat) (evt : Nat) (data : List Byte) (s : State) : (ringPut base wr rd size cnt pg evt data s).1.spine = s.spine := by
  simp [ringPut, apply_ite State.spine]; (repeat' split) <;> simp [apply_ite State.spine]
@[simp] theorem putMeas_spine (data : List Byte) (s : State) : (putMeas data s).spine = s.spine := by
  simp [putMeas, apply_ite State.spine]
@[simp] theorem putNav_spine (data : List Byte) (s : State) : (putNav data s).spine = s.spine := by
  grind [putNav, raiseEvt_spine, ringPut_spine]
@[simp] theorem measRecord_spine (c : Nat) (t : WT96) (b : BT80) (burst : Bool) (s : State) : (measRecord c t b burst s).spine = s.spine := by
  simp [measRecord, apply_ite State.spine]
@[simp] theorem gnsStep_spine (s : State) : (gnsStep s).spine = s.spine := by
  simp [gnsStep, apply_ite State.spine]

/-! ### SynCore -/

@[simp] theorem State.setSynS_spine (s : State) (n : Nat) (x : Syn) : (State.setSynS s n x).spine = s.spine := by
  simp [State.setSynS, apply_ite State.spine]
@[simp] theorem retuneLane_spine (l : Nat) (old : Nat) (new : Nat) (s : State) : (retuneLane l old new s).spine = s.spine := by
  simp [retuneLane, apply_ite State.spine]
@[simp] theorem setApp_spine (n : Nat) (f : Int) (s : State) : (setApp n f s).spine = s.spine := by
  simp [setApp, apply_ite State.spine]
@[simp] theorem synFollow_spine (n : Nat) (count : Bool) (s : State) : (synFollow n count s).spine = s.spine := by
  simp [synFollow, apply_ite State.spine]; (repeat' split) <;> simp [apply_ite State.spine]
@[simp] theorem synDeliver_spine (n : Nat) (y : Int) (s : State) : (synDeliver n y s).spine = s.spine := by
  simp [synDeliver, apply_ite State.spine]
@[simp] theorem synSlewStep_spine (n : Nat) (s : State) : (synSlewStep n s).spine = s.spine := by
  simp [synSlewStep, apply_ite State.spine]
@[simp] theorem ptxCheck_spine (s : State) : (ptxCheck s).spine = s.spine := by
  simp [ptxCheck, apply_ite State.spine]
@[simp] theorem State.setOutClk_spine (s : State) (n : Nat) (x : OutClk) : (State.setOutClk s n x).spine = s.spine := by
  simp [State.setOutClk, apply_ite State.spine]
@[simp] theorem outDrive_spine (n : Nat) (lvl : Bool) (j : Nat) (s : State) : (outDrive n lvl j s).spine = s.spine := by
  simp [outDrive, apply_ite State.spine]
@[simp] theorem outRise_spine (n : Nat) (s : State) : (outRise n s).spine = s.spine := by
  simp [outRise, apply_ite State.spine]
@[simp] theorem outFall_spine (n : Nat) (s : State) : (outFall n s).spine = s.spine := by
  simp [outFall, apply_ite State.spine]
@[simp] theorem outEdges_spine (n : Nat) (a1 : Nat) (a2 : State) : (outEdges n a1 a2).spine = a2.spine := by
  fun_induction outEdges n a1 a2 <;> (first | rfl | (simp_all [apply_ite State.spine]; done) | grind [outRise_spine, outFall_spine])
@[simp] theorem outsCycle_spine (s : State) : (outsCycle s).spine = s.spine := by
  simp [outsCycle, apply_ite State.spine]
@[simp] theorem outDivider_spine (n : Nat) (s : State) : (outDivider n s).spine = s.spine := by
  simp [outDivider, apply_ite State.spine]
@[simp] theorem outUpdate_spine (n : Nat) (s : State) : (outUpdate n s).spine = s.spine := by
  simp [outUpdate, apply_ite State.spine]
@[simp] theorem outsUpdate_spine (s : State) : (outsUpdate s).spine = s.spine := by
  simp [outsUpdate, apply_ite State.spine]
@[simp] theorem setSyn_spine (n : Nat) (st : SynState) (s : State) : (setSyn n st s).spine = s.spine := by
  simp [setSyn, apply_ite State.spine]
@[simp] theorem synLocked_spine (n : Nat) (s : State) : (synLocked n s).spine = s.spine := by
  simp [synLocked, apply_ite State.spine]
@[simp] theorem State.setPps_spine (s : State) (n : Nat) (x : Pps) : (State.setPps s n x).spine = s.spine := by
  simp [State.setPps, apply_ite State.spine]
@[simp] theorem ppsStop_spine (n : Nat) (s0 : State) : (ppsStop n s0).spine = s0.spine := by
  simp [ppsStop, apply_ite State.spine]
@[simp] theorem ppsStopAll_spine (s : State) : (ppsStopAll s).spine = s.spine := by
  simp [ppsStopAll, apply_ite State.spine]
@[simp] theorem ppsArm_spine (n : Nat) (s : State) : (ppsArm n s).spine = s.spine := by
  simp [ppsArm, apply_ite State.spine]
@[simp] theorem ppsArmAll_spine (s : State) : (ppsArmAll s).spine = s.spine := by
  simp [ppsArmAll, apply_ite State.spine]
@[simp] theorem ppsBdrReset_spine (s : State) : (ppsBdrReset s).spine = s.spine := by
  dsimp only [ppsBdrReset]; (repeat' (first | (simp [apply_ite State.spine]; done) | split | (refine (foldl_spine ?_).trans ?_; intro _ _) | (refine (forN_spine ?_).trans ?_; intro _ _) | (refine (forEach_spine ?_).trans ?_; intro _ _) | (refine (foldl_spine1 ?_).trans ?_; intro _ _) | (refine (foldl_spine2 ?_).trans ?_; intro _ _) | (simp_all [apply_ite State.spine]; done) | grind [State.setPps_spine, ppsStopAll_spine] | (simp; grind [State.mk_spine, State.spine_eta, State.setPps_spine, ppsStopAll_spine])))
@[simp] theorem ppsJudge_spine (n : Nat) (s : State) : (ppsJudge n s).spine = s.spine := by
  simp [ppsJudge, apply_ite State.spine]
@[simp] theorem ppsStep_spine (v : WT96) (s : State) : (ppsStep v s).spine = s.spine := by
  simp [ppsStep, apply_ite State.spine]

/-! ### DplCore -/

@[simp] theorem State.setDpl_spine (s : State) (l : Nat) (x : Dpl) : (State.setDpl s l x).spine = s.spine := by
  simp [State.setDpl, apply_ite State.spine]
@[simp] theorem dplAdvance_spine (l : Nat) (s : State) : (dplAdvance l s).spine = s.spine := by
  simp [dplAdvance, apply_ite State.spine]; (repeat' split) <;> simp [apply_ite State.spine]
@[simp] theorem setDplSt_spine (l : Nat) (st : LoopState) (s : State) : (setDplSt l st s).spine = s.spine := by
  simp [setDplSt, apply_ite State.spine]
@[simp] theorem setEfc_spine (l : Nat) (code : Nat) (run : Bool) (s : State) : (setEfc l code run s).spine = s.spine := by
  simp [setEfc, apply_ite State.spine]
@[simp] theorem dplOutputs_spine (s : State) : (dplOutputs s).spine = s.spine := by
  simp [dplOutputs, apply_ite State.spine]; (repeat' split) <;> simp [apply_ite State.spine]
@[simp] theorem efcCycle_spine (s : State) : (efcCycle s).spine = s.spine := by
  simp [efcCycle, apply_ite State.spine]
@[simp] theorem dplLimit_spine (l : Nat) (act : Bool) (s : State) : (dplLimit l act s).spine = s.spine := by
  simp [dplLimit, apply_ite State.spine]
@[simp] theorem uartSend_spine (u : Nat) (l : List Byte) (s : State) : (uartSend u l s).spine = s.spine := by
  simp [uartSend, apply_ite State.spine]
@[simp] theorem tplSend_spine (l : Nat) (s : State) : (tplSend l s).1.spine = s.spine := by
  simp [tplSend, apply_ite State.spine]; (repeat' split) <;> simp [apply_ite State.spine]
@[simp] theorem dplOutput_spine (l : Nat) (s : State) : (dplOutput l s).1.spine = s.spine := by
  simp [dplOutput, apply_ite State.spine]; (repeat' split) <;> simp [apply_ite State.spine]
@[simp] theorem dplEvalOnce_spine (l : Nat) (s : State) : (dplEvalOnce l s).spine = s.spine := by
  simp [dplEvalOnce, apply_ite State.spine]; (repeat' split) <;> simp [apply_ite State.spine]
@[simp] theorem dplEval_spine (l : Nat) (s : State) : (dplEval l s).spine = s.spine := by
  simp [dplEval, apply_ite State.spine]
@[simp] theorem dplEvalAll_spine (s : State) : (dplEvalAll s).spine = s.spine := by
  simp [dplEvalAll, apply_ite State.spine]
@[simp] theorem dplCurChange_spine (l : Nat) (chg : Bool) (s : State) : (dplCurChange l chg s).spine = s.spine := by
  simp [dplCurChange, apply_ite State.spine]
@[simp] theorem dplHistory_spine (l : Nat) (t : Nat) (s : State) : (dplHistory l t s).spine = s.spine := by
  simp [dplHistory, apply_ite State.spine]
@[simp] theorem lockDetect_spine (l : Nat) (t : Nat) (s : State) : (lockDetect l t s).spine = s.spine := by
  simp [lockDetect, apply_ite State.spine]; (repeat' split) <;> simp [apply_ite State.spine]
@[simp] theorem dplReport_spine (l : Nat) (b : BT80) (p : Int) (y : Int) (s : State) : (dplReport l b p y s).spine = s.spine := by
  simp [dplReport, apply_ite State.spine]
@[simp] theorem histNote_spine (l : Nat) (s : State) : (histNote l s).spine = s.spine := by
  simp [histNote, apply_ite State.spine]
@[simp] theorem dplUpdate_spine (l : Nat) (b : BT80) (e : Nat) (x : Int) (s : State) : (dplUpdate l b e x s).spine = s.spine := by
  simp [dplUpdate, apply_ite State.spine]
@[simp] theorem dplReseed_spine (l : Nat) (s : State) : (dplReseed l s).spine = s.spine := by
  simp [dplReseed, apply_ite State.spine]
@[simp] theorem dplRelease_spine (l : Nat) (s : State) : (dplRelease l s).spine = s.spine := by
  simp [dplRelease, apply_ite State.spine]
@[simp] theorem wrDplCmd_spine (l : Nat) (v : Word) (s : State) : (wrDplCmd l v s).spine = s.spine := by
  simp [wrDplCmd, apply_ite State.spine]

/-! ### MateCore -/

@[simp] theorem driveActive_spine (b : Bool) (s : State) : (driveActive b s).spine = s.spine := by
  simp [driveActive, apply_ite State.spine]
@[simp] theorem setRole_spine (r : Role) (c : RoleCause) (s : State) : (setRole r c s).spine = s.spine := by
  simp [setRole, apply_ite State.spine]
@[simp] theorem trackGood_spine (s : State) : (trackGood s).spine = s.spine := by
  simp [trackGood, apply_ite State.spine]
@[simp] theorem mateIsolate_spine (c : RoleCause) (s : State) : (mateIsolate c s).spine = s.spine := by
  simp [mateIsolate, apply_ite State.spine]
@[simp] theorem mateSend_spine (t : MateType) (payload : List Byte) (s : State) : (mateSend t payload s).spine = s.spine := by
  simp [mateSend, apply_ite State.spine]
@[simp] theorem mateCtrl_spine (op : MateOp) (due : WT96) (s : State) : (mateCtrl op due s).spine = s.spine := by
  simp [mateCtrl, apply_ite State.spine]
@[simp] theorem mateMirror_spine (kind : Nat) (body : List Byte) (s : State) : (mateMirror kind body s).spine = s.spine := by
  simp [mateMirror, apply_ite State.spine]
@[simp] theorem hoArm_spine (slot : Nat) (due : WT96) (reversion : Bool) (s : State) : (hoArm slot due reversion s).spine = s.spine := by
  simp [hoArm, apply_ite State.spine]
@[simp] theorem hoDrop_spine (slot : Nat) (s : State) : (hoDrop slot s).spine = s.spine := by
  simp [hoDrop, apply_ite State.spine]

/-! ### RefCore -/

@[simp] theorem State.setEnt_spine (s : State) (e : Nat) (x : RefEnt) : (State.setEnt s e x).spine = s.spine := by
  simp [State.setEnt, apply_ite State.spine]
@[simp] theorem showCode_spine (e : Nat) (code : Nat) (aux : Nat) (s : State) : (showCode e code aux s).spine = s.spine := by
  simp [showCode, apply_ite State.spine]
@[simp] theorem showFlags_spine (e : Nat) (s : State) : (showFlags e s).spine = s.spine := by
  simp [showFlags, apply_ite State.spine]
@[simp] theorem showState_spine (e : Nat) (st : EntState) (s : State) : (showState e st s).spine = s.spine := by
  simp [showState, apply_ite State.spine]
@[simp] theorem entMove_spine (e : Nat) (st : EntState) (c : EntCause) (s : State) : (entMove e st c s).spine = s.spine := by
  simp [entMove, apply_ite State.spine]; (repeat' split) <;> simp [apply_ite State.spine]
@[simp] theorem entFollow_spine (e : Nat) (s : State) : (entFollow e s).spine = s.spine := by
  simp [entFollow, apply_ite State.spine]; (repeat' split) <;> simp [apply_ite State.spine]
@[simp] theorem setCur_spine (l : Nat) (e : Nat) (valid : Bool) (m : SelMode) (spent : Nat) (s : State) : (setCur l e valid m spent s).spine = s.spine := by
  simp [setCur, apply_ite State.spine]; (repeat' split) <;> simp [apply_ite State.spine]
@[simp] theorem fallback_spine (l : Nat) (s : State) : (fallback l s).spine = s.spine := by
  simp [fallback, apply_ite State.spine]; (repeat' split) <;> simp [apply_ite State.spine]
@[simp] theorem State.clearFb_spine (s : State) (l : Nat) : (State.clearFb s l).spine = s.spine := by
  simp [State.clearFb, apply_ite State.spine]
@[simp] theorem onFail_spine (l : Nat) (s : State) : (onFail l s).spine = s.spine := by
  simp [onFail, apply_ite State.spine]; (repeat' split) <;> simp [apply_ite State.spine]
@[simp] theorem rescan_spine (l : Nat) (s : State) : (rescan l s).spine = s.spine := by
  simp [rescan, apply_ite State.spine]; (repeat' split) <;> simp [apply_ite State.spine]
@[simp] theorem entEvalOnce_spine (e : Nat) (s : State) : (entEvalOnce e s).spine = s.spine := by
  simp [entEvalOnce, apply_ite State.spine]; (repeat' split) <;> simp [apply_ite State.spine]
@[simp] theorem entEval_spine (e : Nat) (s : State) : (entEval e s).spine = s.spine := by
  have h : entEval e s = showFlags e (entFollow e (entEvalOnce e (entEvalOnce e (showFlags e (match s.liveCode e with
    | some c => showCode e c 0xFF s
    | none => s))))) := rfl
  rw [h, showFlags_spine, entFollow_spine, entEvalOnce_spine, entEvalOnce_spine, showFlags_spine]
  split
  · simp
  · rfl
@[simp] theorem entEvalAll_spine (s : State) : (entEvalAll s).spine = s.spine := by
  simp [entEvalAll, apply_ite State.spine]
@[simp] theorem deselectAll_spine (s : State) : (deselectAll s).spine = s.spine := by
  simp [deselectAll, apply_ite State.spine]
@[simp] theorem refDisable_spine (s : State) : (refDisable s).spine = s.spine := by
  simp [refDisable, apply_ite State.spine]
@[simp] theorem refTable_spine (s : State) : (refTable s).spine = s.spine := by
  simp [refTable, apply_ite State.spine]
@[simp] theorem entStart_spine (e : Nat) (s : State) : (entStart e s).spine = s.spine := by
  simp [entStart, apply_ite State.spine]
@[simp] theorem wrEntCfg_spine (e : Nat) (v : Word) (s : State) : (wrEntCfg e v s).spine = s.spine := by
  simp [wrEntCfg, apply_ite State.spine]
@[simp] theorem wrSel_spine (l : Nat) (v : Word) (s0 : State) : (wrSel l v s0).spine = s0.spine := by
  simp [wrSel, apply_ite State.spine]; (repeat' split) <;> simp [apply_ite State.spine]
@[simp] theorem prioApply_spine (s : State) : (prioApply s).spine = s.spine := by
  dsimp only [prioApply]; (repeat' (first | (simp [apply_ite State.spine]; done) | split | (refine (foldl_spine ?_).trans ?_; intro _ _) | (refine (forN_spine ?_).trans ?_; intro _ _) | (refine (forEach_spine ?_).trans ?_; intro _ _) | (refine (foldl_spine1 ?_).trans ?_; intro _ _) | (refine (foldl_spine2 ?_).trans ?_; intro _ _) | (simp_all [apply_ite State.spine]; done) | grind [State.setReg_spine, State.setRf_spine] | (simp; grind [State.mk_spine, State.spine_eta, State.setReg_spine, State.setRf_spine])))
@[simp] theorem refEdge_spine (e : Nat) (k : Nat) (b : BT80) (s : State) : (refEdge e k b s).spine = s.spine := by
  simp [refEdge, apply_ite State.spine]
@[simp] theorem refCounted_spine (e : Nat) (s : State) : (refCounted e s).spine = s.spine := by
  simp [refCounted, apply_ite State.spine]
@[simp] theorem refDelivery_spine (e : Nat) (b : BT80) (edges : Nat) (s : State) : (refDelivery e b edges s).spine = s.spine := by
  simp [refDelivery, apply_ite State.spine]; (repeat' split) <;> simp [apply_ite State.spine]
@[simp] theorem gateEnd_spine (e : Nat) (s : State) : (gateEnd e s).spine = s.spine := by
  simp [gateEnd, apply_ite State.spine]; (repeat' split) <;> simp [apply_ite State.spine]
@[simp] theorem activityTimeout_spine (e : Nat) (s : State) : (activityTimeout e s).spine = s.spine := by
  simp [activityTimeout, apply_ite State.spine]
@[simp] theorem messageTimeout_spine (e : Nat) (s : State) : (messageTimeout e s).spine = s.spine := by
  simp [messageTimeout, apply_ite State.spine]
@[simp] theorem qualExpire_spine (e : Nat) (s : State) : (qualExpire e s).spine = s.spine := by
  simp [qualExpire, apply_ite State.spine]; (repeat' split) <;> simp [apply_ite State.spine]
@[simp] theorem refMessage_spine (e : Nat) (code : Nat) (aux : Nat) (bad : Option EntCause) (trc : Bool) (s : State) : (refMessage e code aux bad trc s).spine = s.spine := by
  simp [refMessage, apply_ite State.spine]
@[simp] theorem refSsm_spine (p : Nat) (ssm : Nat) (essm : Nat) (s : State) : (refSsm p ssm essm s).spine = s.spine := by
  simp [refSsm, apply_ite State.spine]
@[simp] theorem refAnnounce_spine (lo : Word) (mid : Word) (hi : Word) (s : State) : (refAnnounce lo mid hi s).spine = s.spine := by
  simp [refAnnounce, apply_ite State.spine]
@[simp] theorem todApply_spine (u : Nat) (e : Nat) (m : TodMsg) (s : State) : (todApply u e m s).spine = s.spine := by
  simp [todApply, apply_ite State.spine]
@[simp] theorem todDiscard_spine (u : Nat) (window : Bool) (s : State) : (todDiscard u window s).spine = s.spine := by
  simp [todDiscard, apply_ite State.spine]
@[simp] theorem State.setTod_spine (s : State) (u : Nat) (x : TodParser) : (State.setTod s u x).spine = s.spine := by
  simp [State.setTod, apply_ite State.spine]
@[simp] theorem todMessage_spine (u : Nat) (m : TodMsg) (s : State) : (todMessage u m s).spine = s.spine := by
  simp [todMessage, apply_ite State.spine]; (repeat' split) <;> simp [apply_ite State.spine]
@[simp] theorem todJudge_spine (u : Nat) (e : Nat) (l : List (TodMsg × BT80)) (s : State) : (todJudge u e l s).spine = s.spine := by
  simp [todJudge, apply_ite State.spine]
@[simp] theorem todPulse_spine (e : Nat) (b : BT80) (s : State) : (todPulse e b s).spine = s.spine := by
  simp [todPulse, apply_ite State.spine]; (repeat' split) <;> simp [apply_ite State.spine]
@[simp] theorem todExpire_spine (u : Nat) (s : State) : (todExpire u s).spine = s.spine := by
  simp [todExpire, apply_ite State.spine]
@[simp] theorem todFrame_spine (u : Nat) (f : List Byte) (s : State) : (todFrame u f s).spine = s.spine := by
  simp [todFrame, apply_ite State.spine]; (repeat' split) <;> simp [apply_ite State.spine]
@[simp] theorem todByte_spine (u : Nat) (b : Byte) (s : State) : (todByte u b s).spine = s.spine := by
  simp [todByte, apply_ite State.spine]
@[simp] theorem todBytes_spine (u : Nat) (l : List Byte) (s : State) : (todBytes u l s).spine = s.spine := by
  simp [todBytes, apply_ite State.spine]
@[simp] theorem todFrameTimeout_spine (u : Nat) (s : State) : (todFrameTimeout u s).spine = s.spine := by
  simp [todFrameTimeout, apply_ite State.spine]
@[simp] theorem todNmea_spine (u : Nat) (l : List Byte) (s : State) : (todNmea u l s).spine = s.spine := by
  simp [todNmea, apply_ite State.spine]; (repeat' split) <;> simp [apply_ite State.spine]
@[simp] theorem nmeaByte_spine (u : Nat) (b : Byte) (s : State) : (nmeaByte u b s).spine = s.spine := by
  simp [nmeaByte, apply_ite State.spine]

/-! ### AntFlags -/

@[simp] theorem showIntegrity_spine (spoof : Nat → Bool) (jam : Nat → Bool) (s : State) : (showIntegrity spoof jam s).spine = s.spine := by
  simp [showIntegrity, apply_ite State.spine]
@[simp] theorem antRefresh_spine (s : State) : (antRefresh s).spine = s.spine := by
  simp [antRefresh, apply_ite State.spine]
@[simp] theorem setSpoof_spine (k : Nat) (v : Bool) (s : State) : (setSpoof k v s).spine = s.spine := by
  simp [setSpoof, apply_ite State.spine]
@[simp] theorem setJam_spine (k : Nat) (v : Bool) (s : State) : (setJam k v s).spine = s.spine := by
  simp [setJam, apply_ite State.spine]

/-! ### PortCore -/

@[simp] theorem State.setPrt_spine (s : State) (p : Nat) (x : Prt) : (State.setPrt s p x).spine = s.spine := by
  simp [State.setPrt, apply_ite State.spine]
@[simp] theorem stat_spine (p : Nat) (i : Nat) (n : Nat) (s : State) : (stat p i n s).spine = s.spine := by
  simp [stat, apply_ite State.spine]
@[simp] theorem pathFree_spine (p : Nat) (s : State) : (pathFree p s).spine = s.spine := by
  simp [pathFree, apply_ite State.spine]
@[simp] theorem truncTx_spine (p : Nat) (s : State) : (truncTx p s).spine = s.spine := by
  simp [truncTx, apply_ite State.spine]; (repeat' split) <;> simp [apply_ite State.spine]
@[simp] theorem truncLaunch_spine (p : Nat) (s : State) : (truncLaunch p s).spine = s.spine := by
  simp [truncLaunch, apply_ite State.spine]
@[simp] theorem cutShort_spine (p : Nat) (s : State) : (cutShort p s).spine = s.spine := by
  simp [cutShort, apply_ite State.spine]

/-! ### Access -/

@[simp] theorem mtxErr_spine (id : Nat) (ea : Nat) (kind : Nat) (write : Bool) (s : State) : (mtxErr id ea kind write s).spine = s.spine := by
  simp [mtxErr, apply_ite State.spine]
@[simp] theorem tellErr_spine (m : Master) (a : Nat) (kind : Nat) (s : State) : (tellErr m a kind s).spine = s.spine := by
  simp [tellErr, apply_ite State.spine]
@[simp] theorem busErr_spine (m : Master) (a : Nat) (kind : Nat) (write : Bool) (s : State) : (busErr m a kind write s).spine = s.spine := by
  simp [busErr, apply_ite State.spine]
@[simp] theorem showHeld_spine (s : State) : (showHeld s).spine = s.spine := by
  simp [showHeld, apply_ite State.spine]
@[simp] theorem hold_spine (r : MtxReq) (s : State) : (hold r s).spine = s.spine := by
  simp [hold, apply_ite State.spine]
@[simp] theorem noteCal_spine (a : Nat) (mask : Word) (v : Word) (s : State) : (noteCal a mask v s).spine = s.spine := by
  simp [noteCal, apply_ite State.spine]
@[simp] theorem State.calStaged_spine (s : State) (m : Master) (a : Nat) : (State.calStaged s m a).spine = s.spine := by
  simp [State.calStaged, apply_ite State.spine]
@[simp] theorem regW_spine (m : Master) (a : Nat) (v : Word) (f : State → State) (s : State) (hf : ∀ x0, (f x0).spine = x0.spine) : (regW m a v f s).spine = s.spine := by
  grind [regW, busErr_spine, hold_spine]
@[simp] theorem regR_spine (m : Master) (a : Nat) (f : State → State) (s : State) (hf : ∀ x0, (f x0).spine = x0.spine) : (regR m a f s).spine = s.spine := by
  grind [regR, busErr_spine, hold_spine]
@[simp] theorem plainWrite_spine (a : Nat) (v : Word) (s : State) : (plainWrite a v s).spine = s.spine := by
  simp [plainWrite, apply_ite State.spine]
@[simp] theorem valueWrite_spine (m : Master) (a : Nat) (v : Word) (s : State) : (valueWrite m a v s).spine = s.spine := by
  simp [valueWrite, apply_ite State.spine]; (repeat' split) <;> simp [apply_ite State.spine]
@[simp] theorem w1cWrite_spine (a : Nat) (mask : Nat) (v : Word) (s : State) : (w1cWrite a mask v s).spine = s.spine := by
  simp [w1cWrite, apply_ite State.spine]

end Sys2Proof.Machine
end

