-- ==== Sys2Proof/Laws/SpineFault.lean ====
section
/-! SUPPORT. The spine is kept by resets, faults, actions, the engines and the memories. -/
set_option linter.unusedSimpArgs false
namespace Sys2Proof.Machine

/-! ### ThreadCore -/

@[simp] theorem barRelease_spine (b : Nat) (code : Nat) (s : State) : (barRelease b code s).spine = s.spine := by
  dsimp only [barRelease]; (repeat' (first | (simp [apply_ite State.spine]; done) | split | (refine (foldl_spine ?_).trans ?_; intro _ _) | (refine (forN_spine ?_).trans ?_; intro _ _) | (refine (forEach_spine ?_).trans ?_; intro _ _) | (refine (foldl_spine1 ?_).trans ?_; intro _ _) | (refine (foldl_spine2 ?_).trans ?_; intro _ _) | (simp_all [apply_ite State.spine]; done) | grind [State.setTh_spine, State.setArrived_spine] | (simp; grind [State.mk_spine, State.spine_eta, State.setTh_spine, State.setArrived_spine])))
@[simp] theorem barBreak_spine (b : Nat) (s : State) : (barBreak b s).spine = s.spine := by
  simp [barBreak, apply_ite State.spine]
@[simp] theorem barCheck_spine (b : Nat) (s : State) : (barCheck b s).spine = s.spine := by
  simp [barCheck, apply_ite State.spine]
@[simp] theorem barLost_spine (k : Nat) (s : State) : (barLost k s).spine = s.spine := by
  simp [barLost, apply_ite State.spine]
@[simp] theorem semPass_spine (n : Nat) (s : State) : (semPass n s).spine = s.spine := by
  simp [semPass, apply_ite State.spine]; (repeat' split) <;> simp [apply_ite State.spine]
@[simp] theorem semBreak_spine (n : Nat) (s : State) : (semBreak n s).spine = s.spine := by
  simp [semBreak, apply_ite State.spine]
@[simp] theorem semLost_spine (id : Nat) (s : State) : (semLost id s).spine = s.spine := by
  simp [semLost, apply_ite State.spine]
@[simp] theorem semTry_spine (id : Nat) (n : Nat) (s : State) : (semTry id n s).2.spine = s.spine := by
  simp [semTry, apply_ite State.spine]; (repeat' split) <;> simp [apply_ite State.spine]
@[simp] theorem semRelease_spine (id : Nat) (n : Nat) (s : State) : (semRelease id n s).2.spine = s.spine := by
  simp [semRelease, apply_ite State.spine]; (repeat' split) <;> simp [apply_ite State.spine]
@[simp] theorem queueLeave_spine (k : Nat) (s : State) : (queueLeave k s).spine = s.spine := by
  simp [queueLeave, apply_ite State.spine]; (repeat' split) <;> simp [apply_ite State.spine]
@[simp] theorem abandonWait_spine (k : Nat) (s : State) : (abandonWait k s).spine = s.spine := by
  simp [abandonWait, apply_ite State.spine]; (repeat' split) <;> simp [apply_ite State.spine]
@[simp] theorem dropLoads_spine (k : Nat) (s : State) : (dropLoads k s).spine = s.spine := by
  simp [dropLoads, apply_ite State.spine]
@[simp] theorem dropStores_spine (k : Nat) (s : State) : (dropStores k s).spine = s.spine := by
  simp [dropStores, apply_ite State.spine]
@[simp] theorem threadReset_spine (k : Nat) (s : State) : (threadReset k s).spine = s.spine := by
  simp [threadReset, apply_ite State.spine]
@[simp] theorem engineReset_spine (e : Nat) (s : State) : (engineReset e s).spine = s.spine := by
  simp [engineReset, apply_ite State.spine]
@[simp] theorem clusterReset_spine (c : Nat) (s : State) : (clusterReset c s).spine = s.spine := by
  simp [clusterReset, apply_ite State.spine]

/-! ### Resets -/

@[simp] theorem copyRegs_spine (src : AMap Word) (lo : Nat) (n : Nat) (s : State) : (copyRegs src lo n s).spine = s.spine := by
  simp [copyRegs, apply_ite State.spine]
@[simp] theorem dropBad_spine (lo : Nat) (n : Nat) (s : State) : (dropBad lo n s).spine = s.spine := by
  simp [dropBad, apply_ite State.spine]
@[simp] theorem wipePages_spine (lo : Nat) (n : Nat) (s : State) : (wipePages lo n s).spine = s.spine := by
  simp [wipePages, apply_ite State.spine]
@[simp] theorem wipePage_spine (k : PageKind) (pg : Nat) (s : State) : (wipePage k pg s).spine = s.spine := by
  simp [wipePage, apply_ite State.spine]
@[simp] theorem beginReset_spine (pg : Nat) (s : State) : (beginReset pg s).spine = s.spine := by
  simp [beginReset, apply_ite State.spine]
@[simp] theorem unready_spine (base : Nat) (n : Nat) (s : State) : (unready base n s).spine = s.spine := by
  simp [unready, apply_ite State.spine]
@[simp] theorem semReset_spine (s : State) : (semReset s).spine = s.spine := by
  simp [semReset, apply_ite State.spine]
@[simp] theorem clusterFall_spine (c : Nat) (s : State) : (clusterFall c s).spine = s.spine := by
  simp [clusterFall, apply_ite State.spine]
@[simp] theorem journalCut_spine (s : State) : (journalCut s).spine = s.spine := by
  simp [journalCut, apply_ite State.spine]; (repeat' split) <;> simp [apply_ite State.spine]
@[simp] theorem blockReset_spine (k : PageKind) (inst : Nat) (s : State) : (blockReset k inst s).spine = s.spine := by
  simp [blockReset, apply_ite State.spine]; (repeat' split) <;> simp [apply_ite State.spine]
@[simp] theorem afterWipe_spine (k : PageKind) (inst : Nat) (old : State) (s : State) : (afterWipe k inst old s).spine = s.spine := by
  simp [afterWipe, apply_ite State.spine]; (repeat' split) <;> simp [apply_ite State.spine]
@[simp] theorem pageReset_spine (k : PageKind) (inst : Nat) (s : State) : (pageReset k inst s).spine = s.spine := by
  simp [pageReset, apply_ite State.spine]; (repeat' split) <;> simp [apply_ite State.spine]
@[simp] theorem kindReset_spine (k : PageKind) (n : Nat) (s : State) : (kindReset k n s).spine = s.spine := by
  simp [kindReset, apply_ite State.spine]
@[simp] theorem domainReset_spine (d : Nat) (s : State) : (domainReset d s).spine = s.spine := by
  simp [domainReset, apply_ite State.spine]
@[simp] theorem bdrLeave_spine (s : State) : (bdrLeave s).spine = s.spine := by
  simp [bdrLeave, apply_ite State.spine]
@[simp] theorem chipReset_spine (cold : Bool) (s0 : State) : (chipReset cold s0).spine = s0.spine := by
  simp [chipReset, apply_ite State.spine]

/-! ### Faults -/

@[simp] theorem showHalt_spine (s : State) : (showHalt s).spine = s.spine := by
  simp [showHalt, apply_ite State.spine]
@[simp] theorem showPin_spine (s : State) : (showPin s).spine = s.spine := by
  simp [showPin, apply_ite State.spine]
@[simp] theorem srcFall_spine (n : Nat) (s : State) : (srcFall n s).spine = s.spine := by
  simp [srcFall, apply_ite State.spine]
@[simp] theorem fltSync_spine (s : State) : (fltSync s).spine = s.spine := by
  simp [fltSync, apply_ite State.spine]
@[simp] theorem journalSave_spine (n : Nat) (act : Nat) (dom : Nat) (s : State) : (journalSave n act dom s).spine = s.spine := by
  simp [journalSave, apply_ite State.spine]
@[simp] theorem faultChipReset_spine (n : Nat) (act : Nat) (dom : Nat) (s : State) : (faultChipReset n act dom s).spine = s.spine := by
  simp [faultChipReset, apply_ite State.spine]
@[simp] theorem faultDomainReset_spine (n : Nat) (dom : Nat) (s : State) : (faultDomainReset n dom s).spine = s.spine := by
  simp [faultDomainReset, apply_ite State.spine]
@[simp] theorem actEffect_spine (code : Nat) (n : Nat) (s : State) : (actEffect code n s).spine = s.spine := by
  simp [actEffect, apply_ite State.spine]; (repeat' split) <;> simp [apply_ite State.spine]
@[simp] theorem takeAction_spine (code : Nat) (n : Nat) (s : State) : (takeAction code n s).spine = s.spine := by
  simp [takeAction, apply_ite State.spine]
@[simp] theorem takeActions_spine (s : State) : (takeActions s).spine = s.spine := by
  simp [takeActions, apply_ite State.spine]; (repeat' split) <;> simp [apply_ite State.spine]
@[simp] theorem critAct_spine (n : Nat) (s : State) : (critAct n s).spine = s.spine := by
  simp [critAct, apply_ite State.spine]
@[simp] theorem startTimer_spine (n : Nat) (s : State) : (startTimer n s).spine = s.spine := by
  simp [startTimer, apply_ite State.spine]
@[simp] theorem srcRise_spine (n : Nat) (s : State) : (srcRise n s).spine = s.spine := by
  simp [srcRise, apply_ite State.spine]; (repeat' split) <;> simp [apply_ite State.spine]
@[simp] theorem raiseFlt_spine (pg : Nat) (i : Nat) (s : State) : (raiseFlt pg i s).spine = s.spine := by
  simp [raiseFlt, apply_ite State.spine]; (repeat' split) <;> simp [apply_ite State.spine]
@[simp] theorem escalate_spine (n : Nat) (s : State) : (escalate n s).spine = s.spine := by
  simp [escalate, apply_ite State.spine]
@[simp] theorem escalateDue_spine (n : Nat) (s : State) : (escalateDue n s).spine = s.spine := by
  simp [escalateDue, apply_ite State.spine]
@[simp] theorem endFaults_spine (s : State) : (endFaults s).spine = s.spine := by
  simp [endFaults, apply_ite State.spine]
@[simp] theorem mateStatePar_spine (s : State) : (mateStatePar s).spine = s.spine := by
  simp [mateStatePar, apply_ite State.spine]
@[simp] theorem setLink_spine (p : Nat) (up : Bool) (s : State) : (setLink p up s).spine = s.spine := by
  simp [setLink, apply_ite State.spine]
@[simp] theorem faultEffect_spine (k : PageKind) (inst : Nat) (i : Nat) (s : State) : (faultEffect k inst i s).spine = s.spine := by
  simp [faultEffect, apply_ite State.spine]; (repeat' split) <;> simp [apply_ite State.spine]
@[simp] theorem fault_spine (k : PageKind) (inst : Nat) (i : Nat) (s : State) : (fault k inst i s).spine = s.spine := by
  simp [fault, apply_ite State.spine]; (repeat' split) <;> simp [apply_ite State.spine]
@[simp] theorem resetPage_spine (k : PageKind) (inst : Nat) (s : State) : (resetPage k inst s).spine = s.spine := by
  simp [resetPage, apply_ite State.spine]

/-! ### Inject -/

@[simp] theorem storeMark_spine (k : PageKind) (inst : Nat) (off : Nat) (s : State) : (storeMark k inst off s).spine = s.spine := by
  simp [storeMark, apply_ite State.spine]; (repeat' split) <;> simp [apply_ite State.spine]
@[simp] theorem storeWrite_spine (k : PageKind) (inst : Nat) (s : State) : (storeWrite k inst s).spine = s.spine := by
  simp [storeWrite, apply_ite State.spine]
@[simp] theorem sumMark_spine (a : Nat) (r : RegRow) (old : State) (s : State) : (sumMark a r old s).spine = s.spine := by
  simp [sumMark, apply_ite State.spine]
@[simp] theorem injectNote_spine (a : Nat) (old : State) (s : State) : (injectNote a old s).spine = s.spine := by
  simp [injectNote, apply_ite State.spine]; (repeat' split) <;> simp [apply_ite State.spine]
@[simp] theorem recheckBad_spine (k : PageKind) (inst : Nat) (s : State) : (recheckBad k inst s).spine = s.spine := by
  dsimp only [recheckBad]; (repeat' (first | (simp [apply_ite State.spine]; done) | split | (refine (foldl_spine ?_).trans ?_; intro _ _) | (refine (forN_spine ?_).trans ?_; intro _ _) | (refine (forEach_spine ?_).trans ?_; intro _ _) | (refine (foldl_spine1 ?_).trans ?_; intro _ _) | (refine (foldl_spine2 ?_).trans ?_; intro _ _) | (simp_all [apply_ite State.spine]; done) | grind [fault_spine] | (simp; grind [State.mk_spine, State.spine_eta, fault_spine])))

/-! ### Cmd -/

@[simp] theorem tsReach_spine (s : State) (t : State) : (tsReach s t).spine = t.spine := by
  simp [tsReach, apply_ite State.spine]
@[simp] theorem ownStores_spine (s : State) (t : State) : (ownStores s t).spine = t.spine := by
  simp [ownStores, apply_ite State.spine]
@[simp] theorem settle_spine (s : State) (t : State) : (settle s t).spine = t.spine := by
  simp [settle, apply_ite State.spine]
theorem cmdW_spine (m : Master) (a : Nat) (v : Word) (f : Word → State → State) (s : State) (hf : ∀ x0 x1, (f x0 x1).spine = x1.spine) : ∀ s_, cmdW m a v f s = .next s_ → s_.spine = s.spine := by
  intro t h; grind [cmdW, State.calStaged_spine, regW_spine, injectNote_spine, settle_spine]
theorem cmdRd_spine (m : Master) (a : Nat) (f : State → Word × State) (s : State) (hf : ∀ x0, (f x0).2.spine = x0.spine) : ∀ s_, cmdRd m a f s = .next s_ → s_.spine = s.spine := by
  intro t h; grind [cmdRd, State.emit_spine, regR_spine]
theorem cmdE_spine (pg : Nat) (f : State → State) (s : State) (hf : ∀ x0, (f x0).spine = x0.spine) : ∀ s_, cmdE pg f s = .next s_ → s_.spine = s.spine := by
  intro t h; grind [cmdE, settle_spine]
theorem cmdT_spine (pg : Nat) (f : State → State) (s : State) (hf : ∀ x0, (f x0).spine = x0.spine) : ∀ s_, cmdT pg f s = .next s_ → s_.spine = s.spine := by
  intro t h; grind [cmdT, settle_spine]
theorem cmdA_spine (f : State → State) (s : State) (hf : ∀ x0, (f x0).spine = x0.spine) : ∀ s_, cmdA f s = .next s_ → s_.spine = s.spine := by
  intro t h; grind [cmdA, settle_spine]

/-! ### Act -/

@[simp] theorem State.setActSlot_spine (s : State) (n : Nat) (x : Slot) : (State.setActSlot s n x).spine = s.spine := by
  simp [State.setActSlot, apply_ite State.spine]
@[simp] theorem actArm_spine (n : Nat) (typ : BitVec 4) (lateOk : Bool) (cond : BitVec 2) (reversion : Bool) (s0 : State) : (actArm n typ lateOk cond reversion s0).spine = s0.spine := by
  simp [actArm, apply_ite State.spine]; (repeat' split) <;> simp [apply_ite State.spine]
@[simp] theorem wrSlotCtl_spine (n : Nat) (v : Word) (s : State) : (wrSlotCtl n v s).spine = s.spine := by
  simp [wrSlotCtl, apply_ite State.spine]
@[simp] theorem wrSlotWord_spine (m : Master) (n : Nat) (w : Nat) (v : Word) (s : State) : (wrSlotWord m n w v s).spine = s.spine := by
  simp [wrSlotWord, apply_ite State.spine]; (repeat' split) <;> simp [apply_ite State.spine]
@[simp] theorem slotW_spine (m : Master) (n : Nat) (w : Nat) (v : Word) (s : State) : (slotW m n w v s).spine = s.spine := by
  simp [slotW, apply_ite State.spine]; (repeat' split) <;> simp [apply_ite State.spine]
@[simp] theorem wrDisarm_spine (v : Word) (s : State) : (wrDisarm v s).spine = s.spine := by
  simp [wrDisarm, apply_ite State.spine]
@[simp] theorem slotEnd_spine (n : Nat) (st : SlotState) (reason : BitVec 4) (s : State) : (slotEnd n st reason s).spine = s.spine := by
  simp [slotEnd, apply_ite State.spine]
@[simp] theorem showTaken_spine (n : Nat) (s : State) : (showTaken n s).spine = s.spine := by
  simp [showTaken, apply_ite State.spine]
@[simp] theorem takeBad_spine (n : Nat) (s : State) : (takeBad n s).spine = s.spine := by
  simp [takeBad, apply_ite State.spine]
@[simp] theorem queueTaken_spine (n : Nat) (s : State) : (queueTaken n s).spine = s.spine := by
  simp [queueTaken, apply_ite State.spine]
@[simp] theorem judgeConds_spine (s : State) : (judgeConds s).spine = s.spine := by
  simp [judgeConds, apply_ite State.spine]
@[simp] theorem endCycle_spine (s : State) : (endCycle s).spine = s.spine := by
  simp [endCycle, apply_ite State.spine]
@[simp] theorem slotTake_spine (n : Nat) (s : State) : (slotTake n s).spine = s.spine := by
  simp [slotTake, apply_ite State.spine]
@[simp] theorem slotStoreError_spine (n : Nat) (s : State) : (slotStoreError n s).spine = s.spine := by
  simp [slotStoreError, apply_ite State.spine]
@[simp] theorem actionOutcome_spine (n : Nat) (s : State) : (actionOutcome n s).spine = s.spine := by
  simp [actionOutcome, apply_ite State.spine]; (repeat' split) <;> simp [apply_ite State.spine]
@[simp] theorem setResult_spine (n : Nat) (r : ActResult) (s : State) : (setResult n r s).spine = s.spine := by
  simp [setResult, apply_ite State.spine]
theorem execSlotArm_spine (m : Master) (n : BitVec 12) (v : Word) (s : State) : ∀ s_, execSlotArm m n v s = .next s_ → s_.spine = s.spine := by
  intro t h; simp [execSlotArm] at h; subst h; simp
theorem execSlotClear_spine (m : Master) (n : BitVec 12) (v : Word) (s : State) : ∀ s_, execSlotClear m n v s = .next s_ → s_.spine = s.spine := by
  intro t h; simp [execSlotClear] at h; subst h; simp
theorem execActDisarm_spine (m : Master) (v : Word) (s : State) : ∀ s_, execActDisarm m v s = .next s_ → s_.spine = s.spine := by
  intro t h; unfold execActDisarm at h; injection h with h; subst h; simp [apply_ite State.bt]
theorem execSlotTake_spine (n : BitVec 12) (s : State) : ∀ s_, execSlotTake n s = .next s_ → s_.spine = s.spine := by
  intro t h; unfold execSlotTake at h; injection h with h; subst h; (repeat' split) <;> simp [apply_ite State.bt]
theorem execSlotStoreError_spine (n : BitVec 12) (s : State) : ∀ s_, execSlotStoreError n s = .next s_ → s_.spine = s.spine := by
  intro t h; unfold execSlotStoreError at h; injection h with h; subst h; (repeat' split) <;> simp [apply_ite State.bt]
theorem execActionOutcome_spine (n : BitVec 12) (s : State) : ∀ s_, execActionOutcome n s = .next s_ → s_.spine = s.spine := by
  intro t h; unfold execActionOutcome at h; injection h with h; subst h; (repeat' split) <;> simp [apply_ite State.bt]

/-! ### Retire -/

@[simp] theorem wrRg_spine (k : Nat) (r : Nat) (v : DWord) (s : State) : (wrRg k r v s).spine = s.spine := by
  simp [wrRg, apply_ite State.spine]
@[simp] theorem putSample_spine (c : Nat) (w : List Word) (s : State) : (putSample c w s).spine = s.spine := by
  simp [putSample, apply_ite State.spine]
@[simp] theorem takeSample_spine (k : Nat) (pc : DWord) (user : Bool) (fixed : Bool) (s : State) : (takeSample k pc user fixed s).spine = s.spine := by
  simp [takeSample, apply_ite State.spine]
@[simp] theorem sampleRetire_spine (k : Nat) (pc : DWord) (user : Bool) (s : State) : (sampleRetire k pc user s).spine = s.spine := by
  simp [sampleRetire, apply_ite State.spine]
@[simp] theorem retire_spine (k : Nat) (pc : DWord) (user : Bool) (s : State) : (retire k pc user s).spine = s.spine := by
  simp [retire, apply_ite State.spine]
@[simp] theorem finish_spine (k : Nat) (pc : DWord) (s : State) : (finish k pc s).spine = s.spine := by
  simp [finish, apply_ite State.spine]
@[simp] theorem next_spine (k : Nat) (s : State) : (next k s).spine = s.spine := by
  simp [next, apply_ite State.spine]

/-! ### Facet -/

@[simp] theorem thHalt_spine (k : Nat) (s : State) : (thHalt k s).spine = s.spine := by
  simp [thHalt, apply_ite State.spine]
@[simp] theorem thDone_spine (k : Nat) (rd : Nat) (v : DWord) (s : State) : (thDone k rd v s).spine = s.spine := by
  simp [thDone, apply_ite State.spine]
@[simp] theorem haltThread_spine (k : Nat) (s : State) : (haltThread k s).spine = s.spine := by
  simp [haltThread, apply_ite State.spine]; (repeat' split) <;> simp [apply_ite State.spine]
@[simp] theorem haltAfter_spine (k : Nat) (s : State) : (haltAfter k s).spine = s.spine := by
  simp [haltAfter, apply_ite State.spine]; (repeat' split) <;> simp [apply_ite State.spine]
@[simp] theorem wrThCtl_spine (e : Nat) (t : Nat) (v : Word) (s : State) : (wrThCtl e t v s).spine = s.spine := by
  simp [wrThCtl, apply_ite State.spine]; (repeat' split) <;> simp [apply_ite State.spine]
@[simp] theorem engEnCheck_spine (e : Nat) (s : State) : (engEnCheck e s).spine = s.spine := by
  simp [engEnCheck, apply_ite State.spine]
@[simp] theorem armTimer_spine (k : Nat) (w : WT96) (s : State) : (armTimer k w s).spine = s.spine := by
  simp [armTimer, apply_ite State.spine]
@[simp] theorem wrTmr_spine (m : Master) (e : Nat) (t : Nat) (v : Word) (s : State) : (wrTmr m e t v s).spine = s.spine := by
  simp [wrTmr, apply_ite State.spine]
@[simp] theorem wrPc_spine (m : Master) (e : Nat) (t : Nat) (v : Word) (s : State) : (wrPc m e t v s).spine = s.spine := by
  simp [wrPc, apply_ite State.spine]
@[simp] theorem wrThBar_spine (e : Nat) (t : Nat) (v : Word) (s : State) : (wrThBar e t v s).spine = s.spine := by
  simp [wrThBar, apply_ite State.spine]
@[simp] theorem wrBarScope_spine (b : Nat) (v : Word) (s : State) : (wrBarScope b v s).spine = s.spine := by
  simp [wrBarScope, apply_ite State.spine]
@[simp] theorem timerFire_spine (e : Nat) (t : Nat) (s : State) : (timerFire e t s).spine = s.spine := by
  simp [timerFire, apply_ite State.spine]
@[simp] theorem imemWr_spine (c : Nat) (off : Nat) (l : List Byte) (s : State) : (imemWr c off l s).spine = s.spine := by
  simp [imemWr, apply_ite State.spine]
@[simp] theorem dmemWr_spine (c : Nat) (off : Nat) (l : List Byte) (s : State) : (dmemWr c off l s).spine = s.spine := by
  simp [dmemWr, apply_ite State.spine]
@[simp] theorem lmemWr_spine (e : Nat) (off : Nat) (l : List Byte) (s : State) : (lmemWr e off l s).spine = s.spine := by
  simp [lmemWr, apply_ite State.spine]
@[simp] theorem loadRefused_spine (c : Nat) (r : LoadRej) (s : State) : (loadRefused c r s).spine = s.spine := by
  simp [loadRefused, apply_ite State.spine]
@[simp] theorem wrLoadCmd_spine (m : Master) (c : Nat) (v : Word) (s : State) : (wrLoadCmd m c v s).spine = s.spine := by
  simp [wrLoadCmd, apply_ite State.spine]; (repeat' split) <;> simp [apply_ite State.spine]
@[simp] theorem loadAccepted_spine (c : Nat) (x : ImgLoad) (s : State) : (loadAccepted c x s).spine = s.spine := by
  simp [loadAccepted, apply_ite State.spine]
@[simp] theorem loadDone_spine (c : Nat) (s : State) : (loadDone c s).spine = s.spine := by
  simp [loadDone, apply_ite State.spine]; (repeat' split) <;> simp [apply_ite State.spine]
@[simp] theorem wrQueue_spine (n : Nat) (w : Nat) (v : Word) (s : State) : (wrQueue n w v s).spine = s.spine := by
  simp [wrQueue, apply_ite State.spine]; (repeat' split) <;> simp [apply_ite State.spine]
@[simp] theorem queueW_spine (m : Master) (n : Nat) (w : Nat) (v : Word) (s : State) : (queueW m n w v s).spine = s.spine := by
  simp [queueW, apply_ite State.spine]; (repeat' split) <;> simp [apply_ite State.spine]
@[simp] theorem wrSem_spine (m : Master) (n : Nat) (v : Word) (s : State) : (wrSem m n v s).spine = s.spine := by
  simp [wrSem, apply_ite State.spine]; (repeat' split) <;> simp [apply_ite State.spine]
@[simp] theorem sampleRead_spine (m : Master) (c : Nat) (s : State) : (sampleRead m c s).2.spine = s.spine := by
  simp [sampleRead, apply_ite State.spine]; (repeat' split) <;> simp [apply_ite State.spine]
theorem execThreadStart_spine (m : Master) (e : Fin 512) (t : Fin 4) (s : State) : ∀ s_, execThreadStart m e t s = .next s_ → s_.spine = s.spine := by
  intro t h; unfold execThreadStart at h; injection h with h; subst h; simp [apply_ite State.bt]
theorem execThreadHalt_spine (m : Master) (e : Fin 512) (t : Fin 4) (s : State) : ∀ s_, execThreadHalt m e t s = .next s_ → s_.spine = s.spine := by
  intro t h; unfold execThreadHalt at h; injection h with h; subst h; simp [apply_ite State.bt]
theorem execClrflt_spine (m : Master) (e : Fin 512) (t : Fin 4) (s : State) : ∀ s_, execClrflt m e t s = .next s_ → s_.spine = s.spine := by
  intro t h; unfold execClrflt at h; injection h with h; subst h; simp [apply_ite State.bt]
theorem execImageLoad_spine (m : Master) (c : Fin 64) (v : Word) (s : State) : ∀ s_, execImageLoad m c v s = .next s_ → s_.spine = s.spine := by
  intro t h; unfold execImageLoad at h; injection h with h; subst h; simp [apply_ite State.bt]
theorem execQueueStateWrite_spine (m : Master) (q : BitVec 18) (w : Fin 4) (v : Word) (s : State) : ∀ s_, execQueueStateWrite m q w v s = .next s_ → s_.spine = s.spine := by
  intro t h; simp [execQueueStateWrite] at h; subst h; simp
theorem execDoorbell_spine (m : Master) (e : Fin 512) (t : Fin 4) (v : Word) (s : State) : ∀ s_, execDoorbell m e t v s = .next s_ → s_.spine = s.spine := by
  intro t h; unfold execDoorbell at h; injection h with h; subst h; simp [apply_ite State.bt]
theorem execTimerArm_spine (m : Master) (e : Fin 512) (t : Fin 4) (v : Word) (s : State) : ∀ s_, execTimerArm m e t v s = .next s_ → s_.spine = s.spine := by
  intro t h; unfold execTimerArm at h; injection h with h; subst h; simp [apply_ite State.bt]
theorem execTimerFire_spine (e : Fin 512) (t : Fin 4) (s : State) : ∀ s_, execTimerFire e t s = .next s_ → s_.spine = s.spine := by
  intro t h; unfold execTimerFire at h; injection h with h; subst h; (repeat' split) <;> simp [apply_ite State.bt]
theorem execSemTryAcquire_spine (m : Master) (n : BitVec 8) (s : State) : ∀ s_, execSemTryAcquire m n s = .next s_ → s_.spine = s.spine := by
  intro t h; unfold execSemTryAcquire at h; injection h with h; subst h; simp [apply_ite State.bt]
theorem execSemRelease_spine (m : Master) (n : BitVec 8) (s : State) : ∀ s_, execSemRelease m n s = .next s_ → s_.spine = s.spine := by
  intro t h; unfold execSemRelease at h; injection h with h; subst h; simp [apply_ite State.bt]
theorem execSemForce_spine (m : Master) (n : BitVec 8) (s : State) : ∀ s_, execSemForce m n s = .next s_ → s_.spine = s.spine := by
  intro t h; unfold execSemForce at h; injection h with h; subst h; simp [apply_ite State.bt]
theorem execSampleRead_spine (m : Master) (c : Fin 64) (s : State) : ∀ s_, execSampleRead m c s = .next s_ → s_.spine = s.spine := by
  intro t h; unfold execSampleRead at h; injection h with h; subst h; simp [apply_ite State.bt]

/-! ### Quarry -/

@[simp] theorem ddrCount_spine (code : Nat) (o : Nat) (n : Nat) (s : State) : (ddrCount code o n s).spine = s.spine := by
  simp [ddrCount, apply_ite State.spine]
@[simp] theorem ddrUe_spine (o : Nat) (s : State) : (ddrUe o s).spine = s.spine := by
  simp [ddrUe, apply_ite State.spine]
@[simp] theorem dramGet_spine (id : Nat) (o : Nat) (n : Nat) (s : State) : (dramGet id o n s).2.spine = s.spine := by
  simp [dramGet, apply_ite State.spine]; (repeat' split) <;> simp [apply_ite State.spine]
@[simp] theorem dramPut_spine (id : Nat) (o : Nat) (l : List Byte) (s : State) : (dramPut id o l s).2.spine = s.spine := by
  simp [dramPut, apply_ite State.spine]; (repeat' split) <;> simp [apply_ite State.spine]
@[simp] theorem mramStore_spine (o : Nat) (l : List Byte) (s : State) : (mramStore o l s).spine = s.spine := by
  simp [mramStore, apply_ite State.spine]
@[simp] theorem mramHold_spine (o : Nat) (l : List Byte) (s : State) : (mramHold o l s).spine = s.spine := by
  simp [mramHold, apply_ite State.spine]
@[simp] theorem mramPut_spine (id : Nat) (o : Nat) (l : List Byte) (s : State) : (mramPut id o l s).2.spine = s.spine := by
  simp [mramPut, apply_ite State.spine]; (repeat' split) <;> simp [apply_ite State.spine]
@[simp] theorem mramGet_spine (id : Nat) (o : Nat) (n : Nat) (s : State) : (mramGet id o n s).2.spine = s.spine := by
  simp [mramGet, apply_ite State.spine]; (repeat' split) <;> simp [apply_ite State.spine]
@[simp] theorem State.setQWay_spine (s : State) (k : Nat) (x : Option QLine) : (State.setQWay s k x).spine = s.spine := by
  simp [State.setQWay, apply_ite State.spine]
@[simp] theorem dropLine_spine (k : Nat) (b : Nat) (s : State) : (dropLine k b s).spine = s.spine := by
  simp [dropLine, apply_ite State.spine]
@[simp] theorem writeBack_spine (k : Nat) (s : State) : (writeBack k s).spine = s.spine := by
  grind [writeBack, State.count_spine, fault_spine, dramPut_spine, State.setQWay_spine]
@[simp] theorem fillLine_spine (b : Nat) (s : State) : (fillLine b s).2.spine = s.spine := by
  dsimp only [fillLine]; (repeat' (first | (simp [apply_ite State.spine]; done) | split | (refine (foldl_spine ?_).trans ?_; intro _ _) | (refine (forN_spine ?_).trans ?_; intro _ _) | (refine (forEach_spine ?_).trans ?_; intro _ _) | (refine (foldl_spine1 ?_).trans ?_; intro _ _) | (refine (foldl_spine2 ?_).trans ?_; intro _ _) | (simp_all [apply_ite State.spine]; done) | grind [State.count_spine, pmuChip_spine, fault_spine, dramGet_spine, State.setQWay_spine, dropLine_spine, writeBack_spine] | (simp; grind [State.mk_spine, State.spine_eta, State.count_spine, pmuChip_spine, fault_spine, dramGet_spine, State.setQWay_spine, dropLine_spine, writeBack_spine])))
@[simp] theorem touchLine_spine (b : Nat) (s : State) : (touchLine b s).2.spine = s.spine := by
  simp [touchLine, apply_ite State.spine]; (repeat' split) <;> simp [apply_ite State.spine]
@[simp] theorem lineWr_spine (b : Nat) (off : Nat) (l : List Byte) (s : State) : (lineWr b off l s).spine = s.spine := by
  simp [lineWr, apply_ite State.spine]; (repeat' split) <;> simp [apply_ite State.spine]
@[simp] theorem engDramGet_spine (id : Nat) (o : Nat) (n : Nat) (s : State) : (engDramGet id o n s).2.spine = s.spine := by
  grind [engDramGet, mtxErr_spine, dramGet_spine, touchLine_spine]
@[simp] theorem engDramPut_spine (id : Nat) (o : Nat) (l : List Byte) (s : State) : (engDramPut id o l s).2.spine = s.spine := by
  grind [engDramPut, mtxErr_spine, dramPut_spine, touchLine_spine, lineWr_spine]

/-! ### Mem -/

@[simp] theorem memRead_spine (c : Nat) (n : Nat) (t : Target) (s : State) : (memRead c n t s).2.2.spine = s.spine := by
  dsimp only [memRead]; (repeat' split) <;> first | (simp_all [apply_ite State.spine]; done) | grind [mtxErr_spine, fault_spine, mramGet_spine, engDramGet_spine]
@[simp] theorem memWrite_spine (c : Nat) (t : Target) (l : List Byte) (s : State) : (memWrite c t l s).2.spine = s.spine := by
  simp [memWrite, apply_ite State.spine]; (repeat' split) <;> simp [apply_ite State.spine]

/-! ### Exec -/

@[simp] theorem thFault_spine (k : Nat) (s : State) : (thFault k s).spine = s.spine := by
  simp [thFault, apply_ite State.spine]
@[simp] theorem raiseExc_spine (k : Nat) (c : Cause) (bad : Option DWord) (s : State) : (raiseExc k c bad s).spine = s.spine := by
  simp [raiseExc, apply_ite State.spine]
@[simp] theorem regfFault_spine (k : Nat) (s : State) : (regfFault k s).spine = s.spine := by
  simp [regfFault, apply_ite State.spine]
@[simp] theorem fetchAt_spine (k : Nat) (s : State) : (fetchAt k s).2.spine = s.spine := by
  grind [fetchAt, pmuUnit_spine, memRead_spine]
@[simp] theorem issue_spine (k : Nat) (ill : Bool) (priv : Bool) (srcs : List Nat) (op : State → Option State) (s : State) (hop : ∀ x t, op x = some t → t.spine = x.spine) : (issue k ill priv srcs op s).spine = s.spine := by
  have hf := fetchAt_spine k s
  unfold issue
  generalize fetchAt k s = p at *
  obtain ⟨b, s1⟩ := p
  have hg : ((op s1).getD s).spine = s.spine := by
    cases h : op s1 with
    | none => rfl
    | some t => exact (hop s1 t h).trans hf
  split
  · simp
  · cases b <;> simp_all [apply_ite State.spine]
theorem stallOp_spine (e : Fin 512) (t : Fin 4) (ill : Bool) (priv : Bool) (srcs : List GReg) (op : Nat → State → Option State) (s : State) (hop : ∀ k x t, op k x = some t → t.spine = x.spine) : ∀ s_, stallOp e t ill priv srcs op s = .next s_ → s_.spine = s.spine := by
  intro s_ h
  unfold stallOp at h
  injection h with h
  subst h
  split
  · rw [settle_spine]; exact issue_spine _ _ _ _ _ _ (hop _)
  · rfl
theorem runOp_spine (e : Fin 512) (t : Fin 4) (ill : Bool) (priv : Bool) (srcs : List GReg) (op : Nat → State → State) (s : State) (hop : ∀ k x, (op k x).spine = x.spine) : ∀ s_, runOp e t ill priv srcs op s = .next s_ → s_.spine = s.spine :=
  stallOp_spine e t ill priv srcs _ s (fun k x _ h => by injection h with h; subst h; exact hop k x)
@[simp] theorem wrPair_spine (k : Nat) (r : GReg) (v : Nat) (s : State) : (wrPair k r v s).spine = s.spine := by
  simp [wrPair, apply_ite State.spine]
theorem aluOp_spine (e : Fin 512) (t : Fin 4) (rd : GReg) (srcs : List GReg) (f : Thread → DWord) (s : State) : ∀ s_, aluOp e t rd srcs f s = .next s_ → s_.spine = s.spine := by
  intro t h; unfold aluOp at h; injection h with h; subst h; (repeat' split) <;> simp [apply_ite State.bt]

end Sys2Proof.Machine
end

