-- ==== Sys2Proof/Laws/SpineBlocks.lean ====
section
/-! SUPPORT. The spine is kept by loops, receiver, keys, classification, scheduling and serving. -/
set_option linter.unusedSimpArgs false
namespace Sys2Proof.Machine

/-! ### Dpl -/

@[simp] theorem loopTake_spine (l : Nat) (e : Nat) (b : BT80) (x : Option WT96) (edges : Nat) (s : State) : (loopTake l e b x edges s).spine = s.spine := by
  simp [loopTake, apply_ite State.spine]; (repeat' split) <;> simp [apply_ite State.spine]
@[simp] theorem loopsTake_spine (e : Nat) (b : BT80) (x : Option WT96) (edges : Nat) (s : State) : (loopsTake e b x edges s).spine = s.spine := by
  simp [loopsTake, apply_ite State.spine]
@[simp] theorem loopsTime_spine (e : Nat) (b : BT80) (x : WT96) (s : State) : (loopsTime e b x s).spine = s.spine := by
  simp [loopsTime, apply_ite State.spine]
@[simp] theorem reportAt_spine (l : Nat) (s : State) : (reportAt l s).spine = s.spine := by
  simp [reportAt, apply_ite State.spine]; (repeat' split) <;> simp [apply_ite State.spine]
@[simp] theorem histBegin_spine (l : Nat) (s : State) : (histBegin l s).spine = s.spine := by
  simp [histBegin, apply_ite State.spine]
@[simp] theorem dplStep_spine (s : State) : (dplStep s).spine = s.spine := by
  simp [dplStep, apply_ite State.spine]
@[simp] theorem histSample_spine (l : Nat) (s : State) : (histSample l s).spine = s.spine := by
  simp [histSample, apply_ite State.spine]
@[simp] theorem histTemp_spine (t : Int) (s : State) : (histTemp t s).spine = s.spine := by
  simp [histTemp, apply_ite State.spine]
@[simp] theorem dplRebase_spine (l : Nat) (a : Nat) (s : State) (t : State) : (dplRebase l a s t).spine = t.spine := by
  simp [dplRebase, apply_ite State.spine]
@[simp] theorem wrDplCfg_spine (l : Nat) (a : Nat) (v : Word) (s0 : State) : (wrDplCfg l a v s0).spine = s0.spine := by
  simp [wrDplCfg, apply_ite State.spine]
@[simp] theorem measArrive_spine (l : Nat) (n : Nat) (b : BT80) (x : WT96) (edges : Nat) (s : State) : (measArrive l n b x edges s).spine = s.spine := by
  simp [measArrive, apply_ite State.spine]
theorem execLoopMeasurement_spine (l : Fin 8) (n : Fin 48) (b : BT80) (x : WT96) (edges : Word) (s : State) : ∀ s_, execLoopMeasurement l n b x edges s = .next s_ → s_.spine = s.spine := by
  intro t h; unfold execLoopMeasurement at h; injection h with h; subst h; (repeat' split) <;> simp [apply_ite State.bt]
theorem execReportInstant_spine (l : Fin 8) (s : State) : ∀ s_, execReportInstant l s = .next s_ → s_.spine = s.spine := by
  intro t h; unfold execReportInstant at h; injection h with h; subst h; (repeat' split) <;> simp [apply_ite State.bt]
theorem execForceHo_spine (m : Master) (l : Fin 8) (v : Word) (s : State) : ∀ s_, execForceHo m l v s = .next s_ → s_.spine = s.spine := by
  intro t h; unfold execForceHo at h; injection h with h; subst h; simp [apply_ite State.bt]
theorem execRelease_spine (m : Master) (l : Fin 8) (v : Word) (s : State) : ∀ s_, execRelease m l v s = .next s_ → s_.spine = s.spine := by
  intro t h; unfold execRelease at h; injection h with h; subst h; simp [apply_ite State.bt]
theorem execReseed_spine (m : Master) (l : Fin 8) (v : Word) (s : State) : ∀ s_, execReseed m l v s = .next s_ → s_.spine = s.spine := by
  intro t h; unfold execReseed at h; injection h with h; subst h; simp [apply_ite State.bt]
theorem execHistorySample_spine (l : Fin 8) (s : State) : ∀ s_, execHistorySample l s = .next s_ → s_.spine = s.spine := by
  intro t h; unfold execHistorySample at h; injection h with h; subst h; (repeat' split) <;> simp [apply_ite State.bt]
theorem execDplStatePar_spine (l : Fin 8) (s : State) : ∀ s_, execDplStatePar l s = .next s_ → s_.spine = s.spine := by
  intro t h; unfold execDplStatePar at h; injection h with h; subst h; (repeat' split) <;> simp [apply_ite State.bt]

/-! ### Gns -/

@[simp] theorem sclkCycle_spine (s : State) : (sclkCycle s).spine = s.spine := by
  simp [sclkCycle, apply_ite State.spine]
@[simp] theorem wrSifCmd_spine (v : Word) (s : State) : (wrSifCmd v s).spine = s.spine := by
  simp [wrSifCmd, apply_ite State.spine]
@[simp] theorem trainEnd_spine (found : Byte) (s : State) : (trainEnd found s).spine = s.spine := by
  simp [trainEnd, apply_ite State.spine]
@[simp] theorem sifLoss_spine (n : Nat) (s : State) : (sifLoss n s).spine = s.spine := by
  simp [sifLoss, apply_ite State.spine]
@[simp] theorem stuckChange_spine (n : Nat) (stuck : Bool) (s : State) : (stuckChange n stuck s).spine = s.spine := by
  simp [stuckChange, apply_ite State.spine]
@[simp] theorem wrSifCfg_spine (v : Word) (s : State) : (wrSifCfg v s).spine = s.spine := by
  simp [wrSifCfg, apply_ite State.spine]
@[simp] theorem antDrive_spine (a : Nat) (on : Bool) (s : State) : (antDrive a on s).spine = s.spine := by
  simp [antDrive, apply_ite State.spine]
@[simp] theorem antFlt_spine (a : Nat) (low : Bool) (s : State) : (antFlt a low s).spine = s.spine := by
  simp [antFlt, apply_ite State.spine]; (repeat' split) <;> simp [apply_ite State.spine]
@[simp] theorem wrApwr_spine (v : Word) (s : State) : (wrApwr v s).spine = s.spine := by
  dsimp only [wrApwr]; (repeat' (first | (simp [apply_ite State.spine]; done) | split | (refine (foldl_spine ?_).trans ?_; intro _ _) | (refine (forN_spine ?_).trans ?_; intro _ _) | (refine (forEach_spine ?_).trans ?_; intro _ _) | (refine (foldl_spine1 ?_).trans ?_; intro _ _) | (refine (foldl_spine2 ?_).trans ?_; intro _ _) | (simp_all [apply_ite State.spine]; done) | grind [plainWrite_spine, antDrive_spine, antFlt_spine] | (simp; grind [State.mk_spine, State.spine_eta, plainWrite_spine, antDrive_spine, antFlt_spine])))
@[simp] theorem acqAnswer_spine (r : AcqReq) (status : Nat) (handed : Bool) (dop : Word) (code : Word) (ratio : BitVec 16) (cn0 : BitVec 16) (b : BT80) (s : State) : (acqAnswer r status handed dop code ratio cn0 b s).spine = s.spine := by
  simp [acqAnswer, apply_ite State.spine]
@[simp] theorem acqAgain_spine (r : AcqReq) (chan : Bool) (s : State) : (acqAgain r chan s).spine = s.spine := by
  simp [acqAgain, apply_ite State.spine]
@[simp] theorem acqAdvance_spine (s : State) : (acqAdvance s).spine = s.spine := by
  simp [acqAdvance, apply_ite State.spine]
@[simp] theorem acqTake_spine (s : State) : (acqTake s).spine = s.spine := by
  simp [acqTake, apply_ite State.spine]; (repeat' split) <;> simp [apply_ite State.spine]
@[simp] theorem acqBegin_spine (s : State) : (acqBegin s).spine = s.spine := by
  simp [acqBegin, apply_ite State.spine]; (repeat' split) <;> simp [apply_ite State.spine]
@[simp] theorem acqHandoff_spine (c : Nat) (dop : Word) (code : Word) (b : BT80) (s : State) : (acqHandoff c dop code b s).spine = s.spine := by
  simp [acqHandoff, apply_ite State.spine]
@[simp] theorem acqEnd_spine (ratio : BitVec 16) (cn0 : BitVec 16) (dop : Word) (code : Word) (err : Bool) (s : State) : (acqEnd ratio cn0 dop code err s).spine = s.spine := by
  simp [acqEnd, apply_ite State.spine]; (repeat' split) <;> simp [apply_ite State.spine]
@[simp] theorem wrAcqCmd_spine (v : Word) (s : State) : (wrAcqCmd v s).spine = s.spine := by
  simp [wrAcqCmd, apply_ite State.spine]
@[simp] theorem gchReject_spine (c : Nat) (code : Nat) (s : State) : (gchReject c code s).spine = s.spine := by
  simp [gchReject, apply_ite State.spine]
@[simp] theorem gchBegin_spine (c : Nat) (s : State) : (gchBegin c s).spine = s.spine := by
  simp [gchBegin, apply_ite State.spine]
@[simp] theorem gchStart_spine (c : Nat) (s : State) : (gchStart c s).spine = s.spine := by
  simp [gchStart, apply_ite State.spine]
@[simp] theorem wrGchCmd_spine (c : Nat) (v : Word) (s : State) : (wrGchCmd c v s).spine = s.spine := by
  simp [wrGchCmd, apply_ite State.spine]
@[simp] theorem wrGchTrk_spine (c : Nat) (v : Word) (s : State) : (wrGchTrk c v s).spine = s.spine := by
  simp [wrGchTrk, apply_ite State.spine]
@[simp] theorem wrGchLoop_spine (c : Nat) (v : Word) (s : State) : (wrGchLoop c v s).spine = s.spine := by
  simp [wrGchLoop, apply_ite State.spine]
@[simp] theorem gchAided_spine (c : Nat) (s : State) : (gchAided c s).spine = s.spine := by
  simp [gchAided, apply_ite State.spine]; (repeat' split) <;> simp [apply_ite State.spine]
@[simp] theorem gchLocks_spine (c : Nat) (s : State) : (gchLocks c s).spine = s.spine := by
  simp [gchLocks, apply_ite State.spine]
@[simp] theorem burstJudge_spine (c : Nat) (s : State) : (burstJudge c s).spine = s.spine := by
  simp [burstJudge, apply_ite State.spine]; (repeat' split) <;> simp [apply_ite State.spine]
@[simp] theorem gchIntegrate_spine (c : Nat) (x : Integration) (s : State) : (gchIntegrate c x s).spine = s.spine := by
  simp [gchIntegrate, apply_ite State.spine]; (repeat' split) <;> simp [apply_ite State.spine]
@[simp] theorem pullinExpire_spine (c : Nat) (s : State) : (pullinExpire c s).spine = s.spine := by
  simp [pullinExpire, apply_ite State.spine]
@[simp] theorem laneLoss_spine (c : Nat) (s : State) : (laneLoss c s).spine = s.spine := by
  simp [laneLoss, apply_ite State.spine]; (repeat' split) <;> simp [apply_ite State.spine]
@[simp] theorem gchReacquire_spine (c : Nat) (s : State) : (gchReacquire c s).spine = s.spine := by
  simp [gchReacquire, apply_ite State.spine]
@[simp] theorem navSync_spine (c : Nat) (chk : Nat) (inverted : Bool) (s : State) : (navSync c chk inverted s).spine = s.spine := by
  simp [navSync, apply_ite State.spine]
@[simp] theorem navUnit_spine (c : Nat) (x : NavUnit) (s : State) : (navUnit c x s).spine = s.spine := by
  simp [navUnit, apply_ite State.spine]
@[simp] theorem wrNavCfg_spine (v : Word) (s : State) : (wrNavCfg v s).spine = s.spine := by
  simp [wrNavCfg, apply_ite State.spine]
@[simp] theorem burstEnter_spine (c : Nat) (s : State) : (burstEnter c s).spine = s.spine := by
  simp [burstEnter, apply_ite State.spine]
@[simp] theorem economyAt_spine (s : State) : (economyAt s).spine = s.spine := by
  dsimp only [economyAt]; (repeat' (first | (simp [apply_ite State.spine]; done) | split | (refine (foldl_spine ?_).trans ?_; intro _ _) | (refine (forN_spine ?_).trans ?_; intro _ _) | (refine (forEach_spine ?_).trans ?_; intro _ _) | (refine (foldl_spine1 ?_).trans ?_; intro _ _) | (refine (foldl_spine2 ?_).trans ?_; intro _ _) | (simp_all [apply_ite State.spine]; done) | grind [State.setRb_spine, State.setGch_spine, setGchSt_spine, burstEnter_spine] | (simp; grind [State.mk_spine, State.spine_eta, State.setRb_spine, State.setGch_spine, setGchSt_spine, burstEnter_spine])))
@[simp] theorem burstBegin_spine (c : Nat) (s : State) : (burstBegin c s).spine = s.spine := by
  simp [burstBegin, apply_ite State.spine]
@[simp] theorem wrAiding_spine (f : State → State) (s : State) (hf : ∀ x0, (f x0).spine = x0.spine) : (wrAiding f s).spine = s.spine := by
  grind [wrAiding, gchRebaseAll_spine]
@[simp] theorem wrIf_spine (band : Nat) (a : Nat) (v : Word) (s : State) : (wrIf band a v s).spine = s.spine := by
  simp [wrIf, apply_ite State.spine]
theorem execGnsTrain_spine (m : Master) (v : Word) (s : State) : ∀ s_, execGnsTrain m v s = .next s_ → s_.spine = s.spine := by
  intro t h; unfold execGnsTrain at h; injection h with h; subst h; simp [apply_ite State.bt]
theorem execTrainDone_spine (found : Byte) (s : State) : ∀ s_, execTrainDone found s = .next s_ → s_.spine = s.spine := by
  intro t h; unfold execTrainDone at h; injection h with h; subst h; (repeat' split) <;> simp [apply_ite State.bt]
theorem execGnsSif_spine (lane : Fin 8) (s : State) : ∀ s_, execGnsSif lane s = .next s_ → s_.spine = s.spine := by
  intro t h; unfold execGnsSif at h; injection h with h; subst h; (repeat' split) <;> simp [apply_ite State.bt]
theorem execLaneStuck_spine (lane : Fin 8) (stuck : Bool) (s : State) : ∀ s_, execLaneStuck lane stuck s = .next s_ → s_.spine = s.spine := by
  intro t h; unfold execLaneStuck at h; injection h with h; subst h; (repeat' split) <;> simp [apply_ite State.bt]
theorem execAntPwr_spine (a : Fin 4) (low : Bool) (s : State) : ∀ s_, execAntPwr a low s = .next s_ → s_.spine = s.spine := by
  intro t h; unfold execAntPwr at h; injection h with h; subst h; (repeat' split) <;> simp [apply_ite State.bt]
theorem execAcqRequest_spine (s : State) : ∀ s_, execAcqRequest s = .next s_ → s_.spine = s.spine := by
  intro t h; unfold execAcqRequest at h; injection h with h; subst h; (repeat' split) <;> simp [apply_ite State.bt]
theorem execAcqResult_spine (ratio : BitVec 16) (cn0 : BitVec 16) (dop : Word) (code : Word) (memErr : Bool) (s : State) : ∀ s_, execAcqResult ratio cn0 dop code memErr s = .next s_ → s_.spine = s.spine := by
  intro t h; unfold execAcqResult at h; injection h with h; subst h; (repeat' split) <;> simp [apply_ite State.bt]
theorem execCancelAll_spine (m : Master) (v : Word) (s : State) : ∀ s_, execCancelAll m v s = .next s_ → s_.spine = s.spine := by
  intro t h; unfold execCancelAll at h; injection h with h; subst h; simp [apply_ite State.bt]
theorem execChannelStart_spine (m : Master) (c : Fin 256) (v : Word) (s : State) : ∀ s_, execChannelStart m c v s = .next s_ → s_.spine = s.spine := by
  intro t h; unfold execChannelStart at h; injection h with h; subst h; simp [apply_ite State.bt]
theorem execChannelStop_spine (m : Master) (c : Fin 256) (v : Word) (s : State) : ∀ s_, execChannelStop m c v s = .next s_ → s_.spine = s.spine := by
  intro t h; unfold execChannelStop at h; injection h with h; subst h; simp [apply_ite State.bt]
theorem execAidedPullinStart_spine (c : Fin 256) (s : State) : ∀ s_, execAidedPullinStart c s = .next s_ → s_.spine = s.spine := by
  intro t h; unfold execAidedPullinStart at h; injection h with h; subst h; (repeat' split) <;> simp [apply_ite State.bt]
theorem execChannelIntegration_spine (c : Fin 256) (x : Integration) (s : State) : ∀ s_, execChannelIntegration c x s = .next s_ → s_.spine = s.spine := by
  intro t h; unfold execChannelIntegration at h; injection h with h; subst h; (repeat' split) <;> simp [apply_ite State.bt]
theorem execPullinTimeout_spine (c : Fin 256) (s : State) : ∀ s_, execPullinTimeout c s = .next s_ → s_.spine = s.spine := by
  intro t h; unfold execPullinTimeout at h; injection h with h; subst h; (repeat' split) <;> simp [apply_ite State.bt]
theorem execChannelLaneLoss_spine (c : Fin 256) (s : State) : ∀ s_, execChannelLaneLoss c s = .next s_ → s_.spine = s.spine := by
  intro t h; unfold execChannelLaneLoss at h; injection h with h; subst h; (repeat' split) <;> simp [apply_ite State.bt]
theorem execChannelReacquire_spine (c : Fin 256) (s : State) : ∀ s_, execChannelReacquire c s = .next s_ → s_.spine = s.spine := by
  intro t h; unfold execChannelReacquire at h; injection h with h; subst h; (repeat' split) <;> simp [apply_ite State.bt]
theorem execNavRecord_spine (c : Fin 256) (x : NavUnit) (s : State) : ∀ s_, execNavRecord c x s = .next s_ → s_.spine = s.spine := by
  intro t h; unfold execNavRecord at h; injection h with h; subst h; (repeat' split) <;> simp [apply_ite State.bt]
theorem execEconomyEvaluate_spine (s : State) : ∀ s_, execEconomyEvaluate s = .next s_ → s_.spine = s.spine := by
  intro t h; unfold execEconomyEvaluate at h; injection h with h; subst h; (repeat' split) <;> simp [apply_ite State.bt]
theorem execBurstStart_spine (c : Fin 256) (s : State) : ∀ s_, execBurstStart c s = .next s_ → s_.spine = s.spine := by
  intro t h; unfold execBurstStart at h; injection h with h; subst h; (repeat' split) <;> simp [apply_ite State.bt]

/-! ### Ant -/

@[simp] theorem wrSolCtl_spine (v : Word) (s : State) : (wrSolCtl v s).spine = s.spine := by
  simp [wrSolCtl, apply_ite State.spine]
@[simp] theorem wrNotch_spine (n : Nat) (j : Nat) (v : Word) (s : State) : (wrNotch n j v s).spine = s.spine := by
  simp [wrNotch, apply_ite State.spine]
@[simp] theorem notchCycle_spine (s : State) : (notchCycle s).spine = s.spine := by
  simp [notchCycle, apply_ite State.spine]
@[simp] theorem jamShow_spine (lanes : List JamLane) (n : Fin 8) (s : State) : (jamShow lanes n s).spine = s.spine := by
  simp [jamShow, apply_ite State.spine]
@[simp] theorem jamJudge_spine (k : Nat) (s : State) : (jamJudge k s).spine = s.spine := by
  simp [jamJudge, apply_ite State.spine]
@[simp] theorem jamEvaluate_spine (lanes : List JamLane) (s : State) : (jamEvaluate lanes s).spine = s.spine := by
  simp [jamEvaluate, apply_ite State.spine]
@[simp] theorem showScores_spine (set : Nat) (l : List Nat) (s : State) : (showScores set l s).spine = s.spine := by
  simp [showScores, apply_ite State.spine]
@[simp] theorem spoofCheck_spine (set : Nat) (recs : List EpRec) (s : State) : (spoofCheck set recs s).spine = s.spine := by
  simp [spoofCheck, apply_ite State.spine]; (repeat' split) <;> simp [apply_ite State.spine]
@[simp] theorem wrScfg_spine (v : Word) (s : State) : (wrScfg v s).spine = s.spine := by
  simp [wrScfg, apply_ite State.spine]
@[simp] theorem wrSvB_spine (k : Nat) (v : Word) (s : State) : (wrSvB k v s).spine = s.spine := by
  simp [wrSvB, apply_ite State.spine]
@[simp] theorem gather_spine (t : WT96) (r : EpRec) (s : State) : (gather t r s).spine = s.spine := by
  simp [gather, apply_ite State.spine]
@[simp] theorem epochCheck_spine (t : WT96) (s : State) : (epochCheck t s).spine = s.spine := by
  simp [epochCheck, apply_ite State.spine]
@[simp] theorem measEpoch_spine (s : State) : (measEpoch s).spine = s.spine := by
  simp [measEpoch, apply_ite State.spine]; (repeat' split) <;> simp [apply_ite State.spine]
@[simp] theorem burstEnd_spine (c : Nat) (s : State) : (burstEnd c s).spine = s.spine := by
  simp [burstEnd, apply_ite State.spine]; (repeat' split) <;> simp [apply_ite State.spine]
@[simp] theorem gppsReport_spine (t : BT80) (s : State) : (gppsReport t s).spine = s.spine := by
  simp [gppsReport, apply_ite State.spine]
@[simp] theorem gppsArm_spine (t : BT80) (s : State) : (gppsArm t s).spine = s.spine := by
  simp [gppsArm, apply_ite State.spine]; (repeat' split) <;> simp [apply_ite State.spine]
@[simp] theorem wrPpsBtHi_spine (m : Master) (v : Word) (s : State) : (wrPpsBtHi m v s).spine = s.spine := by
  simp [wrPpsBtHi, apply_ite State.spine]
@[simp] theorem gppsDrive_spine (active : Bool) (s : State) : (gppsDrive active s).spine = s.spine := by
  simp [gppsDrive, apply_ite State.spine]
@[simp] theorem gppsEdge_spine (s : State) : (gppsEdge s).spine = s.spine := by
  simp [gppsEdge, apply_ite State.spine]; (repeat' split) <;> simp [apply_ite State.spine]
@[simp] theorem wrGppsCfg_spine (v : Word) (s : State) : (wrGppsCfg v s).spine = s.spine := by
  simp [wrGppsCfg, apply_ite State.spine]; (repeat' split) <;> simp [apply_ite State.spine]
theorem execSolutionDelivery_spine (m : Master) (v : Word) (s : State) : ∀ s_, execSolutionDelivery m v s = .next s_ → s_.spine = s.spine := by
  intro t h; unfold execSolutionDelivery at h; injection h with h; subst h; simp [apply_ite State.bt]
theorem execMeasurementEpoch_spine (s : State) : ∀ s_, execMeasurementEpoch s = .next s_ → s_.spine = s.spine := by
  intro t h; unfold execMeasurementEpoch at h; injection h with h; subst h; (repeat' split) <;> simp [apply_ite State.bt]
theorem execBurstEnd_spine (c : Fin 256) (s : State) : ∀ s_, execBurstEnd c s = .next s_ → s_.spine = s.spine := by
  intro t h; unfold execBurstEnd at h; injection h with h; subst h; (repeat' split) <;> simp [apply_ite State.bt]
theorem execJamEvaluate_spine (lanes : List JamLane) (s : State) : ∀ s_, execJamEvaluate lanes s = .next s_ → s_.spine = s.spine := by
  intro t h; unfold execJamEvaluate at h; injection h with h; subst h; (repeat' split) <;> simp [apply_ite State.bt]
theorem execGnssPpsArm_spine (m : Master) (v : Word) (s : State) : ∀ s_, execGnssPpsArm m v s = .next s_ → s_.spine = s.spine := by
  intro t h; unfold execGnssPpsArm at h; injection h with h; subst h; simp [apply_ite State.bt]
theorem execGnssPpsEdge_spine (s : State) : ∀ s_, execGnssPpsEdge s = .next s_ → s_.spine = s.spine := by
  intro t h; unfold execGnssPpsEdge at h; injection h with h; subst h; (repeat' split) <;> simp [apply_ite State.bt]
theorem execGnssPpsCfgWrite_spine (m : Master) (v : Word) (s : State) : ∀ s_, execGnssPpsCfgWrite m v s = .next s_ → s_.spine = s.spine := by
  intro t h; unfold execGnssPpsCfgWrite at h; injection h with h; subst h; simp [apply_ite State.bt]
theorem execAntCfgPar_spine (s : State) : ∀ s_, execAntCfgPar s = .next s_ → s_.spine = s.spine := by
  intro t h; unfold execAntCfgPar at h; injection h with h; subst h; (repeat' split) <;> simp [apply_ite State.bt]

/-! ### KeyCore -/

@[simp] theorem showRootKeys_spine (s : State) : (showRootKeys s).spine = s.spine := by
  simp [showRootKeys, apply_ite State.spine]
@[simp] theorem healthFail_spine (s : State) : (healthFail s).spine = s.spine := by
  simp [healthFail, apply_ite State.spine]
@[simp] theorem drbgParity_spine (s : State) : (drbgParity s).spine = s.spine := by
  simp [drbgParity, apply_ite State.spine]
@[simp] theorem drbg_spine (n : Nat) (s : State) : (drbg n s).2.spine = s.spine := by
  simp [drbg, apply_ite State.spine]; (repeat' split) <;> simp [apply_ite State.spine]
@[simp] theorem subkey_spine (lab : String) (ctx : List Byte) (l : Nat) (s : State) : (subkey lab ctx l s).2.spine = s.spine := by
  simp [subkey, apply_ite State.spine]; (repeat' split) <;> simp [apply_ite State.spine]
@[simp] theorem setLode_spine (k : Option (BitVec 256)) (s : State) : (setLode k s).spine = s.spine := by
  simp [setLode, apply_ite State.spine]
@[simp] theorem cookieKey_spine (epoch : Nat) (s : State) : (cookieKey epoch s).2.spine = s.spine := by
  simp [cookieKey, apply_ite State.spine]
@[simp] theorem saKey_spine (j : Nat) (s : State) : (saKey j s).2.spine = s.spine := by
  simp [saKey, apply_ite State.spine]
@[simp] theorem State.setKeySlot_spine (s : State) (i : Nat) (x : Option KeySlot) : (State.setKeySlot s i x).spine = s.spine := by
  simp [State.setKeySlot, apply_ite State.spine]
@[simp] theorem setGeoCtr_spine (c : Nat) (s : State) : (setGeoCtr c s).spine = s.spine := by
  simp [setGeoCtr, apply_ite State.spine]
@[simp] theorem bootEnd_spine (r : BootResult) (s : State) : (bootEnd r s).spine = s.spine := by
  simp [bootEnd, apply_ite State.spine]
@[simp] theorem bootLoad_spine (s0 : State) : (bootLoad s0).spine = s0.spine := by
  simp [bootLoad, apply_ite State.spine]; (repeat' split) <;> simp [apply_ite State.spine]

/-! ### Key -/

@[simp] theorem keyRefuse_spine (r : KeyRej) (s : State) : (keyRefuse r s).spine = s.spine := by
  simp [keyRefuse, apply_ite State.spine]
@[simp] theorem keyStage_spine (s : State) : (keyStage s).spine = s.spine := by
  simp [keyStage, apply_ite State.spine]; (repeat' split) <;> simp [apply_ite State.spine]
@[simp] theorem keyStaged_spine (s : State) : (keyStaged s).spine = s.spine := by
  simp [keyStaged, apply_ite State.spine]; (repeat' split) <;> simp [apply_ite State.spine]
@[simp] theorem keyDiscard_spine (s : State) : (keyDiscard s).spine = s.spine := by
  simp [keyDiscard, apply_ite State.spine]
@[simp] theorem commitStore_spine (k : BitVec 256) (ctr : Nat) (s : State) : (commitStore k ctr s).spine = s.spine := by
  simp [commitStore, apply_ite State.spine]; (repeat' split) <;> simp [apply_ite State.spine]
@[simp] theorem commitCount_spine (s : State) : (commitCount s).spine = s.spine := by
  simp [commitCount, apply_ite State.spine]; (repeat' split) <;> simp [apply_ite State.spine]
@[simp] theorem keyCommit_spine (s : State) : (keyCommit s).spine = s.spine := by
  simp [keyCommit, apply_ite State.spine]; (repeat' split) <;> simp [apply_ite State.spine]
@[simp] theorem keyCommitted_spine (s : State) : (keyCommitted s).spine = s.spine := by
  simp [keyCommitted, apply_ite State.spine]; (repeat' split) <;> simp [apply_ite State.spine]
@[simp] theorem keyCmd_spine (v : Word) (s : State) : (keyCmd v s).spine = s.spine := by
  simp [keyCmd, apply_ite State.spine]
@[simp] theorem keyBack_spine (b : KeyBase) (s : State) : (keyBack b s).spine = s.spine := by
  simp [keyBack, apply_ite State.spine]
@[simp] theorem keyNoted_spine (m : Master) (v : Word) (s t : State) : (keyNoted m v s t).spine = t.spine := rfl
@[simp] theorem wrKeyCmd_spine (m : Master) (v : Word) (s : State) : (wrKeyCmd m v s).spine = s.spine := by
  simp [wrKeyCmd, apply_ite State.spine]
@[simp] theorem trnHealth_spine (apt : Bool) (s : State) : (trnHealth apt s).spine = s.spine := by
  simp [trnHealth, apply_ite State.spine]
@[simp] theorem trnResumed_spine (s : State) : (trnResumed s).spine = s.spine := by
  simp [trnResumed, apply_ite State.spine]
@[simp] theorem trnReseed_spine (s : State) : (trnReseed s).spine = s.spine := by
  simp [trnReseed, apply_ite State.spine]
@[simp] theorem trnOutRead_spine (m : Master) (s : State) : (trnOutRead m s).2.spine = s.spine := by
  grind [trnOutRead, State.setShadow_spine, drbg_spine]
@[simp] theorem lcsRefuse_spine (r : LcsRej) (s : State) : (lcsRefuse r s).spine = s.spine := by
  simp [lcsRefuse, apply_ite State.spine]
@[simp] theorem dropChallenge_spine (s : State) : (dropChallenge s).spine = s.spine := by
  simp [dropChallenge, apply_ite State.spine]
@[simp] theorem lifeCycleTo_spine (st : Nat) (s : State) : (lifeCycleTo st s).spine = s.spine := by
  simp [lifeCycleTo, apply_ite State.spine]
@[simp] theorem lcsChallenge_spine (s : State) : (lcsChallenge s).spine = s.spine := by
  have h := drbg_spine 16 s
  rcases e : drbg 16 s with ⟨o, t⟩
  rw [e] at h
  cases o <;> simp only [lcsChallenge, e]
  · exact (lcsRefuse_spine ..).trans ((dropChallenge_spine t).trans h)
  · rw [raiseEvt_spine, State.setRf_spine, State.setRb_spine, forN_spine (fun _ _ => State.setReg_spine ..)]
    exact h
@[simp] theorem wrLcsCmd_spine (m : Master) (v : Word) (s : State) : (wrLcsCmd m v s).spine = s.spine := by
  simp [wrLcsCmd, apply_ite State.spine]; (repeat' split) <;> simp [apply_ite State.spine]
theorem execKeyStage_spine (m : Master) (v : Word) (s : State) : ∀ s_, execKeyStage m v s = .next s_ → s_.spine = s.spine := by
  intro t h; unfold execKeyStage at h; injection h with h; subst h; simp [apply_ite State.bt]
theorem execKeyStaged_spine (s : State) : ∀ s_, execKeyStaged s = .next s_ → s_.spine = s.spine := by
  intro t h; unfold execKeyStaged at h; injection h with h; subst h; (repeat' split) <;> simp [apply_ite State.bt]
theorem execKeyCommit_spine (m : Master) (v : Word) (s : State) : ∀ s_, execKeyCommit m v s = .next s_ → s_.spine = s.spine := by
  intro t h; unfold execKeyCommit at h; injection h with h; subst h; simp [apply_ite State.bt]
theorem execKeyCommitted_spine (s : State) : ∀ s_, execKeyCommitted s = .next s_ → s_.spine = s.spine := by
  intro t h; unfold execKeyCommitted at h; injection h with h; subst h; (repeat' split) <;> simp [apply_ite State.bt]
theorem execKeyDiscard_spine (m : Master) (v : Word) (s : State) : ∀ s_, execKeyDiscard m v s = .next s_ → s_.spine = s.spine := by
  intro t h; unfold execKeyDiscard at h; injection h with h; subst h; simp [apply_ite State.bt]
theorem execTrngHealth_spine (apt : Bool) (s : State) : ∀ s_, execTrngHealth apt s = .next s_ → s_.spine = s.spine := by
  intro t h; unfold execTrngHealth at h; injection h with h; subst h; (repeat' split) <;> simp [apply_ite State.bt]
theorem execTrngResumed_spine (s : State) : ∀ s_, execTrngResumed s = .next s_ → s_.spine = s.spine := by
  intro t h; unfold execTrngResumed at h; injection h with h; subst h; (repeat' split) <;> simp [apply_ite State.bt]
theorem execDrbgReseed_spine (s : State) : ∀ s_, execDrbgReseed s = .next s_ → s_.spine = s.spine := by
  intro t h; unfold execDrbgReseed at h; injection h with h; subst h; (repeat' split) <;> simp [apply_ite State.bt]
theorem execTrnOutRead_spine (m : Master) (s : State) : ∀ s_, execTrnOutRead m s = .next s_ → s_.spine = s.spine := by
  intro t h; unfold execTrnOutRead at h; injection h with h; subst h; simp [apply_ite State.bt]
theorem execLcsChallenge_spine (m : Master) (v : Word) (s : State) : ∀ s_, execLcsChallenge m v s = .next s_ → s_.spine = s.spine := by
  intro t h; unfold execLcsChallenge at h; injection h with h; subst h; simp [apply_ite State.bt]
theorem execLcsProvision_spine (m : Master) (v : Word) (s : State) : ∀ s_, execLcsProvision m v s = .next s_ → s_.spine = s.spine := by
  intro t h; unfold execLcsProvision at h; injection h with h; subst h; simp [apply_ite State.bt]
theorem execLcsField_spine (m : Master) (v : Word) (s : State) : ∀ s_, execLcsField m v s = .next s_ → s_.spine = s.spine := by
  intro t h; unfold execLcsField at h; injection h with h; subst h; simp [apply_ite State.bt]
theorem execLcsDebug_spine (m : Master) (v : Word) (s : State) : ∀ s_, execLcsDebug m v s = .next s_ → s_.spine = s.spine := by
  intro t h; unfold execLcsDebug at h; injection h with h; subst h; simp [apply_ite State.bt]
theorem execLcsRetire_spine (m : Master) (v : Word) (s : State) : ∀ s_, execLcsRetire m v s = .next s_ → s_.spine = s.spine := by
  intro t h; unfold execLcsRetire at h; injection h with h; subst h; simp [apply_ite State.bt]

/-! ### MateTime -/

@[simp] theorem matePair_spine (b : BT80) (s : State) : (matePair b s).spine = s.spine := by
  simp [matePair, apply_ite State.spine]; (repeat' split) <;> simp [apply_ite State.spine]
@[simp] theorem matePairAll_spine (s : State) : (matePairAll s).spine = s.spine := by
  simp [matePairAll, apply_ite State.spine]
@[simp] theorem mateCapture_spine (b : BT80) (s : State) : (mateCapture b s).spine = s.spine := by
  simp [mateCapture, apply_ite State.spine]
@[simp] theorem mateTime_spine (t : WT96) (s : State) : (mateTime t s).spine = s.spine := by
  simp [mateTime, apply_ite State.spine]

/-! ### Rings -/

@[simp] theorem hostWr_spine (a : Nat) (l : List Byte) (s : State) : (hostWr a l s).spine = s.spine := by
  simp [hostWr, apply_ite State.spine]
@[simp] theorem excPut_spine (r : Nat) (data : List Byte) (s : State) : (excPut r data s).2.spine = s.spine := by
  simp [excPut, apply_ite State.spine]; (repeat' split) <;> simp [apply_ite State.spine]

/-! ### SchCore -/

@[simp] theorem State.setCls_spine (s : State) (p : Nat) (c : Nat) (x : SchCls) : (State.setCls s p c x).spine = s.spine := by
  simp [State.setCls, apply_ite State.spine]
@[simp] theorem takeHead_spine (p : Nat) (c : Nat) (i : Nat) (s : State) : (takeHead p c i s).spine = s.spine := by
  simp [takeHead, apply_ite State.spine]
@[simp] theorem badDescriptor_spine (d : List Byte) (s : State) : (badDescriptor d s).spine = s.spine := by
  simp [badDescriptor, apply_ite State.spine]
@[simp] theorem cleanHead_spine (p : Nat) (c : Nat) (a2 : Nat) (a3 : State) : (cleanHead p c a2 a3).spine = a3.spine := by
  fun_induction cleanHead p c a2 a3 <;> (first | rfl | (simp_all [apply_ite State.spine]; done) | grind [takeHead_spine, badDescriptor_spine])
@[simp] theorem cleanHeads_spine (p : Nat) (cs : List Nat) (s : State) : (cleanHeads p cs s).spine = s.spine := by
  simp [cleanHeads, apply_ite State.spine]
@[simp] theorem State.setRr_spine (s : State) (p : Nat) (r : Nat) : (State.setRr s p r).spine = s.spine := by
  simp [State.setRr, apply_ite State.spine]
@[simp] theorem chooseLoop_spine (p : Nat) (a1 : Nat) (a2 : State) : (chooseLoop p a1 a2).2.spine = a2.spine := by
  fun_induction chooseLoop p a1 a2 <;> (first | rfl | (simp_all [apply_ite State.spine]; done) | grind [State.setCls_spine, State.setRr_spine])
@[simp] theorem choose_spine (p : Nat) (s0 : State) : (choose p s0).2.spine = s0.spine := by
  simp [choose, apply_ite State.spine]; (repeat' split) <;> simp [apply_ite State.spine]
@[simp] theorem chargeStart_spine (p : Nat) (c : Nat) (n : Nat) (s : State) : (chargeStart p c n s).spine = s.spine := by
  simp [chargeStart, apply_ite State.spine]
@[simp] theorem startTx_spine (p : Nat) (f : TxFrame) (s : State) : (startTx p f s).spine = s.spine := by
  simp [startTx, apply_ite State.spine]
@[simp] theorem txOpportunity_spine (p : Nat) (s0 : State) : (txOpportunity p s0).spine = s0.spine := by
  grind [txOpportunity, takeHead_spine, choose_spine, chargeStart_spine, startTx_spine]
@[simp] theorem latchCap_spine (a : Nat) (g : Nat) (t : WT96) (s : State) : (latchCap a g t s).spine = s.spine := by
  simp [latchCap, apply_ite State.spine]
@[simp] theorem txCapture_spine (p : Nat) (k : Nat) (cq : Nat) (tag : Word) (s : State) : (txCapture p k cq tag s).spine = s.spine := by
  simp [txCapture, apply_ite State.spine]
@[simp] theorem sentKind_spine (p : Nat) (k : TxKind) (s : State) : (sentKind p k s).spine = s.spine := by
  simp [sentKind, apply_ite State.spine]; (repeat' split) <;> simp [apply_ite State.spine]
@[simp] theorem txDone_spine (p : Nat) (blk : Nat) (s : State) : (txDone p blk s).spine = s.spine := by
  simp [txDone, apply_ite State.spine]; (repeat' split) <;> simp [apply_ite State.spine]
@[simp] theorem refillClass_spine (per : Nat) (p : Nat) (c : Nat) (s : State) : (refillClass per p c s).spine = s.spine := by
  simp [refillClass, apply_ite State.spine]
@[simp] theorem applyClass_spine (p : Nat) (c : Nat) (s : State) : (applyClass p c s).spine = s.spine := by
  simp [applyClass, apply_ite State.spine]
@[simp] theorem shaperRefill_spine (s : State) : (shaperRefill s).spine = s.spine := by
  simp [shaperRefill, apply_ite State.spine]
@[simp] theorem wrSchStaged_spine (a : Nat) (v : Word) (s : State) : (wrSchStaged a v s).spine = s.spine := by
  simp [wrSchStaged, apply_ite State.spine]

/-! ### Classify -/

@[simp] theorem policerRefill_spine (s : State) : (policerRefill s).spine = s.spine := by
  simp [policerRefill, apply_ite State.spine]
@[simp] theorem policeIn_spine (p : Nat) (i : Nat) (s0 : State) : (policeIn p i s0).2.spine = s0.spine := by
  simp [policeIn, apply_ite State.spine]; (repeat' split) <;> simp [apply_ite State.spine]
@[simp] theorem wrPolRate_spine (p : Nat) (i : Nat) (v : Word) (s : State) : (wrPolRate p i v s).spine = s.spine := by
  simp [wrPolRate, apply_ite State.spine]
@[simp] theorem excToken_spine (r : Nat) (s : State) : (excToken r s).2.spine = s.spine := by
  simp [excToken, apply_ite State.spine]; (repeat' split) <;> simp [apply_ite State.spine]
@[simp] theorem cmdDrop_spine (s : State) : (cmdDrop s).spine = s.spine := by
  simp [cmdDrop, apply_ite State.spine]
@[simp] theorem cmdDone_spine (s : State) : (cmdDone s).spine = s.spine := by
  simp [cmdDone, apply_ite State.spine]
@[simp] theorem deliverCmd_spine (k p : Nat) (f : List Byte) (rx : BT80 × Bool) (h : Hdr) (n : Net) (s0 : State) : (deliverCmd k p f rx h n s0).spine = s0.spine := by
  unfold deliverCmd
  extract_lets s
  have hs : s.spine = s0.spine := by simp [s]
  rw [← hs]
  clear_value s
  split
  · simp
  · split
    · simp
    · extract_lets buf sw s1
      have h1 : s1.spine = s.spine := by simp only [s1, sw]; split <;> simp
      rw [← h1]
      clear_value s1 buf
      split
      · have h2 := excPut_spine (s1.rf Reg.POL_CMD_RING 0 2) (excSlot 0 p f rx true h n) s1
        split <;> rename_i e <;> rw [e] at h2
        · exact (cmdDone_spine _).trans h2
        · exact h2
      · have h2 := blockPush_spine (s1.rf Reg.POL_CMD_Q 0 18) (rxDesc 0 buf p f.length rx 0 0 true h n) s1
        split <;> rename_i e <;> rw [e] at h2
        · rw [cmdDone_spine, State.setRb_spine]; exact h2
        · exact (cmdDrop_spine _).trans h2
@[simp] theorem queueFrame_spine (p : Nat) (k : Nat) (f : List Byte) (rx : BT80 × Bool) (h : Hdr) (n : Net) (s0 : State) : (queueFrame p k f rx h n s0).spine = s0.spine := by
  grind [queueFrame, State.count_spine, State.sharedWr_spine, queuePop_spine, raiseEvt_spine, blockPush_spine, policeIn_spine]
@[simp] theorem exceptFrame_spine (p : Nat) (reason : Nat) (f : List Byte) (rx : BT80 × Bool) (h : Hdr) (n : Net) (s0 : State) : (exceptFrame p reason f rx h n s0).spine = s0.spine := by
  grind [exceptFrame, excPut_spine, latchCap_spine, policeIn_spine, excToken_spine]
@[simp] theorem classify_spine (p : Nat) (f : List Byte) (blk : Nat) (s : State) : (classify p f blk s).spine = s.spine := by
  simp [classify, apply_ite State.spine]; (repeat' split) <;> simp [apply_ite State.spine]
@[simp] theorem cmdRelease_spine (v : Word) (s : State) : (cmdRelease v s).spine = s.spine := by
  simp [cmdRelease, apply_ite State.spine]

/-! ### Tsu -/

@[simp] theorem boundaryVisit_spine (l : Nat) (rx : Bool) (k : Nat) (p : BT80) (per : Nat) (s : State) : (boundaryVisit l rx k p per s).spine = s.spine := by
  simp [boundaryVisit, apply_ite State.spine]
@[simp] theorem laneExpire_spine (l : Nat) (rx : Bool) (s : State) : (laneExpire l rx s).spine = s.spine := by
  simp [laneExpire, apply_ite State.spine]
@[simp] theorem tsuSample_spine (g : Nat) (t : BitVec 16) (s : State) : (tsuSample g t s).spine = s.spine := by
  simp [tsuSample, apply_ite State.spine]
@[simp] theorem phaseLostAt_spine (p : Nat) (s : State) : (phaseLostAt p s).spine = s.spine := by
  simp [phaseLostAt, apply_ite State.spine]; (repeat' split) <;> simp [apply_ite State.spine]
@[simp] theorem wrReserve_spine (m : Master) (g : Nat) (v : Word) (s : State) : (wrReserve m g v s).spine = s.spine := by
  simp [wrReserve, apply_ite State.spine]
@[simp] theorem wrCancel_spine (g : Nat) (v : Word) (s : State) : (wrCancel g v s).spine = s.spine := by
  simp [wrCancel, apply_ite State.spine]
@[simp] theorem badSubmission_spine (g : Nat) (d : List Byte) (s : State) : (badSubmission g d s).spine = s.spine := by
  simp [badSubmission, apply_ite State.spine]
@[simp] theorem submit_spine (p : Nat) (d : List Byte) (s : State) : (submit p d s).spine = s.spine := by
  simp [submit, apply_ite State.spine]; (repeat' split) <;> simp [apply_ite State.spine]
@[simp] theorem class6_spine (p : Nat) (s0 : State) : (class6 p s0).spine = s0.spine := by
  simp [class6, apply_ite State.spine]; (repeat' split) <;> simp [apply_ite State.spine]
@[simp] theorem slotEcc_spine (g : Nat) (x : TsuSlot) (s : State) : (slotEcc g x s).spine = s.spine := by
  simp [slotEcc, apply_ite State.spine]
@[simp] theorem slotDeadline_spine (g : Nat) (h : Nat) (s : State) : (slotDeadline g h s).spine = s.spine := by
  simp [slotDeadline, apply_ite State.spine]; (repeat' split) <;> simp [apply_ite State.spine]
@[simp] theorem launch_spine (g : Nat) (h : Nat) (s : State) : (launch g h s).spine = s.spine := by
  simp [launch, apply_ite State.spine]; (repeat' split) <;> simp [apply_ite State.spine]
@[simp] theorem launched_spine (g : Nat) (h : Nat) (s : State) : (launched g h s).spine = s.spine := by
  simp [launched, apply_ite State.spine]; (repeat' split) <;> simp [apply_ite State.spine]
theorem execBoundaryVisit_spine (l : Fin 16) (rx : Bool) (k : BitVec 64) (p : BT80) (per : DWord) (s : State) : ∀ s_, execBoundaryVisit l rx k p per s = .next s_ → s_.spine = s.spine := by
  intro t h; unfold execBoundaryVisit at h; injection h with h; subst h; (repeat' split) <;> simp [apply_ite State.bt]
theorem execLaneModelExpire_spine (l : Fin 16) (rx : Bool) (s : State) : ∀ s_, execLaneModelExpire l rx s = .next s_ → s_.spine = s.spine := by
  intro t h; unfold execLaneModelExpire at h; injection h with h; subst h; (repeat' split) <;> simp [apply_ite State.bt]
theorem execTsuReserve_spine (m : Master) (g : Fin 4) (v : Word) (s : State) : ∀ s_, execTsuReserve m g v s = .next s_ → s_.spine = s.spine := by
  intro t h; unfold execTsuReserve at h; injection h with h; subst h; simp [apply_ite State.bt]
theorem execReservationCancel_spine (m : Master) (g : Fin 4) (v : Word) (s : State) : ∀ s_, execReservationCancel m g v s = .next s_ → s_.spine = s.spine := by
  intro t h; unfold execReservationCancel at h; injection h with h; subst h; simp [apply_ite State.bt]
theorem execTsuSubmission_spine (p : Fin 17) (desc : List Byte) (s : State) : ∀ s_, execTsuSubmission p desc s = .next s_ → s_.spine = s.spine := by
  intro t h; grind [execTsuSubmission, cmdE_spine, badDescriptor_spine, submit_spine]
theorem execSubmitDeadline_spine (g : Fin 4) (h : BitVec 11) (s : State) : ∀ s_, execSubmitDeadline g h s = .next s_ → s_.spine = s.spine := by
  intro t h; unfold execSubmitDeadline at h; injection h with h; subst h; (repeat' split) <;> simp [apply_ite State.bt]
theorem execTsuLaunch_spine (g : Fin 4) (h : BitVec 11) (s : State) : ∀ s_, execTsuLaunch g h s = .next s_ → s_.spine = s.spine := by
  intro t h; unfold execTsuLaunch at h; injection h with h; subst h; (repeat' split) <;> simp [apply_ite State.bt]
theorem execLaunchComplete_spine (g : Fin 4) (h : BitVec 11) (s : State) : ∀ s_, execLaunchComplete g h s = .next s_ → s_.spine = s.spine := by
  intro t h; unfold execLaunchComplete at h; injection h with h; subst h; (repeat' split) <;> simp [apply_ite State.bt]
theorem execTsuTempSample_spine (g : Fin 4) (t : BitVec 16) (s : State) : ∀ s_, execTsuTempSample g t s = .next s_ → s_.spine = s.spine := by
  intro t h; unfold execTsuTempSample at h; injection h with h; subst h; (repeat' split) <;> simp [apply_ite State.bt]
theorem execPhaseLost_spine (p : Fin 16) (s : State) : ∀ s_, execPhaseLost p s = .next s_ → s_.spine = s.spine := by
  intro t h; unfold execPhaseLost at h; injection h with h; subst h; (repeat' split) <;> simp [apply_ite State.bt]
theorem execClass6Pass_spine (p : Fin 17) (s : State) : ∀ s_, execClass6Pass p s = .next s_ → s_.spine = s.spine := by
  intro t h; unfold execClass6Pass at h; injection h with h; subst h; (repeat' split) <;> simp [apply_ite State.bt]

/-! ### ServeCore -/

@[simp] theorem takeRx_spine (kind : Nat) (r : Req) (data : List Byte) (s : State) : (takeRx kind r data s).spine = s.spine := by
  simp [takeRx, apply_ite State.spine]
@[simp] theorem notServed_spine (r : Req) (s : State) : (notServed r s).spine = s.spine := by
  simp [notServed, apply_ite State.spine]
@[simp] theorem clientFault_spine (r : Req) (cls : Nat) (a : VAnswer) (detail : Nat) (s : State) : (clientFault r cls a detail s).spine = s.spine := by
  simp [clientFault, apply_ite State.spine]
@[simp] theorem putRec_spine (b : Nat) (i : Nat) (r : QRec) (s : State) : (putRec b i r s).spine = s.spine := by
  simp [putRec, apply_ite State.spine]
@[simp] theorem needBucket_spine (b : Nat) (s : State) : (needBucket b s).2.spine = s.spine := by
  have h1 := touchLine_spine b s
  rcases e1 : touchLine b s with ⟨c, x⟩
  rw [e1] at h1
  cases c with
  | true => simp only [needBucket, e1]; exact h1
  | false =>
    have h2 := touchLine_spine b x
    rcases e2 : touchLine b x with ⟨d, y⟩
    rw [e2] at h2
    cases d with
    | true => simp only [needBucket, e1, e2]; exact (lineWr_spine b 0 _ y).trans (h2.trans h1)
    | false => simp only [needBucket, e1, e2]; exact h2.trans h1
@[simp] theorem findClient_spine (r : Req) (now : Nat) (s0 : State) : (findClient r now s0).2.spine = s0.spine := by
  grind [findClient, stat1_spine, putRec_spine, needBucket_spine]
@[simp] theorem policeReq_spine (r : Req) (cost : Nat) (s0 : State) : (policeReq r cost s0).2.2.spine = s0.spine := by
  grind [policeReq, stat1_spine, putRec_spine, findClient_spine]
@[simp] theorem kodSent_spine (r : Req) (c : Option (Nat × QRec)) (nak : Bool) (s : State) : (kodSent r c nak s).spine = s.spine := by
  simp [kodSent, apply_ite State.spine]; (repeat' split) <;> simp [apply_ite State.spine]
@[simp] theorem sendWeighted_spine (p : Nat) (f : List Byte) (s : State) : (sendWeighted p f s).2.spine = s.spine := by
  grind [sendWeighted, State.nextFree_spine, State.sharedWr_spine, queuePop_spine, blockPush_spine]
@[simp] theorem reserveTry_spine (a0 : Nat) (a1 : RsvReq) (a2 : State) : (reserveTry a0 a1 a2).2.spine = a2.spine := by
  fun_induction reserveTry a0 a1 a2 <;> (first | rfl | (simp_all [apply_ite State.spine]; done) | grind [reserve_spine])
@[simp] theorem submitFrame_spine (p : Nat) (h : Nat) (f : List Byte) (s : State) : (submitFrame p h f s).spine = s.spine := by
  simp [submitFrame, apply_ite State.spine]; (repeat' split) <;> simp [apply_ite State.spine]
@[simp] theorem evalFor_spine (p : Nat) (b : BT80) (s : State) : (evalFor p b s).2.spine = s.spine := by
  simp [evalFor, apply_ite State.spine]
@[simp] theorem recordValue_spine (seq : Nat) (s : State) : (recordValue seq s).2.spine = s.spine := by
  simp [recordValue, apply_ite State.spine]; (repeat' split) <;> simp [apply_ite State.spine]
@[simp] theorem toException_spine (reason : Nat) (r : Req) (data : List Byte) (s : State) : (toException reason r data s).spine = s.spine := by
  grind [toException, excPut_spine, excToken_spine]

/-! ### Ntp -/

@[simp] theorem ntpWeighted_spine (r : Req) (pay : List Byte) (s : State) : (ntpWeighted r pay s).spine = s.spine := by
  simp [ntpWeighted, apply_ite State.spine]
@[simp] theorem sendKod_spine (r : Req) (c : Option (Nat × QRec)) (s : State) : (sendKod r c s).spine = s.spine := by
  simp [sendKod, apply_ite State.spine]
@[simp] theorem ntpPoliced_spine (r : Req) (c : Option (Nat × QRec)) (s : State) : (ntpPoliced r c s).spine = s.spine := by
  simp [ntpPoliced, apply_ite State.spine]
@[simp] theorem ntpLaunch_spine (r : Req) (payLen : Nat) (s : State) : (ntpLaunch r payLen s).2.spine = s.spine := by
  simp [ntpLaunch, apply_ite State.spine]; (repeat' split) <;> simp [apply_ite State.spine]
@[simp] theorem ntpSubmit_spine (r : Req) (g : Grant) (pay : List Byte) (s : State) : (ntpSubmit r g pay s).spine = s.spine := by
  simp [ntpSubmit, apply_ite State.spine]
@[simp] theorem ntpAnswer_spine (r : Req) (rq : Option Ef) (s : State) : (ntpAnswer r rq s).spine = s.spine := by
  unfold ntpAnswer
  extract_lets pay efLen
  clear_value efLen
  have hl := ntpLaunch_spine r (48 + efLen) s
  split
  · simp
  · generalize ntpLaunch r (48 + efLen) s = p at *
    obtain ⟨o, s1⟩ := p
    rw [← hl]
    rcases o with _ | ⟨g, c⟩
    · rfl
    · cases rq with
      | none => simp
      | some x =>
        have hr := recordValue_spine (beAt pay (x.off + 4) 8) s1
        dsimp only
        generalize recordValue (beAt pay (x.off + 4) 8) s1 = q at *
        simp [apply_ite State.spine, hr]
@[simp] theorem servePlain_spine (r : Req) (efs : List Ef) (s0 : State) : (servePlain r efs s0).spine = s0.spine := by
  grind [servePlain, stat1_spine, notServed_spine, policeReq_spine, ntpPoliced_spine, ntpAnswer_spine]
@[simp] theorem sendNak_spine (r : Req) (q : NtsReq) (c : Option (Nat × QRec)) (cls : Nat) (s : State) : (sendNak r q c cls s).spine = s.spine := by
  simp [sendNak, apply_ite State.spine]
@[simp] theorem openCookie_spine (cookie : List Byte) (s : State) : (openCookie cookie s).2.spine = s.spine := by
  grind [openCookie, cookieKey_spine]
@[simp] theorem mintCookies_spine (c2s : List Byte) (s2c : List Byte) (a2 : Nat) (a3 : State) : (mintCookies c2s s2c a2 a3).2.spine = a3.spine := by
  fun_induction mintCookies c2s s2c a2 a3 <;> (first | rfl | (simp_all [apply_ite State.spine]; done) | grind [drbg_spine, cookieKey_spine])
@[simp] theorem ntsDrop_spine (r : Req) (g : Grant) (i : Nat) (s : State) : (ntsDrop r g i s).spine = s.spine := by
  simp [ntsDrop, apply_ite State.spine]
@[simp] theorem ntsSeal_spine (r : Req) (q : NtsReq) (s2c : List Byte) (cookies : List (List Byte)) (rv : List Byte) (g : Grant) (c : Carried) (s : State) : (ntsSeal r q s2c cookies rv g c s).spine = s.spine := by
  grind [ntsSeal, stat1_spine, drbg_spine, ntpSubmit_spine, ntsDrop_spine]
@[simp] theorem ntsAnswer_spine (r : Req) (q : NtsReq) (keys : List Byte × List Byte) (c : Option (Nat × QRec)) (rq : Option Ef) (swapped : Bool) (s0 : State) : (ntsAnswer r q keys c rq swapped s0).spine = s0.spine := by
  unfold ntsAnswer
  extract_lets ep s n ef
  have hs : s.spine = s0.spine := by
    simp only [s]
    split
    · rfl
    · exact putRec_spine ..
  clear_value s n ef
  rw [← hs]
  generalize (48 + q.uid.len + ef + 24 + 16 + 108 * n + (if rq.isSome then 264 else 0)) = len
  split
  · grind [ntpLaunch_spine]
  · grind [ntpLaunch_spine, ntsDrop_spine, mintCookies_spine, ntsSeal_spine, recordValue_spine, stat1_spine]
@[simp] theorem serveNts_spine (r : Req) (efs : List Ef) (swapped : Bool) (s0 : State) : (serveNts r efs swapped s0).spine = s0.spine := by
  dsimp only [serveNts]; (repeat' split) <;> first | (simp_all [apply_ite State.spine]; done) | grind [stat1_spine, notServed_spine, clientFault_spine, policeReq_spine, sendNak_spine, openCookie_spine, ntsAnswer_spine]
@[simp] theorem serveNtp_spine (p : Nat) (cl : Nat) (rx : BT80) (data : List Byte) (swapped : Bool) (s0 : State) : (serveNtp p cl rx data swapped s0).spine = s0.spine := by
  simp [serveNtp, apply_ite State.spine]; (repeat' split) <;> simp [apply_ite State.spine]
@[simp] theorem mint_spine (block : List Byte) (s : State) : (mint block s).2.2.spine = s.spine := by
  grind [mint, mintCookies_spine]
@[simp] theorem arpAnswer_spine (r : Req) (s : State) : (arpAnswer r s).spine = s.spine := by
  simp [arpAnswer, apply_ite State.spine]
@[simp] theorem ndAnswer_spine (r : Req) (s : State) : (ndAnswer r s).spine = s.spine := by
  simp [ndAnswer, apply_ite State.spine]
@[simp] theorem serveArpNd_spine (p : Nat) (cl : Nat) (rx : BT80) (data : List Byte) (s0 : State) : (serveArpNd p cl rx data s0).spine = s0.spine := by
  simp [serveArpNd, apply_ite State.spine]

/-! ### PtpCore -/

@[simp] theorem authOk_spine (m : List Byte) (l : List Tlv) (s : State) : (authOk m l s).2.spine = s.spine := by
  grind [authOk, saKey_spine]
@[simp] theorem ptpMessage_spine (x : PtpHead) (body : List Byte) (auth : Option (Nat × Nat)) (s : State) : (ptpMessage x body auth s).2.spine = s.spine := by
  dsimp only [ptpMessage]; (repeat' split) <;> first | (simp_all [apply_ite State.spine]; done) | grind [saKey_spine]
@[simp] theorem nextSeq_spine (i : Nat) (p : Nat) (k : Nat) (s : State) : (nextSeq i p k s).2.spine = s.spine := by
  simp [nextSeq, apply_ite State.spine]
@[simp] theorem putSess_spine (n : Nat) (x : Sess) (s : State) : (putSess n x s).spine = s.spine := by
  simp [putSess, apply_ite State.spine]
@[simp] theorem grpAdd_spine (g : Nat) (d : Int) (s : State) : (grpAdd g d s).spine = s.spine := by
  simp [grpAdd, apply_ite State.spine]
@[simp] theorem setSessEnv_spine (n : Nat) (e : Option Env) (s : State) : (setSessEnv n e s).spine = s.spine := by
  simp [setSessEnv, apply_ite State.spine]
@[simp] theorem dropRecSess_spine (rcd : Nat) (s : State) : (dropRecSess rcd s).spine = s.spine := by
  grind [dropRecSess, putRec_spine, needBucket_spine]
@[simp] theorem endGrant_spine (n : Nat) (ty : Nat) (s : State) : (endGrant n ty s).spine = s.spine := by
  simp [endGrant, apply_ite State.spine]
@[simp] theorem sendPtp_spine (cl : Nat) (i : Nat) (e : Env) (x : PtpHead) (body : List Byte) (s : State) : (sendPtp cl i e x body s).spine = s.spine := by
  grind [sendPtp, State.nextFree_spine, stat1_spine, sendWeighted_spine, ptpMessage_spine]
@[simp] theorem sessSignal_spine (cl : Nat) (n : Nat) (tlvs : List Byte) (s : State) : (sessSignal cl n tlvs s).spine = s.spine := by
  simp [sessSignal, apply_ite State.spine]; (repeat' split) <;> simp [apply_ite State.spine]
@[simp] theorem instanceOff_spine (i : Nat) (s : State) : (instanceOff i s).spine = s.spine := by
  simp [instanceOff, apply_ite State.spine]
@[simp] theorem setupSessQueues_spine (s : State) : (setupSessQueues s).spine = s.spine := by
  simp [setupSessQueues, apply_ite State.spine]

/-! ### Ptp -/

@[simp] theorem ptpEnter_spine (p : Nat) (cl : Nat) (rx : BT80) (data : List Byte) (s0 : State) : (ptpEnter p cl rx data s0).2.spine = s0.spine := by
  simp [ptpEnter, apply_ite State.spine]; (repeat' split) <;> simp [apply_ite State.spine]
@[simp] theorem ptpAuth_spine (i : Nat) (m : List Byte) (l : List Tlv) (s : State) : (ptpAuth i m l s).2.spine = s.spine := by
  simp [ptpAuth, apply_ite State.spine]; (repeat' split) <;> simp [apply_ite State.spine]
@[simp] theorem delayResp_spine (r : Req) (i : Nat) (m : List Byte) (e : Env) (uni : Bool) (log : Int) (s : State) : (delayResp r i m e uni log s).spine = s.spine := by
  simp [delayResp, apply_ite State.spine]
@[simp] theorem answerDelay_spine (r : Req) (i : Nat) (m : List Byte) (s : State) : (answerDelay r i m s).spine = s.spine := by
  simp [answerDelay, apply_ite State.spine]; (repeat' split) <;> simp [apply_ite State.spine]
@[simp] theorem serveDelay_spine (p : Nat) (cl : Nat) (rx : BT80) (data : List Byte) (s0 : State) : (serveDelay p cl rx data s0).spine = s0.spine := by
  grind [serveDelay, notServed_spine, clientFault_spine, policeReq_spine, ptpEnter_spine, ptpAuth_spine, answerDelay_spine]
@[simp] theorem denyTlv_spine (r : Req) (cls : Nat) (mt : Nat) (log : BitVec 8) (s : State) : (denyTlv r cls mt log s).2.spine = s.spine := by
  simp [denyTlv, apply_ite State.spine]
@[simp] theorem needSess_spine (r : Req) (i : Nat) (m : List Byte) (c : Option (Nat × QRec)) (sync : Option (BitVec 8)) (s : State) : (needSess r i m c sync s).2.spine = s.spine := by
  dsimp only [needSess]; (repeat' split) <;> first | (simp_all [apply_ite State.spine]; done) | grind [drbg_spine, putRec_spine, putSess_spine, setSessEnv_spine]
@[simp] theorem grantTo_spine (r : Req) (n : Nat) (ty : Nat) (log : BitVec 8) (dur : Nat) (s : State) : (grantTo r n ty log dur s).2.spine = s.spine := by
  simp [grantTo, apply_ite State.spine]
@[simp] theorem answerRequest_spine (r : Req) (i : Nat) (m : List Byte) (c : Option (Nat × QRec)) (t : Tlv) (s : State) : (answerRequest r i m c t s).2.spine = s.spine := by
  unfold answerRequest
  lift_lets
  extract_lets mt log dur neg reduced_
  split
  · exact denyTlv_spine ..
  · extract_lets least low l room
    split
    · exact denyTlv_spine ..
    · split <;> rename_i h <;> have e := congrArg (fun q => q.2.spine) h <;> simp only [needSess_spine] at e
      · rw [denyTlv_spine]; exact e.symm
      · (repeat' split) <;> simp only [reduced_, grantTo_spine, stat1_spine, clientFault_spine] <;> exact e.symm
@[simp] theorem answerCancel_spine (r : Req) (i : Nat) (m : List Byte) (t : Tlv) (s : State) : (answerCancel r i m t s).2.spine = s.spine := by
  simp [answerCancel, apply_ite State.spine]; (repeat' split) <;> simp [apply_ite State.spine]
@[simp] theorem answerRecord_spine (r : Req) (m : List Byte) (t : Tlv) (s : State) : (answerRecord r m t s).2.spine = s.spine := by
  simp [answerRecord, apply_ite State.spine]; (repeat' split) <;> simp [apply_ite State.spine]
@[simp] theorem answerTlvs_spine (r : Req) (i : Nat) (m : List Byte) (c : Option (Nat × QRec)) (a4 : List Tlv) (a5 : State) : (answerTlvs r i m c a4 a5).2.spine = a5.spine := by
  fun_induction answerTlvs r i m c a4 a5 <;> (first | rfl | (simp_all [apply_ite State.spine]; done) | grind [answerRequest_spine, answerCancel_spine, answerRecord_spine])
@[simp] theorem replySignal_spine (r : Req) (i : Nat) (m : List Byte) (tlvs : List Byte) (s : State) : (replySignal r i m tlvs s).spine = s.spine := by
  simp [replySignal, apply_ite State.spine]; (repeat' split) <;> simp [apply_ite State.spine]
@[simp] theorem signalPoliced_spine (r : Req) (i : Nat) (m : List Byte) (l : List Tlv) (c : Option (Nat × QRec)) (s : State) : (signalPoliced r i m l c s).spine = s.spine := by
  simp [signalPoliced, apply_ite State.spine]
@[simp] theorem serveSignal_spine (p : Nat) (cl : Nat) (rx : BT80) (data : List Byte) (s0 : State) : (serveSignal p cl rx data s0).spine = s0.spine := by
  grind [serveSignal, stat1_spine, notServed_spine, clientFault_spine, policeReq_spine, ptpEnter_spine, ptpAuth_spine, answerTlvs_spine, replySignal_spine, signalPoliced_spine]
@[simp] theorem schedNext_spine (i : Nat) (p : Nat) (ses : Option Nat) (ann : Bool) (s : State) : (schedNext i p ses ann s).spine = s.spine := by
  simp [schedNext, apply_ite State.spine]; (repeat' split) <;> simp [apply_ite State.spine]
@[simp] theorem schedLaunch_spine (cl : Nat) (x : Sched) (g : Grant) (m : List Byte) (fup : Option (List Byte)) (s : State) : (schedLaunch cl x g m fup s).spine = s.spine := by
  simp [schedLaunch, apply_ite State.spine]
@[simp] theorem buildSync_spine (cl : Nat) (i : Nat) (p : Nat) (ses : Option Nat) (x : Sched) (g : Grant) (s0 : State) : (buildSync cl i p ses x g s0).spine = s0.spine := by
  grind [buildSync, State.nextFree_spine, stat1_spine, cancelSlot_spine, evalFor_spine, ptpMessage_spine, schedNext_spine, schedLaunch_spine]
@[simp] theorem buildAnnounce_spine (cl : Nat) (i : Nat) (p : Nat) (ses : Option Nat) (x : Sched) (g : Grant) (s0 : State) : (buildAnnounce cl i p ses x g s0).spine = s0.spine := by
  grind [buildAnnounce, State.nextFree_spine, stat1_spine, cancelSlot_spine, evalFor_spine, ptpMessage_spine, schedNext_spine, schedLaunch_spine]
@[simp] theorem schedTarget_spine (i : Nat) (p : Nat) (ses : Option Nat) (ann : Bool) (s0 : State) : (schedTarget i p ses ann s0).spine = s0.spine := by
  simp [schedTarget, apply_ite State.spine]; (repeat' split) <;> simp [apply_ite State.spine]
@[simp] theorem followUp_spine (g : Nat) (h : Nat) (s : State) : (followUp g h s).spine = s.spine := by
  simp [followUp, apply_ite State.spine]; (repeat' split) <;> simp [apply_ite State.spine]
@[simp] theorem grantExpire_spine (n : Nat) (ty : Nat) (s : State) : (grantExpire n ty s).spine = s.spine := by
  simp [grantExpire, apply_ite State.spine]
@[simp] theorem quarantineEnd_spine (n : Nat) (s : State) : (quarantineEnd n s).spine = s.spine := by
  simp [quarantineEnd, apply_ite State.spine]; (repeat' split) <;> simp [apply_ite State.spine]
@[simp] theorem setUp_spine (n : Nat) (x : UpSess) (s : State) : (setUp n x s).spine = s.spine := by
  simp [setUp, apply_ite State.spine]
@[simp] theorem upSeq_spine (n : Nat) (typ : Nat) (s : State) : (upSeq n typ s).2.spine = s.spine := by
  simp [upSeq, apply_ite State.spine]
@[simp] theorem upLost_spine (n : Nat) (s : State) : (upLost n s).spine = s.spine := by
  simp [upLost, apply_ite State.spine]
@[simp] theorem upRenew_spine (n : Nat) (s0 : State) : (upRenew n s0).spine = s0.spine := by
  dsimp only [upRenew]; (repeat' split) <;> first | (simp_all [apply_ite State.spine]; done) | grind [State.nextFree_spine, stat1_spine, sendWeighted_spine, ptpMessage_spine, setUp_spine, upSeq_spine]
@[simp] theorem upDelay_spine (n : Nat) (s0 : State) : (upDelay n s0).spine = s0.spine := by
  grind [upDelay, State.nextFree_spine, stat1_spine, reserve_spine, submitFrame_spine, ptpMessage_spine, setUp_spine, upSeq_spine]
@[simp] theorem upFault_spine (n : Nat) (cls : Nat) (typ : Nat) (s : State) : (upFault n cls typ s).spine = s.spine := by
  simp [upFault, apply_ite State.spine]
@[simp] theorem upAnnounce_spine (n : Nat) (m : List Byte) (l : List Tlv) (s : State) : (upAnnounce n m l s).spine = s.spine := by
  simp [upAnnounce, apply_ite State.spine]
@[simp] theorem upGrant_spine (n : Nat) (m : List Byte) (t : Tlv) (s : State) : (upGrant n m t s).spine = s.spine := by
  simp [upGrant, apply_ite State.spine]
@[simp] theorem upTake_spine (n : Nat) (m : List Byte) (l : List Tlv) (s0 : State) : (upTake n m l s0).spine = s0.spine := by
  simp [upTake, apply_ite State.spine]; (repeat' split) <;> simp [apply_ite State.spine]
@[simp] theorem upMessage_spine (n : Nat) (rx : BT80) (data : List Byte) (s0 : State) : (upMessage n rx data s0).spine = s0.spine := by
  simp [upMessage, apply_ite State.spine]; (repeat' split) <;> simp [apply_ite State.spine]
@[simp] theorem upTimeout_spine (n : Nat) (s : State) : (upTimeout n s).spine = s.spine := by
  simp [upTimeout, apply_ite State.spine]; (repeat' split) <;> simp [apply_ite State.spine]

/-! ### Qry -/

@[simp] theorem mateSeeds_spine (s : State) : (mateSeeds s).spine = s.spine := by
  grind [mateSeeds, mateMirror_spine, drbg_spine, subkey_spine]
@[simp] theorem quarrySeed_spine (s : State) : (quarrySeed s).spine = s.spine := by
  dsimp only [quarrySeed]; (repeat' (first | (simp [apply_ite State.spine]; done) | split | (refine (foldl_spine ?_).trans ?_; intro _ _) | (refine (forN_spine ?_).trans ?_; intro _ _) | (refine (forEach_spine ?_).trans ?_; intro _ _) | (refine (foldl_spine1 ?_).trans ?_; intro _ _) | (refine (foldl_spine2 ?_).trans ?_; intro _ _) | (simp_all [apply_ite State.spine]; done) | grind [State.setRb_spine, raiseEvt_spine, drbg_spine, mateSeeds_spine] | (simp; grind [State.mk_spine, State.spine_eta, State.setRb_spine, raiseEvt_spine, drbg_spine, mateSeeds_spine])))
@[simp] theorem dropCache_spine (s : State) : (dropCache s).spine = s.spine := by
  simp [dropCache, apply_ite State.spine]
@[simp] theorem wrQryCmd_spine (v : Word) (s : State) : (wrQryCmd v s).spine = s.spine := by
  simp [wrQryCmd, apply_ite State.spine]
@[simp] theorem flushDone_spine (s : State) : (flushDone s).spine = s.spine := by
  simp [flushDone, apply_ite State.spine]
@[simp] theorem zeroTable_spine (s : State) : (zeroTable s).spine = s.spine := by
  simp [zeroTable, apply_ite State.spine]
@[simp] theorem clearDone_spine (s : State) : (clearDone s).spine = s.spine := by
  simp [clearDone, apply_ite State.spine]; (repeat' split) <;> simp [apply_ite State.spine]
@[simp] theorem wrPtpCfg_spine (i : Nat) (v : Word) (s : State) : (wrPtpCfg i v s).spine = s.spine := by
  simp [wrPtpCfg, apply_ite State.spine]
@[simp] theorem wrUpCfg_spine (n : Nat) (v : Word) (s : State) : (wrUpCfg n v s).spine = s.spine := by
  simp [wrUpCfg, apply_ite State.spine]
@[simp] theorem wrSvc_spine (m : Master) (ofs : Nat) (v : Word) (s : State) : (wrSvc m ofs v s).spine = s.spine := by
  simp [wrSvc, apply_ite State.spine]
theorem execQuarrySeed_spine (s : State) : ∀ s_, execQuarrySeed s = .next s_ → s_.spine = s.spine := by
  intro t h; unfold execQuarrySeed at h; injection h with h; subst h; (repeat' split) <;> simp [apply_ite State.bt]
theorem execQryFlush_spine (m : Master) (v : Word) (s : State) : ∀ s_, execQryFlush m v s = .next s_ → s_.spine = s.spine := by
  intro t h; unfold execQryFlush at h; injection h with h; subst h; simp [apply_ite State.bt]
theorem execFlushDone_spine (s : State) : ∀ s_, execFlushDone s = .next s_ → s_.spine = s.spine := by
  intro t h; unfold execFlushDone at h; injection h with h; subst h; (repeat' split) <;> simp [apply_ite State.bt]
theorem execQryClear_spine (m : Master) (v : Word) (s : State) : ∀ s_, execQryClear m v s = .next s_ → s_.spine = s.spine := by
  intro t h; unfold execQryClear at h; injection h with h; subst h; simp [apply_ite State.bt]
theorem execClearDone_spine (s : State) : ∀ s_, execClearDone s = .next s_ → s_.spine = s.spine := by
  intro t h; unfold execClearDone at h; injection h with h; subst h; (repeat' split) <;> simp [apply_ite State.bt]
theorem execQuarryReseed_spine (m : Master) (v : Word) (s : State) : ∀ s_, execQuarryReseed m v s = .next s_ → s_.spine = s.spine := by
  intro t h; unfold execQuarryReseed at h; injection h with h; subst h; simp [apply_ite State.bt]
theorem execNtpRequest_spine (p : Fin 16) (cl : Fin 63) (rx : BT80) (data : List Byte) (s : State) : ∀ s_, execNtpRequest p cl rx data s = .next s_ → s_.spine = s.spine := by
  intro t h; unfold execNtpRequest at h; injection h with h; subst h; (repeat' split) <;> simp [apply_ite State.bt]
theorem execNtsRequest_spine (p : Fin 16) (cl : Fin 63) (rx : BT80) (data : List Byte) (swapped : Bool) (s : State) : ∀ s_, execNtsRequest p cl rx data swapped s = .next s_ → s_.spine = s.spine := by
  intro t h; unfold execNtsRequest at h; injection h with h; subst h; (repeat' split) <;> simp [apply_ite State.bt]
theorem execArpNdRequest_spine (p : Fin 16) (cl : Fin 63) (rx : BT80) (data : List Byte) (s : State) : ∀ s_, execArpNdRequest p cl rx data s = .next s_ → s_.spine = s.spine := by
  intro t h; unfold execArpNdRequest at h; injection h with h; subst h; (repeat' split) <;> simp [apply_ite State.bt]
theorem execDelayReq_spine (p : Fin 16) (cl : Fin 63) (rx : BT80) (data : List Byte) (s : State) : ∀ s_, execDelayReq p cl rx data s = .next s_ → s_.spine = s.spine := by
  intro t h; unfold execDelayReq at h; injection h with h; subst h; (repeat' split) <;> simp [apply_ite State.bt]
theorem execSyncTarget_spine (i : Fin 8) (p : Fin 16) (ses : Option (BitVec 18)) (s : State) : ∀ s_, execSyncTarget i p ses s = .next s_ → s_.spine = s.spine := by
  intro t h; unfold execSyncTarget at h; injection h with h; subst h; (repeat' split) <;> simp [apply_ite State.bt]
theorem execAnnounceTarget_spine (i : Fin 8) (p : Fin 16) (ses : Option (BitVec 18)) (s : State) : ∀ s_, execAnnounceTarget i p ses s = .next s_ → s_.spine = s.spine := by
  intro t h; unfold execAnnounceTarget at h; injection h with h; subst h; (repeat' split) <;> simp [apply_ite State.bt]
theorem execFollowUp_spine (g : Fin 4) (h : BitVec 11) (s : State) : ∀ s_, execFollowUp g h s = .next s_ → s_.spine = s.spine := by
  intro t h; unfold execFollowUp at h; injection h with h; subst h; (repeat' split) <;> simp [apply_ite State.bt]
theorem execUnicastNegotiation_spine (p : Fin 16) (cl : Fin 63) (rx : BT80) (data : List Byte) (s : State) : ∀ s_, execUnicastNegotiation p cl rx data s = .next s_ → s_.spine = s.spine := by
  intro t h; unfold execUnicastNegotiation at h; injection h with h; subst h; (repeat' split) <;> simp [apply_ite State.bt]
theorem execCancelUnicastTransmission_spine (p : Fin 16) (cl : Fin 63) (rx : BT80) (data : List Byte) (s : State) : ∀ s_, execCancelUnicastTransmission p cl rx data s = .next s_ → s_.spine = s.spine := by
  intro t h; unfold execCancelUnicastTransmission at h; injection h with h; subst h; (repeat' split) <;> simp [apply_ite State.bt]
theorem execGrantExpire_spine (ses : BitVec 18) (ty : Fin 3) (s : State) : ∀ s_, execGrantExpire ses ty s = .next s_ → s_.spine = s.spine := by
  intro t h; unfold execGrantExpire at h; injection h with h; subst h; (repeat' split) <;> simp [apply_ite State.bt]
theorem execQuarantineEnd_spine (ses : BitVec 18) (s : State) : ∀ s_, execQuarantineEnd ses s = .next s_ → s_.spine = s.spine := by
  intro t h; unfold execQuarantineEnd at h; injection h with h; subst h; (repeat' split) <;> simp [apply_ite State.bt]
theorem execUpstreamRenew_spine (n : Fin 8) (s : State) : ∀ s_, execUpstreamRenew n s = .next s_ → s_.spine = s.spine := by
  intro t h; unfold execUpstreamRenew at h; injection h with h; subst h; (repeat' split) <;> simp [apply_ite State.bt]
theorem execUpstreamMessage_spine (n : Fin 8) (rx : BT80) (data : List Byte) (s : State) : ∀ s_, execUpstreamMessage n rx data s = .next s_ → s_.spine = s.spine := by
  intro t h; unfold execUpstreamMessage at h; injection h with h; subst h; (repeat' split) <;> simp [apply_ite State.bt]
theorem execUpstreamAnnounceTimeout_spine (n : Fin 8) (s : State) : ∀ s_, execUpstreamAnnounceTimeout n s = .next s_ → s_.spine = s.spine := by
  intro t h; unfold execUpstreamAnnounceTimeout at h; injection h with h; subst h; (repeat' split) <;> simp [apply_ite State.bt]

end Sys2Proof.Machine
end

