-- ==== Sys2Proof/Laws/SpinePlatform.lean ====
section
/-! SUPPORT. The spine is kept by the mate link, the ports and the platform. -/
set_option linter.unusedSimpArgs false
namespace Sys2Proof.Machine

/-! ### Mate -/

@[simp] theorem peerLost_spine (b : Bool) (s : State) : (peerLost b s).spine = s.spine := by
  simp [peerLost, apply_ite State.spine]
@[simp] theorem takeOver_spine (c : RoleCause) (s : State) : (takeOver c s).spine = s.spine := by
  simp [takeOver, apply_ite State.spine]
@[simp] theorem mateRoles_spine (s : State) : (mateRoles s).spine = s.spine := by
  simp [mateRoles, apply_ite State.spine]; (repeat' split) <;> simp [apply_ite State.spine]
@[simp] theorem mateEval_spine (s : State) : (mateEval s).spine = s.spine := by
  simp [mateEval, apply_ite State.spine]
@[simp] theorem mateMalf_spine (l : Nat) (d : List Byte) (s : State) : (mateMalf l d s).spine = s.spine := by
  simp [mateMalf, apply_ite State.spine]
@[simp] theorem mateRecover_spine (s : State) : (mateRecover s).spine = s.spine := by
  simp [mateRecover, apply_ite State.spine]
@[simp] theorem mateValid_spine (l : Nat) (s : State) : (mateValid l s).spine = s.spine := by
  simp [mateValid, apply_ite State.spine]
@[simp] theorem mateHealth_spine (d : List Byte) (s : State) : (mateHealth d s).spine = s.spine := by
  simp [mateHealth, apply_ite State.spine]
@[simp] theorem mirrorRecord_spine (r : List Byte) (s : State) : (mirrorRecord r s).spine = s.spine := by
  simp [mirrorRecord, apply_ite State.spine]
@[simp] theorem mirrorSeeds_spine (b : List Byte) (s : State) : (mirrorSeeds b s).spine = s.spine := by
  dsimp only [mirrorSeeds]; (repeat' (first | (simp [apply_ite State.spine]; done) | split | (refine (foldl_spine ?_).trans ?_; intro _ _) | (refine (forN_spine ?_).trans ?_; intro _ _) | (refine (forEach_spine ?_).trans ?_; intro _ _) | (refine (foldl_spine1 ?_).trans ?_; intro _ _) | (refine (foldl_spine2 ?_).trans ?_; intro _ _) | (simp_all [apply_ite State.spine]; done) | grind [State.setRb_spine, raiseEvt_spine, subkey_spine] | (simp; grind [State.mk_spine, State.spine_eta, State.setRb_spine, raiseEvt_spine, subkey_spine])))
@[simp] theorem mirrorGap_spine (s : State) : (mirrorGap s).spine = s.spine := by
  simp [mirrorGap, apply_ite State.spine]
@[simp] theorem mateMirrored_spine (d : List Byte) (s : State) : (mateMirrored d s).spine = s.spine := by
  have key : ∀ t : State, (if t.mrole ≠ .standby then t
      else match beAt d 16 1 with
        | 1 => mateEval (mirrorRecord (sliceB d 20 256) t)
        | 2 => mirrorSeeds (sliceB d 20 48) t
        | _ => match blockPush (t.rf Reg.MATE_MRQ 0 18) (sliceB d 20 64) t with
          | (.ok, s2) => s2
          | (_, s2) => mirrorGap s2).spine = t.spine := by
    intro t
    have h1 := blockPush_spine (t.rf Reg.MATE_MRQ 0 18) (sliceB d 20 64) t
    grind [mateEval_spine, mirrorRecord_spine, mirrorSeeds_spine, mirrorGap_spine]
  have k2 : ∀ q, ({ s with mate := { s.mate with rxSeq := q } } : State).spine = s.spine := fun q => State.mk_spine
  unfold mateMirrored
  refine (key _).trans ?_
  rw [apply_ite State.spine, mirrorGap_spine, k2, ite_self]
@[simp] theorem reversionPeer_spine (due : WT96) (s : State) : (reversionPeer due s).spine = s.spine := by
  simp [reversionPeer, apply_ite State.spine]
@[simp] theorem mateArmed_spine (due : WT96) (s0 : State) : (mateArmed due s0).spine = s0.spine := by
  simp [mateArmed, apply_ite State.spine]
@[simp] theorem mateAcked_spine (due : WT96) (s : State) : (mateAcked due s).spine = s.spine := by
  simp [mateAcked, apply_ite State.spine]
@[simp] theorem mateCtrlFrame_spine (d : List Byte) (s : State) : (mateCtrlFrame d s).spine = s.spine := by
  simp [mateCtrlFrame, apply_ite State.spine]; (repeat' split) <;> simp [apply_ite State.spine]
@[simp] theorem mateReceive_spine (l : Nat) (d : List Byte) (s : State) : (mateReceive l d s).spine = s.spine := by
  simp [mateReceive, apply_ite State.spine]; (repeat' split) <;> simp [apply_ite State.spine]
@[simp] theorem mateLane_spine (l : Nat) (up : Bool) (s : State) : (mateLane l up s).spine = s.spine := by
  simp [mateLane, apply_ite State.spine]
@[simp] theorem matePin_spine (level : Bool) (b : BT80) (s : State) : (matePin level b s).spine = s.spine := by
  simp [matePin, apply_ite State.spine]
@[simp] theorem mateTimeFrame_spine (t : WT96) (s : State) : (mateTimeFrame t s).spine = s.spine := by
  simp [mateTimeFrame, apply_ite State.spine]
@[simp] theorem matePulse_spine (s : State) : (matePulse s).spine = s.spine := by
  simp [matePulse, apply_ite State.spine]
@[simp] theorem healthPublish_spine (s : State) : (healthPublish s).spine = s.spine := by
  simp [healthPublish, apply_ite State.spine]
@[simp] theorem healthInterval_spine (toggle : Bool) (s : State) : (healthInterval toggle s).spine = s.spine := by
  simp [healthInterval, apply_ite State.spine]
@[simp] theorem discoveryTimeout_spine (s : State) : (discoveryTimeout s).spine = s.spine := by
  simp [discoveryTimeout, apply_ite State.spine]
@[simp] theorem activeInChange_spine (level : Bool) (s : State) : (activeInChange level s).spine = s.spine := by
  simp [activeInChange, apply_ite State.spine]
@[simp] theorem residUpdate_spine (s : State) : (residUpdate s).spine = s.spine := by
  simp [residUpdate, apply_ite State.spine]
@[simp] theorem mirrorSend_spine (s : State) : (mirrorSend s).spine = s.spine := by
  dsimp only [mirrorSend]; (repeat' split) <;> first | (simp_all [apply_ite State.spine]; done) | grind [queuePop_spine, mateSend_spine]
@[simp] theorem wrSwgood_spine (v : Word) (s : State) : (wrSwgood v s).spine = s.spine := by
  simp [wrSwgood, apply_ite State.spine]
@[simp] theorem selftestTimeout_spine (s : State) : (selftestTimeout s).spine = s.spine := by
  simp [selftestTimeout, apply_ite State.spine]; (repeat' split) <;> simp [apply_ite State.spine]
@[simp] theorem shadowRestore_spine (s : State) : (shadowRestore s).spine = s.spine := by
  simp [shadowRestore, apply_ite State.spine]; (repeat' split) <;> simp [apply_ite State.spine]
@[simp] theorem wrMateCmd_spine (v : Word) (s : State) : (wrMateCmd v s).spine = s.spine := by
  simp [wrMateCmd, apply_ite State.spine]
@[simp] theorem wrMateCfg_spine (v : Word) (s : State) : (wrMateCfg v s).spine = s.spine := by
  simp [wrMateCfg, apply_ite State.spine]
@[simp] theorem mateSwitch_spine (n : Nat) (s : State) : (mateSwitch n s).2.spine = s.spine := by
  simp [mateSwitch, apply_ite State.spine]; (repeat' split) <;> simp [apply_ite State.spine]
@[simp] theorem hoLeave_spine (s : State) : (hoLeave s).spine = s.spine := by
  simp [hoLeave, apply_ite State.spine]; (repeat' split) <;> simp [apply_ite State.spine]
@[simp] theorem reversionArm_spine (s : State) : (reversionArm s).spine = s.spine := by
  simp [reversionArm, apply_ite State.spine]
theorem execMateLaneUp_spine (l : Fin 2) (s : State) : ∀ s_, execMateLaneUp l s = .next s_ → s_.spine = s.spine := by
  intro t h; unfold execMateLaneUp at h; injection h with h; subst h; (repeat' split) <;> simp [apply_ite State.bt]
theorem execMateLaneDown_spine (l : Fin 2) (s : State) : ∀ s_, execMateLaneDown l s = .next s_ → s_.spine = s.spine := by
  intro t h; unfold execMateLaneDown at h; injection h with h; subst h; (repeat' split) <;> simp [apply_ite State.bt]
theorem execMatePpsPulse_spine (s : State) : ∀ s_, execMatePpsPulse s = .next s_ → s_.spine = s.spine := by
  intro t h; unfold execMatePpsPulse at h; injection h with h; subst h; (repeat' split) <;> simp [apply_ite State.bt]
theorem execHealthPublish_spine (s : State) : ∀ s_, execHealthPublish s = .next s_ → s_.spine = s.spine := by
  intro t h; unfold execHealthPublish at h; injection h with h; subst h; (repeat' split) <;> simp [apply_ite State.bt]
theorem execHealthInterval_spine (toggle : Bool) (s : State) : ∀ s_, execHealthInterval toggle s = .next s_ → s_.spine = s.spine := by
  intro t h; unfold execHealthInterval at h; injection h with h; subst h; (repeat' split) <;> simp [apply_ite State.bt]
theorem execHealthFrame_spine (l : Fin 2) (data : List Byte) (s : State) : ∀ s_, execHealthFrame l data s = .next s_ → s_.spine = s.spine := by
  intro t h; unfold execHealthFrame at h; injection h with h; subst h; (repeat' split) <;> simp [apply_ite State.bt]
theorem execTimeFrame_spine (l : Fin 2) (data : List Byte) (s : State) : ∀ s_, execTimeFrame l data s = .next s_ → s_.spine = s.spine := by
  intro t h; unfold execTimeFrame at h; injection h with h; subst h; (repeat' split) <;> simp [apply_ite State.bt]
theorem execMirrorFrame_spine (l : Fin 2) (data : List Byte) (s : State) : ∀ s_, execMirrorFrame l data s = .next s_ → s_.spine = s.spine := by
  intro t h; unfold execMirrorFrame at h; injection h with h; subst h; (repeat' split) <;> simp [apply_ite State.bt]
theorem execArmHo_spine (l : Fin 2) (data : List Byte) (s : State) : ∀ s_, execArmHo l data s = .next s_ → s_.spine = s.spine := by
  intro t h; unfold execArmHo at h; injection h with h; subst h; (repeat' split) <;> simp [apply_ite State.bt]
theorem execAckHo_spine (l : Fin 2) (data : List Byte) (s : State) : ∀ s_, execAckHo l data s = .next s_ → s_.spine = s.spine := by
  intro t h; unfold execAckHo at h; injection h with h; subst h; (repeat' split) <;> simp [apply_ite State.bt]
theorem execAbortHo_spine (l : Fin 2) (data : List Byte) (s : State) : ∀ s_, execAbortHo l data s = .next s_ → s_.spine = s.spine := by
  intro t h; unfold execAbortHo at h; injection h with h; subst h; (repeat' split) <;> simp [apply_ite State.bt]
theorem execResyncReq_spine (l : Fin 2) (data : List Byte) (s : State) : ∀ s_, execResyncReq l data s = .next s_ → s_.spine = s.spine := by
  intro t h; unfold execResyncReq at h; injection h with h; subst h; (repeat' split) <;> simp [apply_ite State.bt]
theorem execMirrorSend_spine (s : State) : ∀ s_, execMirrorSend s = .next s_ → s_.spine = s.spine := by
  intro t h; unfold execMirrorSend at h; injection h with h; subst h; (repeat' split) <;> simp [apply_ite State.bt]
theorem execMateResidUpdate_spine (s : State) : ∀ s_, execMateResidUpdate s = .next s_ → s_.spine = s.spine := by
  intro t h; unfold execMateResidUpdate at h; injection h with h; subst h; (repeat' split) <;> simp [apply_ite State.bt]
theorem execDiscoveryTimeout_spine (s : State) : ∀ s_, execDiscoveryTimeout s = .next s_ → s_.spine = s.spine := by
  intro t h; unfold execDiscoveryTimeout at h; injection h with h; subst h; (repeat' split) <;> simp [apply_ite State.bt]
theorem execActiveInChange_spine (level : Bool) (s : State) : ∀ s_, execActiveInChange level s = .next s_ → s_.spine = s.spine := by
  intro t h; unfold execActiveInChange at h; injection h with h; subst h; (repeat' split) <;> simp [apply_ite State.bt]
theorem execMateRejoin_spine (m : Master) (v : Word) (s : State) : ∀ s_, execMateRejoin m v s = .next s_ → s_.spine = s.spine := by
  intro t h; unfold execMateRejoin at h; injection h with h; subst h; simp [apply_ite State.bt]
theorem execMateIsolate_spine (m : Master) (v : Word) (s : State) : ∀ s_, execMateIsolate m v s = .next s_ → s_.spine = s.spine := by
  intro t h; unfold execMateIsolate at h; injection h with h; subst h; simp [apply_ite State.bt]
theorem execHoDone_spine (s : State) : ∀ s_, execHoDone s = .next s_ → s_.spine = s.spine := by
  intro t h; unfold execHoDone at h; injection h with h; subst h; (repeat' split) <;> simp [apply_ite State.bt]
theorem execReversionArm_spine (s : State) : ∀ s_, execReversionArm s = .next s_ → s_.spine = s.spine := by
  intro t h; unfold execReversionArm at h; injection h with h; subst h; (repeat' split) <;> simp [apply_ite State.bt]
theorem execSelftestTimeout_spine (s : State) : ∀ s_, execSelftestTimeout s = .next s_ → s_.spine = s.spine := by
  intro t h; unfold execSelftestTimeout at h; injection h with h; subst h; (repeat' split) <;> simp [apply_ite State.bt]
theorem execShadowRestore_spine (s : State) : ∀ s_, execShadowRestore s = .next s_ → s_.spine = s.spine := by
  intro t h; unfold execShadowRestore at h; injection h with h; subst h; (repeat' split) <;> simp [apply_ite State.bt]

/-! ### PwrCore -/

@[simp] theorem judgePwr_spine (s : State) : (judgePwr s).spine = s.spine := by
  simp [judgePwr, apply_ite State.spine]
@[simp] theorem pwrSettled_spine (s : State) : (pwrSettled s).spine = s.spine := by
  simp [pwrSettled, apply_ite State.spine]
@[simp] theorem wakeRequest_spine (i : Nat) (s : State) : (wakeRequest i s).spine = s.spine := by
  simp [wakeRequest, apply_ite State.spine]

/-! ### Prt -/

@[simp] theorem requestPause_spine (p : Nat) (refresh : Bool) (s : State) : (requestPause p refresh s).spine = s.spine := by
  simp [requestPause, apply_ite State.spine]
@[simp] theorem pauseEval_spine (p : Nat) (s : State) : (pauseEval p s).spine = s.spine := by
  simp [pauseEval, apply_ite State.spine]
@[simp] theorem setOcc_spine (p : Nat) (n : Nat) (s : State) : (setOcc p n s).spine = s.spine := by
  simp [setOcc, apply_ite State.spine]
@[simp] theorem gotPause_spine (p : Nat) (q : Nat) (s : State) : (gotPause p q s).spine = s.spine := by
  simp [gotPause, apply_ite State.spine]
@[simp] theorem gotEsmc_spine (p : Nat) (f : List Byte) (s : State) : (gotEsmc p f s).spine = s.spine := by
  simp [gotEsmc, apply_ite State.spine]
@[simp] theorem sendEsmc_spine (p : Nat) (event : Bool) (s : State) : (sendEsmc p event s).spine = s.spine := by
  simp [sendEsmc, apply_ite State.spine]
@[simp] theorem esmcInfo_spine (p : Nat) (s : State) : (esmcInfo p s).spine = s.spine := by
  simp [esmcInfo, apply_ite State.spine]
@[simp] theorem esmcEvent_spine (p : Nat) (s : State) : (esmcEvent p s).spine = s.spine := by
  simp [esmcEvent, apply_ite State.spine]
@[simp] theorem wrEsmcCfg_spine (p : Nat) (v : Word) (s : State) : (wrEsmcCfg p v s).spine = s.spine := by
  simp [wrEsmcCfg, apply_ite State.spine]
@[simp] theorem wakeCheck_spine (p : Nat) (f : List Byte) (s : State) : (wakeCheck p f s).spine = s.spine := by
  simp [wakeCheck, apply_ite State.spine]
@[simp] theorem countGood_spine (p : Nat) (f : List Byte) (s : State) : (countGood p f s).spine = s.spine := by
  simp [countGood, apply_ite State.spine]
@[simp] theorem goodFrame_spine (p : Nat) (f : List Byte) (blk : Nat) (s : State) : (goodFrame p f blk s).spine = s.spine := by
  simp [goodFrame, apply_ite State.spine]
@[simp] theorem quietFrame_spine (p : Nat) (f : List Byte) (s : State) : (quietFrame p f s).spine = s.spine := by
  simp [quietFrame, apply_ite State.spine]
@[simp] theorem rxFrame_spine (p : Nat) (x : RxFrame) (s : State) : (rxFrame p x s).spine = s.spine := by
  simp [rxFrame, apply_ite State.spine]
@[simp] theorem pcsCount_spine (p : Nat) (x : RxFrame) (s : State) : (pcsCount p x s).spine = s.spine := by
  simp [pcsCount, apply_ite State.spine]
@[simp] theorem hear_spine (p : Nat) (x : RxFrame) (s : State) : (hear p x s).spine = s.spine := by
  simp [hear, apply_ite State.spine]
@[simp] theorem receive_spine (p : Nat) (x : RxFrame) (s : State) : (receive p x s).spine = s.spine := by
  simp [receive, apply_ite State.spine]
@[simp] theorem sendDone_spine (p : Nat) (blk : Nat) (s : State) : (sendDone p blk s).spine = s.spine := by
  simp [sendDone, apply_ite State.spine]; (repeat' split) <;> simp [apply_ite State.spine]
@[simp] theorem linkGood_spine (p : Nat) (s : State) : (linkGood p s).spine = s.spine := by
  simp [linkGood, apply_ite State.spine]
@[simp] theorem linkChange_spine (p : Nat) (lock : Bool) (align : Bool) (fec : Bool) (lf : Bool) (s : State) : (linkChange p lock align fec lf s).spine = s.spine := by
  simp [linkChange, apply_ite State.spine]
@[simp] theorem clockStop_spine (g : Nat) (s : State) : (clockStop g s).spine = s.spine := by
  simp [clockStop, apply_ite State.spine]
@[simp] theorem showTxClk_spine (g : Nat) (s : State) : (showTxClk g s).spine = s.spine := by
  simp [showTxClk, apply_ite State.spine]
@[simp] theorem wrGmode_spine (g : Nat) (v : Word) (s : State) : (wrGmode g v s).spine = s.spine := by
  simp [wrGmode, apply_ite State.spine]
@[simp] theorem wrPrtCfg_spine (p : Nat) (v : Word) (s : State) : (wrPrtCfg p v s).spine = s.spine := by
  simp [wrPrtCfg, apply_ite State.spine]
@[simp] theorem wrFcWm_spine (p : Nat) (v : Word) (s : State) : (wrFcWm p v s).spine = s.spine := by
  simp [wrFcWm, apply_ite State.spine]
@[simp] theorem wrPrtMode_spine (p : Nat) (v : Word) (s : State) : (wrPrtMode p v s).spine = s.spine := by
  simp [wrPrtMode, apply_ite State.spine]
@[simp] theorem modeChange_spine (p : Nat) (s : State) : (modeChange p s).spine = s.spine := by
  simp [modeChange, apply_ite State.spine]
@[simp] theorem pauseTx_spine (p : Nat) (s : State) : (pauseTx p s).spine = s.spine := by
  simp [pauseTx, apply_ite State.spine]; (repeat' split) <;> simp [apply_ite State.spine]
@[simp] theorem pauseRefresh_spine (p : Nat) (s : State) : (pauseRefresh p s).spine = s.spine := by
  simp [pauseRefresh, apply_ite State.spine]
@[simp] theorem pauseExpire_spine (p : Nat) (s : State) : (pauseExpire p s).spine = s.spine := by
  simp [pauseExpire, apply_ite State.spine]; (repeat' split) <;> simp [apply_ite State.spine]
theorem cmdRx_spine (p : Nat) (f : State → State) (s : State) (hf : ∀ x0, (f x0).spine = x0.spine) : ∀ s_, cmdRx p f s = .next s_ → s_.spine = s.spine := by
  intro t h; grind [cmdRx, cmdA_spine]
theorem cmdTx_spine (p : Nat) (f : State → State) (s : State) (hf : ∀ x0, (f x0).spine = x0.spine) : ∀ s_, cmdTx p f s = .next s_ → s_.spine = s.spine := by
  intro t h; grind [cmdTx, cmdT_spine]
theorem execGroupModeWrite_spine (m : Master) (g : Fin 4) (v : Word) (s : State) : ∀ s_, execGroupModeWrite m g v s = .next s_ → s_.spine = s.spine := by
  intro t h; unfold execGroupModeWrite at h; injection h with h; subst h; simp [apply_ite State.bt]
theorem execLinkUp_spine (p : Fin 17) (s : State) : ∀ s_, execLinkUp p s = .next s_ → s_.spine = s.spine := by
  intro t h; grind [execLinkUp, linkGood_spine, cmdRx_spine]
theorem execLinkDown_spine (p : Fin 17) (lock : Bool) (align : Bool) (fec : Bool) (lf : Bool) (s : State) : ∀ s_, execLinkDown p lock align fec lf s = .next s_ → s_.spine = s.spine := by
  intro t h; grind [execLinkDown, linkChange_spine, cmdRx_spine]
theorem execFrameReceive_spine (p : Fin 17) (f : RxFrame) (s : State) : ∀ s_, execFrameReceive p f s = .next s_ → s_.spine = s.spine := by
  intro t h; unfold execFrameReceive at h; injection h with h; subst h; (repeat' split) <;> simp [apply_ite State.bt]
theorem execPauseReceive_spine (p : Fin 17) (time : BitVec 16) (s : State) : ∀ s_, execPauseReceive p time s = .next s_ → s_.spine = s.spine := by
  intro t h; unfold execPauseReceive at h; injection h with h; subst h; (repeat' split) <;> simp [apply_ite State.bt]
theorem execPartnerPauseExpire_spine (p : Fin 16) (s : State) : ∀ s_, execPartnerPauseExpire p s = .next s_ → s_.spine = s.spine := by
  intro t h; grind [execPartnerPauseExpire, pauseExpire_spine, cmdTx_spine]
theorem execPauseRefresh_spine (p : Fin 16) (s : State) : ∀ s_, execPauseRefresh p s = .next s_ → s_.spine = s.spine := by
  intro t h; grind [execPauseRefresh, pauseRefresh_spine, cmdTx_spine]
theorem execPauseTransmit_spine (p : Fin 16) (s : State) : ∀ s_, execPauseTransmit p s = .next s_ → s_.spine = s.spine := by
  intro t h; grind [execPauseTransmit, pauseTx_spine, cmdTx_spine]
theorem execModeWrite_spine (m : Master) (p : Fin 16) (v : Word) (s : State) : ∀ s_, execModeWrite m p v s = .next s_ → s_.spine = s.spine := by
  intro t h; unfold execModeWrite at h; injection h with h; subst h; simp [apply_ite State.bt]
theorem execModeActChange_spine (p : Fin 16) (s : State) : ∀ s_, execModeActChange p s = .next s_ → s_.spine = s.spine := by
  intro t h; unfold execModeActChange at h; injection h with h; subst h; (repeat' split) <;> simp [apply_ite State.bt]
theorem execTxClockStop_spine (g : Fin 4) (s : State) : ∀ s_, execTxClockStop g s = .next s_ → s_.spine = s.spine := by
  intro t h; grind [execTxClockStop, cmdA_spine, clockStop_spine]
theorem execTxClockStart_spine (g : Fin 4) (s : State) : ∀ s_, execTxClockStart g s = .next s_ → s_.spine = s.spine := by
  intro t h; grind [execTxClockStart, cmdA_spine, showTxClk_spine]
theorem execFrameTransmit_spine (p : Fin 17) (blk : DWord) (s : State) : ∀ s_, execFrameTransmit p blk s = .next s_ → s_.spine = s.spine := by
  intro t h; grind [execFrameTransmit, sendDone_spine, cmdTx_spine]
theorem execEsmcReceive_spine (p : Fin 16) (data : List Byte) (s : State) : ∀ s_, execEsmcReceive p data s = .next s_ → s_.spine = s.spine := by
  intro t h; unfold execEsmcReceive at h; injection h with h; subst h; (repeat' split) <;> simp [apply_ite State.bt]
theorem execEsmcInfoTransmit_spine (p : Fin 16) (s : State) : ∀ s_, execEsmcInfoTransmit p s = .next s_ → s_.spine = s.spine := by
  intro t h; grind [execEsmcInfoTransmit, esmcInfo_spine, cmdTx_spine]
theorem execEsmcEventTransmit_spine (p : Fin 16) (s : State) : ∀ s_, execEsmcEventTransmit p s = .next s_ → s_.spine = s.spine := by
  intro t h; grind [execEsmcEventTransmit, esmcEvent_spine, cmdTx_spine]
theorem execRemoteFault_spine (p : Fin 17) (on : Bool) (s : State) : ∀ s_, execRemoteFault p on s = .next s_ → s_.spine = s.spine := by
  intro t h; grind [execRemoteFault, State.setRb_spine, cmdRx_spine]

/-! ### Bdr -/

@[simp] theorem bdrPlace_spine (a : BT80) (c : ChangeParts) (s : State) : (bdrPlace a c s).spine = s.spine := by
  simp [bdrPlace, apply_ite State.spine]
@[simp] theorem bdrCommitNow_spine (p : CommitPart) (s0 : State) : (bdrCommitNow p s0).spine = s0.spine := by
  have h : (p.store s0).spine = s0.spine := by cases p <;> simp [CommitPart.store]
  unfold bdrCommitNow
  rw [← h]
  generalize p.store s0 = s
  dsimp only
  (repeat' split) <;> simp
@[simp] theorem bdrCommitBy_spine (m : Master) (p : CommitPart) (s : State) : (bdrCommitBy m p s).spine = s.spine := by
  simp [bdrCommitBy, apply_ite State.spine]
@[simp] theorem bdrCommit_spine (m : Master) (p : CommitPart) (s : State) : (bdrCommit m p s).spine = s.spine := by
  simp [bdrCommit, apply_ite State.spine]
@[simp] theorem bdrReleaseOne_spine (s : State) : (bdrReleaseOne s).spine = s.spine := by
  simp [bdrReleaseOne, apply_ite State.spine]; (repeat' split) <;> simp [apply_ite State.spine]
@[simp] theorem wrRateHi_spine (m : Master) (v : Word) (s : State) : (wrRateHi m v s).spine = s.spine := by
  simp [wrRateHi, apply_ite State.spine]
@[simp] theorem wrStepHi_spine (m : Master) (v : Word) (s : State) : (wrStepHi m v s).spine = s.spine := by
  simp [wrStepHi, apply_ite State.spine]
@[simp] theorem wrSlewHi_spine (m : Master) (v : Word) (s : State) : (wrSlewHi m v s).spine = s.spine := by
  simp [wrSlewHi, apply_ite State.spine]
@[simp] theorem slewAbort_spine (m : Master) (s : State) : (slewAbort m s).spine = s.spine := by
  simp [slewAbort, apply_ite State.spine]
@[simp] theorem bdrCapture_spine (s : State) : (bdrCapture s).spine = s.spine := by
  simp [bdrCapture, apply_ite State.spine]
@[simp] theorem wrBdrCmd_spine (m : Master) (v : Word) (s : State) : (wrBdrCmd m v s).spine = s.spine := by
  simp [wrBdrCmd, apply_ite State.spine]
@[simp] theorem wrCvtHi_spine (m : Master) (v : Word) (s : State) : (wrCvtHi m v s).spine = s.spine := by
  simp [wrCvtHi, apply_ite State.spine]
@[simp] theorem wrUtcOfs_spine (v : Word) (s : State) : (wrUtcOfs v s).spine = s.spine := by
  simp [wrUtcOfs, apply_ite State.spine]
theorem execRateCommit_spine (m : Master) (v : Word) (s : State) : ∀ s_, execRateCommit m v s = .next s_ → s_.spine = s.spine := by
  intro t h; unfold execRateCommit at h; injection h with h; subst h; simp [apply_ite State.bt]
theorem execStepCommit_spine (m : Master) (v : Word) (s : State) : ∀ s_, execStepCommit m v s = .next s_ → s_.spine = s.spine := by
  intro t h; unfold execStepCommit at h; injection h with h; subst h; simp [apply_ite State.bt]
theorem execSlewCommit_spine (m : Master) (v : Word) (s : State) : ∀ s_, execSlewCommit m v s = .next s_ → s_.spine = s.spine := by
  intro t h; unfold execSlewCommit at h; injection h with h; subst h; simp [apply_ite State.bt]
theorem execSlewAbort_spine (m : Master) (v : Word) (s : State) : ∀ s_, execSlewAbort m v s = .next s_ → s_.spine = s.spine := by
  intro t h; unfold execSlewAbort at h; injection h with h; subst h; simp [apply_ite State.bt]
theorem execBdrCapture_spine (m : Master) (v : Word) (s : State) : ∀ s_, execBdrCapture m v s = .next s_ → s_.spine = s.spine := by
  intro t h; unfold execBdrCapture at h; injection h with h; subst h; simp [apply_ite State.bt]
theorem execBdrConvert_spine (m : Master) (v : Word) (s : State) : ∀ s_, execBdrConvert m v s = .next s_ → s_.spine = s.spine := by
  intro t h; unfold execBdrConvert at h; injection h with h; subst h; simp [apply_ite State.bt]
theorem execUtcOfsWrite_spine (m : Master) (v : Word) (s : State) : ∀ s_, execUtcOfsWrite m v s = .next s_ → s_.spine = s.spine := by
  intro t h; unfold execUtcOfsWrite at h; injection h with h; subst h; simp [apply_ite State.bt]

/-! ### Anchor -/

@[simp] theorem slewFinish_spine (s : State) : (slewFinish s).spine = s.spine := by
  simp [slewFinish, apply_ite State.spine]
@[simp] theorem stepEffect_spine (v : WT96) (s : State) : (stepEffect v s).spine = s.spine := by
  simp [stepEffect, apply_ite State.spine]
@[simp] theorem placeQueued_spine (s : State) : (placeQueued s).spine = s.spine := by
  simp [placeQueued, apply_ite State.spine]; (repeat' split) <;> simp [apply_ite State.spine]
@[simp] theorem changeAnchor_spine (s0 : State) : (changeAnchor s0).spine = s0.spine := by
  unfold changeAnchor
  split
  · rfl
  · split
    · rfl
    · extract_lets src1 s dur p q changed hist src2 s1 s2 s3 s4 s5
      have h1 : s1.spine = s0.spine := by
        have h0 : s.spine = s0.spine := by simp only [s]; split <;> simp
        exact (State.mk_spine.trans (State.spine_eta s)).trans h0
      have h2 : s2.spine = s1.spine := by simp only [s2]; split <;> simp
      have h3 : s3.spine = s2.spine := by simp only [s3]; split <;> simp
      have h4 : s4.spine = s3.spine := by simp only [s4]; split <;> (try split) <;> simp
      have h5 : s5.spine = s4.spine := by simp only [s5]; split <;> simp
      rw [placeQueued_spine, apply_ite State.spine, storeWrite_spine, ite_self, h5, h4, h3, h2, h1]
theorem execChangeAnchor_spine (s : State) : ∀ s_, execChangeAnchor s = .next s_ → s_.spine = s.spine := by
  intro t h; unfold execChangeAnchor at h; injection h with h; subst h; (repeat' split) <;> simp [apply_ite State.bt]
theorem execSlewEnd_spine (s : State) : ∀ s_, execSlewEnd s = .next s_ → s_.spine = s.spine := by
  intro t h; unfold execSlewEnd at h; injection h with h; subst h; (repeat' split) <;> simp [apply_ite State.bt]
theorem execBdrParamFault_spine (s : State) : ∀ s_, execBdrParamFault s = .next s_ → s_.spine = s.spine := by
  intro t h; unfold execBdrParamFault at h; injection h with h; subst h; (repeat' split) <;> simp [apply_ite State.bt]

/-! ### Asy -/

@[simp] theorem asyCommitNow_spine (p : AsyParts) (s : State) : (asyCommitNow p s).spine = s.spine := by
  simp [asyCommitNow, apply_ite State.spine]; (repeat' split) <;> simp [apply_ite State.spine]
@[simp] theorem wrAsyCmd_spine (v : Word) (s : State) : (wrAsyCmd v s).spine = s.spine := by
  simp [wrAsyCmd, apply_ite State.spine]
@[simp] theorem asyReleaseOne_spine (s : State) : (asyReleaseOne s).spine = s.spine := by
  simp [asyReleaseOne, apply_ite State.spine]; (repeat' split) <;> simp [apply_ite State.spine]
@[simp] theorem wrAsyStaged_spine (off : Nat) (v : Word) (s : State) : (wrAsyStaged off v s).spine = s.spine := by
  simp [wrAsyStaged, apply_ite State.spine]
@[simp] theorem asyPlaceQueued_spine (s : State) : (asyPlaceQueued s).spine = s.spine := by
  simp [asyPlaceQueued, apply_ite State.spine]; (repeat' split) <;> simp [apply_ite State.spine]
@[simp] theorem bdrFirst_spine (s : State) : (bdrFirst s).spine = s.spine := by
  simp [bdrFirst, apply_ite State.spine]; (repeat' split) <;> simp [apply_ite State.spine]
@[simp] theorem asyAnchor_spine (s0 : State) : (asyAnchor s0).spine = s0.spine := by
  simp [asyAnchor, apply_ite State.spine]; (repeat' split) <;> simp [apply_ite State.spine]
@[simp] theorem updateTimeout_spine (s : State) : (updateTimeout s).spine = s.spine := by
  simp [updateTimeout, apply_ite State.spine]; (repeat' split) <;> simp [apply_ite State.spine]
@[simp] theorem limitExceeded_spine (s : State) : (limitExceeded s).spine = s.spine := by
  simp [limitExceeded, apply_ite State.spine]
@[simp] theorem holdoverExpire_spine (s : State) : (holdoverExpire s).spine = s.spine := by
  simp [holdoverExpire, apply_ite State.spine]; (repeat' split) <;> simp [apply_ite State.spine]
@[simp] theorem tempSample_spine (x : Option (BitVec 16)) (s : State) : (tempSample x s).spine = s.spine := by
  simp [tempSample, apply_ite State.spine]; (repeat' split) <;> simp [apply_ite State.spine]
@[simp] theorem tempLost_spine (s : State) : (tempLost s).spine = s.spine := by
  simp [tempLost, apply_ite State.spine]
@[simp] theorem rdAsyE_spine (m : Master) (s : State) : (rdAsyE m s).2.spine = s.spine := by
  simp [rdAsyE, apply_ite State.spine]
@[simp] theorem recordPeriodic_spine (s : State) : (recordPeriodic s).spine = s.spine := by
  simp [recordPeriodic, apply_ite State.spine]
@[simp] theorem wrRecCtrl_spine (v : Word) (s : State) : (wrRecCtrl v s).spine = s.spine := by
  simp [wrRecCtrl, apply_ite State.spine]
@[simp] theorem wrRecSeq_spine (m : Master) (v : Word) (s : State) : (wrRecSeq m v s).spine = s.spine := by
  simp [wrRecSeq, apply_ite State.spine]
@[simp] theorem ringCopy_spine (body : List Byte) (s : State) : (ringCopy body s).spine = s.spine := by
  simp [ringCopy, apply_ite State.spine]
@[simp] theorem hostCopy_spine (body : List Byte) (s : State) : (hostCopy body s).spine = s.spine := by
  simp [hostCopy, apply_ite State.spine]
@[simp] theorem drainSigned_spine (a0 : Nat) (a1 : State) : (drainSigned a0 a1).spine = a1.spine := by
  fun_induction drainSigned a0 a1 <;> (first | rfl | (simp_all [apply_ite State.spine]; done) | grind [raiseEvt_spine, State.setStage_spine, ringCopy_spine, hostCopy_spine])
@[simp] theorem wrStgDone_spine (v : Word) (s : State) : (wrStgDone v s).spine = s.spine := by
  simp [wrStgDone, apply_ite State.spine]; (repeat' split) <;> simp [apply_ite State.spine]
@[simp] theorem recordStall_spine (s : State) : (recordStall s).spine = s.spine := by
  simp [recordStall, apply_ite State.spine]
theorem execAsyCommit_spine (m : Master) (v : Word) (s : State) : ∀ s_, execAsyCommit m v s = .next s_ → s_.spine = s.spine := by
  intro t h; unfold execAsyCommit at h; injection h with h; subst h; simp [apply_ite State.bt]
theorem execAsyUpdate_spine (m : Master) (v : Word) (s : State) : ∀ s_, execAsyUpdate m v s = .next s_ → s_.spine = s.spine := by
  intro t h; unfold execAsyUpdate at h; injection h with h; subst h; simp [apply_ite State.bt]
theorem execSetCoarse_spine (m : Master) (v : Word) (s : State) : ∀ s_, execSetCoarse m v s = .next s_ → s_.spine = s.spine := by
  intro t h; unfold execSetCoarse at h; injection h with h; subst h; simp [apply_ite State.bt]
theorem execDeclareTraceable_spine (m : Master) (v : Word) (s : State) : ∀ s_, execDeclareTraceable m v s = .next s_ → s_.spine = s.spine := by
  intro t h; unfold execDeclareTraceable at h; injection h with h; subst h; simp [apply_ite State.bt]
theorem execDeclareUntraceable_spine (m : Master) (v : Word) (s : State) : ∀ s_, execDeclareUntraceable m v s = .next s_ → s_.spine = s.spine := by
  intro t h; unfold execDeclareUntraceable at h; injection h with h; subst h; simp [apply_ite State.bt]
theorem execAsyChangeAnchor_spine (s : State) : ∀ s_, execAsyChangeAnchor s = .next s_ → s_.spine = s.spine := by
  intro t h; unfold execAsyChangeAnchor at h; injection h with h; subst h; (repeat' split) <;> simp [apply_ite State.bt]
theorem execUpdateTimeout_spine (s : State) : ∀ s_, execUpdateTimeout s = .next s_ → s_.spine = s.spine := by
  intro t h; unfold execUpdateTimeout at h; injection h with h; subst h; (repeat' split) <;> simp [apply_ite State.bt]
theorem execHoldoverLimitExceeded_spine (s : State) : ∀ s_, execHoldoverLimitExceeded s = .next s_ → s_.spine = s.spine := by
  intro t h; unfold execHoldoverLimitExceeded at h; injection h with h; subst h; (repeat' split) <;> simp [apply_ite State.bt]
theorem execHoldoverMaxExpire_spine (s : State) : ∀ s_, execHoldoverMaxExpire s = .next s_ → s_.spine = s.spine := by
  intro t h; unfold execHoldoverMaxExpire at h; injection h with h; subst h; (repeat' split) <;> simp [apply_ite State.bt]
theorem execTempSample_spine (x : Option (BitVec 16)) (s : State) : ∀ s_, execTempSample x s = .next s_ → s_.spine = s.spine := by
  intro t h; unfold execTempSample at h; injection h with h; subst h; (repeat' split) <;> simp [apply_ite State.bt]
theorem execTempLost_spine (s : State) : ∀ s_, execTempLost s = .next s_ → s_.spine = s.spine := by
  intro t h; unfold execTempLost at h; injection h with h; subst h; (repeat' split) <;> simp [apply_ite State.bt]
theorem execAsyERead_spine (m : Master) (s : State) : ∀ s_, execAsyERead m s = .next s_ → s_.spine = s.spine := by
  intro t h; unfold execAsyERead at h; injection h with h; subst h; simp [apply_ite State.bt]
theorem execRecordPeriodic_spine (s : State) : ∀ s_, execRecordPeriodic s = .next s_ → s_.spine = s.spine := by
  intro t h; unfold execRecordPeriodic at h; injection h with h; subst h; (repeat' split) <;> simp [apply_ite State.bt]
theorem execRecordSigned_spine (m : Master) (v : Word) (s : State) : ∀ s_, execRecordSigned m v s = .next s_ → s_.spine = s.spine := by
  intro t h; unfold execRecordSigned at h; injection h with h; subst h; simp [apply_ite State.bt]
theorem execRecordStall_spine (s : State) : ∀ s_, execRecordStall s = .next s_ → s_.spine = s.spine := by
  intro t h; unfold execRecordStall at h; injection h with h; subst h; (repeat' split) <;> simp [apply_ite State.bt]
theorem execRecordEnableWrite_spine (m : Master) (v : Word) (s : State) : ∀ s_, execRecordEnableWrite m v s = .next s_ → s_.spine = s.spine := by
  intro t h; unfold execRecordEnableWrite at h; injection h with h; subst h; simp [apply_ite State.bt]
theorem execAsyStoreFault_spine (s : State) : ∀ s_, execAsyStoreFault s = .next s_ → s_.spine = s.spine := by
  intro t h; unfold execAsyStoreFault at h; injection h with h; subst h; (repeat' split) <;> simp [apply_ite State.bt]

/-! ### Cry -/

@[simp] theorem cryTake_spine (k : Nat) (desc : List Byte) (s : State) : (cryTake k desc s).2.spine = s.spine := by
  simp [cryTake, apply_ite State.spine]; (repeat' split) <;> simp [apply_ite State.spine]
@[simp] theorem cryRead_spine (th : Nat) (user : Bool) (a : Nat) (n : Nat) (s : State) : (cryRead th user a n s).2.spine = s.spine := by
  grind [cryRead, memRead_spine]
@[simp] theorem cryWrite_spine (th : Nat) (user : Bool) (a : Nat) (l : List Byte) (s : State) : (cryWrite th user a l s).2.spine = s.spine := by
  grind [cryWrite, memWrite_spine]
@[simp] theorem cryKey_spine (d : CryDesc) (inl : List Byte) (s : State) : (cryKey d inl s).2.spine = s.spine := by
  grind [cryKey, subkey_spine, cookieKey_spine, saKey_spine]
@[simp] theorem cryRun_spine (op : CryOp) (d : CryDesc) (s : State) : (cryRun op d s).2.spine = s.spine := by
  dsimp only [cryRun]; (repeat' split) <;> first | (simp_all [apply_ite State.spine]; done) | grind [State.count_spine, drbg_spine, cryRead_spine, cryWrite_spine, cryKey_spine]
@[simp] theorem cryDone_spine (op : CryOp) (d : CryDesc) (st : CryStatus) (s : State) : (cryDone op d st s).spine = s.spine := by
  simp [cryDone, apply_ite State.spine]
@[simp] theorem cryPart_spine (op : CryOp) (d : CryDesc) (s : State) : (cryPart op d s).spine = s.spine := by
  simp [cryPart, apply_ite State.spine]
@[simp] theorem cryComplete_spine (k : Nat) (num : Nat) (memErr : Bool) (s : State) : (cryComplete k num memErr s).spine = s.spine := by
  dsimp only [cryComplete]; (repeat' split) <;> first | (simp_all [apply_ite State.spine]; done) | grind [fault_spine, cryRun_spine, cryDone_spine, cryPart_spine]
@[simp] theorem drbgTimeout_spine (s : State) : (drbgTimeout s).spine = s.spine := by
  dsimp only [drbgTimeout]; (repeat' (first | (simp [apply_ite State.spine]; done) | split | (refine (foldl_spine ?_).trans ?_; intro _ _) | (refine (forN_spine ?_).trans ?_; intro _ _) | (refine (forEach_spine ?_).trans ?_; intro _ _) | (refine (foldl_spine1 ?_).trans ?_; intro _ _) | (refine (foldl_spine2 ?_).trans ?_; intro _ _) | (simp_all [apply_ite State.spine]; done) | grind [State.count_spine, cryDone_spine] | (simp; grind [State.mk_spine, State.spine_eta, State.count_spine, cryDone_spine])))
theorem execCryptoComplete_spine (e : Fin 512) (t : Fin 4) (num : BitVec 16) (memErr : Bool) (s : State) : ∀ s_, execCryptoComplete e t num memErr s = .next s_ → s_.spine = s.spine := by
  intro t h; unfold execCryptoComplete at h; injection h with h; subst h; (repeat' split) <;> simp [apply_ite State.bt]
theorem execDrbgWaitTimeout_spine (s : State) : ∀ s_, execDrbgWaitTimeout s = .next s_ → s_.spine = s.spine := by
  intro t h; unfold execDrbgWaitTimeout at h; injection h with h; subst h; (repeat' split) <;> simp [apply_ite State.bt]

/-! ### Ddr -/

@[simp] theorem State.setDdrC_spine (s : State) (ch : Nat) (x : Ddr) : (State.setDdrC s ch x).spine = s.spine := by
  simp [State.setDdrC, apply_ite State.spine]
@[simp] theorem wrDdrCmd_spine (ch : Nat) (v : Word) (s : State) : (wrDdrCmd ch v s).spine = s.spine := by
  simp [wrDdrCmd, apply_ite State.spine]
@[simp] theorem ddrZero_spine (ch : Nat) (s : State) : (ddrZero ch s).spine = s.spine := by
  simp [ddrZero, apply_ite State.spine]
@[simp] theorem ddrTrained_spine (ch : Nat) (s : State) : (ddrTrained ch s).spine = s.spine := by
  simp [ddrTrained, apply_ite State.spine]
@[simp] theorem retirePage_spine (ch : Nat) (page : Nat) (s : State) : (retirePage ch page s).spine = s.spine := by
  simp [retirePage, apply_ite State.spine]; (repeat' split) <;> simp [apply_ite State.spine]
@[simp] theorem ddrCe_spine (ch : Nat) (page : Nat) (s : State) : (ddrCe ch page s).spine = s.spine := by
  simp [ddrCe, apply_ite State.spine]; (repeat' split) <;> simp [apply_ite State.spine]
@[simp] theorem ddrScrub_spine (ch : Nat) (pages : List (BitVec 24)) (s : State) : (ddrScrub ch pages s).spine = s.spine := by
  simp [ddrScrub, apply_ite State.spine]
theorem execDdrInit_spine (m : Master) (ch : Fin 2) (v : Word) (s : State) : ∀ s_, execDdrInit m ch v s = .next s_ → s_.spine = s.spine := by
  intro t h; unfold execDdrInit at h; injection h with h; subst h; simp [apply_ite State.bt]
theorem execDdrTrained_spine (ch : Fin 2) (s : State) : ∀ s_, execDdrTrained ch s = .next s_ → s_.spine = s.spine := by
  intro t h; unfold execDdrTrained at h; injection h with h; subst h; (repeat' split) <;> simp [apply_ite State.bt]
theorem execScrubNow_spine (m : Master) (ch : Fin 2) (v : Word) (s : State) : ∀ s_, execScrubNow m ch v s = .next s_ → s_.spine = s.spine := by
  intro t h; unfold execScrubNow at h; injection h with h; subst h; simp [apply_ite State.bt]
theorem execDdrScrubPass_spine (ch : Fin 2) (pages : List (BitVec 24)) (s : State) : ∀ s_, execDdrScrubPass ch pages s = .next s_ → s_.spine = s.spine := by
  intro t h; unfold execDdrScrubPass at h; injection h with h; subst h; (repeat' split) <;> simp [apply_ite State.bt]

/-! ### Flt -/

@[simp] theorem faultRise_spine (pg : Nat) (n : Nat) (s : State) : (faultRise pg n s).spine = s.spine := by
  simp [faultRise, apply_ite State.spine]; (repeat' split) <;> simp [apply_ite State.spine]
@[simp] theorem cancelTimer_spine (n : Nat) (s : State) : (cancelTimer n s).spine = s.spine := by
  simp [cancelTimer, apply_ite State.spine]
@[simp] theorem fltAck_spine (n : Nat) (s : State) : (fltAck n s).spine = s.spine := by
  simp [fltAck, apply_ite State.spine]
@[simp] theorem wrFltSrc_spine (n : Nat) (v : Word) (s : State) : (wrFltSrc n v s).spine = s.spine := by
  simp [wrFltSrc, apply_ite State.spine]
@[simp] theorem wrHmask_spine (k : Nat) (v : Word) (s : State) : (wrHmask k v s).spine = s.spine := by
  simp [wrHmask, apply_ite State.spine]
@[simp] theorem wrPmuCfg_spine (k : Nat) (v : Word) (s : State) : (wrPmuCfg k v s).spine = s.spine := by
  simp [wrPmuCfg, apply_ite State.spine]
@[simp] theorem wrPmuCtr_spine (m : Master) (a : Nat) (v : Word) (s : State) : (wrPmuCtr m a v s).spine = s.spine := by
  simp [wrPmuCtr, apply_ite State.spine]; (repeat' split) <;> simp [apply_ite State.spine]
@[simp] theorem wrPmuCtl_spine (v : Word) (s : State) : (wrPmuCtl v s).spine = s.spine := by
  simp [wrPmuCtl, apply_ite State.spine]
@[simp] theorem wrPmuSel_spine (m : Master) (v : Word) (s : State) : (wrPmuSel m v s).spine = s.spine := by
  simp [wrPmuSel, apply_ite State.spine]
@[simp] theorem pmuSnap_spine (s : State) : (pmuSnap s).spine = s.spine := by
  simp [pmuSnap, apply_ite State.spine]
theorem execFaultRise_spine (page : BAddr) (n : Fin 32) (s : State) : ∀ s_, execFaultRise page n s = .next s_ → s_.spine = s.spine := by
  intro t h; unfold execFaultRise at h; injection h with h; subst h; (repeat' split) <;> simp [apply_ite State.bt]
theorem execEscalated_spine (n : Fin 384) (s : State) : ∀ s_, execEscalated n s = .next s_ → s_.spine = s.spine := by
  intro t h; unfold execEscalated at h; injection h with h; subst h; (repeat' split) <;> simp [apply_ite State.bt]
theorem execFaultAck_spine (m : Master) (n : Fin 384) (v : Word) (s : State) : ∀ s_, execFaultAck m n v s = .next s_ → s_.spine = s.spine := by
  intro t h; unfold execFaultAck at h; injection h with h; subst h; simp [apply_ite State.bt]
theorem execFaultSeverityWrite_spine (m : Master) (n : Fin 384) (v : Word) (s : State) : ∀ s_, execFaultSeverityWrite m n v s = .next s_ → s_.spine = s.spine := by
  intro t h; unfold execFaultSeverityWrite at h; injection h with h; subst h; simp [apply_ite State.bt]
theorem execHmaskWrite_spine (m : Master) (k : Fin 16) (v : Word) (s : State) : ∀ s_, execHmaskWrite m k v s = .next s_ → s_.spine = s.spine := by
  intro t h; unfold execHmaskWrite at h; injection h with h; subst h; simp [apply_ite State.bt]
theorem execPmuCounterHiWrite_spine (m : Master) (addr : BAddr) (v : Word) (s : State) : ∀ s_, execPmuCounterHiWrite m addr v s = .next s_ → s_.spine = s.spine := by
  intro t h; unfold execPmuCounterHiWrite at h; injection h with h; subst h; simp [apply_ite State.bt]
theorem execClrAll_spine (m : Master) (v : Word) (s : State) : ∀ s_, execClrAll m v s = .next s_ → s_.spine = s.spine := by
  intro t h; unfold execClrAll at h; injection h with h; subst h; simp [apply_ite State.bt]

/-! ### Geo -/

@[simp] theorem showWake_spine (s : State) : (showWake s).spine = s.spine := by
  simp [showWake, apply_ite State.spine]
@[simp] theorem geoSend_spine (off : Nat) (val : Nat) (s : State) : (geoSend off val s).spine = s.spine := by
  simp [geoSend, apply_ite State.spine]
@[simp] theorem wrGeo_spine (m : Master) (a : Nat) (v : Word) (s : State) : (wrGeo m a v s).spine = s.spine := by
  simp [wrGeo, apply_ite State.spine]
@[simp] theorem geoStat_spine (v : Word) (s : State) : (geoStat v s).spine = s.spine := by
  simp [geoStat, apply_ite State.spine]
@[simp] theorem geoApply_spine (off : Nat) (val : Nat) (s : State) : (geoApply off val s).spine = s.spine := by
  simp [geoApply, apply_ite State.spine]
@[simp] theorem geoLand_spine (s : State) : (geoLand s).spine = s.spine := by
  simp [geoLand, apply_ite State.spine]; (repeat' split) <;> simp [apply_ite State.spine]
@[simp] theorem geoSecond_spine (s : State) : (geoSecond s).spine = s.spine := by
  simp [geoSecond, apply_ite State.spine]
@[simp] theorem geoTrim_spine (s : State) : (geoTrim s).spine = s.spine := by
  simp [geoTrim, apply_ite State.spine]
@[simp] theorem geoAlarm_spine (s : State) : (geoAlarm s).spine = s.spine := by
  simp [geoAlarm, apply_ite State.spine]
@[simp] theorem geoTamper_spine (i : Nat) (level : Bool) (s : State) : (geoTamper i level s).spine = s.spine := by
  simp [geoTamper, apply_ite State.spine]
@[simp] theorem geoPor_spine (s : State) : (geoPor s).spine = s.spine := by
  simp [geoPor, apply_ite State.spine]
@[simp] theorem xtalStop_spine (s : State) : (xtalStop s).spine = s.spine := by
  simp [xtalStop, apply_ite State.spine]
@[simp] theorem geoTimeRead_spine (s : State) : (geoTimeRead s).2.spine = s.spine := by
  simp [geoTimeRead, apply_ite State.spine]
theorem execGeoWriteLand_spine (s : State) : ∀ s_, execGeoWriteLand s = .next s_ → s_.spine = s.spine := by
  intro t h; simp [execGeoWriteLand] at h; subst h; simp
theorem execGeoSet_spine (m : Master) (v : Word) (s : State) : ∀ s_, execGeoSet m v s = .next s_ → s_.spine = s.spine := by
  intro t h; unfold execGeoSet at h; injection h with h; subst h; simp [apply_ite State.bt]
theorem execGeoSecond_spine (s : State) : ∀ s_, execGeoSecond s = .next s_ → s_.spine = s.spine := by
  intro t h; simp [execGeoSecond] at h; subst h; simp
theorem execGeoTrimApply_spine (s : State) : ∀ s_, execGeoTrimApply s = .next s_ → s_.spine = s.spine := by
  intro t h; simp [execGeoTrimApply] at h; subst h; simp
theorem execGeoAlarm_spine (s : State) : ∀ s_, execGeoAlarm s = .next s_ → s_.spine = s.spine := by
  intro t h; simp [execGeoAlarm] at h; subst h; simp
theorem execTamper_spine (i : Fin 2) (level : Bool) (s : State) : ∀ s_, execTamper i level s = .next s_ → s_.spine = s.spine := by
  intro t h; simp [execTamper] at h; subst h; simp
theorem execTamperClear_spine (m : Master) (v : Word) (s : State) : ∀ s_, execTamperClear m v s = .next s_ → s_.spine = s.spine := by
  intro t h; unfold execTamperClear at h; injection h with h; subst h; simp [apply_ite State.bt]
theorem execGeoPowerOnReset_spine (s : State) : ∀ s_, execGeoPowerOnReset s = .next s_ → s_.spine = s.spine := by
  intro t h; simp [execGeoPowerOnReset] at h; subst h; simp
theorem execXtalStop_spine (s : State) : ∀ s_, execXtalStop s = .next s_ → s_.spine = s.spine := by
  intro t h; unfold execXtalStop at h; injection h with h; subst h; (repeat' split) <;> simp [apply_ite State.bt]

/-! ### Lsp -/

@[simp] theorem wrQspiCmd_spine (v : Word) (s : State) : (wrQspiCmd v s).spine = s.spine := by
  simp [wrQspiCmd, apply_ite State.spine]
@[simp] theorem qspiDone_spine (data : List Byte) (s : State) : (qspiDone data s).spine = s.spine := by
  simp [qspiDone, apply_ite State.spine]; (repeat' split) <;> simp [apply_ite State.spine]
@[simp] theorem wrI2cXfer_spine (i : Nat) (v : Word) (s : State) : (wrI2cXfer i v s).spine = s.spine := by
  simp [wrI2cXfer, apply_ite State.spine]
@[simp] theorem i2cDone_spine (i : Nat) (nack : Bool) (arb : Bool) (tmo : Bool) (data : List Byte) (s : State) : (i2cDone i nack arb tmo data s).spine = s.spine := by
  simp [i2cDone, apply_ite State.spine]; (repeat' split) <;> simp [apply_ite State.spine]
@[simp] theorem State.setUart_spine (s : State) (u : Nat) (x : Uart) : (State.setUart s u x).spine = s.spine := by
  simp [State.setUart, apply_ite State.spine]
@[simp] theorem wrUartTx_spine (u : Nat) (v : Word) (s : State) : (wrUartTx u v s).spine = s.spine := by
  simp [wrUartTx, apply_ite State.spine]
@[simp] theorem uartDrain_spine (u : Nat) (s : State) : (uartDrain u s).spine = s.spine := by
  simp [uartDrain, apply_ite State.spine]; (repeat' split) <;> simp [apply_ite State.spine]
@[simp] theorem uartReceive_spine (u : Nat) (ch : Byte) (fe : Bool) (pe : Bool) (brk : Bool) (s : State) : (uartReceive u ch fe pe brk s).spine = s.spine := by
  simp [uartReceive, apply_ite State.spine]
@[simp] theorem uartRead_spine (u : Nat) (s : State) : (uartRead u s).2.spine = s.spine := by
  simp [uartRead, apply_ite State.spine]; (repeat' split) <;> simp [apply_ite State.spine]
@[simp] theorem gpioShow_spine (old : State) (s : State) : (gpioShow old s).spine = s.spine := by
  dsimp only [gpioShow]; (repeat' (first | (simp [apply_ite State.spine]; done) | split | (refine (foldl_spine ?_).trans ?_; intro _ _) | (refine (forN_spine ?_).trans ?_; intro _ _) | (refine (forEach_spine ?_).trans ?_; intro _ _) | (refine (foldl_spine1 ?_).trans ?_; intro _ _) | (refine (foldl_spine2 ?_).trans ?_; intro _ _) | (simp_all [apply_ite State.spine]; done) | grind [State.emit_spine] | (simp; grind [State.mk_spine, State.spine_eta, State.emit_spine])))
@[simp] theorem gpioEdge_spine (g : Nat) (level : Bool) (s : State) : (gpioEdge g level s).spine = s.spine := by
  simp [gpioEdge, apply_ite State.spine]; (repeat' split) <;> simp [apply_ite State.spine]
@[simp] theorem wrInvCmd_spine (v : Word) (s : State) : (wrInvCmd v s).spine = s.spine := by
  simp [wrInvCmd, apply_ite State.spine]
@[simp] theorem invDone_spine (p : List Bool) (b c : List (List Bool)) (s : State) : (invDone p b c s).spine = s.spine := by
  simp [invDone, apply_ite State.spine]
theorem execQspiCommand_spine (m : Master) (v : Word) (s : State) : ∀ s_, execQspiCommand m v s = .next s_ → s_.spine = s.spine := by
  intro t h; unfold execQspiCommand at h; injection h with h; subst h; simp [apply_ite State.bt]
theorem execQspiDone_spine (data : List Byte) (s : State) : ∀ s_, execQspiDone data s = .next s_ → s_.spine = s.spine := by
  intro t h; unfold execQspiDone at h; injection h with h; subst h; (repeat' split) <;> simp [apply_ite State.bt]
theorem execI2cTransfer_spine (m : Master) (i : Fin 4) (v : Word) (s : State) : ∀ s_, execI2cTransfer m i v s = .next s_ → s_.spine = s.spine := by
  intro t h; unfold execI2cTransfer at h; injection h with h; subst h; simp [apply_ite State.bt]
theorem execI2cDone_spine (i : Fin 4) (nack : Bool) (arbLost : Bool) (timeout : Bool) (data : List Byte) (s : State) : ∀ s_, execI2cDone i nack arbLost timeout data s = .next s_ → s_.spine = s.spine := by
  intro t h; unfold execI2cDone at h; injection h with h; subst h; (repeat' split) <;> simp [apply_ite State.bt]
theorem execUartTransmit_spine (m : Master) (u : Fin 4) (v : Word) (s : State) : ∀ s_, execUartTransmit m u v s = .next s_ → s_.spine = s.spine := by
  intro t h; unfold execUartTransmit at h; injection h with h; subst h; simp [apply_ite State.bt]
theorem execUartReceive_spine (u : Fin 4) (ch : Byte) (fe : Bool) (pe : Bool) (brk : Bool) (s : State) : ∀ s_, execUartReceive u ch fe pe brk s = .next s_ → s_.spine = s.spine := by
  intro t h; unfold execUartReceive at h; injection h with h; subst h; (repeat' split) <;> simp [apply_ite State.bt]
theorem execGpioEdge_spine (g : Fin 32) (level : Bool) (s : State) : ∀ s_, execGpioEdge g level s = .next s_ → s_.spine = s.spine := by
  intro t h; unfold execGpioEdge at h; injection h with h; subst h; (repeat' split) <;> simp [apply_ite State.bt]
theorem execInvSearch_spine (m : Master) (v : Word) (s : State) : ∀ s_, execInvSearch m v s = .next s_ → s_.spine = s.spine := by
  intro t h; unfold execInvSearch at h; injection h with h; subst h; simp [apply_ite State.bt]
theorem execInventorySearchDone_spine (p : List Bool) (b c : List (List Bool)) (s : State) : ∀ s_, execInventorySearchDone p b c s = .next s_ → s_.spine = s.spine := by
  intro t h; unfold execInventorySearchDone at h; injection h with h; subst h; (repeat' split) <;> simp [apply_ite State.bt]

/-! ### Mrm -/

@[simp] theorem remapStart_spine (k : Nat) (s : State) : (remapStart k s).spine = s.spine := by
  simp [remapStart, apply_ite State.spine]
@[simp] theorem sectorReadOnly_spine (k : Nat) (s : State) : (sectorReadOnly k s).spine = s.spine := by
  simp [sectorReadOnly, apply_ite State.spine]
@[simp] theorem wearOut_spine (k : Nat) (s : State) : (wearOut k s).spine = s.spine := by
  simp [wearOut, apply_ite State.spine]
@[simp] theorem mramScrub_spine (counts : List (Fin 128 × Byte)) (s : State) : (mramScrub counts s).spine = s.spine := by
  simp [mramScrub, apply_ite State.spine]
@[simp] theorem copySector_spine (src : Nat) (dst : Nat) (s : State) : (copySector src dst s).spine = s.spine := by
  simp [copySector, apply_ite State.spine]
@[simp] theorem remapDone_spine (s : State) : (remapDone s).spine = s.spine := by
  simp [remapDone, apply_ite State.spine]; (repeat' split) <;> simp [apply_ite State.spine]
@[simp] theorem wrMrmCmd_spine (pc : Option DWord) (v : Word) (s : State) : (wrMrmCmd pc v s).spine = s.spine := by
  simp [wrMrmCmd, apply_ite State.spine]
@[simp] theorem journalStart_spine (w : JWrite) (s : State) : (journalStart w s).spine = s.spine := by
  simp [journalStart, apply_ite State.spine]
@[simp] theorem journalAsk_spine (w : JWrite) (s : State) : (journalAsk w s).spine = s.spine := by
  simp [journalAsk, apply_ite State.spine]
@[simp] theorem journalEnd_spine (s : State) : (journalEnd s).spine = s.spine := by
  simp [journalEnd, apply_ite State.spine]; (repeat' split) <;> simp [apply_ite State.spine]
@[simp] theorem wrJCmd_spine (m : Master) (v : Word) (s : State) : (wrJCmd m v s).spine = s.spine := by
  simp [wrJCmd, apply_ite State.spine]
@[simp] theorem journalBoot_spine (s : State) : (journalBoot s).spine = s.spine := by
  simp [journalBoot, apply_ite State.spine]
theorem execMramScrubPass_spine (counts : List (Fin 128 × Byte)) (s : State) : ∀ s_, execMramScrubPass counts s = .next s_ → s_.spine = s.spine := by
  intro t h; unfold execMramScrubPass at h; injection h with h; subst h; (repeat' split) <;> simp [apply_ite State.bt]
theorem execMramRemapRequest_spine (m : Master) (pc : Option DWord) (v : Word) (s : State) : ∀ s_, execMramRemapRequest m pc v s = .next s_ → s_.spine = s.spine := by
  intro t h; unfold execMramRemapRequest at h; injection h with h; subst h; simp [apply_ite State.bt]
theorem execMramRemapDone_spine (s : State) : ∀ s_, execMramRemapDone s = .next s_ → s_.spine = s.spine := by
  intro t h; unfold execMramRemapDone at h; injection h with h; subst h; (repeat' split) <;> simp [apply_ite State.bt]
theorem execJournalWrite_spine (m : Master) (v : Word) (s : State) : ∀ s_, execJournalWrite m v s = .next s_ → s_.spine = s.spine := by
  intro t h; unfold execJournalWrite at h; injection h with h; subst h; simp [apply_ite State.bt]

/-! ### Pwr -/

@[simp] theorem wrPwrCmd_spine (m : Master) (v : Word) (s : State) : (wrPwrCmd m v s).spine = s.spine := by
  simp [wrPwrCmd, apply_ite State.spine]
@[simp] theorem quiesceDone_spine (s : State) : (quiesceDone s).spine = s.spine := by
  simp [quiesceDone, apply_ite State.spine]
@[simp] theorem avsChange_spine (t : Nat) (s : State) : (avsChange t s).spine = s.spine := by
  simp [avsChange, apply_ite State.spine]
@[simp] theorem resetAssert_spine (s : State) : (resetAssert s).spine = s.spine := by
  simp [resetAssert, apply_ite State.spine]
@[simp] theorem bootImage_spine (flash : List Byte) (s : State) : (bootImage flash s).2.spine = s.spine := by
  simp [bootImage, apply_ite State.spine]; (repeat' split) <;> simp [apply_ite State.spine]
@[simp] theorem bootStart_spine (src : Nat) (s : State) : (bootStart src s).spine = s.spine := by
  simp [bootStart, apply_ite State.spine]
@[simp] theorem bootPrepare_spine (b4 : Bool) (pref : Bool) (s : State) : (bootPrepare b4 pref s).spine = s.spine := by
  simp [bootPrepare, apply_ite State.spine]
@[simp] theorem geoLeave_spine (s : State) : (geoLeave s).spine = s.spine := by
  simp [geoLeave, apply_ite State.spine]
@[simp] theorem boot_spine (b4 : Bool) (pref : Bool) (primary : List Byte) (secondary : List Byte) (s : State) : (boot b4 pref primary secondary s).spine = s.spine := by
  dsimp only [boot]; (repeat' (first | (simp [apply_ite State.spine]; done) | split | (refine (foldl_spine ?_).trans ?_; intro _ _) | (refine (forN_spine ?_).trans ?_; intro _ _) | (refine (forEach_spine ?_).trans ?_; intro _ _) | (refine (foldl_spine1 ?_).trans ?_; intro _ _) | (refine (foldl_spine2 ?_).trans ?_; intro _ _) | (simp_all [apply_ite State.spine]; done) | grind [State.setRf_spine, State.setRb_spine, raiseEvt_spine, bdrLeave_spine, showPin_spine, fault_spine, bootImage_spine, bootStart_spine, bootPrepare_spine, geoLeave_spine] | (simp; grind [State.mk_spine, State.spine_eta, State.setRf_spine, State.setRb_spine, raiseEvt_spine, bdrLeave_spine, showPin_spine, fault_spine, bootImage_spine, bootStart_spine, bootPrepare_spine, geoLeave_spine])))
@[simp] theorem loadEnd_spine (c : Nat) (s : State) : (loadEnd c s).spine = s.spine := by
  simp [loadEnd, apply_ite State.spine]
@[simp] theorem tapReset_spine (s : State) : (tapReset s).spine = s.spine := by
  simp [tapReset, apply_ite State.spine]
theorem execLoadDone_spine (c : Fin 64) (s : State) : ∀ s_, execLoadDone c s = .next s_ → s_.spine = s.spine := by
  intro t h; unfold execLoadDone at h; injection h with h; subst h; (repeat' split) <;> simp [apply_ite State.bt]
theorem execResetNAssert_spine (s : State) : ∀ s_, execResetNAssert s = .next s_ → s_.spine = s.spine := by
  intro t h; simp [execResetNAssert] at h; subst h; simp
theorem execResetRelease_spine (straps : Option (Bool × Bool)) (flash : List Byte × List Byte) (s : State) : ∀ s_, execResetRelease straps flash s = .next s_ → s_.spine = s.spine := by
  intro t h; simp [execResetRelease] at h; subst h; simp
theorem execTapReset_spine (s : State) : ∀ s_, execTapReset s = .next s_ → s_.spine = s.spine := by
  intro t h; unfold execTapReset at h; injection h with h; subst h; (repeat' split) <;> simp [apply_ite State.bt]
theorem execQuiesce_spine (m : Master) (v : Word) (s : State) : ∀ s_, execQuiesce m v s = .next s_ → s_.spine = s.spine := by
  intro t h; unfold execQuiesce at h; injection h with h; subst h; simp [apply_ite State.bt]
theorem execQuiesceEntryDone_spine (s : State) : ∀ s_, execQuiesceEntryDone s = .next s_ → s_.spine = s.spine := by
  intro t h; unfold execQuiesceEntryDone at h; injection h with h; subst h; (repeat' split) <;> simp [apply_ite State.bt]
theorem execPwrRun_spine (m : Master) (v : Word) (s : State) : ∀ s_, execPwrRun m v s = .next s_ → s_.spine = s.spine := by
  intro t h; unfold execPwrRun at h; injection h with h; subst h; simp [apply_ite State.bt]
theorem execPwrChipReset_spine (m : Master) (v : Word) (s : State) : ∀ s_, execPwrChipReset m v s = .next s_ → s_.spine = s.spine := by
  intro t h; unfold execPwrChipReset at h; injection h with h; subst h; simp [apply_ite State.bt]
theorem execAvs_spine (target : BitVec 10) (s : State) : ∀ s_, execAvs target s = .next s_ → s_.spine = s.spine := by
  intro t h; unfold execAvs at h; injection h with h; subst h; (repeat' split) <;> simp [apply_ite State.bt]

/-! ### Ref -/

@[simp] theorem putEntCfg_spine (n : Nat) (v : Word) (s : State) : (putEntCfg n v s).spine = s.spine := by
  simp [putEntCfg, apply_ite State.spine]
@[simp] theorem wrAnnounce_spine (m : Master) (v : Word) (s : State) : (wrAnnounce m v s).spine = s.spine := by
  simp [wrAnnounce, apply_ite State.spine]
@[simp] theorem wrPrio_spine (a : Nat) (v : Word) (s : State) : (wrPrio a v s).spine = s.spine := by
  simp [wrPrio, apply_ite State.spine]
theorem execActivityTimeout_spine (n : Fin 48) (s : State) : ∀ s_, execActivityTimeout n s = .next s_ → s_.spine = s.spine := by
  intro t h; unfold execActivityTimeout at h; injection h with h; subst h; (repeat' split) <;> simp [apply_ite State.bt]
theorem execFrequencyGateEnd_spine (n : Fin 48) (s : State) : ∀ s_, execFrequencyGateEnd n s = .next s_ → s_.spine = s.spine := by
  intro t h; unfold execFrequencyGateEnd at h; injection h with h; subst h; (repeat' split) <;> simp [apply_ite State.bt]
theorem execMessageTimeout_spine (n : Fin 48) (s : State) : ∀ s_, execMessageTimeout n s = .next s_ → s_.spine = s.spine := by
  intro t h; unfold execMessageTimeout at h; injection h with h; subst h; (repeat' split) <;> simp [apply_ite State.bt]
theorem execQualificationTimerExpire_spine (n : Fin 48) (s : State) : ∀ s_, execQualificationTimerExpire n s = .next s_ → s_.spine = s.spine := by
  intro t h; unfold execQualificationTimerExpire at h; injection h with h; subst h; (repeat' split) <;> simp [apply_ite State.bt]
theorem execEntryCfgWrite_spine (m : Master) (n : Fin 48) (v : Word) (s : State) : ∀ s_, execEntryCfgWrite m n v s = .next s_ → s_.spine = s.spine := by
  intro t h; unfold execEntryCfgWrite at h; injection h with h; subst h; simp [apply_ite State.bt]
theorem execAnnounceDelivery_spine (m : Master) (v : Word) (s : State) : ∀ s_, execAnnounceDelivery m v s = .next s_ → s_.spine = s.spine := by
  intro t h; unfold execAnnounceDelivery at h; injection h with h; subst h; simp [apply_ite State.bt]
theorem execTodBinaryFrame_spine (u : Fin 4) (frame : List Byte) (s : State) : ∀ s_, execTodBinaryFrame u frame s = .next s_ → s_.spine = s.spine := by
  intro t h; grind [execTodBinaryFrame, todBytes_spine, cmdE_spine]
theorem execTodFrameTimeout_spine (u : Fin 4) (s : State) : ∀ s_, execTodFrameTimeout u s = .next s_ → s_.spine = s.spine := by
  intro t h; unfold execTodFrameTimeout at h; injection h with h; subst h; (repeat' split) <;> simp [apply_ite State.bt]
theorem execTodNmeaSentence_spine (u : Fin 4) (text : List Byte) (s : State) : ∀ s_, execTodNmeaSentence u text s = .next s_ → s_.spine = s.spine := by
  intro t h; grind [execTodNmeaSentence, todNmea_spine, cmdE_spine]
theorem execTodWindowExpire_spine (u : Fin 4) (s : State) : ∀ s_, execTodWindowExpire u s = .next s_ → s_.spine = s.spine := by
  intro t h; unfold execTodWindowExpire at h; injection h with h; subst h; (repeat' split) <;> simp [apply_ite State.bt]
theorem execRefSelect_spine (m : Master) (l : Fin 8) (v : Word) (s : State) : ∀ s_, execRefSelect m l v s = .next s_ → s_.spine = s.spine := by
  intro t h; unfold execRefSelect at h; injection h with h; subst h; simp [apply_ite State.bt]
theorem execDeselect_spine (m : Master) (l : Fin 8) (v : Word) (s : State) : ∀ s_, execDeselect m l v s = .next s_ → s_.spine = s.spine := by
  intro t h; unfold execDeselect at h; injection h with h; subst h; simp [apply_ite State.bt]
theorem execPrioWrite_spine (m : Master) (l : Fin 8) (b : Bool) (v : Word) (s : State) : ∀ s_, execPrioWrite m l b v s = .next s_ → s_.spine = s.spine := by
  intro t h; unfold execPrioWrite at h; injection h with h; subst h; simp [apply_ite State.bt]
theorem execFallback_spine (l : Fin 8) (s : State) : ∀ s_, execFallback l s = .next s_ → s_.spine = s.spine := by
  intro t h; unfold execFallback at h; injection h with h; subst h; (repeat' split) <;> simp [apply_ite State.bt]
theorem execFallbackRescan_spine (l : Fin 8) (s : State) : ∀ s_, execFallbackRescan l s = .next s_ → s_.spine = s.spine := by
  intro t h; unfold execFallbackRescan at h; injection h with h; subst h; (repeat' split) <;> simp [apply_ite State.bt]
theorem execRefTableFault_spine (s : State) : ∀ s_, execRefTableFault s = .next s_ → s_.spine = s.spine := by
  intro t h; unfold execRefTableFault at h; injection h with h; subst h; (repeat' split) <;> simp [apply_ite State.bt]

/-! ### Syn -/

@[simp] theorem synReject_spine (n : Nat) (code : Nat) (s : State) : (synReject n code s).spine = s.spine := by
  simp [synReject, apply_ite State.spine]
@[simp] theorem synLockCmd_spine (n : Nat) (s : State) : (synLockCmd n s).spine = s.spine := by
  simp [synLockCmd, apply_ite State.spine]; (repeat' split) <;> simp [apply_ite State.spine]
@[simp] theorem synStopCmd_spine (n : Nat) (s : State) : (synStopCmd n s).spine = s.spine := by
  simp [synStopCmd, apply_ite State.spine]
@[simp] theorem synMeasure_spine (n : Nat) (b : Nat) (s : State) : (synMeasure n b s).spine = s.spine := by
  simp [synMeasure, apply_ite State.spine]
@[simp] theorem wrSynCmd_spine (n : Nat) (v : Word) (s : State) : (wrSynCmd n v s).spine = s.spine := by
  simp [wrSynCmd, apply_ite State.spine]
@[simp] theorem synMeasured_spine (n : Nat) (lo : BitVec 24) (hi : BitVec 24) (s : State) : (synMeasured n lo hi s).spine = s.spine := by
  simp [synMeasured, apply_ite State.spine]
@[simp] theorem synAchieved_spine (n : Nat) (s : State) : (synAchieved n s).spine = s.spine := by
  simp [synAchieved, apply_ite State.spine]; (repeat' split) <;> simp [apply_ite State.spine]
@[simp] theorem synLost_spine (n : Nat) (s : State) : (synLost n s).spine = s.spine := by
  simp [synLost, apply_ite State.spine]
@[simp] theorem synTimeout_spine (n : Nat) (s : State) : (synTimeout n s).spine = s.spine := by
  simp [synTimeout, apply_ite State.spine]
@[simp] theorem synLol_spine (n : Nat) (s : State) : (synLol n s).spine = s.spine := by
  simp [synLol, apply_ite State.spine]
@[simp] theorem synRelock_spine (n : Nat) (s : State) : (synRelock n s).spine = s.spine := by
  simp [synRelock, apply_ite State.spine]; (repeat' split) <;> simp [apply_ite State.spine]
@[simp] theorem synStep_spine (n : Nat) (s : State) : (synStep n s).spine = s.spine := by
  simp [synStep, apply_ite State.spine]
@[simp] theorem wrOutCmd_spine (v : Word) (s : State) : (wrOutCmd v s).spine = s.spine := by
  simp [wrOutCmd, apply_ite State.spine]
@[simp] theorem outRestart_spine (n : Nat) (s : State) : (outRestart n s).spine = s.spine := by
  simp [outRestart, apply_ite State.spine]
@[simp] theorem syncDone_spine (s : State) : (syncDone s).spine = s.spine := by
  simp [syncDone, apply_ite State.spine]
@[simp] theorem wrOutCfg_spine (n : Nat) (v : Word) (s : State) : (wrOutCfg n v s).spine = s.spine := by
  simp [wrOutCfg, apply_ite State.spine]
@[simp] theorem ppsDrive_spine (n : Nat) (active : Bool) (b : BT80) (s : State) : (ppsDrive n active b s).spine = s.spine := by
  simp [ppsDrive, apply_ite State.spine]
@[simp] theorem ppsEdge_spine (n : Nat) (s : State) : (ppsEdge n s).spine = s.spine := by
  simp [ppsEdge, apply_ite State.spine]; (repeat' split) <;> simp [apply_ite State.spine]
@[simp] theorem wrPpsCmd_spine (v : Word) (s : State) : (wrPpsCmd v s).spine = s.spine := by
  simp [wrPpsCmd, apply_ite State.spine]
@[simp] theorem ppsHeld_spine (n : Nat) (s : State) : (ppsHeld n s).spine = s.spine := by
  simp [ppsHeld, apply_ite State.spine]
@[simp] theorem wrPpsCfg_spine (n : Nat) (v : Word) (s : State) : (wrPpsCfg n v s).spine = s.spine := by
  simp [wrPpsCfg, apply_ite State.spine]
@[simp] theorem wrPpsOfs_spine (n : Nat) (v : Word) (s : State) : (wrPpsOfs n v s).spine = s.spine := by
  simp [wrPpsOfs, apply_ite State.spine]
@[simp] theorem wrPpsMth_spine (n : Nat) (v : Word) (s : State) : (wrPpsMth n v s).spine = s.spine := by
  simp [wrPpsMth, apply_ite State.spine]
@[simp] theorem ppsSwitch_spine (n : Nat) (s : State) : (ppsSwitch n s).spine = s.spine := by
  simp [ppsSwitch, apply_ite State.spine]
theorem execSynLock_spine (m : Master) (n : Fin 4) (v : Word) (s : State) : ∀ s_, execSynLock m n v s = .next s_ → s_.spine = s.spine := by
  intro t h; unfold execSynLock at h; injection h with h; subst h; simp [apply_ite State.bt]
theorem execSynStop_spine (m : Master) (n : Fin 4) (v : Word) (s : State) : ∀ s_, execSynStop m n v s = .next s_ → s_.spine = s.spine := by
  intro t h; unfold execSynStop at h; injection h with h; subst h; simp [apply_ite State.bt]
theorem execBmeas_spine (m : Master) (n : Fin 4) (v : Word) (s : State) : ∀ s_, execBmeas m n v s = .next s_ → s_.spine = s.spine := by
  intro t h; unfold execBmeas at h; injection h with h; subst h; simp [apply_ite State.bt]
theorem execBmeasDone_spine (n : Fin 4) (lo : BitVec 24) (hi : BitVec 24) (s : State) : ∀ s_, execBmeasDone n lo hi s = .next s_ → s_.spine = s.spine := by
  intro t h; unfold execBmeasDone at h; injection h with h; subst h; (repeat' split) <;> simp [apply_ite State.bt]
theorem execSynLockAchieved_spine (n : Fin 4) (s : State) : ∀ s_, execSynLockAchieved n s = .next s_ → s_.spine = s.spine := by
  intro t h; unfold execSynLockAchieved at h; injection h with h; subst h; (repeat' split) <;> simp [apply_ite State.bt]
theorem execSynLockTimeout_spine (n : Fin 4) (s : State) : ∀ s_, execSynLockTimeout n s = .next s_ → s_.spine = s.spine := by
  intro t h; unfold execSynLockTimeout at h; injection h with h; subst h; (repeat' split) <;> simp [apply_ite State.bt]
theorem execSynLol_spine (n : Fin 4) (s : State) : ∀ s_, execSynLol n s = .next s_ → s_.spine = s.spine := by
  intro t h; unfold execSynLol at h; injection h with h; subst h; (repeat' split) <;> simp [apply_ite State.bt]
theorem execSynRelockAttempt_spine (n : Fin 4) (s : State) : ∀ s_, execSynRelockAttempt n s = .next s_ → s_.spine = s.spine := by
  intro t h; unfold execSynRelockAttempt at h; injection h with h; subst h; (repeat' split) <;> simp [apply_ite State.bt]
theorem execSynSlewStep_spine (n : Fin 4) (s : State) : ∀ s_, execSynSlewStep n s = .next s_ → s_.spine = s.spine := by
  intro t h; unfold execSynSlewStep at h; injection h with h; subst h; (repeat' split) <;> simp [apply_ite State.bt]
theorem execOutputSync_spine (m : Master) (v : Word) (s : State) : ∀ s_, execOutputSync m v s = .next s_ → s_.spine = s.spine := by
  intro t h; unfold execOutputSync at h; injection h with h; subst h; simp [apply_ite State.bt]
theorem execSyncDone_spine (s : State) : ∀ s_, execSyncDone s = .next s_ → s_.spine = s.spine := by
  intro t h; unfold execSyncDone at h; injection h with h; subst h; (repeat' split) <;> simp [apply_ite State.bt]
theorem execOutCfgPar_spine (s : State) : ∀ s_, execOutCfgPar s = .next s_ → s_.spine = s.spine := by
  intro t h; unfold execOutCfgPar at h; injection h with h; subst h; (repeat' split) <;> simp [apply_ite State.bt]
theorem execPpsEdge_spine (n : Fin 4) (s : State) : ∀ s_, execPpsEdge n s = .next s_ → s_.spine = s.spine := by
  intro t h; grind [execPpsEdge, storeWrite_spine, cmdT_spine, ppsEdge_spine]
theorem execPpsAlign_spine (m : Master) (v : Word) (s : State) : ∀ s_, execPpsAlign m v s = .next s_ → s_.spine = s.spine := by
  intro t h; unfold execPpsAlign at h; injection h with h; subst h; simp [apply_ite State.bt]
theorem execPpsCfgWrite_spine (m : Master) (n : Fin 4) (v : Word) (s : State) : ∀ s_, execPpsCfgWrite m n v s = .next s_ → s_.spine = s.spine := by
  intro t h; unfold execPpsCfgWrite at h; injection h with h; subst h; simp [apply_ite State.bt]
theorem execAligned_spine (n : Fin 4) (s : State) : ∀ s_, execAligned n s = .next s_ → s_.spine = s.spine := by
  intro t h; grind [execAligned, storeWrite_spine, cmdT_spine, ppsSwitch_spine]

/-! ### Tdc -/

@[simp] theorem State.setTdcCh_spine (s : State) (c : Nat) (x : TdcCh) : (State.setTdcCh s c x).spine = s.spine := by
  simp [State.setTdcCh, apply_ite State.spine]
@[simp] theorem tdcStore_spine (c : Nat) (b : BT80) (s : State) : (tdcStore c b s).spine = s.spine := by
  simp [tdcStore, apply_ite State.spine]
@[simp] theorem uncount_spine (a : Nat) (s : State) : (uncount a s).spine = s.spine := by
  simp [uncount, apply_ite State.spine]
@[simp] theorem tdcRegain_spine (c : Nat) (s : State) : (tdcRegain c s).spine = s.spine := by
  simp [tdcRegain, apply_ite State.spine]; (repeat' split) <;> simp [apply_ite State.spine]
@[simp] theorem edgeLoops_spine (e : Nat) (k : Nat) (b : BT80) (s : State) : (edgeLoops e k b s).spine = s.spine := by
  simp [edgeLoops, apply_ite State.spine]
@[simp] theorem tdcSeen_spine (n64 : Nat) (e : Nat) (s : State) : (tdcSeen n64 e s).spine = s.spine := by
  simp [tdcSeen, apply_ite State.spine]
@[simp] theorem tdcDeliver_spine (k : Nat) (b : BT80) (e : Nat) (s : State) : (tdcDeliver k b e s).spine = s.spine := by
  simp [tdcDeliver, apply_ite State.spine]
@[simp] theorem tdcCount_spine (c : Nat) (n64 : Nat) (raw9 : Nat) (s : State) : (tdcCount c n64 raw9 s).spine = s.spine := by
  simp [tdcCount, apply_ite State.spine]
@[simp] theorem tdcEdge_spine (src : Nat) (rise : Bool) (n64 : Nat) (raw9 : Nat) (s : State) : (tdcEdge src rise n64 raw9 s).spine = s.spine := by
  simp [tdcEdge, apply_ite State.spine]
@[simp] theorem rdTdcRes_spine (m : Master) (c : Nat) (s : State) : (rdTdcRes m c s).2.spine = s.spine := by
  simp [rdTdcRes, apply_ite State.spine]; (repeat' split) <;> simp [apply_ite State.spine]
@[simp] theorem armCh_spine (c : Nat) (n64 : Nat) (s : State) : (armCh c n64 s).spine = s.spine := by
  simp [armCh, apply_ite State.spine]
@[simp] theorem wrTdcArm_spine (v : Word) (s : State) : (wrTdcArm v s).spine = s.spine := by
  simp [wrTdcArm, apply_ite State.spine]
@[simp] theorem gateSample_spine (g : Nat) (lvl : Bool) (s : State) : (gateSample g lvl s).spine = s.spine := by
  simp [gateSample, apply_ite State.spine]
@[simp] theorem gateEdge_spine (g : Nat) (level : Bool) (s : State) : (gateEdge g level s).spine = s.spine := by
  simp [gateEdge, apply_ite State.spine]
@[simp] theorem wrGateCfg_spine (v : Word) (s : State) : (wrGateCfg v s).spine = s.spine := by
  simp [wrGateCfg, apply_ite State.spine]
@[simp] theorem wrChCfg_spine (c : Nat) (v : Word) (s : State) : (wrChCfg c v s).spine = s.spine := by
  simp [wrChCfg, apply_ite State.spine]
@[simp] theorem wrArmN_spine (c : Nat) (v : Word) (s : State) : (wrArmN c v s).spine = s.spine := by
  simp [wrArmN, apply_ite State.spine]
@[simp] theorem wrTdcGcfg_spine (v : Word) (s : State) : (wrTdcGcfg v s).spine = s.spine := by
  simp [wrTdcGcfg, apply_ite State.spine]
@[simp] theorem wrCalCmd_spine (v : Word) (s : State) : (wrCalCmd v s).spine = s.spine := by
  simp [wrCalCmd, apply_ite State.spine]
@[simp] theorem calEnd_spine (corr : List Byte) (s : State) : (calEnd corr s).spine = s.spine := by
  simp [calEnd, apply_ite State.spine]; (repeat' split) <;> simp [apply_ite State.spine]
@[simp] theorem ocxoRdy_spine (level : Bool) (s : State) : (ocxoRdy level s).spine = s.spine := by
  simp [ocxoRdy, apply_ite State.spine]
theorem execTdcEdge_spine (src : BitVec 6) (rise : Bool) (c : BitVec 64) (raw : BitVec 9) (s : State) : ∀ s_, execTdcEdge src rise c raw s = .next s_ → s_.spine = s.spine := by
  intro t h; unfold execTdcEdge at h; injection h with h; subst h; (repeat' split) <;> simp [apply_ite State.bt]
theorem execTdcResultRead_spine (m : Master) (c : Fin 32) (s : State) : ∀ s_, execTdcResultRead m c s = .next s_ → s_.spine = s.spine := by
  intro t h; unfold execTdcResultRead at h; injection h with h; subst h; simp [apply_ite State.bt]
theorem execTdcArm_spine (m : Master) (v : Word) (s : State) : ∀ s_, execTdcArm m v s = .next s_ → s_.spine = s.spine := by
  intro t h; unfold execTdcArm at h; injection h with h; subst h; simp [apply_ite State.bt]
theorem execTdcGateEdge_spine (g : Fin 4) (level : Bool) (s : State) : ∀ s_, execTdcGateEdge g level s = .next s_ → s_.spine = s.spine := by
  intro t h; unfold execTdcGateEdge at h; injection h with h; subst h; (repeat' split) <;> simp [apply_ite State.bt]
theorem execTdcChannelCfgWrite_spine (m : Master) (c : Fin 32) (v : Word) (s : State) : ∀ s_, execTdcChannelCfgWrite m c v s = .next s_ → s_.spine = s.spine := by
  intro t h; unfold execTdcChannelCfgWrite at h; injection h with h; subst h; simp [apply_ite State.bt]
theorem execTdcCalStart_spine (m : Master) (v : Word) (s : State) : ∀ s_, execTdcCalStart m v s = .next s_ → s_.spine = s.spine := by
  intro t h; unfold execTdcCalStart at h; injection h with h; subst h; simp [apply_ite State.bt]
theorem execCalDone_spine (corr : List Byte) (s : State) : ∀ s_, execCalDone corr s = .next s_ → s_.spine = s.spine := by
  intro t h; unfold execCalDone at h; injection h with h; subst h; (repeat' split) <;> simp [apply_ite State.bt]
theorem execOcxoRdyChange_spine (level : Bool) (s : State) : ∀ s_, execOcxoRdyChange level s = .next s_ → s_.spine = s.spine := by
  intro t h; unfold execOcxoRdyChange at h; injection h with h; subst h; (repeat' split) <;> simp [apply_ite State.bt]

end Sys2Proof.Machine
end

