-- ==== Sys2Proof/Laws/SpineIsa.lean ====
section
/-! SUPPORT. The spine is kept by register accesses, calendar actions, instructions, the matrix, the host rings and the tick. -/
set_option linter.unusedSimpArgs false
namespace Sys2Proof.Machine

/-! ### RegRead -/

@[simp] theorem readLow_spine (m : Master) (a : Nat) (n : Nat) (v : Nat) (s : State) : (readLow m a n v s).2.spine = s.spine := by
  simp [readLow, apply_ite State.spine]
@[simp] theorem readEffect_spine (k : PageKind) (r : RegRow) (a : Nat) (w : Nat) (s : State) : (readEffect k r a w s).spine = s.spine := by
  simp [readEffect, apply_ite State.spine]
@[simp] theorem rowRead_spine (m : Master) (k : PageKind) (inst : Nat) (a : Nat) (r : RegRow) (i : Nat) (j : Nat) (w : Nat) (s : State) : (rowRead m k inst a r i j w s).2.spine = s.spine := by
  simp [rowRead, apply_ite State.spine]; (repeat' split) <;> simp [apply_ite State.spine]
theorem takeRead_spine (m : Master) (k : PageKind) (inst off a : Nat) (s : State) : ∀ x, takeRead m k inst off a s = some x → x.2.spine = s.spine := by
  intro x h
  unfold takeRead at h
  dsimp only at h
  repeat' split at h
  all_goals
    simp only [reduceCtorEq, Option.some.injEq] at h
    try (rw [← h]; try simp only [rdAsyE_spine, rdTdcRes_spine, sampleRead_spine, trnOutRead_spine, uartRead_spine, readLow_spine, geoTimeRead_spine])
@[simp] theorem pmuRead_spine (m : Master) (off : Nat) (a : Nat) (s : State) : (pmuRead m off a s).2.spine = s.spine := by
  simp [pmuRead, apply_ite State.spine]; (repeat' split) <;> simp [apply_ite State.spine]
@[simp] theorem pageRead_spine (m : Master) (a : Nat) (s : State) : (pageRead m a s).2.spine = s.spine := by
  unfold pageRead
  repeat' split
  all_goals first | rfl | exact pmuRead_spine .. | exact rowRead_spine .. | exact takeRead_spine _ _ _ _ _ _ _ ‹_›
@[simp] theorem slotRead_spine (m : Master) (n : Nat) (w : Nat) (s : State) : (slotRead m n w s).2.spine = s.spine := by
  simp [slotRead, apply_ite State.spine]; (repeat' split) <;> simp [apply_ite State.spine]
@[simp] theorem queueRead_spine (m : Master) (n : Nat) (w : Nat) (s : State) : (queueRead m n w s).2.spine = s.spine := by
  simp [queueRead, apply_ite State.spine]; (repeat' split) <;> simp [apply_ite State.spine]

/-! ### Sch -/

@[simp] theorem haltPin_spine (low : Bool) (s : State) : (haltPin low s).spine = s.spine := by
  simp [haltPin, apply_ite State.spine]
@[simp] theorem wrSchCtl_spine (v : Word) (s : State) : (wrSchCtl v s).spine = s.spine := by
  simp [wrSchCtl, apply_ite State.spine]
theorem execTransmitOpportunity_spine (p : Fin 17) (s : State) : ∀ s_, execTransmitOpportunity p s = .next s_ → s_.spine = s.spine := by
  intro t h; unfold execTransmitOpportunity at h; injection h with h; subst h; (repeat' split) <;> simp [apply_ite State.bt]
theorem execShaperRefill_spine (s : State) : ∀ s_, execShaperRefill s = .next s_ → s_.spine = s.spine := by
  intro t h; unfold execShaperRefill at h; injection h with h; subst h; (repeat' split) <;> simp [apply_ite State.bt]
theorem execHaltPinChange_spine (low : Bool) (s : State) : ∀ s_, execHaltPinChange low s = .next s_ → s_.spine = s.spine := by
  intro t h; unfold execHaltPinChange at h; injection h with h; subst h; (repeat' split) <;> simp [apply_ite State.bt]
theorem execSwhaltWrite_spine (m : Master) (v : Word) (s : State) : ∀ s_, execSwhaltWrite m v s = .next s_ → s_.spine = s.spine := by
  intro t h; unfold execSwhaltWrite at h; injection h with h; subst h; simp [apply_ite State.bt]
theorem execPolicerRefill_spine (s : State) : ∀ s_, execPolicerRefill s = .next s_ → s_.spine = s.spine := by
  intro t h; unfold execPolicerRefill at h; injection h with h; subst h; (repeat' split) <;> simp [apply_ite State.bt]
theorem execCommandBufferRelease_spine (m : Master) (v : Word) (s : State) : ∀ s_, execCommandBufferRelease m v s = .next s_ → s_.spine = s.spine := by
  intro t h; unfold execCommandBufferRelease at h; injection h with h; subst h; simp [apply_ite State.bt]

/-! ### RegWrite -/

@[simp] theorem dropSlots_spine (g : Nat) (pick : TsuSlot → Bool) (s : State) : (dropSlots g pick s).spine = s.spine := by
  simp [dropSlots, apply_ite State.spine]
@[simp] theorem engEnCheckAll_spine (c : Nat) (n : Nat) (s : State) : (engEnCheckAll c n s).spine = s.spine := by
  simp [engEnCheckAll, apply_ite State.spine]
@[simp] theorem enChanged_spine (k : PageKind) (inst : Nat) (on : Bool) (s : State) : (enChanged k inst on s).spine = s.spine := by
  simp [enChanged, apply_ite State.spine]; (repeat' split) <;> simp [apply_ite State.spine]
@[simp] theorem setEn_spine (k : PageKind) (inst : Nat) (pg : Nat) (on : Bool) (s : State) : (setEn k inst pg on s).spine = s.spine := by
  simp [setEn, apply_ite State.spine]
@[simp] theorem setFreeze_spine (k : PageKind) (pg : Nat) (on : Bool) (s : State) : (setFreeze k pg on s).spine = s.spine := by
  simp [setFreeze, apply_ite State.spine]; (repeat' split) <;> simp [apply_ite State.spine]
@[simp] theorem softReset_spine (m : Master) (k : PageKind) (inst : Nat) (s : State) : (softReset m k inst s).spine = s.spine := by
  simp [softReset, apply_ite State.spine]
@[simp] theorem wrCtrl_spine (m : Master) (k : PageKind) (inst : Nat) (pg : Nat) (v : Word) (s : State) : (wrCtrl m k inst pg v s).spine = s.spine := by
  simp [wrCtrl, apply_ite State.spine]
@[simp] theorem fltCleared_spine (k : PageKind) (inst : Nat) (s : State) : (fltCleared k inst s).spine = s.spine := by
  simp [fltCleared, apply_ite State.spine]; (repeat' split) <;> simp [apply_ite State.spine]
@[simp] theorem wrFltRaw_spine (k : PageKind) (inst : Nat) (pg : Nat) (v : Word) (s : State) : (wrFltRaw k inst pg v s).spine = s.spine := by
  simp [wrFltRaw, apply_ite State.spine]
@[simp] theorem wrInject_spine (k : PageKind) (pg : Nat) (v : Word) (s : State) : (wrInject k pg v s).spine = s.spine := by
  simp [wrInject, apply_ite State.spine]
@[simp] theorem wrForce_spine (k : PageKind) (inst : Nat) (pg : Nat) (v : Word) (s : State) : (wrForce k inst pg v s).spine = s.spine := by
  simp [wrForce, apply_ite State.spine]
@[simp] theorem hdrWrite_spine (m : Master) (k : PageKind) (inst : Nat) (pg : Nat) (off : Nat) (v : Word) (s : State) : (hdrWrite m k inst pg off v s).spine = s.spine := by
  simp [hdrWrite, apply_ite State.spine]
@[simp] theorem bdrWrite_spine (m : Master) (off : Nat) (a : Nat) (v : Word) (s : State) : (bdrWrite m off a v s).spine = s.spine := by
  simp [bdrWrite, apply_ite State.spine]
@[simp] theorem wrAsyCfg_spine (v : Word) (s : State) : (wrAsyCfg v s).spine = s.spine := by
  simp [wrAsyCfg, apply_ite State.spine]
@[simp] theorem asyWrite_spine (m : Master) (off : Nat) (a : Nat) (v : Word) (s : State) : (asyWrite m off a v s).spine = s.spine := by
  simp [asyWrite, apply_ite State.spine]
@[simp] theorem refWrite_spine (m : Master) (off : Nat) (a : Nat) (v : Word) (s : State) : (refWrite m off a v s).spine = s.spine := by
  simp [refWrite, apply_ite State.spine]
@[simp] theorem wrFrFreq_spine (m : Master) (l : Nat) (v : Word) (s : State) : (wrFrFreq m l v s).spine = s.spine := by
  simp [wrFrFreq, apply_ite State.spine]
@[simp] theorem dplWrite_spine (m : Master) (l : Nat) (off : Nat) (a : Nat) (v : Word) (s : State) : (dplWrite m l off a v s).spine = s.spine := by
  simp [dplWrite, apply_ite State.spine]
@[simp] theorem outWrite_spine (m : Master) (off : Nat) (a : Nat) (v : Word) (s : State) : (outWrite m off a v s).spine = s.spine := by
  simp [outWrite, apply_ite State.spine]
@[simp] theorem ppsWrite_spine (m : Master) (off : Nat) (a : Nat) (v : Word) (s : State) : (ppsWrite m off a v s).spine = s.spine := by
  simp [ppsWrite, apply_ite State.spine]
@[simp] theorem tdcWrite_spine (m : Master) (off : Nat) (a : Nat) (v : Word) (s : State) : (tdcWrite m off a v s).spine = s.spine := by
  simp [tdcWrite, apply_ite State.spine]
@[simp] theorem gnsWrite_spine (m : Master) (off : Nat) (a : Nat) (v : Word) (s : State) : (gnsWrite m off a v s).spine = s.spine := by
  simp [gnsWrite, apply_ite State.spine]
@[simp] theorem antWrite_spine (m : Master) (off : Nat) (a : Nat) (v : Word) (s : State) : (antWrite m off a v s).spine = s.spine := by
  simp [antWrite, apply_ite State.spine]
@[simp] theorem gchWrite_spine (m : Master) (c : Nat) (off : Nat) (a : Nat) (v : Word) (s : State) : (gchWrite m c off a v s).spine = s.spine := by
  simp [gchWrite, apply_ite State.spine]
@[simp] theorem prtWrite_spine (m : Master) (p : Nat) (off : Nat) (a : Nat) (v : Word) (s : State) : (prtWrite m p off a v s).spine = s.spine := by
  simp [prtWrite, apply_ite State.spine]
@[simp] theorem wrTsuLead_spine (a : Nat) (v : Word) (s : State) : (wrTsuLead a v s).spine = s.spine := by
  simp [wrTsuLead, apply_ite State.spine]
@[simp] theorem tsuWrite_spine (m : Master) (g : Nat) (off : Nat) (a : Nat) (v : Word) (s : State) : (tsuWrite m g off a v s).spine = s.spine := by
  simp [tsuWrite, apply_ite State.spine]
@[simp] theorem schWrite_spine (m : Master) (off : Nat) (a : Nat) (v : Word) (s : State) : (schWrite m off a v s).spine = s.spine := by
  simp [schWrite, apply_ite State.spine]
@[simp] theorem polWrite_spine (m : Master) (off : Nat) (a : Nat) (v : Word) (s : State) : (polWrite m off a v s).spine = s.spine := by
  simp [polWrite, apply_ite State.spine]
@[simp] theorem lcsWrite_spine (m : Master) (off : Nat) (a : Nat) (v : Word) (s : State) : (lcsWrite m off a v s).spine = s.spine := by
  simp [lcsWrite, apply_ite State.spine]
@[simp] theorem mateWrite_spine (m : Master) (off : Nat) (a : Nat) (v : Word) (s : State) : (mateWrite m off a v s).spine = s.spine := by
  simp [mateWrite, apply_ite State.spine]
@[simp] theorem fltWrite_spine (m : Master) (off : Nat) (a : Nat) (v : Word) (s : State) : (fltWrite m off a v s).spine = s.spine := by
  simp [fltWrite, apply_ite State.spine]
@[simp] theorem pmuWrite_spine (m : Master) (off : Nat) (a : Nat) (v : Word) (s : State) : (pmuWrite m off a v s).spine = s.spine := by
  simp [pmuWrite, apply_ite State.spine]
@[simp] theorem semWrite_spine (m : Master) (off : Nat) (v : Word) (s : State) : (semWrite m off v s).spine = s.spine := by
  simp [semWrite, apply_ite State.spine]
@[simp] theorem ddrWrite_spine (m : Master) (ch : Nat) (off : Nat) (a : Nat) (v : Word) (s : State) : (ddrWrite m ch off a v s).spine = s.spine := by
  simp [ddrWrite, apply_ite State.spine]
@[simp] theorem lspWrite_spine (m : Master) (off : Nat) (a : Nat) (v : Word) (s : State) : (lspWrite m off a v s).spine = s.spine := by
  simp [lspWrite, apply_ite State.spine]
@[simp] theorem engWrite_spine (m : Master) (e : Nat) (off : Nat) (a : Nat) (v : Word) (s : State) : (engWrite m e off a v s).spine = s.spine := by
  simp [engWrite, apply_ite State.spine]; (repeat' split) <;> simp [apply_ite State.spine]
@[simp] theorem wrCompat_spine (v : Word) (s : State) : (wrCompat v s).spine = s.spine := by
  simp [wrCompat, apply_ite State.spine]
@[simp] theorem bodyWrite_spine (m : Master) (pc : Option DWord) (k : PageKind) (inst : Nat) (off : Nat) (a : Nat) (v : Word) (s : State) : (bodyWrite m pc k inst off a v s).spine = s.spine := by
  simp [bodyWrite, apply_ite State.spine]; (repeat' split) <;> simp [apply_ite State.spine]
@[simp] theorem pageWrite_spine (m : Master) (pc : Option DWord) (a : Nat) (v : Word) (s : State) : (pageWrite m pc a v s).spine = s.spine := by
  simp [pageWrite, apply_ite State.spine]; (repeat' split) <;> simp [apply_ite State.spine]

/-! ### Bus -/

@[simp] theorem memAnswer_spine (m : Master) (a : Nat) (r : Option (List Byte) × State) : (memAnswer m a r).2.spine = r.2.spine := by
  obtain ⟨o, t⟩ := r
  cases o <;> simp [memAnswer]
@[simp] theorem masterWrite_spine (m : Master) (pc : Option DWord) (a : Nat) (v : Word) (s : State) : (masterWrite m pc a v s).spine = s.spine := by
  simp [masterWrite, apply_ite State.spine]
@[simp] theorem readNow_spine (m : Master) (a : Nat) (n : Nat) (s : State) : (readNow m a n s).2.spine = s.spine := by
  simp [readNow, apply_ite State.spine]; (repeat' split) <;> simp [apply_ite State.spine]
@[simp] theorem writeNow_spine (m : Master) (pc : Option DWord) (a : Nat) (n : Nat) (v : Nat) (s : State) : (writeNow m pc a n v s).2.spine = s.spine := by
  grind [writeNow, State.sharedWr_spine, tellErr_spine, wrSlotWord_spine, wrQueue_spine, mramPut_spine, masterWrite_spine]
@[simp] theorem busRead_spine (m : Master) (reply : Reply) (a n : Nat) (s : State) : (busRead m reply a n s).2.spine = s.spine := by
  unfold busRead
  (repeat' split) <;> simp
@[simp] theorem busWrite_spine (m : Master) (reply : Reply) (pc : Option DWord) (a : Nat) (n : Nat) (v : Nat) (s : State) : (busWrite m reply pc a n v s).2.spine = s.spine := by
  simp [busWrite, apply_ite State.spine]; (repeat' split) <;> simp [apply_ite State.spine]
@[simp] theorem reqWrite_spine (r : MtxReq) (s : State) : (reqWrite r s).spine = s.spine := by
  simp [reqWrite, apply_ite State.spine]
@[simp] theorem giveData_spine (m : Master) (a : Nat) (n : Nat) (v : Nat) (s : State) : (giveData m a n v s).spine = s.spine := by
  simp [giveData, apply_ite State.spine]
@[simp] theorem loadArrives_spine (k : Nat) (rd : Nat) (signed : Bool) (v : Word) (s : State) : (loadArrives k rd signed v s).spine = s.spine := by
  simp [loadArrives, apply_ite State.spine]
@[simp] theorem unpost_spine (k : Nat) (a : Nat) (s : State) : (unpost k a s).spine = s.spine := by
  simp [unpost, apply_ite State.spine]
@[simp] theorem answered_spine (r : MtxReq) (v : Word) (locked : Bool) (s : State) : (answered r v locked s).spine = s.spine := by
  simp [answered, apply_ite State.spine]; (repeat' split) <;> simp [apply_ite State.spine]
@[simp] theorem postFailed_spine (k : Nat) (a : DWord) (s : State) : (postFailed k a s).spine = s.spine := by
  simp [postFailed, apply_ite State.spine]
@[simp] theorem answeredErr_spine (r : MtxReq) (s : State) : (answeredErr r s).spine = s.spine := by
  simp [answeredErr, apply_ite State.spine]; (repeat' split) <;> simp [apply_ite State.spine]

/-! ### Action -/

@[simp] theorem calWrite_spine (n : Nat) (x : Slot) (s : State) : (calWrite n x s).spine = s.spine := by
  simp [calWrite, apply_ite State.spine]; (repeat' split) <;> simp [apply_ite State.spine]
@[simp] theorem calPulse_spine (n : Nat) (x : Slot) (s : State) : (calPulse n x s).spine = s.spine := by
  simp [calPulse, apply_ite State.spine]
@[simp] theorem engSnap_spine (e : Nat) (tag : Word) (s : State) : (engSnap e tag s).spine = s.spine := by
  simp [engSnap, apply_ite State.spine]
@[simp] theorem calCapture_spine (n : Nat) (x : Slot) (s : State) : (calCapture n x s).spine = s.spine := by
  simp [calCapture, apply_ite State.spine]
@[simp] theorem calEvent_spine (n : Nat) (x : Slot) (s : State) : (calEvent n x s).spine = s.spine := by
  simp [calEvent, apply_ite State.spine]
@[simp] theorem calHandover_spine (n : Nat) (s : State) : (calHandover n s).spine = s.spine := by
  grind [calHandover, setResult_spine, mateSwitch_spine]
@[simp] theorem initiate_spine (s0 : State) : (initiate s0).spine = s0.spine := by
  simp [initiate, apply_ite State.spine]; (repeat' split) <;> simp [apply_ite State.spine]
@[simp] theorem pulseEnd_spine (g : Nat) (s : State) : (pulseEnd g s).spine = s.spine := by
  simp [pulseEnd, apply_ite State.spine]
theorem execActionInitiate_spine (s : State) : ∀ s_, execActionInitiate s = .next s_ → s_.spine = s.spine := by
  intro t h; unfold execActionInitiate at h; injection h with h; subst h; (repeat' split) <;> simp [apply_ite State.bt]
theorem execPulseWidthEnd_spine (g : Fin 32) (s : State) : ∀ s_, execPulseWidthEnd g s = .next s_ → s_.spine = s.spine := by
  intro t h; unfold execPulseWidthEnd at h; injection h with h; subst h; (repeat' split) <;> simp [apply_ite State.bt]

/-! ### IsaInt -/

@[simp] theorem branchTo_spine (k : Nat) (target : DWord) (link : State → State) (s : State) (hlink : ∀ x0, (link x0).spine = x0.spine) : (branchTo k target link s).spine = s.spine := by
  grind [branchTo, pmuUnit_spine, finish_spine, raiseExc_spine]
theorem branchOp_spine (e : Fin 512) (t : Fin 4) (rx : GReg) (ry : GReg) (off : BitVec 16) (c : DWord → DWord → Bool) (s : State) : ∀ s_, branchOp e t rx ry off c s = .next s_ → s_.spine = s.spine := by
  intro t h; grind [branchOp, next_spine, runOp_spine, branchTo_spine]
theorem execAdd_spine (e : Fin 512) (t : Fin 4) (rd : GReg) (ra : GReg) (rb : GReg) (s : State) : ∀ s_, execAdd e t rd ra rb s = .next s_ → s_.spine = s.spine := by
  intro t h; unfold execAdd at h; injection h with h; subst h; (repeat' split) <;> simp [apply_ite State.bt]
theorem execSub_spine (e : Fin 512) (t : Fin 4) (rd : GReg) (ra : GReg) (rb : GReg) (s : State) : ∀ s_, execSub e t rd ra rb s = .next s_ → s_.spine = s.spine := by
  intro t h; unfold execSub at h; injection h with h; subst h; (repeat' split) <;> simp [apply_ite State.bt]
theorem execAndOp_spine (e : Fin 512) (t : Fin 4) (rd : GReg) (ra : GReg) (rb : GReg) (s : State) : ∀ s_, execAndOp e t rd ra rb s = .next s_ → s_.spine = s.spine := by
  intro t h; unfold execAndOp at h; injection h with h; subst h; (repeat' split) <;> simp [apply_ite State.bt]
theorem execOrOp_spine (e : Fin 512) (t : Fin 4) (rd : GReg) (ra : GReg) (rb : GReg) (s : State) : ∀ s_, execOrOp e t rd ra rb s = .next s_ → s_.spine = s.spine := by
  intro t h; unfold execOrOp at h; injection h with h; subst h; (repeat' split) <;> simp [apply_ite State.bt]
theorem execXorOp_spine (e : Fin 512) (t : Fin 4) (rd : GReg) (ra : GReg) (rb : GReg) (s : State) : ∀ s_, execXorOp e t rd ra rb s = .next s_ → s_.spine = s.spine := by
  intro t h; unfold execXorOp at h; injection h with h; subst h; (repeat' split) <;> simp [apply_ite State.bt]
theorem execSll_spine (e : Fin 512) (t : Fin 4) (rd : GReg) (ra : GReg) (rb : GReg) (s : State) : ∀ s_, execSll e t rd ra rb s = .next s_ → s_.spine = s.spine := by
  intro t h; unfold execSll at h; injection h with h; subst h; (repeat' split) <;> simp [apply_ite State.bt]
theorem execSrl_spine (e : Fin 512) (t : Fin 4) (rd : GReg) (ra : GReg) (rb : GReg) (s : State) : ∀ s_, execSrl e t rd ra rb s = .next s_ → s_.spine = s.spine := by
  intro t h; unfold execSrl at h; injection h with h; subst h; (repeat' split) <;> simp [apply_ite State.bt]
theorem execSra_spine (e : Fin 512) (t : Fin 4) (rd : GReg) (ra : GReg) (rb : GReg) (s : State) : ∀ s_, execSra e t rd ra rb s = .next s_ → s_.spine = s.spine := by
  intro t h; unfold execSra at h; injection h with h; subst h; (repeat' split) <;> simp [apply_ite State.bt]
theorem execSlt_spine (e : Fin 512) (t : Fin 4) (rd : GReg) (ra : GReg) (rb : GReg) (s : State) : ∀ s_, execSlt e t rd ra rb s = .next s_ → s_.spine = s.spine := by
  intro t h; unfold execSlt at h; injection h with h; subst h; (repeat' split) <;> simp [apply_ite State.bt]
theorem execSltu_spine (e : Fin 512) (t : Fin 4) (rd : GReg) (ra : GReg) (rb : GReg) (s : State) : ∀ s_, execSltu e t rd ra rb s = .next s_ → s_.spine = s.spine := by
  intro t h; unfold execSltu at h; injection h with h; subst h; (repeat' split) <;> simp [apply_ite State.bt]
theorem execMul_spine (e : Fin 512) (t : Fin 4) (rd : GReg) (ra : GReg) (rb : GReg) (s : State) : ∀ s_, execMul e t rd ra rb s = .next s_ → s_.spine = s.spine := by
  intro t h; unfold execMul at h; injection h with h; subst h; (repeat' split) <;> simp [apply_ite State.bt]
theorem execMulh_spine (e : Fin 512) (t : Fin 4) (rd : GReg) (ra : GReg) (rb : GReg) (s : State) : ∀ s_, execMulh e t rd ra rb s = .next s_ → s_.spine = s.spine := by
  intro t h; unfold execMulh at h; injection h with h; subst h; (repeat' split) <;> simp [apply_ite State.bt]
theorem execMulhu_spine (e : Fin 512) (t : Fin 4) (rd : GReg) (ra : GReg) (rb : GReg) (s : State) : ∀ s_, execMulhu e t rd ra rb s = .next s_ → s_.spine = s.spine := by
  intro t h; unfold execMulhu at h; injection h with h; subst h; (repeat' split) <;> simp [apply_ite State.bt]
theorem execDiv_spine (e : Fin 512) (t : Fin 4) (rd : GReg) (ra : GReg) (rb : GReg) (s : State) : ∀ s_, execDiv e t rd ra rb s = .next s_ → s_.spine = s.spine := by
  intro t h; unfold execDiv at h; injection h with h; subst h; (repeat' split) <;> simp [apply_ite State.bt]
theorem execDivu_spine (e : Fin 512) (t : Fin 4) (rd : GReg) (ra : GReg) (rb : GReg) (s : State) : ∀ s_, execDivu e t rd ra rb s = .next s_ → s_.spine = s.spine := by
  intro t h; unfold execDivu at h; injection h with h; subst h; (repeat' split) <;> simp [apply_ite State.bt]
theorem execRem_spine (e : Fin 512) (t : Fin 4) (rd : GReg) (ra : GReg) (rb : GReg) (s : State) : ∀ s_, execRem e t rd ra rb s = .next s_ → s_.spine = s.spine := by
  intro t h; unfold execRem at h; injection h with h; subst h; (repeat' split) <;> simp [apply_ite State.bt]
theorem execRemu_spine (e : Fin 512) (t : Fin 4) (rd : GReg) (ra : GReg) (rb : GReg) (s : State) : ∀ s_, execRemu e t rd ra rb s = .next s_ → s_.spine = s.spine := by
  intro t h; unfold execRemu at h; injection h with h; subst h; (repeat' split) <;> simp [apply_ite State.bt]
theorem execClz_spine (e : Fin 512) (t : Fin 4) (rd : GReg) (ra : GReg) (s : State) : ∀ s_, execClz e t rd ra s = .next s_ → s_.spine = s.spine := by
  intro t h; unfold execClz at h; injection h with h; subst h; (repeat' split) <;> simp [apply_ite State.bt]
theorem execPopc_spine (e : Fin 512) (t : Fin 4) (rd : GReg) (ra : GReg) (s : State) : ∀ s_, execPopc e t rd ra s = .next s_ → s_.spine = s.spine := by
  intro t h; unfold execPopc at h; injection h with h; subst h; (repeat' split) <;> simp [apply_ite State.bt]
theorem execBswap_spine (e : Fin 512) (t : Fin 4) (rd : GReg) (ra : GReg) (s : State) : ∀ s_, execBswap e t rd ra s = .next s_ → s_.spine = s.spine := by
  intro t h; unfold execBswap at h; injection h with h; subst h; (repeat' split) <;> simp [apply_ite State.bt]
theorem execBswap32_spine (e : Fin 512) (t : Fin 4) (rd : GReg) (ra : GReg) (s : State) : ∀ s_, execBswap32 e t rd ra s = .next s_ → s_.spine = s.spine := by
  intro t h; unfold execBswap32 at h; injection h with h; subst h; (repeat' split) <;> simp [apply_ite State.bt]
theorem execBswap16_spine (e : Fin 512) (t : Fin 4) (rd : GReg) (ra : GReg) (s : State) : ∀ s_, execBswap16 e t rd ra s = .next s_ → s_.spine = s.spine := by
  intro t h; unfold execBswap16 at h; injection h with h; subst h; (repeat' split) <;> simp [apply_ite State.bt]
theorem execAddi_spine (e : Fin 512) (t : Fin 4) (rd : GReg) (ra : GReg) (imm : BitVec 16) (s : State) : ∀ s_, execAddi e t rd ra imm s = .next s_ → s_.spine = s.spine := by
  intro t h; unfold execAddi at h; injection h with h; subst h; (repeat' split) <;> simp [apply_ite State.bt]
theorem execSlti_spine (e : Fin 512) (t : Fin 4) (rd : GReg) (ra : GReg) (imm : BitVec 16) (s : State) : ∀ s_, execSlti e t rd ra imm s = .next s_ → s_.spine = s.spine := by
  intro t h; unfold execSlti at h; injection h with h; subst h; (repeat' split) <;> simp [apply_ite State.bt]
theorem execSltiu_spine (e : Fin 512) (t : Fin 4) (rd : GReg) (ra : GReg) (imm : BitVec 16) (s : State) : ∀ s_, execSltiu e t rd ra imm s = .next s_ → s_.spine = s.spine := by
  intro t h; unfold execSltiu at h; injection h with h; subst h; (repeat' split) <;> simp [apply_ite State.bt]
theorem execAndi_spine (e : Fin 512) (t : Fin 4) (rd : GReg) (ra : GReg) (imm : BitVec 16) (s : State) : ∀ s_, execAndi e t rd ra imm s = .next s_ → s_.spine = s.spine := by
  intro t h; unfold execAndi at h; injection h with h; subst h; (repeat' split) <;> simp [apply_ite State.bt]
theorem execOri_spine (e : Fin 512) (t : Fin 4) (rd : GReg) (ra : GReg) (imm : BitVec 16) (s : State) : ∀ s_, execOri e t rd ra imm s = .next s_ → s_.spine = s.spine := by
  intro t h; unfold execOri at h; injection h with h; subst h; (repeat' split) <;> simp [apply_ite State.bt]
theorem execXori_spine (e : Fin 512) (t : Fin 4) (rd : GReg) (ra : GReg) (imm : BitVec 16) (s : State) : ∀ s_, execXori e t rd ra imm s = .next s_ → s_.spine = s.spine := by
  intro t h; unfold execXori at h; injection h with h; subst h; (repeat' split) <;> simp [apply_ite State.bt]
theorem execLui_spine (e : Fin 512) (t : Fin 4) (rd : GReg) (imm : BitVec 16) (s : State) : ∀ s_, execLui e t rd imm s = .next s_ → s_.spine = s.spine := by
  intro t h; unfold execLui at h; injection h with h; subst h; (repeat' split) <;> simp [apply_ite State.bt]
theorem execShi_spine (e : Fin 512) (t : Fin 4) (rd : GReg) (ra : GReg) (imm : BitVec 16) (s : State) : ∀ s_, execShi e t rd ra imm s = .next s_ → s_.spine = s.spine := by
  intro t h; unfold execShi at h; injection h with h; subst h; (repeat' split) <;> simp [apply_ite State.bt]
theorem execInsh_spine (e : Fin 512) (t : Fin 4) (rd : GReg) (imm : BitVec 16) (h : BitVec 2) (s : State) : ∀ s_, execInsh e t rd imm h s = .next s_ → s_.spine = s.spine := by
  intro t h; unfold execInsh at h; injection h with h; subst h; (repeat' split) <;> simp [apply_ite State.bt]
theorem execBeq_spine (e : Fin 512) (t : Fin 4) (rx : GReg) (ry : GReg) (off : BitVec 16) (s : State) : ∀ s_, execBeq e t rx ry off s = .next s_ → s_.spine = s.spine := by
  intro t h; grind [execBeq, branchOp_spine]
theorem execBne_spine (e : Fin 512) (t : Fin 4) (rx : GReg) (ry : GReg) (off : BitVec 16) (s : State) : ∀ s_, execBne e t rx ry off s = .next s_ → s_.spine = s.spine := by
  intro t h; grind [execBne, branchOp_spine]
theorem execBlt_spine (e : Fin 512) (t : Fin 4) (rx : GReg) (ry : GReg) (off : BitVec 16) (s : State) : ∀ s_, execBlt e t rx ry off s = .next s_ → s_.spine = s.spine := by
  intro t h; grind [execBlt, branchOp_spine]
theorem execBge_spine (e : Fin 512) (t : Fin 4) (rx : GReg) (ry : GReg) (off : BitVec 16) (s : State) : ∀ s_, execBge e t rx ry off s = .next s_ → s_.spine = s.spine := by
  intro t h; grind [execBge, branchOp_spine]
theorem execBltu_spine (e : Fin 512) (t : Fin 4) (rx : GReg) (ry : GReg) (off : BitVec 16) (s : State) : ∀ s_, execBltu e t rx ry off s = .next s_ → s_.spine = s.spine := by
  intro t h; grind [execBltu, branchOp_spine]
theorem execBgeu_spine (e : Fin 512) (t : Fin 4) (rx : GReg) (ry : GReg) (off : BitVec 16) (s : State) : ∀ s_, execBgeu e t rx ry off s = .next s_ → s_.spine = s.spine := by
  intro t h; grind [execBgeu, branchOp_spine]
theorem execJal_spine (e : Fin 512) (t : Fin 4) (rd : GReg) (off : BitVec 21) (s : State) : ∀ s_, execJal e t rd off s = .next s_ → s_.spine = s.spine := by
  intro t h; unfold execJal at h; injection h with h; subst h; (repeat' split) <;> simp [apply_ite State.bt]
theorem execJalr_spine (e : Fin 512) (t : Fin 4) (rd : GReg) (ra : GReg) (imm : BitVec 16) (s : State) : ∀ s_, execJalr e t rd ra imm s = .next s_ → s_.spine = s.spine := by
  intro t h; unfold execJalr at h; injection h with h; subst h; (repeat' split) <;> simp [apply_ite State.bt]

/-! ### IsaMem -/

@[simp] theorem countAccess_spine (k : Nat) (code : Nat) (t : Target) (s : State) : (countAccess k code t s).spine = s.spine := by
  simp [countAccess, apply_ite State.spine]; (repeat' split) <;> simp [apply_ite State.spine]
@[simp] theorem load_spine (k : Nat) (rd : Nat) (ea : DWord) (n : Nat) (signed : Bool) (s : State) : (load k rd ea n signed s).spine = s.spine := by
  grind [load, busErr_spine, wrRg_spine, next_spine, memRead_spine, raiseExc_spine, busRead_spine, countAccess_spine]
@[simp] theorem addPosted_spine (k : Nat) (ea : DWord) (s : State) : (addPosted k ea s).spine = s.spine := by
  simp [addPosted, apply_ite State.spine]
theorem store_spine (k : Nat) (v : DWord) (ea : DWord) (n : Nat) (s : State) : ∀ s_, store k v ea n s = some s_ → s_.spine = s.spine := by
  intro t h; grind [store, next_spine, memWrite_spine, raiseExc_spine, busWrite_spine, countAccess_spine, addPosted_spine]
theorem loadOp_spine (e : Fin 512) (t : Fin 4) (rd : GReg) (ra : GReg) (imm : BitVec 16) (n : Nat) (signed : Bool) (s : State) : ∀ s_, loadOp e t rd ra imm n signed s = .next s_ → s_.spine = s.spine := by
  intro t h; unfold loadOp at h; injection h with h; subst h; (repeat' split) <;> simp [apply_ite State.bt]
theorem storeOp_spine (e : Fin 512) (t : Fin 4) (rs : GReg) (ra : GReg) (imm : BitVec 16) (n : Nat) (s : State) : ∀ s_, storeOp e t rs ra imm n s = .next s_ → s_.spine = s.spine := by
  intro t h; grind [storeOp, stallOp_spine, store_spine]
@[simp] theorem postedError_spine (k : Nat) (a : DWord) (s : State) : (postedError k a s).spine = s.spine := by
  simp [postedError, apply_ite State.spine]
theorem execLd_spine (e : Fin 512) (t : Fin 4) (rd : GReg) (ra : GReg) (imm : BitVec 16) (s : State) : ∀ s_, execLd e t rd ra imm s = .next s_ → s_.spine = s.spine := by
  intro t h; unfold execLd at h; injection h with h; subst h; (repeat' split) <;> simp [apply_ite State.bt]
theorem execLw_spine (e : Fin 512) (t : Fin 4) (rd : GReg) (ra : GReg) (imm : BitVec 16) (s : State) : ∀ s_, execLw e t rd ra imm s = .next s_ → s_.spine = s.spine := by
  intro t h; unfold execLw at h; injection h with h; subst h; (repeat' split) <;> simp [apply_ite State.bt]
theorem execLwu_spine (e : Fin 512) (t : Fin 4) (rd : GReg) (ra : GReg) (imm : BitVec 16) (s : State) : ∀ s_, execLwu e t rd ra imm s = .next s_ → s_.spine = s.spine := by
  intro t h; unfold execLwu at h; injection h with h; subst h; (repeat' split) <;> simp [apply_ite State.bt]
theorem execLh_spine (e : Fin 512) (t : Fin 4) (rd : GReg) (ra : GReg) (imm : BitVec 16) (s : State) : ∀ s_, execLh e t rd ra imm s = .next s_ → s_.spine = s.spine := by
  intro t h; unfold execLh at h; injection h with h; subst h; (repeat' split) <;> simp [apply_ite State.bt]
theorem execLhu_spine (e : Fin 512) (t : Fin 4) (rd : GReg) (ra : GReg) (imm : BitVec 16) (s : State) : ∀ s_, execLhu e t rd ra imm s = .next s_ → s_.spine = s.spine := by
  intro t h; unfold execLhu at h; injection h with h; subst h; (repeat' split) <;> simp [apply_ite State.bt]
theorem execLb_spine (e : Fin 512) (t : Fin 4) (rd : GReg) (ra : GReg) (imm : BitVec 16) (s : State) : ∀ s_, execLb e t rd ra imm s = .next s_ → s_.spine = s.spine := by
  intro t h; unfold execLb at h; injection h with h; subst h; (repeat' split) <;> simp [apply_ite State.bt]
theorem execLbu_spine (e : Fin 512) (t : Fin 4) (rd : GReg) (ra : GReg) (imm : BitVec 16) (s : State) : ∀ s_, execLbu e t rd ra imm s = .next s_ → s_.spine = s.spine := by
  intro t h; unfold execLbu at h; injection h with h; subst h; (repeat' split) <;> simp [apply_ite State.bt]
theorem execSd_spine (e : Fin 512) (t : Fin 4) (rs : GReg) (ra : GReg) (imm : BitVec 16) (s : State) : ∀ s_, execSd e t rs ra imm s = .next s_ → s_.spine = s.spine := by
  intro t h; grind [execSd, storeOp_spine]
theorem execSw_spine (e : Fin 512) (t : Fin 4) (rs : GReg) (ra : GReg) (imm : BitVec 16) (s : State) : ∀ s_, execSw e t rs ra imm s = .next s_ → s_.spine = s.spine := by
  intro t h; grind [execSw, storeOp_spine]
theorem execSh_spine (e : Fin 512) (t : Fin 4) (rs : GReg) (ra : GReg) (imm : BitVec 16) (s : State) : ∀ s_, execSh e t rs ra imm s = .next s_ → s_.spine = s.spine := by
  intro t h; grind [execSh, storeOp_spine]
theorem execSb_spine (e : Fin 512) (t : Fin 4) (rs : GReg) (ra : GReg) (imm : BitVec 16) (s : State) : ∀ s_, execSb e t rs ra imm s = .next s_ → s_.spine = s.spine := by
  intro t h; grind [execSb, storeOp_spine]
theorem execPostedStoreError_spine (e : Fin 512) (t : Fin 4) (addr : DWord) (s : State) : ∀ s_, execPostedStoreError e t addr s = .next s_ → s_.spine = s.spine := by
  intro t h; unfold execPostedStoreError at h; injection h with h; subst h; (repeat' split) <;> simp [apply_ite State.bt]

/-! ### IsaQueue -/

@[simp] theorem countQueue_spine (k : Nat) (st : QStatus) (s : State) : (countQueue k st s).spine = s.spine := by
  simp [countQueue, apply_ite State.spine]
@[simp] theorem queueDone_spine (k : Nat) (rd : Nat) (st : QStatus) (s : State) : (queueDone k rd st s).spine = s.spine := by
  simp [queueDone, apply_ite State.spine]
@[simp] theorem pushNow_spine (k : Nat) (rd : Nat) (n : Nat) (a : DWord) (t : Target) (s : State) : (pushNow k rd n a t s).spine = s.spine := by
  grind [pushNow, queuePush_spine, raiseEvt_spine, memRead_spine, raiseExc_spine, queueDone_spine]
@[simp] theorem popNow_spine (k : Nat) (rd : Nat) (n : Nat) (a : DWord) (t : Target) (s : State) : (popNow k rd n a t s).spine = s.spine := by
  grind [popNow, queuePop_spine, busErr_spine, memWrite_spine, raiseExc_spine, queueDone_spine]
@[simp] theorem queueWait_spine (k : Nat) (w : Waiting) (s : State) : (queueWait k w s).spine = s.spine := by
  simp [queueWait, apply_ite State.spine]; (repeat' split) <;> simp [apply_ite State.spine]
theorem pushOp_spine (k : Nat) (rd : Nat) (n : Nat) (a : DWord) (wait : Bool) (s : State) : ∀ s_, pushOp k rd n a wait s = some s_ → s_.spine = s.spine := by
  intro t h; grind [pushOp, raiseExc_spine, pushNow_spine, queueWait_spine]
@[simp] theorem popOp_spine (k : Nat) (rd : Nat) (n : Nat) (a : DWord) (wait : Bool) (s : State) : (popOp k rd n a wait s).spine = s.spine := by
  simp [popOp, apply_ite State.spine]; (repeat' split) <;> simp [apply_ite State.spine]
@[simp] theorem wakeUp_spine (k : Nat) (s : State) : (wakeUp k s).spine = s.spine := by
  simp [wakeUp, apply_ite State.spine]
@[simp] theorem queueResume_spine (k : Nat) (s : State) : (queueResume k s).spine = s.spine := by
  simp [queueResume, apply_ite State.spine]; (repeat' split) <;> simp [apply_ite State.spine]
theorem execQpush_spine (e : Fin 512) (t : Fin 4) (rd : GReg) (ra : GReg) (rb : GReg) (s : State) : ∀ s_, execQpush e t rd ra rb s = .next s_ → s_.spine = s.spine := by
  intro t h; grind [execQpush, stallOp_spine, pushOp_spine]
theorem execQpop_spine (e : Fin 512) (t : Fin 4) (rd : GReg) (ra : GReg) (rb : GReg) (s : State) : ∀ s_, execQpop e t rd ra rb s = .next s_ → s_.spine = s.spine := by
  intro t h; unfold execQpop at h; injection h with h; subst h; (repeat' split) <;> simp [apply_ite State.bt]
theorem execQpushw_spine (e : Fin 512) (t : Fin 4) (rd : GReg) (ra : GReg) (rb : GReg) (s : State) : ∀ s_, execQpushw e t rd ra rb s = .next s_ → s_.spine = s.spine := by
  intro t h; grind [execQpushw, stallOp_spine, pushOp_spine]
theorem execQpopw_spine (e : Fin 512) (t : Fin 4) (rd : GReg) (ra : GReg) (rb : GReg) (s : State) : ∀ s_, execQpopw e t rd ra rb s = .next s_ → s_.spine = s.spine := by
  intro t h; unfold execQpopw at h; injection h with h; subst h; (repeat' split) <;> simp [apply_ite State.bt]
theorem execQstat_spine (e : Fin 512) (t : Fin 4) (rd : GReg) (ra : GReg) (s : State) : ∀ s_, execQstat e t rd ra s = .next s_ → s_.spine = s.spine := by
  intro t h; grind [execQstat, wrRg_spine, next_spine, raiseExc_spine, runOp_spine]

/-! ### IsaSync -/

@[simp] theorem beginWait_spine (k : Nat) (on : WaitOn) (w : Waiting) (s : State) : (beginWait k on w s).spine = s.spine := by
  simp [beginWait, apply_ite State.spine]
@[simp] theorem give_spine (k : Nat) (rd : Nat) (v : DWord) (s : State) : (give k rd v s).spine = s.spine := by
  simp [give, apply_ite State.spine]
theorem fenced_spine (k : Nat) (op : State → State) (s : State) (hop : ∀ x0, (op x0).spine = x0.spine) : ∀ s_, fenced k op s = some s_ → s_.spine = s.spine := by
  intro t h; grind [fenced]
@[simp] theorem takeEvent_spine (k : Nat) (rd : Nat) (w : Word) (rest : List Word) (s : State) : (takeEvent k rd w rest s).spine = s.spine := by
  simp [takeEvent, apply_ite State.spine]
@[simp] theorem eventOp_spine (k : Nat) (rd : Nat) (wait : Bool) (s : State) : (eventOp k rd wait s).spine = s.spine := by
  simp [eventOp, apply_ite State.spine]; (repeat' split) <;> simp [apply_ite State.spine]
@[simp] theorem postOp_spine (k : Nat) (ra : DWord) (rb : DWord) (s : State) : (postOp k ra rb s).spine = s.spine := by
  simp [postOp, apply_ite State.spine]
@[simp] theorem barOp_spine (k : Nat) (rd : Nat) (b : Nat) (s : State) : (barOp k rd b s).spine = s.spine := by
  simp [barOp, apply_ite State.spine]
@[simp] theorem bcastOp_spine (k : Nat) (b : Nat) (v : DWord) (s : State) : (bcastOp k b v s).spine = s.spine := by
  simp [bcastOp, apply_ite State.spine]
@[simp] theorem acquireOp_spine (k : Nat) (rd : Nat) (n : Nat) (s : State) : (acquireOp k rd n s).spine = s.spine := by
  grind [acquireOp, State.setSem_spine, semTry_spine, beginWait_spine, give_spine]
@[simp] theorem submitNow_spine (k : Nat) (rd : Nat) (a : DWord) (t : Target) (s : State) : (submitNow k rd a t s).spine = s.spine := by
  grind [submitNow, pmuUnit_spine, memRead_spine, raiseExc_spine, cryTake_spine, give_spine]
@[simp] theorem submitOp_spine (k : Nat) (rd : Nat) (a : DWord) (s : State) : (submitOp k rd a s).spine = s.spine := by
  simp [submitOp, apply_ite State.spine]; (repeat' split) <;> simp [apply_ite State.spine]
@[simp] theorem collect_spine (k : Nat) (rd : Nat) (n : Nat) (w : Word) (s : State) : (collect k rd n w s).spine = s.spine := by
  simp [collect, apply_ite State.spine]
@[simp] theorem collectOp_spine (k : Nat) (rd : Nat) (n : Nat) (wait : Bool) (s : State) : (collectOp k rd n wait s).spine = s.spine := by
  simp [collectOp, apply_ite State.spine]; (repeat' split) <;> simp [apply_ite State.spine]
@[simp] theorem resume_spine (k : Nat) (s : State) : (resume k s).spine = s.spine := by
  simp [resume, apply_ite State.spine]; (repeat' split) <;> simp [apply_ite State.spine]
@[simp] theorem journalSet_spine (k : Nat) (v : Word) (s : State) : (journalSet k v s).spine = s.spine := by
  simp [journalSet, apply_ite State.spine]
theorem execWaitResume_spine (e : Fin 512) (t : Fin 4) (s : State) : ∀ s_, execWaitResume e t s = .next s_ → s_.spine = s.spine := by
  intro t h; unfold execWaitResume at h; injection h with h; subst h; (repeat' split) <;> simp [apply_ite State.bt]
theorem execEwait_spine (e : Fin 512) (t : Fin 4) (rd : GReg) (s : State) : ∀ s_, execEwait e t rd s = .next s_ → s_.spine = s.spine := by
  intro t h; unfold execEwait at h; injection h with h; subst h; (repeat' split) <;> simp [apply_ite State.bt]
theorem execEtry_spine (e : Fin 512) (t : Fin 4) (rd : GReg) (s : State) : ∀ s_, execEtry e t rd s = .next s_ → s_.spine = s.spine := by
  intro t h; unfold execEtry at h; injection h with h; subst h; (repeat' split) <;> simp [apply_ite State.bt]
theorem execEpost_spine (e : Fin 512) (t : Fin 4) (ra : GReg) (rb : GReg) (s : State) : ∀ s_, execEpost e t ra rb s = .next s_ → s_.spine = s.spine := by
  intro t h; grind [execEpost, stallOp_spine, fenced_spine, postOp_spine]
theorem execBarArrive_spine (e : Fin 512) (t : Fin 4) (rd : GReg) (ra : GReg) (s : State) : ∀ s_, execBarArrive e t rd ra s = .next s_ → s_.spine = s.spine := by
  intro t h; unfold execBarArrive at h; injection h with h; subst h; (repeat' split) <;> simp [apply_ite State.bt]
theorem execBcast_spine (e : Fin 512) (t : Fin 4) (ra : GReg) (rb : GReg) (s : State) : ∀ s_, execBcast e t ra rb s = .next s_ → s_.spine = s.spine := by
  intro t h; grind [execBcast, stallOp_spine, fenced_spine, bcastOp_spine]
theorem execSacq_spine (e : Fin 512) (t : Fin 4) (rd : GReg) (ra : GReg) (s : State) : ∀ s_, execSacq e t rd ra s = .next s_ → s_.spine = s.spine := by
  intro t h; unfold execSacq at h; injection h with h; subst h; (repeat' split) <;> simp [apply_ite State.bt]
theorem execStry_spine (e : Fin 512) (t : Fin 4) (rd : GReg) (ra : GReg) (s : State) : ∀ s_, execStry e t rd ra s = .next s_ → s_.spine = s.spine := by
  intro t h; unfold execStry at h; injection h with h; subst h; (repeat' split) <;> simp [apply_ite State.bt]
theorem execSrel_spine (e : Fin 512) (t : Fin 4) (rd : GReg) (ra : GReg) (s : State) : ∀ s_, execSrel e t rd ra s = .next s_ → s_.spine = s.spine := by
  intro t h; grind [execSrel, semRelease_spine, stallOp_spine, give_spine, fenced_spine]
theorem execCsub_spine (e : Fin 512) (t : Fin 4) (rd : GReg) (ra : GReg) (s : State) : ∀ s_, execCsub e t rd ra s = .next s_ → s_.spine = s.spine := by
  intro t h; grind [execCsub, stallOp_spine, fenced_spine, submitOp_spine]
theorem execCwait_spine (e : Fin 512) (t : Fin 4) (rd : GReg) (ra : GReg) (s : State) : ∀ s_, execCwait e t rd ra s = .next s_ → s_.spine = s.spine := by
  intro t h; unfold execCwait at h; injection h with h; subst h; (repeat' split) <;> simp [apply_ite State.bt]
theorem execCtry_spine (e : Fin 512) (t : Fin 4) (rd : GReg) (ra : GReg) (s : State) : ∀ s_, execCtry e t rd ra s = .next s_ → s_.spine = s.spine := by
  intro t h; unfold execCtry at h; injection h with h; subst h; (repeat' split) <;> simp [apply_ite State.bt]
theorem execJrnl_spine (e : Fin 512) (t : Fin 4) (ra : GReg) (s : State) : ∀ s_, execJrnl e t ra s = .next s_ → s_.spine = s.spine := by
  intro t h; unfold execJrnl at h; injection h with h; subst h; (repeat' split) <;> simp [apply_ite State.bt]
theorem execFence_spine (e : Fin 512) (t : Fin 4) (s : State) : ∀ s_, execFence e t s = .next s_ → s_.spine = s.spine := by
  intro t h; grind [execFence, next_spine, stallOp_spine, fenced_spine]

/-! ### IsaSys -/

@[simp] theorem vecWrite_spine (k : Nat) (v : DWord) (s : State) : (vecWrite k v s).spine = s.spine := by
  simp [vecWrite, apply_ite State.spine]
theorem srWrite_spine (k n : Nat) (v : DWord) (s : State) : ∀ s_, srWrite k n v s = some s_ → s_.spine = s.spine := by
  intro s_ h
  unfold srWrite at h
  (repeat' split at h) <;> first | contradiction | (injection h with h; subst h; simp)
@[simp] theorem pmrdOp_spine (k : Nat) (rd : Nat) (n : Nat) (s : State) : (pmrdOp k rd n s).spine = s.spine := by
  simp [pmrdOp, apply_ite State.spine]; (repeat' split) <;> simp [apply_ite State.spine]
theorem execSysCall_spine (e : Fin 512) (t : Fin 4) (s : State) : ∀ s_, execSysCall e t s = .next s_ → s_.spine = s.spine := by
  intro t h; unfold execSysCall at h; injection h with h; subst h; (repeat' split) <;> simp [apply_ite State.bt]
theorem execBreakOp_spine (e : Fin 512) (t : Fin 4) (s : State) : ∀ s_, execBreakOp e t s = .next s_ → s_.spine = s.spine := by
  intro t h; unfold execBreakOp at h; injection h with h; subst h; (repeat' split) <;> simp [apply_ite State.bt]
theorem execEret_spine (e : Fin 512) (t : Fin 4) (s : State) : ∀ s_, execEret e t s = .next s_ → s_.spine = s.spine := by
  intro t h; unfold execEret at h; injection h with h; subst h; (repeat' split) <;> simp [apply_ite State.bt]
theorem execMfsr_spine (e : Fin 512) (t : Fin 4) (rd : GReg) (sr : BitVec 5) (s : State) : ∀ s_, execMfsr e t rd sr s = .next s_ → s_.spine = s.spine := by
  intro t h; grind [execMfsr, State.nextFree_spine, wrRg_spine, next_spine, runOp_spine]
theorem execMtsr_spine (e : Fin 512) (t : Fin 4) (sr : BitVec 5) (ra : GReg) (s : State) : ∀ s_, execMtsr e t sr ra s = .next s_ → s_.spine = s.spine := by
  intro t h; grind [execMtsr, next_spine, runOp_spine, srWrite_spine]
theorem execPmrd_spine (e : Fin 512) (t : Fin 4) (rd : GReg) (ra : GReg) (s : State) : ∀ s_, execPmrd e t rd ra s = .next s_ → s_.spine = s.spine := by
  intro t h; unfold execPmrd at h; injection h with h; subst h; (repeat' split) <;> simp [apply_ite State.bt]
theorem execIllegalEncoding_spine (e : Fin 512) (t : Fin 4) (word : Word) (s : State) : ∀ s_, execIllegalEncoding e t word s = .next s_ → s_.spine = s.spine := by
  intro t h; grind [execIllegalEncoding, next_spine, runOp_spine]

/-! ### IsaTime -/

theorem pairOp_spine (e : Fin 512) (t : Fin 4) (pd : GReg) (ill : Bool) (srcs : List GReg) (f : State → Thread → Nat) (s : State) : ∀ s_, pairOp e t pd ill srcs f s = .next s_ → s_.spine = s.spine := by
  intro t h; unfold pairOp at h; injection h with h; subst h; (repeat' split) <;> simp [apply_ite State.bt]
theorem timeOp_spine (e : Fin 512) (t : Fin 4) (rd : GReg) (ill : Bool) (srcs : List GReg) (f : State → Thread → DWord) (s : State) : ∀ s_, timeOp e t rd ill srcs f s = .next s_ → s_.spine = s.spine := by
  intro t h; unfold timeOp at h; injection h with h; subst h; (repeat' split) <;> simp [apply_ite State.bt]
theorem execRdbt_spine (e : Fin 512) (t : Fin 4) (pd : GReg) (s : State) : ∀ s_, execRdbt e t pd s = .next s_ → s_.spine = s.spine := by
  intro t h; unfold execRdbt at h; injection h with h; subst h; (repeat' split) <;> simp [apply_ite State.bt]
theorem execRdwt_spine (e : Fin 512) (t : Fin 4) (pd : GReg) (s : State) : ∀ s_, execRdwt e t pd s = .next s_ → s_.spine = s.spine := by
  intro t h; unfold execRdwt at h; injection h with h; subst h; (repeat' split) <;> simp [apply_ite State.bt]
theorem execCvwt_spine (e : Fin 512) (t : Fin 4) (pd : GReg) (pa : GReg) (s : State) : ∀ s_, execCvwt e t pd pa s = .next s_ → s_.spine = s.spine := by
  intro t h; unfold execCvwt at h; injection h with h; subst h; (repeat' split) <;> simp [apply_ite State.bt]
theorem execTdiff_spine (e : Fin 512) (t : Fin 4) (rd : GReg) (pa : GReg) (pb : GReg) (s : State) : ∀ s_, execTdiff e t rd pa pb s = .next s_ → s_.spine = s.spine := by
  intro t h; unfold execTdiff at h; injection h with h; subst h; (repeat' split) <;> simp [apply_ite State.bt]
theorem execTdiffb_spine (e : Fin 512) (t : Fin 4) (rd : GReg) (pa : GReg) (pb : GReg) (s : State) : ∀ s_, execTdiffb e t rd pa pb s = .next s_ → s_.spine = s.spine := by
  intro t h; unfold execTdiffb at h; injection h with h; subst h; (repeat' split) <;> simp [apply_ite State.bt]
theorem execTopt_spine (e : Fin 512) (t : Fin 4) (pd : GReg) (pa : GReg) (s : State) : ∀ s_, execTopt e t pd pa s = .next s_ → s_.spine = s.spine := by
  intro t h; unfold execTopt at h; injection h with h; subst h; (repeat' split) <;> simp [apply_ite State.bt]
theorem execTres_spine (e : Fin 512) (t : Fin 4) (rd : GReg) (pa : GReg) (s : State) : ∀ s_, execTres e t rd pa s = .next s_ → s_.spine = s.spine := by
  intro t h; unfold execTres at h; injection h with h; subst h; (repeat' split) <;> simp [apply_ite State.bt]
theorem execTont_spine (e : Fin 512) (t : Fin 4) (rd : GReg) (pa : GReg) (s : State) : ∀ s_, execTont e t rd pa s = .next s_ → s_.spine = s.spine := by
  intro t h; unfold execTont at h; injection h with h; subst h; (repeat' split) <;> simp [apply_ite State.bt]
theorem execFrpt_spine (e : Fin 512) (t : Fin 4) (pd : GReg) (pa : GReg) (s : State) : ∀ s_, execFrpt e t pd pa s = .next s_ → s_.spine = s.spine := by
  intro t h; unfold execFrpt at h; injection h with h; subst h; (repeat' split) <;> simp [apply_ite State.bt]
theorem execTadd_spine (e : Fin 512) (t : Fin 4) (pd : GReg) (pa : GReg) (rb : GReg) (s : State) : ∀ s_, execTadd e t pd pa rb s = .next s_ → s_.spine = s.spine := by
  intro t h; unfold execTadd at h; injection h with h; subst h; (repeat' split) <;> simp [apply_ite State.bt]
theorem execTaddb_spine (e : Fin 512) (t : Fin 4) (pd : GReg) (pa : GReg) (rb : GReg) (s : State) : ∀ s_, execTaddb e t pd pa rb s = .next s_ → s_.spine = s.spine := by
  intro t h; unfold execTaddb at h; injection h with h; subst h; (repeat' split) <;> simp [apply_ite State.bt]
@[simp] theorem readRequest_spine (k : Nat) (a : DWord) (n : Nat) (t : Target) (s : State) : (readRequest k a n t s).2.spine = s.spine := by
  grind [readRequest, memRead_spine, raiseExc_spine]
theorem writeResult_spine (k : Nat) (a : DWord) (l : List Byte) (t : Target) (done : State → State) (new : State) (old : State) (hdone : ∀ x, (done x).spine = x.spine) (h : new.spine = old.spine) : (writeResult k a l t done new old).spine = old.spine := by
  have h1 := memWrite_spine (k / 32) t l new
  rcases e : memWrite (k / 32) t l new with ⟨o, x⟩
  rw [e] at h1
  cases o <;> simp only [writeResult, e] <;> first
    | exact (hdone x).trans (h1.trans h)
    | exact (raiseExc_spine ..).trans (memWrite_spine ..)
@[simp] theorem evalOp_spine (k : Nat) (rd : Nat) (ra : DWord) (rb : DWord) (s : State) : (evalOp k rd ra rb s).spine = s.spine := by
  grind [evalOp, State.count_spine, pmuChip_spine, noteEval_spine, wrRg_spine, next_spine, raiseExc_spine, readRequest_spine, writeResult_spine]
@[simp] theorem rsvAt_spine (fresh : Bool) (k : Nat) (rd : Nat) (ra : Nat) (rb : Nat) (s : State) : (rsvAt fresh k rd ra rb s).spine = s.spine := by
  grind [rsvAt, reserve_spine, hold_spine, wrRg_spine, next_spine, raiseExc_spine, readRequest_spine, writeResult_spine]
@[simp] theorem rsvOp_spine (k : Nat) (rd : Nat) (ra : Nat) (rb : Nat) (s : State) : (rsvOp k rd ra rb s).spine = s.spine := by
  simp [rsvOp, apply_ite State.spine]
theorem execEval_spine (e : Fin 512) (t : Fin 4) (rd : GReg) (ra : GReg) (rb : GReg) (s : State) : ∀ s_, execEval e t rd ra rb s = .next s_ → s_.spine = s.spine := by
  intro t h; unfold execEval at h; injection h with h; subst h; (repeat' split) <;> simp [apply_ite State.bt]
theorem execRsv_spine (e : Fin 512) (t : Fin 4) (rd : GReg) (ra : GReg) (rb : GReg) (s : State) : ∀ s_, execRsv e t rd ra rb s = .next s_ → s_.spine = s.spine := by
  intro t h; unfold execRsv at h; injection h with h; subst h; (repeat' split) <;> simp [apply_ite State.bt]
theorem execRcan_spine (e : Fin 512) (t : Fin 4) (ra : GReg) (s : State) : ∀ s_, execRcan e t ra s = .next s_ → s_.spine = s.spine := by
  intro t h; grind [execRcan, cancelSlot_spine, next_spine, runOp_spine]
theorem execTarm_spine (e : Fin 512) (t : Fin 4) (pa : GReg) (s : State) : ∀ s_, execTarm e t pa s = .next s_ → s_.spine = s.spine := by
  intro t h; unfold execTarm at h; injection h with h; subst h; (repeat' split) <;> simp [apply_ite State.bt]

/-! ### Mtx -/

@[simp] theorem perform_spine (r : MtxReq) (s : State) : (perform r s).spine = s.spine := by
  grind [perform, busErr_spine, pageRead_spine, readNow_spine, writeNow_spine, reqWrite_spine, giveData_spine, answered_spine, answeredErr_spine, rsvAt_spine]
@[simp] theorem reexamine_spine (s : State) (r : MtxReq) : (reexamine s r).spine = s.spine := by
  simp [reexamine, apply_ite State.spine]
@[simp] theorem deliverHeld_spine (s : State) : (deliverHeld s).spine = s.spine := by
  simp [deliverHeld, apply_ite State.spine]
@[simp] theorem mtxTimeout_spine (s : State) : (mtxTimeout s).spine = s.spine := by
  simp [mtxTimeout, apply_ite State.spine]; (repeat' split) <;> simp [apply_ite State.spine]
@[simp] theorem recalcEnd_spine (s : State) : (recalcEnd s).spine = s.spine := by
  simp [recalcEnd, apply_ite State.spine]
@[simp] theorem exitDone_spine (s : State) : (exitDone s).spine = s.spine := by
  simp [exitDone, apply_ite State.spine]
theorem execMatrixTimeout_spine (s : State) : ∀ s_, execMatrixTimeout s = .next s_ → s_.spine = s.spine := by
  intro t h; unfold execMatrixTimeout at h; injection h with h; subst h; (repeat' split) <;> simp [apply_ite State.bt]
theorem execLateResponse_spine (s : State) : ∀ s_, execLateResponse s = .next s_ → s_.spine = s.spine := by
  intro t h; unfold execLateResponse at h; injection h with h; subst h; (repeat' split) <;> simp [apply_ite State.bt]
theorem execCfgRecalc_spine (m : Master) (v : Word) (s : State) : ∀ s_, execCfgRecalc m v s = .next s_ → s_.spine = s.spine := by
  intro t h; simp [execCfgRecalc] at h; subst h; simp
theorem execRecalcDone_spine (s : State) : ∀ s_, execRecalcDone s = .next s_ → s_.spine = s.spine := by
  intro t h; unfold execRecalcDone at h; injection h with h; subst h; (repeat' split) <;> simp [apply_ite State.bt]
theorem execWakeExitDone_spine (s : State) : ∀ s_, execWakeExitDone s = .next s_ → s_.spine = s.spine := by
  intro t h; unfold execWakeExitDone at h; injection h with h; subst h; (repeat' split) <;> simp [apply_ite State.bt]

/-! ### Pci -/

@[simp] theorem State.setRingCmd_spine (s : State) (r : Nat) (x : Option RingCmd) : (State.setRingCmd s r x).spine = s.spine := by
  simp [State.setRingCmd, apply_ite State.spine]
@[simp] theorem ringWr_spine (c : RingCmd) (a : Nat) (l : List Byte) (s : State) : (ringWr c a l s).spine = s.spine := by
  simp [ringWr, apply_ite State.spine]
@[simp] theorem ringPartial_spine (r : Nat) (c : RingCmd) (step : Nat) (state : Nat) (s : State) : (ringPartial r c step state s).spine = s.spine := by
  simp [ringPartial, apply_ite State.spine]
@[simp] theorem ringEnd_spine (r : Nat) (status : Nat) (steps : Nat) (s : State) : (ringEnd r status steps s).spine = s.spine := by
  simp [ringEnd, apply_ite State.spine]; (repeat' split) <;> simp [apply_ite State.spine]
@[simp] theorem ringStart_spine (r : Nat) (seq : Word) (opcode : Nat) (s : State) : (ringStart r seq opcode s).spine = s.spine := by
  simp [ringStart, apply_ite State.spine]
@[simp] theorem ringOnce_spine (r : Nat) (status : Nat) (s : State) : (ringOnce r status s).spine = s.spine := by
  simp [ringOnce, apply_ite State.spine]; (repeat' split) <;> simp [apply_ite State.spine]
@[simp] theorem hostFail_spine (s : State) : (hostFail s).spine = s.spine := by
  simp [hostFail, apply_ite State.spine]
@[simp] theorem ringDo_spine (r : Nat) (op : Nat) (f : State → State) (s : State) (hf : ∀ x0, (f x0).spine = x0.spine) : (ringDo r op f s).spine = s.spine := by
  grind [ringDo]
@[simp] theorem copyIn_spine (r : Nat) (addr : Nat) (data : List Byte) (hostErr : Bool) (s : State) : (copyIn r addr data hostErr s).spine = s.spine := by
  grind [copyIn, State.sharedWr_spine, dramPut_spine, ringEnd_spine, ringOnce_spine, hostFail_spine]
@[simp] theorem copyOut_spine (r : Nat) (addr : Nat) (n : Nat) (res : Nat) (hostErr : Bool) (s : State) : (copyOut r addr n res hostErr s).spine = s.spine := by
  grind [copyOut, mtxErr_spine, dramGet_spine, give_spine, ringWr_spine, ringEnd_spine, ringOnce_spine, hostFail_spine]
@[simp] theorem mramWrite_spine (r : Nat) (ofs : Nat) (data : List Byte) (hostErr : Bool) (s : State) : (mramWrite r ofs data hostErr s).spine = s.spine := by
  simp [mramWrite, apply_ite State.spine]
@[simp] theorem ntsMint_spine (r : Nat) (block : List Byte) (addr : Nat) (s : State) : (ntsMint r block addr s).spine = s.spine := by
  simp [ntsMint, apply_ite State.spine]; (repeat' split) <;> simp [apply_ite State.spine]
@[simp] theorem journalDone_spine (s : State) : (journalDone s).spine = s.spine := by
  simp [journalDone, apply_ite State.spine]; (repeat' split) <;> simp [apply_ite State.spine]
@[simp] theorem txAdvance_spine (r : Nat) (s : State) : (txAdvance r s).spine = s.spine := by
  simp [txAdvance, apply_ite State.spine]
@[simp] theorem hostTx_spine (r : Nat) (port : Nat) (flags : Byte) (tag : Word) (data : List Byte) (dmaErr : Bool) (s : State) : (hostTx r port flags tag data dmaErr s).spine = s.spine := by
  grind [hostTx, State.count_spine, State.sharedWr_spine, queuePop_spine, blockPush_spine, hostFail_spine, txAdvance_spine]
@[simp] theorem ringsReset_spine (s : State) : (ringsReset s).spine = s.spine := by
  simp [ringsReset, apply_ite State.spine]
@[simp] theorem pcieLink_spine (up : Bool) (perst : Bool) (lanes : Nat) (gen : Nat) (s : State) : (pcieLink up perst lanes gen s).spine = s.spine := by
  simp [pcieLink, apply_ite State.spine]
theorem execCommandRingEntry_spine (r : Fin 4) (seq : Word) (opcode : BitVec 16) (s : State) : ∀ s_, execCommandRingEntry r seq opcode s = .next s_ → s_.spine = s.spine := by
  intro t h; unfold execCommandRingEntry at h; injection h with h; subst h; (repeat' split) <;> simp [apply_ite State.bt]
theorem execHostNop_spine (r : Fin 4) (s : State) : ∀ s_, execHostNop r s = .next s_ → s_.spine = s.spine := by
  intro t h; unfold execHostNop at h; injection h with h; subst h; (repeat' split) <;> simp [apply_ite State.bt]
theorem execCopyIn_spine (r : Fin 4) (addr : DWord) (data : List Byte) (hostErr : Bool) (s : State) : ∀ s_, execCopyIn r addr data hostErr s = .next s_ → s_.spine = s.spine := by
  intro t h; unfold execCopyIn at h; injection h with h; subst h; (repeat' split) <;> simp [apply_ite State.bt]
theorem execCopyOut_spine (r : Fin 4) (addr : DWord) (len : Word) (res : DWord) (hostErr : Bool) (s : State) : ∀ s_, execCopyOut r addr len res hostErr s = .next s_ → s_.spine = s.spine := by
  intro t h; unfold execCopyOut at h; injection h with h; subst h; (repeat' split) <;> simp [apply_ite State.bt]
theorem execMramWrite_spine (r : Fin 4) (ofs : Word) (data : List Byte) (hostErr : Bool) (s : State) : ∀ s_, execMramWrite r ofs data hostErr s = .next s_ → s_.spine = s.spine := by
  intro t h; grind [execMramWrite, cmdE_spine, ringDo_spine, mramWrite_spine]
theorem execNtsMint_spine (r : Fin 4) (block : List Byte) (addr : DWord) (s : State) : ∀ s_, execNtsMint r block addr s = .next s_ → s_.spine = s.spine := by
  intro t h; unfold execNtsMint at h; injection h with h; subst h; (repeat' split) <;> simp [apply_ite State.bt]
theorem execJdone_spine (s : State) : ∀ s_, execJdone s = .next s_ → s_.spine = s.spine := by
  intro t h; unfold execJdone at h; injection h with h; subst h; (repeat' split) <;> simp [apply_ite State.bt]
theorem execHostTxEntry_spine (r : Fin 4) (port : Byte) (flags : Byte) (tag : Word) (data : List Byte) (dmaErr : Bool) (s : State) : ∀ s_, execHostTxEntry r port flags tag data dmaErr s = .next s_ → s_.spine = s.spine := by
  intro t h; unfold execHostTxEntry at h; injection h with h; subst h; (repeat' split) <;> simp [apply_ite State.bt]
theorem execPcieLinkChange_spine (up : Bool) (perst : Bool) (lanes : BitVec 4) (gen : BitVec 3) (s : State) : ∀ s_, execPcieLinkChange up perst lanes gen s = .next s_ → s_.spine = s.spine := by
  intro t h; unfold execPcieLinkChange at h; injection h with h; subst h; (repeat' split) <;> simp [apply_ite State.bt]

/-! ### Regs -/

theorem writeCmd_spine (m : Master) (a : Nat) (n : Nat) (v : Nat) (s : State) : ∀ s_, writeCmd m a n v s = .next s_ → s_.spine = s.spine := by
  intro t h; simp [writeCmd] at h; subst h; simp
@[simp] theorem readAt_spine (m : Master) (a : Nat) (n : Nat) (s : State) : (readAt m a n s).spine = s.spine := by
  grind [readAt, busRead_spine, giveData_spine]
@[simp] theorem engLeave_spine (e : Nat) (n : Nat) (s : State) : (engLeave e n s).spine = s.spine := by
  simp [engLeave, apply_ite State.spine]
@[simp] theorem pageLeave_spine (k : PageKind) (inst : Nat) (s : State) : (pageLeave k inst s).spine = s.spine := by
  simp [pageLeave, apply_ite State.spine]; (repeat' split) <;> simp [apply_ite State.spine]
@[simp] theorem resetEnd_spine (pg : Nat) (s : State) : (resetEnd pg s).spine = s.spine := by
  simp [resetEnd, apply_ite State.spine]; (repeat' split) <;> simp [apply_ite State.spine]
@[simp] theorem safePoint_spine (pg : Nat) (s : State) : (safePoint pg s).spine = s.spine := by
  simp [safePoint, apply_ite State.spine]; (repeat' split) <;> simp [apply_ite State.spine]
theorem execRegisterWrite_spine (m : Master) (size : AccSize) (addr : BAddr) (v : DWord) (s : State) : ∀ s_, execRegisterWrite m size addr v s = .next s_ → s_.spine = s.spine := by
  intro s_ h
  unfold execRegisterWrite at h
  dsimp only at h
  split at h
  · exact writeCmd_spine _ _ _ _ _ _ h
  · exact writeCmd_spine _ _ _ _ _ _ h
  · exact writeCmd_spine _ _ _ _ _ _ h
  · split at h
    · injection h with h; subst h; simp
    · exact writeCmd_spine _ _ _ _ _ _ h
theorem execMultiwordLoRead_spine (m : Master) (r : ReadAt) (s : State) : ∀ s_, execMultiwordLoRead m r s = .next s_ → s_.spine = s.spine := by
  intro t h; unfold execMultiwordLoRead at h; injection h with h; subst h; (repeat' split) <;> simp [apply_ite State.bt]
theorem execMultiwordHiWrite_spine (m : Master) (addr : BAddr) (v : Word) (s : State) : ∀ s_, execMultiwordHiWrite m addr v s = .next s_ → s_.spine = s.spine := by
  intro t h; unfold execMultiwordHiWrite at h; injection h with h; subst h; simp [apply_ite State.bt]
theorem execReadClearCounterRead_spine (m : Master) (addr : BAddr) (inc : Bool) (s : State) : ∀ s_, execReadClearCounterRead m addr inc s = .next s_ → s_.spine = s.spine := by
  intro t h; unfold execReadClearCounterRead at h; injection h with h; subst h; (repeat' split) <;> simp [apply_ite State.bt]
theorem execEvtForceWrite_spine (m : Master) (page : BAddr) (v : Word) (s : State) : ∀ s_, execEvtForceWrite m page v s = .next s_ → s_.spine = s.spine := by
  intro t h; unfold execEvtForceWrite at h; injection h with h; subst h; simp [apply_ite State.bt]
theorem execSoftReset_spine (m : Master) (page : BAddr) (v : Word) (s : State) : ∀ s_, execSoftReset m page v s = .next s_ → s_.spine = s.spine := by
  intro t h; unfold execSoftReset at h; injection h with h; subst h; simp [apply_ite State.bt]
theorem execSoftResetComplete_spine (page : BAddr) (s : State) : ∀ s_, execSoftResetComplete page s = .next s_ → s_.spine = s.spine := by
  intro t h; simp [execSoftResetComplete] at h; subst h; simp
theorem execBlockEnable_spine (m : Master) (page : BAddr) (v : Word) (s : State) : ∀ s_, execBlockEnable m page v s = .next s_ → s_.spine = s.spine := by
  intro t h; unfold execBlockEnable at h; injection h with h; subst h; simp [apply_ite State.bt]
theorem execBlockFreeze_spine (m : Master) (page : BAddr) (v : Word) (s : State) : ∀ s_, execBlockFreeze m page v s = .next s_ → s_.spine = s.spine := by
  intro t h; unfold execBlockFreeze at h; injection h with h; subst h; simp [apply_ite State.bt]
theorem execFreezeSafePoint_spine (page : BAddr) (s : State) : ∀ s_, execFreezeSafePoint page s = .next s_ → s_.spine = s.spine := by
  intro t h; unfold execFreezeSafePoint at h; injection h with h; subst h; (repeat' split) <;> simp [apply_ite State.bt]
theorem execCfgLock_spine (m : Master) (page : BAddr) (v : Word) (s : State) : ∀ s_, execCfgLock m page v s = .next s_ → s_.spine = s.spine := by
  intro t h; unfold execCfgLock at h; injection h with h; subst h; simp [apply_ite State.bt]
theorem execB4modeWrite_spine (m : Master) (v : Word) (s : State) : ∀ s_, execB4modeWrite m v s = .next s_ → s_.spine = s.spine := by
  intro t h; unfold execB4modeWrite at h; injection h with h; subst h; simp [apply_ite State.bt]
theorem execServicePageWrite_spine (m : Master) (ofs : BitVec 12) (v : Word) (s : State) : ∀ s_, execServicePageWrite m ofs v s = .next s_ → s_.spine = s.spine := by
  intro t h; unfold execServicePageWrite at h; injection h with h; subst h; simp [apply_ite State.bt]

/-! ### Tick -/

@[simp] theorem countEngCycle_spine (s : State) : (countEngCycle s).spine = s.spine := by
  have h : ∀ (f : State → State), (∀ b, (f b).spine = b.spine) → ∀ n (t : State), (Nat.repeat f n t).spine = t.spine := by
    intro f hf n t
    induction n with
    | zero => rfl
    | succ n ih => exact (hf _).trans ih
  unfold countEngCycle
  split
  · rfl
  · refine foldl_spine ?_
    intro a k
    dsimp only
    rw [apply_ite State.spine, h _ ?_ _ a, ite_self]
    intro b
    have hb := bumpCtr_spine k b
    split <;> rename_i e <;> rw [e] at hb
    · exact (raiseEvt_spine ..).trans hb
    · exact hb
@[simp] theorem countCycle_spine (s : State) : (countCycle s).spine = s.spine := by
  have h : ∀ n (t : State), (Nat.repeat countEngCycle n t).spine = t.spine := by
    intro n t
    induction n with
    | zero => rfl
    | succ n ih => simp [Nat.repeat, ih]
  unfold countCycle
  split
  · rw [h]; simp
  · rfl
@[simp] theorem releaseHeld_spine (s : State) : (releaseHeld s).spine = s.spine := by
  simp [releaseHeld, apply_ite State.spine]
@[simp] theorem scalCycle_spine (s : State) : (scalCycle s).spine = s.spine := by
  simp [scalCycle, apply_ite State.spine]
@[simp] theorem uartCycle_spine (s : State) : (uartCycle s).spine = s.spine := by
  simp [uartCycle, apply_ite State.spine]
@[simp] theorem upstreamCycle_spine (s : State) : (upstreamCycle s).spine = s.spine := by
  simp [upstreamCycle, apply_ite State.spine]
@[simp] theorem mateCycle_spine (s : State) : (mateCycle s).spine = s.spine := by
  simp [mateCycle, apply_ite State.spine]
@[simp] theorem keyCycle_spine (s : State) : (keyCycle s).spine = s.spine := by
  simp [keyCycle, apply_ite State.spine]
@[simp] theorem answerCycle_spine (s : State) : (answerCycle s).spine = s.spine := by
  simp [answerCycle, apply_ite State.spine]
@[simp] theorem gnssCycle_spine (s : State) : (gnssCycle s).spine = s.spine := by
  simp [gnssCycle, apply_ite State.spine]

end Sys2Proof.Machine
end

