-- ==== Sys2Proof/Laws/Store.lean ====
section
/-! SUPPORT. Sparse stores: what a read gives after a write, and that every operation keeps the canonical form. -/
namespace Sys2Proof.Machine

/-! ### Sparse stores -/

theorem AMap.find_insert {α : Type} (m : AMap α) (k j : Nat) (v : α) :
    AMap.find (AMap.insert m k v) j = if k = j then some v else AMap.find m j := by
  induction m with
  | nil => simp [AMap.insert, AMap.find]
  | cons p t ih =>
    obtain ⟨i, w⟩ := p
    simp only [AMap.insert]
    split
    · simp [AMap.find]
    · split
      · simp only [AMap.find]; grind
      · simp only [AMap.find, ih]; grind

theorem AMap.find_erase {α : Type} (m : AMap α) (k j : Nat) :
    AMap.find (AMap.erase m k) j = if k = j then none else AMap.find m j := by
  induction m with
  | nil => simp [AMap.erase, AMap.find]
  | cons p t ih =>
    obtain ⟨i, w⟩ := p
    simp only [AMap.erase]
    split <;> simp only [AMap.find, ih] <;> grind

/-- Reading after a write: the value written at its key, every other key as before. -/
theorem AMap.getD_setD {α : Type} [DecidableEq α] (d : Nat → α) (m : AMap α) (k j : Nat) (v : α) :
    AMap.getD d (AMap.setD d m k v) j = if k = j then v else AMap.getD d m j := by
  unfold AMap.setD AMap.getD
  split
  · rw [AMap.find_erase]; split <;> simp_all
  · rw [AMap.find_insert]; split <;> simp_all

@[simp] theorem AMap.get_set {α : Type} [DecidableEq α] (d : α) (m : AMap α) (k j : Nat) (v : α) :
    AMap.get d (AMap.set d m k v) j = if k = j then v else AMap.get d m j := AMap.getD_setD ..

/-! ### The canonical form -/

/-- Every key of a store lies above k. -/
def AMap.above {α : Type} (k : Nat) (m : AMap α) : Prop := ∀ p ∈ m, k < p.1

theorem AMap.wf_cons {α : Type} [DecidableEq α] (d : Nat → α) (k : Nat) (v : α) (t : AMap α) :
    AMap.wf d ((k, v) :: t) = true ↔ v ≠ d k ∧ AMap.above k t ∧ AMap.wf d t = true := by
  induction t generalizing k v with
  | nil => simp [AMap.wf, AMap.above]
  | cons p t ih =>
    obtain ⟨j, w⟩ := p
    have h := ih j w
    simp only [AMap.wf, Bool.and_eq_true, decide_eq_true_eq]
    constructor
    · rintro ⟨⟨h1, h2⟩, h3⟩
      refine ⟨h1, ?_, h3⟩
      have h4 := (h.mp h3).2.1
      intro q hq
      rcases List.mem_cons.mp hq with rfl | hq
      · exact h2
      · exact Nat.lt_trans h2 (h4 q hq)
    · rintro ⟨h1, h2, h3⟩
      exact ⟨⟨h1, h2 (j, w) (List.mem_cons_self ..)⟩, h3⟩

theorem AMap.above_erase {α : Type} {k : Nat} {m : AMap α} (j : Nat) (h : AMap.above k m) : AMap.above k (AMap.erase m j) := by
  induction m with
  | nil => simpa [AMap.erase] using h
  | cons p t ih =>
    obtain ⟨i, w⟩ := p
    have ht : AMap.above k t := fun q hq => h q (List.mem_cons_of_mem _ hq)
    simp only [AMap.erase]
    split
    · exact ih ht
    · intro q hq
      rcases List.mem_cons.mp hq with rfl | hq
      · exact h _ (List.mem_cons_self ..)
      · exact ih ht q hq

/-- Removing an entry keeps the canonical form. -/
theorem AMap.wf_erase {α : Type} [DecidableEq α] {d : Nat → α} {m : AMap α} (j : Nat) (h : AMap.wf d m = true) :
    AMap.wf d (AMap.erase m j) = true := by
  induction m with
  | nil => rfl
  | cons p t ih =>
    obtain ⟨i, w⟩ := p
    have h' := (AMap.wf_cons d i w t).mp h
    simp only [AMap.erase]
    split
    · exact ih h'.2.2
    · exact (AMap.wf_cons d i w _).mpr ⟨h'.1, AMap.above_erase j h'.2.1, ih h'.2.2⟩

theorem AMap.above_insert {α : Type} {k : Nat} {m : AMap α} {j : Nat} (v : α) (hj : k < j) (h : AMap.above k m) :
    AMap.above k (AMap.insert m j v) := by
  induction m with
  | nil => intro q hq; simp [AMap.insert] at hq; subst hq; exact hj
  | cons p t ih =>
    obtain ⟨i, w⟩ := p
    have ht : AMap.above k t := fun q hq => h q (List.mem_cons_of_mem _ hq)
    simp only [AMap.insert]
    split
    · intro q hq
      rcases List.mem_cons.mp hq with rfl | hq
      · exact hj
      · exact h q hq
    · split
      · intro q hq
        rcases List.mem_cons.mp hq with rfl | hq
        · exact hj
        · exact ht q hq
      · intro q hq
        rcases List.mem_cons.mp hq with rfl | hq
        · exact h _ (List.mem_cons_self ..)
        · exact ih ht q hq

/-- Listing a value that is not the default keeps the canonical form. -/
theorem AMap.wf_insert {α : Type} [DecidableEq α] {d : Nat → α} {m : AMap α} {j : Nat} {v : α} (hv : v ≠ d j)
    (h : AMap.wf d m = true) : AMap.wf d (AMap.insert m j v) = true := by
  induction m with
  | nil => simpa [AMap.insert, AMap.wf] using hv
  | cons p t ih =>
    obtain ⟨i, w⟩ := p
    have h' := (AMap.wf_cons d i w t).mp h
    simp only [AMap.insert]
    split
    · rename_i hlt
      refine (AMap.wf_cons d j v _).mpr ⟨hv, ?_, h⟩
      intro q hq
      rcases List.mem_cons.mp hq with rfl | hq
      · exact hlt
      · exact Nat.lt_trans hlt (h'.2.1 q hq)
    · split
      · rename_i heq
        subst heq
        exact (AMap.wf_cons d _ v t).mpr ⟨hv, h'.2.1, h'.2.2⟩
      · rename_i h1 h2
        have hij : i < j := by omega
        exact (AMap.wf_cons d i w _).mpr ⟨h'.1, AMap.above_insert v hij h'.2.1, ih h'.2.2⟩

/-- Storing a value keeps the canonical form. -/
theorem AMap.wf_setD {α : Type} [DecidableEq α] {d : Nat → α} {m : AMap α} (j : Nat) (v : α) (h : AMap.wf d m = true) :
    AMap.wf d (AMap.setD d m j v) = true := by
  unfold AMap.setD
  split
  · exact AMap.wf_erase j h
  · rename_i hv; exact AMap.wf_insert hv h

/-- Dropping entries keeps the canonical form. -/
theorem AMap.wf_filter {α : Type} [DecidableEq α] {d : Nat → α} {m : AMap α} (f : Nat × α → Bool) (h : AMap.wf d m = true) :
    AMap.wf d (m.filter f) = true := by
  induction m with
  | nil => rfl
  | cons p t ih =>
    obtain ⟨i, w⟩ := p
    have h' := (AMap.wf_cons d i w t).mp h
    rw [List.filter_cons]
    split
    · refine (AMap.wf_cons d i w _).mpr ⟨h'.1, ?_, ih h'.2.2⟩
      intro q hq
      exact h'.2.1 q (List.mem_filter.mp hq).1
    · exact ih h'.2.2

/-- Clearing a range keeps the canonical form. -/
theorem AMap.wf_clearRange {α : Type} [DecidableEq α] {d : Nat → α} {m : AMap α} (lo n : Nat) (h : AMap.wf d m = true) :
    AMap.wf d (m.clearRange lo n) = true := AMap.wf_filter _ h

/-- Writing bytes keeps a memory's canonical form. -/
theorem wf_writeBytes {m : AMap Byte} (a : Nat) (l : List Byte) (h : Memory.wf m = true) : Memory.wf (writeBytes m a l) = true := by
  induction l generalizing m a with
  | nil => exact h
  | cons b t ih => exact ih (a + 1) (AMap.wf_setD a b h)

/-- A register write keeps the register file's canonical form. -/
theorem State.wf_setReg {s : State} (a : Nat) (v : Word) (h : AMap.wf resetAt s.regs = true) :
    AMap.wf resetAt (s.setReg a v).regs = true := AMap.wf_setD a v h

/-- A write of shared SRAM keeps its canonical form. -/
theorem State.wf_sramWr {s : State} (a : Nat) (l : List Byte) (h : Memory.wf s.sram = true) : Memory.wf (s.sramWr a l).sram = true :=
  wf_writeBytes a l h

/-- A write of DRAM keeps its canonical form. -/
theorem State.wf_dramWr {s : State} (a : Nat) (l : List Byte) (h : Memory.wf s.dram = true) : Memory.wf (s.dramWr a l).dram = true :=
  wf_writeBytes a l h

/-- A byte reads what was written there, and every other byte reads as before. -/
theorem get_writeBytes (m : AMap Byte) (a : Nat) (l : List Byte) (j : Nat) :
    AMap.get 0 (writeBytes m a l) j = if a ≤ j ∧ j < a + l.length then l.getD (j - a) 0 else AMap.get 0 m j := by
  induction l generalizing m a with
  | nil => simp [writeBytes] <;> omega
  | cons b t ih =>
    rw [writeBytes, ih, AMap.get_set]
    by_cases h1 : a + 1 ≤ j ∧ j < a + 1 + t.length
    · have h2 : a ≤ j ∧ j < a + (b :: t).length := by simp; omega
      have h3 : j - a = j - (a + 1) + 1 := by omega
      rw [if_pos h1, if_pos h2, h3]; rfl
    · rw [if_neg h1]
      by_cases h4 : a = j
      · subst h4; simp
      · have h5 : ¬(a ≤ j ∧ j < a + (b :: t).length) := by simp; omega
        rw [if_neg h4, if_neg h5]

end Sys2Proof.Machine
end

