-- ==== Sys2Proof/Laws/State.lean ====
section
/-! SUPPORT. What each named operation over the state leaves unchanged, one lemma for each field; and what a register reads after a
write of one. -/
namespace Sys2Proof.Machine

/-! ### setReg -/

@[simp] theorem State.setReg_bt (s : State) (a : Nat) (v : Word) : (s.setReg a v).bt = s.bt := rfl
@[simp] theorem State.setReg_btRun (s : State) (a : Nat) (v : Word) : (s.setReg a v).btRun = s.btRun := rfl
@[simp] theorem State.setReg_thisCyc (s : State) (a : Nat) (v : Word) : (s.setReg a v).thisCyc = s.thisCyc := rfl
@[simp] theorem State.setReg_staged (s : State) (a : Nat) (v : Word) : (s.setReg a v).staged = s.staged := rfl
@[simp] theorem State.setReg_shadow (s : State) (a : Nat) (v : Word) : (s.setReg a v).shadow = s.shadow := rfl
@[simp] theorem State.setReg_sram (s : State) (a : Nat) (v : Word) : (s.setReg a v).sram = s.sram := rfl
@[simp] theorem State.setReg_dram (s : State) (a : Nat) (v : Word) : (s.setReg a v).dram = s.dram := rfl
@[simp] theorem State.setReg_mram (s : State) (a : Nat) (v : Word) : (s.setReg a v).mram = s.mram := rfl
@[simp] theorem State.setReg_badWords (s : State) (a : Nat) (v : Word) : (s.setReg a v).badWords = s.badWords := rfl
@[simp] theorem State.setReg_free (s : State) (a : Nat) (v : Word) : (s.setReg a v).free = s.free := rfl
@[simp] theorem State.setReg_out (s : State) (a : Nat) (v : Word) : (s.setReg a v).out = s.out := rfl
@[simp] theorem State.setReg_bdr (s : State) (a : Nat) (v : Word) : (s.setReg a v).bdr = s.bdr := rfl
@[simp] theorem State.setReg_act (s : State) (a : Nat) (v : Word) : (s.setReg a v).act = s.act := rfl
@[simp] theorem State.setReg_asy (s : State) (a : Nat) (v : Word) : (s.setReg a v).asy = s.asy := rfl
@[simp] theorem State.setReg_fct (s : State) (a : Nat) (v : Word) : (s.setReg a v).fct = s.fct := rfl
@[simp] theorem State.setReg_flt (s : State) (a : Nat) (v : Word) : (s.setReg a v).flt = s.flt := rfl
@[simp] theorem State.setReg_mtx (s : State) (a : Nat) (v : Word) : (s.setReg a v).mtx = s.mtx := rfl
@[simp] theorem State.setReg_jtagErr (s : State) (a : Nat) (v : Word) : (s.setReg a v).jtagErr = s.jtagErr := rfl
@[simp] theorem State.setReg_ddr (s : State) (a : Nat) (v : Word) : (s.setReg a v).ddr = s.ddr := rfl
@[simp] theorem State.setReg_mrm (s : State) (a : Nat) (v : Word) : (s.setReg a v).mrm = s.mrm := rfl
@[simp] theorem State.setReg_pci (s : State) (a : Nat) (v : Word) : (s.setReg a v).pci = s.pci := rfl
@[simp] theorem State.setReg_lsp (s : State) (a : Nat) (v : Word) : (s.setReg a v).lsp = s.lsp := rfl
@[simp] theorem State.setReg_tsu (s : State) (a : Nat) (v : Word) : (s.setReg a v).tsu = s.tsu := rfl
@[simp] theorem State.setReg_mate (s : State) (a : Nat) (v : Word) : (s.setReg a v).mate = s.mate := rfl
@[simp] theorem State.setReg_pwr (s : State) (a : Nat) (v : Word) : (s.setReg a v).pwr = s.pwr := rfl
@[simp] theorem State.setReg_geo (s : State) (a : Nat) (v : Word) : (s.setReg a v).geo = s.geo := rfl
@[simp] theorem State.setReg_ref (s : State) (a : Nat) (v : Word) : (s.setReg a v).ref = s.ref := rfl
@[simp] theorem State.setReg_dpl (s : State) (a : Nat) (v : Word) : (s.setReg a v).dpl = s.dpl := rfl
@[simp] theorem State.setReg_syn (s : State) (a : Nat) (v : Word) : (s.setReg a v).syn = s.syn := rfl
@[simp] theorem State.setReg_outs (s : State) (a : Nat) (v : Word) : (s.setReg a v).outs = s.outs := rfl
@[simp] theorem State.setReg_tdc (s : State) (a : Nat) (v : Word) : (s.setReg a v).tdc = s.tdc := rfl
@[simp] theorem State.setReg_gns (s : State) (a : Nat) (v : Word) : (s.setReg a v).gns = s.gns := rfl
@[simp] theorem State.setReg_ant (s : State) (a : Nat) (v : Word) : (s.setReg a v).ant = s.ant := rfl
@[simp] theorem State.setReg_prt (s : State) (a : Nat) (v : Word) : (s.setReg a v).prt = s.prt := rfl
@[simp] theorem State.setReg_svc (s : State) (a : Nat) (v : Word) : (s.setReg a v).svc = s.svc := rfl
@[simp] theorem State.setReg_sch (s : State) (a : Nat) (v : Word) : (s.setReg a v).sch = s.sch := rfl
@[simp] theorem State.setReg_pol (s : State) (a : Nat) (v : Word) : (s.setReg a v).pol = s.pol := rfl
@[simp] theorem State.setReg_key (s : State) (a : Nat) (v : Word) : (s.setReg a v).key = s.key := rfl
@[simp] theorem State.setReg_trn (s : State) (a : Nat) (v : Word) : (s.setReg a v).trn = s.trn := rfl
@[simp] theorem State.setReg_cry (s : State) (a : Nat) (v : Word) : (s.setReg a v).cry = s.cry := rfl
@[simp] theorem State.setReg_lcs (s : State) (a : Nat) (v : Word) : (s.setReg a v).lcs = s.lcs := rfl
@[simp] theorem State.setReg_pending (s : State) (a : Nat) (v : Word) : (s.setReg a v).pending = s.pending := rfl

/-! ### setRf -/

@[simp] theorem State.setRf_bt (s : State) (a lo n v : Nat) : (s.setRf a lo n v).bt = s.bt := rfl
@[simp] theorem State.setRf_btRun (s : State) (a lo n v : Nat) : (s.setRf a lo n v).btRun = s.btRun := rfl
@[simp] theorem State.setRf_thisCyc (s : State) (a lo n v : Nat) : (s.setRf a lo n v).thisCyc = s.thisCyc := rfl
@[simp] theorem State.setRf_staged (s : State) (a lo n v : Nat) : (s.setRf a lo n v).staged = s.staged := rfl
@[simp] theorem State.setRf_shadow (s : State) (a lo n v : Nat) : (s.setRf a lo n v).shadow = s.shadow := rfl
@[simp] theorem State.setRf_sram (s : State) (a lo n v : Nat) : (s.setRf a lo n v).sram = s.sram := rfl
@[simp] theorem State.setRf_dram (s : State) (a lo n v : Nat) : (s.setRf a lo n v).dram = s.dram := rfl
@[simp] theorem State.setRf_mram (s : State) (a lo n v : Nat) : (s.setRf a lo n v).mram = s.mram := rfl
@[simp] theorem State.setRf_badWords (s : State) (a lo n v : Nat) : (s.setRf a lo n v).badWords = s.badWords := rfl
@[simp] theorem State.setRf_free (s : State) (a lo n v : Nat) : (s.setRf a lo n v).free = s.free := rfl
@[simp] theorem State.setRf_out (s : State) (a lo n v : Nat) : (s.setRf a lo n v).out = s.out := rfl
@[simp] theorem State.setRf_bdr (s : State) (a lo n v : Nat) : (s.setRf a lo n v).bdr = s.bdr := rfl
@[simp] theorem State.setRf_act (s : State) (a lo n v : Nat) : (s.setRf a lo n v).act = s.act := rfl
@[simp] theorem State.setRf_asy (s : State) (a lo n v : Nat) : (s.setRf a lo n v).asy = s.asy := rfl
@[simp] theorem State.setRf_fct (s : State) (a lo n v : Nat) : (s.setRf a lo n v).fct = s.fct := rfl
@[simp] theorem State.setRf_flt (s : State) (a lo n v : Nat) : (s.setRf a lo n v).flt = s.flt := rfl
@[simp] theorem State.setRf_mtx (s : State) (a lo n v : Nat) : (s.setRf a lo n v).mtx = s.mtx := rfl
@[simp] theorem State.setRf_jtagErr (s : State) (a lo n v : Nat) : (s.setRf a lo n v).jtagErr = s.jtagErr := rfl
@[simp] theorem State.setRf_ddr (s : State) (a lo n v : Nat) : (s.setRf a lo n v).ddr = s.ddr := rfl
@[simp] theorem State.setRf_mrm (s : State) (a lo n v : Nat) : (s.setRf a lo n v).mrm = s.mrm := rfl
@[simp] theorem State.setRf_pci (s : State) (a lo n v : Nat) : (s.setRf a lo n v).pci = s.pci := rfl
@[simp] theorem State.setRf_lsp (s : State) (a lo n v : Nat) : (s.setRf a lo n v).lsp = s.lsp := rfl
@[simp] theorem State.setRf_tsu (s : State) (a lo n v : Nat) : (s.setRf a lo n v).tsu = s.tsu := rfl
@[simp] theorem State.setRf_mate (s : State) (a lo n v : Nat) : (s.setRf a lo n v).mate = s.mate := rfl
@[simp] theorem State.setRf_pwr (s : State) (a lo n v : Nat) : (s.setRf a lo n v).pwr = s.pwr := rfl
@[simp] theorem State.setRf_geo (s : State) (a lo n v : Nat) : (s.setRf a lo n v).geo = s.geo := rfl
@[simp] theorem State.setRf_ref (s : State) (a lo n v : Nat) : (s.setRf a lo n v).ref = s.ref := rfl
@[simp] theorem State.setRf_dpl (s : State) (a lo n v : Nat) : (s.setRf a lo n v).dpl = s.dpl := rfl
@[simp] theorem State.setRf_syn (s : State) (a lo n v : Nat) : (s.setRf a lo n v).syn = s.syn := rfl
@[simp] theorem State.setRf_outs (s : State) (a lo n v : Nat) : (s.setRf a lo n v).outs = s.outs := rfl
@[simp] theorem State.setRf_tdc (s : State) (a lo n v : Nat) : (s.setRf a lo n v).tdc = s.tdc := rfl
@[simp] theorem State.setRf_gns (s : State) (a lo n v : Nat) : (s.setRf a lo n v).gns = s.gns := rfl
@[simp] theorem State.setRf_ant (s : State) (a lo n v : Nat) : (s.setRf a lo n v).ant = s.ant := rfl
@[simp] theorem State.setRf_prt (s : State) (a lo n v : Nat) : (s.setRf a lo n v).prt = s.prt := rfl
@[simp] theorem State.setRf_svc (s : State) (a lo n v : Nat) : (s.setRf a lo n v).svc = s.svc := rfl
@[simp] theorem State.setRf_sch (s : State) (a lo n v : Nat) : (s.setRf a lo n v).sch = s.sch := rfl
@[simp] theorem State.setRf_pol (s : State) (a lo n v : Nat) : (s.setRf a lo n v).pol = s.pol := rfl
@[simp] theorem State.setRf_key (s : State) (a lo n v : Nat) : (s.setRf a lo n v).key = s.key := rfl
@[simp] theorem State.setRf_trn (s : State) (a lo n v : Nat) : (s.setRf a lo n v).trn = s.trn := rfl
@[simp] theorem State.setRf_cry (s : State) (a lo n v : Nat) : (s.setRf a lo n v).cry = s.cry := rfl
@[simp] theorem State.setRf_lcs (s : State) (a lo n v : Nat) : (s.setRf a lo n v).lcs = s.lcs := rfl
@[simp] theorem State.setRf_pending (s : State) (a lo n v : Nat) : (s.setRf a lo n v).pending = s.pending := rfl

/-! ### setRb -/

@[simp] theorem State.setRb_bt (s : State) (a i : Nat) (b : Bool) : (s.setRb a i b).bt = s.bt := rfl
@[simp] theorem State.setRb_btRun (s : State) (a i : Nat) (b : Bool) : (s.setRb a i b).btRun = s.btRun := rfl
@[simp] theorem State.setRb_thisCyc (s : State) (a i : Nat) (b : Bool) : (s.setRb a i b).thisCyc = s.thisCyc := rfl
@[simp] theorem State.setRb_staged (s : State) (a i : Nat) (b : Bool) : (s.setRb a i b).staged = s.staged := rfl
@[simp] theorem State.setRb_shadow (s : State) (a i : Nat) (b : Bool) : (s.setRb a i b).shadow = s.shadow := rfl
@[simp] theorem State.setRb_sram (s : State) (a i : Nat) (b : Bool) : (s.setRb a i b).sram = s.sram := rfl
@[simp] theorem State.setRb_dram (s : State) (a i : Nat) (b : Bool) : (s.setRb a i b).dram = s.dram := rfl
@[simp] theorem State.setRb_mram (s : State) (a i : Nat) (b : Bool) : (s.setRb a i b).mram = s.mram := rfl
@[simp] theorem State.setRb_badWords (s : State) (a i : Nat) (b : Bool) : (s.setRb a i b).badWords = s.badWords := rfl
@[simp] theorem State.setRb_free (s : State) (a i : Nat) (b : Bool) : (s.setRb a i b).free = s.free := rfl
@[simp] theorem State.setRb_out (s : State) (a i : Nat) (b : Bool) : (s.setRb a i b).out = s.out := rfl
@[simp] theorem State.setRb_bdr (s : State) (a i : Nat) (b : Bool) : (s.setRb a i b).bdr = s.bdr := rfl
@[simp] theorem State.setRb_act (s : State) (a i : Nat) (b : Bool) : (s.setRb a i b).act = s.act := rfl
@[simp] theorem State.setRb_asy (s : State) (a i : Nat) (b : Bool) : (s.setRb a i b).asy = s.asy := rfl
@[simp] theorem State.setRb_fct (s : State) (a i : Nat) (b : Bool) : (s.setRb a i b).fct = s.fct := rfl
@[simp] theorem State.setRb_flt (s : State) (a i : Nat) (b : Bool) : (s.setRb a i b).flt = s.flt := rfl
@[simp] theorem State.setRb_mtx (s : State) (a i : Nat) (b : Bool) : (s.setRb a i b).mtx = s.mtx := rfl
@[simp] theorem State.setRb_jtagErr (s : State) (a i : Nat) (b : Bool) : (s.setRb a i b).jtagErr = s.jtagErr := rfl
@[simp] theorem State.setRb_ddr (s : State) (a i : Nat) (b : Bool) : (s.setRb a i b).ddr = s.ddr := rfl
@[simp] theorem State.setRb_mrm (s : State) (a i : Nat) (b : Bool) : (s.setRb a i b).mrm = s.mrm := rfl
@[simp] theorem State.setRb_pci (s : State) (a i : Nat) (b : Bool) : (s.setRb a i b).pci = s.pci := rfl
@[simp] theorem State.setRb_lsp (s : State) (a i : Nat) (b : Bool) : (s.setRb a i b).lsp = s.lsp := rfl
@[simp] theorem State.setRb_tsu (s : State) (a i : Nat) (b : Bool) : (s.setRb a i b).tsu = s.tsu := rfl
@[simp] theorem State.setRb_mate (s : State) (a i : Nat) (b : Bool) : (s.setRb a i b).mate = s.mate := rfl
@[simp] theorem State.setRb_pwr (s : State) (a i : Nat) (b : Bool) : (s.setRb a i b).pwr = s.pwr := rfl
@[simp] theorem State.setRb_geo (s : State) (a i : Nat) (b : Bool) : (s.setRb a i b).geo = s.geo := rfl
@[simp] theorem State.setRb_ref (s : State) (a i : Nat) (b : Bool) : (s.setRb a i b).ref = s.ref := rfl
@[simp] theorem State.setRb_dpl (s : State) (a i : Nat) (b : Bool) : (s.setRb a i b).dpl = s.dpl := rfl
@[simp] theorem State.setRb_syn (s : State) (a i : Nat) (b : Bool) : (s.setRb a i b).syn = s.syn := rfl
@[simp] theorem State.setRb_outs (s : State) (a i : Nat) (b : Bool) : (s.setRb a i b).outs = s.outs := rfl
@[simp] theorem State.setRb_tdc (s : State) (a i : Nat) (b : Bool) : (s.setRb a i b).tdc = s.tdc := rfl
@[simp] theorem State.setRb_gns (s : State) (a i : Nat) (b : Bool) : (s.setRb a i b).gns = s.gns := rfl
@[simp] theorem State.setRb_ant (s : State) (a i : Nat) (b : Bool) : (s.setRb a i b).ant = s.ant := rfl
@[simp] theorem State.setRb_prt (s : State) (a i : Nat) (b : Bool) : (s.setRb a i b).prt = s.prt := rfl
@[simp] theorem State.setRb_svc (s : State) (a i : Nat) (b : Bool) : (s.setRb a i b).svc = s.svc := rfl
@[simp] theorem State.setRb_sch (s : State) (a i : Nat) (b : Bool) : (s.setRb a i b).sch = s.sch := rfl
@[simp] theorem State.setRb_pol (s : State) (a i : Nat) (b : Bool) : (s.setRb a i b).pol = s.pol := rfl
@[simp] theorem State.setRb_key (s : State) (a i : Nat) (b : Bool) : (s.setRb a i b).key = s.key := rfl
@[simp] theorem State.setRb_trn (s : State) (a i : Nat) (b : Bool) : (s.setRb a i b).trn = s.trn := rfl
@[simp] theorem State.setRb_cry (s : State) (a i : Nat) (b : Bool) : (s.setRb a i b).cry = s.cry := rfl
@[simp] theorem State.setRb_lcs (s : State) (a i : Nat) (b : Bool) : (s.setRb a i b).lcs = s.lcs := rfl
@[simp] theorem State.setRb_pending (s : State) (a i : Nat) (b : Bool) : (s.setRb a i b).pending = s.pending := rfl

/-! ### countBy -/

@[simp] theorem State.countBy_bt (s : State) (a n : Nat) : (s.countBy a n).bt = s.bt := rfl
@[simp] theorem State.countBy_btRun (s : State) (a n : Nat) : (s.countBy a n).btRun = s.btRun := rfl
@[simp] theorem State.countBy_thisCyc (s : State) (a n : Nat) : (s.countBy a n).thisCyc = s.thisCyc := rfl
@[simp] theorem State.countBy_staged (s : State) (a n : Nat) : (s.countBy a n).staged = s.staged := rfl
@[simp] theorem State.countBy_shadow (s : State) (a n : Nat) : (s.countBy a n).shadow = s.shadow := rfl
@[simp] theorem State.countBy_sram (s : State) (a n : Nat) : (s.countBy a n).sram = s.sram := rfl
@[simp] theorem State.countBy_dram (s : State) (a n : Nat) : (s.countBy a n).dram = s.dram := rfl
@[simp] theorem State.countBy_mram (s : State) (a n : Nat) : (s.countBy a n).mram = s.mram := rfl
@[simp] theorem State.countBy_badWords (s : State) (a n : Nat) : (s.countBy a n).badWords = s.badWords := rfl
@[simp] theorem State.countBy_free (s : State) (a n : Nat) : (s.countBy a n).free = s.free := rfl
@[simp] theorem State.countBy_out (s : State) (a n : Nat) : (s.countBy a n).out = s.out := rfl
@[simp] theorem State.countBy_bdr (s : State) (a n : Nat) : (s.countBy a n).bdr = s.bdr := rfl
@[simp] theorem State.countBy_act (s : State) (a n : Nat) : (s.countBy a n).act = s.act := rfl
@[simp] theorem State.countBy_asy (s : State) (a n : Nat) : (s.countBy a n).asy = s.asy := rfl
@[simp] theorem State.countBy_fct (s : State) (a n : Nat) : (s.countBy a n).fct = s.fct := rfl
@[simp] theorem State.countBy_flt (s : State) (a n : Nat) : (s.countBy a n).flt = s.flt := rfl
@[simp] theorem State.countBy_mtx (s : State) (a n : Nat) : (s.countBy a n).mtx = s.mtx := rfl
@[simp] theorem State.countBy_jtagErr (s : State) (a n : Nat) : (s.countBy a n).jtagErr = s.jtagErr := rfl
@[simp] theorem State.countBy_ddr (s : State) (a n : Nat) : (s.countBy a n).ddr = s.ddr := rfl
@[simp] theorem State.countBy_mrm (s : State) (a n : Nat) : (s.countBy a n).mrm = s.mrm := rfl
@[simp] theorem State.countBy_pci (s : State) (a n : Nat) : (s.countBy a n).pci = s.pci := rfl
@[simp] theorem State.countBy_lsp (s : State) (a n : Nat) : (s.countBy a n).lsp = s.lsp := rfl
@[simp] theorem State.countBy_tsu (s : State) (a n : Nat) : (s.countBy a n).tsu = s.tsu := rfl
@[simp] theorem State.countBy_mate (s : State) (a n : Nat) : (s.countBy a n).mate = s.mate := rfl
@[simp] theorem State.countBy_pwr (s : State) (a n : Nat) : (s.countBy a n).pwr = s.pwr := rfl
@[simp] theorem State.countBy_geo (s : State) (a n : Nat) : (s.countBy a n).geo = s.geo := rfl
@[simp] theorem State.countBy_ref (s : State) (a n : Nat) : (s.countBy a n).ref = s.ref := rfl
@[simp] theorem State.countBy_dpl (s : State) (a n : Nat) : (s.countBy a n).dpl = s.dpl := rfl
@[simp] theorem State.countBy_syn (s : State) (a n : Nat) : (s.countBy a n).syn = s.syn := rfl
@[simp] theorem State.countBy_outs (s : State) (a n : Nat) : (s.countBy a n).outs = s.outs := rfl
@[simp] theorem State.countBy_tdc (s : State) (a n : Nat) : (s.countBy a n).tdc = s.tdc := rfl
@[simp] theorem State.countBy_gns (s : State) (a n : Nat) : (s.countBy a n).gns = s.gns := rfl
@[simp] theorem State.countBy_ant (s : State) (a n : Nat) : (s.countBy a n).ant = s.ant := rfl
@[simp] theorem State.countBy_prt (s : State) (a n : Nat) : (s.countBy a n).prt = s.prt := rfl
@[simp] theorem State.countBy_svc (s : State) (a n : Nat) : (s.countBy a n).svc = s.svc := rfl
@[simp] theorem State.countBy_sch (s : State) (a n : Nat) : (s.countBy a n).sch = s.sch := rfl
@[simp] theorem State.countBy_pol (s : State) (a n : Nat) : (s.countBy a n).pol = s.pol := rfl
@[simp] theorem State.countBy_key (s : State) (a n : Nat) : (s.countBy a n).key = s.key := rfl
@[simp] theorem State.countBy_trn (s : State) (a n : Nat) : (s.countBy a n).trn = s.trn := rfl
@[simp] theorem State.countBy_cry (s : State) (a n : Nat) : (s.countBy a n).cry = s.cry := rfl
@[simp] theorem State.countBy_lcs (s : State) (a n : Nat) : (s.countBy a n).lcs = s.lcs := rfl
@[simp] theorem State.countBy_pending (s : State) (a n : Nat) : (s.countBy a n).pending = s.pending := rfl

/-! ### count -/

@[simp] theorem State.count_bt (s : State) (a : Nat) : (s.count a).bt = s.bt := rfl
@[simp] theorem State.count_btRun (s : State) (a : Nat) : (s.count a).btRun = s.btRun := rfl
@[simp] theorem State.count_thisCyc (s : State) (a : Nat) : (s.count a).thisCyc = s.thisCyc := rfl
@[simp] theorem State.count_staged (s : State) (a : Nat) : (s.count a).staged = s.staged := rfl
@[simp] theorem State.count_shadow (s : State) (a : Nat) : (s.count a).shadow = s.shadow := rfl
@[simp] theorem State.count_sram (s : State) (a : Nat) : (s.count a).sram = s.sram := rfl
@[simp] theorem State.count_dram (s : State) (a : Nat) : (s.count a).dram = s.dram := rfl
@[simp] theorem State.count_mram (s : State) (a : Nat) : (s.count a).mram = s.mram := rfl
@[simp] theorem State.count_badWords (s : State) (a : Nat) : (s.count a).badWords = s.badWords := rfl
@[simp] theorem State.count_free (s : State) (a : Nat) : (s.count a).free = s.free := rfl
@[simp] theorem State.count_out (s : State) (a : Nat) : (s.count a).out = s.out := rfl
@[simp] theorem State.count_bdr (s : State) (a : Nat) : (s.count a).bdr = s.bdr := rfl
@[simp] theorem State.count_act (s : State) (a : Nat) : (s.count a).act = s.act := rfl
@[simp] theorem State.count_asy (s : State) (a : Nat) : (s.count a).asy = s.asy := rfl
@[simp] theorem State.count_fct (s : State) (a : Nat) : (s.count a).fct = s.fct := rfl
@[simp] theorem State.count_flt (s : State) (a : Nat) : (s.count a).flt = s.flt := rfl
@[simp] theorem State.count_mtx (s : State) (a : Nat) : (s.count a).mtx = s.mtx := rfl
@[simp] theorem State.count_jtagErr (s : State) (a : Nat) : (s.count a).jtagErr = s.jtagErr := rfl
@[simp] theorem State.count_ddr (s : State) (a : Nat) : (s.count a).ddr = s.ddr := rfl
@[simp] theorem State.count_mrm (s : State) (a : Nat) : (s.count a).mrm = s.mrm := rfl
@[simp] theorem State.count_pci (s : State) (a : Nat) : (s.count a).pci = s.pci := rfl
@[simp] theorem State.count_lsp (s : State) (a : Nat) : (s.count a).lsp = s.lsp := rfl
@[simp] theorem State.count_tsu (s : State) (a : Nat) : (s.count a).tsu = s.tsu := rfl
@[simp] theorem State.count_mate (s : State) (a : Nat) : (s.count a).mate = s.mate := rfl
@[simp] theorem State.count_pwr (s : State) (a : Nat) : (s.count a).pwr = s.pwr := rfl
@[simp] theorem State.count_geo (s : State) (a : Nat) : (s.count a).geo = s.geo := rfl
@[simp] theorem State.count_ref (s : State) (a : Nat) : (s.count a).ref = s.ref := rfl
@[simp] theorem State.count_dpl (s : State) (a : Nat) : (s.count a).dpl = s.dpl := rfl
@[simp] theorem State.count_syn (s : State) (a : Nat) : (s.count a).syn = s.syn := rfl
@[simp] theorem State.count_outs (s : State) (a : Nat) : (s.count a).outs = s.outs := rfl
@[simp] theorem State.count_tdc (s : State) (a : Nat) : (s.count a).tdc = s.tdc := rfl
@[simp] theorem State.count_gns (s : State) (a : Nat) : (s.count a).gns = s.gns := rfl
@[simp] theorem State.count_ant (s : State) (a : Nat) : (s.count a).ant = s.ant := rfl
@[simp] theorem State.count_prt (s : State) (a : Nat) : (s.count a).prt = s.prt := rfl
@[simp] theorem State.count_svc (s : State) (a : Nat) : (s.count a).svc = s.svc := rfl
@[simp] theorem State.count_sch (s : State) (a : Nat) : (s.count a).sch = s.sch := rfl
@[simp] theorem State.count_pol (s : State) (a : Nat) : (s.count a).pol = s.pol := rfl
@[simp] theorem State.count_key (s : State) (a : Nat) : (s.count a).key = s.key := rfl
@[simp] theorem State.count_trn (s : State) (a : Nat) : (s.count a).trn = s.trn := rfl
@[simp] theorem State.count_cry (s : State) (a : Nat) : (s.count a).cry = s.cry := rfl
@[simp] theorem State.count_lcs (s : State) (a : Nat) : (s.count a).lcs = s.lcs := rfl
@[simp] theorem State.count_pending (s : State) (a : Nat) : (s.count a).pending = s.pending := rfl

/-! ### resetRegs -/

@[simp] theorem State.resetRegs_bt (s : State) (lo n : Nat) : (s.resetRegs lo n).bt = s.bt := rfl
@[simp] theorem State.resetRegs_btRun (s : State) (lo n : Nat) : (s.resetRegs lo n).btRun = s.btRun := rfl
@[simp] theorem State.resetRegs_thisCyc (s : State) (lo n : Nat) : (s.resetRegs lo n).thisCyc = s.thisCyc := rfl
@[simp] theorem State.resetRegs_staged (s : State) (lo n : Nat) : (s.resetRegs lo n).staged = s.staged := rfl
@[simp] theorem State.resetRegs_shadow (s : State) (lo n : Nat) : (s.resetRegs lo n).shadow = s.shadow := rfl
@[simp] theorem State.resetRegs_sram (s : State) (lo n : Nat) : (s.resetRegs lo n).sram = s.sram := rfl
@[simp] theorem State.resetRegs_dram (s : State) (lo n : Nat) : (s.resetRegs lo n).dram = s.dram := rfl
@[simp] theorem State.resetRegs_mram (s : State) (lo n : Nat) : (s.resetRegs lo n).mram = s.mram := rfl
@[simp] theorem State.resetRegs_badWords (s : State) (lo n : Nat) : (s.resetRegs lo n).badWords = s.badWords := rfl
@[simp] theorem State.resetRegs_free (s : State) (lo n : Nat) : (s.resetRegs lo n).free = s.free := rfl
@[simp] theorem State.resetRegs_out (s : State) (lo n : Nat) : (s.resetRegs lo n).out = s.out := rfl
@[simp] theorem State.resetRegs_bdr (s : State) (lo n : Nat) : (s.resetRegs lo n).bdr = s.bdr := rfl
@[simp] theorem State.resetRegs_act (s : State) (lo n : Nat) : (s.resetRegs lo n).act = s.act := rfl
@[simp] theorem State.resetRegs_asy (s : State) (lo n : Nat) : (s.resetRegs lo n).asy = s.asy := rfl
@[simp] theorem State.resetRegs_fct (s : State) (lo n : Nat) : (s.resetRegs lo n).fct = s.fct := rfl
@[simp] theorem State.resetRegs_flt (s : State) (lo n : Nat) : (s.resetRegs lo n).flt = s.flt := rfl
@[simp] theorem State.resetRegs_mtx (s : State) (lo n : Nat) : (s.resetRegs lo n).mtx = s.mtx := rfl
@[simp] theorem State.resetRegs_jtagErr (s : State) (lo n : Nat) : (s.resetRegs lo n).jtagErr = s.jtagErr := rfl
@[simp] theorem State.resetRegs_ddr (s : State) (lo n : Nat) : (s.resetRegs lo n).ddr = s.ddr := rfl
@[simp] theorem State.resetRegs_mrm (s : State) (lo n : Nat) : (s.resetRegs lo n).mrm = s.mrm := rfl
@[simp] theorem State.resetRegs_pci (s : State) (lo n : Nat) : (s.resetRegs lo n).pci = s.pci := rfl
@[simp] theorem State.resetRegs_lsp (s : State) (lo n : Nat) : (s.resetRegs lo n).lsp = s.lsp := rfl
@[simp] theorem State.resetRegs_tsu (s : State) (lo n : Nat) : (s.resetRegs lo n).tsu = s.tsu := rfl
@[simp] theorem State.resetRegs_mate (s : State) (lo n : Nat) : (s.resetRegs lo n).mate = s.mate := rfl
@[simp] theorem State.resetRegs_pwr (s : State) (lo n : Nat) : (s.resetRegs lo n).pwr = s.pwr := rfl
@[simp] theorem State.resetRegs_geo (s : State) (lo n : Nat) : (s.resetRegs lo n).geo = s.geo := rfl
@[simp] theorem State.resetRegs_ref (s : State) (lo n : Nat) : (s.resetRegs lo n).ref = s.ref := rfl
@[simp] theorem State.resetRegs_dpl (s : State) (lo n : Nat) : (s.resetRegs lo n).dpl = s.dpl := rfl
@[simp] theorem State.resetRegs_syn (s : State) (lo n : Nat) : (s.resetRegs lo n).syn = s.syn := rfl
@[simp] theorem State.resetRegs_outs (s : State) (lo n : Nat) : (s.resetRegs lo n).outs = s.outs := rfl
@[simp] theorem State.resetRegs_tdc (s : State) (lo n : Nat) : (s.resetRegs lo n).tdc = s.tdc := rfl
@[simp] theorem State.resetRegs_gns (s : State) (lo n : Nat) : (s.resetRegs lo n).gns = s.gns := rfl
@[simp] theorem State.resetRegs_ant (s : State) (lo n : Nat) : (s.resetRegs lo n).ant = s.ant := rfl
@[simp] theorem State.resetRegs_prt (s : State) (lo n : Nat) : (s.resetRegs lo n).prt = s.prt := rfl
@[simp] theorem State.resetRegs_svc (s : State) (lo n : Nat) : (s.resetRegs lo n).svc = s.svc := rfl
@[simp] theorem State.resetRegs_sch (s : State) (lo n : Nat) : (s.resetRegs lo n).sch = s.sch := rfl
@[simp] theorem State.resetRegs_pol (s : State) (lo n : Nat) : (s.resetRegs lo n).pol = s.pol := rfl
@[simp] theorem State.resetRegs_key (s : State) (lo n : Nat) : (s.resetRegs lo n).key = s.key := rfl
@[simp] theorem State.resetRegs_trn (s : State) (lo n : Nat) : (s.resetRegs lo n).trn = s.trn := rfl
@[simp] theorem State.resetRegs_cry (s : State) (lo n : Nat) : (s.resetRegs lo n).cry = s.cry := rfl
@[simp] theorem State.resetRegs_lcs (s : State) (lo n : Nat) : (s.resetRegs lo n).lcs = s.lcs := rfl
@[simp] theorem State.resetRegs_pending (s : State) (lo n : Nat) : (s.resetRegs lo n).pending = s.pending := rfl

/-! ### emit -/

@[simp] theorem State.emit_bt (s : State) (o : Output) : (s.emit o).bt = s.bt := rfl
@[simp] theorem State.emit_btRun (s : State) (o : Output) : (s.emit o).btRun = s.btRun := rfl
@[simp] theorem State.emit_thisCyc (s : State) (o : Output) : (s.emit o).thisCyc = s.thisCyc := rfl
@[simp] theorem State.emit_regs (s : State) (o : Output) : (s.emit o).regs = s.regs := rfl
@[simp] theorem State.emit_staged (s : State) (o : Output) : (s.emit o).staged = s.staged := rfl
@[simp] theorem State.emit_shadow (s : State) (o : Output) : (s.emit o).shadow = s.shadow := rfl
@[simp] theorem State.emit_sram (s : State) (o : Output) : (s.emit o).sram = s.sram := rfl
@[simp] theorem State.emit_dram (s : State) (o : Output) : (s.emit o).dram = s.dram := rfl
@[simp] theorem State.emit_mram (s : State) (o : Output) : (s.emit o).mram = s.mram := rfl
@[simp] theorem State.emit_badWords (s : State) (o : Output) : (s.emit o).badWords = s.badWords := rfl
@[simp] theorem State.emit_free (s : State) (o : Output) : (s.emit o).free = s.free := rfl
@[simp] theorem State.emit_bdr (s : State) (o : Output) : (s.emit o).bdr = s.bdr := rfl
@[simp] theorem State.emit_act (s : State) (o : Output) : (s.emit o).act = s.act := rfl
@[simp] theorem State.emit_asy (s : State) (o : Output) : (s.emit o).asy = s.asy := rfl
@[simp] theorem State.emit_fct (s : State) (o : Output) : (s.emit o).fct = s.fct := rfl
@[simp] theorem State.emit_flt (s : State) (o : Output) : (s.emit o).flt = s.flt := rfl
@[simp] theorem State.emit_mtx (s : State) (o : Output) : (s.emit o).mtx = s.mtx := rfl
@[simp] theorem State.emit_jtagErr (s : State) (o : Output) : (s.emit o).jtagErr = s.jtagErr := rfl
@[simp] theorem State.emit_ddr (s : State) (o : Output) : (s.emit o).ddr = s.ddr := rfl
@[simp] theorem State.emit_mrm (s : State) (o : Output) : (s.emit o).mrm = s.mrm := rfl
@[simp] theorem State.emit_pci (s : State) (o : Output) : (s.emit o).pci = s.pci := rfl
@[simp] theorem State.emit_lsp (s : State) (o : Output) : (s.emit o).lsp = s.lsp := rfl
@[simp] theorem State.emit_tsu (s : State) (o : Output) : (s.emit o).tsu = s.tsu := rfl
@[simp] theorem State.emit_mate (s : State) (o : Output) : (s.emit o).mate = s.mate := rfl
@[simp] theorem State.emit_pwr (s : State) (o : Output) : (s.emit o).pwr = s.pwr := rfl
@[simp] theorem State.emit_geo (s : State) (o : Output) : (s.emit o).geo = s.geo := rfl
@[simp] theorem State.emit_ref (s : State) (o : Output) : (s.emit o).ref = s.ref := rfl
@[simp] theorem State.emit_dpl (s : State) (o : Output) : (s.emit o).dpl = s.dpl := rfl
@[simp] theorem State.emit_syn (s : State) (o : Output) : (s.emit o).syn = s.syn := rfl
@[simp] theorem State.emit_outs (s : State) (o : Output) : (s.emit o).outs = s.outs := rfl
@[simp] theorem State.emit_tdc (s : State) (o : Output) : (s.emit o).tdc = s.tdc := rfl
@[simp] theorem State.emit_gns (s : State) (o : Output) : (s.emit o).gns = s.gns := rfl
@[simp] theorem State.emit_ant (s : State) (o : Output) : (s.emit o).ant = s.ant := rfl
@[simp] theorem State.emit_prt (s : State) (o : Output) : (s.emit o).prt = s.prt := rfl
@[simp] theorem State.emit_svc (s : State) (o : Output) : (s.emit o).svc = s.svc := rfl
@[simp] theorem State.emit_sch (s : State) (o : Output) : (s.emit o).sch = s.sch := rfl
@[simp] theorem State.emit_pol (s : State) (o : Output) : (s.emit o).pol = s.pol := rfl
@[simp] theorem State.emit_key (s : State) (o : Output) : (s.emit o).key = s.key := rfl
@[simp] theorem State.emit_trn (s : State) (o : Output) : (s.emit o).trn = s.trn := rfl
@[simp] theorem State.emit_cry (s : State) (o : Output) : (s.emit o).cry = s.cry := rfl
@[simp] theorem State.emit_lcs (s : State) (o : Output) : (s.emit o).lcs = s.lcs := rfl
@[simp] theorem State.emit_pending (s : State) (o : Output) : (s.emit o).pending = s.pending := rfl

/-! ### nextFree -/

@[simp] theorem State.nextFree_bt (s : State) : (s.nextFree).bt = s.bt := rfl
@[simp] theorem State.nextFree_btRun (s : State) : (s.nextFree).btRun = s.btRun := rfl
@[simp] theorem State.nextFree_thisCyc (s : State) : (s.nextFree).thisCyc = s.thisCyc := rfl
@[simp] theorem State.nextFree_regs (s : State) : (s.nextFree).regs = s.regs := rfl
@[simp] theorem State.nextFree_staged (s : State) : (s.nextFree).staged = s.staged := rfl
@[simp] theorem State.nextFree_shadow (s : State) : (s.nextFree).shadow = s.shadow := rfl
@[simp] theorem State.nextFree_sram (s : State) : (s.nextFree).sram = s.sram := rfl
@[simp] theorem State.nextFree_dram (s : State) : (s.nextFree).dram = s.dram := rfl
@[simp] theorem State.nextFree_mram (s : State) : (s.nextFree).mram = s.mram := rfl
@[simp] theorem State.nextFree_badWords (s : State) : (s.nextFree).badWords = s.badWords := rfl
@[simp] theorem State.nextFree_out (s : State) : (s.nextFree).out = s.out := rfl
@[simp] theorem State.nextFree_bdr (s : State) : (s.nextFree).bdr = s.bdr := rfl
@[simp] theorem State.nextFree_act (s : State) : (s.nextFree).act = s.act := rfl
@[simp] theorem State.nextFree_asy (s : State) : (s.nextFree).asy = s.asy := rfl
@[simp] theorem State.nextFree_fct (s : State) : (s.nextFree).fct = s.fct := rfl
@[simp] theorem State.nextFree_flt (s : State) : (s.nextFree).flt = s.flt := rfl
@[simp] theorem State.nextFree_mtx (s : State) : (s.nextFree).mtx = s.mtx := rfl
@[simp] theorem State.nextFree_jtagErr (s : State) : (s.nextFree).jtagErr = s.jtagErr := rfl
@[simp] theorem State.nextFree_ddr (s : State) : (s.nextFree).ddr = s.ddr := rfl
@[simp] theorem State.nextFree_mrm (s : State) : (s.nextFree).mrm = s.mrm := rfl
@[simp] theorem State.nextFree_pci (s : State) : (s.nextFree).pci = s.pci := rfl
@[simp] theorem State.nextFree_lsp (s : State) : (s.nextFree).lsp = s.lsp := rfl
@[simp] theorem State.nextFree_tsu (s : State) : (s.nextFree).tsu = s.tsu := rfl
@[simp] theorem State.nextFree_mate (s : State) : (s.nextFree).mate = s.mate := rfl
@[simp] theorem State.nextFree_pwr (s : State) : (s.nextFree).pwr = s.pwr := rfl
@[simp] theorem State.nextFree_geo (s : State) : (s.nextFree).geo = s.geo := rfl
@[simp] theorem State.nextFree_ref (s : State) : (s.nextFree).ref = s.ref := rfl
@[simp] theorem State.nextFree_dpl (s : State) : (s.nextFree).dpl = s.dpl := rfl
@[simp] theorem State.nextFree_syn (s : State) : (s.nextFree).syn = s.syn := rfl
@[simp] theorem State.nextFree_outs (s : State) : (s.nextFree).outs = s.outs := rfl
@[simp] theorem State.nextFree_tdc (s : State) : (s.nextFree).tdc = s.tdc := rfl
@[simp] theorem State.nextFree_gns (s : State) : (s.nextFree).gns = s.gns := rfl
@[simp] theorem State.nextFree_ant (s : State) : (s.nextFree).ant = s.ant := rfl
@[simp] theorem State.nextFree_prt (s : State) : (s.nextFree).prt = s.prt := rfl
@[simp] theorem State.nextFree_svc (s : State) : (s.nextFree).svc = s.svc := rfl
@[simp] theorem State.nextFree_sch (s : State) : (s.nextFree).sch = s.sch := rfl
@[simp] theorem State.nextFree_pol (s : State) : (s.nextFree).pol = s.pol := rfl
@[simp] theorem State.nextFree_key (s : State) : (s.nextFree).key = s.key := rfl
@[simp] theorem State.nextFree_trn (s : State) : (s.nextFree).trn = s.trn := rfl
@[simp] theorem State.nextFree_cry (s : State) : (s.nextFree).cry = s.cry := rfl
@[simp] theorem State.nextFree_lcs (s : State) : (s.nextFree).lcs = s.lcs := rfl
@[simp] theorem State.nextFree_pending (s : State) : (s.nextFree).pending = s.pending := rfl

/-! ### setShadow -/

@[simp] theorem State.setShadow_bt (s : State) (m : Master) (a : Nat) (v : Word) : (s.setShadow m a v).bt = s.bt := rfl
@[simp] theorem State.setShadow_btRun (s : State) (m : Master) (a : Nat) (v : Word) : (s.setShadow m a v).btRun = s.btRun := rfl
@[simp] theorem State.setShadow_thisCyc (s : State) (m : Master) (a : Nat) (v : Word) : (s.setShadow m a v).thisCyc = s.thisCyc := rfl
@[simp] theorem State.setShadow_regs (s : State) (m : Master) (a : Nat) (v : Word) : (s.setShadow m a v).regs = s.regs := rfl
@[simp] theorem State.setShadow_staged (s : State) (m : Master) (a : Nat) (v : Word) : (s.setShadow m a v).staged = s.staged := rfl
@[simp] theorem State.setShadow_sram (s : State) (m : Master) (a : Nat) (v : Word) : (s.setShadow m a v).sram = s.sram := rfl
@[simp] theorem State.setShadow_dram (s : State) (m : Master) (a : Nat) (v : Word) : (s.setShadow m a v).dram = s.dram := rfl
@[simp] theorem State.setShadow_mram (s : State) (m : Master) (a : Nat) (v : Word) : (s.setShadow m a v).mram = s.mram := rfl
@[simp] theorem State.setShadow_badWords (s : State) (m : Master) (a : Nat) (v : Word) : (s.setShadow m a v).badWords = s.badWords := rfl
@[simp] theorem State.setShadow_free (s : State) (m : Master) (a : Nat) (v : Word) : (s.setShadow m a v).free = s.free := rfl
@[simp] theorem State.setShadow_out (s : State) (m : Master) (a : Nat) (v : Word) : (s.setShadow m a v).out = s.out := rfl
@[simp] theorem State.setShadow_bdr (s : State) (m : Master) (a : Nat) (v : Word) : (s.setShadow m a v).bdr = s.bdr := rfl
@[simp] theorem State.setShadow_act (s : State) (m : Master) (a : Nat) (v : Word) : (s.setShadow m a v).act = s.act := rfl
@[simp] theorem State.setShadow_asy (s : State) (m : Master) (a : Nat) (v : Word) : (s.setShadow m a v).asy = s.asy := rfl
@[simp] theorem State.setShadow_fct (s : State) (m : Master) (a : Nat) (v : Word) : (s.setShadow m a v).fct = s.fct := rfl
@[simp] theorem State.setShadow_flt (s : State) (m : Master) (a : Nat) (v : Word) : (s.setShadow m a v).flt = s.flt := rfl
@[simp] theorem State.setShadow_mtx (s : State) (m : Master) (a : Nat) (v : Word) : (s.setShadow m a v).mtx = s.mtx := rfl
@[simp] theorem State.setShadow_jtagErr (s : State) (m : Master) (a : Nat) (v : Word) : (s.setShadow m a v).jtagErr = s.jtagErr := rfl
@[simp] theorem State.setShadow_ddr (s : State) (m : Master) (a : Nat) (v : Word) : (s.setShadow m a v).ddr = s.ddr := rfl
@[simp] theorem State.setShadow_mrm (s : State) (m : Master) (a : Nat) (v : Word) : (s.setShadow m a v).mrm = s.mrm := rfl
@[simp] theorem State.setShadow_pci (s : State) (m : Master) (a : Nat) (v : Word) : (s.setShadow m a v).pci = s.pci := rfl
@[simp] theorem State.setShadow_lsp (s : State) (m : Master) (a : Nat) (v : Word) : (s.setShadow m a v).lsp = s.lsp := rfl
@[simp] theorem State.setShadow_tsu (s : State) (m : Master) (a : Nat) (v : Word) : (s.setShadow m a v).tsu = s.tsu := rfl
@[simp] theorem State.setShadow_mate (s : State) (m : Master) (a : Nat) (v : Word) : (s.setShadow m a v).mate = s.mate := rfl
@[simp] theorem State.setShadow_pwr (s : State) (m : Master) (a : Nat) (v : Word) : (s.setShadow m a v).pwr = s.pwr := rfl
@[simp] theorem State.setShadow_geo (s : State) (m : Master) (a : Nat) (v : Word) : (s.setShadow m a v).geo = s.geo := rfl
@[simp] theorem State.setShadow_ref (s : State) (m : Master) (a : Nat) (v : Word) : (s.setShadow m a v).ref = s.ref := rfl
@[simp] theorem State.setShadow_dpl (s : State) (m : Master) (a : Nat) (v : Word) : (s.setShadow m a v).dpl = s.dpl := rfl
@[simp] theorem State.setShadow_syn (s : State) (m : Master) (a : Nat) (v : Word) : (s.setShadow m a v).syn = s.syn := rfl
@[simp] theorem State.setShadow_outs (s : State) (m : Master) (a : Nat) (v : Word) : (s.setShadow m a v).outs = s.outs := rfl
@[simp] theorem State.setShadow_tdc (s : State) (m : Master) (a : Nat) (v : Word) : (s.setShadow m a v).tdc = s.tdc := rfl
@[simp] theorem State.setShadow_gns (s : State) (m : Master) (a : Nat) (v : Word) : (s.setShadow m a v).gns = s.gns := rfl
@[simp] theorem State.setShadow_ant (s : State) (m : Master) (a : Nat) (v : Word) : (s.setShadow m a v).ant = s.ant := rfl
@[simp] theorem State.setShadow_prt (s : State) (m : Master) (a : Nat) (v : Word) : (s.setShadow m a v).prt = s.prt := rfl
@[simp] theorem State.setShadow_svc (s : State) (m : Master) (a : Nat) (v : Word) : (s.setShadow m a v).svc = s.svc := rfl
@[simp] theorem State.setShadow_sch (s : State) (m : Master) (a : Nat) (v : Word) : (s.setShadow m a v).sch = s.sch := rfl
@[simp] theorem State.setShadow_pol (s : State) (m : Master) (a : Nat) (v : Word) : (s.setShadow m a v).pol = s.pol := rfl
@[simp] theorem State.setShadow_key (s : State) (m : Master) (a : Nat) (v : Word) : (s.setShadow m a v).key = s.key := rfl
@[simp] theorem State.setShadow_trn (s : State) (m : Master) (a : Nat) (v : Word) : (s.setShadow m a v).trn = s.trn := rfl
@[simp] theorem State.setShadow_cry (s : State) (m : Master) (a : Nat) (v : Word) : (s.setShadow m a v).cry = s.cry := rfl
@[simp] theorem State.setShadow_lcs (s : State) (m : Master) (a : Nat) (v : Word) : (s.setShadow m a v).lcs = s.lcs := rfl
@[simp] theorem State.setShadow_pending (s : State) (m : Master) (a : Nat) (v : Word) : (s.setShadow m a v).pending = s.pending := rfl

/-! ### setStaged -/

@[simp] theorem State.setStaged_bt (s : State) (m : Master) (a : Nat) (v : Option Word) : (s.setStaged m a v).bt = s.bt := rfl
@[simp] theorem State.setStaged_btRun (s : State) (m : Master) (a : Nat) (v : Option Word) : (s.setStaged m a v).btRun = s.btRun := rfl
@[simp] theorem State.setStaged_thisCyc (s : State) (m : Master) (a : Nat) (v : Option Word) : (s.setStaged m a v).thisCyc = s.thisCyc := rfl
@[simp] theorem State.setStaged_regs (s : State) (m : Master) (a : Nat) (v : Option Word) : (s.setStaged m a v).regs = s.regs := rfl
@[simp] theorem State.setStaged_shadow (s : State) (m : Master) (a : Nat) (v : Option Word) : (s.setStaged m a v).shadow = s.shadow := rfl
@[simp] theorem State.setStaged_sram (s : State) (m : Master) (a : Nat) (v : Option Word) : (s.setStaged m a v).sram = s.sram := rfl
@[simp] theorem State.setStaged_dram (s : State) (m : Master) (a : Nat) (v : Option Word) : (s.setStaged m a v).dram = s.dram := rfl
@[simp] theorem State.setStaged_mram (s : State) (m : Master) (a : Nat) (v : Option Word) : (s.setStaged m a v).mram = s.mram := rfl
@[simp] theorem State.setStaged_badWords (s : State) (m : Master) (a : Nat) (v : Option Word) : (s.setStaged m a v).badWords = s.badWords := rfl
@[simp] theorem State.setStaged_free (s : State) (m : Master) (a : Nat) (v : Option Word) : (s.setStaged m a v).free = s.free := rfl
@[simp] theorem State.setStaged_out (s : State) (m : Master) (a : Nat) (v : Option Word) : (s.setStaged m a v).out = s.out := rfl
@[simp] theorem State.setStaged_bdr (s : State) (m : Master) (a : Nat) (v : Option Word) : (s.setStaged m a v).bdr = s.bdr := rfl
@[simp] theorem State.setStaged_act (s : State) (m : Master) (a : Nat) (v : Option Word) : (s.setStaged m a v).act = s.act := rfl
@[simp] theorem State.setStaged_asy (s : State) (m : Master) (a : Nat) (v : Option Word) : (s.setStaged m a v).asy = s.asy := rfl
@[simp] theorem State.setStaged_fct (s : State) (m : Master) (a : Nat) (v : Option Word) : (s.setStaged m a v).fct = s.fct := rfl
@[simp] theorem State.setStaged_flt (s : State) (m : Master) (a : Nat) (v : Option Word) : (s.setStaged m a v).flt = s.flt := rfl
@[simp] theorem State.setStaged_mtx (s : State) (m : Master) (a : Nat) (v : Option Word) : (s.setStaged m a v).mtx = s.mtx := rfl
@[simp] theorem State.setStaged_jtagErr (s : State) (m : Master) (a : Nat) (v : Option Word) : (s.setStaged m a v).jtagErr = s.jtagErr := rfl
@[simp] theorem State.setStaged_ddr (s : State) (m : Master) (a : Nat) (v : Option Word) : (s.setStaged m a v).ddr = s.ddr := rfl
@[simp] theorem State.setStaged_mrm (s : State) (m : Master) (a : Nat) (v : Option Word) : (s.setStaged m a v).mrm = s.mrm := rfl
@[simp] theorem State.setStaged_pci (s : State) (m : Master) (a : Nat) (v : Option Word) : (s.setStaged m a v).pci = s.pci := rfl
@[simp] theorem State.setStaged_lsp (s : State) (m : Master) (a : Nat) (v : Option Word) : (s.setStaged m a v).lsp = s.lsp := rfl
@[simp] theorem State.setStaged_tsu (s : State) (m : Master) (a : Nat) (v : Option Word) : (s.setStaged m a v).tsu = s.tsu := rfl
@[simp] theorem State.setStaged_mate (s : State) (m : Master) (a : Nat) (v : Option Word) : (s.setStaged m a v).mate = s.mate := rfl
@[simp] theorem State.setStaged_pwr (s : State) (m : Master) (a : Nat) (v : Option Word) : (s.setStaged m a v).pwr = s.pwr := rfl
@[simp] theorem State.setStaged_geo (s : State) (m : Master) (a : Nat) (v : Option Word) : (s.setStaged m a v).geo = s.geo := rfl
@[simp] theorem State.setStaged_ref (s : State) (m : Master) (a : Nat) (v : Option Word) : (s.setStaged m a v).ref = s.ref := rfl
@[simp] theorem State.setStaged_dpl (s : State) (m : Master) (a : Nat) (v : Option Word) : (s.setStaged m a v).dpl = s.dpl := rfl
@[simp] theorem State.setStaged_syn (s : State) (m : Master) (a : Nat) (v : Option Word) : (s.setStaged m a v).syn = s.syn := rfl
@[simp] theorem State.setStaged_outs (s : State) (m : Master) (a : Nat) (v : Option Word) : (s.setStaged m a v).outs = s.outs := rfl
@[simp] theorem State.setStaged_tdc (s : State) (m : Master) (a : Nat) (v : Option Word) : (s.setStaged m a v).tdc = s.tdc := rfl
@[simp] theorem State.setStaged_gns (s : State) (m : Master) (a : Nat) (v : Option Word) : (s.setStaged m a v).gns = s.gns := rfl
@[simp] theorem State.setStaged_ant (s : State) (m : Master) (a : Nat) (v : Option Word) : (s.setStaged m a v).ant = s.ant := rfl
@[simp] theorem State.setStaged_prt (s : State) (m : Master) (a : Nat) (v : Option Word) : (s.setStaged m a v).prt = s.prt := rfl
@[simp] theorem State.setStaged_svc (s : State) (m : Master) (a : Nat) (v : Option Word) : (s.setStaged m a v).svc = s.svc := rfl
@[simp] theorem State.setStaged_sch (s : State) (m : Master) (a : Nat) (v : Option Word) : (s.setStaged m a v).sch = s.sch := rfl
@[simp] theorem State.setStaged_pol (s : State) (m : Master) (a : Nat) (v : Option Word) : (s.setStaged m a v).pol = s.pol := rfl
@[simp] theorem State.setStaged_key (s : State) (m : Master) (a : Nat) (v : Option Word) : (s.setStaged m a v).key = s.key := rfl
@[simp] theorem State.setStaged_trn (s : State) (m : Master) (a : Nat) (v : Option Word) : (s.setStaged m a v).trn = s.trn := rfl
@[simp] theorem State.setStaged_cry (s : State) (m : Master) (a : Nat) (v : Option Word) : (s.setStaged m a v).cry = s.cry := rfl
@[simp] theorem State.setStaged_lcs (s : State) (m : Master) (a : Nat) (v : Option Word) : (s.setStaged m a v).lcs = s.lcs := rfl
@[simp] theorem State.setStaged_pending (s : State) (m : Master) (a : Nat) (v : Option Word) : (s.setStaged m a v).pending = s.pending := rfl

/-! ### dropStagedRange -/

@[simp] theorem State.dropStagedRange_bt (s : State) (lo n : Nat) : (s.dropStagedRange lo n).bt = s.bt := rfl
@[simp] theorem State.dropStagedRange_btRun (s : State) (lo n : Nat) : (s.dropStagedRange lo n).btRun = s.btRun := rfl
@[simp] theorem State.dropStagedRange_thisCyc (s : State) (lo n : Nat) : (s.dropStagedRange lo n).thisCyc = s.thisCyc := rfl
@[simp] theorem State.dropStagedRange_regs (s : State) (lo n : Nat) : (s.dropStagedRange lo n).regs = s.regs := rfl
@[simp] theorem State.dropStagedRange_shadow (s : State) (lo n : Nat) : (s.dropStagedRange lo n).shadow = s.shadow := rfl
@[simp] theorem State.dropStagedRange_sram (s : State) (lo n : Nat) : (s.dropStagedRange lo n).sram = s.sram := rfl
@[simp] theorem State.dropStagedRange_dram (s : State) (lo n : Nat) : (s.dropStagedRange lo n).dram = s.dram := rfl
@[simp] theorem State.dropStagedRange_mram (s : State) (lo n : Nat) : (s.dropStagedRange lo n).mram = s.mram := rfl
@[simp] theorem State.dropStagedRange_badWords (s : State) (lo n : Nat) : (s.dropStagedRange lo n).badWords = s.badWords := rfl
@[simp] theorem State.dropStagedRange_free (s : State) (lo n : Nat) : (s.dropStagedRange lo n).free = s.free := rfl
@[simp] theorem State.dropStagedRange_out (s : State) (lo n : Nat) : (s.dropStagedRange lo n).out = s.out := rfl
@[simp] theorem State.dropStagedRange_bdr (s : State) (lo n : Nat) : (s.dropStagedRange lo n).bdr = s.bdr := rfl
@[simp] theorem State.dropStagedRange_act (s : State) (lo n : Nat) : (s.dropStagedRange lo n).act = s.act := rfl
@[simp] theorem State.dropStagedRange_asy (s : State) (lo n : Nat) : (s.dropStagedRange lo n).asy = s.asy := rfl
@[simp] theorem State.dropStagedRange_fct (s : State) (lo n : Nat) : (s.dropStagedRange lo n).fct = s.fct := rfl
@[simp] theorem State.dropStagedRange_flt (s : State) (lo n : Nat) : (s.dropStagedRange lo n).flt = s.flt := rfl
@[simp] theorem State.dropStagedRange_mtx (s : State) (lo n : Nat) : (s.dropStagedRange lo n).mtx = s.mtx := rfl
@[simp] theorem State.dropStagedRange_jtagErr (s : State) (lo n : Nat) : (s.dropStagedRange lo n).jtagErr = s.jtagErr := rfl
@[simp] theorem State.dropStagedRange_ddr (s : State) (lo n : Nat) : (s.dropStagedRange lo n).ddr = s.ddr := rfl
@[simp] theorem State.dropStagedRange_mrm (s : State) (lo n : Nat) : (s.dropStagedRange lo n).mrm = s.mrm := rfl
@[simp] theorem State.dropStagedRange_pci (s : State) (lo n : Nat) : (s.dropStagedRange lo n).pci = s.pci := rfl
@[simp] theorem State.dropStagedRange_lsp (s : State) (lo n : Nat) : (s.dropStagedRange lo n).lsp = s.lsp := rfl
@[simp] theorem State.dropStagedRange_tsu (s : State) (lo n : Nat) : (s.dropStagedRange lo n).tsu = s.tsu := rfl
@[simp] theorem State.dropStagedRange_mate (s : State) (lo n : Nat) : (s.dropStagedRange lo n).mate = s.mate := rfl
@[simp] theorem State.dropStagedRange_pwr (s : State) (lo n : Nat) : (s.dropStagedRange lo n).pwr = s.pwr := rfl
@[simp] theorem State.dropStagedRange_geo (s : State) (lo n : Nat) : (s.dropStagedRange lo n).geo = s.geo := rfl
@[simp] theorem State.dropStagedRange_ref (s : State) (lo n : Nat) : (s.dropStagedRange lo n).ref = s.ref := rfl
@[simp] theorem State.dropStagedRange_dpl (s : State) (lo n : Nat) : (s.dropStagedRange lo n).dpl = s.dpl := rfl
@[simp] theorem State.dropStagedRange_syn (s : State) (lo n : Nat) : (s.dropStagedRange lo n).syn = s.syn := rfl
@[simp] theorem State.dropStagedRange_outs (s : State) (lo n : Nat) : (s.dropStagedRange lo n).outs = s.outs := rfl
@[simp] theorem State.dropStagedRange_tdc (s : State) (lo n : Nat) : (s.dropStagedRange lo n).tdc = s.tdc := rfl
@[simp] theorem State.dropStagedRange_gns (s : State) (lo n : Nat) : (s.dropStagedRange lo n).gns = s.gns := rfl
@[simp] theorem State.dropStagedRange_ant (s : State) (lo n : Nat) : (s.dropStagedRange lo n).ant = s.ant := rfl
@[simp] theorem State.dropStagedRange_prt (s : State) (lo n : Nat) : (s.dropStagedRange lo n).prt = s.prt := rfl
@[simp] theorem State.dropStagedRange_svc (s : State) (lo n : Nat) : (s.dropStagedRange lo n).svc = s.svc := rfl
@[simp] theorem State.dropStagedRange_sch (s : State) (lo n : Nat) : (s.dropStagedRange lo n).sch = s.sch := rfl
@[simp] theorem State.dropStagedRange_pol (s : State) (lo n : Nat) : (s.dropStagedRange lo n).pol = s.pol := rfl
@[simp] theorem State.dropStagedRange_key (s : State) (lo n : Nat) : (s.dropStagedRange lo n).key = s.key := rfl
@[simp] theorem State.dropStagedRange_trn (s : State) (lo n : Nat) : (s.dropStagedRange lo n).trn = s.trn := rfl
@[simp] theorem State.dropStagedRange_cry (s : State) (lo n : Nat) : (s.dropStagedRange lo n).cry = s.cry := rfl
@[simp] theorem State.dropStagedRange_lcs (s : State) (lo n : Nat) : (s.dropStagedRange lo n).lcs = s.lcs := rfl
@[simp] theorem State.dropStagedRange_pending (s : State) (lo n : Nat) : (s.dropStagedRange lo n).pending = s.pending := rfl

/-! ### sramWr -/

@[simp] theorem State.sramWr_bt (s : State) (a : Nat) (l : List Byte) : (s.sramWr a l).bt = s.bt := rfl
@[simp] theorem State.sramWr_btRun (s : State) (a : Nat) (l : List Byte) : (s.sramWr a l).btRun = s.btRun := rfl
@[simp] theorem State.sramWr_thisCyc (s : State) (a : Nat) (l : List Byte) : (s.sramWr a l).thisCyc = s.thisCyc := rfl
@[simp] theorem State.sramWr_regs (s : State) (a : Nat) (l : List Byte) : (s.sramWr a l).regs = s.regs := rfl
@[simp] theorem State.sramWr_staged (s : State) (a : Nat) (l : List Byte) : (s.sramWr a l).staged = s.staged := rfl
@[simp] theorem State.sramWr_shadow (s : State) (a : Nat) (l : List Byte) : (s.sramWr a l).shadow = s.shadow := rfl
@[simp] theorem State.sramWr_dram (s : State) (a : Nat) (l : List Byte) : (s.sramWr a l).dram = s.dram := rfl
@[simp] theorem State.sramWr_mram (s : State) (a : Nat) (l : List Byte) : (s.sramWr a l).mram = s.mram := rfl
@[simp] theorem State.sramWr_badWords (s : State) (a : Nat) (l : List Byte) : (s.sramWr a l).badWords = s.badWords := rfl
@[simp] theorem State.sramWr_free (s : State) (a : Nat) (l : List Byte) : (s.sramWr a l).free = s.free := rfl
@[simp] theorem State.sramWr_out (s : State) (a : Nat) (l : List Byte) : (s.sramWr a l).out = s.out := rfl
@[simp] theorem State.sramWr_bdr (s : State) (a : Nat) (l : List Byte) : (s.sramWr a l).bdr = s.bdr := rfl
@[simp] theorem State.sramWr_act (s : State) (a : Nat) (l : List Byte) : (s.sramWr a l).act = s.act := rfl
@[simp] theorem State.sramWr_asy (s : State) (a : Nat) (l : List Byte) : (s.sramWr a l).asy = s.asy := rfl
@[simp] theorem State.sramWr_fct (s : State) (a : Nat) (l : List Byte) : (s.sramWr a l).fct = s.fct := rfl
@[simp] theorem State.sramWr_flt (s : State) (a : Nat) (l : List Byte) : (s.sramWr a l).flt = s.flt := rfl
@[simp] theorem State.sramWr_mtx (s : State) (a : Nat) (l : List Byte) : (s.sramWr a l).mtx = s.mtx := rfl
@[simp] theorem State.sramWr_jtagErr (s : State) (a : Nat) (l : List Byte) : (s.sramWr a l).jtagErr = s.jtagErr := rfl
@[simp] theorem State.sramWr_ddr (s : State) (a : Nat) (l : List Byte) : (s.sramWr a l).ddr = s.ddr := rfl
@[simp] theorem State.sramWr_mrm (s : State) (a : Nat) (l : List Byte) : (s.sramWr a l).mrm = s.mrm := rfl
@[simp] theorem State.sramWr_pci (s : State) (a : Nat) (l : List Byte) : (s.sramWr a l).pci = s.pci := rfl
@[simp] theorem State.sramWr_lsp (s : State) (a : Nat) (l : List Byte) : (s.sramWr a l).lsp = s.lsp := rfl
@[simp] theorem State.sramWr_tsu (s : State) (a : Nat) (l : List Byte) : (s.sramWr a l).tsu = s.tsu := rfl
@[simp] theorem State.sramWr_mate (s : State) (a : Nat) (l : List Byte) : (s.sramWr a l).mate = s.mate := rfl
@[simp] theorem State.sramWr_pwr (s : State) (a : Nat) (l : List Byte) : (s.sramWr a l).pwr = s.pwr := rfl
@[simp] theorem State.sramWr_geo (s : State) (a : Nat) (l : List Byte) : (s.sramWr a l).geo = s.geo := rfl
@[simp] theorem State.sramWr_ref (s : State) (a : Nat) (l : List Byte) : (s.sramWr a l).ref = s.ref := rfl
@[simp] theorem State.sramWr_dpl (s : State) (a : Nat) (l : List Byte) : (s.sramWr a l).dpl = s.dpl := rfl
@[simp] theorem State.sramWr_syn (s : State) (a : Nat) (l : List Byte) : (s.sramWr a l).syn = s.syn := rfl
@[simp] theorem State.sramWr_outs (s : State) (a : Nat) (l : List Byte) : (s.sramWr a l).outs = s.outs := rfl
@[simp] theorem State.sramWr_tdc (s : State) (a : Nat) (l : List Byte) : (s.sramWr a l).tdc = s.tdc := rfl
@[simp] theorem State.sramWr_gns (s : State) (a : Nat) (l : List Byte) : (s.sramWr a l).gns = s.gns := rfl
@[simp] theorem State.sramWr_ant (s : State) (a : Nat) (l : List Byte) : (s.sramWr a l).ant = s.ant := rfl
@[simp] theorem State.sramWr_prt (s : State) (a : Nat) (l : List Byte) : (s.sramWr a l).prt = s.prt := rfl
@[simp] theorem State.sramWr_svc (s : State) (a : Nat) (l : List Byte) : (s.sramWr a l).svc = s.svc := rfl
@[simp] theorem State.sramWr_sch (s : State) (a : Nat) (l : List Byte) : (s.sramWr a l).sch = s.sch := rfl
@[simp] theorem State.sramWr_pol (s : State) (a : Nat) (l : List Byte) : (s.sramWr a l).pol = s.pol := rfl
@[simp] theorem State.sramWr_key (s : State) (a : Nat) (l : List Byte) : (s.sramWr a l).key = s.key := rfl
@[simp] theorem State.sramWr_trn (s : State) (a : Nat) (l : List Byte) : (s.sramWr a l).trn = s.trn := rfl
@[simp] theorem State.sramWr_cry (s : State) (a : Nat) (l : List Byte) : (s.sramWr a l).cry = s.cry := rfl
@[simp] theorem State.sramWr_lcs (s : State) (a : Nat) (l : List Byte) : (s.sramWr a l).lcs = s.lcs := rfl
@[simp] theorem State.sramWr_pending (s : State) (a : Nat) (l : List Byte) : (s.sramWr a l).pending = s.pending := rfl

/-! ### dramWr -/

@[simp] theorem State.dramWr_bt (s : State) (a : Nat) (l : List Byte) : (s.dramWr a l).bt = s.bt := rfl
@[simp] theorem State.dramWr_btRun (s : State) (a : Nat) (l : List Byte) : (s.dramWr a l).btRun = s.btRun := rfl
@[simp] theorem State.dramWr_thisCyc (s : State) (a : Nat) (l : List Byte) : (s.dramWr a l).thisCyc = s.thisCyc := rfl
@[simp] theorem State.dramWr_regs (s : State) (a : Nat) (l : List Byte) : (s.dramWr a l).regs = s.regs := rfl
@[simp] theorem State.dramWr_staged (s : State) (a : Nat) (l : List Byte) : (s.dramWr a l).staged = s.staged := rfl
@[simp] theorem State.dramWr_shadow (s : State) (a : Nat) (l : List Byte) : (s.dramWr a l).shadow = s.shadow := rfl
@[simp] theorem State.dramWr_sram (s : State) (a : Nat) (l : List Byte) : (s.dramWr a l).sram = s.sram := rfl
@[simp] theorem State.dramWr_mram (s : State) (a : Nat) (l : List Byte) : (s.dramWr a l).mram = s.mram := rfl
@[simp] theorem State.dramWr_badWords (s : State) (a : Nat) (l : List Byte) : (s.dramWr a l).badWords = s.badWords := rfl
@[simp] theorem State.dramWr_free (s : State) (a : Nat) (l : List Byte) : (s.dramWr a l).free = s.free := rfl
@[simp] theorem State.dramWr_out (s : State) (a : Nat) (l : List Byte) : (s.dramWr a l).out = s.out := rfl
@[simp] theorem State.dramWr_bdr (s : State) (a : Nat) (l : List Byte) : (s.dramWr a l).bdr = s.bdr := rfl
@[simp] theorem State.dramWr_act (s : State) (a : Nat) (l : List Byte) : (s.dramWr a l).act = s.act := rfl
@[simp] theorem State.dramWr_asy (s : State) (a : Nat) (l : List Byte) : (s.dramWr a l).asy = s.asy := rfl
@[simp] theorem State.dramWr_fct (s : State) (a : Nat) (l : List Byte) : (s.dramWr a l).fct = s.fct := rfl
@[simp] theorem State.dramWr_flt (s : State) (a : Nat) (l : List Byte) : (s.dramWr a l).flt = s.flt := rfl
@[simp] theorem State.dramWr_mtx (s : State) (a : Nat) (l : List Byte) : (s.dramWr a l).mtx = s.mtx := rfl
@[simp] theorem State.dramWr_jtagErr (s : State) (a : Nat) (l : List Byte) : (s.dramWr a l).jtagErr = s.jtagErr := rfl
@[simp] theorem State.dramWr_ddr (s : State) (a : Nat) (l : List Byte) : (s.dramWr a l).ddr = s.ddr := rfl
@[simp] theorem State.dramWr_mrm (s : State) (a : Nat) (l : List Byte) : (s.dramWr a l).mrm = s.mrm := rfl
@[simp] theorem State.dramWr_pci (s : State) (a : Nat) (l : List Byte) : (s.dramWr a l).pci = s.pci := rfl
@[simp] theorem State.dramWr_lsp (s : State) (a : Nat) (l : List Byte) : (s.dramWr a l).lsp = s.lsp := rfl
@[simp] theorem State.dramWr_tsu (s : State) (a : Nat) (l : List Byte) : (s.dramWr a l).tsu = s.tsu := rfl
@[simp] theorem State.dramWr_mate (s : State) (a : Nat) (l : List Byte) : (s.dramWr a l).mate = s.mate := rfl
@[simp] theorem State.dramWr_pwr (s : State) (a : Nat) (l : List Byte) : (s.dramWr a l).pwr = s.pwr := rfl
@[simp] theorem State.dramWr_geo (s : State) (a : Nat) (l : List Byte) : (s.dramWr a l).geo = s.geo := rfl
@[simp] theorem State.dramWr_ref (s : State) (a : Nat) (l : List Byte) : (s.dramWr a l).ref = s.ref := rfl
@[simp] theorem State.dramWr_dpl (s : State) (a : Nat) (l : List Byte) : (s.dramWr a l).dpl = s.dpl := rfl
@[simp] theorem State.dramWr_syn (s : State) (a : Nat) (l : List Byte) : (s.dramWr a l).syn = s.syn := rfl
@[simp] theorem State.dramWr_outs (s : State) (a : Nat) (l : List Byte) : (s.dramWr a l).outs = s.outs := rfl
@[simp] theorem State.dramWr_tdc (s : State) (a : Nat) (l : List Byte) : (s.dramWr a l).tdc = s.tdc := rfl
@[simp] theorem State.dramWr_gns (s : State) (a : Nat) (l : List Byte) : (s.dramWr a l).gns = s.gns := rfl
@[simp] theorem State.dramWr_ant (s : State) (a : Nat) (l : List Byte) : (s.dramWr a l).ant = s.ant := rfl
@[simp] theorem State.dramWr_prt (s : State) (a : Nat) (l : List Byte) : (s.dramWr a l).prt = s.prt := rfl
@[simp] theorem State.dramWr_svc (s : State) (a : Nat) (l : List Byte) : (s.dramWr a l).svc = s.svc := rfl
@[simp] theorem State.dramWr_sch (s : State) (a : Nat) (l : List Byte) : (s.dramWr a l).sch = s.sch := rfl
@[simp] theorem State.dramWr_pol (s : State) (a : Nat) (l : List Byte) : (s.dramWr a l).pol = s.pol := rfl
@[simp] theorem State.dramWr_key (s : State) (a : Nat) (l : List Byte) : (s.dramWr a l).key = s.key := rfl
@[simp] theorem State.dramWr_trn (s : State) (a : Nat) (l : List Byte) : (s.dramWr a l).trn = s.trn := rfl
@[simp] theorem State.dramWr_cry (s : State) (a : Nat) (l : List Byte) : (s.dramWr a l).cry = s.cry := rfl
@[simp] theorem State.dramWr_lcs (s : State) (a : Nat) (l : List Byte) : (s.dramWr a l).lcs = s.lcs := rfl
@[simp] theorem State.dramWr_pending (s : State) (a : Nat) (l : List Byte) : (s.dramWr a l).pending = s.pending := rfl

/-! ### setTh -/

@[simp] theorem State.setTh_bt (s : State) (k : Nat) (x : Thread) : (s.setTh k x).bt = s.bt := rfl
@[simp] theorem State.setTh_btRun (s : State) (k : Nat) (x : Thread) : (s.setTh k x).btRun = s.btRun := rfl
@[simp] theorem State.setTh_thisCyc (s : State) (k : Nat) (x : Thread) : (s.setTh k x).thisCyc = s.thisCyc := rfl
@[simp] theorem State.setTh_regs (s : State) (k : Nat) (x : Thread) : (s.setTh k x).regs = s.regs := rfl
@[simp] theorem State.setTh_staged (s : State) (k : Nat) (x : Thread) : (s.setTh k x).staged = s.staged := rfl
@[simp] theorem State.setTh_shadow (s : State) (k : Nat) (x : Thread) : (s.setTh k x).shadow = s.shadow := rfl
@[simp] theorem State.setTh_sram (s : State) (k : Nat) (x : Thread) : (s.setTh k x).sram = s.sram := rfl
@[simp] theorem State.setTh_dram (s : State) (k : Nat) (x : Thread) : (s.setTh k x).dram = s.dram := rfl
@[simp] theorem State.setTh_mram (s : State) (k : Nat) (x : Thread) : (s.setTh k x).mram = s.mram := rfl
@[simp] theorem State.setTh_badWords (s : State) (k : Nat) (x : Thread) : (s.setTh k x).badWords = s.badWords := rfl
@[simp] theorem State.setTh_free (s : State) (k : Nat) (x : Thread) : (s.setTh k x).free = s.free := rfl
@[simp] theorem State.setTh_out (s : State) (k : Nat) (x : Thread) : (s.setTh k x).out = s.out := rfl
@[simp] theorem State.setTh_bdr (s : State) (k : Nat) (x : Thread) : (s.setTh k x).bdr = s.bdr := rfl
@[simp] theorem State.setTh_act (s : State) (k : Nat) (x : Thread) : (s.setTh k x).act = s.act := rfl
@[simp] theorem State.setTh_asy (s : State) (k : Nat) (x : Thread) : (s.setTh k x).asy = s.asy := rfl
@[simp] theorem State.setTh_flt (s : State) (k : Nat) (x : Thread) : (s.setTh k x).flt = s.flt := rfl
@[simp] theorem State.setTh_mtx (s : State) (k : Nat) (x : Thread) : (s.setTh k x).mtx = s.mtx := rfl
@[simp] theorem State.setTh_jtagErr (s : State) (k : Nat) (x : Thread) : (s.setTh k x).jtagErr = s.jtagErr := rfl
@[simp] theorem State.setTh_ddr (s : State) (k : Nat) (x : Thread) : (s.setTh k x).ddr = s.ddr := rfl
@[simp] theorem State.setTh_mrm (s : State) (k : Nat) (x : Thread) : (s.setTh k x).mrm = s.mrm := rfl
@[simp] theorem State.setTh_pci (s : State) (k : Nat) (x : Thread) : (s.setTh k x).pci = s.pci := rfl
@[simp] theorem State.setTh_lsp (s : State) (k : Nat) (x : Thread) : (s.setTh k x).lsp = s.lsp := rfl
@[simp] theorem State.setTh_tsu (s : State) (k : Nat) (x : Thread) : (s.setTh k x).tsu = s.tsu := rfl
@[simp] theorem State.setTh_mate (s : State) (k : Nat) (x : Thread) : (s.setTh k x).mate = s.mate := rfl
@[simp] theorem State.setTh_pwr (s : State) (k : Nat) (x : Thread) : (s.setTh k x).pwr = s.pwr := rfl
@[simp] theorem State.setTh_geo (s : State) (k : Nat) (x : Thread) : (s.setTh k x).geo = s.geo := rfl
@[simp] theorem State.setTh_ref (s : State) (k : Nat) (x : Thread) : (s.setTh k x).ref = s.ref := rfl
@[simp] theorem State.setTh_dpl (s : State) (k : Nat) (x : Thread) : (s.setTh k x).dpl = s.dpl := rfl
@[simp] theorem State.setTh_syn (s : State) (k : Nat) (x : Thread) : (s.setTh k x).syn = s.syn := rfl
@[simp] theorem State.setTh_outs (s : State) (k : Nat) (x : Thread) : (s.setTh k x).outs = s.outs := rfl
@[simp] theorem State.setTh_tdc (s : State) (k : Nat) (x : Thread) : (s.setTh k x).tdc = s.tdc := rfl
@[simp] theorem State.setTh_gns (s : State) (k : Nat) (x : Thread) : (s.setTh k x).gns = s.gns := rfl
@[simp] theorem State.setTh_ant (s : State) (k : Nat) (x : Thread) : (s.setTh k x).ant = s.ant := rfl
@[simp] theorem State.setTh_prt (s : State) (k : Nat) (x : Thread) : (s.setTh k x).prt = s.prt := rfl
@[simp] theorem State.setTh_svc (s : State) (k : Nat) (x : Thread) : (s.setTh k x).svc = s.svc := rfl
@[simp] theorem State.setTh_sch (s : State) (k : Nat) (x : Thread) : (s.setTh k x).sch = s.sch := rfl
@[simp] theorem State.setTh_pol (s : State) (k : Nat) (x : Thread) : (s.setTh k x).pol = s.pol := rfl
@[simp] theorem State.setTh_key (s : State) (k : Nat) (x : Thread) : (s.setTh k x).key = s.key := rfl
@[simp] theorem State.setTh_trn (s : State) (k : Nat) (x : Thread) : (s.setTh k x).trn = s.trn := rfl
@[simp] theorem State.setTh_cry (s : State) (k : Nat) (x : Thread) : (s.setTh k x).cry = s.cry := rfl
@[simp] theorem State.setTh_lcs (s : State) (k : Nat) (x : Thread) : (s.setTh k x).lcs = s.lcs := rfl
@[simp] theorem State.setTh_pending (s : State) (k : Nat) (x : Thread) : (s.setTh k x).pending = s.pending := rfl

/-! ### setRegN -/

@[simp] theorem State.setRegN_bt (s : State) (a v n : Nat) : (s.setRegN a v n).bt = s.bt := by
  induction n <;> simp_all [State.setRegN]
@[simp] theorem State.setRegN_btRun (s : State) (a v n : Nat) : (s.setRegN a v n).btRun = s.btRun := by
  induction n <;> simp_all [State.setRegN]
@[simp] theorem State.setRegN_thisCyc (s : State) (a v n : Nat) : (s.setRegN a v n).thisCyc = s.thisCyc := by
  induction n <;> simp_all [State.setRegN]
@[simp] theorem State.setRegN_staged (s : State) (a v n : Nat) : (s.setRegN a v n).staged = s.staged := by
  induction n <;> simp_all [State.setRegN]
@[simp] theorem State.setRegN_shadow (s : State) (a v n : Nat) : (s.setRegN a v n).shadow = s.shadow := by
  induction n <;> simp_all [State.setRegN]
@[simp] theorem State.setRegN_sram (s : State) (a v n : Nat) : (s.setRegN a v n).sram = s.sram := by
  induction n <;> simp_all [State.setRegN]
@[simp] theorem State.setRegN_dram (s : State) (a v n : Nat) : (s.setRegN a v n).dram = s.dram := by
  induction n <;> simp_all [State.setRegN]
@[simp] theorem State.setRegN_mram (s : State) (a v n : Nat) : (s.setRegN a v n).mram = s.mram := by
  induction n <;> simp_all [State.setRegN]
@[simp] theorem State.setRegN_badWords (s : State) (a v n : Nat) : (s.setRegN a v n).badWords = s.badWords := by
  induction n <;> simp_all [State.setRegN]
@[simp] theorem State.setRegN_free (s : State) (a v n : Nat) : (s.setRegN a v n).free = s.free := by
  induction n <;> simp_all [State.setRegN]
@[simp] theorem State.setRegN_out (s : State) (a v n : Nat) : (s.setRegN a v n).out = s.out := by
  induction n <;> simp_all [State.setRegN]
@[simp] theorem State.setRegN_bdr (s : State) (a v n : Nat) : (s.setRegN a v n).bdr = s.bdr := by
  induction n <;> simp_all [State.setRegN]
@[simp] theorem State.setRegN_act (s : State) (a v n : Nat) : (s.setRegN a v n).act = s.act := by
  induction n <;> simp_all [State.setRegN]
@[simp] theorem State.setRegN_asy (s : State) (a v n : Nat) : (s.setRegN a v n).asy = s.asy := by
  induction n <;> simp_all [State.setRegN]
@[simp] theorem State.setRegN_fct (s : State) (a v n : Nat) : (s.setRegN a v n).fct = s.fct := by
  induction n <;> simp_all [State.setRegN]
@[simp] theorem State.setRegN_flt (s : State) (a v n : Nat) : (s.setRegN a v n).flt = s.flt := by
  induction n <;> simp_all [State.setRegN]
@[simp] theorem State.setRegN_mtx (s : State) (a v n : Nat) : (s.setRegN a v n).mtx = s.mtx := by
  induction n <;> simp_all [State.setRegN]
@[simp] theorem State.setRegN_jtagErr (s : State) (a v n : Nat) : (s.setRegN a v n).jtagErr = s.jtagErr := by
  induction n <;> simp_all [State.setRegN]
@[simp] theorem State.setRegN_ddr (s : State) (a v n : Nat) : (s.setRegN a v n).ddr = s.ddr := by
  induction n <;> simp_all [State.setRegN]
@[simp] theorem State.setRegN_mrm (s : State) (a v n : Nat) : (s.setRegN a v n).mrm = s.mrm := by
  induction n <;> simp_all [State.setRegN]
@[simp] theorem State.setRegN_pci (s : State) (a v n : Nat) : (s.setRegN a v n).pci = s.pci := by
  induction n <;> simp_all [State.setRegN]
@[simp] theorem State.setRegN_lsp (s : State) (a v n : Nat) : (s.setRegN a v n).lsp = s.lsp := by
  induction n <;> simp_all [State.setRegN]
@[simp] theorem State.setRegN_tsu (s : State) (a v n : Nat) : (s.setRegN a v n).tsu = s.tsu := by
  induction n <;> simp_all [State.setRegN]
@[simp] theorem State.setRegN_mate (s : State) (a v n : Nat) : (s.setRegN a v n).mate = s.mate := by
  induction n <;> simp_all [State.setRegN]
@[simp] theorem State.setRegN_pwr (s : State) (a v n : Nat) : (s.setRegN a v n).pwr = s.pwr := by
  induction n <;> simp_all [State.setRegN]
@[simp] theorem State.setRegN_geo (s : State) (a v n : Nat) : (s.setRegN a v n).geo = s.geo := by
  induction n <;> simp_all [State.setRegN]
@[simp] theorem State.setRegN_ref (s : State) (a v n : Nat) : (s.setRegN a v n).ref = s.ref := by
  induction n <;> simp_all [State.setRegN]
@[simp] theorem State.setRegN_dpl (s : State) (a v n : Nat) : (s.setRegN a v n).dpl = s.dpl := by
  induction n <;> simp_all [State.setRegN]
@[simp] theorem State.setRegN_syn (s : State) (a v n : Nat) : (s.setRegN a v n).syn = s.syn := by
  induction n <;> simp_all [State.setRegN]
@[simp] theorem State.setRegN_outs (s : State) (a v n : Nat) : (s.setRegN a v n).outs = s.outs := by
  induction n <;> simp_all [State.setRegN]
@[simp] theorem State.setRegN_tdc (s : State) (a v n : Nat) : (s.setRegN a v n).tdc = s.tdc := by
  induction n <;> simp_all [State.setRegN]
@[simp] theorem State.setRegN_gns (s : State) (a v n : Nat) : (s.setRegN a v n).gns = s.gns := by
  induction n <;> simp_all [State.setRegN]
@[simp] theorem State.setRegN_ant (s : State) (a v n : Nat) : (s.setRegN a v n).ant = s.ant := by
  induction n <;> simp_all [State.setRegN]
@[simp] theorem State.setRegN_prt (s : State) (a v n : Nat) : (s.setRegN a v n).prt = s.prt := by
  induction n <;> simp_all [State.setRegN]
@[simp] theorem State.setRegN_svc (s : State) (a v n : Nat) : (s.setRegN a v n).svc = s.svc := by
  induction n <;> simp_all [State.setRegN]
@[simp] theorem State.setRegN_sch (s : State) (a v n : Nat) : (s.setRegN a v n).sch = s.sch := by
  induction n <;> simp_all [State.setRegN]
@[simp] theorem State.setRegN_pol (s : State) (a v n : Nat) : (s.setRegN a v n).pol = s.pol := by
  induction n <;> simp_all [State.setRegN]
@[simp] theorem State.setRegN_key (s : State) (a v n : Nat) : (s.setRegN a v n).key = s.key := by
  induction n <;> simp_all [State.setRegN]
@[simp] theorem State.setRegN_trn (s : State) (a v n : Nat) : (s.setRegN a v n).trn = s.trn := by
  induction n <;> simp_all [State.setRegN]
@[simp] theorem State.setRegN_cry (s : State) (a v n : Nat) : (s.setRegN a v n).cry = s.cry := by
  induction n <;> simp_all [State.setRegN]
@[simp] theorem State.setRegN_lcs (s : State) (a v n : Nat) : (s.setRegN a v n).lcs = s.lcs := by
  induction n <;> simp_all [State.setRegN]
@[simp] theorem State.setRegN_pending (s : State) (a v n : Nat) : (s.setRegN a v n).pending = s.pending := by
  induction n <;> simp_all [State.setRegN]

/-! ### dropStaged -/

@[simp] theorem State.dropStaged_bt (s : State) (m : Master) (a n : Nat) : (s.dropStaged m a n).bt = s.bt := by
  induction n <;> simp_all [State.dropStaged]
@[simp] theorem State.dropStaged_btRun (s : State) (m : Master) (a n : Nat) : (s.dropStaged m a n).btRun = s.btRun := by
  induction n <;> simp_all [State.dropStaged]
@[simp] theorem State.dropStaged_thisCyc (s : State) (m : Master) (a n : Nat) : (s.dropStaged m a n).thisCyc = s.thisCyc := by
  induction n <;> simp_all [State.dropStaged]
@[simp] theorem State.dropStaged_regs (s : State) (m : Master) (a n : Nat) : (s.dropStaged m a n).regs = s.regs := by
  induction n <;> simp_all [State.dropStaged]
@[simp] theorem State.dropStaged_shadow (s : State) (m : Master) (a n : Nat) : (s.dropStaged m a n).shadow = s.shadow := by
  induction n <;> simp_all [State.dropStaged]
@[simp] theorem State.dropStaged_sram (s : State) (m : Master) (a n : Nat) : (s.dropStaged m a n).sram = s.sram := by
  induction n <;> simp_all [State.dropStaged]
@[simp] theorem State.dropStaged_dram (s : State) (m : Master) (a n : Nat) : (s.dropStaged m a n).dram = s.dram := by
  induction n <;> simp_all [State.dropStaged]
@[simp] theorem State.dropStaged_mram (s : State) (m : Master) (a n : Nat) : (s.dropStaged m a n).mram = s.mram := by
  induction n <;> simp_all [State.dropStaged]
@[simp] theorem State.dropStaged_badWords (s : State) (m : Master) (a n : Nat) : (s.dropStaged m a n).badWords = s.badWords := by
  induction n <;> simp_all [State.dropStaged]
@[simp] theorem State.dropStaged_free (s : State) (m : Master) (a n : Nat) : (s.dropStaged m a n).free = s.free := by
  induction n <;> simp_all [State.dropStaged]
@[simp] theorem State.dropStaged_out (s : State) (m : Master) (a n : Nat) : (s.dropStaged m a n).out = s.out := by
  induction n <;> simp_all [State.dropStaged]
@[simp] theorem State.dropStaged_bdr (s : State) (m : Master) (a n : Nat) : (s.dropStaged m a n).bdr = s.bdr := by
  induction n <;> simp_all [State.dropStaged]
@[simp] theorem State.dropStaged_act (s : State) (m : Master) (a n : Nat) : (s.dropStaged m a n).act = s.act := by
  induction n <;> simp_all [State.dropStaged]
@[simp] theorem State.dropStaged_asy (s : State) (m : Master) (a n : Nat) : (s.dropStaged m a n).asy = s.asy := by
  induction n <;> simp_all [State.dropStaged]
@[simp] theorem State.dropStaged_fct (s : State) (m : Master) (a n : Nat) : (s.dropStaged m a n).fct = s.fct := by
  induction n <;> simp_all [State.dropStaged]
@[simp] theorem State.dropStaged_flt (s : State) (m : Master) (a n : Nat) : (s.dropStaged m a n).flt = s.flt := by
  induction n <;> simp_all [State.dropStaged]
@[simp] theorem State.dropStaged_mtx (s : State) (m : Master) (a n : Nat) : (s.dropStaged m a n).mtx = s.mtx := by
  induction n <;> simp_all [State.dropStaged]
@[simp] theorem State.dropStaged_jtagErr (s : State) (m : Master) (a n : Nat) : (s.dropStaged m a n).jtagErr = s.jtagErr := by
  induction n <;> simp_all [State.dropStaged]
@[simp] theorem State.dropStaged_ddr (s : State) (m : Master) (a n : Nat) : (s.dropStaged m a n).ddr = s.ddr := by
  induction n <;> simp_all [State.dropStaged]
@[simp] theorem State.dropStaged_mrm (s : State) (m : Master) (a n : Nat) : (s.dropStaged m a n).mrm = s.mrm := by
  induction n <;> simp_all [State.dropStaged]
@[simp] theorem State.dropStaged_pci (s : State) (m : Master) (a n : Nat) : (s.dropStaged m a n).pci = s.pci := by
  induction n <;> simp_all [State.dropStaged]
@[simp] theorem State.dropStaged_lsp (s : State) (m : Master) (a n : Nat) : (s.dropStaged m a n).lsp = s.lsp := by
  induction n <;> simp_all [State.dropStaged]
@[simp] theorem State.dropStaged_tsu (s : State) (m : Master) (a n : Nat) : (s.dropStaged m a n).tsu = s.tsu := by
  induction n <;> simp_all [State.dropStaged]
@[simp] theorem State.dropStaged_mate (s : State) (m : Master) (a n : Nat) : (s.dropStaged m a n).mate = s.mate := by
  induction n <;> simp_all [State.dropStaged]
@[simp] theorem State.dropStaged_pwr (s : State) (m : Master) (a n : Nat) : (s.dropStaged m a n).pwr = s.pwr := by
  induction n <;> simp_all [State.dropStaged]
@[simp] theorem State.dropStaged_geo (s : State) (m : Master) (a n : Nat) : (s.dropStaged m a n).geo = s.geo := by
  induction n <;> simp_all [State.dropStaged]
@[simp] theorem State.dropStaged_ref (s : State) (m : Master) (a n : Nat) : (s.dropStaged m a n).ref = s.ref := by
  induction n <;> simp_all [State.dropStaged]
@[simp] theorem State.dropStaged_dpl (s : State) (m : Master) (a n : Nat) : (s.dropStaged m a n).dpl = s.dpl := by
  induction n <;> simp_all [State.dropStaged]
@[simp] theorem State.dropStaged_syn (s : State) (m : Master) (a n : Nat) : (s.dropStaged m a n).syn = s.syn := by
  induction n <;> simp_all [State.dropStaged]
@[simp] theorem State.dropStaged_outs (s : State) (m : Master) (a n : Nat) : (s.dropStaged m a n).outs = s.outs := by
  induction n <;> simp_all [State.dropStaged]
@[simp] theorem State.dropStaged_tdc (s : State) (m : Master) (a n : Nat) : (s.dropStaged m a n).tdc = s.tdc := by
  induction n <;> simp_all [State.dropStaged]
@[simp] theorem State.dropStaged_gns (s : State) (m : Master) (a n : Nat) : (s.dropStaged m a n).gns = s.gns := by
  induction n <;> simp_all [State.dropStaged]
@[simp] theorem State.dropStaged_ant (s : State) (m : Master) (a n : Nat) : (s.dropStaged m a n).ant = s.ant := by
  induction n <;> simp_all [State.dropStaged]
@[simp] theorem State.dropStaged_prt (s : State) (m : Master) (a n : Nat) : (s.dropStaged m a n).prt = s.prt := by
  induction n <;> simp_all [State.dropStaged]
@[simp] theorem State.dropStaged_svc (s : State) (m : Master) (a n : Nat) : (s.dropStaged m a n).svc = s.svc := by
  induction n <;> simp_all [State.dropStaged]
@[simp] theorem State.dropStaged_sch (s : State) (m : Master) (a n : Nat) : (s.dropStaged m a n).sch = s.sch := by
  induction n <;> simp_all [State.dropStaged]
@[simp] theorem State.dropStaged_pol (s : State) (m : Master) (a n : Nat) : (s.dropStaged m a n).pol = s.pol := by
  induction n <;> simp_all [State.dropStaged]
@[simp] theorem State.dropStaged_key (s : State) (m : Master) (a n : Nat) : (s.dropStaged m a n).key = s.key := by
  induction n <;> simp_all [State.dropStaged]
@[simp] theorem State.dropStaged_trn (s : State) (m : Master) (a n : Nat) : (s.dropStaged m a n).trn = s.trn := by
  induction n <;> simp_all [State.dropStaged]
@[simp] theorem State.dropStaged_cry (s : State) (m : Master) (a n : Nat) : (s.dropStaged m a n).cry = s.cry := by
  induction n <;> simp_all [State.dropStaged]
@[simp] theorem State.dropStaged_lcs (s : State) (m : Master) (a n : Nat) : (s.dropStaged m a n).lcs = s.lcs := by
  induction n <;> simp_all [State.dropStaged]
@[simp] theorem State.dropStaged_pending (s : State) (m : Master) (a n : Nat) : (s.dropStaged m a n).pending = s.pending := by
  induction n <;> simp_all [State.dropStaged]

/-! ### hwSet -/

@[simp] theorem State.hwSet_bt (s : State) (a i : Nat) : (s.hwSet a i).bt = s.bt := by unfold State.hwSet; split <;> rfl
@[simp] theorem State.hwSet_btRun (s : State) (a i : Nat) : (s.hwSet a i).btRun = s.btRun := by unfold State.hwSet; split <;> rfl
@[simp] theorem State.hwSet_staged (s : State) (a i : Nat) : (s.hwSet a i).staged = s.staged := by unfold State.hwSet; split <;> rfl
@[simp] theorem State.hwSet_shadow (s : State) (a i : Nat) : (s.hwSet a i).shadow = s.shadow := by unfold State.hwSet; split <;> rfl
@[simp] theorem State.hwSet_sram (s : State) (a i : Nat) : (s.hwSet a i).sram = s.sram := by unfold State.hwSet; split <;> rfl
@[simp] theorem State.hwSet_dram (s : State) (a i : Nat) : (s.hwSet a i).dram = s.dram := by unfold State.hwSet; split <;> rfl
@[simp] theorem State.hwSet_mram (s : State) (a i : Nat) : (s.hwSet a i).mram = s.mram := by unfold State.hwSet; split <;> rfl
@[simp] theorem State.hwSet_badWords (s : State) (a i : Nat) : (s.hwSet a i).badWords = s.badWords := by unfold State.hwSet; split <;> rfl
@[simp] theorem State.hwSet_free (s : State) (a i : Nat) : (s.hwSet a i).free = s.free := by unfold State.hwSet; split <;> rfl
@[simp] theorem State.hwSet_out (s : State) (a i : Nat) : (s.hwSet a i).out = s.out := by unfold State.hwSet; split <;> rfl
@[simp] theorem State.hwSet_bdr (s : State) (a i : Nat) : (s.hwSet a i).bdr = s.bdr := by unfold State.hwSet; split <;> rfl
@[simp] theorem State.hwSet_act (s : State) (a i : Nat) : (s.hwSet a i).act = s.act := by unfold State.hwSet; split <;> rfl
@[simp] theorem State.hwSet_asy (s : State) (a i : Nat) : (s.hwSet a i).asy = s.asy := by unfold State.hwSet; split <;> rfl
@[simp] theorem State.hwSet_fct (s : State) (a i : Nat) : (s.hwSet a i).fct = s.fct := by unfold State.hwSet; split <;> rfl
@[simp] theorem State.hwSet_flt (s : State) (a i : Nat) : (s.hwSet a i).flt = s.flt := by unfold State.hwSet; split <;> rfl
@[simp] theorem State.hwSet_mtx (s : State) (a i : Nat) : (s.hwSet a i).mtx = s.mtx := by unfold State.hwSet; split <;> rfl
@[simp] theorem State.hwSet_jtagErr (s : State) (a i : Nat) : (s.hwSet a i).jtagErr = s.jtagErr := by unfold State.hwSet; split <;> rfl
@[simp] theorem State.hwSet_ddr (s : State) (a i : Nat) : (s.hwSet a i).ddr = s.ddr := by unfold State.hwSet; split <;> rfl
@[simp] theorem State.hwSet_mrm (s : State) (a i : Nat) : (s.hwSet a i).mrm = s.mrm := by unfold State.hwSet; split <;> rfl
@[simp] theorem State.hwSet_pci (s : State) (a i : Nat) : (s.hwSet a i).pci = s.pci := by unfold State.hwSet; split <;> rfl
@[simp] theorem State.hwSet_lsp (s : State) (a i : Nat) : (s.hwSet a i).lsp = s.lsp := by unfold State.hwSet; split <;> rfl
@[simp] theorem State.hwSet_tsu (s : State) (a i : Nat) : (s.hwSet a i).tsu = s.tsu := by unfold State.hwSet; split <;> rfl
@[simp] theorem State.hwSet_mate (s : State) (a i : Nat) : (s.hwSet a i).mate = s.mate := by unfold State.hwSet; split <;> rfl
@[simp] theorem State.hwSet_pwr (s : State) (a i : Nat) : (s.hwSet a i).pwr = s.pwr := by unfold State.hwSet; split <;> rfl
@[simp] theorem State.hwSet_geo (s : State) (a i : Nat) : (s.hwSet a i).geo = s.geo := by unfold State.hwSet; split <;> rfl
@[simp] theorem State.hwSet_ref (s : State) (a i : Nat) : (s.hwSet a i).ref = s.ref := by unfold State.hwSet; split <;> rfl
@[simp] theorem State.hwSet_dpl (s : State) (a i : Nat) : (s.hwSet a i).dpl = s.dpl := by unfold State.hwSet; split <;> rfl
@[simp] theorem State.hwSet_syn (s : State) (a i : Nat) : (s.hwSet a i).syn = s.syn := by unfold State.hwSet; split <;> rfl
@[simp] theorem State.hwSet_outs (s : State) (a i : Nat) : (s.hwSet a i).outs = s.outs := by unfold State.hwSet; split <;> rfl
@[simp] theorem State.hwSet_tdc (s : State) (a i : Nat) : (s.hwSet a i).tdc = s.tdc := by unfold State.hwSet; split <;> rfl
@[simp] theorem State.hwSet_gns (s : State) (a i : Nat) : (s.hwSet a i).gns = s.gns := by unfold State.hwSet; split <;> rfl
@[simp] theorem State.hwSet_ant (s : State) (a i : Nat) : (s.hwSet a i).ant = s.ant := by unfold State.hwSet; split <;> rfl
@[simp] theorem State.hwSet_prt (s : State) (a i : Nat) : (s.hwSet a i).prt = s.prt := by unfold State.hwSet; split <;> rfl
@[simp] theorem State.hwSet_svc (s : State) (a i : Nat) : (s.hwSet a i).svc = s.svc := by unfold State.hwSet; split <;> rfl
@[simp] theorem State.hwSet_sch (s : State) (a i : Nat) : (s.hwSet a i).sch = s.sch := by unfold State.hwSet; split <;> rfl
@[simp] theorem State.hwSet_pol (s : State) (a i : Nat) : (s.hwSet a i).pol = s.pol := by unfold State.hwSet; split <;> rfl
@[simp] theorem State.hwSet_key (s : State) (a i : Nat) : (s.hwSet a i).key = s.key := by unfold State.hwSet; split <;> rfl
@[simp] theorem State.hwSet_trn (s : State) (a i : Nat) : (s.hwSet a i).trn = s.trn := by unfold State.hwSet; split <;> rfl
@[simp] theorem State.hwSet_cry (s : State) (a i : Nat) : (s.hwSet a i).cry = s.cry := by unfold State.hwSet; split <;> rfl
@[simp] theorem State.hwSet_lcs (s : State) (a i : Nat) : (s.hwSet a i).lcs = s.lcs := by unfold State.hwSet; split <;> rfl
@[simp] theorem State.hwSet_pending (s : State) (a i : Nat) : (s.hwSet a i).pending = s.pending := by unfold State.hwSet; split <;> rfl

/-! ### atCycle -/

@[simp] theorem State.atCycle_bt (s : State) (b : BT80) : (s.atCycle b).bt = b := rfl
@[simp] theorem State.atCycle_thisCyc (s : State) (b : BT80) : (s.atCycle b).thisCyc = {} := rfl
@[simp] theorem State.atCycle_regs (s : State) (b : BT80) : (s.atCycle b).regs = s.regs := rfl
@[simp] theorem State.atCycle_btRun (s : State) (b : BT80) : (s.atCycle b).btRun = s.btRun := rfl
@[simp] theorem State.atCycle_staged (s : State) (b : BT80) : (s.atCycle b).staged = s.staged := rfl
@[simp] theorem State.atCycle_shadow (s : State) (b : BT80) : (s.atCycle b).shadow = s.shadow := rfl
@[simp] theorem State.atCycle_sram (s : State) (b : BT80) : (s.atCycle b).sram = s.sram := rfl
@[simp] theorem State.atCycle_dram (s : State) (b : BT80) : (s.atCycle b).dram = s.dram := rfl
@[simp] theorem State.atCycle_mram (s : State) (b : BT80) : (s.atCycle b).mram = s.mram := rfl
@[simp] theorem State.atCycle_badWords (s : State) (b : BT80) : (s.atCycle b).badWords = s.badWords := rfl
@[simp] theorem State.atCycle_free (s : State) (b : BT80) : (s.atCycle b).free = s.free := rfl
@[simp] theorem State.atCycle_out (s : State) (b : BT80) : (s.atCycle b).out = s.out := rfl
@[simp] theorem State.atCycle_bdr (s : State) (b : BT80) : (s.atCycle b).bdr = s.bdr := rfl
@[simp] theorem State.atCycle_act (s : State) (b : BT80) : (s.atCycle b).act = s.act := rfl
@[simp] theorem State.atCycle_asy (s : State) (b : BT80) : (s.atCycle b).asy = s.asy := rfl
@[simp] theorem State.atCycle_fct (s : State) (b : BT80) : (s.atCycle b).fct = s.fct := rfl
@[simp] theorem State.atCycle_flt (s : State) (b : BT80) : (s.atCycle b).flt = s.flt := rfl
@[simp] theorem State.atCycle_mtx (s : State) (b : BT80) : (s.atCycle b).mtx = s.mtx := rfl
@[simp] theorem State.atCycle_jtagErr (s : State) (b : BT80) : (s.atCycle b).jtagErr = s.jtagErr := rfl
@[simp] theorem State.atCycle_ddr (s : State) (b : BT80) : (s.atCycle b).ddr = s.ddr := rfl
@[simp] theorem State.atCycle_mrm (s : State) (b : BT80) : (s.atCycle b).mrm = s.mrm := rfl
@[simp] theorem State.atCycle_pci (s : State) (b : BT80) : (s.atCycle b).pci = s.pci := rfl
@[simp] theorem State.atCycle_lsp (s : State) (b : BT80) : (s.atCycle b).lsp = s.lsp := rfl
@[simp] theorem State.atCycle_tsu (s : State) (b : BT80) : (s.atCycle b).tsu = s.tsu := rfl
@[simp] theorem State.atCycle_mate (s : State) (b : BT80) : (s.atCycle b).mate = s.mate := rfl
@[simp] theorem State.atCycle_pwr (s : State) (b : BT80) : (s.atCycle b).pwr = s.pwr := rfl
@[simp] theorem State.atCycle_geo (s : State) (b : BT80) : (s.atCycle b).geo = s.geo := rfl
@[simp] theorem State.atCycle_ref (s : State) (b : BT80) : (s.atCycle b).ref = s.ref := rfl
@[simp] theorem State.atCycle_dpl (s : State) (b : BT80) : (s.atCycle b).dpl = s.dpl := rfl
@[simp] theorem State.atCycle_syn (s : State) (b : BT80) : (s.atCycle b).syn = s.syn := rfl
@[simp] theorem State.atCycle_outs (s : State) (b : BT80) : (s.atCycle b).outs = s.outs := rfl
@[simp] theorem State.atCycle_tdc (s : State) (b : BT80) : (s.atCycle b).tdc = s.tdc := rfl
@[simp] theorem State.atCycle_gns (s : State) (b : BT80) : (s.atCycle b).gns = s.gns := rfl
@[simp] theorem State.atCycle_ant (s : State) (b : BT80) : (s.atCycle b).ant = s.ant := rfl
@[simp] theorem State.atCycle_prt (s : State) (b : BT80) : (s.atCycle b).prt = s.prt := rfl
@[simp] theorem State.atCycle_svc (s : State) (b : BT80) : (s.atCycle b).svc = s.svc := rfl
@[simp] theorem State.atCycle_sch (s : State) (b : BT80) : (s.atCycle b).sch = s.sch := rfl
@[simp] theorem State.atCycle_pol (s : State) (b : BT80) : (s.atCycle b).pol = s.pol := rfl
@[simp] theorem State.atCycle_key (s : State) (b : BT80) : (s.atCycle b).key = s.key := rfl
@[simp] theorem State.atCycle_trn (s : State) (b : BT80) : (s.atCycle b).trn = s.trn := rfl
@[simp] theorem State.atCycle_cry (s : State) (b : BT80) : (s.atCycle b).cry = s.cry := rfl
@[simp] theorem State.atCycle_lcs (s : State) (b : BT80) : (s.atCycle b).lcs = s.lcs := rfl
@[simp] theorem State.atCycle_pending (s : State) (b : BT80) : (s.atCycle b).pending = s.pending := rfl

/-! ### Registers -/

/-- A register reads what was written to it, and every other register reads as before. -/
@[simp] theorem State.reg_setReg (s : State) (a b : Nat) (v : Word) :
    (s.setReg a v).reg b = if a = b then v else s.reg b := AMap.getD_setD ..

@[simp] theorem State.reg_setRf (s : State) (a lo n v b : Nat) :
    (s.setRf a lo n v).reg b = if a = b then setFld (s.reg a) lo n v else s.reg b := AMap.getD_setD ..

@[simp] theorem State.reg_setRb (s : State) (a i b : Nat) (x : Bool) :
    (s.setRb a i x).reg b = if a = b then setFld (s.reg a) i 1 (b2n x) else s.reg b := AMap.getD_setD ..

@[simp] theorem State.reg_count (s : State) (a b : Nat) :
    (s.count a).reg b = if a = b then BitVec.ofNat 32 (satU 32 ((s.reg a).toNat + 1)) else s.reg b := AMap.getD_setD ..

/-- Words outside a written value read as before. -/
theorem State.reg_setRegN_of_ne (s : State) (a v n b : Nat) (h : ∀ i, i < n → a + 4 * i ≠ b) : (s.setRegN a v n).reg b = s.reg b := by
  induction n with
  | zero => rfl
  | succ n ih =>
    rw [State.setRegN, State.reg_setReg, if_neg (h n (Nat.lt_succ_self n))]
    exact ih (fun i hi => h i (Nat.lt_succ_of_lt hi))

theorem State.reg_congr {s t : State} (h : t.regs = s.regs) (a : Nat) : t.reg a = s.reg a := by unfold State.reg; rw [h]

/-! ### Reads that the other operations leave alone -/

@[simp] theorem State.reg_emit (s : State) (o : Output) (b : Nat) : (s.emit o).reg b = s.reg b := State.reg_congr (by simp) b
@[simp] theorem State.rf_emit (s : State) (o : Output) (b lo n : Nat) : (s.emit o).rf b lo n = s.rf b lo n := by simp [State.rf]
@[simp] theorem State.rb_emit (s : State) (o : Output) (b lo : Nat) : (s.emit o).rb b lo = s.rb b lo := by simp [State.rb]
@[simp] theorem State.reg_nextFree (s : State)  (b : Nat) : (s.nextFree).reg b = s.reg b := State.reg_congr (by simp) b
@[simp] theorem State.rf_nextFree (s : State)  (b lo n : Nat) : (s.nextFree).rf b lo n = s.rf b lo n := by simp [State.rf]
@[simp] theorem State.rb_nextFree (s : State)  (b lo : Nat) : (s.nextFree).rb b lo = s.rb b lo := by simp [State.rb]
@[simp] theorem State.reg_setShadow (s : State) (m : Master) (a : Nat) (v : Word) (b : Nat) : (s.setShadow m a v).reg b = s.reg b := State.reg_congr (by simp) b
@[simp] theorem State.rf_setShadow (s : State) (m : Master) (a : Nat) (v : Word) (b lo n : Nat) : (s.setShadow m a v).rf b lo n = s.rf b lo n := by simp [State.rf]
@[simp] theorem State.rb_setShadow (s : State) (m : Master) (a : Nat) (v : Word) (b lo : Nat) : (s.setShadow m a v).rb b lo = s.rb b lo := by simp [State.rb]
@[simp] theorem State.reg_setStaged (s : State) (m : Master) (a : Nat) (v : Option Word) (b : Nat) : (s.setStaged m a v).reg b = s.reg b := State.reg_congr (by simp) b
@[simp] theorem State.rf_setStaged (s : State) (m : Master) (a : Nat) (v : Option Word) (b lo n : Nat) : (s.setStaged m a v).rf b lo n = s.rf b lo n := by simp [State.rf]
@[simp] theorem State.rb_setStaged (s : State) (m : Master) (a : Nat) (v : Option Word) (b lo : Nat) : (s.setStaged m a v).rb b lo = s.rb b lo := by simp [State.rb]
@[simp] theorem State.reg_dropStaged (s : State) (m : Master) (a n : Nat) (b : Nat) : (s.dropStaged m a n).reg b = s.reg b := State.reg_congr (by simp) b
@[simp] theorem State.rf_dropStaged (s : State) (m : Master) (a n : Nat) (b p q : Nat) : (s.dropStaged m a n).rf b p q = s.rf b p q := by simp [State.rf]
@[simp] theorem State.rb_dropStaged (s : State) (m : Master) (a n : Nat) (b p : Nat) : (s.dropStaged m a n).rb b p = s.rb b p := by simp [State.rb]
@[simp] theorem State.reg_dropStagedRange (s : State) (lo n : Nat) (b : Nat) : (s.dropStagedRange lo n).reg b = s.reg b := State.reg_congr (by simp) b
@[simp] theorem State.rf_dropStagedRange (s : State) (lo n : Nat) (b p q : Nat) : (s.dropStagedRange lo n).rf b p q = s.rf b p q := by simp [State.rf]
@[simp] theorem State.rb_dropStagedRange (s : State) (lo n : Nat) (b p : Nat) : (s.dropStagedRange lo n).rb b p = s.rb b p := by simp [State.rb]
@[simp] theorem State.reg_sramWr (s : State) (a : Nat) (l : List Byte) (b : Nat) : (s.sramWr a l).reg b = s.reg b := State.reg_congr (by simp) b
@[simp] theorem State.rf_sramWr (s : State) (a : Nat) (l : List Byte) (b lo n : Nat) : (s.sramWr a l).rf b lo n = s.rf b lo n := by simp [State.rf]
@[simp] theorem State.rb_sramWr (s : State) (a : Nat) (l : List Byte) (b lo : Nat) : (s.sramWr a l).rb b lo = s.rb b lo := by simp [State.rb]
@[simp] theorem State.reg_dramWr (s : State) (a : Nat) (l : List Byte) (b : Nat) : (s.dramWr a l).reg b = s.reg b := State.reg_congr (by simp) b
@[simp] theorem State.rf_dramWr (s : State) (a : Nat) (l : List Byte) (b lo n : Nat) : (s.dramWr a l).rf b lo n = s.rf b lo n := by simp [State.rf]
@[simp] theorem State.rb_dramWr (s : State) (a : Nat) (l : List Byte) (b lo : Nat) : (s.dramWr a l).rb b lo = s.rb b lo := by simp [State.rb]
@[simp] theorem State.reg_setTh (s : State) (k : Nat) (x : Thread) (b : Nat) : (s.setTh k x).reg b = s.reg b := State.reg_congr (by simp) b
@[simp] theorem State.rf_setTh (s : State) (k : Nat) (x : Thread) (b lo n : Nat) : (s.setTh k x).rf b lo n = s.rf b lo n := by simp [State.rf]
@[simp] theorem State.rb_setTh (s : State) (k : Nat) (x : Thread) (b lo : Nat) : (s.setTh k x).rb b lo = s.rb b lo := by simp [State.rb]
@[simp] theorem State.reg_atCycle (s : State) (t : BT80) (b : Nat) : (s.atCycle t).reg b = s.reg b := State.reg_congr (by simp) b
@[simp] theorem State.rf_atCycle (s : State) (t : BT80) (b lo n : Nat) : (s.atCycle t).rf b lo n = s.rf b lo n := by simp [State.rf]
@[simp] theorem State.rb_atCycle (s : State) (t : BT80) (b lo : Nat) : (s.atCycle t).rb b lo = s.rb b lo := by simp [State.rb]

end Sys2Proof.Machine
end

