-- ==== Sys2Proof/WellFormed.lean ====
section
/-! DEFINITION. Which commands a sender can send: what the types of the operands do not already say. A command that is not
well formed names no event of the device. -/
namespace Sys2Proof

/-- The bytes of a bus access (R5 to R7). -/
def AccSize.bytes : AccSize → Nat
  | .byte => 1
  | .half => 2
  | .word => 4
  | .double => 8

/-- An offset that names a whole register word (R5). -/
def isWordAligned (a : BAddr) : Bool := decide (a.toNat % 4 = 0)

/-- An offset at which a page of 4 KiB begins (R2). -/
def isPageBase (a : BAddr) : Bool := decide (a.toNat % 4096 = 0)

/-- The operands of a command lie where the event it stands for can have them: a value fits its access (R6), a row that names a
register or a page gives its offset (R2, R5), a list that holds one entry a lane or a sector holds no second (R404, R881), a
calibration returns its four words (R447), an I2C transfer reads at most 16 bytes (R895), and a symbol has no position beyond its
length (R355). -/
def Instr.wellFormed : Instr → Bool
  | .registerWrite _ size _ v => decide (v.toNat < 2 ^ (8 * size.bytes))
  | .multiwordLoRead _ r => decide (r.addr.toNat % min r.size.bytes 4 = 0)
  | .multiwordHiWrite _ addr _ => isWordAligned addr
  | .readClearCounterRead _ addr _ => isWordAligned addr
  | .evtForceWrite _ page _ => isPageBase page
  | .softReset _ page _ => isPageBase page
  | .softResetComplete page => isPageBase page
  | .blockEnable _ page _ => isPageBase page
  | .blockFreeze _ page _ => isPageBase page
  | .freezeSafePoint page => isPageBase page
  | .cfgLock _ page _ => isPageBase page
  | .channelIntegration _ x => decide (x.symPos.toNat < x.secLen.toNat ∨ x.secLen = 0)
  | .jamEvaluate lanes => decide ((lanes.map (·.lane)).Nodup)
  | .calDone corr => decide (corr.length = 16)
  | .faultRise page _ => isPageBase page
  | .pmuCounterHiWrite _ addr _ => isWordAligned addr
  | .mramScrubPass counts => decide ((counts.map (·.1)).Nodup)
  | .i2cDone _ _ _ _ data => decide (data.length ≤ 16)
  | .b4modeWrite .. | .bedrockWrap | .rateCommit .. | .stepCommit .. | .slewCommit .. | .slewAbort .. | .bdrCapture ..
  | .changeAnchor | .slewEnd | .bdrConvert .. | .utcOfsWrite .. | .slotArm .. | .slotClear .. | .actDisarm .. | .slotTake ..
  | .slotStoreError .. | .actionInitiate | .pulseWidthEnd .. | .actionOutcome .. | .asyCommit .. | .asyUpdate ..
  | .setCoarse .. | .declareTraceable .. | .declareUntraceable .. | .asyChangeAnchor | .updateTimeout | .holdoverLimitExceeded
  | .holdoverMaxExpire | .tempSample .. | .tempLost | .asyERead .. | .recordPeriodic | .recordSigned .. | .recordStall
  | .recordEnableWrite .. | .asyStoreFault | .bdrParamFault | .activityTimeout .. | .frequencyGateEnd .. | .messageTimeout ..
  | .qualificationTimerExpire .. | .entryCfgWrite .. | .announceDelivery .. | .todBinaryFrame .. | .todFrameTimeout ..
  | .todNmeaSentence .. | .todWindowExpire .. | .refSelect .. | .deselect .. | .prioWrite .. | .fallback ..
  | .fallbackRescan .. | .refTableFault | .solutionDelivery .. | .loopMeasurement .. | .reportInstant .. | .forceHo ..
  | .release .. | .reseed .. | .historySample .. | .dplStatePar .. | .synLock .. | .synStop .. | .bmeas .. | .bmeasDone ..
  | .synLockAchieved .. | .synLockTimeout .. | .synLol .. | .synRelockAttempt .. | .synSlewStep .. | .outputSync .. | .syncDone
  | .outCfgPar | .ppsEdge .. | .ppsAlign .. | .ppsCfgWrite .. | .aligned .. | .gnsTrain .. | .trainDone .. | .gnsSif ..
  | .laneStuck .. | .antPwr .. | .acqRequest | .acqResult .. | .cancelAll .. | .channelStart .. | .channelStop ..
  | .aidedPullinStart .. | .pullinTimeout .. | .channelLaneLoss .. | .channelReacquire .. | .measurementEpoch | .navRecord ..
  | .economyEvaluate | .burstStart .. | .burstEnd .. | .gnssPpsArm .. | .gnssPpsEdge | .gnssPpsCfgWrite .. | .antCfgPar
  | .tdcEdge .. | .tdcResultRead .. | .tdcArm .. | .tdcGateEdge .. | .tdcChannelCfgWrite .. | .tdcCalStart ..
  | .boundaryVisit .. | .laneModelExpire .. | .ocxoRdyChange .. | .groupModeWrite .. | .linkUp .. | .linkDown ..
  | .frameReceive .. | .pauseReceive .. | .partnerPauseExpire .. | .pauseRefresh .. | .pauseTransmit .. | .modeWrite ..
  | .modeActChange .. | .txClockStop .. | .txClockStart .. | .frameTransmit .. | .esmcReceive .. | .esmcInfoTransmit ..
  | .esmcEventTransmit .. | .tsuReserve .. | .reservationCancel .. | .tsuSubmission .. | .submitDeadline .. | .tsuLaunch ..
  | .launchComplete .. | .tsuTempSample .. | .phaseLost .. | .threadStart .. | .threadHalt .. | .clrflt .. | .waitResume ..
  | .imageLoad .. | .loadDone .. | .queueStateWrite .. | .doorbell .. | .timerArm .. | .timerFire .. | .semTryAcquire ..
  | .semRelease .. | .semForce .. | .sampleRead .. | .add .. | .sub .. | .andOp .. | .orOp .. | .xorOp .. | .sll .. | .srl ..
  | .sra .. | .slt .. | .sltu .. | .mul .. | .mulh .. | .mulhu .. | .div .. | .divu .. | .rem .. | .remu .. | .clz ..
  | .popc .. | .bswap .. | .bswap32 .. | .bswap16 .. | .addi .. | .slti .. | .sltiu .. | .andi .. | .ori .. | .xori ..
  | .lui .. | .shi .. | .insh .. | .ld .. | .lw .. | .lwu .. | .lh .. | .lhu .. | .lb .. | .lbu .. | .sd .. | .sw .. | .sh ..
  | .sb .. | .postedStoreError .. | .beq .. | .bne .. | .blt .. | .bge .. | .bltu .. | .bgeu .. | .jal .. | .jalr ..
  | .illegalEncoding .. | .rdbt .. | .rdwt .. | .cvwt .. | .tdiff .. | .tdiffb .. | .topt .. | .tres .. | .tont .. | .frpt ..
  | .tadd .. | .taddb .. | .eval .. | .rsv .. | .rcan .. | .tarm .. | .qpush .. | .qpop .. | .qpushw .. | .qpopw .. | .qstat ..
  | .ewait .. | .etry .. | .epost .. | .barArrive .. | .bcast .. | .sacq .. | .stry .. | .srel .. | .csub .. | .cwait ..
  | .ctry .. | .jrnl .. | .fence .. | .sysCall .. | .breakOp .. | .eret .. | .mfsr .. | .mtsr .. | .pmrd ..
  | .cryptoComplete .. | .servicePageWrite .. | .commandBufferRelease .. | .policerRefill | .quarrySeed | .qryFlush ..
  | .flushDone | .qryClear .. | .clearDone | .quarryReseed .. | .ntpRequest .. | .ntsRequest .. | .ntsMint ..
  | .arpNdRequest .. | .delayReq .. | .syncTarget .. | .announceTarget .. | .followUp .. | .unicastNegotiation ..
  | .cancelUnicastTransmission .. | .grantExpire .. | .quarantineEnd .. | .upstreamRenew .. | .upstreamMessage ..
  | .upstreamAnnounceTimeout .. | .transmitOpportunity .. | .class6Pass .. | .shaperRefill | .haltPinChange ..
  | .swhaltWrite .. | .keyStage .. | .keyStaged | .keyCommit .. | .keyCommitted | .keyDiscard .. | .trngHealth ..
  | .trngResumed | .drbgReseed | .drbgWaitTimeout | .trnOutRead .. | .lcsChallenge .. | .lcsProvision .. | .lcsField ..
  | .lcsDebug .. | .lcsRetire .. | .mateLaneUp .. | .mateLaneDown .. | .matePpsPulse | .healthPublish | .healthInterval ..
  | .healthFrame .. | .timeFrame .. | .mirrorFrame .. | .armHo .. | .ackHo .. | .abortHo .. | .resyncReq .. | .mirrorSend
  | .mateResidUpdate | .discoveryTimeout | .activeInChange .. | .mateRejoin .. | .mateIsolate .. | .hoDone | .reversionArm
  | .selftestTimeout | .shadowRestore | .escalated .. | .faultAck .. | .faultSeverityWrite .. | .hmaskWrite .. | .clrAll ..
  | .matrixTimeout | .lateResponse | .cfgRecalc .. | .recalcDone | .ddrInit .. | .ddrTrained .. | .scrubNow ..
  | .ddrScrubPass .. | .mramRemapRequest .. | .journalWrite .. | .jdone | .commandRingEntry .. | .hostNop .. | .copyIn ..
  | .copyOut .. | .mramWrite .. | .hostTxEntry .. | .pcieLinkChange .. | .qspiCommand .. | .qspiDone .. | .i2cTransfer ..
  | .uartTransmit .. | .uartReceive .. | .gpioEdge .. | .invSearch .. | .inventorySearchDone .. | .powerGoodRise .. | .apllLock
  | .powerGoodFall | .resetNAssert | .resetRelease .. | .tapReset | .quiesce .. | .quiesceEntryDone | .pwrRun ..
  | .wakeExitDone | .pwrChipReset .. | .avs .. | .geoWriteLand | .geoSet .. | .geoSecond | .geoTrimApply | .geoAlarm
  | .tamper .. | .tamperClear .. | .geoPowerOnReset | .xtalStop | .remoteFault .. | .mramRemapDone => true

end Sys2Proof
end

