-- ==== Sys2Proof/Tests/Slice0.lean ====
section
/-! SUPPORT. Tests: for every obligation one theorem that shows, for its clauses in their order, a state and operands that meet the
clause's hypotheses; a term for each check of `Instr.wellFormed` that it refuses; and a few single steps and published vectors. -/
namespace Sys2Proof.Tests
open Sys2Proof Sys2Proof.Machine
set_option linter.unusedVariables false
set_option Elab.async false

/-! ### States for the tests -/

/-- The state after reset. -/
abbrev R : State := State.reset
theorem issues_of {k : Nat} {p : Bool} {l : List GReg} {s : State}
    (h : (s.canIssue k && decide ((s.th k).postErr = none) && (fetchAt k s).1 &&
      !(p && ((fetchAt k s).2.th k).user) && !((l.map BitVec.toNat).any ((fetchAt k s).2.rgBad k))) = true) :
    Issues k p l s (fetchAt k s).2 := by
  simp only [Bool.and_eq_true, Bool.not_eq_true', decide_eq_true_eq] at h
  obtain ⟨⟨⟨⟨h1, h2⟩, h3⟩, h4⟩, h5⟩ := h
  exact ⟨h1, h2, Prod.ext h3 rfl, h4, h5⟩
/-- A state after reset with some registers set. -/
def rg (l : List (Nat × Word)) : State := l.foldl (fun a p => a.setReg p.1 p.2) R
/-- The same, long after reset. -/
def late (l : List (Nat × Word)) : State := { rg l with bt := 0x400000000000000000 }
/-- A launch slot of port 15. -/
def someSlot : TsuSlot :=
  { port := 15, tag := 0, cq := 0, len := 64, k := 0, lo := 0, hi := 0, tx := 0x1000000000, wt := 0, sub := none, begun := false, bad := false }
/-- A state in which port 15 grants launches. -/
def grantable : State :=
  { R with
    regs := [(Reg.PRT_GMODE 12, 0), (Reg.TSU 3 + 8, 1), (Reg.PRT 15 + 8, 1), (Reg.PRT_LINK 15, 0x18), (Reg.PRT_CFG 15, 0),
      (Reg.TSU_TXDLY_FCAL 3 3, 0), (Reg.TSU_TCO_FCAL 3 3, 0)]
    tsu.lanes := [(30, { valid := true, per := 720575940379279360, p0 := 0 })] }
/-- The same, long after reset, with a launch slot. -/
def launching (x : TsuSlot) : State :=
  { grantable with
    bt := 0x400000000000000000
    tsu.slots := [(2048 * 3 + 2047, some x)]
    tsu.lanes := [(30, { valid := true, per := 720575940379279360, p0 := 0, visit := 0x400000000000000000 })] }
/-- A state in which engine 511 runs, with its thread 3 as given. -/
def running (t : Thread) : State :=
  (rg [(Reg.ENG 511 + 8, 1), (Reg.CLU 63 + 8, 1), (Reg.QDR 3 + 8, 1)]).setTh 2047 t
/-- A state in which cluster 0 accepts an image: its header is in SRAM. -/
def loadable : State :=
  let h : List Byte := bytesLE 4 0x31434146 ++ [1, 0] ++ List.replicate 26 0 ++ List.replicate 8 0xFF ++ List.replicate 56 0 ++
    [1] ++ List.replicate 31 0 ++ [1] ++ List.replicate 63 0
  let k : List Byte := 1 :: List.replicate 31 0
  { R with
    regs := (Reg.CLU_LOAD 0, BitVec.ofNat 32 eaSram) :: (List.range 8).map (fun i => (Reg.LCS_VENDOR i, keyWord (sha256 k) i))
    sram := writeBytes [] 0 h }
/-- A state in which thread 3 of engine 511 runs and its instruction is fetched. -/
def ready : State := running { st := .run, pc := 0x200000 }
theorem pairEq {α β : Type} {x : α × β} {a : α} (h : x.1 = a) : x = (a, x.2) := Prod.ext h rfl
theorem tripleEq {α β γ : Type} {x : α × β × γ} {a : α} {b : β} (h : x.1 = a) (g : x.2.1 = b) : x = (a, b, x.2.2) :=
  Prod.ext h (Prod.ext g rfl)
/-- The same, with general registers. -/
def readyWith (g : AMap DWord) : State := running { st := .run, pc := 0x200000, g := g }
/-- The same, with queue 0 open and of 16-byte elements in SRAM. -/
def queued : State := ready.setQueue 0 { en := true, log2 := 1, base := BitVec.ofNat 32 (eaSram / 64) }
theorem okEq {ε α : Type} {x : Except ε α} {a : α} (h : x.toOption = some a) : x = .ok a := by
  cases x <;> simp_all [Except.toOption]
/-- The frame of an IP version 4 packet of UDP with a payload. -/
def udpFrame (pay : List Byte) : List Byte :=
  List.replicate 12 0 ++ [8, 0, 0x45, 0, 0, 76, 0, 0, 0, 0, 64, 17, 0, 0] ++ List.replicate 8 0 ++
    [0, 0, 0, 123, 0, BitVec.ofNat 8 (8 + pay.length), 0, 0] ++ pay ++ List.replicate 4 0
/-- The frame of a PTP message over Ethernet. -/
def ptpFrameOf (m : List Byte) : List Byte := List.replicate 12 0 ++ [0x88, 0xF7] ++ m ++ List.replicate 4 0
/-- The PTP message of a type, of domain 0, whose body and TLVs are given. -/
def ptpMsg (t : Byte) (l : List Byte) : List Byte := [t, 2, 0, BitVec.ofNat 8 (34 + l.length)] ++ List.replicate 30 0 ++ l
/-- A state whose session table stands in SRAM, with a session. -/
def withSess (x : Sess) : State :=
  { rg [(Reg.QRY_SESS_CFG, 1), (Reg.QRY_SESS_BASE, BitVec.ofNat 32 eaSram)] with sram := writeBytes [] 0 x.bytes }
/-- A state in which instance 0 sends to port 15, every 2^-20 s, and launches are granted. -/
def ptpReady : State :=
  { grantable with
    bt := 0x400000000000000000
    regs := (Reg.QRY_PTP_CFG 0, 0x80000001) :: (Reg.QRY_PTP_LOG 0, 0xECEC) :: grantable.regs
    tsu.lanes := [(30, { valid := true, per := 720575940379279360, p0 := 0, visit := 0x400000000000000000 })] }
theorem ptpReady_sched (a : Bool) : (ptpReady.schedOf 0 15 none a).isSome = true := by
  cases a <;> decide +kernel
/-- What instance 0 sends there. -/
def ptpSched : Sched := (ptpReady.schedOf 0 15 none false).get (ptpReady_sched false)
/-- The same, where the target now computed has been tried. -/
def ptpTried : State :=
  let u := ptpReady.nextFree.nextFree
  { ptpReady with svc := { ptpReady.svc with tried := [(schedKey 0 15 none false,
      some (nextTarget ptpSched.log ptpSched.phase (u.servedAt (u.bt + cyc (u.rf (Reg.TSU_LEAD 3) 0 16)))))] } }
/-- A descriptor of a frame of 60 bytes in SRAM for port 16. -/
def aDesc : List Byte := bytesLE 5 (eaSram + 256) ++ [16] ++ bytesLE 2 60 ++ List.replicate 24 0
/-- A state in which port 16 may send and its class 7 holds that descriptor. -/
def sendable : State :=
  { (rg [(prtPage 16 + 8, 1), (Reg.MGMT_STAT, 1), (Reg.SCH_TXQ 16 7, 0x80000000)]).setQueue 0
      { en := true, log2 := 1, esize := 1, tail := 1, base := BitVec.ofNat 32 (eaSram / 64) } with
    sram := writeBytes [] 0 aDesc }
/-- A state in a life-cycle state, with serial number 0. -/
def owned (st : Word) : State :=
  { R with regs := [(Reg.LCS_STATE, st), (Reg.LCS_SERIAL, 0), (Reg.LCS_SERIAL + 4, 0)] }
/-- A crypto descriptor of an operation, with its key source and destination in SRAM. -/
def aCry (op src : Byte) : CryOp :=
  { th := 2047, num := 0, user := false, desc := [op, src] ++ List.replicate 14 0 ++ bytesLE 8 eaSram ++ List.replicate 8 0,
    access := true }
theorem errEq {ε α : Type} {x : Except ε α} {e : ε} (h : (match x with | .error y => some y | .ok _ => none) = some e) :
    x = .error e := by
  cases x <;> simp_all
/-- A state in which the mate link is on, with the given MATE_STAT. -/
def mated (w : Word) : State := rg [(Reg.MATE + 8, 1), (Reg.MATE_CFG, 1), (Reg.MATE_STAT, w)]
/-- A mate frame of a type and payload. -/
def mateFrame (t : Byte) (pay : List Byte) : List Byte :=
  let b := [t, 1] ++ bytesBE 2 pay.length ++ List.replicate 12 0 ++ pay
  b ++ bytesBE 4 (crc32c b).toNat
/-- A state whose command ring 0 has an entry of an opcode under way. -/
def ringing (op : Nat) : State := { R with pci := { R.pci with running := [(0, some { seq := 0, opcode := op })] } }
theorem drbg_gives {n : Nat} {s : State} (h : s.withheld = false) (g : AMap.get false s.badWords badDrbg = false) :
    (drbg n s).1 = some (bytesLE n s.freeVal) := by
  unfold drbg; rw [if_neg (by simp [h]), if_neg (by simp [g])]
/-- Entry b of a table of 256 bytes that stands in one number. -/
def tab (t : Nat) (b : Byte) : Byte := BitVec.ofNat 8 (t >>> (8 * b.toNat))
/-- The substitution box. -/
def tS : Nat :=
  0x16bb54b00f2d99416842e6bf0d89a18cdf2855cee9871e9b948ed9691198f8e19e1dc186b95735610ef6034866b53e708a8bbd4b1f74dde8c6b4a61c2e2578ba08ae7a65eaf4566ca94ed58d6d37c8e779e4959162acd3c25c2406490a3a32e0db0b5ede14b8ee4688902a22dc4f816073195d643d7ea7c41744975fec130ccdd2f3ff1021dab6bcf5389d928f40a351a89f3c507f02f94585334d43fbaaefd0cf584c4a39becb6a5bb1fc20ed00d153842fe329b3d63b52a05a6e1b1a2c830975b227ebe28012079a059618c323c7041531d871f1e5a534ccf73f362693fdb7c072a49cafa2d4adf04759fa7dc982ca76abd7fe2b670130c56f6bf27b777c63
/-- The inverse substitution box. -/
def tI : Nat :=
  0x7d0c2155631469e126d677ba7e042b17619953833cbbebc8b0f52aae4d3be0a0ef9cc9939f7ae52d0d4ab519a97f51605fec8027591012b131c7078833a8dd1ff45acd78fec0db9a2079d2c64b3e56fc1bbe18aa0e62b76f89c5291d711af1476edf751ce837f9e28535ade72274ac9673e6b4f0cecff297eadc674f4111913a6b8a130103bdafc1020f3fca8f1e2cd00645b3b80558e4f70ad3bc8c00abd890849d8da75746155edab9edfd5048706c92b6655dcc5ca4d41698688664f6f87225d18b6d49a25b76b224d92866a12e084ec3fa420b954cee3d23c2a632947b54cbe9dec444438e3487ff2f9b8239e37cfbd7f3819ea340bf38a53630d56a0952
/-- The products with 2. -/
def t2 : Nat :=
  0xe5e7e1e3edefe9ebf5f7f1f3fdfff9fbc5c7c1c3cdcfc9cbd5d7d1d3dddfd9dba5a7a1a3adafa9abb5b7b1b3bdbfb9bb858781838d8f898b959791939d9f999b656761636d6f696b757771737d7f797b454741434d4f494b555751535d5f595b252721232d2f292b353731333d3f393b050701030d0f090b151711131d1f191bfefcfaf8f6f4f2f0eeeceae8e6e4e2e0dedcdad8d6d4d2d0cecccac8c6c4c2c0bebcbab8b6b4b2b0aeacaaa8a6a4a2a09e9c9a98969492908e8c8a88868482807e7c7a78767472706e6c6a68666462605e5c5a58565452504e4c4a48464442403e3c3a38363432302e2c2a28262422201e1c1a18161412100e0c0a0806040200
/-- The products with 3. -/
def t3 : Nat :=
  0x1a191c1f16151013020104070e0d080b2a292c2f26252023323134373e3d383b7a797c7f76757073626164676e6d686b4a494c4f46454043525154575e5d585bdad9dcdfd6d5d0d3c2c1c4c7cecdc8cbeae9ecefe6e5e0e3f2f1f4f7fefdf8fbbab9bcbfb6b5b0b3a2a1a4a7aeada8ab8a898c8f86858083929194979e9d989b818287848d8e8b88999a9f9c95969390b1b2b7b4bdbebbb8a9aaafaca5a6a3a0e1e2e7e4edeeebe8f9fafffcf5f6f3f0d1d2d7d4dddedbd8c9cacfccc5c6c3c0414247444d4e4b48595a5f5c55565350717277747d7e7b78696a6f6c65666360212227242d2e2b28393a3f3c35363330111217141d1e1b18090a0f0c05060300
/-- The products with 9. -/
def t9 : Nat :=
  0x464f545d626b70790e071c152a233831d6dfc4cdf2fbe0e99e978c85bab3a8a17d746f6659504b42353c272e1118030aede4fff6c9c0dbd2a5acb7be8188939a3039222b141d060f78716a635c554e47a0a9b2bb848d969fe8e1faf3ccc5ded70b0219102f263d34434a5158676e757c9b928980bfb6ada4d3dac1c8f7fee5ecaaa3b8b18e879c95e2ebf0f9c6cfd4dd3a3328211e170c05727b6069565f444d9198838ab5bca7aed9d0cbc2fdf4efe60108131a252c373e49405b526d647f76dcd5cec7f8f1eae3949d868fb0b9a2ab4c455e5768617a73040d161f2029323be7eef5fcc3cad1d8afa6bdb48b829990777e656c535a41483f362d241b120900
/-- The products with 11. -/
def t11 : Nat :=
  0xa3a8b5be8f849992fbf0ede6d7dcc1ca1318050e3f3429224b405d56676c717ad8d3cec5f4ffe2e9808b969daca7bab168637e75444f5259303b262d1c170a01555e434879726f640d061b10212a373ce5eef3f8c9c2dfd4bdb6aba0919a878c2e2538330209141f767d606b5a514c479e958883b2b9a4afc6cdd0dbeae1fcf7545f424978736e650c071a11202b363de4eff2f9c8c3ded5bcb7aaa1909b868d2f2439320308151e777c616a5b504d469f948982b3b8a5aec7ccd1daebe0fdf6a2a9b4bf8e859893faf1ece7d6ddc0cb1219040f3e3528234a415c57666d707bd9d2cfc4f5fee3e8818a979cada6bbb069627f74454e5358313a272c1d160b00
/-- The products with 13. -/
def t13 : Nat :=
  0x979a8d80a3aeb9b4fff2e5e8cbc6d1dc474a5d50737e69642f2235381b16010c2c21363b1815020f44495e53707d6a67fcf1e6ebc8c5d2df94998e83a0adbab7faf7e0edcec3d4d9929f8885a6abbcb12a27303d1e130409424f5855767b6c61414c5b5675786f622924333e1d10070a919c8b86a5a8bfb2f9f4e3eecdc0d7da4d40575a7974636e25283f32111c0b069d90878aa9a4b3bef5f8efe2c1ccdbd6f6fbece1c2cfd8d59e938489aaa7b0bd262b3c31121f08054e4354597a77606d202d3a3714190e034845525f7c71666bf0fdeae7c4c9ded39895828faca1b6bb9b96818cafa2b5b8f3fee9e4c7caddd04b46515c7f726568232e3934171a0d00
/-- The products with 14. -/
def t14 : Nat :=
  0x8d83919fb5bba9a7fdf3e1efc5cbd9d76d63717f555b49471d13010f252b393756584a446e60727c26283a341e10020cb6b8aaa48e80929cc6c8dad4fef0e2ec202e3c321816040a505e4c426866747ac0cedcd2f8f6e4eab0beaca28886949afbf5e7e9c3cddfd18b859799b3bdafa11b150709232d3f316b657779535d4f41ccc2d0def4fae8e6bcb2a0ae848a98962c22303e141a08065c52404e646a787617190b052f21333d67697b755f51434df7f9ebe5cfc1d3dd87899b95bfb1a3ad616f7d735957454b111f0d032927353b818f9d93b9b7a5abf1ffede3c9c7d5dbbab4a6a8828c9e90cac4d6d8f2fceee05a544648626c7e702a243638121c0e00
/-- The inverses in GF(2^8). -/
def tV : Nat :=
  0x1c411acda07d9cdd8c0346683438235bb31e505de3d74e08adcf0ec6ebd60db16b90f89dd5c48b94eae2dbc563ae077ae6acfc1b045327a90fe4d4daa32f280b5786bcbd3d768ea571787511ef1fe00c62d2e7ce4a12c8264865b88fc32e7cfb9a89dcf9889f142a72848ad86d326adea4b902f7d9959e9b56be7396807f7e838281faa106d070b63cbab5108597b7793b219333df9147f44336a649d3af5e161761ec51f0223e18bf87244cca055ced09e9255413ab64a769f5312d6737fe1d1959bb776f2035f2426639f36c92452cc2a2443015980ac1c9a84d55f15a6e3ab2ee40ffccfd3f585f602b994baab474c7e5e1b0c0294fe8d17b52cbf68d0100
/-- `gmul` with tables. -/
def gm (a b : Byte) : Byte :=
  if a = 1 then b else if a = 2 then tab t2 b else if a = 3 then tab t3 b else if a = 9 then tab t9 b else if a = 11 then tab t11 b
  else if a = 13 then tab t13 b else if a = 14 then tab t14 b else gmul a b
theorem gmul_gm : gmul = gm := by
  funext a b
  unfold gm
  repeat' split
  all_goals first
    | rfl
    | (subst a; revert b; decide +kernel)
theorem ginv_tab : ginv = tab tV := by funext b; revert b; decide +kernel
theorem sbox_tab : sbox = tab tS := by
  funext b; unfold sbox; simp only [ginv_tab]; revert b; decide +kernel
theorem sboxInv_tab : sboxInv = tab tI := by
  funext b; unfold sboxInv; simp only [ginv_tab]; revert b; decide +kernel
/-- `mixColumns` with tables. -/
def mixF (co : List Byte) (s : List Byte) : List Byte :=
  (List.range 16).map (fun i =>
    (List.range 4).foldl (fun a j => a ^^^ gm (co.getD ((j + 4 - i % 4) % 4) 0) (s.getD (4 * (i / 4) + j) 0)) 0)
theorem mix_f : mixColumns = mixF := by funext co s; unfold mixColumns mixF; rw [gmul_gm]
/-- `keyExpand` with tables. -/
def expandF (nk : Nat) : Nat → Nat → Byte → List (List Byte) → List (List Byte)
  | 0, _, _, l => l
  | f + 1, i, rc, l =>
    let t := l.headD []
    let u := if i % nk = 0 then xorB ((t.drop 1 ++ t.take 1).map (tab tS)) [rc, 0, 0, 0]
      else if 6 < nk ∧ i % nk = 4 then t.map (tab tS) else t
    expandF nk f (i + 1) (if i % nk = 0 then xtime rc else rc) (xorB (l.getD (nk - 1) []) u :: l)
theorem expand_f (nk f : Nat) : keyExpand nk f = expandF nk f := by
  induction f with
  | zero => rfl
  | succ f ih => funext i rc l; unfold keyExpand expandF; rw [ih, sbox_tab]
/-- `roundKeys` with tables. -/
def roundF (key : List Byte) : List (List Byte) :=
  let nk := key.length / 4
  let ws := (expandF nk (4 * (nk + 7) - nk) nk 1 (keyWords key).reverse).reverse
  (List.range (nk + 7)).map (fun r => ((ws.drop (4 * r)).take 4).flatten)
theorem round_f (key : List Byte) : roundKeys key = roundF key := by unfold roundKeys roundF; simp only [expand_f]
/-- `aesEnc` with tables, under round keys. -/
def encF (rk : List (List Byte)) (blk : List Byte) : List Byte :=
  match rk with
  | [] => blk
  | k0 :: ks =>
    let last := ks.getLastD []
    let mid := ks.dropLast.foldl (fun s k => xorB (mixF [2, 3, 1, 1] (shiftRows 1 (s.map (tab tS)))) k) (xorB blk k0)
    xorB (shiftRows 1 (mid.map (tab tS))) last
theorem enc_f {key : List Byte} {rk : List (List Byte)} (h : roundKeys key = rk) (b : List Byte) : aesEnc key b = encF rk b := by
  unfold aesEnc encF; rw [h, mix_f, sbox_tab]; try (cases rk <;> rfl)
/-- `aesDec` with tables, under reversed round keys. -/
def decF (rk : List (List Byte)) (blk : List Byte) : List Byte :=
  match rk with
  | [] => blk
  | k0 :: ks =>
    let last := ks.getLastD []
    let mid := ks.dropLast.foldl (fun s k => mixF [0x0E, 0x0B, 0x0D, 0x09] (xorB ((shiftRows 3 s).map (tab tI)) k)) (xorB blk k0)
    xorB ((shiftRows 3 mid).map (tab tI)) last
theorem dec_f {key : List Byte} {rk : List (List Byte)} (h : (roundKeys key).reverse = rk) (b : List Byte) : aesDec key b = decF rk b := by
  unfold aesDec decF; rw [h, mix_f, sboxInv_tab]; try (cases rk <;> rfl)
/-- `cbcMac` with tables. -/
def cbcF (rk : List (List Byte)) : Nat → List Byte → List Byte → List Byte
  | 0, c, _ => c
  | n + 1, c, l => cbcF rk n (encF rk (xorB c (l.take 16))) (l.drop 16)
theorem cbc_f {key : List Byte} {rk : List (List Byte)} (h : roundKeys key = rk) (n : Nat) : cbcMac key n = cbcF rk n := by
  induction n with
  | zero => rfl
  | succ n ih => funext c l; unfold cbcMac cbcF; rw [ih, enc_f h]
/-- `aesCmac` with tables. -/
def cmacF (rk : List (List Byte)) (msg : List Byte) : List Byte :=
  let k1 := dbl (encF rk (List.replicate 16 0))
  let n := (msg.length - 1) / 16
  let tail := msg.drop (16 * n)
  let last := if tail.length = 16 then xorB tail k1 else xorB (sliceB (tail ++ [0x80#8]) 0 16) (dbl k1)
  encF rk (xorB (cbcF rk n (List.replicate 16 0) msg) last)
theorem cmac_f {key : List Byte} {rk : List (List Byte)} (h : roundKeys key = rk) : aesCmac key = cmacF rk := by
  funext m; unfold aesCmac cmacF; simp only [enc_f h, cbc_f h]
theorem kdf_f {key : List Byte} {rk : List (List Byte)} (h : roundKeys key = rk) (lab ctx : List Byte) (l : Nat) :
    kdf key lab ctx l = (List.range (l / 128)).flatMap (fun i => cmacF rk (bytesBE 4 (i + 1) ++ lab ++ [0] ++ ctx ++ bytesBE 4 l)) := by
  unfold kdf; rw [cmac_f h]
/-- `unwrapSteps` with tables. -/
def unwrapF (rk : List (List Byte)) : Nat → List Byte → List (List Byte) → List Byte × List (List Byte)
  | 0, a, r => (a, r)
  | t + 1, a, r =>
    let n := r.length
    let i := t % n
    let b := decF rk (bytesBE 8 (Nat.xor (natBE a) (t + 1)) ++ r.getD i [])
    unwrapF rk t (b.take 8) (setNth r i (b.drop 8))
theorem unwrap_f {key : List Byte} {rk : List (List Byte)} (h : (roundKeys key).reverse = rk) (n : Nat) :
    unwrapSteps key n = unwrapF rk n := by
  induction n with
  | zero => rfl
  | succ n ih => funext a r; unfold unwrapSteps unwrapF; simp only [ih, dec_f h]
/-- The transport key of the test root. -/
def testX : List Byte := bytesBE 32 0xe6e821e06193e994244516f28689ff8225bd1aabf5e6e644845b7169a82b1cc2
theorem root_key_x : rootKey testRoot "B5XPORT1" = testX := by
  unfold rootKey; rw [kdf_f (round_f _)]; decide +kernel
/-- What X25519 gives of it and the base point. -/
def testZ : List Byte := bytesBE 32 0xf30434e03373c6edd39587fc85a5e2d0259c15666d10b73e0dde7a4a38a0be53
theorem x_z : x25519 testX (bytesLE 32 9) = testZ := by decide +kernel
/-- The key-encryption key of an envelope with serial number 0 and counter 1. -/
def testKek : List Byte := bytesBE 32 0x6149e6a067fe4be17499626663c8661c249342260c76ef45dfef68d2c9b084f2
theorem kdf_kek : kdf testZ (label8 "B5KEKWR1") (bytesBE 8 0 ++ bytesBE 4 1 ++ bytesLE 32 9) 256 = testKek := by
  rw [kdf_f (round_f _)]; decide +kernel
/-- A key of bytes 5A wrapped under it. -/
def testWrapped : List Byte := bytesBE 40 0xaf7023459f9b14ae1ab769600828bfec1777deca79fc80d875b830ca503fbff700669ff069fbf930
theorem unwrapped : keyUnwrap testKek testWrapped = some (List.replicate 32 0x5A) := by
  unfold keyUnwrap; rw [unwrap_f (congrArg List.reverse (round_f _))]; decide +kernel
theorem edAdd_neutral : edAdd (0, 1, 1) (0, 1, 1) = (0, 1, 1) := by decide +kernel
theorem edMul_neutral (n k : Nat) : edMul n k (0, 1, 1) = (0, 1, 1) := by
  induction n generalizing k with
  | zero => rfl
  | succ n ih => unfold edMul; simp only [edAdd_neutral, ih]; split <;> rfl
theorem edMul_none (n : Nat) (q : Nat × Nat × Nat) : edMul n 0 q = (0, 1, 1) := by
  induction n generalizing q with
  | zero => rfl
  | succ n ih => unfold edMul; simp [ih]
/-- The neutral point of edwards25519: as a public key it accepts the signature of itself and 0, whatever is signed. -/
def neutral : List Byte := 1 :: List.replicate 31 0
theorem neutral_verifies (msg : List Byte) : edVerify neutral msg (neutral ++ List.replicate 32 0) = true := by
  have hd : edDecode neutral = some (0, 1, 1) := by decide +kernel
  have hs : natLE (sliceB (neutral ++ List.replicate 32 0) 32 32) = 0 := by decide +kernel
  have hr : sliceB (neutral ++ List.replicate 32 0) 0 32 = neutral := by decide +kernel
  unfold edVerify
  simp only [hs, hr, hd, edMul_none, edMul_neutral, edAdd_neutral]
  decide +kernel
/-- An envelope for the test root with counter 1, the signed part. -/
def envBody : List Byte :=
  bytesBE 4 0x4C445331 ++ [1, 1, 0, 0] ++ bytesBE 8 0 ++ bytesBE 4 1 ++ bytesBE 4 0 ++ bytesLE 32 9 ++ testWrapped ++ neutral
/-- An envelope for the test root with counter 1. -/
def envelope : List Byte := envBody ++ (neutral ++ List.replicate 32 0)
/-- A device in DEBUG whose owner's key is the neutral point, with that envelope in SRAM. -/
def staging : State :=
  { owned 3 with
    lcs := { R.lcs with owner := some ((List.range 8).map (keyWord (sha256 neutral))) }
    sram := writeBytes [] 0 envelope }
theorem staging_opens : unwrapEnvelope staging envelope = .ok (List.replicate 32 0x5A) := by
  have hr : staging.root = some testRoot := by decide +kernel
  have he : sliceB envelope 24 32 = bytesLE 32 9 := by decide +kernel
  have hn : (testZ.all fun b => b == 0) = false := by decide +kernel
  have hc : bytesBE 8 staging.serial ++ sliceB envelope 16 4 = bytesBE 8 0 ++ bytesBE 4 1 := by decide +kernel
  have hw : sliceB envelope 56 40 = testWrapped := by decide +kernel
  unfold unwrapEnvelope
  simp only [hr, he, root_key_x, x_z, hn, hc, kdf_kek, hw, unwrapped, Bool.false_eq_true, if_false]
theorem staging_accepts : stageCheck staging = .ok (List.replicate 32 0x5A, 1) := by
  have he : staging.sramRd (staging.rf Reg.KEY_ENV 8 17 * 256) 192 = envelope := by decide +kernel
  have hp : sliceB envelope 96 32 = neutral := by decide +kernel
  have hs : sliceB envelope 128 64 = neutral ++ List.replicate 32 0 := by decide +kernel
  have hc : beAt envelope 16 4 = 1 := by decide +kernel
  unfold stageCheck
  simp only [he, hp, hs, hc, neutral_verifies, staging_opens]
  iterate 8 rw [if_neg (by decide +kernel)]
theorem setReg_same {s : State} {a : Nat} {v : Word} (h : v = resetAt a) (hm : AMap.erase s.regs a = s.regs) : s.setReg a v = s := by
  unfold State.setReg AMap.setD; rw [if_pos h, hm]
theorem idpub_reset (i : Nat) (h : i < 8) : keyWord (idPublic fieldRoot) i = resetAt (Reg.KEY_IDPUB i) := by
  have : i = 0 ∨ i = 1 ∨ i = 2 ∨ i = 3 ∨ i = 4 ∨ i = 5 ∨ i = 6 ∨ i = 7 := by omega
  rcases this with h | h | h | h | h | h | h | h <;> subst h <;> rfl
theorem xpub_reset (i : Nat) (h : i < 8) : keyWord (xPublic fieldRoot) i = resetAt (Reg.KEY_XPUB i) := by
  have : i = 0 ∨ i = 1 ∨ i = 2 ∨ i = 3 ∨ i = 4 ∨ i = 5 ∨ i = 6 ∨ i = 7 := by omega
  rcases this with h | h | h | h | h | h | h | h <;> subst h <;> rfl
theorem forEach_same {σ : Type} {l : List Nat} {f : Nat → σ → σ} {s : σ} (h : ∀ i ∈ l, f i s = s) : forEach l f s = s := by
  induction l with
  | nil => rfl
  | cons a l ih => unfold forEach at ih ⊢; rw [List.foldl_cons, h a (by simp)]; exact ih fun i hi => h i (by simp [hi])
/-- Where the root is that of the fuses and no key word is listed, showing the keys changes nothing: they reset to it. -/
theorem show_same {s : State} (hr : s.root = some fieldRoot)
    (h : (List.range 8).all (fun i => decide (AMap.erase s.regs (Reg.KEY_IDPUB i) = s.regs) &&
      decide (AMap.erase s.regs (Reg.KEY_XPUB i) = s.regs)) = true) : showRootKeys s = s := by
  simp only [List.all_eq_true, Bool.and_eq_true, decide_eq_true_eq, List.mem_range] at h
  have hs : ∀ i < 8, (s.setReg (Reg.KEY_IDPUB i) (keyWord (idPublic fieldRoot) i)).setReg (Reg.KEY_XPUB i)
      (keyWord (xPublic fieldRoot) i) = s := fun i hi => by
    rw [setReg_same (idpub_reset i hi) (h i hi).1, setReg_same (xpub_reset i hi) (h i hi).2]
  unfold showRootKeys
  rw [hr]
  simp only [forN]
  apply forEach_same
  intro i hi
  exact hs i (List.mem_range.mp hi)
/-- A boot image of no bytes for cluster 63, signed by the neutral point. -/
def emptyImage : List Byte :=
  bytesLE 4 0x31434146 ++ [1, 2] ++ List.replicate 26 0 ++ List.replicate 8 0xFF ++ List.replicate 24 0 ++ sha256 [] ++ neutral ++ neutral ++
    List.replicate 32 0
/-- A blank device whose boot after a warm reset waits for RESET_N, and whose vendor's key is the neutral point. -/
def booting : State :=
  { R with
    regs := (List.range 8).map (fun i => (Reg.LCS_VENDOR i, keyWord (sha256 neutral) i)) ++ [(Reg.LCS_STATE, 0)]
    pwr := { R.pwr with bootPend := true, coldPend := false } }
/-- `booting` once RESET_N is released. -/
def released : State := { booting with pwr := { booting.pwr with held := false }, fct := { booting.fct with since := booting.bt } }
/-- `released` after steps 1 to 4 of the boot. -/
def prepared : State :=
  outsUpdate (ptxCheck ((bootLoad ((released.setReg Reg.PWR_RSTCAUSE (BitVec.ofNat 32 (fld (released.reg Reg.PWR_RSTCAUSE) 0 3 +
    256 * b2n (released.rb Reg.GEO_STAT 0) + 512 * b2n (released.rb Reg.GEO_STAT 1)))).setRb Reg.PWR_BOOT 16 true)).setRb Reg.PWR_BOOT 17 true))
theorem boot_prepared (b4 pref : Bool) (s : State) (h : s.pwr.coldPend = false) (hj : s.mrm.journal.valid = false) :
    bootPrepare b4 pref s = outsUpdate (ptxCheck ((bootLoad (showRootKeys ((s.setReg Reg.PWR_RSTCAUSE (BitVec.ofNat 32 (fld (s.reg Reg.PWR_RSTCAUSE) 0 3 +
      256 * b2n (s.rb Reg.GEO_STAT 0) + 512 * b2n (s.rb Reg.GEO_STAT 1)))).setRb Reg.PWR_BOOT 16 true))).setRb Reg.PWR_BOOT 17 true)) := by
  unfold bootPrepare journalBoot
  simp only [h, if_true]
  rw [if_pos (by exact hj)]
theorem root_blank {s : State} (h : s.fltBit Reg.LCS 0 = false) (hl : s.lifeCycle = 0) : s.root = some fieldRoot := by
  unfold State.root; simp [h, hl]
theorem released_prepared : bootPrepare false false released = prepared := by
  rw [boot_prepared _ _ _ (by decide +kernel) (by decide +kernel), show_same (root_blank (by decide +kernel) (by decide +kernel)) (by decide +kernel)]; rfl
/-- The state in which the boot images are tried. -/
def trying : State :=
  let u := bdrLeave (geoLeave prepared)
  showPin { u with pwr := { u.pwr with bootPend := false, coldPend := false }, flt := { u.flt with chipRst := false } }
/-- `trying` when the primary image is none. -/
def retrying : State := (bootImage [] trying).2.setRf Reg.PWR_BOOT 4 4 2

/-! ### The hypotheses of the obligations can be met -/

theorem test_met_empty_queue_ticks :
    (∃ (s : State), s.pending = [] ∧ s.btRun = true ∧ s.bt.toNat / 65536 + 1 < 2 ^ 64) ∧
    (∃ (s : State), s.pending = [] ∧ s.btRun = true ∧ s.alive = false) ∧
    (∃ (s : State), s.pending = [] ∧ s.btRun = false) :=
  ⟨by refine ⟨R, ?a1, ?a2, ?a3⟩ <;> decide +kernel,
    by refine ⟨{ R with pwr := { R.pwr with held := true } }, ?b1, ?b2, ?b3⟩ <;> decide +kernel,
    by refine ⟨{ R with btRun := false }, ?c1, ?c2⟩ <;> decide +kernel⟩

theorem test_met_every_step_keeps_whole_cycles :
    (∃ (s : State) (t : State), s.bedrockWhole ∧ step s = .next t) ∧
    (∃ (s : State), s.bedrockWhole ∧ s.pending = [] ∧ s.btRun = true) :=
  ⟨⟨{ R with pending := [.bdrParamFault] }, _, by decide +kernel, rfl⟩,
    by refine ⟨R, ?e1, ?e2, ?e3⟩ <;> decide +kernel⟩

theorem test_met_commands_leave_bedrock :
    (∃ (s : State), s.pwr.good = true ∧ s.btRun = false ∧ s.pwr.oscRatio ≠ 0) ∧
    (∃ (c : Instr) (s : State) (t : State), movesBedrock c = false ∧ exec c s = .next t) ∧
    (∃ (c : Instr) (s : State) (t : State), exec c s = .next t) :=
  ⟨by refine ⟨{ R with btRun := false, pwr := { R.pwr with good := true, oscRatio := 100 } }, ?f1, ?f2, ?f3⟩ <;> decide +kernel,
    ⟨.bdrParamFault, R, _, by decide +kernel, rfl⟩,
    ⟨.powerGoodFall, R, _, rfl⟩⟩

theorem test_met_guarded_writes_act_or_change_nothing :
    (∃ (m : Master) (n : BitVec 12) (v : Word) (s : State), slotGate m true s = .go ∧ fld v 28 4 = 0 ∧ (s.actSlot n.toNat).taken = true) ∧
    (∃ (m : Master) (n : BitVec 12) (v : Word) (s : State), slotGate m true s = .go ∧ fld v 28 4 = 0 ∧ (s.actSlot n.toNat).taken = false) ∧
    (∃ (m : Master) (v : Word) (s : State), Reaches m Reg.SYS_COMPAT s ∧ (∃ p < 16, s.pgEn (Reg.PRT p) = true)) ∧
    (∃ (m : Master) (v : Word) (s : State), Reaches m Reg.SYS_COMPAT s ∧ (∀ p < 16, s.pgEn (Reg.PRT p) = false) ∧ s.rb (Reg.SYS + 0x008) 3 = false) ∧
    (∃ (val : Nat) (s : State), s.geo.busy = some (0x044, val) ∧ s.rb Reg.GEO_STAT 4 = true ∧ (BitVec.ofNat 32 val).getLsbD 1 = true) ∧
    (∃ (val : Nat) (s : State), s.geo.busy = some (0x044, val) ∧ ((s.rb Reg.GEO_STAT 4 = false ∨ (BitVec.ofNat 32 val).getLsbD 1 = false))) :=
  ⟨by refine ⟨.host, 4095, 0, R.setActSlot 4095 { st := .armed, taken := true }, ?i1, ?i2, ?i3⟩ <;> decide +kernel,
    by refine ⟨.host, 0, 0, R, ?j1, ?j2, ?j3⟩ <;> decide +kernel,
    ⟨.host, 0, rg [(Reg.PRT 15 + 8, 1)], by decide +kernel, ⟨15, by decide, by decide +kernel⟩⟩,
    by refine ⟨.host, 0, R, ?l1, ?l2, ?l3⟩ <;> decide +kernel,
    by refine ⟨2, { rg [(Reg.GEO_STAT, 0x12)] with geo := { R.geo with busy := some (0x044, 2) } }, ?m1, ?m2, ?m3⟩ <;> decide +kernel,
    by refine ⟨2, { rg [(Reg.GEO_STAT, 0x02)] with geo := { R.geo with busy := some (0x044, 2) } }, ?n1, ?n2⟩ <;> decide +kernel⟩

theorem test_met_times_and_addresses_are_judged :
    (∃ (N : Nat) (a : BitVec N) (b : BitVec N), 0 < N) :=
  ⟨80, 0, 0, by decide +kernel⟩

theorem test_met_register_accesses_act :
    (∃ (m : Master) (addr : BAddr) (v : DWord) (s : State) (p : PageRow) (inst : Nat) (off : Nat), Arrives m addr.toNat s ∧ pageAt addr.toNat =
      some (p, inst, off)) ∧
    (∃ (m : Master) (addr : BAddr) (v : DWord) (s : State) (p : PageRow) (inst : Nat) (off : Nat), Arrives m addr.toNat s ∧ pageAt addr.toNat =
      some (p, inst, off)) ∧
    (∃ (m : Master) (addr : BAddr) (v : DWord) (s : State) (p : PageRow) (inst : Nat) (off : Nat) (r : RegRow) (x : Nat × Nat × Nat), Arrives m
      addr.toNat s ∧ pageAt addr.toNat = some (p, inst, off) ∧ 0x040 ≤ off ∧ rowAt p.kind off = some (r, x) ∧ r.takes = true) ∧
    (∃ (m : Master) (a : Nat) (off : Nat) (inst : Nat) (v : Word) (lo : Word) (s : State) (p : PageRow) (r : RegRow) (i : Nat) (j : Nat), pageAt a
      = some (p, inst, off) ∧ rowAt p.kind off = some (r, i, j, 1) ∧ r.words = 2 ∧ s.stagedOf m (a - 4) = some lo ∧ 4 ≤ a) ∧
    (∃ (m : Master) (addr : BAddr) (v : DWord) (s : State), s.alive = true ∧ windowOf addr.toNat = .page) ∧
    (∃ (m : Master) (addr : BAddr) (s : State) (p : PageRow) (inst : Nat) (off : Nat) (i : Nat) (j : Nat) (v : Nat) (r : RegRow), Reads m
      addr.toNat s ∧ windowOf addr.toNat = .page ∧ addr.toNat % 4 = 0 ∧ s.readWaits addr.toNat = false ∧ pageAt addr.toNat = some (p, inst, off) ∧
      0x040 ≤ off ∧ s.readsZero p.kind inst off = false ∧ p.kind ≠ .pmu ∧ p.kind ≠ .tsu ∧ p.kind ≠ .prt ∧ takeRead m p.kind inst off addr.toNat s =
      none ∧ rowAt p.kind off = some (r, i, j, 0) ∧ r.wo = false ∧ (s.liveVal m p.kind inst r.off i j).getD (s.regN addr.toNat r.words) = v ∧ r.rc
      = false) ∧
    (∃ (m : Master) (addr : BAddr) (s : State) (p : PageRow) (inst : Nat) (off : Nat) (i : Nat) (j : Nat) (v : Nat) (r : RegRow), Reads m
      addr.toNat s ∧ windowOf addr.toNat = .page ∧ addr.toNat % 4 = 0 ∧ s.readWaits addr.toNat = false ∧ pageAt addr.toNat = some (p, inst, off) ∧
      0x040 ≤ off ∧ s.readsZero p.kind inst off = false ∧ p.kind ≠ .pmu ∧ p.kind ≠ .tsu ∧ p.kind ≠ .prt ∧ takeRead m p.kind inst off addr.toNat s =
      none ∧ rowAt p.kind off = some (r, i, j, 0) ∧ r.wo = false ∧ (s.liveVal m p.kind inst r.off i j).getD (s.regN addr.toNat r.words) = v ∧ r.rc
      = true ∧ s.pageLive (pageBase addr.toNat) = true) ∧
    (∃ (m : Master) (page : BAddr) (v : Word) (s : State) (p : PageRow) (inst : Nat), Arrives m (baseOf page + 0x01C) s ∧ pageAt (baseOf page +
      0x01C) = some (p, inst, 0x01C)) ∧
    (∃ (m : Master) (ofs : BitVec 12) (v : Word) (s : State) (p : PageRow) (inst : Nat) (r : RegRow) (x : Nat × Nat × Nat), Arrives m (Reg.SVC +
      ofs.toNat) s ∧ pageAt (Reg.SVC + ofs.toNat) = some (p, inst, ofs.toNat) ∧ p.kind = .svc ∧ 0x040 ≤ ofs.toNat ∧ rowAt .svc ofs.toNat = some (r,
      x) ∧ r.takes = true) ∧
    (∃ (m : Master) (addr : BAddr) (s : State), s.alive = true ∧ windowOf addr.toNat = .page) ∧
    (∃ (m : Master) (addr : BAddr) (v : DWord) (s : State) (p : PageRow) (inst : Nat) (off : Nat) (r : RegRow) (x : Nat × Nat × Nat), gateIn m
      addr.toNat true s = .go ∧ windowOf addr.toNat = .page ∧ addr.toNat % 4 = 0 ∧ pageAt addr.toNat = some (p, inst, off) ∧ 0x040 ≤ off ∧ rowAt
      p.kind off = some (r, x) ∧ r.takes = true) :=
  ⟨⟨.host, 0x1002C, 0, R, _, 0, 0x02C, by decide +kernel, rfl⟩,
    ⟨.host, 0x10010, 0, R, _, 0, 0x010, by decide +kernel, rfl⟩,
    by refine ⟨.host, BitVec.ofNat 26 Reg.BDR_RATE, 0, R, ⟨.bdr, 0x0010000, 1, 0x0010, 0x3⟩, 0, 0x064,
      { name := "BDR_RATE", off := 0x064, words := 2, rw := 0xFFF, cfg := false }, (0, 0, 0), ?c1, ?c2, ?c3, ?c4, ?c5⟩ <;> decide +kernel,
    by refine ⟨.host, Reg.BDR_RATE + 4, _, _, 0, 7, R.setStaged .host Reg.BDR_RATE (some 7), _, _, _, _, rfl, rfl, ?d1, ?d2, ?d3⟩
      <;> decide +kernel,
    by refine ⟨.host, 0, 0, R, ?e1, ?e2⟩ <;> decide +kernel,
    by refine ⟨.host, BitVec.ofNat 26 Reg.ASY_HO_LIM, R, ⟨.asy, 0x0012000, 1, 0x0012, 0x807⟩, 0, 0x0A8, 0, 0, 0x16E360,
      { name := "ASY_HO_LIM", off := 0x0A8, rw := 0xFFFFFFFF, reset := 0x16E360 }, ?f1, ?f2, ?f3, ?f4, ?f5, ?f6, ?f7, ?f8, ?f9, ?f10, ?f11, ?f12,
      ?f13, ?f14, ?f15⟩ <;> decide +kernel,
    by refine ⟨.host, BitVec.ofNat 26 Reg.MTX_CNT_ERR, R, ⟨.mtx, 0x00E0000, 1, 0x0090, 0x28⟩, 0, 0x058, 0, 0, _,
      { name := "MTX_CNT_ERR", off := 0x058, rc := true }, ?g1, ?g2, ?g3, ?g4, ?g5, ?g6, ?g7, ?g8, ?g9, ?g10, ?g11, ?g12, ?g13, rfl, ?g14, ?g15⟩
      <;> decide +kernel,
    ⟨.host, 0x10000, 0, R, _, _, by decide +kernel, rfl⟩,
    by refine ⟨.host, 0x100, 0, R, _, _, _, _, ?i1, rfl, ?i2, ?i3, rfl, ?i4⟩ <;> decide +kernel,
    by refine ⟨.host, 0, R, ?j1, ?j2⟩ <;> decide +kernel,
    by refine ⟨.host, BitVec.ofNat 26 Reg.BDR_RATE, 0, R, ⟨.bdr, 0x0010000, 1, 0x0010, 0x3⟩, 0, 0x064,
      { name := "BDR_RATE", off := 0x064, words := 2, rw := 0xFFF, cfg := false }, (0, 0, 0), ?k1, ?k2, ?k3, ?k4, ?k5, ?k6, ?k7⟩ <;> decide +kernel⟩

theorem test_met_page_headers_act :
    (∃ (m : Master) (page : BAddr) (v : Word) (s : State) (p : PageRow) (inst : Nat), Arrives m (ctrlOf page) s ∧ pageAt (ctrlOf page) = some (p,
      inst, 0x008) ∧ bit v 1 = true ∧ p.kind ≠ .clu) ∧
    (∃ (m : Master) (page : BAddr) (v : Word) (s : State) (p : PageRow) (inst : Nat), Arrives m (ctrlOf page) s ∧ pageAt (ctrlOf page) = some (p,
      inst, 0x008) ∧ bit v 1 = false ∧ bit v 3 = false) ∧
    (∃ (m : Master) (page : BAddr) (v : Word) (s : State) (p : PageRow) (inst : Nat), Arrives m (ctrlOf page) s ∧ pageAt (ctrlOf page) = some (p,
      inst, 0x008) ∧ bit v 1 = false ∧ bit v 3 = true) ∧
    (∃ (page : BAddr) (s : State) (p : PageRow) (inst : Nat) (off : Nat), pageAt (baseOf page) = some (p, inst, off) ∧ s.alive = true ∧ s.pgRst
      (baseOf page) = true ∧ s.pageStopped p.kind inst = false) ∧
    (∃ (page : BAddr) (s : State) (p : PageRow) (inst : Nat) (off : Nat), Live (baseOf page) s ∧ pageAt (baseOf page) = some (p, inst, off) ∧
      s.pgFrz (baseOf page) = true ∧ s.atSafePoint p.kind inst = true) ∧
    (∃ (m : Master) (v : Word) (s : State), Reaches m Reg.SYS_COMPAT s ∧ (∀ p < 16, s.pgEn (Reg.PRT p) = false)) ∧
    (∃ (m : Master) (page : BAddr) (v : Word) (s : State) (p : PageRow) (inst : Nat), Arrives m (ctrlOf page) s ∧ pageAt (ctrlOf page) = some (p,
      inst, 0x008) ∧ p.kind = .clu ∧ bit v 1 = true) :=
  ⟨by refine ⟨.host, 0x10000, 2, R, _, _, ?l1, rfl, ?l2, ?l3⟩ <;> decide +kernel,
    by refine ⟨.host, 0x10000, 1, R, _, _, ?m1, rfl, ?m2, ?m3⟩ <;> decide +kernel,
    by refine ⟨.host, 0x10000, 8, R, _, _, ?n1, rfl, ?n2, ?n3⟩ <;> decide +kernel,
    by refine ⟨0x10000, rg [(0x10008, 2)], _, _, _, rfl, ?o1, ?o2, ?o3⟩ <;> decide +kernel,
    by refine ⟨0x10000, rg [(0x10008, 4)], _, _, _, ?p1, rfl, ?p2, ?p3⟩ <;> decide +kernel,
    by refine ⟨.host, 0, R, ?q1, ?q2⟩ <;> decide +kernel,
    by refine ⟨.host, BitVec.ofNat 26 (Reg.CLU 0), 2, R, _, _, ?r1, rfl, ?r2, ?r3⟩ <;> decide +kernel⟩

theorem test_met_bdr_writes_take_effect :
    (∃ (m : Master) (v : Word) (s : State), Reaches m (Reg.BDR_RATE + 4) s ∧ s.pgEn Reg.BDR = true) ∧
    (∃ (m : Master) (v : Word) (s : State), Reaches m (Reg.BDR_STEP + 8) s) ∧
    (∃ (m : Master) (v : Word) (s : State), Reaches m (Reg.BDR_SLEW_AMT + 4) s) ∧
    (∃ (m : Master) (v : Word) (s : State), Reaches m Reg.BDR_CMD s ∧ bit v 0 = true ∧ bit v 1 = false) ∧
    (∃ (m : Master) (v : Word) (s : State), Reaches m Reg.BDR_CMD s ∧ bit v 1 = true ∧ bit v 0 = false) ∧
    (∃ (m : Master) (v : Word) (s : State), Reaches m (Reg.BDR_CVT_IN + 8) s) ∧
    (∃ (m : Master) (v : Word) (s : State), Reaches m Reg.BDR_UTC_OFS s ∧ fld (v &&& 0x7FFFF#32) 16 2 ≠ 3 ∧ v &&& 0x7FFFF#32 ≠ s.reg
      Reg.BDR_UTC_OFS ∧ fld (v &&& 0x7FFFF#32) 0 16 ≠ fld (s.reg Reg.BDR_UTC_OFS) 0 16) :=
  ⟨by refine ⟨.host, 0, rg [(Reg.BDR + 8, 1)], ?a1, ?a2⟩ <;> decide +kernel,
    ⟨.host, 0, R, by decide +kernel⟩,
    ⟨.host, 0, R, by decide +kernel⟩,
    by refine ⟨.host, 1, { R with bdr := { R.bdr with par := { R.bdr.par with slewAct := true } } }, ?d1, ?d2, ?d3⟩ <;> decide +kernel,
    by refine ⟨.host, 2, R, ?e1, ?e2, ?e3⟩ <;> decide +kernel,
    ⟨.host, 0, R, by decide +kernel⟩,
    by refine ⟨.host, 37, R, ?g1, ?g2, ?g3, ?g4⟩ <;> decide +kernel⟩

theorem test_met_bdr_commit_is_placed :
    (∃ (m : Master) (p : CommitPart) (s : State), s.pgEn Reg.BDR = true ∧ s.pgFrz Reg.BDR = true) ∧
    (∃ (m : Master) (p : CommitPart) (s : State), s.pgEn Reg.BDR = true ∧ s.pgFrz Reg.BDR = false ∧ s.bdr.pend = none) :=
  ⟨by refine ⟨.host, .abort, rg [(Reg.BDR + 8, 5)], ?h1, ?h2⟩ <;> decide +kernel,
    by refine ⟨.host, .abort, rg [(Reg.BDR + 8, 1)], ?i1, ?i2, ?i3⟩ <;> decide +kernel⟩

theorem test_met_bdr_time_takes_effect :
    (∃ (s : State) (a : BT80) (c : ChangeParts), Live Reg.BDR s ∧ s.bdr.pend = some (a, c) ∧ earlier s.bt a = false ∧ s.bdr.par.slewAct = false ∧
      c.step = none ∧ c.slew = none ∧ s.bdr.par.apply a c (s.reg Reg.BDR_SLEW_DUR) ≠ s.bdr.par) ∧
    (∃ (s : State), Live Reg.BDR s ∧ s.bdr.par.slewDone s.bt = true) ∧
    (∃ (s : State), s.btRun = true ∧ s.bt.toNat / 65536 + 1 = 2 ^ 64) ∧
    (∃ (s : State), Live Reg.BDR s) :=
  ⟨by refine ⟨{ R with bdr := { R.bdr with pend := some (0, { rate := some 1 }) } }, 0, { rate := some 1 }, ?j1, ?j2, ?j3, ?j4, ?j5, ?j6, ?j7⟩
      <;> decide +kernel,
    by refine ⟨{ R with bdr := { R.bdr with par := { R.bdr.par with slewAct := true } } }, ?k1, ?k2⟩ <;> decide +kernel,
    by refine ⟨{ R with bt := 0 - 0x10000 }, ?l1, ?l2⟩ <;> decide +kernel,
    ⟨R, by decide +kernel⟩⟩

theorem test_met_slots_are_armed :
    (∃ (m : Master) (n : BitVec 12) (v : Word) (s : State), slotGate m true s = .go ∧ s.slotGoing n.toNat = false ∧ fld v 28 4 ≠ 0 ∧ fld v 28 4 ≠ 5
      ∧ armRefusal (hoDrop n.toNat s) n.toNat (bits v 28 4) (bits v 21 2) = none) ∧
    (∃ (m : Master) (n : BitVec 12) (v : Word) (s : State) (r : BitVec 4), slotGate m true s = .go ∧ s.slotGoing n.toNat = false ∧ fld v 28 4 ≠ 0 ∧
      armRefusal (hoDrop n.toNat s) n.toNat (bits v 28 4) (bits v 21 2) = some r) ∧
    (∃ (m : Master) (n : BitVec 12) (v : Word) (s : State), slotGate m true s = .go ∧ s.slotGoing n.toNat = false ∧ fld v 28 4 = 0 ∧ (s.actSlot
      n.toNat).st ≠ .applied ∧ (s.actSlot n.toNat).st ≠ .notApplied) ∧
    (∃ (m : Master) (v : Word) (s : State), Reaches m Reg.ACT_DISARM s ∧ bit v 0 = true) :=
  ⟨by refine ⟨.host, 4095, 0x40000000, R, ?a1, ?a2, ?a3, ?a4, ?a5⟩ <;> decide +kernel,
    by refine ⟨.host, 0, 0x60000000, R, 7, ?b1, ?b2, ?b3, ?b4⟩ <;> decide +kernel,
    by refine ⟨.host, 0, 0, R, ?c1, ?c2, ?c3, ?c4, ?c5⟩ <;> decide +kernel,
    by refine ⟨.host, 1, R, ?d1, ?d2⟩ <;> decide +kernel⟩

theorem test_met_slots_are_taken :
    (∃ (n : BitVec 12) (s : State), Live Reg.ACT s ∧ (s.actSlot n.toNat).st = .armed ∧ (s.actSlot n.toNat).taken = false ∧ (s.actSlot n.toNat).bad
      = false ∧ s.actTakes = true ∧ earlier s.now (s.actSlot n.toNat).due = false ∧ (s.now - (s.actSlot n.toNat).due).toNat ≤ s.rf Reg.ACT_LATE_TH
      0 24 * 65536) ∧
    (∃ (n : BitVec 12) (s : State), Live Reg.ACT s ∧ (s.actSlot n.toNat).st ≠ .armed) ∧
    (∃ (n : BitVec 12) (s : State), Live Reg.ACT s ∧ (s.actSlot n.toNat).st = .armed ∧ (s.actSlot n.toNat).taken = false) ∧
    (∃ (s : State) (u : State) (n : Nat) (rest : List Nat), Live Reg.ACT s ∧ judgeConds s = u ∧ u.act.initQ = n :: rest ∧ u.thisCyc.begun = false ∧
      (u.actSlot n).typ = 3) ∧
    (∃ (s : State) (u : State) (n : Nat) (rest : List Nat), Live Reg.ACT s ∧ judgeConds s = u ∧ u.act.initQ = n :: rest ∧ u.thisCyc.begun = false ∧
      (u.actSlot n).typ = 4) ∧
    (∃ (s : State) (u : State) (n : Nat) (rest : List Nat), Live Reg.ACT s ∧ judgeConds s = u ∧ u.act.initQ = n :: rest ∧ u.thisCyc.begun = false ∧
      (u.actSlot n).typ = 2 ∧ u.gpioFunc (fld (u.actSlot n).w0 0 5) = 1) ∧
    (∃ (g : Fin 32) (s : State) (p : Pulse), s.alive = true ∧ s.act.pulses = [p] ∧ p.gpio = g.val ∧ atOrAfter s.bt p.stop = true ∧ p.counted =
      true) ∧
    (∃ (n : BitVec 12) (s : State), Live Reg.ACT s ∧ (s.actSlot n.toNat).taken = true ∧ (s.actSlot n.toNat).result = some .completed) ∧
    (∃ (n : BitVec 12) (s : State), Live Reg.ACT s ∧ (s.actSlot n.toNat).st = .armed ∧ (s.actSlot n.toNat).taken = false ∧ (s.actSlot n.toNat).bad
      = false ∧ s.actTakes = true ∧ earlier s.now (s.actSlot n.toNat).due = false ∧ s.rf Reg.ACT_LATE_TH 0 24 * 65536 < (s.now - (s.actSlot
      n.toNat).due).toNat ∧ (s.actSlot n.toNat).lateOk = false) ∧
    (∃ (s : State) (n : Nat), s.thisCyc.judge = [n] ∧ (s.actSlot n).taken = true ∧ s.condOk (s.actSlot n).cond = false) ∧
    (∃ (s : State) (u : State) (n : Nat) (rest : List Nat), Live Reg.ACT s ∧ judgeConds s = u ∧ u.act.initQ = n :: rest ∧ u.thisCyc.begun = false ∧
      (u.actSlot n).typ = 1) ∧
    (∃ (s : State) (u : State) (n : Nat) (rest : List Nat), Live Reg.ACT s ∧ judgeConds s = u ∧ u.act.initQ = n :: rest ∧ u.thisCyc.begun = false ∧
      (u.actSlot n).typ = 5) ∧
    (∃ (s : State) (u : State), Live Reg.ACT s ∧ judgeConds s = u ∧ u.act.initQ ≠ [] ∧ u.thisCyc.begun = true) :=
  ⟨by refine ⟨0, (rg [(Reg.ACT + 8, 1)]).setActSlot 0 { st := .armed, typ := 4 }, ?e1, ?e2, ?e3, ?e4, ?e5, ?e6, ?e7⟩ <;> decide +kernel,
    by refine ⟨0, R, ?f1, ?f2⟩ <;> decide +kernel,
    by refine ⟨0, R.setActSlot 0 { st := .armed, typ := 4 }, ?g1, ?g2, ?g3⟩ <;> decide +kernel,
    by refine ⟨{ R.setActSlot 9 { st := .armed, typ := 3 } with act := { (R.setActSlot 9 { st := .armed, typ := 3 }).act with initQ := [9] } }, _,
      9, [], ?h1, rfl, ?h2, ?h3, ?h4⟩ <;> decide +kernel,
    by refine ⟨{ R.setActSlot 9 { st := .armed, typ := 4 } with act := { (R.setActSlot 9 { st := .armed, typ := 4 }).act with initQ := [9] } }, _,
      9, [], ?i1, rfl, ?i2, ?i3, ?i4⟩ <;> decide +kernel,
    by refine
      ⟨{ (rg [(Reg.GPIO_FUNC 0, 1)]).setActSlot 9 { st := .armed, typ := 2 } with act := { (R.setActSlot 9 { st := .armed, typ := 2 }).act with initQ := [9] } },
      _, 9, [], ?j1, rfl, ?j2, ?j3, ?j4, ?j5⟩ <;> decide +kernel,
    by refine ⟨0, { R with act := { R.act with pulses := [{ gpio := 0, stop := 0, slot := 0, counted := true }] } },
      { gpio := 0, stop := 0, slot := 0, counted := true }, ?k1, ?k2, ?k3, ?k4, ?k5⟩ <;> decide +kernel,
    by refine ⟨0, R.setActSlot 0 { st := .armed, taken := true, result := some .completed }, ?l1, ?l2, ?l3⟩ <;> decide +kernel,
    by refine ⟨0, { (rg [(Reg.ACT + 8, 1)]).setActSlot 0 { st := .armed, typ := 4 } with bt := 0x400000000000000000 }, ?m1, ?m2, ?m3, ?m4, ?m5,
      ?m6, ?m7, ?m8⟩ <;> decide +kernel,
    by refine ⟨{ R.setActSlot 0 { st := .armed, typ := 4, taken := true, cond := 2 } with thisCyc := { R.thisCyc with judge := [0] } }, 0, ?n1,
      ?n2, ?n3⟩ <;> decide +kernel,
    by refine ⟨{ (R.setActSlot 9 { st := .armed, typ := 1 }) with act := { (R.setActSlot 9 { st := .armed, typ := 1 }).act with initQ := [9] } },
      _, 9, [], ?o1, rfl, ?o2, ?o3, ?o4⟩ <;> decide +kernel,
    by refine ⟨{ (R.setActSlot 9 { st := .armed, typ := 5 }) with act := { (R.setActSlot 9 { st := .armed, typ := 5 }).act with initQ := [9] } },
      _, 9, [], ?p1, rfl, ?p2, ?p3, ?p4⟩ <;> decide +kernel,
    by refine
      ⟨{ (R.setActSlot 9 { st := .armed, typ := 5 }) with act := { (R.setActSlot 9 { st := .armed, typ := 5 }).act with initQ := [9] }, thisCyc := { R.thisCyc with begun := true } },
      _, ?q1, rfl, ?q2, ?q3⟩ <;> decide +kernel⟩

theorem test_met_asy_commands_are_placed :
    (∃ (m : Master) (v : Word) (s : State), Reaches m Reg.ASY_CMD s ∧ s.pgEn Reg.ASY = true ∧ s.pgFrz Reg.ASY = false ∧ s.asy.pend = none ∧ bit v 0
      = true) ∧
    (∃ (m : Master) (v : Word) (s : State), Reaches m Reg.ASY_CMD s ∧ s.pgEn Reg.ASY = true ∧ s.pgFrz Reg.ASY = false ∧ s.asy.pend = none ∧ bit v 0
      = false ∧ bit v 1 = true) :=
  ⟨by refine ⟨.host, 1, rg [(Reg.ASY + 8, 1)], ?a1, ?a2, ?a3, ?a4, ?a5⟩ <;> decide +kernel,
    by refine ⟨.host, 2, rg [(Reg.ASY + 8, 1)], ?b1, ?b2, ?b3, ?b4, ?b5, ?b6⟩ <;> decide +kernel⟩

theorem test_met_asy_time_takes_effect :
    (∃ (s : State) (a : BT80) (v : AMap Word), Live Reg.ASY s ∧ s.asy.pend = some (a, { commit := some v }) ∧ earlier s.bt a = false ∧ v ≠
      s.asy.cur.vals ∧ s.bdr.pend = none ∧ s.asy.queued = none) ∧
    (∃ (s : State) (lu : BT80), Live Reg.ASY s ∧ s.tsFrom = .traceable ∧ s.asy.cur.lu = some lu ∧ s.elapsedMore lu (s.rf Reg.ASY_UPD_TO 0 16 *
      1000000) = true) ∧
    (∃ (s : State), Live Reg.ASY s ∧ s.tsFrom.inService = true ∧ s.asy.ts.inService = true ∧ (s.reg Reg.ASY_HO_LIM).toNat < s.eNow.e) ∧
    (∃ (s : State) (lu : BT80), Live Reg.ASY s ∧ s.tsFrom = .holdover ∧ s.asy.cur.lu = some lu ∧ (s.reg Reg.ASY_HO_MAX).toNat * 1000000000 < holdDt
      lu s.bt) ∧
    (∃ (s : State) (t : BitVec 16), Live Reg.ASY s ∧ s.rf Reg.ASY_HO_TSRC 0 2 ≠ 0 ∧ s.asy.cur.lu = none) ∧
    (∃ (s : State), Live Reg.ASY s ∧ s.elapsed s.asy.lastTemp 1000000000 = true ∧ s.asy.dtHeld = false) ∧
    (∃ (s : State), Live Reg.ASY s) ∧
    (∃ (s : State) (h : TimeStatus) (t : TimeStatus), s.thisCyc.asyCmd = none ∧ s.thisCyc.asyHw = some h ∧ s.thisCyc.asyBase.isSome = true ∧ t.rank
      ≤ h.rank) ∧
    (∃ (s : State) (t : TimeStatus), s.thisCyc.asyCmd = none ∧ s.thisCyc.asyHw = none ∧ s.thisCyc.asyBase.isSome = true ∧ s.asy.cycTs = none ∧ t ≠
      s.asy.ts) :=
  ⟨by refine ⟨{ R with asy.pend := some (0, { commit := some [(0x80, 1)] }) }, 0, [(0x80, 1)], ?c1, ?c2, ?c3, ?c4, ?c5, ?c6⟩ <;> decide +kernel,
    by refine ⟨{ late [] with asy.ts := .traceable, asy.cur.lu := some 0 }, 0, ?d1, ?d2, ?d3, ?d4⟩ <;> decide +kernel,
    by refine ⟨{ rg [(Reg.ASY_HO_LIM, 0)] with asy.ts := .holdover, asy.cur.vals := [(0x070, 1)] }, ?e1, ?e2, ?e3, ?e4⟩ <;> decide +kernel,
    by refine ⟨{ late [] with asy.ts := .holdover, asy.cur.lu := some 0 }, 0, ?f1, ?f2, ?f3, ?f4⟩ <;> decide +kernel,
    by refine ⟨rg [(Reg.ASY_HO_TSRC, 1)], 0, ?g1, ?g2, ?g3⟩ <;> decide +kernel,
    by refine ⟨late [], ?h1, ?h2, ?h3⟩ <;> decide +kernel,
    ⟨R, by decide +kernel⟩,
    by refine ⟨{ R with thisCyc := { R.thisCyc with asyHw := some .holdover, asyBase := some ⟨R.asy, 0, 0, 0, 0⟩ } }, .holdover, .holdover, ?j1,
      ?j2, ?j3, ?j4⟩ <;> decide +kernel,
    by refine ⟨{ R with thisCyc := { R.thisCyc with asyBase := some ⟨R.asy, 0, 0, 0, 0⟩ } }, .coarse, ?k1, ?k2, ?k3, ?k4, ?k5⟩ <;> decide +kernel⟩

theorem test_met_asy_records_are_kept :
    (∃ (m : Master) (s : State), Reads m Reg.ASY_E s) ∧
    (∃ (s : State), Live Reg.ASY s ∧ s.rb Reg.ASY_REC_CTRL 0 = true ∧ s.asy.lastSec = none) ∧
    (∃ (m : Master) (v : Word) (s : State) (e : StgEntry), Reaches m Reg.ASY_STG_DONE s ∧ s.asy.stage.getD (fld v 0 4) none = some e) ∧
    (∃ (s : State) (k : Nat) (e : StgEntry), Live Reg.ASY s ∧ s.asy.stage.getD k none = some e ∧ e.signed = false ∧ s.elapsed e.since 10000000 =
      true) ∧
    (∃ (m : Master) (v : Word) (s : State), Reaches m Reg.ASY_REC_CTRL s ∧ s.rb Reg.ASY_REC_CTRL 0 = true ∧ (plainWrite Reg.ASY_REC_CTRL v s).rb
      Reg.ASY_REC_CTRL 0 = false) :=
  ⟨⟨.host, R, by decide +kernel⟩,
    by refine ⟨rg [(Reg.ASY_REC_CTRL, 1)], ?m1, ?m2, ?m3⟩ <;> decide +kernel,
    by refine ⟨.host, 15, { R with asy.stage := List.replicate 15 none ++ [some ⟨1, 0, false⟩] }, ⟨1, 0, false⟩, ?n1, ?n2⟩ <;> decide +kernel,
    by refine ⟨{ late [] with asy.stage := List.replicate 15 none ++ [some ⟨1, 0, false⟩] }, 15, ⟨1, 0, false⟩, ?o1, ?o2, ?o3, ?o4⟩
      <;> decide +kernel,
    by refine ⟨.host, 0, rg [(Reg.ASY_REC_CTRL, 1)], ?p1, ?p2, ?p3⟩ <;> decide +kernel⟩

theorem test_met_ref_monitors_judge :
    (∃ (n : Fin 48) (s : State), Acts Reg.REF s ∧ s.entEn n = true ∧ (s.ent n).actFail = false ∧ s.laneClock n = false ∧ s.actWindow n ≤ cycSince
      s.bt (s.ent n).lastAct) ∧
    (∃ (n : Fin 48) (s : State) (k1 : Nat) (k2 : Nat) (b1 : BT80) (b2 : BT80), Acts Reg.REF s ∧ s.entEn n = true ∧ (s.ent n).gateLen ≤ cycSince
      s.bt (s.ent n).gateAt ∧ (s.ent n).gate1 = some (k1, b1) ∧ (s.ent n).gate2 = some (k2, b2) ∧ k1 ≠ k2) ∧
    (∃ (n : Fin 48) (s : State), Acts Reg.REF s ∧ s.entEn n = true ∧ (s.ent n).stale = false ∧ n.val < 44 ∧ s.msgTo n ≤ cycSince s.bt (s.ent
      n).msgAt) ∧
    (∃ (n : Fin 48) (s : State) (b : BT80), Acts Reg.REF s ∧ (s.ent n).due = some b ∧ atOrAfter s.bt b = true ∧ s.entSt n = .qualifying) ∧
    (∃ (m : Master) (n : Fin 48) (v : Word) (s : State), Reaches m (Reg.REF_ENT_CFG n) s) ∧
    (∃ (s : State), Live Reg.REF s) ∧
    (∃ (n : Fin 48) (s : State), Acts Reg.REF s ∧ s.laneClock n = true) :=
  ⟨by refine ⟨47, late [(Reg.REF_ENT_CFG 47, 1)], ?a1, ?a2, ?a3, ?a4, ?a5⟩ <;> decide +kernel,
    by refine ⟨47, { late [(Reg.REF_ENT_CFG 47, 1)] with ref.ents := [(47, { gate1 := some (1, 0), gate2 := some (0, 0x10000) })] }, 1, 0, 0,
      0x10000, ?b1, ?b2, ?b3, ?b4, ?b5, ?b6⟩ <;> decide +kernel,
    by refine ⟨43, { late [(Reg.REF_ENT_CFG 43, 1)] with ref.ents := [(43, { stale := false })] }, ?c1, ?c2, ?c3, ?c4, ?c5⟩ <;> decide +kernel,
    by refine ⟨47, { late [(Reg.REF_ENT_STAT 47, 1)] with ref.ents := [(47, { due := some 0 })] }, 0, ?d1, ?d2, ?d3, ?d4⟩ <;> decide +kernel,
    ⟨.host, 0, 0, R, by decide +kernel⟩,
    ⟨R, by decide +kernel⟩,
    by refine ⟨45, rg [(Reg.MATE_STAT, 0x40)], ?g1, ?g2⟩ <;> decide +kernel⟩

theorem test_met_ref_messages_are_taken :
    (∃ (m : Master) (v : Word) (s : State), Reaches m (Reg.REF_QP + 8) s ∧ s.pgEn Reg.REF = true) ∧
    (∃ (u : Fin 4) (b : Byte) (s : State), Live Reg.REF s ∧ s.todBound u = true ∧ s.rf (Reg.REF_TOD_CFG u) 5 2 = 0 ∧ (s.tod u).buf.length = 23 ∧
      todParse ((s.tod u).buf.map (·.1) ++ [b]) = none) ∧
    (∃ (u : Fin 4) (f : List Byte) (s : State) (x : TodMsg), Live Reg.REF s ∧ s.todBound u = true ∧ s.rf (Reg.REF_TOD_CFG u) 5 2 = 0 ∧ (s.tod
      u).buf = [] ∧ f.take 2 = [0xB5#8, 0x12#8] ∧ todParse f = some x ∧ s.rb (Reg.REF_TOD_CFG u) 7 = false) ∧
    (∃ (u : Fin 4) (s : State), Acts Reg.REF s ∧ s.rf (Reg.REF_TOD_CFG u) 5 2 = 0 ∧ 2 ≤ (s.tod u).buf.length ∧ 10000000 < cycSince s.bt (s.tod
      u).syncAt) ∧
    (∃ (u : Fin 4) (l : List Byte) (s : State), Live Reg.REF s ∧ s.todBound u = true ∧ s.rf (Reg.REF_TOD_CFG u) 5 2 ≠ 0 ∧ nmeaFields (l.filter (fun
      b => b ≠ 13#8 ∧ b ≠ 10#8)) = none) ∧
    (∃ (u : Fin 4) (l : List Byte) (s : State) (ff : List (List Byte)), Live Reg.REF s ∧ s.todBound u = true ∧ s.rf (Reg.REF_TOD_CFG u) 5 2 ≠ 0 ∧
      nmeaFields (l.filter (fun b => b ≠ 13#8 ∧ b ≠ 10#8)) = some ff ∧ (ff.headD []).drop 2 = [82#8, 77#8, 67#8]) ∧
    (∃ (u : Fin 4) (s : State) (x : TodMsg) (b : BT80), Acts Reg.REF s ∧ (s.tod u).waiting = [(x, b)] ∧ 990000000 * 65536 ≤ (s.bt - b).toNat) :=
  ⟨by refine ⟨.host, 0, rg [(Reg.REF + 8, 1)], ?h1, ?h2⟩ <;> decide +kernel,
    by refine ⟨0, 0, { rg [(Reg.REF_TOD_CFG 0, 0x10), (Reg.REF_ENT_CFG 0, 1)] with ref.tods := [(0, { buf := List.replicate 23 (0xB5, 0) })] },
      ?i1, ?i2, ?i3, ?i4, ?i5⟩ <;> decide +kernel,
    by refine ⟨0, [0xB5, 0x12, 1, 18] ++ List.replicate 18 0 ++ [0x5F, 0x49], rg [(Reg.REF_TOD_CFG 0, 0x10), (Reg.REF_ENT_CFG 0, 1)], ⟨0, 0, 0, 0,
      0, false, false⟩, ?j1, ?j2, ?j3, ?j4, ?j5, ?j6, ?j7⟩ <;> decide +kernel,
    by refine ⟨0, { late [] with ref.tods := [(0, { buf := [(0xB5, 0), (0x12, 0)] })] }, ?k1, ?k2, ?k3, ?k4⟩ <;> decide +kernel,
    by refine ⟨0, [], rg [(Reg.REF_TOD_CFG 0, 0x30)], ?l1, ?l2, ?l3, ?l4⟩ <;> decide +kernel,
    by refine ⟨0, [0x24, 0x47, 0x50, 0x52, 0x4D, 0x43, 0x2C, 0x2A, 0x36, 0x37], rg [(Reg.REF_TOD_CFG 0, 0x30)],
      [[0x47, 0x50, 0x52, 0x4D, 0x43], []], ?m1, ?m2, ?m3, ?m4, ?m5⟩ <;> decide +kernel,
    by refine ⟨0, { late [] with ref.tods := [(0, { waiting := [(⟨0, 0, 0, 0, 0, true, true⟩, 0)] })] }, ⟨0, 0, 0, 0, 0, true, true⟩, 0, ?n1, ?n2,
      ?n3⟩ <;> decide +kernel⟩

theorem test_met_ref_selects :
    (∃ (m : Master) (l : Fin 8) (v : Word) (s : State), Reaches m (Reg.REF_LOOP_SEL l) s ∧ bit v 8 = true ∧ AMap.get none s.ref.fbDue l = none ∧
      (s.setReg (Reg.REF_LOOP_SEL l) (v &&& 0x13F#32)).selRej (fld v 0 6) = none) ∧
    (∃ (m : Master) (l : Fin 8) (v : Word) (s : State) (r : SelRej), Reaches m (Reg.REF_LOOP_SEL l) s ∧ bit v 8 = true ∧ AMap.get none s.ref.fbDue
      l = none ∧ (s.setReg (Reg.REF_LOOP_SEL l) (v &&& 0x13F#32)).selRej (fld v 0 6) = some r) ∧
    (∃ (m : Master) (l : Fin 8) (v : Word) (s : State), Reaches m (Reg.REF_LOOP_SEL l) s ∧ bit v 8 = false ∧ AMap.get none s.ref.fbDue l = none) ∧
    (∃ (m : Master) (l : Fin 8) (b : Bool) (v : Word) (s : State), Reaches m (prioAddr l b) s ∧ s.pgLock Reg.REF = false) ∧
    (∃ (l : Fin 8) (s : State) (e : Nat) (b : BT80), Acts Reg.REF s ∧ AMap.get none s.ref.fbDue l = some (e, b) ∧ s.nextScal b = true ∧ (s.clearFb
      l).curValid l = true ∧ (s.clearFb l).curEntry l = e) ∧
    (∃ (l : Fin 8) (s : State) (b : BT80) (i : Nat), Acts Reg.REF s ∧ AMap.get none s.ref.rescan l = some b ∧ s.nextScal b = true ∧
      ((let t := { s with ref := { s.ref with rescan := AMap.set none s.ref.rescan l none } }; t.scans l = true ∧ t.pickPrio l (t.rf
      (Reg.REF_LOOP_CUR l) 24 8) = some i))) :=
  ⟨by refine ⟨.host, 0, 0x12F, rg [(Reg.REF + 8, 1), (Reg.REF_ENT_STAT 47, 2)], ?o1, ?o2, ?o3, ?o4⟩ <;> decide +kernel,
    by refine ⟨.host, 0, 0x13F, rg [(Reg.REF + 8, 1)], .range, ?p1, ?p2, ?p3, ?p4⟩ <;> decide +kernel,
    by refine ⟨.host, 0, 0, R, ?q1, ?q2, ?q3⟩ <;> decide +kernel,
    by refine ⟨.host, 0, false, 0, R, ?r1, ?r2⟩ <;> decide +kernel,
    by refine ⟨0, { late [(Reg.REF_LOOP_CUR 0, 0x12F)] with ref.fbDue := [(0, some (47, 0))] }, 47, 0, ?s1, ?s2, ?s3, ?s4, ?s5⟩ <;> decide +kernel,
    by refine ⟨0, { late [(Reg.REF_LOOP_CUR 0, 0x400), (Reg.REF_LOOP_PRIO_A 0, 0x80), (Reg.REF_ENT_STAT 0, 2)] with ref.rescan := [(0, some 0)] },
      0, 0, ?t1, ?t2, ?t3, ?t4⟩ <;> decide +kernel⟩

theorem test_met_loops_act :
    (∃ (l : Fin 8) (n : Fin 48) (b : BT80) (x : WT96) (e : Word) (s : State) (r : State) (t : State) (v : Int), Acts (Reg.DPL l) s ∧ (if s.pageLive
      Reg.REF then refDelivery n b e.toNat s else s) = r ∧ r.pgEn (Reg.DPL l) = true ∧ r.curValid l = true ∧ r.curEntry l = n.val ∧ r.setDpl l
      { r.dplS l with edges := (r.dplS l).edges + e.toNat } = t ∧ (t.dplSt l = .locked ∨ t.dplSt l = .acquire) ∧ t.measX l n (some x) = some v) ∧
    (∃ (l : Fin 8) (n : Fin 48) (b : BT80) (x : WT96) (e : Word) (s : State) (r : State), Acts (Reg.DPL l) s ∧ (if s.pageLive Reg.REF then
      refDelivery n b e.toNat s else s) = r ∧ r.pgEn (Reg.DPL l) = true ∧ r.curEntry l ≠ n.val) ∧
    (∃ (l : Fin 8) (s : State), Acts (Reg.DPL l) s ∧ s.dplSt l = .holdover ∧ s.pgEn (Reg.DPL l) = true ∧ s.rptDue l = true) ∧
    (∃ (m : Master) (l : Fin 8) (v : Word) (s : State), Reaches m (Reg.DPL_CMD l) s ∧ bit v 0 = true ∧ bit v 1 = false ∧ bit v 2 = false ∧
      s.hoValid l = true ∧ s.dplSt l = .locked) ∧
    (∃ (m : Master) (l : Fin 8) (v : Word) (s : State), Reaches m (Reg.DPL_CMD l) s ∧ bit v 0 = true ∧ bit v 1 = false ∧ bit v 2 = false ∧
      s.hoValid l = false) ∧
    (∃ (m : Master) (l : Fin 8) (v : Word) (s : State), Reaches m (Reg.DPL_CMD l) s ∧ bit v 1 = true ∧ bit v 0 = false ∧ bit v 2 = false ∧ (s.dplS
      l).forced = true ∧ s.dplSt l = .holdover) ∧
    (∃ (m : Master) (l : Fin 8) (v : Word) (s : State), Reaches m (Reg.DPL_CMD l) s ∧ bit v 1 = true ∧ bit v 0 = false ∧ bit v 2 = false ∧ (s.dplS
      l).forced = false) ∧
    (∃ (m : Master) (l : Fin 8) (v : Word) (s : State), Reaches m (Reg.DPL_CMD l) s ∧ bit v 2 = true ∧ bit v 0 = false ∧ bit v 1 = false ∧ s.dplSt
      l ≠ .freerun) ∧
    (∃ (l : Fin 8) (s : State), Acts (Reg.DPL l) s ∧ s.rb (Reg.DPL_HIST_CFG l) 8 = true ∧ (s.dplS l).hIdx < s.histNo l) ∧
    (∃ (l : Fin 8) (s : State), Live (Reg.DPL l) s) ∧
    (∃ (m : Master) (l : Fin 8) (v : Word) (s : State), Reaches m (Reg.DPL_CMD l) s ∧ bit v 2 = true ∧ s.dplSt l ≠ .freerun) ∧
    (∃ (m : Master) (l : Fin 8) (v : Word) (s : State), Reaches m (Reg.DPL_CMD l) s ∧ bit v 2 = false ∧ bit v 0 = true ∧ s.hoValid l = true ∧
      s.dplSt l = .acquire) ∧
    (∃ (l : Fin 8) (n : Fin 48) (b : BT80) (x : WT96) (e : Word) (s : State) (r : State) (t : State), Acts (Reg.DPL l) s ∧ (if s.pageLive Reg.REF
      then refDelivery n b e.toNat s else s) = r ∧ r.pgEn (Reg.DPL l) = true ∧ r.curValid l = true ∧ r.curEntry l = n.val ∧ r.setDpl l
      { r.dplS l with edges := (r.dplS l).edges + e.toNat } = t ∧ (t.dplSt l = .freerun ∨ t.dplSt l = .holdover)) :=
  ⟨by refine ⟨7, 47, 0, 0, 0, rg [(Reg.DPL 7 + 8, 1), (Reg.REF_LOOP_CUR 7, 0x12F), (Reg.DPL_STAT 7, 2)], _, _, _, ?a1, rfl, ?a2, ?a3, ?a4, rfl,
      ?a5, rfl⟩ <;> decide +kernel,
    by refine ⟨7, 47, 0, 0, 0, rg [(Reg.DPL 7 + 8, 1)], _, ?b1, rfl, ?b2, ?b3⟩ <;> decide +kernel,
    by refine ⟨7, late [(Reg.DPL 7 + 8, 1), (Reg.DPL_STAT 7, 3)], ?c1, ?c2, ?c3, ?c4⟩ <;> decide +kernel,
    by refine ⟨.host, 7, 1, rg [(Reg.DPL_STAT 7, 6)], ?d1, ?d2, ?d3, ?d4, ?d5, ?d6⟩ <;> decide +kernel,
    by refine ⟨.host, 7, 1, R, ?e1, ?e2, ?e3, ?e4, ?e5⟩ <;> decide +kernel,
    by refine ⟨.host, 7, 2, { rg [(Reg.DPL_STAT 7, 3)] with dpl := [(7, { forced := true })] }, ?f1, ?f2, ?f3, ?f4, ?f5, ?f6⟩ <;> decide +kernel,
    by refine ⟨.host, 7, 2, R, ?g1, ?g2, ?g3, ?g4, ?g5⟩ <;> decide +kernel,
    by refine ⟨.host, 7, 4, rg [(Reg.DPL_STAT 7, 2)], ?h1, ?h2, ?h3, ?h4, ?h5⟩ <;> decide +kernel,
    by refine ⟨7, late [(Reg.DPL_HIST_CFG 7, 0x100)], ?i1, ?i2, ?i3⟩ <;> decide +kernel,
    ⟨0, R, by decide +kernel⟩,
    by refine ⟨.host, 7, 4, rg [(Reg.DPL_STAT 7, 2)], ?k1, ?k2, ?k3⟩ <;> decide +kernel,
    by refine ⟨.host, 7, 1, rg [(Reg.DPL_STAT 7, 5)], ?l1, ?l2, ?l3, ?l4, ?l5⟩ <;> decide +kernel,
    by refine ⟨7, 47, 0, 0, 0, rg [(Reg.DPL 7 + 8, 1), (Reg.REF_LOOP_CUR 7, 0x12F), (Reg.DPL_STAT 7, 0)], _, _, ?m1, rfl, ?m2, ?m3, ?m4, rfl, ?m5⟩
      <;> decide +kernel⟩

theorem test_met_synthesisers_act :
    (∃ (m : Master) (n : Fin 4) (v : Word) (s : State) (b : Nat), Reaches m (Reg.SYN_CMD n) s ∧ s.pgEn (Reg.SYN n) = true ∧ bit v 0 = true ∧ bit v
      1 = false ∧ bit v 2 = false ∧ s.synSt n = .idle ∧ 16 ≤ s.regN (Reg.SYN_NUM n) 2 / 2 ^ 48 ∧ s.pickBand n (s.reg (Reg.SYN_CFG n)) (s.regN
      (Reg.SYN_NUM n) 2) (s.bandTable n) = some b) ∧
    (∃ (m : Master) (n : Fin 4) (v : Word) (s : State), Reaches m (Reg.SYN_CMD n) s ∧ s.pgEn (Reg.SYN n) = true ∧ bit v 0 = true ∧ bit v 1 = false
      ∧ bit v 2 = false ∧ s.regN (Reg.SYN_NUM n) 2 / 2 ^ 48 < 16) ∧
    (∃ (m : Master) (n : Fin 4) (v : Word) (s : State), Reaches m (Reg.SYN_CMD n) s ∧ s.pgEn (Reg.SYN n) = true ∧ bit v 0 = false ∧ bit v 1 = true
      ∧ bit v 2 = false) ∧
    (∃ (m : Master) (n : Fin 4) (v : Word) (s : State), Reaches m (Reg.SYN_CMD n) s ∧ s.pgEn (Reg.SYN n) = true ∧ bit v 0 = false ∧ bit v 1 = false
      ∧ bit v 2 = true ∧ s.synSt n = .idle) ∧
    (∃ (n : Fin 4) (lo : BitVec 24) (hi : BitVec 24) (s : State), Acts (Reg.SYN n) s ∧ s.synSt n = .measure) ∧
    (∃ (n : Fin 4) (s : State), Live (Reg.SYN n) s ∧ s.synSt n = .locking) ∧
    (∃ (n : Fin 4) (s : State), Acts (Reg.SYN n) s ∧ s.synSt n = .locking ∧ s.elapsed (s.synS n).since 2000000 = true) ∧
    (∃ (n : Fin 4) (s : State), Live (Reg.SYN n) s ∧ s.synSt n = .locked) ∧
    (∃ (n : Fin 4) (s : State) (b : Nat), Acts (Reg.SYN n) s ∧ s.synSt n = .lost ∧ s.elapsed (s.synS n).since 2000000 = true) ∧
    (∃ (n : Fin 4) (s : State), Acts (Reg.SYN n) s ∧ s.rb (Reg.SYN_STAT n) 16 = true ∧ s.elapsed (s.synS n).slewAt 10000 = true) ∧
    (∃ (m : Master) (n : Fin 4) (v : Word) (s : State), Reaches m (Reg.SYN_CMD n) s ∧ s.pgEn (Reg.SYN n) = true ∧ bit v 0 = true ∧ bit v 1 = false
      ∧ bit v 2 = false ∧ 16 ≤ s.regN (Reg.SYN_NUM n) 2 / 2 ^ 48 ∧ s.pickBand n (s.reg (Reg.SYN_CFG n)) (s.regN (Reg.SYN_NUM n) 2) (s.bandTable n)
      = none) :=
  ⟨by refine ⟨.host, 3, 1, rg [(Reg.SYN 3 + 8, 1), (Reg.SYN_CFG 3, 0), (Reg.SYN_BAND 3 63, 0xFFFF0001)], 63, ?a1, ?a2, ?a3, ?a4, ?a5, ?a6, ?a7,
      ?a8⟩ <;> decide +kernel,
    by refine ⟨.host, 3, 1, rg [(Reg.SYN 3 + 8, 1), (Reg.SYN_NUM 3 + 4, 0x000FFFFF)], ?b1, ?b2, ?b3, ?b4, ?b5, ?b6⟩ <;> decide +kernel,
    by refine ⟨.host, 3, 2, rg [(Reg.SYN 3 + 8, 1)], ?c1, ?c2, ?c3, ?c4, ?c5⟩ <;> decide +kernel,
    by refine ⟨.host, 3, 4, rg [(Reg.SYN 3 + 8, 1)], ?d1, ?d2, ?d3, ?d4, ?d5, ?d6⟩ <;> decide +kernel,
    by refine ⟨3, 0, 0, rg [(Reg.SYN_STAT 3, 1)], ?e1, ?e2⟩ <;> decide +kernel,
    by refine ⟨3, rg [(Reg.SYN_STAT 3, 2)], ?f1, ?f2⟩ <;> decide +kernel,
    by refine ⟨3, late [(Reg.SYN_STAT 3, 2)], ?g1, ?g2, ?g3⟩ <;> decide +kernel,
    by refine ⟨3, rg [(Reg.SYN_STAT 3, 3)], ?h1, ?h2⟩ <;> decide +kernel,
    by refine ⟨3, late [(Reg.SYN_STAT 3, 4)], 0, ?i1, ?i2, ?i3⟩ <;> decide +kernel,
    by refine ⟨3, late [(Reg.SYN_STAT 3, 0x10000)], ?j1, ?j2, ?j3⟩ <;> decide +kernel,
    by refine ⟨.host, 3, 1, rg [(Reg.SYN 3 + 8, 1)], ?k1, ?k2, ?k3, ?k4, ?k5, ?k6, ?k7⟩ <;> decide +kernel⟩

theorem test_met_outputs_act :
    (∃ (m : Master) (v : Word) (s : State), Reaches m Reg.OUT_CMD s) ∧
    (∃ (m : Master) (v : Word) (s : State), Reaches m Reg.OUT_CMD s ∧ s.outs.sync = 0 ∧ (∀ n, s.outRun n = false) ∧ fld v 0 12 ≠ 0) ∧
    (∃ (s : State), Acts Reg.OUT s ∧ s.outs.sync ≠ 0 ∧ s.syncReady = true) ∧
    (∃ (s : State), Live Reg.OUT s) ∧
    (∃ (n : Fin 4) (s : State) (t : WT96) (b : BT80), Acts Reg.PPS s ∧ s.ppsRun n = true ∧ (s.ppsS n).target = some t ∧ (s.ppsS n).active = false ∧
      s.ppsDue n t = some b) ∧
    (∃ (m : Master) (v : Word) (s : State), Reaches m Reg.PPS_CMD s) ∧
    (∃ (m : Master) (n : Fin 4) (v : Word) (s : State), Reaches m (Reg.PPS_CFG n) s) ∧
    (∃ (n : Fin 4) (s : State), Acts Reg.PPS s ∧ s.ppsMaySwitch n = true) ∧
    (∃ (m : Master) (v : Word) (s : State), Reaches m Reg.OUT_CMD s ∧ fld v 0 12 = 0 ∧ s.outs.sync = 0) :=
  ⟨⟨.host, 1, { rg [(Reg.OUT + 8, 1)] with outs.clk := [(0, { on := true, gate := true })] }, by decide +kernel⟩,
    by refine ⟨.host, 1, R, ?m1, ?m2, fun _ => rfl, ?m3⟩ <;> decide +kernel,
    by refine ⟨{ R with outs.sync := 1 }, ?n1, ?n2, ?n3⟩ <;> decide +kernel,
    ⟨R, by decide +kernel⟩,
    by refine ⟨3, { rg [(Reg.PPS_STAT 3, 1)] with outs.pps := [(3, { target := some 0 })] }, 0, 0, ?p1, ?p2, ?p3, ?p4, ?p5⟩ <;> decide +kernel,
    ⟨.host, 0, R, by decide +kernel⟩,
    ⟨.host, 0, 0, R, by decide +kernel⟩,
    by refine ⟨3, { rg [(Reg.PPS_STAT 3, 8)] with outs.pps := [(3, { target := none })] }, ?s1, ?s2⟩ <;> decide +kernel,
    by refine ⟨.host, 0, R, ?t1, ?t2, ?t3⟩ <;> decide +kernel⟩

theorem test_met_gnss_acquires :
    (∃ (m : Master) (v : Word) (s : State), Reaches m Reg.GNS_SIF_CMD s ∧ bit v 0 = true ∧ s.rb Reg.GNS_SIF_STAT 24 = false) ∧
    (∃ (f : Byte) (s : State), Acts Reg.GNS s ∧ s.rb Reg.GNS_SIF_STAT 24 = true ∧ s.trainOver = true) ∧
    (∃ (n : Fin 8) (s : State), Live Reg.GNS s ∧ s.laneAligned n = true) ∧
    (∃ (n : Fin 8) (s : State), Live Reg.GNS s ∧ s.laneAligned n = true ∧ s.rb Reg.GNS_SIF_STAT (8 + n) = false) ∧
    (∃ (n : Fin 8) (s : State), Live Reg.GNS s) ∧
    (∃ (a : Fin 4) (s : State) (b : BT80), Live Reg.GNS s ∧ AMap.get none s.gns.antLow a = some (b, false)) ∧
    (∃ (s : State), Acts Reg.ACQ s ∧ s.pgEn Reg.ACQ = true ∧ s.gns.acq.active = none ∧ s.gns.acq.chq = []) ∧
    (∃ (ra : BitVec 16) (cn : BitVec 16) (dop : Word) (code : Word) (s : State) (r : AcqReq) (b : BT80), Acts Reg.ACQ s ∧ s.inject Reg.ACQ 0 =
      false ∧ s.gns.acq.active = some (r, b) ∧ s.gns.acq.begun = true ∧ r.handoff = false ∧ r.thr ≤ ra.toNat) ∧
    (∃ (ra : BitVec 16) (cn : BitVec 16) (dop : Word) (code : Word) (s : State) (r : AcqReq) (b : BT80), Acts Reg.ACQ s ∧ s.inject Reg.ACQ 0 =
      false ∧ s.gns.acq.active = some (r, b) ∧ s.gns.acq.begun = true ∧ r.handoff = true ∧ r.thr ≤ ra.toNat ∧ s.gns.acq.noHand = false) ∧
    (∃ (m : Master) (v : Word) (s : State), Reaches m Reg.ACQ_CMD s ∧ bit v 0 = true ∧ s.gns.acq.active = none) ∧
    (∃ (s : State), Acts Reg.ACQ s ∧ s.pgEn Reg.ACQ = true ∧ s.gns.acq.active = none ∧ s.gns.acq.chq = []) :=
  ⟨by refine ⟨.host, 1, R, ?a1, ?a2, ?a3⟩ <;> decide +kernel,
    by refine ⟨0, { late [(Reg.GNS_SIF_STAT, 0x1000000)] with gns.trainAt := some 0 }, ?b1, ?b2, ?b3⟩ <;> decide +kernel,
    by refine ⟨7, rg [(Reg.GNS_SIF_STAT, 0x80)], ?c1, ?c2⟩ <;> decide +kernel,
    by refine ⟨7, rg [(Reg.GNS_SIF_STAT, 0x80)], ?d1, ?d2, ?d3⟩ <;> decide +kernel,
    ⟨0, R, by decide +kernel⟩,
    by refine ⟨3, { R with gns.antLow := [(3, some (0, false))] }, 0, ?f1, ?f2⟩ <;> decide +kernel,
    by refine ⟨rg [(Reg.ACQ + 8, 1)], ?g1, ?g2, ?g3, ?g4⟩ <;> decide +kernel,
    by refine ⟨1, 0, 0, 0, { R with gns.acq.active := some (⟨1, 0, 0, 0, false, 0, 0, 0, 0, 1, 0⟩, 0), gns.acq.begun := true }, ⟨1, 0, 0, 0, false,
      0, 0, 0, 0, 1, 0⟩, 0, ?h1, ?h2, ?h3, ?h4, ?h5, ?h6⟩ <;> decide +kernel,
    by refine ⟨1, 0, 0, 0,
      { rg [(Reg.GCH_STAT 0, 1)] with gns.acq.active := some (⟨0, 0, 0, 0, true, 0, 0, 0, 0, 1, 0⟩, 0), gns.acq.begun := true }, ⟨0, 0, 0, 0, true,
      0, 0, 0, 0, 1, 0⟩, 0, ?i1, ?i2, ?i3, ?i4, ?i5, ?i6, ?i7⟩ <;> decide +kernel,
    by refine ⟨.host, 1, R, ?j1, ?j2, ?j3⟩ <;> decide +kernel,
    by refine ⟨rg [(Reg.ACQ + 8, 1)], ?k1, ?k2, ?k3, ?k4⟩ <;> decide +kernel⟩

theorem test_met_gnss_channels_run :
    (∃ (m : Master) (c : Fin 256) (v : Word) (s : State), Reaches m (Reg.GCH_CMD c) s ∧ s.gchOn c = true ∧ bit v 0 = true ∧ bit v 1 = false ∧
      (s.gch c).stopAt ≠ some s.bt ∧ sigOk (fld (s.reg (Reg.GCH_CFG c)) 12 4) (fld (s.reg (Reg.GCH_CFG c)) 16 8) = true ∧ tcohOk (s.rf
      (Reg.GCH_LOOP c) 16 3) (fld (s.reg (Reg.GCH_CFG c)) 12 4) = true ∧ s.laneAligned (laneOf (fld (s.reg (Reg.GCH_CFG c)) 10 2) (fld (s.reg
      (Reg.GCH_CFG c)) 12 4)) = true) ∧
    (∃ (m : Master) (c : Fin 256) (v : Word) (s : State), Reaches m (Reg.GCH_CMD c) s ∧ s.gchOn c = true ∧ bit v 0 = true ∧ bit v 1 = false ∧
      (s.gch c).stopAt ≠ some s.bt ∧ sigOk (fld (s.reg (Reg.GCH_CFG c)) 12 4) (fld (s.reg (Reg.GCH_CFG c)) 16 8) = false) ∧
    (∃ (m : Master) (c : Fin 256) (v : Word) (s : State), Reaches m (Reg.GCH_CMD c) s ∧ s.gchOn c = true ∧ bit v 1 = true) ∧
    (∃ (c : Fin 256) (s : State) (n : Nat), Acts (Reg.GCH c) s ∧ (s.gch c).startSec = some n ∧ n ≤ wholeSec s.now ∧ s.gchOn c = true) ∧
    (∃ (c : Fin 256) (x : Integration) (s : State), Acts (Reg.GCH c) s ∧ s.gchSt c = .pullin ∧ s.laneAligned (laneOf (s.gch c).ant (s.gch c).sig) =
      true ∧ s.inject (Reg.GCH c) 0 = true) ∧
    (∃ (c : Fin 256) (x : Integration) (s : State), Acts (Reg.GCH c) s ∧ s.gchSt c = .pullin ∧ s.laneAligned (laneOf (s.gch c).ant (s.gch c).sig) =
      true ∧ s.inject (Reg.GCH c) 0 = false ∧ x.sync = false) ∧
    (∃ (c : Fin 256) (s : State), Acts (Reg.GCH c) s ∧ s.gchSt c = .pullin ∧ s.elapsed (s.gch c).since 3000000000 = true) ∧
    (∃ (c : Fin 256) (s : State) (b : BT80), Acts (Reg.GCH c) s ∧ (s.gchSt c).active = true ∧ AMap.get none s.gns.down (laneOf (s.gch c).ant (s.gch
      c).sig) = some b ∧ s.laneAligned (laneOf (s.gch c).ant (s.gch c).sig) = false ∧ s.elapsed b 20000000 = true) ∧
    (∃ (c : Fin 256) (s : State), Acts (Reg.GCH c) s ∧ s.gchSt c = .lost ∧ (s.gch c).reacq = true ∧ s.gchOn c = true) ∧
    (∃ (c : Fin 256) (x : NavUnit) (s : State), Acts (Reg.GCH c) s ∧ s.gchSt c = .track ∧ s.rb Reg.NAV_CFG 0 = true ∧ s.pgEn Reg.NAV = true ∧
      x.parErr = true) ∧
    (∃ (c : Fin 256) (x : NavUnit) (s : State), Acts (Reg.GCH c) s ∧ s.gchSt c = .track ∧ s.rb Reg.NAV_CFG 0 = true ∧ s.pgEn Reg.NAV = true ∧
      x.parErr = false ∧ s.inject Reg.NAV 0 = false ∧ navCheck (s.gch c).sig (navPass (s.gch c).sig x) = 0) ∧
    (∃ (s : State), Acts Reg.GNS s ∧ s.gns.lastEco ≠ some (wholeSec s.now)) ∧
    (∃ (c : Fin 256) (s : State), Acts (Reg.GCH c) s ∧ s.gchSt c = .burst ∧ (s.gch c).burstSec = none) ∧
    (∃ (m : Master) (c : Fin 256) (v : Word) (s : State), Reaches m (Reg.GCH_CMD c) s ∧ s.gchOn c = false) :=
  ⟨by refine ⟨.host, 255, 1, rg
      [(Reg.GCH 255 + 8, 1), (Reg.GNS + 8, 1), (Reg.GCH_CFG 255, 0x10000), (Reg.GCH_LOOP 255, 0), (Reg.GNS_SIF_STAT, 1)], ?l1, ?l2, ?l3, ?l4, ?l5,
      ?l6, ?l7, ?l8⟩ <;> decide +kernel,
    by refine ⟨.host, 255, 1, rg [(Reg.GCH 255 + 8, 1), (Reg.GNS + 8, 1)], ?m1, ?m2, ?m3, ?m4, ?m5, ?m6⟩ <;> decide +kernel,
    by refine ⟨.host, 255, 2, rg [(Reg.GCH 255 + 8, 1), (Reg.GNS + 8, 1)], ?n1, ?n2, ?n3⟩ <;> decide +kernel,
    by refine ⟨255, { rg [(Reg.GCH 255 + 8, 1), (Reg.GNS + 8, 1)] with gns.chs := [(255, { startSec := some 0 })] }, 0, ?o1, ?o2, ?o3, ?o4⟩
      <;> decide +kernel,
    by refine ⟨255, ⟨0, 0, 0, 0, 0, 0, 0, 0, false, 0, 1⟩, rg [(Reg.GCH_STAT 255, 2), (Reg.GNS_SIF_STAT, 1), (Reg.GCH 255 + 0x024, 1)], ?p1, ?p2,
      ?p3, ?p4⟩ <;> decide +kernel,
    by refine ⟨255, ⟨0, 0, 0, 0, 0, 0, 0, 0, false, 0, 1⟩, rg [(Reg.GCH_STAT 255, 2), (Reg.GNS_SIF_STAT, 1)], ?q1, ?q2, ?q3, ?q4, ?q5⟩
      <;> decide +kernel,
    by refine ⟨255, late [(Reg.GCH_STAT 255, 2)], ?r1, ?r2, ?r3⟩ <;> decide +kernel,
    by refine ⟨255, { late [(Reg.GCH_STAT 255, 3)] with gns.down := [(0, some 0)] }, 0, ?s1, ?s2, ?s3, ?s4, ?s5⟩ <;> decide +kernel,
    by refine ⟨255, { rg [(Reg.GCH 255 + 8, 1), (Reg.GNS + 8, 1), (Reg.GCH_STAT 255, 5)] with gns.chs := [(255, { reacq := true })] }, ?t1, ?t2,
      ?t3, ?t4⟩ <;> decide +kernel,
    by refine ⟨255, ⟨[], false, 0, false, 0, true⟩, rg [(Reg.GCH_STAT 255, 3), (Reg.NAV_CFG, 1), (Reg.NAV + 8, 1)], ?u1, ?u2, ?u3, ?u4, ?u5⟩
      <;> decide +kernel,
    by refine ⟨255, ⟨[], false, 0, false, 0, false⟩, rg [(Reg.GCH_STAT 255, 3), (Reg.NAV_CFG, 1), (Reg.NAV + 8, 1)], ?v1, ?v2, ?v3, ?v4, ?v5, ?v6,
      ?v7⟩ <;> decide +kernel,
    by refine ⟨R, ?w1, ?w2⟩ <;> decide +kernel,
    by refine ⟨255, late [(Reg.GCH_STAT 255, 4)], ?x1, ?x2, ?x3⟩ <;> decide +kernel,
    by refine ⟨.host, 0, 0, R, ?y1, ?y2⟩ <;> decide +kernel⟩

theorem test_met_gnss_integrity_acts :
    (∃ (m : Master) (v : Word) (s : State), Reaches m Reg.ANT_SOL_CTL s ∧ 40 ≤ fld v 0 6 ∧ fld v 0 6 ≤ 43 ∧ fld v 8 8 ≤ 3 ∧ s.rf (Reg.REF_ENT_QTH
      (fld v 0 6)) 0 8 ≤ fld v 8 8) ∧
    (∃ (m : Master) (v : Word) (s : State), Reaches m Reg.ANT_SOL_CTL s ∧ fld v 0 6 < 40) ∧
    (∃ (s : State) (t : WT96), Acts Reg.GNS s ∧ s.epochDue = some t) ∧
    (∃ (c : Fin 256) (s : State) (t : WT96), Acts (Reg.GCH c) s ∧ s.burstEpoch c = some t ∧ s.gchSt c = .burst ∧ earlier s.now t = false) ∧
    (∃ (l : List JamLane) (s : State), Acts Reg.ANT s) ∧
    (∃ (m : Master) (v : Word) (s : State), Reaches m (Reg.ANT_PPS_BT + 8) s) ∧
    (∃ (s : State) (a : BT80) (b : BT80), Acts Reg.ANT s ∧ s.ant.pulse = some (a, b, false) ∧ atOrAfter s.bt a = true) ∧
    (∃ (s : State) (a : BT80) (b : BT80), Acts Reg.ANT s ∧ s.ant.pulse = some (a, b, true) ∧ atOrAfter s.bt b = true) ∧
    (∃ (m : Master) (v : Word) (s : State) (a : BT80) (b : BT80), Reaches m Reg.ANT_PPS_CFG s ∧ (plainWrite Reg.ANT_PPS_CFG v s).ant.pulse = some
      (a, b, false) ∧ (plainWrite Reg.ANT_PPS_CFG v s).rb Reg.ANT_PPS_CFG 0 = false ∧ (plainWrite Reg.ANT_PPS_CFG v s).rb Reg.ANT_PPS_CFG 1 = s.rb
      Reg.ANT_PPS_CFG 1) ∧
    (∃ (s : State), Live Reg.ANT s) :=
  ⟨by refine ⟨.host, 40, rg [(Reg.REF_ENT_QTH 40, 0)], ?a1, ?a2, ?a3, ?a4, ?a5⟩ <;> decide +kernel,
    by refine ⟨.host, 0, R, ?b1, ?b2⟩ <;> decide +kernel,
    by refine ⟨{ rg [(Reg.GNS + 8, 1)] with bt := 6553600000000 }, 6553600000000, ?c1, ?c2⟩ <;> decide +kernel,
    by refine ⟨255, { late [(Reg.GCH_STAT 255, 4), (Reg.GNS_BURST, 0)] with gns.chs := [(255, { burstSec := some 0 })] }, 0, ?d1, ?d2, ?d3, ?d4⟩
      <;> decide +kernel,
    ⟨[], R, by decide +kernel⟩,
    ⟨.host, 0, R, by decide +kernel⟩,
    by refine ⟨{ R with ant.pulse := some (0, 0, false) }, 0, 0, ?g1, ?g2, ?g3⟩ <;> decide +kernel,
    by refine ⟨{ R with ant.pulse := some (0, 0, true) }, 0, 0, ?h1, ?h2, ?h3⟩ <;> decide +kernel,
    by refine ⟨.host, 0, { R with ant.pulse := some (0, 0, false) }, 0, 0, ?i1, ?i2, ?i3, ?i4⟩ <;> decide +kernel,
    ⟨R, by decide +kernel⟩⟩

theorem test_met_tdc_measures :
    (∃ (src : BitVec 6) (rise : Bool) (n : BitVec 64) (raw : BitVec 9) (s : State), Live Reg.TDC s) ∧
    (∃ (c : Nat) (n : Nat) (raw : Nat) (s : State), (s.tdcCh c).enAt < n ∧ s.tdcEntries c = [] ∧ (s.tdcCh c).cnt + 1 = (s.tdcCh c).due ∧ s.tdcMode
      c = 0 ∧ s.fltBit Reg.TDC 1 = false) ∧
    (∃ (m : Master) (c : Fin 32) (s : State), Reads m (Reg.TDC_CH_RES_LO c) s ∧ (s.tdcCh c).fifo = []) ∧
    (∃ (m : Master) (c : Fin 32) (s : State) (r : TdcResult) (l : List TdcResult), Reads m (Reg.TDC_CH_RES_LO c) s ∧ (s.tdcCh c).fifo = r :: l ∧
      r.bad = false ∧ (s.tdcCh c).lost = none) ∧
    (∃ (m : Master) (v : Word) (s : State), Reaches m Reg.TDC_ARM s) ∧
    (∃ (g : Fin 4) (s : State), Live Reg.TDC s ∧ (AMap.get { } s.tdc.gates g : GatePin).lvl = false ∧ s.rb Reg.TDC_GATE_CFG g = true) ∧
    (∃ (m : Master) (c : Fin 32) (v : Word) (s : State), Reaches m (Reg.TDC_CH_CFG c) s ∧ s.tdcTaken c = false ∧ s.tdc.calCh = none ∧ bit (s.reg
      (Reg.TDC_CH_CFG c)) 0 = true) ∧
    (∃ (m : Master) (v : Word) (s : State), Reaches m Reg.TDC_CAL_CMD s ∧ bit v 8 = true ∧ s.pgEn Reg.TDC = true ∧ s.tdcEn (fld v 0 5) = false ∧
      s.tdc.calCh = none) ∧
    (∃ (l : List Byte) (s : State) (c : Nat), Acts Reg.TDC s ∧ s.tdc.calCh = some c) ∧
    (∃ (s : State), s.alive = true ∧ s.warm = true) ∧
    (∃ (g : Fin 4) (s : State), Live Reg.TDC s ∧ (AMap.get { } s.tdc.gates g : GatePin).lvl = false ∧ s.rb Reg.TDC_GATE_CFG g = false ∧ (∀ c < 32,
      s.tdcMode c ≠ 2)) ∧
    (∃ (c : Nat) (s : State) (r : TdcResult) (o : Bool), (s.tdcCh c).lost = some (s.bt, r, o) ∧ (s.tdcCh c).fifo.length < 16) :=
  ⟨⟨0, false, 0, 0, R, by decide +kernel⟩,
    by refine ⟨0, 1, 0, R, ?b1, ?b2, ?b3, ?b4, ?b5⟩ <;> decide +kernel,
    by refine ⟨.host, 0, R, ?c1, ?c2⟩ <;> decide +kernel,
    by refine ⟨.host, 31, { R with tdc.chs := [(31, { fifo := [⟨0, 0, 0, false⟩] })] }, ⟨0, 0, 0, false⟩, [], ?d1, ?d2, ?d3, ?d4⟩
      <;> decide +kernel,
    ⟨.host, 0, R, by decide +kernel⟩,
    by refine ⟨3, rg [(Reg.TDC_GATE_CFG, 8)], ?f1, ?f2, ?f3⟩ <;> decide +kernel,
    by refine ⟨.host, 27, 0, rg [(Reg.TDC_CH_CFG 27, 1)], ?g1, ?g2, ?g3, ?g4⟩ <;> decide +kernel,
    by refine ⟨.host, 0x11F, rg [(Reg.TDC + 8, 1)], ?h1, ?h2, ?h3, ?h4, ?h5⟩ <;> decide +kernel,
    by refine ⟨[], { R with tdc.calCh := some 31 }, 31, ?i1, ?i2⟩ <;> decide +kernel,
    by refine ⟨rg [(Reg.TDC_GSTAT, 1)], ?j1, ?j2⟩ <;> decide +kernel,
    by refine ⟨0, R, ?k1, ?k2, ?k3, ?k4⟩ <;> decide +kernel,
    by refine ⟨31, { R with tdc.chs := [(31, { lost := some (0, ⟨0, 0, 0, false⟩, false) })] }, ⟨0, 0, 0, false⟩, false, ?l1, ?l2⟩
      <;> decide +kernel⟩

theorem test_met_port_links_follow :
    (∃ (m : Master) (g : Fin 4) (v : Word) (s : State), Reaches m (Reg.PRT_GMODE (4 * g.val)) s ∧ (∀ i, i < 4 → s.pgEn (Reg.PRT (4 * g.val + i)) =
      false) ∧ fld v 0 2 ≠ 3) ∧
    (∃ (p : Fin 17) (s : State), s.rxAlive p = true ∧ s.portOn p = true ∧ p.val < 16 ∧ s.fltBit (Reg.PRT p) 1 = false ∧ s.rb (Reg.PRT_LINK p) 4 =
      true) ∧
    (∃ (p : Fin 17) (al : Bool) (fec : Bool) (lf : Bool) (s : State), s.rxAlive p = true ∧ s.portOn p = true ∧ p.val < 16) ∧
    (∃ (p : Fin 17) (on : Bool) (s : State), s.rxAlive p = true ∧ s.portOn p = true ∧ p.val < 16) ∧
    (∃ (m : Master) (p : Fin 16) (v : Word) (s : State), Reaches m (Reg.PRT_MODE p) s) ∧
    (∃ (p : Fin 16) (s : State), Acts (Reg.PRT p) s ∧ (s.prtS p).rxMode = s.rf (Reg.PRT_MODE p) 0 2 ∧ (s.prtS p).txMode = s.rf (Reg.PRT_MODE p) 0 2
      ∧ s.modeAct p = 0 ∧ s.rf (Reg.PRT_MODE p) 0 2 ≠ 0) ∧
    (∃ (g : Fin 4) (s : State), s.alive = true ∧ s.ptxRun g = false) ∧
    (∃ (g : Fin 4) (s : State), s.alive = true ∧ s.ptxRun g = true) :=
  ⟨by refine ⟨.host, 0, 0, R, ?a1, ?a2, ?a3⟩ <;> decide +kernel,
    by refine ⟨15, rg [(Reg.PRT_GMODE 12, 0), (Reg.PRT 15 + 8, 1), (Reg.PRT_LINK 15, 0x10)], ?b1, ?b2, ?b3, ?b4, ?b5⟩ <;> decide +kernel,
    by refine ⟨15, false, false, false, rg [(Reg.PRT_GMODE 12, 0), (Reg.PRT 15 + 8, 1)], ?c1, ?c2, ?c3⟩ <;> decide +kernel,
    by refine ⟨15, false, rg [(Reg.PRT_GMODE 12, 0), (Reg.PRT 15 + 8, 1)], ?d1, ?d2, ?d3⟩ <;> decide +kernel,
    ⟨.host, 0, 0, R, by decide +kernel⟩,
    by refine ⟨15, rg [(Reg.PRT_LINK 15, 0), (Reg.PRT_MODE 15, 1)], ?f1, ?f2, ?f3, ?f4, ?f5⟩ <;> decide +kernel,
    by refine ⟨0, R, ?g1, ?g2⟩ <;> decide +kernel,
    by refine ⟨0, { rg [(Reg.SYN_STAT 0, 3)] with syn := [(0, { cfg := 0x1010, num := 1250 * 2 ^ 48 })] }, ?h1, ?h2⟩ <;> decide +kernel⟩

theorem test_met_port_frames_pass :
    (∃ (p : Fin 17) (f : RxFrame) (s : State), s.alive = true ∧ s.looped p = false ∧ s.lpbk p ≠ 3 ∧ s.rxAlive p = false) ∧
    (∃ (p : Fin 17) (f : RxFrame) (s : State), s.rxAlive p = true ∧ s.portOn p = true ∧ p.val < 16 ∧ s.looped p = false ∧ s.lpbk p ≠ 3 ∧ (pcsCount
      p f s).linkUp p = true ∧ f.data.length < 4) ∧
    (∃ (p : Fin 17) (f : RxFrame) (s : State), s.rxAlive p = true ∧ s.portOn p = true ∧ p.val < 16 ∧ s.looped p = false ∧ s.lpbk p ≠ 3) ∧
    (∃ (p : Fin 17) (q : BitVec 16) (s : State), s.alive = true) ∧
    (∃ (p : Nat) (q : Nat) (s : State), p < 16 ∧ s.modeAct p ≠ 0 ∧ q ≠ 0) ∧
    (∃ (p : Fin 16) (s : State) (b : BT80), Acts (Reg.PRT p) s ∧ s.portOn p = true ∧ (s.prtS p).pauseTo = some b ∧ earlier s.bt b = false) ∧
    (∃ (p : Fin 16) (s : State), Acts (Reg.PRT p) s ∧ s.portOn p = true ∧ s.rb (Reg.PRT_LINK p) 8 = true ∧ atOrAfter s.bt ((s.prtS p).pauseAt +
      s.quanta p (s.rf (Reg.PRT_FC_CFG p) 0 16 / 2)) = true) ∧
    (∃ (p : Fin 16) (s : State) (r : Bool), Acts (Reg.PRT p) s ∧ s.portOn p = true ∧ (s.prtS p).pauseReq = some r ∧ s.canSend p = true ∧ s.fitsGap
      p 64 = true ∧ (s.prtS p).lastPause ≠ some (s.pauseValue p)) ∧
    (∃ (p : Fin 17) (b : DWord) (s : State) (f : TxFrame), Acts (prtPage p) s ∧ s.portOn p = true ∧ (s.prtS p).tx = some f ∧ s.looped p = false) ∧
    (∃ (p : Fin 16) (d : List Byte) (s : State), s.alive = true) ∧
    (∃ (p : Fin 16) (s : State), Acts (Reg.PRT p) s ∧ s.portOn p = true ∧ s.esmcReady p = true ∧ s.infoDue p = true) ∧
    (∃ (p : Fin 16) (s : State), Acts (Reg.PRT p) s ∧ s.portOn p = true ∧ s.esmcReady p = true ∧ (s.prtS p).codes.isSome = true ∧ (s.prtS p).codes
      ≠ some (s.esmcCodes p)) ∧
    (∃ (p : Fin 17) (f : RxFrame) (s : State), s.alive = true ∧ s.looped p = true) ∧
    (∃ (p : Fin 17) (f : RxFrame) (s : State), s.rxAlive p = true ∧ s.portOn p = true ∧ p.val < 16 ∧ s.looped p = false ∧ s.lpbk p ≠ 3 ∧ (pcsCount
      p f s).linkUp p = false) ∧
    (∃ (p : Fin 17) (b : DWord) (s : State), Acts (prtPage p) s ∧ s.portOn p = true ∧ (s.prtS p).tx = none) :=
  ⟨by refine ⟨15, ⟨[], false, false, 0, 0, 0, 0, 0, 0, 0⟩, rg [(Reg.PRT 15 + 8, 2)], ?i1, ?i2, ?i3, ?i4⟩ <;> decide +kernel,
    by refine ⟨15, ⟨[], false, false, 0, 0, 0, 0, 0, 0, 0⟩, rg [(Reg.PRT_GMODE 12, 0), (Reg.PRT 15 + 8, 1), (Reg.PRT_LINK 15, 8)], ?j1, ?j2, ?j3,
      ?j4, ?j5, ?j6, ?j7⟩ <;> decide +kernel,
    by refine ⟨15, ⟨List.replicate 60 0 ++ bytesLE 4 (crc32 (List.replicate 60 0)).toNat, false, false, 0, 0, 0, 0, 0, 0, 0⟩, rg
      [(Reg.PRT_GMODE 12, 0), (Reg.PRT 15 + 8, 1), (Reg.PRT_LINK 15, 8)], ?k1, ?k2, ?k3, ?k4, ?k5⟩ <;> decide +kernel,
    ⟨0, 0, R, by decide +kernel⟩,
    by refine ⟨15, 1, R, ?m1, ?m2, ?m3⟩ <;> decide +kernel,
    by refine ⟨15, { rg [(Reg.PRT_GMODE 12, 0), (Reg.PRT 15 + 8, 1)] with prt := [(15, { pauseTo := some 0 })] }, 0, ?n1, ?n2, ?n3, ?n4⟩
      <;> decide +kernel,
    by refine ⟨15, late [(Reg.PRT_GMODE 12, 0), (Reg.PRT 15 + 8, 1), (Reg.PRT_LINK 15, 0x100)], ?o1, ?o2, ?o3, ?o4⟩ <;> decide +kernel,
    by refine ⟨15,
      { rg [(Reg.PRT_GMODE 12, 0), (Reg.PRT 15 + 8, 1), (Reg.PRT_LINK 15, 0x118), (Reg.PRT_FC_CFG 15, 0xFFFF)] with prt := [(15, { pauseReq := some true })] },
      true, ?p1, ?p2, ?p3, ?p4, ?p5, ?p6⟩ <;> decide +kernel,
    by refine ⟨16, 0, { rg [(prtPage 16 + 8, 1)] with prt := [(16, { tx := some ⟨.esmc, [], none, none⟩ })] }, ⟨.esmc, [], none, none⟩, ?q1, ?q2,
      ?q3, ?q4⟩ <;> decide +kernel,
    ⟨0, [], R, by decide +kernel⟩,
    by refine ⟨15, late [(Reg.PRT_GMODE 12, 0), (Reg.PRT 15 + 8, 1), (Reg.PRT_LINK 15, 0x18), (Reg.PRT_ESMC_CFG 15, 2)], ?s1, ?s2, ?s3, ?s4⟩
      <;> decide +kernel,
    by refine ⟨15,
      { rg [(Reg.PRT_GMODE 12, 0), (Reg.PRT 15 + 8, 1), (Reg.PRT_LINK 15, 0x18), (Reg.PRT_ESMC_CFG 15, 2)] with prt := [(15, { codes := some (16, 0) })] },
      ?t1, ?t2, ?t3, ?t4, ?t5⟩ <;> decide +kernel,
    by refine ⟨15, ⟨[], false, false, 0, 0, 0, 0, 0, 0, 0⟩, rg [(Reg.PRT_LINK 15, 0x2000), (Reg.PRT_CFG 15, 0x10000)], ?u1, ?u2⟩ <;> decide +kernel,
    by refine ⟨15, ⟨[], false, false, 0, 0, 0, 0, 0, 0, 0⟩, rg [(Reg.PRT_GMODE 12, 0), (Reg.PRT 15 + 8, 1), (Reg.PRT_LINK 15, 0)], ?v1, ?v2, ?v3,
      ?v4, ?v5, ?v6⟩ <;> decide +kernel,
    by refine ⟨16, 0, rg [(prtPage 16 + 8, 1)], ?w1, ?w2, ?w3⟩ <;> decide +kernel⟩

theorem test_met_timestamp_units_act :
    (∃ (l : Fin 16) (k : BitVec 64) (b : BT80) (per : DWord) (s : State), Live (Reg.TSU (l.val / 4)) s ∧ Live Reg.TDC s ∧ s.rb Reg.TDC_GCFG 0 =
      true ∧ s.pgEn Reg.TDC = true) ∧
    (∃ (l : Fin 16) (rx : Bool) (s : State), Live (Reg.TSU (l.val / 4)) s ∧ s.elapsed (s.lane l (b2n rx)).visit 10000 = true) ∧
    (∃ (m : Master) (g : Fin 4) (v : Word) (s : State), Reaches m (Reg.TSU_RQ_W g.val 5) s) ∧
    (∃ (r : RsvReq) (s : State) (k : Nat), refuseReq s r none = none ∧ s.pickBoundary r = some k) ∧
    (∃ (r : RsvReq) (s : State) (st : GrantStatus), refuseReq s r none = some st) ∧
    (∃ (m : Master) (g : Fin 4) (v : Word) (s : State) (x : TsuSlot), Reaches m (Reg.TSU_CANCEL g.val) s ∧ s.slot g.val (fld v 0 11) = some x ∧
      s.pastDeadline g.val x = false ∧ x.sub.isSome = true) ∧
    (∃ (p : Fin 17) (d : List Byte) (s : State) (x : TsuSlot), p.val < 16 ∧ Live (Reg.TSU (p.val / 4)) s ∧ s.slot (p.val / 4) (leAt d 16 2 % 2048)
      = some x ∧ x.port = p.val ∧ x.sub = none ∧ s.pastDeadline (p.val / 4) x = false ∧ wireLen (descLen d) ≤ x.len ∧ s.memBad (descBuf d) (descLen
      d) = false) ∧
    (∃ (p : Fin 17) (d : List Byte) (s : State), p.val < 16 ∧ Live (Reg.TSU (p.val / 4)) s ∧ s.slot (p.val / 4) (leAt d 16 2 % 2048) = none ∧
      s.thisCyc.cancelled = []) ∧
    (∃ (g : Fin 4) (h : BitVec 11) (s : State) (x : TsuSlot), Live (Reg.TSU g.val) s ∧ s.slot g.val h.toNat = some x ∧ x.begun = false ∧
      s.pastDeadline g.val x = true ∧ x.bad = false ∧ x.sub = none) ∧
    (∃ (g : Fin 4) (h : BitVec 11) (s : State) (x : TsuSlot), Live (Reg.TSU g.val) s ∧ s.slot g.val h.toNat = some x ∧ x.begun = false ∧ earlier
      s.bt ((s.txAt x.port (x.k - 1) >>> 16) <<< 16) = false ∧ x.bad = false ∧ s.launchCause g.val x = none) ∧
    (∃ (g : Fin 4) (h : BitVec 11) (s : State) (x : TsuSlot) (c : MissCause), Live (Reg.TSU g.val) s ∧ s.slot g.val h.toNat = some x ∧ x.begun =
      false ∧ earlier s.bt ((s.txAt x.port (x.k - 1) >>> 16) <<< 16) = false ∧ x.bad = false ∧ s.launchCause g.val x = some c) ∧
    (∃ (g : Fin 4) (h : BitVec 11) (s : State) (x : TsuSlot) (u : Submission), Live (Reg.TSU g.val) s ∧ s.slot g.val h.toNat = some x ∧ x.sub =
      some u ∧ x.begun = true ∧ u.ts = none ∧ earlier s.bt ((s.txAt x.port (x.k + cdiv ((withFcs u.data).length + 1) 8) >>> 16) <<< 16) = false) ∧
    (∃ (g : Fin 4) (t : BitVec 16) (s : State), Live (Reg.TSU g.val) s) ∧
    (∃ (p : Fin 16) (s : State) (b : BT80), Live (Reg.TSU (p.val / 4)) s ∧ AMap.get none s.tsu.lostAt p.val = some b ∧ s.elapsedMore b 100000 =
      true ∧ s.pgEn (Reg.PRT p.val) = true ∧ s.modelOk p.val 0 = false) ∧
    (∃ (p : Fin 17) (s : State) (i : Nat) (d : List Byte), Acts Reg.SCH s) ∧
    (∃ (m : Master) (g : Fin 4) (v : Word) (s : State) (x : TsuSlot), Reaches m (Reg.TSU_CANCEL g.val) s ∧ s.slot g.val (fld v 0 11) = some x ∧
      s.pastDeadline g.val x = true) :=
  ⟨by refine ⟨0, 0, 0, 0, rg [(Reg.TDC + 8, 1)], ?a1, ?a2, ?a3, ?a4⟩ <;> decide +kernel,
    by refine ⟨15, false, late [], ?b1, ?b2⟩ <;> decide +kernel,
    ⟨.host, 0, 0, R, by decide +kernel⟩,
    by refine ⟨⟨15, false, 64, 0, 0, 0⟩, grantable, 1, ?d1, ?d2⟩ <;> decide +kernel,
    ⟨⟨15, false, 64, 0, 0, 0⟩, R, .frozen, by decide +kernel⟩,
    by refine ⟨.host, 3, 2047, { R with tsu.slots := [(2048 * 3 + 2047, some { someSlot with sub := some ⟨[], none, none⟩ })] },
      { someSlot with sub := some ⟨[], none, none⟩ }, ?f1, ?f2, ?f3, ?f4⟩ <;> decide +kernel,
    by refine ⟨15, List.replicate 6 0 ++ [60, 0] ++ List.replicate 8 0 ++ [0xFF, 0x07], { R with tsu.slots := [(2048 * 3 + 2047, some someSlot)] },
      someSlot, ?g1, ?g2, ?g3, ?g4, ?g5, ?g6, ?g7, ?g8⟩ <;> decide +kernel,
    by refine ⟨0, [], R, ?h1, ?h2, ?h3, ?h4⟩ <;> decide +kernel,
    by refine ⟨3, 2047, { late [] with tsu.slots := [(2048 * 3 + 2047, some someSlot)] }, someSlot, ?i1, ?i2, ?i3, ?i4, ?i5, ?i6⟩
      <;> decide +kernel,
    by refine ⟨3, 2047, launching { someSlot with sub := some ⟨[], none, none⟩, k := 1 }, { someSlot with sub := some ⟨[], none, none⟩, k := 1 },
      ?j1, ?j2, ?j3, ?j4, ?j5, ?j6⟩ <;> decide +kernel,
    by refine ⟨3, 2047, launching someSlot, someSlot, .notReady, ?k1, ?k2, ?k3, ?k4, ?k5, ?k6⟩ <;> decide +kernel,
    by refine ⟨3, 2047, launching { someSlot with sub := some ⟨[], none, none⟩, begun := true },
      { someSlot with sub := some ⟨[], none, none⟩, begun := true }, ⟨[], none, none⟩, ?l1, ?l2, ?l3, ?l4, ?l5, ?l6⟩ <;> decide +kernel,
    ⟨0, 0, R, by decide +kernel⟩,
    by refine ⟨15, { late [(Reg.PRT 15 + 8, 1)] with tsu.lostAt := [(15, some 0)] }, 0, ?n1, ?n2, ?n3, ?n4, ?n5⟩ <;> decide +kernel,
    ⟨0, R, 0, [], by decide +kernel⟩,
    by refine ⟨.host, 3, 2047, { late [] with tsu.slots := [(2048 * 3 + 2047, some someSlot)] }, someSlot, ?p1, ?p2, ?p3⟩ <;> decide +kernel⟩

theorem test_met_threads_are_reached :
    (∃ (m : Master) (e : Fin 512) (t : Fin 4) (s : State), Reaches m (Reg.ENG_TH_CTL e t) s ∧ (s.th (4 * e + t)).st = .halt) ∧
    (∃ (m : Master) (e : Fin 512) (t : Fin 4) (s : State), Reaches m (Reg.ENG_TH_CTL e t) s ∧ (s.th (4 * e + t)).st = .run) ∧
    (∃ (m : Master) (e : Fin 512) (t : Fin 4) (s : State), Reaches m (Reg.ENG_TH_CTL e t) s ∧ (s.th (4 * e + t)).st = .fault) ∧
    (∃ (m : Master) (c : Fin 64) (v : Word) (s : State) (r : LoadRej), Reaches m (Reg.CLU_LOAD_CMD c) s ∧ bit v 0 = true ∧ s.mayLoad m c = true ∧
      s.loadRej c = some r) ∧
    (∃ (m : Master) (c : Fin 64) (v : Word) (s : State), Reaches m (Reg.CLU_LOAD_CMD c) s ∧ bit v 0 = true ∧ s.mayLoad m c = true ∧ s.loadRej c =
      none ∧ c.val ≠ 63) ∧
    (∃ (c : Fin 64) (s : State), Live (Reg.CLU c) s ∧ c.val ≠ 63) ∧
    (∃ (m : Master) (q : BitVec 18) (v : Word) (s : State), queueGate m s = .go ∧ (s.queue q.toNat).en = false) ∧
    (∃ (m : Master) (e : Fin 512) (t : Fin 4) (v : Word) (s : State), Reaches m (Reg.ENG_TH_DOORBELL e t) s) ∧
    (∃ (m : Master) (e : Fin 512) (t : Fin 4) (v : Word) (s : State), Reaches m (Reg.ENG_TH_TMR e t + 8) s) ∧
    (∃ (e : Fin 512) (t : Fin 4) (s : State), Live (Reg.ENG e) s ∧ (s.th (4 * e + t)).tmrArmed = true ∧ atOrAfter s.now (s.th (4 * e + t)).tmr =
      true) ∧
    (∃ (n : BitVec 8) (s : State), Reaches .host (Reg.SEM_N n.toNat) s) ∧
    (∃ (m : Master) (c : Fin 64) (s : State) (w : List Word) (l : List (List Word)), Reads m (Reg.CLU_SMP_D c 0) s ∧ (s.clu c).samples = w :: l) ∧
    (∃ (e : Fin 512) (t : Fin 4) (s : State) (rd : Nat) (v : DWord), s.engRuns e.val = true ∧ (s.th (thKey e t)).st = .wait ∧ (s.th (thKey e
      t)).waiting = .done rd v ∧ ((thDone (thKey e t) rd v s).th (thKey e t)).haltDue = false) ∧
    (∃ (e : Fin 512) (t : Fin 4) (a : DWord) (s : State), s.alive = true ∧ (s.th (thKey e t)).posted.contains a = true ∧ s.held (thKey e t) a =
      false) ∧
    (∃ (m : Master) (n : BitVec 8) (id : Nat) (s : State), Reaches m (Reg.SEM_N n.toNat) s ∧ semId m = some id) ∧
    (∃ (m : Master) (c : Fin 64) (v : Word) (s : State), Reaches m (Reg.CLU_LOAD_CMD c) s ∧ bit v 0 = true ∧ s.mayLoad m c = false) :=
  ⟨by refine ⟨.host, 0, 0, R, ?a1, ?a2⟩ <;> decide +kernel,
    by refine ⟨.host, 511, 3, R.setTh 2047 { st := .run }, ?b1, ?b2⟩ <;> decide +kernel,
    by refine ⟨.host, 511, 3, R.setTh 2047 { st := .fault }, ?c1, ?c2⟩ <;> decide +kernel,
    by refine ⟨.host, 0, 1, R, .format, ?d1, ?d2, ?d3, ?d4⟩ <;> decide +kernel,
    by refine ⟨.host, 0, 1, loadable, ?e1, ?e2, ?e3, ?e4, ?e5⟩ <;> decide +kernel,
    by refine ⟨0, R, ?f1, ?f2⟩ <;> decide +kernel,
    by refine ⟨.host, 0, 0, R, ?g1, ?g2⟩ <;> decide +kernel,
    ⟨.host, 0, 0, 0, R, by decide +kernel⟩,
    ⟨.host, 0, 0, 0, R, by decide +kernel⟩,
    by refine ⟨511, 3, R.setTh 2047 { tmrArmed := true }, ?j1, ?j2, ?j3⟩ <;> decide +kernel,
    ⟨0, R, by decide +kernel⟩,
    by refine ⟨.host, 63, R.setClu 63 { samples := [[]] }, [], [], ?l1, ?l2⟩ <;> decide +kernel,
    by refine ⟨511, 3, running { st := .wait, waiting := .done 31 0 }, 31, 0, ?m1, ?m2, ?m3, ?m4⟩ <;> decide +kernel,
    by refine ⟨511, 3, 0x40000000, R.setTh 2047 { posted := [0x40000000] }, ?n1, ?n2, ?n3⟩ <;> decide +kernel,
    ⟨.host, 0, _, R, by decide +kernel, rfl⟩,
    by refine ⟨.calendar, 0, 1, R, ?p1, ?p2, ?p3⟩ <;> decide +kernel⟩

theorem test_met_integer_results_are_written :
    (∃ (e : Fin 512) (t : Fin 4) (rd : GReg) (ra : GReg) (rb : GReg) (s : State) (s1 : State) (x : DWord) (y : DWord), Issues (thKey e t) false
      [ra, rb] s s1 ∧ (s1.th (thKey e t)).r ra = x ∧ (s1.th (thKey e t)).r rb = y) ∧
    (∃ (e : Fin 512) (t : Fin 4) (rd : GReg) (ra : GReg) (s : State) (s1 : State) (x : DWord), Issues (thKey e t) false [ra] s s1 ∧ (s1.th (thKey e
      t)).r ra = x) ∧
    (∃ (e : Fin 512) (t : Fin 4) (rd : GReg) (ra : GReg) (imm : BitVec 16) (s : State) (s1 : State) (x : DWord), Issues (thKey e t) false [ra] s s1
      ∧ (s1.th (thKey e t)).r ra = x) ∧
    (∃ (e : Fin 512) (t : Fin 4) (rd : GReg) (imm : BitVec 16) (s : State) (s1 : State), Issues (thKey e t) false [] s s1) ∧
    (∃ (e : Fin 512) (t : Fin 4) (rd : GReg) (ra : GReg) (n : Fin 64) (s : State) (s1 : State) (x : DWord), Issues (thKey e t) false [ra] s s1 ∧
      (s1.th (thKey e t)).r ra = x) ∧
    (∃ (e : Fin 512) (t : Fin 4) (rd : GReg) (imm : BitVec 16) (h : BitVec 2) (s : State) (s1 : State) (x : DWord), Issues (thKey e t) false [rd] s
      s1 ∧ (s1.th (thKey e t)).r rd = x) :=
  ⟨⟨511, 3, 0, 0, 0, ready, _, _, _, issues_of (by decide +kernel), rfl, rfl⟩,
    ⟨511, 3, 0, 0, ready, _, _, issues_of (by decide +kernel), rfl⟩,
    ⟨511, 3, 0, 0, 0, ready, _, _, issues_of (by decide +kernel), rfl⟩,
    ⟨511, 3, 0, 0, ready, _, issues_of (by decide +kernel)⟩,
    ⟨511, 3, 0, 0, 0, ready, _, _, issues_of (by decide +kernel), rfl⟩,
    ⟨511, 3, 0, 0, 0, ready, _, _, issues_of (by decide +kernel), rfl⟩⟩

theorem test_met_division_and_bit_counts :
    (∃ (x : DWord) (y : DWord), y ≠ 0) ∧
    (∃ (x : DWord) (y : DWord), y ≠ 0 ∧ ¬ (x = BitVec.intMin 64 ∧ y = BitVec.allOnes 64)) ∧
    (∃ (x : DWord), x ≠ 0) :=
  ⟨⟨0, 0xFFFFFFFFFFFFFFFF, by decide +kernel⟩,
    by refine ⟨0, 0xFFFFFFFFFFFFFFFF, ?h1, ?h2⟩ <;> decide +kernel,
    ⟨1, by decide +kernel⟩⟩

theorem test_met_loads_read_memory :
    (∃ (e : Fin 512) (t : Fin 4) (rd : GReg) (ra : GReg) (imm : BitVec 16) (s : State) (s1 : State) (s2 : State) (v : Nat) (ea : DWord), Issues
      (thKey e t) false [ra] s s1 ∧ (s1.th (thKey e t)).r ra + imm.signExtend 64 = ea ∧ LoadReads (thKey e t) rd.toNat ea 8 false s1 v s2) ∧
    (∃ (e : Fin 512) (t : Fin 4) (rd : GReg) (ra : GReg) (imm : BitVec 16) (s : State) (s1 : State) (s2 : State) (v : Nat) (ea : DWord), Issues
      (thKey e t) false [ra] s s1 ∧ (s1.th (thKey e t)).r ra + imm.signExtend 64 = ea ∧ LoadReads (thKey e t) rd.toNat ea 4 true s1 v s2) ∧
    (∃ (e : Fin 512) (t : Fin 4) (rd : GReg) (ra : GReg) (imm : BitVec 16) (s : State) (s1 : State) (s2 : State) (v : Nat) (ea : DWord), Issues
      (thKey e t) false [ra] s s1 ∧ (s1.th (thKey e t)).r ra + imm.signExtend 64 = ea ∧ LoadReads (thKey e t) rd.toNat ea 4 false s1 v s2) ∧
    (∃ (e : Fin 512) (t : Fin 4) (rd : GReg) (ra : GReg) (imm : BitVec 16) (s : State) (s1 : State) (s2 : State) (v : Nat) (ea : DWord), Issues
      (thKey e t) false [ra] s s1 ∧ (s1.th (thKey e t)).r ra + imm.signExtend 64 = ea ∧ LoadReads (thKey e t) rd.toNat ea 2 true s1 v s2) ∧
    (∃ (e : Fin 512) (t : Fin 4) (rd : GReg) (ra : GReg) (imm : BitVec 16) (s : State) (s1 : State) (s2 : State) (v : Nat) (ea : DWord), Issues
      (thKey e t) false [ra] s s1 ∧ (s1.th (thKey e t)).r ra + imm.signExtend 64 = ea ∧ LoadReads (thKey e t) rd.toNat ea 2 false s1 v s2) ∧
    (∃ (e : Fin 512) (t : Fin 4) (rd : GReg) (ra : GReg) (imm : BitVec 16) (s : State) (s1 : State) (s2 : State) (v : Nat) (ea : DWord), Issues
      (thKey e t) false [ra] s s1 ∧ (s1.th (thKey e t)).r ra + imm.signExtend 64 = ea ∧ LoadReads (thKey e t) rd.toNat ea 1 true s1 v s2) ∧
    (∃ (e : Fin 512) (t : Fin 4) (rd : GReg) (ra : GReg) (imm : BitVec 16) (s : State) (s1 : State) (s2 : State) (v : Nat) (ea : DWord), Issues
      (thKey e t) false [ra] s s1 ∧ (s1.th (thKey e t)).r ra + imm.signExtend 64 = ea ∧ LoadReads (thKey e t) rd.toNat ea 1 false s1 v s2) ∧
    (∃ (e : Fin 512) (t : Fin 4) (rd : GReg) (ra : GReg) (imm : BitVec 16) (s : State) (s1 : State) (ea : DWord) (c : Cause), Issues (thKey e t)
      false [ra] s s1 ∧ (s1.th (thKey e t)).r ra + imm.signExtend 64 = ea ∧ (s1.access (thKey e t) ea.toNat 8 8 false).toOption = none) ∧
    (∃ (e : Fin 512) (t : Fin 4) (rd : GReg) (ra : GReg) (imm : BitVec 16) (s : State) (s1 : State) (ea : DWord) (c : Cause), Issues (thKey e t)
      false [ra] s s1 ∧ (s1.th (thKey e t)).r ra + imm.signExtend 64 = ea ∧ s1.access (thKey e t) ea.toNat 8 8 false = .error c) :=
  ⟨⟨511, 3, 31, 0, 0, ready, _, _, 0, _, issues_of (by decide +kernel), rfl, ⟨.lmem 511 0, okEq (by decide +kernel), .inr ⟨nofun, List.replicate 8
      0, by decide +kernel, tripleEq (by decide +kernel) (by decide +kernel)⟩⟩⟩,
    ⟨511, 3, 31, 0, 0, ready, _, _, 0, _, issues_of (by decide +kernel), rfl, ⟨.lmem 511 0, okEq (by decide +kernel), .inr ⟨nofun, List.replicate 4
      0, by decide +kernel, tripleEq (by decide +kernel) (by decide +kernel)⟩⟩⟩,
    ⟨511, 3, 31, 0, 0, ready, _, _, 0, _, issues_of (by decide +kernel), rfl, ⟨.lmem 511 0, okEq (by decide +kernel), .inr ⟨nofun, List.replicate 4
      0, by decide +kernel, tripleEq (by decide +kernel) (by decide +kernel)⟩⟩⟩,
    ⟨511, 3, 31, 0, 0, ready, _, _, 0, _, issues_of (by decide +kernel), rfl, ⟨.lmem 511 0, okEq (by decide +kernel), .inr ⟨nofun, List.replicate 2
      0, by decide +kernel, tripleEq (by decide +kernel) (by decide +kernel)⟩⟩⟩,
    ⟨511, 3, 31, 0, 0, ready, _, _, 0, _, issues_of (by decide +kernel), rfl, ⟨.lmem 511 0, okEq (by decide +kernel), .inr ⟨nofun, List.replicate 2
      0, by decide +kernel, tripleEq (by decide +kernel) (by decide +kernel)⟩⟩⟩,
    ⟨511, 3, 31, 0, 0, ready, _, _, 0, _, issues_of (by decide +kernel), rfl, ⟨.lmem 511 0, okEq (by decide +kernel), .inr ⟨nofun, List.replicate 1
      0, by decide +kernel, tripleEq (by decide +kernel) (by decide +kernel)⟩⟩⟩,
    ⟨511, 3, 31, 0, 0, ready, _, _, 0, _, issues_of (by decide +kernel), rfl, ⟨.lmem 511 0, okEq (by decide +kernel), .inr ⟨nofun, List.replicate 1
      0, by decide +kernel, tripleEq (by decide +kernel) (by decide +kernel)⟩⟩⟩,
    ⟨511, 3, 0, 0, 1, ready, _, _, .align, issues_of (by decide +kernel), rfl, by decide +kernel⟩,
    ⟨511, 3, 0, 0, 1, ready, _, _, .align, issues_of (by decide +kernel), rfl, rfl⟩⟩

theorem test_met_stores_write_memory :
    (∃ (e : Fin 512) (t : Fin 4) (rs : GReg) (ra : GReg) (imm : BitVec 16) (s : State) (s1 : State) (s2 : State) (ea : DWord), Issues (thKey e t)
      false [rs, ra] s s1 ∧ (s1.th (thKey e t)).r ra + imm.signExtend 64 = ea ∧ StoreWrites (thKey e t) ((s1.th (thKey e t)).r rs) ea 8 s1 s2) ∧
    (∃ (e : Fin 512) (t : Fin 4) (rs : GReg) (ra : GReg) (imm : BitVec 16) (s : State) (s1 : State) (s2 : State) (ea : DWord), Issues (thKey e t)
      false [rs, ra] s s1 ∧ (s1.th (thKey e t)).r ra + imm.signExtend 64 = ea ∧ StoreWrites (thKey e t) ((s1.th (thKey e t)).r rs) ea 4 s1 s2) ∧
    (∃ (e : Fin 512) (t : Fin 4) (rs : GReg) (ra : GReg) (imm : BitVec 16) (s : State) (s1 : State) (s2 : State) (ea : DWord), Issues (thKey e t)
      false [rs, ra] s s1 ∧ (s1.th (thKey e t)).r ra + imm.signExtend 64 = ea ∧ StoreWrites (thKey e t) ((s1.th (thKey e t)).r rs) ea 2 s1 s2) ∧
    (∃ (e : Fin 512) (t : Fin 4) (rs : GReg) (ra : GReg) (imm : BitVec 16) (s : State) (s1 : State) (s2 : State) (ea : DWord), Issues (thKey e t)
      false [rs, ra] s s1 ∧ (s1.th (thKey e t)).r ra + imm.signExtend 64 = ea ∧ StoreWrites (thKey e t) ((s1.th (thKey e t)).r rs) ea 1 s1 s2) ∧
    (∃ (e : Fin 512) (t : Fin 4) (rs : GReg) (ra : GReg) (imm : BitVec 16) (s : State) (s1 : State) (ea : DWord) (c : Cause), Issues (thKey e t)
      false [rs, ra] s s1 ∧ (s1.th (thKey e t)).r ra + imm.signExtend 64 = ea ∧ s1.access (thKey e t) ea.toNat 1 1 true = .error c) ∧
    (∃ (e : Fin 512) (t : Fin 4) (rs : GReg) (ra : GReg) (imm : BitVec 16) (s : State) (s1 : State) (ea : DWord) (g : Target), Issues (thKey e t)
      false [rs, ra] s s1 ∧ (s1.th (thKey e t)).r ra + imm.signExtend 64 = ea ∧ g.isFar = true ∧ 8 ≤ (s1.th (thKey e t)).posted.length ∧ s1.access
      (thKey e t) ea.toNat 8 8 true = .ok g) :=
  ⟨⟨511, 3, 31, 0, 0, ready, _, _, _, issues_of (by decide +kernel), rfl, ⟨.lmem 511 0, okEq (by decide +kernel), by decide +kernel, .inr ⟨nofun,
      pairEq (by decide +kernel)⟩⟩⟩,
    ⟨511, 3, 31, 0, 0, ready, _, _, _, issues_of (by decide +kernel), rfl, ⟨.lmem 511 0, okEq (by decide +kernel), by decide +kernel, .inr ⟨nofun,
      pairEq (by decide +kernel)⟩⟩⟩,
    ⟨511, 3, 31, 0, 0, ready, _, _, _, issues_of (by decide +kernel), rfl, ⟨.lmem 511 0, okEq (by decide +kernel), by decide +kernel, .inr ⟨nofun,
      pairEq (by decide +kernel)⟩⟩⟩,
    ⟨511, 3, 31, 0, 0, ready, _, _, _, issues_of (by decide +kernel), rfl, ⟨.lmem 511 0, okEq (by decide +kernel), by decide +kernel, .inr ⟨nofun,
      pairEq (by decide +kernel)⟩⟩⟩,
    ⟨511, 3, 0, 0, 0x8000, ready, _, _, .access, issues_of (by decide +kernel), rfl, rfl⟩,
    by refine ⟨511, 3, 0, 1, 0, running { st := .run, pc := 0x200000, g := [(1, 0x10000000)], posted := List.replicate 8 0 }, _, _, .sram 0,
      issues_of (by decide +kernel), rfl, ?o1, ?o2, okEq (by decide +kernel)⟩ <;> decide +kernel⟩

theorem test_met_branches_and_jumps :
    (∃ (e : Fin 512) (t : Fin 4) (rx : GReg) (ry : GReg) (off : BitVec 16) (s : State) (s1 : State) (x : DWord) (y : DWord) (g : DWord), Issues
      (thKey e t) false [rx, ry] s s1 ∧ (s1.th (thKey e t)).r rx = x ∧ (s1.th (thKey e t)).r ry = y ∧ (s1.th (thKey e t)).pc + (off.signExtend 64
      <<< 2) = g ∧ g.toNat % 4 = 0) ∧
    (∃ (e : Fin 512) (t : Fin 4) (rd : GReg) (off : BitVec 21) (s : State) (s1 : State) (p : DWord) (g : DWord), Issues (thKey e t) false [] s s1 ∧
      (s1.th (thKey e t)).pc = p ∧ p + (off.signExtend 64 <<< 2) = g ∧ g.toNat % 4 = 0) ∧
    (∃ (e : Fin 512) (t : Fin 4) (rd : GReg) (ra : GReg) (imm : BitVec 16) (s : State) (s1 : State) (p : DWord) (g : DWord), Issues (thKey e t)
      false [ra] s s1 ∧ (s1.th (thKey e t)).pc = p ∧ (s1.th (thKey e t)).r ra + imm.signExtend 64 = g ∧ g.toNat % 4 ≠ 0) ∧
    (∃ (e : Fin 512) (t : Fin 4) (rd : GReg) (ra : GReg) (imm : BitVec 16) (s : State) (s1 : State) (p : DWord) (g : DWord), Issues (thKey e t)
      false [ra] s s1 ∧ (s1.th (thKey e t)).pc = p ∧ (s1.th (thKey e t)).r ra + imm.signExtend 64 = g ∧ g.toNat % 4 = 0) :=
  ⟨⟨511, 3, 0, 0, 0, ready, _, _, _, _, issues_of (by decide +kernel), rfl, rfl, rfl, by decide +kernel⟩,
    ⟨511, 3, 0, 0, ready, _, _, _, issues_of (by decide +kernel), rfl, rfl, by decide +kernel⟩,
    ⟨511, 3, 0, 0, 1, ready, _, _, _, issues_of (by decide +kernel), rfl, rfl, by decide +kernel⟩,
    ⟨511, 3, 0, 0, 0xFFFC, ready, _, _, _, issues_of (by decide +kernel), rfl, rfl, by decide +kernel⟩⟩

theorem test_met_time_instructions_give_times :
    (∃ (e : Fin 512) (t : Fin 4) (pd : GReg) (s : State) (s1 : State), Issues (thKey e t) false [] s s1 ∧ badPair pd = false) ∧
    (∃ (e : Fin 512) (t : Fin 4) (pd : GReg) (pa : GReg) (s : State) (s1 : State) (x : BT80) (y : WT96), Issues (thKey e t) false (pairOf pa) s s1
      ∧ badPair pd = false ∧ badPair pa = false ∧ (s1.th (thKey e t)).bt pa = x ∧ (s1.th (thKey e t)).wt pa = y) ∧
    (∃ (e : Fin 512) (t : Fin 4) (rd : GReg) (pa : GReg) (s : State) (s1 : State) (y : WT96), Issues (thKey e t) false (pairOf pa) s s1 ∧ badPair
      pa = false ∧ (s1.th (thKey e t)).wt pa = y) ∧
    (∃ (e : Fin 512) (t : Fin 4) (rd : GReg) (pa : GReg) (pb : GReg) (s : State) (s1 : State), Issues (thKey e t) false (pairOf pa ++ pairOf pb) s
      s1 ∧ badPair pa = false ∧ badPair pb = false) ∧
    (∃ (e : Fin 512) (t : Fin 4) (pd : GReg) (pa : GReg) (rb : GReg) (s : State) (s1 : State), Issues (thKey e t) false (pairOf pa ++ [rb]) s s1 ∧
      badPair pd = false ∧ badPair pa = false) ∧
    (∃ (e : Fin 512) (t : Fin 4) (pd : GReg) (pa : GReg) (s : State) (s1 : State), s.canIssue (thKey e t) = true ∧ (s.th (thKey e t)).postErr =
      none ∧ fetchAt (thKey e t) s = (true, s1) ∧ (badPair pd = true ∨ badPair pa = true)) :=
  ⟨⟨511, 3, 30, ready, _, issues_of (by decide +kernel), by decide +kernel⟩,
    by refine ⟨511, 3, 30, 2, ready, _, _, _, issues_of (by decide +kernel), ?b1, ?b2, rfl, rfl⟩ <;> decide +kernel,
    ⟨511, 3, 0, 30, ready, _, _, issues_of (by decide +kernel), by decide +kernel, rfl⟩,
    by refine ⟨511, 3, 0, 30, 2, ready, _, issues_of (by decide +kernel), ?d1, ?d2⟩ <;> decide +kernel,
    by refine ⟨511, 3, 30, 30, 31, ready, _, issues_of (by decide +kernel), ?e1, ?e2⟩ <;> decide +kernel,
    by refine ⟨511, 3, 0, 0, ready, _, ?f1, ?f2, Prod.ext (by decide +kernel) rfl, ?f3⟩ <;> decide +kernel⟩

theorem test_met_evaluations_and_reservations :
    (∃ (e : Fin 512) (t : Fin 4) (rd : GReg) (ra : GReg) (rb : GReg) (s : State) (s1 : State) (s2 : State) (a : DWord) (b : DWord) (g : Target) (h
      : Target) (q : List Byte), Issues (thKey e t) false [ra, rb] s s1 ∧ (s1.th (thKey e t)).r ra = a ∧ (s1.th (thKey e t)).r rb = b ∧ s1.access
      (thKey e t) a.toNat 16 8 false = .ok g ∧ s1.access (thKey e t) b.toNat 32 8 true = .ok h ∧ readRequest (thKey e t) a 16 g s1 = (some q, s2) ∧
      ¬ (16 ≤ leAt q 10 1 ∧ leAt q 10 1 ≤ 254)) ∧
    (∃ (e : Fin 512) (t : Fin 4) (rd : GReg) (ra : GReg) (rb : GReg) (s : State) (s1 : State) (s2 : State) (s3 : State) (s4 : State) (a : DWord) (b
      : DWord) (g : Target) (h : Target) (q : List Byte) (r : RsvReq) (gr : Grant), Issues (thKey e t) false [ra, rb] s s1 ∧ (s1.th (thKey e t)).r
      ra = a ∧ (s1.th (thKey e t)).r rb = b ∧ s1.access (thKey e t) a.toNat 24 8 false = .ok g ∧ s1.access (thKey e t) b.toNat 28 8 true = .ok h ∧
      readRequest (thKey e t) a 24 g s1 = (some q, s2) ∧ rsvReq q = r ∧ s2.pageStopped .tsu (r.port / 4) = false ∧ s2.backed (masterOf (thKey e t))
      (Reg.TSU_RQ_W (r.port / 4) 5) = false ∧ reserve r none s2 = (gr, s3) ∧ memWrite (thKey e t / 32) h (gr.words.flatMap (fun w => bytesLE 4
      w.toNat)) s3 = (.ok, s4)) ∧
    (∃ (e : Fin 512) (t : Fin 4) (ra : GReg) (s : State) (s1 : State) (v : DWord), Issues (thKey e t) false [ra] s s1 ∧ (s1.th (thKey e t)).r ra =
      v ∧ s1.pageLive (Reg.TSU (fld v 16 2)) = true) ∧
    (∃ (e : Fin 512) (t : Fin 4) (pa : GReg) (s : State) (s1 : State), Issues (thKey e t) false (pairOf pa) s s1 ∧ badPair pa = false ∧ (s1.th
      (thKey e t)).tmrArmed = false) :=
  ⟨⟨511, 3, 0, 0, 0, ready, _, _, _, _, .lmem 511 0, .lmem 511 0, _, issues_of (by decide +kernel), rfl, rfl, okEq (by decide +kernel), okEq
      (by decide +kernel), rfl, by decide +kernel⟩,
    by refine ⟨511, 3, 0, 0, 0, ready, _, _, _, _, _, _, .lmem 511 0, .lmem 511 0, _, _, _, issues_of (by decide +kernel), rfl, rfl, okEq
      (by decide +kernel), okEq (by decide +kernel), rfl, rfl, ?h1, ?h2, rfl, rfl⟩ <;> decide +kernel,
    ⟨511, 3, 0, ready, _, _, issues_of (by decide +kernel), rfl, by decide +kernel⟩,
    by refine ⟨511, 3, 30, ready, _, issues_of (by decide +kernel), ?j1, ?j2⟩ <;> decide +kernel⟩

theorem test_met_queue_instructions_run :
    (∃ (e : Fin 512) (t : Fin 4) (rd : GReg) (ra : GReg) (rb : GReg) (s : State) (s1 : State) (n : Nat) (a : DWord) (g : Target), Issues (thKey e
      t) false [ra, rb] s s1 ∧ queueOf ((s1.th (thKey e t)).r ra) = n ∧ (s1.th (thKey e t)).r rb = a ∧ (s1.th (thKey e t)).posted = [] ∧ queueCheck
      (thKey e t) n a false s1 = .ok g ∧ (s1.queue n).en = true ∧ ¬ (s1.queue n).cap ≤ (s1.queue n).depth) ∧
    (∃ (e : Fin 512) (t : Fin 4) (rd : GReg) (ra : GReg) (rb : GReg) (s : State) (s1 : State) (n : Nat) (a : DWord) (g : Target), Issues (thKey e
      t) false [ra, rb] s s1 ∧ queueOf ((s1.th (thKey e t)).r ra) = n ∧ (s1.th (thKey e t)).r rb = a ∧ (s1.th (thKey e t)).posted = [] ∧ queueCheck
      (thKey e t) n a false s1 = .ok g ∧ (s1.queue n).en = false) ∧
    (∃ (e : Fin 512) (t : Fin 4) (rd : GReg) (ra : GReg) (rb : GReg) (s : State) (s1 : State) (n : Nat) (a : DWord) (g : Target), Issues (thKey e
      t) false [ra, rb] s s1 ∧ queueOf ((s1.th (thKey e t)).r ra) = n ∧ (s1.th (thKey e t)).r rb = a ∧ queueCheck (thKey e t) n a true s1 = .ok g ∧
      (s1.queue n).en = true ∧ (s1.queue n).depth = 0) ∧
    (∃ (e : Fin 512) (t : Fin 4) (rd : GReg) (ra : GReg) (s : State) (s1 : State) (n : Nat), Issues (thKey e t) false [ra] s s1 ∧ queueOf ((s1.th
      (thKey e t)).r ra) = n ∧ (((s1.th (thKey e t)).user = false ∨ (s1.queue n).user = true))) :=
  ⟨by refine ⟨511, 3, 0, 0, 0, queued, _, _, _, .lmem 511 0, issues_of (by decide +kernel), rfl, rfl, ?a1, okEq (by decide +kernel), ?a2, ?a3⟩
      <;> decide +kernel,
    by refine ⟨511, 3, 0, 0, 0, ready, _, _, _, .lmem 511 0, issues_of (by decide +kernel), rfl, rfl, ?b1, okEq (by decide +kernel), ?b2⟩
      <;> decide +kernel,
    by refine ⟨511, 3, 0, 0, 0, queued, _, _, _, .lmem 511 0, issues_of (by decide +kernel), rfl, rfl, okEq (by decide +kernel), ?c1, ?c2⟩
      <;> decide +kernel,
    ⟨511, 3, 0, 0, ready, _, _, issues_of (by decide +kernel), rfl, by decide +kernel⟩⟩

theorem test_met_events_and_semaphores_run :
    (∃ (e : Fin 512) (t : Fin 4) (rd : GReg) (s : State) (s1 : State), Issues (thKey e t) false [] s s1 ∧ (s1.th (thKey e t)).fifo = []) ∧
    (∃ (e : Fin 512) (t : Fin 4) (ra : GReg) (rb : GReg) (s : State) (s1 : State) (x : DWord) (y : DWord) (d : Nat), Issues (thKey e t) true
      [ra, rb] s s1 ∧ (s1.th (thKey e t)).posted = [] ∧ (s1.th (thKey e t)).r ra = x ∧ (s1.th (thKey e t)).r rb = y ∧ 8 * (thKey e t / 32) + fld x
      2 3 = d ∧ (next (thKey e t) s1).engEn d = true ∧ (next (thKey e t) s1).engRst d = false) ∧
    (∃ (e : Fin 512) (t : Fin 4) (rd : GReg) (ra : GReg) (s : State) (s1 : State) (b : Nat), Issues (thKey e t) false [ra] s s1 ∧ fld ((s1.th
      (thKey e t)).r ra) 0 4 = b ∧ s1.barMember b (thKey e t) = false) ∧
    (∃ (e : Fin 512) (t : Fin 4) (ra : GReg) (rb : GReg) (s : State) (s1 : State) (b : Nat), Issues (thKey e t) true [ra, rb] s s1 ∧ (s1.th (thKey
      e t)).posted = [] ∧ fld ((s.th (thKey e t)).r ra) 0 4 = b ∧ s.barMember b (thKey e t) = true) ∧
    (∃ (e : Fin 512) (t : Fin 4) (rd : GReg) (ra : GReg) (s : State) (s1 : State) (n : Nat), Issues (thKey e t) false [ra] s s1 ∧ fld ((s1.th
      (thKey e t)).r ra) 0 8 = n ∧ s1.fltBit Reg.SEM 0 = false ∧ (s1.sem n).owner = none) ∧
    (∃ (e : Fin 512) (t : Fin 4) (rd : GReg) (ra : GReg) (s : State) (s1 : State) (n : Nat) (j : Nat), Issues (thKey e t) false [ra] s s1 ∧ fld
      ((s1.th (thKey e t)).r ra) 0 8 = n ∧ s1.fltBit Reg.SEM 0 = false ∧ (s1.sem n).owner = some j ∧ j ≠ thKey e t) ∧
    (∃ (e : Fin 512) (t : Fin 4) (rd : GReg) (ra : GReg) (s : State) (s1 : State) (n : Nat), Issues (thKey e t) false [ra] s s1 ∧ (s1.th (thKey e
      t)).posted = [] ∧ fld ((s1.th (thKey e t)).r ra) 0 8 = n ∧ (s1.sem n).owner = some (thKey e t)) ∧
    (∃ (e : Fin 512) (t : Fin 4) (rd : GReg) (ra : GReg) (s : State) (s1 : State) (s2 : State) (s3 : State) (a : DWord) (g : Target) (l : List
      Byte) (n : Nat), Issues (thKey e t) false [ra] s s1 ∧ (s1.th (thKey e t)).posted = [] ∧ (s1.th (thKey e t)).r ra = a ∧ s1.access (thKey e t)
      a.toNat 32 32 false = .ok g ∧ (s1.th (thKey e t)).tickets.length < 8 ∧ memRead (thKey e t / 32) 32 g s1 = (.ok, l, s2) ∧ cryTake (thKey e t)
      l s2 = (n, s3)) ∧
    (∃ (e : Fin 512) (t : Fin 4) (rd : GReg) (ra : GReg) (s : State) (s1 : State) (n : Nat), Issues (thKey e t) false [ra] s s1 ∧ fld ((s1.th
      (thKey e t)).r ra) 0 16 = n ∧ (s1.th (thKey e t)).tickets.find? (fun y => decide (y.num = n)) = none) ∧
    (∃ (e : Fin 512) (t : Fin 4) (ra : GReg) (s : State) (s1 : State), Issues (thKey e t) false [ra] s s1) ∧
    (∃ (e : Fin 512) (t : Fin 4) (s : State) (s1 : State), Issues (thKey e t) false [] s s1) ∧
    (∃ (x : Sem) (b : BT80) (k : Nat), x.lastAt ≠ b) :=
  ⟨⟨511, 3, 0, ready, _, issues_of (by decide +kernel), by decide +kernel⟩,
    by refine ⟨511, 3, 1, 0, readyWith [(1, 0x1C)], _, _, _, _, issues_of (by decide +kernel), ?f1, rfl, rfl, rfl, ?f2, ?f3⟩ <;> decide +kernel,
    ⟨511, 3, 0, 0, ready, _, _, issues_of (by decide +kernel), rfl, by decide +kernel⟩,
    by refine ⟨511, 3, 0, 0, ({ ready with regs := (Reg.ENG_TH_BAR 511 3, 1) :: ready.regs }), _, _, issues_of (by decide +kernel), ?h1, rfl, ?h2⟩
      <;> decide +kernel,
    by refine ⟨511, 3, 0, 0, ready, _, _, issues_of (by decide +kernel), rfl, ?i1, ?i2⟩ <;> decide +kernel,
    by refine ⟨511, 3, 0, 0, ready.setSem 0 { owner := some 1 }, _, _, 1, issues_of (by decide +kernel), rfl, ?j1, ?j2, ?j3⟩ <;> decide +kernel,
    by refine ⟨511, 3, 0, 0, ready.setSem 0 { owner := some 2047 }, _, _, issues_of (by decide +kernel), ?k1, rfl, ?k2⟩ <;> decide +kernel,
    by refine ⟨511, 3, 0, 0, ready, _, _, _, _, .lmem 511 0, List.replicate 32 0, _, issues_of (by decide +kernel), ?l1, rfl, okEq
      (by decide +kernel), ?l2, tripleEq (by decide +kernel) (by decide +kernel), rfl⟩ <;> decide +kernel,
    ⟨511, 3, 0, 0, ready, _, _, issues_of (by decide +kernel), rfl, by decide +kernel⟩,
    ⟨511, 3, 0, ready, _, issues_of (by decide +kernel)⟩,
    ⟨511, 3, ready, _, issues_of (by decide +kernel)⟩,
    ⟨{}, 1, 0, by decide +kernel⟩⟩

theorem test_met_exceptions_are_taken :
    (∃ (k : Nat) (c : Cause) (bad : Option DWord) (s : State) (s1 : State) (t : Thread), pmuUnit (k / 4) 0x27 (k % 4) (s.th k).user s = s1 ∧ t =
      { s1.th k with epc := if c = .sysCall then (s.th k).pc + 4 else (s.th k).pc, cause := BitVec.ofNat 4 c.code, badaddr := bad.getD (s.th k).badaddr }
      ∧ (s.th k).user = true) ∧
    (∃ (k : Nat) (c : Cause) (bad : Option DWord) (s : State) (s1 : State) (t : Thread), pmuUnit (k / 4) 0x27 (k % 4) (s.th k).user s = s1 ∧ t =
      { s1.th k with epc := if c = .sysCall then (s.th k).pc + 4 else (s.th k).pc, cause := BitVec.ofNat 4 c.code, badaddr := bad.getD (s.th k).badaddr }
      ∧ (s.th k).user = false ∧ c = .breakPoint) ∧
    (∃ (k : Nat) (c : Cause) (bad : Option DWord) (s : State) (s1 : State) (t : Thread), pmuUnit (k / 4) 0x27 (k % 4) (s.th k).user s = s1 ∧ t =
      { s1.th k with epc := if c = .sysCall then (s.th k).pc + 4 else (s.th k).pc, cause := BitVec.ofNat 4 c.code, badaddr := bad.getD (s.th k).badaddr }
      ∧ (s.th k).user = false ∧ c ≠ .breakPoint) :=
  ⟨⟨2047, .sysCall, none, running { st := .run, user := true }, _, _, rfl, rfl, by decide +kernel⟩,
    by refine ⟨2047, .breakPoint, none, running { st := .run }, _, _, rfl, rfl, ?b1, ?b2⟩ <;> decide +kernel,
    by refine ⟨2047, .sysCall, none, running { st := .run }, _, _, rfl, rfl, ?c1, ?c2⟩ <;> decide +kernel⟩

theorem test_met_exceptions_come_in_order :
    (∃ (e : Fin 512) (t : Fin 4) (rd : GReg) (ra : GReg) (rb : GReg) (a : DWord) (s : State), s.canIssue (thKey e t) = true ∧ (s.th (thKey e
      t)).postErr = some a) ∧
    (∃ (e : Fin 512) (t : Fin 4) (rd : GReg) (ra : GReg) (rb : GReg) (s : State) (s1 : State), s.canIssue (thKey e t) = true ∧ (s.th (thKey e
      t)).postErr = none ∧ fetchAt (thKey e t) s = (false, s1)) ∧
    (∃ (e : Fin 512) (t : Fin 4) (w : Word) (s : State) (s1 : State), s.canIssue (thKey e t) = true ∧ (s.th (thKey e t)).postErr = none ∧ fetchAt
      (thKey e t) s = (true, s1) ∧ listedWord w = false) ∧
    (∃ (e : Fin 512) (t : Fin 4) (ra : GReg) (rb : GReg) (s : State) (s1 : State), s.canIssue (thKey e t) = true ∧ (s.th (thKey e t)).postErr =
      none ∧ fetchAt (thKey e t) s = (true, s1) ∧ (s1.th (thKey e t)).user = true) ∧
    (∃ (e : Fin 512) (t : Fin 4) (rd : GReg) (ra : GReg) (rb : GReg) (s : State) (s1 : State), s.canIssue (thKey e t) = true ∧ (s.th (thKey e
      t)).postErr = none ∧ fetchAt (thKey e t) s = (true, s1) ∧ s1.rgBad (thKey e t) ra.toNat = true) ∧
    (∃ (e : Fin 512) (t : Fin 4) (rd : GReg) (ra : GReg) (rb : GReg) (s : State), s.canIssue (thKey e t) = false) :=
  ⟨by refine ⟨511, 3, 0, 0, 0, 0x40000000, running { st := .run, pc := 0x200000, postErr := some 0x40000000 }, ?d1, ?d2⟩ <;> decide +kernel,
    by refine ⟨511, 3, 0, 0, 0, running { st := .run, pc := 1 }, _, ?e1, ?e2, Prod.ext (by decide +kernel) rfl⟩ <;> decide +kernel,
    by refine ⟨511, 3, 0xFFFFFFFF, ready, _, ?f1, ?f2, Prod.ext (by decide +kernel) rfl, ?f3⟩ <;> decide +kernel,
    by refine ⟨511, 3, 0, 0, { running { st := .run, pc := 0x200000, user := true } with regs := (Reg.CLU_IMEM_SPLIT 63, 0) :: ready.regs }, _,
      ?g1, ?g2, Prod.ext (by decide +kernel) rfl, ?g3⟩ <;> decide +kernel,
    by refine ⟨511, 3, 0, 31, 0, { ready with badWords := [(rgKey 2047 31, true)] }, _, ?h1, ?h2, Prod.ext (by decide +kernel) rfl, ?h3⟩
      <;> decide +kernel,
    ⟨511, 3, 0, 0, 0, R, by decide +kernel⟩⟩

theorem test_met_system_instructions_run :
    (∃ (e : Fin 512) (t : Fin 4) (s : State) (s1 : State), Issues (thKey e t) false [] s s1 ∧ (s.th (thKey e t)).user = false) ∧
    (∃ (e : Fin 512) (t : Fin 4) (s : State) (s1 : State) (s2 : State), Issues (thKey e t) true [] s s1 ∧ finish (thKey e t) (s1.th (thKey e
      t)).epc s1 = s2) ∧
    (∃ (e : Fin 512) (t : Fin 4) (rd : GReg) (s : State) (s1 : State), Issues (thKey e t) true [] s s1) ∧
    (∃ (e : Fin 512) (t : Fin 4) (ra : GReg) (s : State) (s1 : State) (v : DWord), Issues (thKey e t) true [ra] s s1 ∧ (s1.th (thKey e t)).r ra =
      v) ∧
    (∃ (e : Fin 512) (t : Fin 4) (rd : GReg) (ra : GReg) (s : State) (s1 : State) (c : Nat), Issues (thKey e t) false [ra] s s1 ∧ (s1.th (thKey e
      t)).user = false ∧ pmrdKey (thKey e t) (fld ((s1.th (thKey e t)).r ra) 0 7) = some c) ∧
    (∃ (e : Fin 512) (t : Fin 4) (w : Word) (s : State) (s1 : State), s.canIssue (thKey e t) = true ∧ (s.th (thKey e t)).postErr = none ∧ fetchAt
      (thKey e t) s = (true, s1) ∧ listedWord w = false) :=
  ⟨⟨511, 3, ready, _, issues_of (by decide +kernel), by decide +kernel⟩,
    ⟨511, 3, ready, _, _, issues_of (by decide +kernel), rfl⟩,
    ⟨511, 3, 0, ready, _, issues_of (by decide +kernel)⟩,
    ⟨511, 3, 0, ready, _, _, issues_of (by decide +kernel), rfl⟩,
    ⟨511, 3, 0, 0, ready, _, _, issues_of (by decide +kernel), by decide +kernel, rfl⟩,
    by refine ⟨511, 3, 0xFFFFFFFF, ready, _, ?o1, ?o2, Prod.ext (by decide +kernel) rfl, ?o3⟩ <;> decide +kernel⟩

theorem test_met_integer_instructions_frame :
    (∃ (e : Fin 512) (t : Fin 4) (rd : GReg) (ra : GReg) (rb : GReg) (imm : BitVec 16) (h : BitVec 2) (s : State) (s1 : State) (i : Instr), Issues
      (thKey e t) false [ra, rb, rd] s s1 ∧ s1.pmuOn = false ∧ s1.samples (thKey e t / 4) = false ∧ s1.asy.ts = s.asy.ts ∧ s1.regs = s.regs ∧
      s1.dpl = s.dpl ∧ i ∈
      [.add e t rd ra rb, .sub e t rd ra rb, .andOp e t rd ra rb, .orOp e t rd ra rb, .xorOp e t rd ra rb, .sll e t rd ra rb, .srl e t rd ra rb, .sra e t rd ra rb, .slt e t rd ra rb, .sltu e t rd ra rb, .mul e t rd ra rb, .mulh e t rd ra rb, .mulhu e t rd ra rb, .div e t rd ra rb, .divu e t rd ra rb, .rem e t rd ra rb, .remu e t rd ra rb, .clz e t rd ra, .popc e t rd ra, .bswap e t rd ra, .bswap32 e t rd ra, .bswap16 e t rd ra, .addi e t rd ra imm, .slti e t rd ra imm, .sltiu e t rd ra imm, .andi e t rd ra imm, .ori e t rd ra imm, .xori e t rd ra imm, .lui e t rd imm, .shi e t rd ra (imm % 256), .insh e t rd imm h]) :=
  by refine ⟨511, 3, 0, 0, 0, 0, 0, ready, _, .insh 511 3 0 0 0, issues_of (by decide +kernel), ?a1, ?a2, ?a3, ?a4, ?a5, ?a6⟩ <;> decide +kernel

theorem test_met_stores_frame :
    (∃ (e : Fin 512) (t : Fin 4) (rs : GReg) (ra : GReg) (imm : BitVec 16) (s : State) (s1 : State) (s2 : State) (ea : DWord) (i : Instr) (n : Nat)
      (g : Target), Issues (thKey e t) false [rs, ra] s s1 ∧ s1.pmuOn = false ∧ s1.samples (thKey e t / 4) = false ∧ (s1.th (thKey e t)).r ra +
      imm.signExtend 64 = ea ∧ s1.access (thKey e t) ea.toNat n n true = .ok g ∧ (i, n) ∈
      [(.sd e t rs ra imm, 8), (.sw e t rs ra imm, 4), (.sh e t rs ra imm, 2), (.sb e t rs ra imm, 1)] ∧ StoreWrites (thKey e t) ((s1.th (thKey e
      t)).r rs) ea n s1 s2) :=
  by refine ⟨511, 3, 0, 0, 0, ready, _, _, _, .sd 511 3 0 0 0, 8, .lmem 511 0, issues_of (by decide +kernel), ?b1, ?b2, rfl, okEq
      (by decide +kernel), List.mem_cons_self, ⟨.lmem 511 0, okEq (by decide +kernel), by decide +kernel, .inr ⟨nofun, pairEq
      (by decide +kernel)⟩⟩⟩ <;> decide +kernel

theorem test_met_queues_give_back_elements :
    (∃ (n : Nat) (l : List Byte) (r : List Byte) (w : Option Nat) (s : State) (s1 : State) (s2 : State), (s.queue n).depth = 0 ∧ l.length =
      (s.queue n).size ∧ ((inSram ((s.queue n).slot (s.queue n).tail) l.length = true ∨ inDram ((s.queue n).slot (s.queue n).tail) l.length =
      true)) ∧ queuePush n l s = (.ok, w, s1) ∧ queuePop n s1 = (.ok, r, s2)) ∧
    (∃ (n : Nat) (m : Nat) (l : List Byte) (r : List Byte) (st : QStatus) (w : Option Nat) (s : State) (s1 : State) (s2 : State), n ≠ m ∧ queuePush
      n l s = (st, w, s1) ∧ queuePop n s = (st, r, s2)) ∧
    (∃ (n : Nat) (l : List Byte) (s : State), (s.queue n).en = true) ∧
    (∃ (n : Nat) (s : State), (s.queue n).en = true) :=
  ⟨by refine ⟨0, List.replicate 16 1, List.replicate 16 1, none, queued, _, _, ?c1, ?c2, ?c3, tripleEq (by decide +kernel) (by decide +kernel),
      tripleEq (by decide +kernel) (by decide +kernel)⟩ <;> decide +kernel,
    ⟨1, 0, [], [], .disabled, none, queued, _, _, by decide +kernel, tripleEq (by decide +kernel) (by decide +kernel), tripleEq (by decide +kernel)
      (by decide +kernel)⟩,
    ⟨0, [], queued, by decide +kernel⟩,
    ⟨0, queued, by decide +kernel⟩⟩

theorem test_met_cache_and_ntp_serve :
    (∃ (s : State) (s1 : State) (s2 : State) (b : List Byte), Acts Reg.QRY s ∧ s.svc.seeds = none ∧ earlier s.bt s.svc.seedTry = false ∧ drbg 16 s
      = (some b, s1) ∧ raiseEvt Reg.QRY 3
      ({ s1 with svc := { s1.svc with seeds := some (BitVec.ofNat 64 (beAt b 0 8), BitVec.ofNat 64 (beAt b 8 8)) } }.setRb Reg.QRY_STAT 2 true) =
      s2) ∧
    (∃ (m : Master) (v : Word) (s : State), Reaches m Reg.QRY_CMD s ∧ bit v 0 = true ∧ bit v 1 = false ∧ bit v 2 = false) ∧
    (∃ (b : BT80) (s : State) (s1 : State), Acts Reg.QRY s ∧ s.svc.flushAt = some b ∧ s.svc.cache.foldl (fun a e => writeBack e.1 a) s = s1) ∧
    (∃ (m : Master) (v : Word) (s : State), Reaches m Reg.QRY_CMD s ∧ bit v 0 = false ∧ s.pgEn Reg.QRY = false ∧ bit v 1 = true ∧ bit v 2 = false) ∧
    (∃ (m : Master) (v : Word) (s : State), Reaches m Reg.QRY_CMD s ∧ bit v 0 = false ∧ s.pgEn Reg.QRY = false ∧ bit v 1 = false ∧ bit v 2 = true) ∧
    (∃ (b : BT80) (re : Bool) (s : State) (s1 : State) (s2 : State), Acts Reg.QRY s ∧ s.svc.clearAt = some (b, re) ∧ zeroTable (dropCache s) = s1 ∧
      raiseEvt Reg.QRY 1 ({ s1 with svc := { s1.svc with clearAt := none } }.setRb Reg.QRY_STAT 1 false) = s2) ∧
    (∃ (p : Fin 16) (cl : Fin 63) (rx : BT80) (d : List Byte) (s : State) (s1 : State) (r : Req), Acts Reg.QRY s ∧ s.request p cl rx d = r ∧ takeRx
      2 r d s = s1 ∧ s1.servesAt (r.at_ s1) = false) ∧
    (∃ (p : Fin 16) (cl : Fin 63) (rx : BT80) (d : List Byte) (s : State) (s1 : State) (r : Req), Acts Reg.QRY s ∧ s.request p cl rx d = r ∧ takeRx
      2 r d s = s1 ∧ s1.servesAt (r.at_ s1) = true ∧ ((beAt r.pay 0 1 % 8 = 6 ∨ beAt r.pay 0 1 % 8 = 7))) ∧
    (∃ (p : Fin 16) (cl : Fin 63) (rx : BT80) (d : List Byte) (s : State) (s1 : State) (r : Req) (efs : List Ef), Acts Reg.QRY s ∧ s.request p cl
      rx d = r ∧ takeRx 2 r d s = s1 ∧ s1.servesAt (r.at_ s1) = true ∧ ((beAt r.pay 0 1 % 8 = 3 ∨ beAt r.pay 0 1 % 8 = 1)) ∧ ((beAt r.pay 0 1 / 8 %
      8 = 3 ∨ beAt r.pay 0 1 / 8 % 8 = 4)) ∧ 48 ≤ r.pay.length ∧ parseEfs r.pay (r.pay.length + 1) 48 = some efs ∧ (∀ x, s1.recReq efs = some x →
      12 ≤ x.len) ∧ efs.any (fun x => ntsTypes.contains x.typ) = false) ∧
    (∃ (p : Fin 16) (cl : Fin 63) (rx : BT80) (d : List Byte) (s : State) (s1 : State) (r : Req) (efs : List Ef), Acts Reg.QRY s ∧ s.request p cl
      rx d = r ∧ takeRx 2 r d s = s1 ∧ s1.servesAt (r.at_ s1) = true ∧ ((beAt r.pay 0 1 % 8 = 3 ∨ beAt r.pay 0 1 % 8 = 1)) ∧ ((beAt r.pay 0 1 / 8 %
      8 = 3 ∨ beAt r.pay 0 1 / 8 % 8 = 4)) ∧ 48 ≤ r.pay.length ∧ parseEfs r.pay (r.pay.length + 1) 48 = some efs ∧ (∀ x, s1.recReq efs = some x →
      12 ≤ x.len) ∧ efs.any (fun x => ntsTypes.contains x.typ) = true) ∧
    (∃ (p : Fin 16) (cl : Fin 63) (rx : BT80) (d : List Byte) (s : State) (s1 : State) (r : Req), Acts Reg.QRY s ∧ s.request p cl rx d = r ∧ takeRx
      3 r d s = s1 ∧ s1.servesAt (r.at_ s1) = true ∧ r.h.etype = 0x0806 ∧ beAt r.f (r.h.l3 + 2) 2 = 0x0800 ∧ beAt r.f r.h.l3 2 = 1 ∧ beAt r.f
      (r.h.l3 + 6) 2 = 1 ∧ s1.svcFor p r.h.vid 4 (sliceB r.f (r.h.l3 + 24) 4) = true) ∧
    (∃ (p : Fin 16) (cl : Fin 63) (rx : BT80) (d : List Byte) (s : State) (s1 : State) (r : Req), Acts Reg.QRY s ∧ s.request p cl rx d = r ∧ takeRx
      3 r d s = s1 ∧ s1.servesAt (r.at_ s1) = true ∧ r.h.etype ≠ 0x0806 ∧ r.n.v = 6 ∧ r.n.proto = 58 ∧ beAt r.f r.n.l4 1 = 135 ∧ s1.svcFor p
      r.h.vid 6 (sliceB r.f (r.n.l4 + 8) 16) = true) :=
  ⟨by refine ⟨(R.setReg Reg.TRN_STAT 0), _, _, (bytesLE 16 R.freeVal), ?a1, ?a2, ?a3, pairEq (drbg_gives (by decide +kernel) (by decide +kernel)),
      rfl⟩ <;> decide +kernel,
    by refine ⟨.host, 1, R, ?b1, ?b2, ?b3, ?b4⟩ <;> decide +kernel,
    by refine ⟨0, { R with svc := { R.svc with flushAt := some 0 } }, _, ?c1, ?c2, rfl⟩ <;> decide +kernel,
    by refine ⟨.host, 2, R, ?d1, ?d2, ?d3, ?d4, ?d5⟩ <;> decide +kernel,
    by refine ⟨.host, 4, R, ?e1, ?e2, ?e3, ?e4, ?e5⟩ <;> decide +kernel,
    by refine ⟨0, false, { R with svc := { R.svc with clearAt := some (0, false) } }, _, _, ?f1, ?f2, rfl, rfl⟩ <;> decide +kernel,
    by refine ⟨0, 0, 0, udpFrame (0x23 :: List.replicate 47 0), rg [(Reg.MATE_STAT, 2)], _, _, ?g1, rfl, rfl, ?g2⟩ <;> decide +kernel,
    by refine ⟨0, 0, 0, udpFrame (0x26 :: List.replicate 47 0), R, _, _, ?h1, rfl, rfl, ?h2, ?h3⟩ <;> decide +kernel,
    by refine ⟨0, 0, 0, udpFrame (0x23 :: List.replicate 47 0), R, _, _, [], ?i1, rfl, rfl, ?i2, ?i3, ?i4, ?i5, ?i6, nofun, ?i7⟩ <;> decide +kernel,
    by refine ⟨0, 0, 0, udpFrame (0x23 :: List.replicate 47 0 ++ [1, 4, 0, 16] ++ List.replicate 12 0), R, _, _,
      [{ typ := 0x104, off := 48, len := 16 }], ?j1, rfl, rfl, ?j2, ?j3, ?j4, ?j5, ?j6, nofun, ?j7⟩ <;> decide +kernel,
    by refine ⟨0, 0, 0, List.replicate 12 0 ++ [8, 6, 0, 1, 8, 0, 6, 4, 0, 1] ++ List.replicate 24 0, rg [(Reg.QRY_SVC_CTL 0, 0x16000)], _, _, ?k1,
      rfl, rfl, ?k2, ?k3, ?k4, ?k5, ?k6, ?k7⟩ <;> decide +kernel,
    by refine ⟨0, 0, 0, List.replicate 12 0 ++ [0x86, 0xDD, 0x60, 0, 0, 0, 0, 24, 58, 255] ++ List.replicate 32 0 ++ [135] ++ List.replicate 27 0,
      rg [(Reg.QRY_SVC_CTL 0, 0x1A000)], _, _, ?l1, rfl, rfl, ?l2, ?l3, ?l4, ?l5, ?l6, ?l7⟩ <;> decide +kernel⟩

theorem test_met_ptp_serves :
    (∃ (p : Fin 16) (cl : Fin 63) (rx : BT80) (d : List Byte) (m : List Byte) (l : List Tlv) (i : Nat) (c : Option (Nat × QRec)) (r : Req) (s :
      State) (s1 : State) (s2 : State) (s3 : State), Acts Reg.QRY s ∧ ptpEnter p cl rx d s = (some (r, m, l, i), s1) ∧ beAt m 0 1 % 16 = 1 ∧
      policeReq r 1 s1 = (true, c, s2) ∧ ptpAuth i m l s2 = (true, s3)) ∧
    (∃ (p : Fin 16) (cl : Fin 63) (rx : BT80) (d : List Byte) (m : List Byte) (l : List Tlv) (i : Nat) (c : Option (Nat × QRec)) (r : Req) (s :
      State) (s1 : State) (s2 : State) (s3 : State), Acts Reg.QRY s ∧ ptpEnter p cl rx d s = (some (r, m, l, i), s1) ∧ beAt m 0 1 % 16 = 1 ∧
      policeReq r 1 s1 = (true, c, s2) ∧ ptpAuth i m l s2 = (false, s3)) ∧
    (∃ (i : Fin 8) (p : Fin 16) (ses : Option (BitVec 18)) (ann : Bool) (x : Sched) (s : State) (s1 : State) (s2 : State) (t : WT96) (n : Nat) (g :
      Grant), Acts Reg.QRY s ∧ s.schedOf i p (ses.map BitVec.toNat) ann = some x ∧ s.nextFree.nextFree = s1 ∧ nextTarget x.log x.phase (s1.servedAt
      (s1.bt + cyc (s1.rf (Reg.TSU_LEAD (p.val / 4)) 0 16))) = t ∧ s1.servesAt t = true ∧ AMap.get none s.svc.tried (schedKey i p (ses.map
      BitVec.toNat) ann) ≠ some t ∧ x.env.ptpLen ((if ann then 64 else 44) + (if s1.rb Reg.ASY_PTLV_CTRL (if ann then 7 else 4) then 30 else 0) +
      (if (s1.instAuth i).isSome then 26 else 0)) = n ∧ (reserve
      { port := p, at_ := true, len := wireLen n, tag := BitVec.ofNat 32 s1.nextFree.freeVal, cq := x.cq, target := t } none
      (let y := AMap.set none s1.svc.tried (schedKey i p (ses.map BitVec.toNat) ann) (some t); State.nextFree (State.nextFree
      { s1 with svc := { s1.svc with tried := y } })) = (g, s2)) ∧ g.status = .granted ∧ ann = false) ∧
    (∃ (i : Fin 8) (p : Fin 16) (ses : Option (BitVec 18)) (ann : Bool) (x : Sched) (s : State) (s1 : State) (s2 : State) (t : WT96) (n : Nat) (g :
      Grant), Acts Reg.QRY s ∧ s.schedOf i p (ses.map BitVec.toNat) ann = some x ∧ s.nextFree.nextFree = s1 ∧ nextTarget x.log x.phase (s1.servedAt
      (s1.bt + cyc (s1.rf (Reg.TSU_LEAD (p.val / 4)) 0 16))) = t ∧ s1.servesAt t = true ∧ AMap.get none s.svc.tried (schedKey i p (ses.map
      BitVec.toNat) ann) ≠ some t ∧ x.env.ptpLen ((if ann then 64 else 44) + (if s1.rb Reg.ASY_PTLV_CTRL (if ann then 7 else 4) then 30 else 0) +
      (if (s1.instAuth i).isSome then 26 else 0)) = n ∧ (reserve
      { port := p, at_ := true, len := wireLen n, tag := BitVec.ofNat 32 s1.nextFree.freeVal, cq := x.cq, target := t } none
      (let y := AMap.set none s1.svc.tried (schedKey i p (ses.map BitVec.toNat) ann) (some t); State.nextFree (State.nextFree
      { s1 with svc := { s1.svc with tried := y } })) = (g, s2)) ∧ g.status = .granted ∧ ann = true) ∧
    (∃ (g : Fin 4) (h : BitVec 11) (w : Watch) (f : List Byte) (s : State) (s1 : State), Acts Reg.QRY s ∧ AMap.get none s.svc.watch (2048 * g.val +
      h.toNat) = some w ∧ w.fup = some f ∧ w.sent = true ∧
      { s with svc := { s.svc with watch := AMap.set none s.svc.watch (2048 * g.val + h.toNat) none } } = s1) ∧
    (∃ (p : Fin 16) (cl : Fin 63) (rx : BT80) (d : List Byte) (m : List Byte) (b : List Byte) (l : List Tlv) (i : Nat) (c : Option (Nat × QRec)) (r
      : Req) (s : State) (s1 : State) (s2 : State) (s3 : State) (s4 : State), Acts Reg.QRY s ∧ ptpEnter p cl rx d s = (some (r, m, l, i), s1) ∧
      beAt m 0 1 % 16 = 0xC ∧ l.any (s1.isRecTlv m) = false ∧ policeReq r 1 s1 = (true, c, s2) ∧ ptpAuth i m l s2 = (true, s3) ∧ s3.profile i = 2 ∧
      (l.any (fun t => decide (t.typ = 4 ∨ t.typ = 6)) = true) ∧ answerTlvs r i m c l s3 = (b, s4)) ∧
    (∃ (n : BitVec 18) (ty : Fin 3) (s : State), Acts Reg.QRY s ∧ s.sessOk n.toNat = true ∧ (s.sess n.toNat).st = 1 ∧ (s.sess n.toNat).ivs.getD ty
      noGrant ≠ noGrant ∧ atOrAfter (BitVec.ofNat 32 (wholeSec s.now)) (BitVec.ofNat 32 ((s.sess n.toNat).exp.getD ty 0)) = true) ∧
    (∃ (n : BitVec 18) (t : WT96) (s : State) (s1 : State), Acts Reg.QRY s ∧ AMap.get none s.svc.quar n.toNat = some t ∧ earlier s.now t = false ∧
      s.sessOk n.toNat = true ∧ (if (s.sess n.toNat).st = 2 then putSess n.toNat { s.sess n.toNat with st := 0 } s else s) = s1) ∧
    (∃ (n : Fin 8) (e : Env) (q : Nat) (rq : Nat → Nat → List Byte) (s : State) (s1 : State) (m : List Byte) (s2 : State), Acts Reg.QRY s ∧ (∀ mt
      lg, rq mt lg = bytesBE 2 4 ++ bytesBE 2 6 ++ bytesBE 1 (mt * 16) ++ bytesBE 1 lg ++ bytesBE 4 300) ∧ bit (s.reg (Reg.QRY_UP_CFG n)) 4 = true
      ∧ bit (s.reg (Reg.QRY_UP_CFG n)) 24 = true ∧ (s.up n).asked = none ∧ s.upEnv n = some e ∧ upSeq n 0xC (setUp n
      { s.up n with asked := some (wholeSec s.now) } s.nextFree) = (q, s1) ∧ (s1.up n).src = none ∧ ptpMessage
      { typ := 0xC, dom := fld (s.reg (Reg.QRY_UP_CFG n)) 8 8, flags := 0x0400, cf := 0, port := e.port, seq := q, log := 0x7F } (List.replicate 10
      0xFF ++ rq 0xB 0 ++ rq 0x0 (fld (s.reg (Reg.QRY_UP_CFG n)) 16 8) ++ rq 0x9 (fld (s.reg (Reg.QRY_UP_CFG n)) 16 8)) (s1.upAuth n) s1 = (some m,
      s2)) ∧
    (∃ (n : Fin 8) (rx : BT80) (d : List Byte) (m : List Byte) (l : List Tlv) (r : Req) (s : State) (s1 : State), Acts Reg.QRY s ∧ s.request (fld
      (s.reg (Reg.QRY_UP_CFG n)) 0 4) s.someCluster rx d = r ∧ takeRx r.ptpQueue r d s.nextFree = s1 ∧ bit (s.reg (Reg.QRY_UP_CFG n)) 4 = true ∧
      bit (s.reg (Reg.QRY_UP_CFG n)) 25 = false ∧ s1.servesAt (r.at_ s1) = true ∧ r.ptp = some (m, l) ∧ fld (s.reg (Reg.QRY_UP_CFG n)) 5 2 =
      r.transport ∧ ((r.transport = 0 ∧ r.n.v = 0 ∧ beAt r.f 6 6 = s1.regN (Reg.QRY_UP_ADDR n 0) 2 % 2 ^ 48 ∨ r.transport ≠ 0 ∧ r.n.src = s1.addrOf
      (Reg.QRY_UP_ADDR n 0) r.transport)) ∧ beAt m 4 1 = fld (s.reg (Reg.QRY_UP_CFG n)) 8 8 ∧ (beAt m 0 1 % 16 = 0xB → ∀ g, (s1.up n).gm = some g →
      g = beAt m 53 8) ∧ (s1.up n).seqOk (beAt m 0 1 % 16) (beAt m 30 2) = true) ∧
    (∃ (n : Fin 8) (b : BT80) (s : State), Acts Reg.QRY s ∧ (s.up n).annAt = some b ∧ s.rb (Reg.QRY_UP_CFG n) 4 = true ∧ (s.up n).lost = false ∧ 0
      ≤ (s.up n).annLog ∧ s.elapsed b (3 * (1000000000 * 2 ^ (s.up n).annLog.toNat)) = true) ∧
    (∃ (i : Fin 8) (p : Fin 16) (ses : Option (BitVec 18)) (x : Sched) (s : State) (ann : Bool) (t : WT96), Acts Reg.QRY s ∧ s.schedOf i p (ses.map
      BitVec.toNat) ann = some x ∧ ((let u := s.nextFree.nextFree; nextTarget x.log x.phase (u.servedAt (u.bt + cyc (u.rf (Reg.TSU_LEAD (p.val /
      4)) 0 16)))) = t) ∧ AMap.get none s.svc.tried (schedKey i p (ses.map BitVec.toNat) ann) = some t) :=
  ⟨by refine ⟨0, 0, 0, ptpFrameOf (ptpMsg 1 (List.replicate 10 0)), ptpMsg 1 (List.replicate 10 0), [], 0, none, ((rg
      [(Reg.QRY_PTP_CFG 0, 0x10001)]).request 0 0 0 (ptpFrameOf (ptpMsg 1 (List.replicate 10 0)))), rg [(Reg.QRY_PTP_CFG 0, 0x10001)], _, _, _,
      ?m1, pairEq (by decide +kernel), ?m2, tripleEq (by decide +kernel) (by decide +kernel), pairEq (by decide +kernel)⟩ <;> decide +kernel,
    by refine ⟨0, 0, 0, ptpFrameOf (ptpMsg 1 (List.replicate 10 0)), ptpMsg 1 (List.replicate 10 0), [], 0, none, ((rg
      [(Reg.QRY_PTP_CFG 0, 0x10041)]).request 0 0 0 (ptpFrameOf (ptpMsg 1 (List.replicate 10 0)))), rg [(Reg.QRY_PTP_CFG 0, 0x10041)], _, _, _,
      ?n1, pairEq (by decide +kernel), ?n2, tripleEq (by decide +kernel) (by decide +kernel), pairEq (by decide +kernel)⟩ <;> decide +kernel,
    by refine ⟨0, 15, none, false, ((ptpReady.schedOf 0 15 none false).get (ptpReady_sched false)), ptpReady, _, _, _, _, _, ?o1, (Option.some_get
      _).symm, rfl, rfl, ?o2, ?o3, rfl, pairEq rfl, ?o4, ?o5⟩ <;> decide +kernel,
    by refine ⟨0, 15, none, true, ((ptpReady.schedOf 0 15 none true).get (ptpReady_sched true)), ptpReady, _, _, _, _, _, ?p1, (Option.some_get
      _).symm, rfl, rfl, ?p2, ?p3, rfl, pairEq rfl, ?p4, ?p5⟩ <;> decide +kernel,
    by refine ⟨0, 0, { cl := 0, port := 0, fup := some [], sent := true }, [],
      { R with svc := { R.svc with watch := [(0, some { cl := 0, port := 0, fup := some [], sent := true })] } }, _, ?q1, ?q2, ?q3, ?q4, rfl⟩
      <;> decide +kernel,
    by refine ⟨0, 0, 0, ptpFrameOf (ptpMsg 12 (List.replicate 10 0 ++ [0, 4, 0, 6, 0, 0, 0, 0, 0, 0])), ptpMsg 12 (List.replicate 10 0 ++
      [0, 4, 0, 6, 0, 0, 0, 0, 0, 0]), _, [{ typ := 4, off := 48, len := 6 }], 0, none, ((rg [(Reg.QRY_PTP_CFG 0, 0x10009)]).request 0 0 0
      (ptpFrameOf (ptpMsg 12 (List.replicate 10 0 ++ [0, 4, 0, 6, 0, 0, 0, 0, 0, 0])))), rg [(Reg.QRY_PTP_CFG 0, 0x10009)], _, _, _, _, ?r1, pairEq
      (by decide +kernel), ?r2, ?r3, tripleEq (by decide +kernel) (by decide +kernel), pairEq (by decide +kernel), ?r4, ?r5, pairEq rfl⟩
      <;> decide +kernel,
    by refine ⟨0, 0, withSess
      { client := List.replicate 10 0, inst := 0, st := 1, rcd := 0, ivs := [0, 0, 0], exp := [0, 0, 0], addr := List.replicate 16 0, tci := 0, seqs := [0, 0], phase := 0 },
      ?s1, ?s2, ?s3, ?s4, ?s5⟩ <;> decide +kernel,
    by refine ⟨0, 0,
      { withSess { client := List.replicate 10 0, inst := 0, st := 2, rcd := 0, ivs := [0, 0, 0], exp := [0, 0, 0], addr := List.replicate 16 0, tci := 0, seqs := [0, 0], phase := 0 } with svc := { R.svc with quar := [(0, some 0)] } },
      _, ?t1, ?t2, ?t3, ?t4, rfl⟩ <;> decide +kernel,
    by refine ⟨0, { port := 0, mac := List.replicate 6 0, tags := [], v := 0, src := [], dst := [], dscp := 0 }, _, (fun mt lg => bytesBE 2 4 ++
      bytesBE 2 6 ++ bytesBE 1 (mt * 16) ++ bytesBE 1 lg ++ bytesBE 4 300), rg [(Reg.QRY_UP_CFG 0, 0x1000010)], _, _, _, ?u1, fun _ _ => rfl, ?u2,
      ?u3, ?u4, ?u5, pairEq rfl, ?u6, rfl⟩ <;> decide +kernel,
    by refine ⟨0, 0, ptpFrameOf (ptpMsg 0 (List.replicate 10 0)), ptpMsg 0 (List.replicate 10 0), [], _, rg [(Reg.QRY_UP_CFG 0, 0x10)], _, ?v1,
      rfl, rfl, ?v2, ?v3, ?v4, ?v5, ?v6, ?v7, ?v8, fun h => absurd h (by decide +kernel), ?v9⟩ <;> decide +kernel,
    by refine ⟨0, 0, { rg [(Reg.QRY_UP_CFG 0, 0x10)] with bt := 0x400000000000000000, svc := { R.svc with ups := [(0, { annAt := some 0 })] } },
      ?w1, ?w2, ?w3, ?w4, ?w5, ?w6⟩ <;> decide +kernel,
    ⟨0, 15, none, ptpSched, ptpTried, false, _, by decide +kernel, (Option.some_get _).symm, rfl, rfl⟩⟩

theorem test_met_scheduler_acts :
    (∃ (p : Fin 17) (s : State) (t : State) (c : Nat) (i : Nat) (d : List Byte), Acts Reg.SCH s ∧ s.canSend p.val = true ∧ s.paused p.val = false ∧
      (s.prtS p.val).pauseReq = none ∧ choose p.val s = (some c, t) ∧ t.headOf p.val c = some (i, d) ∧ t.fitsGap p.val (wireLen (descLen d)) =
      true) ∧
    (∃ (p : Nat) (s : State), (s.schHalted || s.fltBit Reg.SCH 0) = true) ∧
    (∃ (s : State), Acts Reg.SCH s ∧ s.elapsed s.sch.refillAt s.sch.period = true) ∧
    (∃ (per : Nat) (p : Nat) (c : Nat) (s : State), (s.cls p c).rate ≠ 0) ∧
    (∃ (low : Bool) (s : State), Live Reg.SCH s) ∧
    (∃ (m : Master) (v : Word) (s : State), Reaches m Reg.SCH_CTL s) ∧
    (∃ (s : State), Acts Reg.POL s ∧ s.elapsed s.pol.refillAt 1000 = true) ∧
    (∃ (m : Master) (v : Word) (s : State), Reaches m Reg.POL_CMD_REL s) :=
  ⟨by refine ⟨16, sendable, _, 7, 0, aDesc, ?a1, ?a2, ?a3, ?a4, pairEq (by decide +kernel), ?a5, ?a6⟩ <;> decide +kernel,
    ⟨0, rg [(Reg.SCH_CTL, 1)], by decide +kernel⟩,
    by refine ⟨{ R with bt := 0x400000000000000000, sch := { R.sch with period := 1 } }, ?c1, ?c2⟩ <;> decide +kernel,
    ⟨0, 0, 0, R.setCls 0 0 { rate := 1 }, by decide +kernel⟩,
    ⟨false, R, by decide +kernel⟩,
    ⟨.host, 0, R, by decide +kernel⟩,
    by refine ⟨{ R with bt := 0x400000000000000000 }, ?g1, ?g2⟩ <;> decide +kernel,
    ⟨.host, 0, R, by decide +kernel⟩⟩

theorem test_met_keys_and_entropy_act :
    (∃ (m : Master) (v : Word) (s : State) (k : List Byte) (ctr : Nat), Reaches m Reg.KEY_CMD s ∧ KeyCmdInOrder m s ∧ bit v 0 = true ∧ bit v 1 =
      false ∧ bit v 2 = false ∧ stageCheck s = .ok (k, ctr)) ∧
    (∃ (m : Master) (v : Word) (s : State) (r : KeyRej), Reaches m Reg.KEY_CMD s ∧ KeyCmdInOrder m s ∧ bit v 0 = true ∧ bit v 1 = false ∧ bit v 2 =
      false ∧ stageCheck s = .error r) ∧
    (∃ (k : BitVec 256) (ctr : Nat) (s : State), Live Reg.KEY s ∧ s.key.accepted = some (k, ctr)) ∧
    (∃ (m : Master) (v : Word) (k : BitVec 256) (ctr : Nat) (s : State) (s1 : State), Reaches m Reg.KEY_CMD s ∧ KeyCmdInOrder m s ∧ bit v 0 = false
      ∧ bit v 1 = true ∧ bit v 2 = false ∧ s.rb Reg.KEY_STAT 2 = false ∧ s.key.staged = some (k, ctr) ∧
      { s with key := { s.key with committing := some (k, ctr) } }.setRb Reg.KEY_STAT 2 true = s1 ∧ s.lifeCycle = 3) ∧
    (∃ (m : Master) (v : Word) (k : BitVec 256) (ctr : Nat) (s : State) (s1 : State), Reaches m Reg.KEY_CMD s ∧ KeyCmdInOrder m s ∧ bit v 0 = false
      ∧ bit v 1 = true ∧ bit v 2 = false ∧ s.rb Reg.KEY_STAT 2 = false ∧ s.key.staged = some (k, ctr) ∧
      { s with key := { s.key with committing := some (k, ctr) } }.setRb Reg.KEY_STAT 2 true = s1 ∧ s.lifeCycle ≠ 3) ∧
    (∃ (k : BitVec 256) (ctr : Nat) (s : State) (s0 : State) (s1 : State), Live Reg.KEY s ∧ s.key.committing = some (k, ctr) ∧ commitCount
      (commitCount s) = s0 ∧ setLode (some k)
      { s0 with key := { s0.key with committing := none, staged := none }, thisCyc := { s0.thisCyc with key := none } } = s1 ∧ s.lifeCycle ≠ 3) ∧
    (∃ (m : Master) (v : Word) (s : State), Reaches m Reg.KEY_CMD s ∧ KeyCmdInOrder m s ∧ bit v 0 = false ∧ bit v 1 = false ∧ bit v 2 = true ∧ s.rb
      Reg.KEY_STAT 2 = false) ∧
    (∃ (apt : Bool) (s : State), Live Reg.TRN s) ∧
    (∃ (s : State) (s1 : State), Live Reg.TRN s ∧ s.rb Reg.TRN_STAT 0 = true ∧ s.inject Reg.TRN 1 = false ∧
      { s with trn := { s.trn with passAt := some s.bt } }.setRb Reg.TRN_STAT 0 false = s1 ∧ s.rb Reg.TRN_STAT 2 = true) ∧
    (∃ (s : State), Live Reg.TRN s ∧ s.withheld = false ∧ s.elapsed s.trn.reseedAt 10000000 = true) ∧
    (∃ (m : Master) (s : State) (s1 : State) (l : List Byte), Reads m Reg.TRN_OUT s ∧ drbg 4 s = (some l, s1)) ∧
    (∃ (m : Master) (s : State) (s1 : State), Reads m Reg.TRN_OUT s ∧ drbg 4 s = (none, s1)) ∧
    (∃ (e : Fin 512) (t : Fin 4) (n : BitVec 16) (op : CryOp) (s : State) (st : CryStatus), Live Reg.CRY s ∧ s.cry.find? (fun x => decide (x.th =
      thKey e t ∧ x.num = n.toNat)) = some op ∧ s.cryRefuse (cryDesc op.desc) (thKey e t) op.user op.access = some st) ∧
    (∃ (e : Fin 512) (t : Fin 4) (n : BitVec 16) (op : CryOp) (s : State) (st : CryStatus) (s1 : State), Live Reg.CRY s ∧ s.cry.find? (fun x =>
      decide (x.th = thKey e t ∧ x.num = n.toNat)) = some op ∧ s.cryRefuse (cryDesc op.desc) (thKey e t) op.user op.access = none ∧ s.trn.waits.any
      (fun x => decide (x.2 = DrbgUser.crypto (thKey e t) n.toNat)) = false ∧ (cryDesc op.desc).op ≠ 0x0B ∧ s.inject Reg.CRY 0 = false ∧ cryRun op
      (cryDesc op.desc) s = (st, s1) ∧ st ≠ .memErr) ∧
    (∃ (b : BT80) (k : Nat) (n : Nat) (op : CryOp) (s : State), Live Reg.TRN s ∧ s.withheld = true ∧ s.trn.waits = [(b, .crypto k n)] ∧ s.elapsed b
      50000 = true ∧ s.cry.find? (fun x => decide (x.th = k ∧ x.num = n)) = some op) ∧
    (∃ (m : Master) (v : Word) (s : State), Reaches m Reg.KEY_CMD s ∧ ¬ KeyCmdInOrder m s) ∧
    (∃ (k : BitVec 256) (ctr : Nat) (s : State) (s1 : State), Live Reg.KEY s ∧ s.key.committing = some (k, ctr) ∧ s.lifeCycle = 3 ∧ setLode (some
      k) { s with key := { s.key with committing := none, staged := none }, thisCyc := { s.thisCyc with key := none } } = s1) :=
  ⟨by refine ⟨.host, 1, staging, List.replicate 32 0x5A, 1, ?a1, ?a2, ?a3, ?a4, ?a5, staging_accepts⟩ <;> decide +kernel,
    by refine ⟨.host, 1, R, .state, ?b1, ?b2, ?b3, ?b4, ?b5, errEq (by decide +kernel)⟩ <;> decide +kernel,
    by refine ⟨0, 0, { R with key := { R.key with accepted := some (0, 0) } }, ?c1, ?c2⟩ <;> decide +kernel,
    by refine ⟨.host, 2, 0, 0, { owned 3 with key := { R.key with staged := some (0, 0) } }, _, ?d1, ?d2, ?d3, ?d4, ?d5, ?d6, ?d7, rfl, ?d8⟩
      <;> decide +kernel,
    by refine ⟨.host, 2, 0, 0, { owned 1 with key := { R.key with staged := some (0, 0) } }, _, ?e1, ?e2, ?e3, ?e4, ?e5, ?e6, ?e7, rfl, ?e8⟩
      <;> decide +kernel,
    by refine ⟨0, 0, { owned 1 with key := { R.key with committing := some (0, 0) } }, _, _, ?f1, ?f2, rfl, rfl, ?f3⟩ <;> decide +kernel,
    by refine ⟨.host, 4, R, ?g1, ?g2, ?g3, ?g4, ?g5, ?g6⟩ <;> decide +kernel,
    ⟨false, R, by decide +kernel⟩,
    by refine ⟨rg [(Reg.TRN_STAT, 5)], _, ?i1, ?i2, ?i3, rfl, ?i4⟩ <;> decide +kernel,
    by refine ⟨{ rg [(Reg.TRN_STAT, 0)] with bt := 0x400000000000000000 }, ?j1, ?j2, ?j3⟩ <;> decide +kernel,
    ⟨.host, rg [(Reg.TRN_STAT, 0)], _, _, by decide +kernel, pairEq (drbg_gives (by decide +kernel) (by decide +kernel))⟩,
    ⟨.host, R, _, by decide +kernel, pairEq (by decide +kernel)⟩,
    by refine ⟨511, 3, 0, aCry 0 0, { R with cry := [aCry 0 0] }, .badOp, ?m1, ?m2, ?m3⟩ <;> decide +kernel,
    by refine ⟨511, 3, 0, aCry 1 0, { R with cry := [aCry 1 0] }, .ok, _, ?n1, ?n2, ?n3, ?n4, ?n5, ?n6, pairEq (by decide +kernel), ?n7⟩
      <;> decide +kernel,
    by refine ⟨0, 2047, 0, aCry 0x0B 0,
      { R with bt := 0x400000000000000000, cry := [aCry 0x0B 0], trn := { R.trn with waits := [(0, .crypto 2047 0)] } }, ?o1, ?o2, ?o3, ?o4, ?o5⟩
      <;> decide +kernel,
    by refine ⟨.host, 0, keyNoted .calendar 1 R R, ?p1, ?p2⟩ <;> decide +kernel,
    by refine ⟨0, 0, { owned 3 with key := { R.key with committing := some (0, 0) } }, _, ?q1, ?q2, ?q3, rfl⟩ <;> decide +kernel⟩

theorem test_met_life_cycle_acts :
    (∃ (v : Word) (l : List Byte) (s : State) (s1 : State), Reaches .host Reg.LCS_CMD s ∧ fld v 0 3 = 1 ∧ drbg 16 s = (some l, s1)) ∧
    (∃ (v : Word) (s : State), Reaches .host Reg.LCS_CMD s ∧ fld v 16 16 = 0x4C43 ∧ fld v 0 3 = 2 ∧ s.lifeCycle = 0 ∧ (∃ i < 8, s.reg
      (Reg.LCS_OWNER i) ≠ 0)) ∧
    (∃ (v : Word) (s : State), Reaches .host Reg.LCS_CMD s ∧ fld v 16 16 = 0x4C43 ∧ fld v 0 3 = 3 ∧ s.lifeCycle = 1) ∧
    (∃ (v : Word) (s : State), Reaches .host Reg.LCS_CMD s ∧ fld v 16 16 = 0x4C43 ∧ fld v 0 3 = 4 ∧ ((s.lifeCycle = 1 ∨ s.lifeCycle = 2 ∧ tokenRej
      s 1 = none))) ∧
    (∃ (v : Word) (s : State), Reaches .host Reg.LCS_CMD s ∧ fld v 16 16 = 0x4C43 ∧ fld v 0 3 = 5 ∧ ((s.lifeCycle = 0 ∨ (s.lifeCycle = 1 ∨
      s.lifeCycle = 2) ∧ tokenRej s 2 = none))) ∧
    (∃ (v : Word) (s : State) (r : LcsRej), Reaches .host Reg.LCS_CMD s ∧ fld v 16 16 = 0x4C43 ∧ fld v 0 3 = 4 ∧ s.lifeCycle = 2 ∧ tokenRej s 1 =
      some r) ∧
    (∃ (v : Word) (s : State), Reaches .calendar Reg.LCS_CMD s ∧ fld v 0 3 = 3) ∧
    (∃ (v : Word) (s : State), Reaches .host Reg.LCS_CMD s ∧ fld v 0 3 = 3 ∧ fld v 16 16 ≠ 0x4C43) :=
  ⟨by refine ⟨1, _, rg [(Reg.TRN_STAT, 0)], _, ?r1, ?r2, pairEq (drbg_gives (by decide +kernel) (by decide +kernel))⟩ <;> decide +kernel,
    by refine ⟨0x4C430002, rg [(Reg.LCS_OWNER 0, 1)], ?s1, ?s2, ?s3, ?s4, ⟨0, by decide +kernel, by decide +kernel⟩⟩ <;> decide +kernel,
    by refine ⟨0x4C430003, rg [(Reg.LCS_STATE, 1)], ?t1, ?t2, ?t3, ?t4⟩ <;> decide +kernel,
    by refine ⟨0x4C430004, rg [(Reg.LCS_STATE, 1)], ?u1, ?u2, ?u3, ?u4⟩ <;> decide +kernel,
    by refine ⟨0x4C430005, R, ?v1, ?v2, ?v3, ?v4⟩ <;> decide +kernel,
    by refine ⟨0x4C430004, owned 2, .format, ?w1, ?w2, ?w3, ?w4, ?w5⟩ <;> decide +kernel,
    by refine ⟨3, R, ?x1, ?x2⟩ <;> decide +kernel,
    by refine ⟨3, R, ?y1, ?y2, ?y3⟩ <;> decide +kernel⟩

theorem test_met_mate_frames_are_taken :
    (∃ (l : Fin 2) (d : List Byte) (s : State) (s1 : State), Acts Reg.MATE s ∧ s.mateOn = true ∧ s.rb Reg.MATE_STAT (6 + l.val) = true ∧ s.mateOk d
      = true ∧ mateValid l s = s1 ∧ beAt d 0 1 = 1) ∧
    (∃ (l : Fin 2) (d : List Byte) (s : State) (s1 : State), Acts Reg.MATE s ∧ s.mateOn = true ∧ s.rb Reg.MATE_STAT (6 + l.val) = true ∧ s.mateOk d
      = true ∧ mateValid l s = s1 ∧ beAt d 0 1 = 2) ∧
    (∃ (l : Fin 2) (d : List Byte) (s : State) (s1 : State), Acts Reg.MATE s ∧ s.mateOn = true ∧ s.rb Reg.MATE_STAT (6 + l.val) = true ∧ s.mateOk d
      = true ∧ mateValid l s = s1 ∧ beAt d 0 1 = 3) ∧
    (∃ (l : Fin 2) (d : List Byte) (s : State) (s1 : State), Acts Reg.MATE s ∧ s.mateOn = true ∧ s.rb Reg.MATE_STAT (6 + l.val) = true ∧ s.mateOk d
      = true ∧ mateValid l s = s1 ∧ beAt d 0 1 = 4 ∧ beAt d 16 1 = 1) ∧
    (∃ (l : Fin 2) (d : List Byte) (s : State) (s1 : State), Acts Reg.MATE s ∧ s.mateOn = true ∧ s.rb Reg.MATE_STAT (6 + l.val) = true ∧ s.mateOk d
      = true ∧ mateValid l s = s1 ∧ beAt d 0 1 = 4 ∧ beAt d 16 1 = 2) ∧
    (∃ (l : Fin 2) (d : List Byte) (s : State) (s1 : State), Acts Reg.MATE s ∧ s.mateOn = true ∧ s.rb Reg.MATE_STAT (6 + l.val) = true ∧ s.mateOk d
      = true ∧ mateValid l s = s1 ∧ beAt d 0 1 = 4 ∧ beAt d 16 1 = 3) ∧
    (∃ (l : Fin 2) (d : List Byte) (s : State) (s1 : State), Acts Reg.MATE s ∧ s.mateOn = true ∧ s.rb Reg.MATE_STAT (6 + l.val) = true ∧ s.mateOk d
      = true ∧ mateValid l s = s1 ∧ beAt d 0 1 = 4 ∧ beAt d 16 1 = 4) ∧
    (∃ (l : Fin 2) (d : List Byte) (s : State), Acts Reg.MATE s ∧ s.mateOn = true ∧ s.rb Reg.MATE_STAT (6 + l.val) = true ∧ s.mateOk d = false) ∧
    (∃ (l : Fin 2) (s : State), Live Reg.MATE s) ∧
    (∃ (s : State) (b : List Byte) (l : List (List Byte)), Acts Reg.MATE s ∧ s.mateOn = true ∧ s.mrole = .active ∧ s.mate.mirrorQ = b :: l) ∧
    (∃ (s : State) (e : List Byte) (s1 : State), Acts Reg.MATE s ∧ s.mateOn = true ∧ s.mrole = .active ∧ s.mate.mirrorQ = [] ∧ queuePop (s.rf
      Reg.MATE_MQ 0 18) s = (.ok, e, s1)) :=
  ⟨by refine ⟨0, mateFrame 1 (List.replicate 16 0), mated 0x40, _, ?a1, ?a2, ?a3, ?a4, rfl, ?a5⟩ <;> decide +kernel,
    by refine ⟨0, mateFrame 2 (List.replicate 32 0), mated 0x40, _, ?b1, ?b2, ?b3, ?b4, rfl, ?b5⟩ <;> decide +kernel,
    by refine ⟨0, mateFrame 3 (2 :: List.replicate 51 0), mated 0x40, _, ?c1, ?c2, ?c3, ?c4, rfl, ?c5⟩ <;> decide +kernel,
    by refine ⟨0, mateFrame 4 (1 :: List.replicate 15 0), mated 0x40, _, ?d1, ?d2, ?d3, ?d4, rfl, ?d5, ?d6⟩ <;> decide +kernel,
    by refine ⟨0, mateFrame 4 (2 :: List.replicate 15 0), mated 0x40, _, ?e1, ?e2, ?e3, ?e4, rfl, ?e5, ?e6⟩ <;> decide +kernel,
    by refine ⟨0, mateFrame 4 (3 :: List.replicate 15 0), mated 0x40, _, ?f1, ?f2, ?f3, ?f4, rfl, ?f5, ?f6⟩ <;> decide +kernel,
    by refine ⟨0, mateFrame 4 (4 :: List.replicate 15 0), mated 0x40, _, ?g1, ?g2, ?g3, ?g4, rfl, ?g5, ?g6⟩ <;> decide +kernel,
    by refine ⟨0, [], mated 0x40, ?h1, ?h2, ?h3, ?h4⟩ <;> decide +kernel,
    ⟨0, R, by decide +kernel⟩,
    by refine ⟨{ mated 0x41 with mate := { R.mate with mirrorQ := [[0]] } }, [0], [], ?j1, ?j2, ?j3, ?j4⟩ <;> decide +kernel,
    by refine ⟨(((mated 0x41).setReg Reg.MATE_MQ 0x100).setQueue 0x100
      { en := true, log2 := 1, esize := 2, tail := 1, base := BitVec.ofNat 32 (eaSram / 64) }), List.replicate 64 0, _, ?k1, ?k2, ?k3, ?k4,
      tripleEq (by decide +kernel) (by decide +kernel)⟩ <;> decide +kernel⟩

theorem test_met_mate_roles_change :
    (∃ (s : State) (t : WT96) (b : BT80) (b2 : BT80), Acts Reg.MATE s ∧ s.mateOn = true ∧ BitVec.ofNat 96 ((s.bdr.par.served (s.bt + 65535)).toNat
      / 65536000000 * 65536000000) = t ∧ earlier (s.bdr.par.served (s.bt - 1)) t = true ∧ s.bt + BitVec.ofNat 80 (leastReach s.bdr.par t s.bt 17 0
      65535) = b ∧ b + BitVec.ofNat 80 (leastReach s.bdr.par (t + wtNs 100000) b 34 0 (2 ^ 34)) = b2) ∧
    (∃ (s : State) (s1 : State) (s2 : State), Acts Reg.MATE s ∧ s.mateOn = true ∧ s.onGrid = true ∧ mateSend .health (bytesBE 4 s.healthWord.toNat
      ++ bytesBE 12 s.now.toNat) (s.setReg Reg.MATE_HW s.healthWord) = s1 ∧ (if bit s.healthWord 2 then
      { s1 with mate := { s1.mate with healthOut := !s1.mate.healthOut } }.emit (.pin "MATE_HEALTH_OUT" (!s1.mate.healthOut)) else s1) = s2) ∧
    (∃ (s : State), Acts Reg.MATE s ∧ s.mateOn = true ∧ s.onGrid = true ∧ s.mate.heard = true) ∧
    (∃ (s : State), Acts Reg.MATE s ∧ s.mateOn = true ∧ s.onGrid = true ∧ s.mate.heard = false) ∧
    (∃ (mean : Int) (s : State), Acts Reg.MATE s ∧ s.mate.residSec < wholeSec s.now ∧ s.mate.residCnt ≠ 0 ∧ rne (s.mate.residSum * 1000)
      (s.mate.residCnt * 65536) = mean) ∧
    (∃ (s : State), Acts Reg.MATE s ∧ s.mateOn = true ∧ s.mrole = .solo ∧ s.activeIn = false ∧ s.mate.activeLow = none ∧ s.elapsed s.mate.lastHeard
      (s.rf Reg.MATE_CFG 16 16 * 10000000) = true) ∧
    (∃ (s : State), Live Reg.MATE s ∧ s.activeIn = true) ∧
    (∃ (m : Master) (v : Word) (s : State), Reaches m Reg.MATE_CMD s ∧ bit v 0 = true ∧ bit v 1 = false ∧ s.mrole = .isolated) ∧
    (∃ (m : Master) (v : Word) (s : State), Reaches m Reg.MATE_CMD s ∧ bit v 0 = false ∧ bit v 1 = true) ∧
    (∃ (b : BT80) (s : State) (s1 : State), Acts Reg.MATE s ∧ s.mate.leaveAt = some b ∧ earlier s.bt b = false ∧
      { s with mate := { s.mate with leaveAt := none, oldWord := true } } = s1 ∧ s1.mrole = .active) ∧
    (∃ (w : Word) (s : State), Acts Reg.MATE s ∧ s.mateOn = true ∧ s.rb Reg.MATE_CFG 1 = true ∧ s.preferred = true ∧ s.mrole = .standby ∧
      s.holdoffDone = true ∧ s.mate.peerHw = some w ∧ fld w 0 2 = 1 ∧ s.mate.ho.any (fun h => h.reversion) = false) ∧
    (∃ (b : BT80) (s : State), Acts Reg.MATE s ∧ s.mate.stAt = some b ∧ s.elapsed b (s.rf Reg.MATE_SWGOOD 16 16 * 1000000) = true) ∧
    (∃ (b : BT80) (s : State), Acts Reg.MATE s ∧ s.mate.shadowBad = some b ∧ s.elapsed b 10000000000 = true) ∧
    (∃ (s : State), Acts Reg.MATE s ∧ s.mateOn = true ∧ s.onGrid = true) :=
  ⟨by refine ⟨{ mated 0 with bt := 65536000000000 }, _, _, _, ?l1, ?l2, rfl, ?l3, rfl, rfl⟩ <;> decide +kernel,
    by refine ⟨mated 0, _, _, ?m1, ?m2, ?m3, rfl, rfl⟩ <;> decide +kernel,
    by refine ⟨{ mated 0 with mate := { R.mate with heard := true } }, ?n1, ?n2, ?n3, ?n4⟩ <;> decide +kernel,
    by refine ⟨mated 0, ?o1, ?o2, ?o3, ?o4⟩ <;> decide +kernel,
    by refine ⟨_, { R with bt := 0x400000000000000000, mate := { R.mate with residCnt := 1 } }, ?p1, ?p2, ?p3, rfl⟩ <;> decide +kernel,
    by refine ⟨{ mated 0 with bt := 0x400000000000000000, mate := { R.mate with activeLow := none } }, ?q1, ?q2, ?q3, ?q4, ?q5, ?q6⟩
      <;> decide +kernel,
    by refine ⟨mated 0x200, ?r1, ?r2⟩ <;> decide +kernel,
    by refine ⟨.host, 1, rg [(Reg.MATE_STAT, 3)], ?s1, ?s2, ?s3, ?s4⟩ <;> decide +kernel,
    by refine ⟨.host, 2, R, ?t1, ?t2, ?t3⟩ <;> decide +kernel,
    by refine ⟨0, { rg [(Reg.MATE_STAT, 1)] with mate := { R.mate with leaveAt := some 0 } }, _, ?u1, ?u2, ?u3, rfl, ?u4⟩ <;> decide +kernel,
    by refine ⟨1,
      { ((mated 0x12).setReg Reg.MATE_CFG 3).setReg Reg.MATE_SWGOOD 1 with bt := 0x400000000000000000, mate := { R.mate with peerHw := some 1, goodSince := some 0, paired := 1000 } },
      ?v1, ?v2, ?v3, ?v4, ?v5, ?v6, ?v7, ?v8, ?v9⟩ <;> decide +kernel,
    by refine ⟨0, { R with bt := 0x400000000000000000, mate := { R.mate with stAt := some 0 } }, ?w1, ?w2, ?w3⟩ <;> decide +kernel,
    by refine ⟨0, { R with bt := 0x400000000000000000, mate := { R.mate with shadowBad := some 0 } }, ?x1, ?x2, ?x3⟩ <;> decide +kernel,
    by refine ⟨mated 0, ?y1, ?y2, ?y3⟩ <;> decide +kernel⟩

theorem test_met_faults_are_handled :
    (∃ (page : BAddr) (n : Fin 32) (s : State) (k : PageKind) (inst : Nat) (i : Nat), Live (page.toNat - page.toNat % 0x1000) s ∧ pageKindOf
      (page.toNat - page.toNat % 0x1000) = some (k, inst) ∧ srcOf k inst n.val = some i ∧ k ≠ .trn) ∧
    (∃ (n : Fin 384) (b : BT80) (s : State), Acts Reg.FLT s ∧ AMap.get none s.flt.timers n.val = some b ∧ s.elapsed b (1000 * s.rf Reg.FLT_ESC 0
      20) = true ∧ s.rb (Reg.FLT_SRC n.val) 30 = false ∧ s.sevNow n.val = 2) ∧
    (∃ (m : Master) (n : Fin 384) (v : Word) (s : State) (s2 : State), Reaches m (Reg.FLT_SRC n) s ∧ bit v 28 = true ∧ s.rb (Reg.FLT_SRC n) 31 =
      true ∧ s.sevNow n = 2 ∧ s.rb (Reg.FLT_SRC n) 29 = false ∧ fld v 0 2 = 2 ∧ domOk (fld v 16 6) = true ∧ (((cancelTimer n (s.setRb (Reg.FLT_SRC
      n) 30 true)).setRf (Reg.FLT_SRC n) 0 2 2).setRf (Reg.FLT_SRC n) 16 6 (fld v 16 6)) = s2 ∧ s2.sevNow n = 2) ∧
    (∃ (m : Master) (n : Fin 384) (v : Word) (s : State) (s1 : State) (s2 : State), Reaches m (Reg.FLT_SRC n) s ∧ bit v 28 = false ∧ domOk (fld v
      16 6) = true ∧ s.setRf (Reg.FLT_SRC n) 0 2 (fld v 0 2) = s1 ∧ (if s.rf (Reg.FLT_SRC n) 0 2 = 2 ∧ fld v 0 2 ≠ 2 then cancelTimer n s1 else
      s1).setRf (Reg.FLT_SRC n) 16 6 (fld v 16 6) = s2 ∧ s2.sevNow n = s.sevNow n) ∧
    (∃ (m : Master) (n : Fin 384) (v : Word) (s : State) (s1 : State) (s2 : State), Reaches m (Reg.FLT_SRC n) s ∧ bit v 28 = false ∧ domOk (fld v
      16 6) = true ∧ s.setRf (Reg.FLT_SRC n) 0 2 (fld v 0 2) = s1 ∧ (if s.rf (Reg.FLT_SRC n) 0 2 = 2 ∧ fld v 0 2 ≠ 2 then cancelTimer n s1 else
      s1).setRf (Reg.FLT_SRC n) 16 6 (fld v 16 6) = s2 ∧ s2.sevNow n = 3 ∧ s.sevNow n = 1 ∧ (showPin s2).rb (Reg.FLT_SRC n) 31 = true) ∧
    (∃ (n : Nat) (s : State) (s1 : State), s.flt.escs = [n] ∧ s.escDue n = true ∧ { s with flt := { s.flt with escs := [] } } = s1 ∧ (escalate n
      s1).flt.acts ≠ []) ∧
    (∃ (n : Fin 384) (s : State), s.sevNow n = 2) :=
  ⟨by refine ⟨BitVec.ofNat 26 Reg.PWR, 0, R, .pwr, 0, 8, ?a1, ?a2, ?a3, ?a4⟩ <;> decide +kernel,
    by refine ⟨0, 0, { rg [(Reg.FLT_SRC 0, 2)] with bt := 0x400000000000000000, flt := { R.flt with timers := [(0, some 0)] } }, ?b1, ?b2, ?b3,
      ?b4, ?b5⟩ <;> decide +kernel,
    by refine ⟨.host, 0, 0x103F0002, rg [(Reg.FLT_SRC 0, 0x80000002)], _, ?c1, ?c2, ?c3, ?c4, ?c5, ?c6, ?c7, rfl, ?c8⟩ <;> decide +kernel,
    by refine ⟨.host, 0, 0x003F0000, rg [(Reg.FLT_SRC 0, 0)], _, _, ?d1, ?d2, ?d3, rfl, rfl, ?d4⟩ <;> decide +kernel,
    by refine ⟨.host, 0, 0x003F0003, rg [(Reg.FLT_SRC 0, 0x80000001)], _, _, ?e1, ?e2, ?e3, rfl, rfl, ?e4, ?e5, ?e6⟩ <;> decide +kernel,
    by refine ⟨0, { rg [(Reg.FLT_SRC 0, 2)] with bt := 0x400000000000000000, flt := { R.flt with timers := [(0, some 0)], escs := [0] } }, _, ?f1,
      ?f2, rfl, ?f3⟩ <;> decide +kernel,
    ⟨0, rg [(Reg.FLT_SRC 0, 2)], by decide +kernel⟩⟩

theorem test_met_counters_and_matrix_act :
    (∃ (m : Master) (k : Fin 16) (v : Word) (s : State), Reaches m (Reg.EVT_HMASK k) s) ∧
    (∃ (m : Master) (addr : BAddr) (v : Word) (s : State) (a : Nat) (c : Nat), Reg.PMU + addr.toNat % 0x1000 = a ∧ Reaches m a s ∧ s.pmuAt m (a %
      0x1000) = some (c, 2)) ∧
    (∃ (m : Master) (v : Word) (s : State) (s1 : State) (s2 : State), Reaches m Reg.PMU_CTL s ∧ bit v 1 = true ∧ plainWrite Reg.PMU_CTL v s = s1 ∧
      (s1.flt.counters.map (·.1)).foldl (fun a k => (noteCtr k a).setCtr k { a.ctr k with count := 0, ovf := s1.thisCyc.ctrWrap.contains k }) s1 =
      s2) ∧
    (∃ (r : MtxReq) (rest : List MtxReq) (s : State), s.alive = true ∧ s.mtx = r :: rest ∧ r.stage ≠ .port ∧ s.elapsed r.issued (s.rf Reg.MTX_TO 0
      20 * 1000) = true) ∧
    (∃ (s : State), Live Reg.MTX s) ∧
    (∃ (m : Master) (v : Word) (s : State), Reaches m Reg.MTX_CMD s ∧ s.alive = true ∧ bit v 0 = true) ∧
    (∃ (s : State), Live Reg.MTX s) ∧
    (∃ (s : State) (pre : List MtxReq) (r : MtxReq), s.reqReady pre r = true) :=
  ⟨⟨.host, 0, 0, R, by decide +kernel⟩,
    by refine ⟨.host, 0x408, 0, R, Reg.PMU + 0x408, 9216, ?i1, ?i2, ?i3⟩ <;> decide +kernel,
    by refine ⟨.host, 2, R, _, _, ?j1, ?j2, rfl, rfl⟩ <;> decide +kernel,
    by refine ⟨{ who := .host, addr := 0, write := false, val := 0, issued := 0 }, [],
      { R with bt := 0x400000000000000000, mtx := [{ who := .host, addr := 0, write := false, val := 0, issued := 0 }] }, ?k1, ?k2, ?k3, ?k4⟩
      <;> decide +kernel,
    ⟨R, by decide +kernel⟩,
    by refine ⟨.host, 1, R, ?m1, ?m2, ?m3⟩ <;> decide +kernel,
    ⟨R, by decide +kernel⟩,
    ⟨R, [], { who := .host, addr := Reg.BDR_RATE, write := true, val := 0, issued := 0 }, by decide +kernel⟩⟩

theorem test_met_memories_are_kept :
    (∃ (m : Master) (ch : Fin 2) (v : Word) (s : State), Reaches m (Reg.DDR_CMD ch) s ∧ bit v 0 = true ∧ bit v 1 = false) ∧
    (∃ (ch : Fin 2) (s : State), Live (Reg.DDR ch) s ∧ (s.ddrC ch).training = true ∧ (s.ddrC ch).zeroed = true) ∧
    (∃ (ch : Fin 2) (s : State), Live (Reg.DDR ch) s ∧ (s.ddrC ch).training = true ∧ (s.ddrC ch).zeroed = false) ∧
    (∃ (m : Master) (ch : Fin 2) (v : Word) (s : State), Reaches m (Reg.DDR_CMD ch) s ∧ bit v 0 = false ∧ bit v 1 = true) ∧
    (∃ (ch : Fin 2) (pages : List (BitVec 24)) (s : State), Acts (Reg.DDR ch) s ∧ s.ddrUp ch = true ∧ ((s.rf (Reg.DDR_SCRUB ch) 0 24 ≠ 0 ∨ (s.ddrC
      ch).scrub = true))) ∧
    (∃ (counts : List (Fin 128 × Byte)) (cnt : Nat → Nat) (s : State) (s1 : State), Acts Reg.MRM s ∧ s.rf Reg.MRM_SCRUB 0 24 ≠ 0 ∧ (∀ k, cnt k =
      ((counts.find? (fun p => decide (p.1.val = k))).map (fun p => p.2.toNat)).getD 0) ∧ (s.badWords.filter (fun p => p.2 && decide (2 ^ 40 +
      eaMram ≤ p.1) && decide (p.1 < 2 ^ 40 + eaMram + 2 ^ 24))).foldl (fun a _ => fault .mrm 0 1 (a.count Reg.MRM_CNT_UE)) s = s1) ∧
    (∃ (m : Master) (pc : Option DWord) (v : Word) (s : State), Reaches m Reg.MRM_CMD s ∧ bit v 8 = true ∧ s.remapRej pc (fld v 0 7) = 0) ∧
    (∃ (m : Master) (pc : Option DWord) (v : Word) (s : State), Reaches m Reg.MRM_CMD s ∧ bit v 8 = true ∧ s.remapRej pc (fld v 0 7) ≠ 0) ∧
    (∃ (m : Master) (pc : Option DWord) (v : Word) (s : State), Reaches m Reg.MRM_CMD s ∧ bit v 8 = true ∧ s.remapRej pc (fld v 0 7) ≠ 0) ∧
    (∃ (k : Nat) (s : State) (s1 : State) (s2 : State), Acts Reg.MRM s ∧ s.mrm.remap = some k ∧ (copySector (s.mramSector k) (128 + s.mrm.spares)
      s).setRf (Reg.MRM_MAP (k / 4)) (8 * (k % 4)) 8 (128 + s.mrm.spares) = s1 ∧ s1.mrm.heldWr = [] ∧ raiseEvt Reg.MRM 0
      ({ s1 with mrm := { s1.mrm with remap := none, spares := s1.mrm.spares + 1, heldWr := [] } }.setRb Reg.MRM_STAT 8 false) = s2 ∧ s2.mrm.remapQ
      = []) ∧
    (∃ (v : Word) (s : State), Reaches (.cluster 63) Reg.MRM_J_CMD s ∧ bit v 0 = true ∧ journalOk (s.reg Reg.MRM_J_DST).toNat (s.rf Reg.MRM_J_LEN 0
      13) = true ∧ (s.reg Reg.MRM_J_SRC).toNat + s.rf Reg.MRM_J_LEN 0 13 ≤ 2 ^ 25 ∧ s.memBad (eaSram + (s.reg Reg.MRM_J_SRC).toNat) (s.rf
      Reg.MRM_J_LEN 0 13) = false) ∧
    (∃ (w : JWrite) (s : State), Acts Reg.MRM s ∧ s.mrm.active = some w ∧ w.ring = none) ∧
    (∃ (w : JWrite) (s : State), s.mrm.active = none) ∧
    (∃ (w : JWrite) (s : State), s.mrm.active.isSome = true) :=
  ⟨by refine ⟨.host, 0, 1, R, ?a1, ?a2, ?a3⟩ <;> decide +kernel,
    by refine ⟨0, R.setDdrC 0 { training := true, zeroed := true }, ?b1, ?b2, ?b3⟩ <;> decide +kernel,
    by refine ⟨0, R.setDdrC 0 { training := true }, ?c1, ?c2, ?c3⟩ <;> decide +kernel,
    by refine ⟨.host, 0, 2, R, ?d1, ?d2, ?d3⟩ <;> decide +kernel,
    by refine ⟨0, [], rg [(Reg.DDR_STAT 0, 1), (Reg.DDR_SCRUB 0, 1)], ?e1, ?e2, ?e3⟩ <;> decide +kernel,
    ⟨[], (fun _ => 0), _, _, (by decide +kernel : Acts Reg.MRM (rg [(Reg.MRM_SCRUB, 1)])), by decide +kernel, fun _ => rfl, rfl⟩,
    by refine ⟨.host, none, 0x101, R, ?g1, ?g2, ?g3⟩ <;> decide +kernel,
    by refine ⟨.host, none, 0x100, R, ?h1, ?h2, ?h3⟩ <;> decide +kernel,
    by refine ⟨.host, none, 0x17F, R, ?i1, ?i2, ?i3⟩ <;> decide +kernel,
    by refine ⟨1, { R with mrm := { R.mrm with remap := some 1 } }, _, _, ?j1, ?j2, rfl, ?j3, rfl, ?j4⟩ <;> decide +kernel,
    by refine ⟨1, rg [(Reg.MRM_J_DST, 0x20000), (Reg.MRM_J_LEN, 8)], ?k1, ?k2, ?k3, ?k4, ?k5⟩ <;> decide +kernel,
    by refine ⟨{ ring := none, dst := 0x20000, data := List.replicate 8 0 },
      { R with mrm := { R.mrm with active := some { ring := none, dst := 0x20000, data := List.replicate 8 0 } } }, ?l1, ?l2, ?l3⟩
      <;> decide +kernel,
    ⟨{ ring := none, dst := 0, data := [] }, R, by decide +kernel⟩,
    ⟨{ ring := none, dst := 0, data := [] }, { R with mrm := { R.mrm with active := some { ring := none, dst := 0, data := [] } } },
      by decide +kernel⟩⟩

theorem test_met_host_and_serial_act :
    (∃ (r : Fin 4) (seq : Word) (opcode : BitVec 16) (s : State) (s1 : State), Acts Reg.PCI s ∧ s.crNext = some r.val ∧ ringPartial r
      { seq := seq, opcode := opcode.toNat } 0 1 ({ s with pci := { s.pci with rr := r } }.setRingCmd r (some
      { seq := seq, opcode := opcode.toNat })) = s1) ∧
    (∃ (r : Fin 4) (c : RingCmd) (s : State), Live Reg.PCI s ∧ s.ringCmd r = some c ∧ c.opcode = 0x0001) ∧
    (∃ (r : Fin 4) (c : RingCmd) (addr : DWord) (data : List Byte) (s : State), Live Reg.PCI s ∧ s.ringCmd r = some c ∧ c.opcode = 0x0010 ∧
      data.length ≤ 2 ^ 20 ∧ inSram addr.toNat data.length = true) ∧
    (∃ (r : Fin 4) (c : RingCmd) (addr : DWord) (res : DWord) (n : Word) (s : State), Live Reg.PCI s ∧ s.ringCmd r = some c ∧ c.opcode = 0x0011 ∧
      n.toNat ≤ 2 ^ 20 ∧ inSram addr.toNat n.toNat = true ∧ s.memBad addr.toNat n.toNat = false) ∧
    (∃ (r : Fin 4) (c : RingCmd) (ofs : Word) (data : List Byte) (s : State), Live Reg.PCI s ∧ s.ringCmd r = some c ∧ c.opcode = 0x0020 ∧
      s.mrm.active = none ∧ s.mrm.waiting = [] ∧ journalOk ofs.toNat data.length = true) ∧
    (∃ (r : Fin 4) (c : RingCmd) (ofs : Word) (data : List Byte) (s : State), Live Reg.PCI s ∧ s.ringCmd r = some c ∧ c.opcode = 0x0020 ∧
      s.mrm.active = none ∧ s.mrm.waiting = [] ∧ ((data.length < 8 ∨ 4096 < data.length ∨ data.length % 8 ≠ 0))) ∧
    (∃ (r : Fin 4) (c : RingCmd) (c1 : RingCmd) (block : List Byte) (l : List Byte) (addr : DWord) (st : MintStatus) (s : State) (s1 : State), Live
      Reg.PCI s ∧ s.ringCmd r = some c ∧ c.opcode = 0x0031 ∧ block.length = 72 ∧ mint block s = (st, l, s1) ∧ s1.ringCmd r = some c1) ∧
    (∃ (r : Fin 4) (port : Byte) (flags : Byte) (tag : Word) (data : List Byte) (e : List Byte) (s : State) (s1 : State) (s2 : State), Acts Reg.PCI
      s ∧ s.txReady r = true ∧ queuePop (s.rf (Reg.PCI_TX_FBQ r) 0 18) s = (.ok, e, s1) ∧ blockPush (s.rf (Reg.PCI_TX_Q r) 0 18) (s.hostDesc r
      (leAt e 0 5) port.toNat data.length flags tag) (s1.sharedWr (leAt e 0 5) data) = (.ok, s2)) ∧
    (∃ (lanes : BitVec 4) (gen : BitVec 3) (s : State), Live Reg.PCI s ∧ s.pci.linkUp = false ∧ s.pci.perst = false) ∧
    (∃ (m : Master) (v : Word) (s : State), Reaches m Reg.QSPI_CMD s ∧ bit v 31 = true ∧ bit v 13 = false ∧ bit v 8 = false ∧ s.lsp.qspi = none) ∧
    (∃ (data : List Byte) (buf : Nat) (n : Nat) (s : State), Live Reg.LSP s ∧ s.lsp.qspi = some (true, buf, n)) ∧
    (∃ (m : Master) (i : Fin 4) (v : Word) (s : State), Reaches m (Reg.I2C_XFER i) s ∧ bit v 31 = true ∧ AMap.get none s.lsp.i2c i.val = none ∧
      s.rb (Reg.I2C_CFG i) 4 = true ∧ fld v 8 5 ≤ 16 ∧ fld v 16 5 ≤ 16) ∧
    (∃ (i : Fin 4) (data : List Byte) (rl : Nat) (s : State), Live Reg.LSP s ∧ AMap.get none s.lsp.i2c i.val = some rl) ∧
    (∃ (m : Master) (u : Fin 4) (v : Word) (s : State), Reaches m (Reg.UART_TX u) s ∧ s.rb (Reg.UART_CFG u) 31 = true ∧ s.txTaken u = false ∧
      (s.uart u).tx.length < 64) ∧
    (∃ (u : Fin 4) (ch : Byte) (fe : Bool) (pe : Bool) (brk : Bool) (s : State), Live Reg.LSP s ∧ s.rb (Reg.UART_CFG u) 31 = true ∧ s.todBound u =
      false ∧ (s.uart u).rx.length < 64) ∧
    (∃ (g : Fin 32) (s : State) (s1 : State), Live Reg.LSP s ∧ bit s.lsp.gpioIn g = false ∧
      { s with lsp := { s.lsp with gpioIn := setBit s.lsp.gpioIn g true } } = s1 ∧ s1.gpioFunc g = 0 ∧ s1.rb Reg.GPIO_RISE g = true) ∧
    (∃ (m : Master) (v : Word) (s : State), Reaches m Reg.INV_CMD s ∧ bit v 0 = true ∧ s.lsp.invBusy = false) ∧
    (∃ (pr : List Bool) (bs : List (List Bool)) (cs : List (List Bool)) (x : InvWalk) (s : State) (s1 : State), Live Reg.LSP s ∧ s.lsp.invBusy =
      true ∧ (pr.zip (List.zipWith List.zip bs cs)).foldl InvWalk.attempt {} = x ∧ x.ended = true ∧ x.incomplete = false ∧ x.ids.zipIdx.foldl (fun
      a p => a.setRegN (Reg.INV_ID p.2) p.1.toNat 2) { s with lsp := { s.lsp with invBusy := false } } = s1) ∧
    (∃ (x : InvWalk) (l : List (Bool × Bool)) (bs : List Bool), x.ended = false ∧ walkFrom x.path 0 l = some (bs, []) ∧ bs.length = 64 ∧ idGood
      (idOf bs) = true) ∧
    (∃ (x : InvWalk) (l : List (Bool × Bool)), x.ended = false ∧ x.restarts < 3) ∧
    (∃ (x : InvWalk) (l : List (Bool × Bool)), x.ended = false ∧ x.restarts = 3) :=
  ⟨by refine ⟨0, 0, 1, { rg [(Reg.PCI_CR_CFG 0, 0x80000001), (Reg.PCI_CR_TAIL 0, 1)] with pci := { R.pci with linkUp := true, perst := false } },
      _, ?o1, ?o2, rfl⟩ <;> decide +kernel,
    by refine ⟨0, { seq := 0, opcode := 1 }, ringing 1, ?p1, ?p2, ?p3⟩ <;> decide +kernel,
    by refine ⟨0, { seq := 0, opcode := 0x10 }, BitVec.ofNat 64 eaSram, [], ringing 0x10, ?q1, ?q2, ?q3, ?q4, ?q5⟩ <;> decide +kernel,
    by refine ⟨0, { seq := 0, opcode := 0x11 }, BitVec.ofNat 64 eaSram, 0, 0, ringing 0x11, ?r1, ?r2, ?r3, ?r4, ?r5, ?r6⟩ <;> decide +kernel,
    by refine ⟨0, { seq := 0, opcode := 0x20 }, 0x20000, List.replicate 8 0, ringing 0x20, ?s1, ?s2, ?s3, ?s4, ?s5, ?s6⟩ <;> decide +kernel,
    by refine ⟨0, { seq := 0, opcode := 0x20 }, 0, List.replicate 9 0, ringing 0x20, ?t1, ?t2, ?t3, ?t4, ?t5, ?t6⟩ <;> decide +kernel,
    by refine ⟨0, { seq := 0, opcode := 0x31 }, { seq := 0, opcode := 0x31 }, List.replicate 72 0, _, 0, .disabled, ringing 0x31, _, ?u1, ?u2, ?u3,
      ?u4, tripleEq (by decide +kernel) rfl, ?u5⟩ <;> decide +kernel,
    by refine ⟨0, 15, 0, 0, List.replicate 60 0, List.replicate 16 0,
      { ((rg [(Reg.PCI_TX_CFG 0, 0x80000001), (Reg.PCI_TX_TAIL 0, 1), (Reg.PCI_TX_FBQ 0, 1), (Reg.PCI_TX_Q 0, 2)]).setQueue 1 { en := true, log2 := 1, tail := 1, base := BitVec.ofNat 32 (eaSram / 64) }).setQueue 2 { en := true, log2 := 1, esize := 1, base := BitVec.ofNat 32 (eaSram / 64 + 1) } with pci := { R.pci with linkUp := true, perst := false } },
      _, _, ?v1, ?v2, tripleEq (by decide +kernel) (by decide +kernel), pairEq (by decide +kernel)⟩ <;> decide +kernel,
    by refine ⟨0, 0, R, ?w1, ?w2, ?w3⟩ <;> decide +kernel,
    by refine ⟨.host, 0x80000000, R, ?x1, ?x2, ?x3, ?x4, ?x5⟩ <;> decide +kernel,
    by refine ⟨[], 0, 0, { R with lsp := { R.lsp with qspi := some (true, 0, 0) } }, ?y1, ?y2⟩ <;> decide +kernel,
    by refine ⟨.host, 0, 0x80000000, rg [(Reg.I2C_CFG 0, 16)], ?z1, ?z2, ?z3, ?z4, ?z5, ?z6⟩ <;> decide +kernel,
    by refine ⟨0, [], 0, { R with lsp := { R.lsp with i2c := [(0, some 0)] } }, ?ba1, ?ba2⟩ <;> decide +kernel,
    by refine ⟨.host, 0, 0, rg [(Reg.UART_CFG 0, 0x80000000)], ?bb1, ?bb2, ?bb3, ?bb4⟩ <;> decide +kernel,
    by refine ⟨0, 0, false, false, false, rg [(Reg.UART_CFG 0, 0x80000000)], ?bc1, ?bc2, ?bc3, ?bc4⟩ <;> decide +kernel,
    by refine ⟨0, rg [(Reg.GPIO_RISE, 1)], _, ?bd1, ?bd2, rfl, ?bd3, ?bd4⟩ <;> decide +kernel,
    by refine ⟨.host, 1, R, ?be1, ?be2, ?be3⟩ <;> decide +kernel,
    by refine ⟨[true], [List.replicate 64 true], [List.replicate 64 false], _, { R with lsp := { R.lsp with invBusy := true } }, _, ?bf1, ?bf2,
      rfl, ?bf3, ?bf4, rfl⟩ <;> decide +kernel,
    by refine ⟨{}, List.replicate 64 (true, false), List.replicate 64 false, ?bg1, ?bg2, ?bg3, ?bg4⟩ <;> decide +kernel,
    by refine ⟨{}, [], ?bh1, ?bh2⟩ <;> decide +kernel,
    by refine ⟨{ restarts := 3 }, [], ?bi1, ?bi2⟩ <;> decide +kernel⟩

theorem test_met_power_and_boot_act :
    (∃ (mhz : Byte) (b4 : Bool) (pref : Bool) (s : State) (s1 : State), s.pwr.good = false ∧ chipReset true
      { (s.resetRegs Reg.FLT_RSTCAUSE 0x10).setReg Reg.PWR_RSTCAUSE 0 with bt := 0, btRun := false } = s1) ∧
    (∃ (s : State), s.pwr.good = true ∧ s.btRun = false ∧ s.pwr.oscRatio ≠ 0) ∧
    (∃ (s : State) (s1 : State), s.pwr.good = true ∧ journalCut s = s1) ∧
    (∃ (s : State), s.pwr.good = true) ∧
    (∃ (straps : Option (Bool × Bool)) (b4 : Bool) (pref : Bool) (primary : List Byte) (secondary : List Byte) (s : State) (s1 : State) (s2 :
      State) (s3 : State), s.pwr.good = true ∧ s.btRun = true ∧ s.pwr.bootPend = true ∧ straps.getD (s.pwr.strapB4, s.pwr.strapPref) = (b4, pref) ∧
      bdrLeave (geoLeave (bootPrepare b4 pref { s with pwr := { s.pwr with held := false }, fct := { s.fct with since := s.bt } })) = s1 ∧ showPin
      { s1 with pwr := { s1.pwr with bootPend := false, coldPend := false }, flt := { s1.flt with chipRst := false } } = s2 ∧ bootImage primary s2
      = (none, s3)) ∧
    (∃ (straps : Option (Bool × Bool)) (b4 : Bool) (pref : Bool) (primary : List Byte) (secondary : List Byte) (s : State) (s1 : State) (s2 :
      State) (s3 : State) (r : LoadRej) (s4 : State), s.pwr.good = true ∧ s.btRun = true ∧ s.pwr.bootPend = true ∧ straps.getD (s.pwr.strapB4,
      s.pwr.strapPref) = (b4, pref) ∧ bdrLeave (geoLeave (bootPrepare b4 pref
      { s with pwr := { s.pwr with held := false }, fct := { s.fct with since := s.bt } })) = s1 ∧ showPin
      { s1 with pwr := { s1.pwr with bootPend := false, coldPend := false }, flt := { s1.flt with chipRst := false } } = s2 ∧ bootImage primary s2
      = (some r, s3) ∧ bootImage secondary (s3.setRf Reg.PWR_BOOT 4 4 r.code) = (none, s4)) ∧
    (∃ (straps : Option (Bool × Bool)) (b4 : Bool) (pref : Bool) (primary : List Byte) (secondary : List Byte) (s : State) (s1 : State) (s2 :
      State) (s3 : State) (r : LoadRej) (q : LoadRej) (s4 : State), s.pwr.good = true ∧ s.btRun = true ∧ s.pwr.bootPend = true ∧ straps.getD
      (s.pwr.strapB4, s.pwr.strapPref) = (b4, pref) ∧ bdrLeave (geoLeave (bootPrepare b4 pref
      { s with pwr := { s.pwr with held := false }, fct := { s.fct with since := s.bt } })) = s1 ∧ showPin
      { s1 with pwr := { s1.pwr with bootPend := false, coldPend := false }, flt := { s1.flt with chipRst := false } } = s2 ∧ bootImage primary s2
      = (some r, s3) ∧ bootImage secondary (s3.setRf Reg.PWR_BOOT 4 4 r.code) = (some q, s4)) ∧
    (∃ (s : State), s.alive = true) ∧
    (∃ (m : Master) (v : Word) (s : State) (s1 : State), Reaches m Reg.PWR_CMD s ∧ fld v 0 2 = 1 ∧ s.thisCyc.pwrCmds = [] ∧ s.thisCyc.quies = false
      ∧ { s with thisCyc := { s.thisCyc with pwrCmds := [(bdrRank m, 1, 0)] } } = s1 ∧ mayQuiesce m = true ∧ s.quiesceRej s.pwr.entering = 0) ∧
    (∃ (m : Master) (v : Word) (s : State) (s1 : State), Reaches m Reg.PWR_CMD s ∧ fld v 0 2 = 1 ∧ s.thisCyc.pwrCmds = [] ∧ s.thisCyc.quies = false
      ∧ { s with thisCyc := { s.thisCyc with pwrCmds := [(bdrRank m, 1, 0)] } } = s1 ∧ mayQuiesce m = true ∧ s.quiesceRej s.pwr.entering ≠ 0) ∧
    (∃ (s : State) (s1 : State) (s2 : State), s.alive = true ∧ s.pwr.entering = true ∧ forN 2 (fun ch a => if a.rb (Reg.DDR_STAT ch) 0 then a.setRb
      (Reg.DDR_STAT ch) 1 true else a) (forN 8 laneDrop s) = s1 ∧ (s1.setRf Reg.PWR_STATE 0 2 1).count Reg.PWR_CNT_QUIESCE = s2 ∧ s.pwr.wakeHeld =
      false) ∧
    (∃ (s : State) (s1 : State) (s2 : State), s.alive = true ∧ s.pwr.entering = true ∧ forN 2 (fun ch a => if a.rb (Reg.DDR_STAT ch) 0 then a.setRb
      (Reg.DDR_STAT ch) 1 true else a) (forN 8 laneDrop s) = s1 ∧ (s1.setRf Reg.PWR_STATE 0 2 1).count Reg.PWR_CNT_QUIESCE = s2 ∧ s.pwr.wakeHeld =
      true) ∧
    (∃ (v : Word) (s : State) (s1 : State), Reaches .host Reg.PWR_CMD s ∧ fld v 0 2 = 2 ∧ s.quiescent = true ∧ s.thisCyc.pwrCmds = [] ∧
      s.thisCyc.quies = false ∧ { s with thisCyc := { s.thisCyc with pwrCmds := [(bdrRank .host, 2, 0)] } } = s1) ∧
    (∃ (v : Word) (s : State), Reaches .host Reg.PWR_CMD s ∧ fld v 0 2 = 3 ∧ fld v 16 16 = 0x5253) ∧
    (∃ (t : BitVec 10) (s : State), Live Reg.PWR s ∧ 720 ≤ t.toNat ∧ t.toNat ≤ 800 ∧ t.toNat ≠ s.rf Reg.PWR_AVS 0 10) ∧
    (∃ (t : BitVec 10) (s : State), Live Reg.PWR s ∧ 720 ≤ t.toNat ∧ t.toNat ≤ 800 ∧ t.toNat ≠ s.rf Reg.PWR_AVS 0 10) ∧
    (∃ (s : State) (s1 : State) (s2 : State), s.alive = true ∧ s.pwr.exiting = true ∧ s.quiescent = true ∧ forN 2 (fun ch a => if a.rb
      (Reg.DDR_STAT ch) 0 then a.setRb (Reg.DDR_STAT ch) 1 false else a) (s.setRf Reg.PWR_STATE 0 2 2) = s1 ∧
      { s1 with pwr := { s1.pwr with exiting := false }, fct := { s1.fct with stopped := s1.fct.stopped + (s1.bt - s1.pwr.stopAt) } } = s2) ∧
    (∃ (m : Master) (v : Word) (s : State), Reaches m Reg.PWR_CMD s ∧ fld v 0 2 = 1) ∧
    (∃ (v : Word) (s : State) (s1 : State), Reaches .calendar Reg.PWR_CMD s ∧ fld v 0 2 = 2 ∧ s.thisCyc.pwrCmds = [] ∧ s.thisCyc.quies = false ∧
      { s with thisCyc := { s.thisCyc with pwrCmds := [(bdrRank .calendar, 2, 1)] } } = s1) ∧
    (∃ (s : State), s.quiescent = false ∧ s.pwr.wakeAt = some s.bt) ∧
    (∃ (s : State), s.pwr.good = false) :=
  ⟨⟨0, false, false, { R with pwr := { R.pwr with good := false } }, _, by decide +kernel, rfl⟩,
    by refine ⟨{ R with btRun := false }, ?b1, ?b2, ?b3⟩ <;> decide +kernel,
    ⟨R, _, by decide +kernel, rfl⟩,
    ⟨R, by decide +kernel⟩,
    by refine ⟨none, false, false, emptyImage, [], booting, bdrLeave (geoLeave prepared), trying, _, ?e1, ?e2, ?e3, ?e4, congrArg (fun u =>
      bdrLeave (geoLeave u)) released_prepared, rfl, pairEq (by decide +kernel)⟩ <;> decide +kernel,
    by refine ⟨none, false, false, [], emptyImage, booting, bdrLeave (geoLeave prepared), trying, _, .format, _, ?f1, ?f2, ?f3, ?f4, congrArg (fun
      u => bdrLeave (geoLeave u)) released_prepared, rfl, pairEq (by decide +kernel), pairEq (by decide +kernel)⟩ <;> decide +kernel,
    by refine ⟨none, false, false, [], [], booting, bdrLeave (geoLeave prepared), trying, _, .format, .format, _, ?g1, ?g2, ?g3, ?g4, congrArg (fun
      u => bdrLeave (geoLeave u)) released_prepared, rfl, pairEq (by decide +kernel), pairEq (by decide +kernel)⟩ <;> decide +kernel,
    ⟨R, by decide +kernel⟩,
    by refine ⟨.host, 1, R, _, ?i1, ?i2, ?i3, ?i4, rfl, ?i5, ?i6⟩ <;> decide +kernel,
    by refine ⟨.host, 1, rg [(Reg.PWR_STATE, 1)], _, ?j1, ?j2, ?j3, ?j4, rfl, ?j5, ?j6⟩ <;> decide +kernel,
    by refine ⟨{ R with pwr := { R.pwr with entering := true } }, _, _, ?k1, ?k2, rfl, rfl, ?k3⟩ <;> decide +kernel,
    by refine ⟨{ R with pwr := { R.pwr with entering := true, wakeHeld := true } }, _, _, ?l1, ?l2, rfl, rfl, ?l3⟩ <;> decide +kernel,
    by refine ⟨2, rg [(Reg.PWR_STATE, 1)], _, ?m1, ?m2, ?m3, ?m4, ?m5, rfl⟩ <;> decide +kernel,
    by refine ⟨0x52530003, R, ?n1, ?n2, ?n3⟩ <;> decide +kernel,
    by refine ⟨720, R, ?o1, ?o2, ?o3, ?o4⟩ <;> decide +kernel,
    by refine ⟨800, rg [(Reg.PWR_AVS, 720)], ?p1, ?p2, ?p3, ?p4⟩ <;> decide +kernel,
    by refine ⟨{ rg [(Reg.PWR_STATE, 1)] with pwr := { R.pwr with exiting := true } }, _, _, ?q1, ?q2, ?q3, rfl, rfl⟩ <;> decide +kernel,
    by refine ⟨.host, 1, R, ?r1, ?r2⟩ <;> decide +kernel,
    by refine ⟨2, R, _, ?s1, ?s2, ?s3, ?s4, rfl⟩ <;> decide +kernel,
    by refine ⟨{ R with pwr := { R.pwr with wakeAt := some 0 } }, ?t1, ?t2⟩ <;> decide +kernel,
    ⟨{ R with pwr := { R.pwr with good := false } }, by decide +kernel⟩⟩

theorem test_met_geode_acts :
    (∃ (off : Nat) (val : Nat) (s : State) (s1 : State), s.geo.busy = some (off, val) ∧ { s with geo := { s.geo with busy := none } }.setRb
      Reg.GEO_STAT 5 false = s1) ∧
    (∃ (m : Master) (v : Word) (s : State) (s1 : State), Reaches m (Reg.GEO + 0x05C) s ∧ s.dropStaged m (Reg.GEO + 0x054) 3 = s1 ∧ s1.geo.busy =
      none) ∧
    (∃ (s : State) (s1 : State), s.geoRuns = true ∧
      { s with geo := { s.geo with secs := s.geo.secs + 1, sub := 0, holdTicks := 0, turned := true } } = s1 ∧ s.alive = false) ∧
    (∃ (s : State) (s1 : State), s.geoRuns = true ∧
      { s with geo := { s.geo with secs := s.geo.secs + 1, sub := 0, holdTicks := 0, turned := true } } = s1 ∧ s.alive = true ∧ s.btRun = true) ∧
    (∃ (s : State), s.geoRuns = true ∧ s.geo.secs.toNat % 32 = 0 ∧ s.geo.sub = 0 ∧ s.geo.holdTicks = 0 ∧ 0 ≤ (bits (s.reg Reg.GEO_TRIM) 0 8).toInt) ∧
    (∃ (s : State), s.geoRuns = true ∧ s.geo.secs.toNat % 32 = 0 ∧ s.geo.sub = 0 ∧ s.geo.holdTicks = 0 ∧ (bits (s.reg Reg.GEO_TRIM) 0 8).toInt < 0) ∧
    (∃ (s : State) (s1 : State), s.rb Reg.GEO_CFG 0 = true ∧ s.geoRuns = true ∧ s.geo.turned = true ∧ s.geo.secs.toNat = s.regN Reg.GEO_ALARM 2 ∧
      showWake ({ s with geo := { s.geo with turned := false } }.hwSet Reg.GEO_STAT 0) = s1) ∧
    (∃ (i : Fin 2) (s : State) (s1 : State) (s2 : State) (s3 : State), s.rb Reg.GEO_TCFG (2 * i.val) = true ∧ s.rb Reg.GEO_TCFG (2 * i.val + 1) =
      true ∧ (s.hwSet Reg.GEO_STAT 1).hwSet Reg.GEO_STAT (8 + i.val) = s1 ∧ s1.setRegN Reg.GEO_TTIME s.geo.secs.toNat 2 = s2 ∧ showWake (if s.rb
      Reg.GEO_TCFG 8 then s2.resetRegs (Reg.GEO_BKP 0) 0x100 else s2) = s3) ∧
    (∃ (m : Master) (v : Word) (s : State), Reaches m Reg.GEO_STAT s ∧ s.geo.busy = none) ∧
    (∃ (s : State) (s1 : State), s.pwr.good = false ∧ s.resetRegs (Reg.GEO + 0x040) 0xFC0 = s1) ∧
    (∃ (s : State), Live Reg.GEO s) :=
  ⟨⟨0, 0, { R with geo := { R.geo with busy := some (0, 0) } }, _, by decide +kernel, rfl⟩,
    by refine ⟨.host, 0, R, _, ?w1, rfl, ?w2⟩ <;> decide +kernel,
    by refine ⟨{ R with pwr := { R.pwr with good := false } }, _, ?x1, rfl, ?x2⟩ <;> decide +kernel,
    by refine ⟨R, _, ?y1, rfl, ?y2, ?y3⟩ <;> decide +kernel,
    by refine ⟨R, ?z1, ?z2, ?z3, ?z4, ?z5⟩ <;> decide +kernel,
    by refine ⟨rg [(Reg.GEO_TRIM, 0x80)], ?ba1, ?ba2, ?ba3, ?ba4, ?ba5⟩ <;> decide +kernel,
    by refine ⟨{ rg [(Reg.GEO_CFG, 1)] with geo := { R.geo with turned := true } }, _, ?bb1, ?bb2, ?bb3, ?bb4, rfl⟩ <;> decide +kernel,
    by refine ⟨0, rg [(Reg.GEO_TCFG, 3)], _, _, _, ?bc1, ?bc2, rfl, rfl, rfl⟩ <;> decide +kernel,
    by refine ⟨.host, 0, R, ?bd1, ?bd2⟩ <;> decide +kernel,
    ⟨{ R with pwr := { R.pwr with good := false } }, _, by decide +kernel, rfl⟩,
    ⟨R, by decide +kernel⟩⟩

/-! ### Ill-formed commands are refused -/

theorem test_ill_value : (Instr.registerWrite .host .byte 0 0x100).wellFormed = false := by decide
theorem test_ill_register : (Instr.multiwordLoRead .host ⟨2, .word⟩).wellFormed = false := by decide
theorem test_ill_page : (Instr.softReset .host 0x1004 0).wellFormed = false := by decide
theorem test_ill_correction : (Instr.calDone []).wellFormed = false := by decide
theorem test_ill_sectors : (Instr.mramScrubPass [(0, 0), (0, 1)]).wellFormed = false := by decide
theorem test_ill_i2c : (Instr.i2cDone 0 true false false (List.replicate 17 0)).wellFormed = false := by decide
theorem test_ill_symbol :
    (Instr.channelIntegration 0
      { i := 0, q := 0, early := 0, late := 0, vEarly := 0, vLate := 0, ferr := 0, cn0 := 0, sync := false, symPos := 5,
        secLen := 5 }).wellFormed = false := by decide
theorem test_ill_lanes :
    (let x : JamLane := { lane := 1, words := [], phi := 0, peak := 0 }
    (Instr.jamEvaluate [x, x]).wellFormed) = false := by decide

/-! ### Worked examples of the spec and published vectors -/

/-- Chapter 2, "A RATE write with re-anchoring": step 4, and the term one second after the anchor. -/
theorem test_rate_accrues :
    TimeParams.accrued { R.bdr.par with rate := 0x8000000, anch := cyc 1000000000000 } (cyc 1100000000000) = 12207031 ∧
      TimeParams.accrued { R.bdr.par with rate := 0xFFFF0000000, anch := 0 } (cyc 1000000000) = -244141 := by
  decide +kernel
/-- Chapter 2, "A slew of +1.5 µs over 10 s": step 4. -/
theorem test_slew_halfway :
    TimeParams.slewed { R.bdr.par with slewAct := true, sbeg := 0, amt := 0x5DC0000, dur := 0x989680 } (cyc 5000000000) = 49152000 := by
  decide +kernel
/-- Chapter 2, "A tie at a second boundary". -/
theorem test_tie_at_second :
    toPt80 (BitVec.ofNat 96 (1735689636999999999 * 65536 + 32768)) = BitVec.ofNat 80 (1735689637 * 2 ^ 32) := by
  decide +kernel
/-- Chapter 3, the worked example of R154 and R155. -/
theorem test_accuracy_and_variance : clockAccuracy 14181 = 0x20 ∧ log256 112025 = 4295 := by decide +kernel
/-- The check value of CRC-32C. -/
theorem test_crc32c : crc32c [0x31, 0x32, 0x33, 0x34, 0x35, 0x36, 0x37, 0x38, 0x39] = 0xE3069283 := by decide +kernel
/-- FIPS 180-4, the hash of "abc". -/
theorem test_sha256_abc :
    natBE (sha256 [0x61, 0x62, 0x63]) = 0xBA7816BF8F01CFEA414140DE5DAE2223B00361A396177A9CB410FF61F20015AD := by decide +kernel
/-- FIPS 197, appendix C.1. -/
theorem test_aes_encrypts :
    natBE (aesEnc (bytesBE 16 0x000102030405060708090A0B0C0D0E0F) (bytesBE 16 0x00112233445566778899AABBCCDDEEFF)) =
      0x69C4E0D86A7B0430D8CDB78070B4C55A := by
  rw [enc_f (round_f _)]; decide +kernel
/-- Chapter 2, "A tie at a second boundary": the NT64 value. -/
theorem test_nt64_of_tie :
    toNt64 37 (BitVec.ofNat 96 (1735689636999999999 * 65536 + 32768)) = 0xEB1F03FFFFFFFFFE := by decide +kernel

end Sys2Proof.Tests
end

section
/-! O7: the writes that the device ignores (R12, R37, R110, R938). Bit fields of a word come first, then the changes that bring nothing
about elsewhere in their cycle, then the three guarded writes. -/
namespace Sys2Proof.Machine

/-! ### Fields and bits of a word -/

/-- A replaced field as place values: what lies above the field, its new bits, and what lies below it. -/
theorem setFld_eq (x : Word) (lo n v : Nat) :
    setFld x lo n v = BitVec.ofNat 32 (2 ^ lo * (2 ^ n * (x.toNat / 2 ^ lo / 2 ^ n) + v % 2 ^ n) + x.toNat % 2 ^ lo) := by
  have hlo := Nat.div_add_mod x.toNat (2 ^ lo)
  have hn := Nat.div_add_mod (x.toNat / 2 ^ lo) (2 ^ n)
  unfold setFld fld
  rw [Nat.shiftRight_eq_div_pow]
  congr 1
  generalize x.toNat / 2 ^ lo / 2 ^ n = high at *
  generalize x.toNat / 2 ^ lo % 2 ^ n = old at *
  have hx : x.toNat = 2 ^ lo * (2 ^ n * high) + old * 2 ^ lo + x.toNat % 2 ^ lo := by
    rw [← hn, Nat.mul_add, Nat.mul_comm _ old] at hlo
    exact hlo.symm
  rw [Nat.mul_add, Nat.mul_comm _ (v % 2 ^ n)]
  omega

/-- Inside a replaced field the bits are the new value's, elsewhere the word's own. -/
theorem getLsbD_setFld (x : Word) (lo n v i : Nat) (hi : i < 32) :
    (setFld x lo n v).getLsbD i = if lo ≤ i ∧ i < lo + n then v.testBit (i - lo) else x.getLsbD i := by
  rw [setFld_eq, BitVec.getLsbD_ofNat, Nat.testBit_two_pow_mul_add _ (Nat.mod_lt _ (Nat.two_pow_pos lo)),
    Nat.testBit_two_pow_mul_add _ (Nat.mod_lt _ (Nat.two_pow_pos n))]
  by_cases hlo : i < lo
  · simp [hi, hlo, Nat.not_le.mpr hlo, BitVec.testBit_toNat]
  · by_cases hn : i - lo < n
    · have hin : lo ≤ i ∧ i < lo + n := by omega
      simp [hi, hlo, hn, hin]
    · have hout : ¬ (lo ≤ i ∧ i < lo + n) := by omega
      have hplace : i - lo - n + n + lo = i := by omega
      simp [hi, hlo, hn, hout, Nat.testBit_div_two_pow, BitVec.testBit_toNat, hplace]

theorem testBit_fld {w : Nat} (x : BitVec w) (lo n i : Nat) : (fld x lo n).testBit i = (decide (i < n) && x.getLsbD (lo + i)) := by
  rw [fld, Nat.testBit_mod_two_pow, Nat.testBit_shiftRight, BitVec.testBit_toNat]

/-- A field of a register is the same in two states when each of its bits is. -/
theorem State.rf_congr {s t : State} {a lo n : Nat} (h : ∀ i < n, t.rb a (lo + i) = s.rb a (lo + i)) : t.rf a lo n = s.rf a lo n := by
  refine Nat.eq_of_testBit_eq fun i => ?_
  rw [State.rf, State.rf, testBit_fld, testBit_fld]
  by_cases hi : i < n
  · exact congrArg (decide (i < n) && ·) (h i hi)
  · simp [hi]

/-- A field is 0 when each of its bits is. -/
theorem State.rf_eq_zero {s : State} {a lo n : Nat} (h : ∀ i < n, s.rb a (lo + i) = false) : s.rf a lo n = 0 := by
  refine Nat.eq_of_testBit_eq fun i => ?_
  rw [State.rf, testBit_fld, Nat.zero_testBit]
  by_cases hi : i < n
  · exact (congrArg (decide (i < n) && ·) (h i hi)).trans (Bool.and_false _)
  · simp [hi]

/-- A bit reads what was written to it, and the register's other bits read as before. -/
theorem State.rb_setRb_same (s : State) (a i j : Nat) (b : Bool) (hj : j < 32) :
    (s.setRb a i b).rb a j = if i = j then b else s.rb a j := by
  rw [State.rb, State.reg_setRb, if_pos rfl, bit, getLsbD_setFld _ _ _ _ _ hj]
  by_cases h : i = j
  · subst h
    cases b <;> simp [b2n]
  · have hne : ¬ (i ≤ j ∧ j < i + 1) := by omega
    rw [if_neg hne, if_neg h, State.rb, bit]

/-- A write of ones to W1C bits clears those of the mask that the device has not set in the same cycle (R10, R12). -/
theorem State.rb_w1cWrite (s : State) (a mask i : Nat) (v : Word) (hi : i < 32) :
    (w1cWrite a mask v s).rb a i = (s.rb a i && !(v.getLsbD i && mask.testBit i && !(s.setNow a).getLsbD i)) := by
  simp only [State.rb, w1cWrite, State.reg_setReg, if_true, bit, BitVec.getLsbD_and, BitVec.getLsbD_not, BitVec.getLsbD_ofNat, hi,
    decide_true, Bool.true_and]

/-! ### Changes that bring nothing about elsewhere -/

theorem tsReach_of_ts_eq {s t : State} (h : t.asy.ts = s.asy.ts) : tsReach s t = t := if_pos h

/-- A change that leaves the stores of REF and of the loops alone writes no word that their checkers watch. -/
theorem ownStores_of_eq {s t : State} (href : ∀ o ∈ refOwnWords, t.reg (Reg.REF + o) = s.reg (Reg.REF + o)) (hdpl : t.dpl = s.dpl) :
    ownStores s t = t := by
  have hfold : ∀ l : List Nat, (∀ o ∈ l, t.reg (Reg.REF + o) = s.reg (Reg.REF + o)) →
      l.foldl (fun a o => if t.reg (Reg.REF + o) = s.reg (Reg.REF + o) then a else storeMark .ref 0 o a) t = t := by
    intro l hl
    induction l with
    | nil => rfl
    | cons o l ih =>
      rw [List.foldl_cons, if_pos (hl o (List.mem_cons_self ..))]
      exact ih fun o' ho' => hl o' (List.mem_cons_of_mem _ ho')
  have hdplS : ∀ l, t.dplS l = s.dplS l := fun l => by simp only [State.dplS, hdpl]
  unfold ownStores
  split
  · rfl
  · dsimp only
    rw [hfold _ href]
    exact forN_fixed fun l => if_pos (by rw [hdplS])

/-- A change that leaves the time status and the stores of REF and of the loops alone reaches nothing else in its cycle. -/
theorem settle_of_eq {s t : State} (hts : t.asy.ts = s.asy.ts) (href : ∀ o ∈ refOwnWords, t.reg (Reg.REF + o) = s.reg (Reg.REF + o))
    (hdpl : t.dpl = s.dpl) : settle s t = t := by
  rw [settle, tsReach_of_ts_eq hts, ownStores_of_eq href hdpl]

theorem refOwnWords_lt : ∀ o ∈ refOwnWords, o < 0x1000 := by decide +kernel

/-! ### What a fault that has no effect beyond its page leaves alone -/

/-- From s to t nothing has changed of ASY, of the loops, and of the registers below the FLT page. The fault collector, the event
collector and the PMU lie at or above it. -/
structure LowFrame (s t : State) : Prop where
  asy : t.asy = s.asy
  dpl : t.dpl = s.dpl
  reg : ∀ a < Reg.FLT, t.reg a = s.reg a

namespace LowFrame

theorem refl (s : State) : LowFrame s s := ⟨rfl, rfl, fun _ _ => rfl⟩

theorem trans {s t u : State} (h : LowFrame s t) (k : LowFrame t u) : LowFrame s u :=
  ⟨k.asy.trans h.asy, k.dpl.trans h.dpl, fun a ha => (k.reg a ha).trans (h.reg a ha)⟩

/-- A change of other fields of the state than the registers, ASY and the loops. -/
theorem of_eq {s t : State} (hasy : t.asy = s.asy) (hdpl : t.dpl = s.dpl) (hregs : t.regs = s.regs) : LowFrame s t :=
  ⟨hasy, hdpl, fun a _ => State.reg_congr hregs a⟩

theorem setReg (s : State) {a : Nat} (v : Word) (ha : Reg.FLT ≤ a) : LowFrame s (s.setReg a v) :=
  ⟨rfl, rfl, fun b hb => by rw [State.reg_setReg, if_neg (Nat.ne_of_gt (Nat.lt_of_lt_of_le hb ha))]⟩

theorem hwSet (s : State) {a : Nat} (i : Nat) (ha : Reg.FLT ≤ a) : LowFrame s (s.hwSet a i) := by
  have hset : LowFrame s (s.setRb a i true) := setReg s _ ha
  unfold State.hwSet
  split
  · exact hset.trans (of_eq rfl rfl rfl)
  · exact hset

theorem raiseEvt (s : State) {pg : Nat} (i : Nat) (hpg : Reg.FLT ≤ pg) : LowFrame s (raiseEvt pg i s) := by
  have hset : LowFrame s (s.hwSet (pg + 0x010) i) := hwSet s i (Nat.le_add_right_of_le hpg)
  unfold Machine.raiseEvt
  dsimp only
  split
  · exact hset
  · split
    · exact hset
    · exact hset.trans (of_eq rfl rfl rfl)

theorem bumpCtr (k : Nat) (s : State) : LowFrame s (bumpCtr k s).1 := by
  have hovf (t : State) (c : Bool) (h : LowFrame s t) :
      LowFrame s (if c then t.setReg Reg.PMU_OVF_UNIT (BitVec.ofNat 32 (k / 16)) else t) := by
    cases c
    · exact h
    · exact h.trans (setReg t _ (by decide))
  unfold Machine.bumpCtr
  refine hovf _ _ ?_
  dsimp only
  split <;> split <;> exact of_eq rfl rfl rfl

theorem bumpChip (code inst : Nat) (s : State) : LowFrame s (bumpChip code inst s).1 := by
  have hfold : ∀ (l : List Nat) (p : State × Bool), LowFrame s p.1 →
      LowFrame s (l.foldl (fun a k => let r := Machine.bumpCtr k a.1; (r.1, a.2 || r.2)) p).1 := by
    intro l
    induction l with
    | nil => exact fun _ h => h
    | cons k l ih => exact fun p h => ih _ (h.trans (bumpCtr k p.1))
  exact hfold _ _ (refl s)

theorem pmuChip (code inst : Nat) (s : State) : LowFrame s (pmuChip code inst s) := by
  have hbump := bumpChip code inst s
  unfold Machine.pmuChip
  split <;> rename_i s1 heq <;> rw [heq] at hbump
  · exact hbump.trans (raiseEvt s1 1 (by decide))
  · exact hbump

theorem showPin (s : State) : LowFrame s (showPin s) := by
  unfold Machine.showPin
  dsimp only
  split
  · exact refl s
  · exact of_eq rfl rfl rfl

theorem takeAction (code n : Nat) (s : State) : LowFrame s (takeAction code n s) := of_eq rfl rfl rfl

theorem startTimer (n : Nat) (s : State) : LowFrame s (startTimer n s) := of_eq rfl rfl rfl

/-- A source that rises is noted in the pages of the collectors and of the PMU alone; its action is due at the end of the cycle. -/
theorem srcRise (n : Nat) (s : State) : LowFrame s (srcRise n s) := by
  have hsrc : Reg.FLT ≤ Reg.FLT_SRC n := by simp only [Reg.FLT, Reg.FLT_SRC]; omega
  have hshown : LowFrame s (Machine.showPin (Machine.pmuChip 0x11 0 (s.setRf (Reg.FLT_SRC n) 29 3 4))) :=
    ((setReg s _ hsrc).trans (pmuChip _ _ _)).trans (showPin _)
  unfold Machine.srcRise
  dsimp only
  split
  · exact hshown.trans (takeAction ..)
  · exact hshown.trans (takeAction ..)
  · exact (hshown.trans (raiseEvt _ 0 (Nat.le_refl _))).trans (startTimer ..)
  · exact hshown.trans (takeAction ..)

theorem raiseFlt (s : State) {pg : Nat} (i : Nat) (hpg : Reg.FLT ≤ pg) : LowFrame s (raiseFlt pg i s) := by
  have hset : LowFrame s (s.hwSet (pg + 0x020) i) := hwSet s i (Nat.le_add_right_of_le hpg)
  unfold Machine.raiseFlt
  dsimp only
  split
  · exact hset
  · split
    · exact hset
    · exact hset.trans (srcRise _ _)

/-- The fault of the sum store raises its source and has the sums computed again (R906). -/
theorem fault_mtx_sum (s : State) : LowFrame s (fault .mtx 0 1 s) :=
  (raiseFlt s (pg := Reg.MTX + 0 * 0x1000) 1 (by decide)).trans (setReg _ _ (by decide))

theorem sumMark (a : Nat) (r : RegRow) (old s : State) : LowFrame s (sumMark a r old s) := by
  unfold Machine.sumMark
  split
  · exact fault_mtx_sum s
  · exact refl s

end LowFrame

/-! ### CTL with TYPE 0 (R110) -/

theorem exec_slotClear {m : Master} {n : BitVec 12} {v : Word} {s : State} (hg : slotGate m true s = .go) :
    exec (.slotClear m n v) s = .next (settle s (wrSlotCtl n.toNat v s)) := by
  show execSlotClear m n v s = _
  simp only [execSlotClear, slotW, hg, wrSlotWord]

/-- A slot that is being taken, or has its outcome, disregards TYPE 0. -/
theorem wrSlotCtl_ignored {n : Nat} {v : Word} {s : State} (hv : fld v 28 4 = 0)
    (h : s.slotGoing n = true ∨ (s.actSlot n).st = .applied ∨ (s.actSlot n).st = .notApplied) : wrSlotCtl n v s = s := by
  unfold wrSlotCtl
  by_cases hg : s.slotGoing n = true
  · rw [if_pos hg]
  · rw [if_neg hg, if_pos hv, if_pos (h.resolve_left hg)]

/-- Any other slot becomes EMPTY, keeping LATE_OK and COND as written; a handover that it held is armed no longer. -/
theorem wrSlotCtl_empties {n : Nat} {v : Word} {s : State} (hv : fld v 28 4 = 0) (hg : s.slotGoing n = false)
    (ha : (s.actSlot n).st ≠ .applied) (hn : (s.actSlot n).st ≠ .notApplied) :
    wrSlotCtl n v s = hoDrop n (s.setActSlot n { lateOk := bit v 23, cond := bits v 21 2 }) := by
  unfold wrSlotCtl
  rw [if_neg (by simp [hg]), if_pos hv, if_neg (by simp [ha, hn])]

theorem actSlot_setActSlot (s : State) (n k : Nat) (x : Slot) : (s.setActSlot n x).actSlot k = if n = k then x else s.actSlot k :=
  AMap.get_set ..

theorem settle_hoDrop_setActSlot (n : Nat) (x : Slot) (s : State) : settle s (hoDrop n (s.setActSlot n x)) = hoDrop n (s.setActSlot n x) :=
  settle_of_eq rfl (fun _ _ => rfl) rfl

/-- After a TYPE 0 that is taken the slot is EMPTY. -/
theorem exec_slotClear_empties {m : Master} {n : BitVec 12} {v : Word} {s : State} (hg : slotGate m true s = .go) (hv : fld v 28 4 = 0)
    (hgo : s.slotGoing n.toNat = false) (ha : (s.actSlot n.toNat).st ≠ .applied) (hn : (s.actSlot n.toNat).st ≠ .notApplied) :
    ∃ t, exec (.slotClear m n v) s = .next t ∧ (t.actSlot n.toNat).st = .empty := by
  rw [exec_slotClear hg, wrSlotCtl_empties hv hgo ha hn, settle_hoDrop_setActSlot]
  refine ⟨_, rfl, ?_⟩
  show ((s.setActSlot n.toNat _).actSlot n.toNat).st = .empty
  rw [actSlot_setActSlot, if_pos rfl]

/-! ### B4MODE (R37) -/

/-- The row of SYS_COMPAT: B4MODE is its one writable bit, under CFG_LOCK. -/
def compatRow : RegRow := { name := "SYS_COMPAT", off := 0x1F0, rwl := 0x1, dyn := true }

theorem pageAt_compat : pageAt Reg.SYS_COMPAT = some (⟨.sys, 0x0000000, 1, 0x0001, 0x0⟩, 0, 0x1F0) := by decide
theorem rowAt_compat : rowAt .sys 0x1F0 = some (compatRow, 0, 0, 0) := by decide

/-- No store of the SYS page is checked, so that INJECT can only meet the sum over the configuration. -/
theorem injectNote_compat (old s : State) : injectNote Reg.SYS_COMPAT old s = sumMark Reg.SYS_COMPAT compatRow old s := by
  simp only [injectNote, pageAt_compat, rowAt_compat]
  rfl

theorem wrote_compat_self (s : State) : wrote Reg.SYS_COMPAT s s = s := by
  have hsum : sumMark Reg.SYS_COMPAT compatRow s s = s := by simp [sumMark]
  rw [wrote, injectNote_compat, hsum, settle_self]

theorem exec_b4modeWrite {m : Master} {v : Word} {s : State} (h : Reaches m Reg.SYS_COMPAT s) :
    exec (.b4modeWrite m v) s = .next (wrote Reg.SYS_COMPAT s (wrCompat v s)) := by
  show writeCmd m Reg.SYS_COMPAT 4 v.toNat s = _
  rw [writeCmd_arrives ⟨h, by decide, by decide⟩, pageWrite_body pageAt_compat (by decide) rowAt_compat (by decide)]
  simp [bodyWrite, wrote]

theorem wrCompat_enabled {v : Word} {s : State} (h : ∃ p < 16, s.pgEn (Reg.PRT p) = true) : wrCompat v s = s := by
  obtain ⟨p, hp, hen⟩ := h
  exact if_pos (List.any_eq_true.mpr ⟨p, List.mem_range.mpr hp, hen⟩)

theorem wrCompat_disabled {v : Word} {s : State} (h : ∀ p < 16, s.pgEn (Reg.PRT p) = false) :
    wrCompat v s = plainWrite Reg.SYS_COMPAT v s := by
  have hany : (List.range 16).any (fun p => s.pgEn (Reg.PRT p)) = false :=
    List.any_eq_false.mpr fun p hp => by rw [h p (List.mem_range.mp hp)]; decide
  exact if_neg (by simp [hany])

/-- Unless CFG_LOCK holds it, B4MODE takes the bit written. -/
theorem rb_plainWrite_compat {v : Word} {s : State} (hl : s.rb (Reg.SYS + 0x008) 3 = false) :
    (plainWrite Reg.SYS_COMPAT v s).rb Reg.SYS_COMPAT 0 = bit v 0 := by
  have hlock : s.pgLock 0 = false := hl
  simp [plainWrite, State.rb, State.merged, pageAt_compat, rowAt_compat, hlock, RegRow.merge, RegRow.writable, RegRow.mask, compatRow, bit]

/-- SYS_COMPAT lies in no store that a checker of REF or of a loop watches: what its write can bring about in its cycle is the fault of
the sum store, and no more. -/
theorem wrote_compat (v : Word) (s : State) :
    wrote Reg.SYS_COMPAT s (plainWrite Reg.SYS_COMPAT v s) =
      sumMark Reg.SYS_COMPAT compatRow s (plainWrite Reg.SYS_COMPAT v s) := by
  have hsum := LowFrame.sumMark Reg.SYS_COMPAT compatRow s (plainWrite Reg.SYS_COMPAT v s)
  rw [wrote, injectNote_compat]
  refine settle_of_eq (by rw [hsum.asy]; rfl) (fun o ho => ?_) hsum.dpl
  have hlt := refOwnWords_lt o ho
  rw [hsum.reg _ (by simp only [Reg.REF, Reg.FLT]; omega), plainWrite, State.reg_setReg,
    if_neg (by simp only [Reg.REF, Reg.SYS_COMPAT]; omega)]

theorem exec_b4modeWrite_disabled {m : Master} {v : Word} {s : State} (h : Reaches m Reg.SYS_COMPAT s)
    (hp : ∀ p < 16, s.pgEn (Reg.PRT p) = false) (hl : s.rb (Reg.SYS + 0x008) 3 = false) :
    ∃ t, exec (.b4modeWrite m v) s = .next t ∧ t.rb Reg.SYS_COMPAT 0 = bit v 0 := by
  rw [exec_b4modeWrite h, wrCompat_disabled hp, wrote_compat]
  refine ⟨_, rfl, ?_⟩
  rw [State.rb, (LowFrame.sumMark ..).reg _ (by decide)]
  exact rb_plainWrite_compat hl

/-! ### The W1C of TAMPER (R12, R938) -/

theorem rb_showWake (s : State) (a i : Nat) : (showWake s).rb a i = s.rb a i := by
  unfold showWake
  dsimp only
  split <;> rfl

theorem setNow_setRb (s : State) (a i b : Nat) (x : Bool) : (s.setRb a i x).setNow b = s.setNow b := rfl
theorem setNow_w1cWrite (s : State) (a mask b : Nat) (v : Word) : (w1cWrite a mask v s).setNow b = s.setNow b := rfl

/-- The plain W1C bits of GEO_STAT are ALARM, VLOST and WDROP; clearing them leaves every other bit as it is (R944). -/
theorem rb_w1cWrite_stat {s : State} {v : Word} {i : Nat} (hi : i < 32) (hm : (0x89).testBit i = false) :
    (w1cWrite Reg.GEO_STAT 0x89 v s).rb Reg.GEO_STAT i = s.rb Reg.GEO_STAT i := by
  rw [State.rb_w1cWrite _ _ _ _ _ hi, hm]
  simp

theorem geoStat_erased {s : State} {v : Word} (he : s.rb Reg.GEO_STAT 4 = true) (hv : bit v 1 = true) :
    geoStat v s = (w1cWrite Reg.GEO_STAT 0x302 0x302 (w1cWrite Reg.GEO_STAT 0x89 v s)).setRb Reg.GEO_STAT 4 false :=
  if_pos (by rw [rb_w1cWrite_stat (by decide) (by decide), he, hv]; rfl)

/-- With ERASED=1 a W1C of TAMPER clears ERASED. -/
theorem rb_geoStat_erased {s : State} {v : Word} (he : s.rb Reg.GEO_STAT 4 = true) (hv : bit v 1 = true) :
    (geoStat v s).rb Reg.GEO_STAT 4 = false := by
  rw [geoStat_erased he hv, State.rb_setRb_same _ _ _ _ _ (by decide), if_pos rfl]

/-- With ERASED=1 a W1C of TAMPER clears TAMPER and TSRC, but for a bit that is set in the same cycle. -/
theorem rb_geoStat_tamper {s : State} {v : Word} {i : Nat} (he : s.rb Reg.GEO_STAT 4 = true) (hv : bit v 1 = true)
    (hi : i = 1 ∨ i = 8 ∨ i = 9) :
    (geoStat v s).rb Reg.GEO_STAT i = (s.rb Reg.GEO_STAT i && (s.setNow Reg.GEO_STAT).getLsbD i) := by
  obtain ⟨h32, h4, hown, hone, hmask⟩ : i < 32 ∧ 4 ≠ i ∧ (0x89).testBit i = false ∧ (0x302 : Word).getLsbD i = true ∧
      (0x302).testBit i = true := by
    rcases hi with rfl | rfl | rfl <;> decide
  rw [geoStat_erased he hv, State.rb_setRb_same _ _ _ _ _ h32, if_neg h4, State.rb_w1cWrite _ _ _ _ _ h32,
    rb_w1cWrite_stat h32 hown, setNow_w1cWrite, hone, hmask, Bool.true_and, Bool.true_and, Bool.not_not]

/-- Without ERASED, or without a 1 at TAMPER, a write of GEO_STAT leaves TAMPER, TSRC and ERASED as they are. -/
theorem rb_geoStat_kept {s : State} {v : Word} {i : Nat} (h : s.rb Reg.GEO_STAT 4 = false ∨ bit v 1 = false)
    (hi : i < 32) (hm : (0x89).testBit i = false) : (geoStat v s).rb Reg.GEO_STAT i = s.rb Reg.GEO_STAT i := by
  have hoff : (bit v 1 && (w1cWrite Reg.GEO_STAT 0x89 v s).rb Reg.GEO_STAT 4) = false := by
    rw [rb_w1cWrite_stat (by decide) (by decide)]
    rcases h with h | h <;> simp [h]
  simp [geoStat, hoff, rb_w1cWrite_stat hi hm]

/-- The Geode as the write under way lands: no write is under way any longer (R929). -/
def geoLanding (s : State) : State := { s with geo := { s.geo with busy := none } }.setRb Reg.GEO_STAT 5 false

theorem rb_geoLanding {s : State} {i : Nat} (hi : i < 32) (h5 : 5 ≠ i) : (geoLanding s).rb Reg.GEO_STAT i = s.rb Reg.GEO_STAT i := by
  rw [geoLanding, State.rb_setRb_same _ _ _ _ _ hi, if_neg h5]
  rfl

theorem setNow_geoLanding (s : State) (a : Nat) : (geoLanding s).setNow a = s.setNow a := rfl

/-- GEO_WRITE_LAND of a write of GEO_STAT. -/
theorem exec_geoWriteLand_stat {val : Nat} {s : State} (h : s.geo.busy = some (0x044, val)) :
    exec .geoWriteLand s = .next (showWake (geoStat (BitVec.ofNat 32 val) (geoLanding s))) := by
  show Host.Outcome.next (geoLand s) = _
  unfold geoLand
  simp only [h]
  rfl

theorem geoLand_tamper_erased {v : Word} {s : State} (he : s.rb Reg.GEO_STAT 4 = true) (hv : bit v 1 = true) :
    let t := showWake (geoStat v (geoLanding s))
    t.rb Reg.GEO_STAT 4 = false ∧
      (s.setNow Reg.GEO_STAT = 0 → t.rb Reg.GEO_STAT 1 = false ∧ t.rf Reg.GEO_STAT 8 2 = 0) ∧
      (bit (s.setNow Reg.GEO_STAT) 1 = true → t.rb Reg.GEO_STAT 1 = s.rb Reg.GEO_STAT 1) := by
  intro t
  have he' : (geoLanding s).rb Reg.GEO_STAT 4 = true := by rw [rb_geoLanding (by decide) (by decide), he]
  have hbit : ∀ i, i = 1 ∨ i = 8 ∨ i = 9 →
      t.rb Reg.GEO_STAT i = (s.rb Reg.GEO_STAT i && (s.setNow Reg.GEO_STAT).getLsbD i) := fun i hi => by
    rw [rb_showWake, rb_geoStat_tamper he' hv hi, rb_geoLanding (by omega) (by omega), setNow_geoLanding]
  refine ⟨?_, fun hz => ⟨?_, State.rf_eq_zero fun i hi => ?_⟩, fun hset => ?_⟩
  · rw [rb_showWake, rb_geoStat_erased he' hv]
  · rw [hbit 1 (.inl rfl), hz]
    simp
  · rw [hbit (8 + i) (by omega), hz]
    simp
  · rw [hbit 1 (.inl rfl), show (s.setNow Reg.GEO_STAT).getLsbD 1 = true from hset, Bool.and_true]

theorem geoLand_tamper_kept {v : Word} {s : State} (h : s.rb Reg.GEO_STAT 4 = false ∨ bit v 1 = false) :
    let t := showWake (geoStat v (geoLanding s))
    t.rb Reg.GEO_STAT 1 = s.rb Reg.GEO_STAT 1 ∧ t.rf Reg.GEO_STAT 8 2 = s.rf Reg.GEO_STAT 8 2 ∧
      t.rb Reg.GEO_STAT 4 = s.rb Reg.GEO_STAT 4 := by
  intro t
  have h' : (geoLanding s).rb Reg.GEO_STAT 4 = false ∨ bit v 1 = false := by rwa [rb_geoLanding (by decide) (by decide)]
  have hbit : ∀ i, i < 32 → 5 ≠ i → (0x89).testBit i = false → t.rb Reg.GEO_STAT i = s.rb Reg.GEO_STAT i := fun i hi h5 hm => by
    rw [rb_showWake, rb_geoStat_kept h' hi hm, rb_geoLanding hi h5]
  refine ⟨hbit 1 (by decide) (by decide) (by decide), State.rf_congr fun i hi => ?_, hbit 4 (by decide) (by decide) (by decide)⟩
  have hm : (0x89).testBit (8 + i) = false := by
    rcases (by omega : i = 0 ∨ i = 1) with rfl | rfl <;> decide
  exact hbit (8 + i) (by omega) (by omega) hm

/-! ### The obligation -/

/-- Settles O7, write by write. The writes of CTL and of B4MODE change neither the time status nor the stores of REF and of the loops, so
that `settle` adds nothing to them; that of GEO_STAT lands in the Geode, bit by bit. -/
theorem guardedWritesActOrChangeNothing : Obligations.GuardedWritesActOrChangeNothing := by
  refine ⟨fun m n v s hg hv => ⟨fun h => ?_, exec_slotClear_empties hg hv⟩,
    fun m v s hr => ⟨fun h => ?_, exec_b4modeWrite_disabled hr⟩, fun val s hb => ⟨_, exec_geoWriteLand_stat hb, ?_, ?_⟩⟩
  · rw [exec_slotClear hg, wrSlotCtl_ignored hv h, settle_self]
  · rw [exec_b4modeWrite hr, wrCompat_enabled h, wrote_compat_self]
  · exact geoLand_tamper_erased
  · exact geoLand_tamper_kept

end Sys2Proof.Machine
end

section
/-! Bedrock and the waiting commands (O4, O5): no command but the supply's, the lock and the wrap touches the spine of a state; what those
four leave of it; and what a cycle of CD_TB adds to Bedrock (R64, R66, R68). -/
namespace Sys2Proof.Machine

/-! ### The commands that leave the spine as it is -/

/-- An outcome leaves Bedrock, whether it runs, and the waiting commands as they are in s. -/
def KeepsSpine (s : State) (o : Host.Outcome State Fault Refusal) : Prop := ∀ t, o = .next t → t.spine = s.spine

/-- Each arm of `exec` keeps the spine, but for the four commands that move Bedrock. -/
theorem exec_keepsSpine : ∀ (c : Instr) (s : State), movesBedrock c = false → KeepsSpine s (exec c s)
  | .registerWrite m size addr v, s, _ => execRegisterWrite_spine m size addr v s
  | .multiwordLoRead m r, s, _ => execMultiwordLoRead_spine m r s
  | .multiwordHiWrite m addr v, s, _ => execMultiwordHiWrite_spine m addr v s
  | .readClearCounterRead m addr inc, s, _ => execReadClearCounterRead_spine m addr inc s
  | .evtForceWrite m page v, s, _ => execEvtForceWrite_spine m page v s
  | .softReset m page v, s, _ => execSoftReset_spine m page v s
  | .softResetComplete page, s, _ => execSoftResetComplete_spine page s
  | .blockEnable m page v, s, _ => execBlockEnable_spine m page v s
  | .blockFreeze m page v, s, _ => execBlockFreeze_spine m page v s
  | .freezeSafePoint page, s, _ => execFreezeSafePoint_spine page s
  | .cfgLock m page v, s, _ => execCfgLock_spine m page v s
  | .b4modeWrite m v, s, _ => execB4modeWrite_spine m v s
  | .bedrockWrap, _, h => nomatch h
  | .rateCommit m v, s, _ => execRateCommit_spine m v s
  | .stepCommit m v, s, _ => execStepCommit_spine m v s
  | .slewCommit m v, s, _ => execSlewCommit_spine m v s
  | .slewAbort m v, s, _ => execSlewAbort_spine m v s
  | .bdrCapture m v, s, _ => execBdrCapture_spine m v s
  | .changeAnchor, s, _ => execChangeAnchor_spine s
  | .slewEnd, s, _ => execSlewEnd_spine s
  | .bdrConvert m v, s, _ => execBdrConvert_spine m v s
  | .utcOfsWrite m v, s, _ => execUtcOfsWrite_spine m v s
  | .slotArm m n v, s, _ => execSlotArm_spine m n v s
  | .slotClear m n v, s, _ => execSlotClear_spine m n v s
  | .actDisarm m v, s, _ => execActDisarm_spine m v s
  | .slotTake n, s, _ => execSlotTake_spine n s
  | .slotStoreError n, s, _ => execSlotStoreError_spine n s
  | .actionInitiate, s, _ => execActionInitiate_spine s
  | .pulseWidthEnd g, s, _ => execPulseWidthEnd_spine g s
  | .actionOutcome n, s, _ => execActionOutcome_spine n s
  | .asyCommit m v, s, _ => execAsyCommit_spine m v s
  | .asyUpdate m v, s, _ => execAsyUpdate_spine m v s
  | .setCoarse m v, s, _ => execSetCoarse_spine m v s
  | .declareTraceable m v, s, _ => execDeclareTraceable_spine m v s
  | .declareUntraceable m v, s, _ => execDeclareUntraceable_spine m v s
  | .asyChangeAnchor, s, _ => execAsyChangeAnchor_spine s
  | .updateTimeout, s, _ => execUpdateTimeout_spine s
  | .holdoverLimitExceeded, s, _ => execHoldoverLimitExceeded_spine s
  | .holdoverMaxExpire, s, _ => execHoldoverMaxExpire_spine s
  | .tempSample sample, s, _ => execTempSample_spine sample s
  | .tempLost, s, _ => execTempLost_spine s
  | .asyERead m, s, _ => execAsyERead_spine m s
  | .recordPeriodic, s, _ => execRecordPeriodic_spine s
  | .recordSigned m v, s, _ => execRecordSigned_spine m v s
  | .recordStall, s, _ => execRecordStall_spine s
  | .recordEnableWrite m v, s, _ => execRecordEnableWrite_spine m v s
  | .asyStoreFault, s, _ => execAsyStoreFault_spine s
  | .bdrParamFault, s, _ => execBdrParamFault_spine s
  | .activityTimeout n, s, _ => execActivityTimeout_spine n s
  | .frequencyGateEnd n, s, _ => execFrequencyGateEnd_spine n s
  | .messageTimeout n, s, _ => execMessageTimeout_spine n s
  | .qualificationTimerExpire n, s, _ => execQualificationTimerExpire_spine n s
  | .entryCfgWrite m n v, s, _ => execEntryCfgWrite_spine m n v s
  | .announceDelivery m v, s, _ => execAnnounceDelivery_spine m v s
  | .todBinaryFrame u frame, s, _ => execTodBinaryFrame_spine u frame s
  | .todFrameTimeout u, s, _ => execTodFrameTimeout_spine u s
  | .todNmeaSentence u text, s, _ => execTodNmeaSentence_spine u text s
  | .todWindowExpire u, s, _ => execTodWindowExpire_spine u s
  | .refSelect m l v, s, _ => execRefSelect_spine m l v s
  | .deselect m l v, s, _ => execDeselect_spine m l v s
  | .prioWrite m l b v, s, _ => execPrioWrite_spine m l b v s
  | .fallback l, s, _ => execFallback_spine l s
  | .fallbackRescan l, s, _ => execFallbackRescan_spine l s
  | .refTableFault, s, _ => execRefTableFault_spine s
  | .solutionDelivery m v, s, _ => execSolutionDelivery_spine m v s
  | .loopMeasurement l n b x edges, s, _ => execLoopMeasurement_spine l n b x edges s
  | .reportInstant l, s, _ => execReportInstant_spine l s
  | .forceHo m l v, s, _ => execForceHo_spine m l v s
  | .release m l v, s, _ => execRelease_spine m l v s
  | .reseed m l v, s, _ => execReseed_spine m l v s
  | .historySample l, s, _ => execHistorySample_spine l s
  | .dplStatePar l, s, _ => execDplStatePar_spine l s
  | .synLock m n v, s, _ => execSynLock_spine m n v s
  | .synStop m n v, s, _ => execSynStop_spine m n v s
  | .bmeas m n v, s, _ => execBmeas_spine m n v s
  | .bmeasDone n lo hi, s, _ => execBmeasDone_spine n lo hi s
  | .synLockAchieved n, s, _ => execSynLockAchieved_spine n s
  | .synLockTimeout n, s, _ => execSynLockTimeout_spine n s
  | .synLol n, s, _ => execSynLol_spine n s
  | .synRelockAttempt n, s, _ => execSynRelockAttempt_spine n s
  | .synSlewStep n, s, _ => execSynSlewStep_spine n s
  | .outputSync m v, s, _ => execOutputSync_spine m v s
  | .syncDone, s, _ => execSyncDone_spine s
  | .outCfgPar, s, _ => execOutCfgPar_spine s
  | .ppsEdge n, s, _ => execPpsEdge_spine n s
  | .ppsAlign m v, s, _ => execPpsAlign_spine m v s
  | .ppsCfgWrite m n v, s, _ => execPpsCfgWrite_spine m n v s
  | .aligned n, s, _ => execAligned_spine n s
  | .gnsTrain m v, s, _ => execGnsTrain_spine m v s
  | .trainDone found, s, _ => execTrainDone_spine found s
  | .gnsSif lane, s, _ => execGnsSif_spine lane s
  | .laneStuck lane stuck, s, _ => execLaneStuck_spine lane stuck s
  | .antPwr a low, s, _ => execAntPwr_spine a low s
  | .acqRequest, s, _ => execAcqRequest_spine s
  | .acqResult ratio cn0 dop code memErr, s, _ => execAcqResult_spine ratio cn0 dop code memErr s
  | .cancelAll m v, s, _ => execCancelAll_spine m v s
  | .channelStart m c v, s, _ => execChannelStart_spine m c v s
  | .channelStop m c v, s, _ => execChannelStop_spine m c v s
  | .aidedPullinStart c, s, _ => execAidedPullinStart_spine c s
  | .channelIntegration c x, s, _ => execChannelIntegration_spine c x s
  | .pullinTimeout c, s, _ => execPullinTimeout_spine c s
  | .channelLaneLoss c, s, _ => execChannelLaneLoss_spine c s
  | .channelReacquire c, s, _ => execChannelReacquire_spine c s
  | .measurementEpoch, s, _ => execMeasurementEpoch_spine s
  | .navRecord c x, s, _ => execNavRecord_spine c x s
  | .economyEvaluate, s, _ => execEconomyEvaluate_spine s
  | .burstStart c, s, _ => execBurstStart_spine c s
  | .burstEnd c, s, _ => execBurstEnd_spine c s
  | .jamEvaluate lanes, s, _ => execJamEvaluate_spine lanes s
  | .gnssPpsArm m v, s, _ => execGnssPpsArm_spine m v s
  | .gnssPpsEdge, s, _ => execGnssPpsEdge_spine s
  | .gnssPpsCfgWrite m v, s, _ => execGnssPpsCfgWrite_spine m v s
  | .antCfgPar, s, _ => execAntCfgPar_spine s
  | .tdcEdge src rise c raw, s, _ => execTdcEdge_spine src rise c raw s
  | .tdcResultRead m c, s, _ => execTdcResultRead_spine m c s
  | .tdcArm m v, s, _ => execTdcArm_spine m v s
  | .tdcGateEdge g level, s, _ => execTdcGateEdge_spine g level s
  | .tdcChannelCfgWrite m c v, s, _ => execTdcChannelCfgWrite_spine m c v s
  | .tdcCalStart m v, s, _ => execTdcCalStart_spine m v s
  | .calDone corr, s, _ => execCalDone_spine corr s
  | .boundaryVisit l rx k p per, s, _ => execBoundaryVisit_spine l rx k p per s
  | .laneModelExpire l rx, s, _ => execLaneModelExpire_spine l rx s
  | .ocxoRdyChange level, s, _ => execOcxoRdyChange_spine level s
  | .groupModeWrite m g v, s, _ => execGroupModeWrite_spine m g v s
  | .linkUp p, s, _ => execLinkUp_spine p s
  | .linkDown p lock align fec lf, s, _ => execLinkDown_spine p lock align fec lf s
  | .frameReceive p f, s, _ => execFrameReceive_spine p f s
  | .pauseReceive p time, s, _ => execPauseReceive_spine p time s
  | .partnerPauseExpire p, s, _ => execPartnerPauseExpire_spine p s
  | .pauseRefresh p, s, _ => execPauseRefresh_spine p s
  | .pauseTransmit p, s, _ => execPauseTransmit_spine p s
  | .modeWrite m p v, s, _ => execModeWrite_spine m p v s
  | .modeActChange p, s, _ => execModeActChange_spine p s
  | .txClockStop g, s, _ => execTxClockStop_spine g s
  | .txClockStart g, s, _ => execTxClockStart_spine g s
  | .frameTransmit p blk, s, _ => execFrameTransmit_spine p blk s
  | .esmcReceive p data, s, _ => execEsmcReceive_spine p data s
  | .esmcInfoTransmit p, s, _ => execEsmcInfoTransmit_spine p s
  | .esmcEventTransmit p, s, _ => execEsmcEventTransmit_spine p s
  | .tsuReserve m g v, s, _ => execTsuReserve_spine m g v s
  | .reservationCancel m g v, s, _ => execReservationCancel_spine m g v s
  | .tsuSubmission p desc, s, _ => execTsuSubmission_spine p desc s
  | .submitDeadline g h, s, _ => execSubmitDeadline_spine g h s
  | .tsuLaunch g h, s, _ => execTsuLaunch_spine g h s
  | .launchComplete g h, s, _ => execLaunchComplete_spine g h s
  | .tsuTempSample g t, s, _ => execTsuTempSample_spine g t s
  | .phaseLost p, s, _ => execPhaseLost_spine p s
  | .threadStart m e t, s, _ => execThreadStart_spine m e t s
  | .threadHalt m e t, s, _ => execThreadHalt_spine m e t s
  | .clrflt m e t, s, _ => execClrflt_spine m e t s
  | .waitResume e t, s, _ => execWaitResume_spine e t s
  | .imageLoad m c v, s, _ => execImageLoad_spine m c v s
  | .loadDone c, s, _ => execLoadDone_spine c s
  | .queueStateWrite m q w v, s, _ => execQueueStateWrite_spine m q w v s
  | .doorbell m e t v, s, _ => execDoorbell_spine m e t v s
  | .timerArm m e t v, s, _ => execTimerArm_spine m e t v s
  | .timerFire e t, s, _ => execTimerFire_spine e t s
  | .semTryAcquire m n, s, _ => execSemTryAcquire_spine m n s
  | .semRelease m n, s, _ => execSemRelease_spine m n s
  | .semForce m n, s, _ => execSemForce_spine m n s
  | .sampleRead m c, s, _ => execSampleRead_spine m c s
  | .add e t rd ra rb, s, _ => execAdd_spine e t rd ra rb s
  | .sub e t rd ra rb, s, _ => execSub_spine e t rd ra rb s
  | .andOp e t rd ra rb, s, _ => execAndOp_spine e t rd ra rb s
  | .orOp e t rd ra rb, s, _ => execOrOp_spine e t rd ra rb s
  | .xorOp e t rd ra rb, s, _ => execXorOp_spine e t rd ra rb s
  | .sll e t rd ra rb, s, _ => execSll_spine e t rd ra rb s
  | .srl e t rd ra rb, s, _ => execSrl_spine e t rd ra rb s
  | .sra e t rd ra rb, s, _ => execSra_spine e t rd ra rb s
  | .slt e t rd ra rb, s, _ => execSlt_spine e t rd ra rb s
  | .sltu e t rd ra rb, s, _ => execSltu_spine e t rd ra rb s
  | .mul e t rd ra rb, s, _ => execMul_spine e t rd ra rb s
  | .mulh e t rd ra rb, s, _ => execMulh_spine e t rd ra rb s
  | .mulhu e t rd ra rb, s, _ => execMulhu_spine e t rd ra rb s
  | .div e t rd ra rb, s, _ => execDiv_spine e t rd ra rb s
  | .divu e t rd ra rb, s, _ => execDivu_spine e t rd ra rb s
  | .rem e t rd ra rb, s, _ => execRem_spine e t rd ra rb s
  | .remu e t rd ra rb, s, _ => execRemu_spine e t rd ra rb s
  | .clz e t rd ra, s, _ => execClz_spine e t rd ra s
  | .popc e t rd ra, s, _ => execPopc_spine e t rd ra s
  | .bswap e t rd ra, s, _ => execBswap_spine e t rd ra s
  | .bswap32 e t rd ra, s, _ => execBswap32_spine e t rd ra s
  | .bswap16 e t rd ra, s, _ => execBswap16_spine e t rd ra s
  | .addi e t rd ra imm, s, _ => execAddi_spine e t rd ra imm s
  | .slti e t rd ra imm, s, _ => execSlti_spine e t rd ra imm s
  | .sltiu e t rd ra imm, s, _ => execSltiu_spine e t rd ra imm s
  | .andi e t rd ra imm, s, _ => execAndi_spine e t rd ra imm s
  | .ori e t rd ra imm, s, _ => execOri_spine e t rd ra imm s
  | .xori e t rd ra imm, s, _ => execXori_spine e t rd ra imm s
  | .lui e t rd imm, s, _ => execLui_spine e t rd imm s
  | .shi e t rd ra imm, s, _ => execShi_spine e t rd ra imm s
  | .insh e t rd imm h, s, _ => execInsh_spine e t rd imm h s
  | .ld e t rd ra imm, s, _ => execLd_spine e t rd ra imm s
  | .lw e t rd ra imm, s, _ => execLw_spine e t rd ra imm s
  | .lwu e t rd ra imm, s, _ => execLwu_spine e t rd ra imm s
  | .lh e t rd ra imm, s, _ => execLh_spine e t rd ra imm s
  | .lhu e t rd ra imm, s, _ => execLhu_spine e t rd ra imm s
  | .lb e t rd ra imm, s, _ => execLb_spine e t rd ra imm s
  | .lbu e t rd ra imm, s, _ => execLbu_spine e t rd ra imm s
  | .sd e t rs ra imm, s, _ => execSd_spine e t rs ra imm s
  | .sw e t rs ra imm, s, _ => execSw_spine e t rs ra imm s
  | .sh e t rs ra imm, s, _ => execSh_spine e t rs ra imm s
  | .sb e t rs ra imm, s, _ => execSb_spine e t rs ra imm s
  | .postedStoreError e t addr, s, _ => execPostedStoreError_spine e t addr s
  | .beq e t rx ry off, s, _ => execBeq_spine e t rx ry off s
  | .bne e t rx ry off, s, _ => execBne_spine e t rx ry off s
  | .blt e t rx ry off, s, _ => execBlt_spine e t rx ry off s
  | .bge e t rx ry off, s, _ => execBge_spine e t rx ry off s
  | .bltu e t rx ry off, s, _ => execBltu_spine e t rx ry off s
  | .bgeu e t rx ry off, s, _ => execBgeu_spine e t rx ry off s
  | .jal e t rd off, s, _ => execJal_spine e t rd off s
  | .jalr e t rd ra imm, s, _ => execJalr_spine e t rd ra imm s
  | .illegalEncoding e t word, s, _ => execIllegalEncoding_spine e t word s
  | .rdbt e t pd, s, _ => execRdbt_spine e t pd s
  | .rdwt e t pd, s, _ => execRdwt_spine e t pd s
  | .cvwt e t pd pa, s, _ => execCvwt_spine e t pd pa s
  | .tdiff e t rd pa pb, s, _ => execTdiff_spine e t rd pa pb s
  | .tdiffb e t rd pa pb, s, _ => execTdiffb_spine e t rd pa pb s
  | .topt e t pd pa, s, _ => execTopt_spine e t pd pa s
  | .tres e t rd pa, s, _ => execTres_spine e t rd pa s
  | .tont e t rd pa, s, _ => execTont_spine e t rd pa s
  | .frpt e t pd pa, s, _ => execFrpt_spine e t pd pa s
  | .tadd e t pd pa rb, s, _ => execTadd_spine e t pd pa rb s
  | .taddb e t pd pa rb, s, _ => execTaddb_spine e t pd pa rb s
  | .eval e t rd ra rb, s, _ => execEval_spine e t rd ra rb s
  | .rsv e t rd ra rb, s, _ => execRsv_spine e t rd ra rb s
  | .rcan e t ra, s, _ => execRcan_spine e t ra s
  | .tarm e t pa, s, _ => execTarm_spine e t pa s
  | .qpush e t rd ra rb, s, _ => execQpush_spine e t rd ra rb s
  | .qpop e t rd ra rb, s, _ => execQpop_spine e t rd ra rb s
  | .qpushw e t rd ra rb, s, _ => execQpushw_spine e t rd ra rb s
  | .qpopw e t rd ra rb, s, _ => execQpopw_spine e t rd ra rb s
  | .qstat e t rd ra, s, _ => execQstat_spine e t rd ra s
  | .ewait e t rd, s, _ => execEwait_spine e t rd s
  | .etry e t rd, s, _ => execEtry_spine e t rd s
  | .epost e t ra rb, s, _ => execEpost_spine e t ra rb s
  | .barArrive e t rd ra, s, _ => execBarArrive_spine e t rd ra s
  | .bcast e t ra rb, s, _ => execBcast_spine e t ra rb s
  | .sacq e t rd ra, s, _ => execSacq_spine e t rd ra s
  | .stry e t rd ra, s, _ => execStry_spine e t rd ra s
  | .srel e t rd ra, s, _ => execSrel_spine e t rd ra s
  | .csub e t rd ra, s, _ => execCsub_spine e t rd ra s
  | .cwait e t rd ra, s, _ => execCwait_spine e t rd ra s
  | .ctry e t rd ra, s, _ => execCtry_spine e t rd ra s
  | .jrnl e t ra, s, _ => execJrnl_spine e t ra s
  | .fence e t, s, _ => execFence_spine e t s
  | .sysCall e t, s, _ => execSysCall_spine e t s
  | .breakOp e t, s, _ => execBreakOp_spine e t s
  | .eret e t, s, _ => execEret_spine e t s
  | .mfsr e t rd sr, s, _ => execMfsr_spine e t rd sr s
  | .mtsr e t sr ra, s, _ => execMtsr_spine e t sr ra s
  | .pmrd e t rd ra, s, _ => execPmrd_spine e t rd ra s
  | .cryptoComplete e t num memErr, s, _ => execCryptoComplete_spine e t num memErr s
  | .servicePageWrite m ofs v, s, _ => execServicePageWrite_spine m ofs v s
  | .commandBufferRelease m v, s, _ => execCommandBufferRelease_spine m v s
  | .policerRefill, s, _ => execPolicerRefill_spine s
  | .quarrySeed, s, _ => execQuarrySeed_spine s
  | .qryFlush m v, s, _ => execQryFlush_spine m v s
  | .flushDone, s, _ => execFlushDone_spine s
  | .qryClear m v, s, _ => execQryClear_spine m v s
  | .clearDone, s, _ => execClearDone_spine s
  | .quarryReseed m v, s, _ => execQuarryReseed_spine m v s
  | .ntpRequest p cl rx data, s, _ => execNtpRequest_spine p cl rx data s
  | .ntsRequest p cl rx data swapped, s, _ => execNtsRequest_spine p cl rx data swapped s
  | .ntsMint r block addr, s, _ => execNtsMint_spine r block addr s
  | .arpNdRequest p cl rx data, s, _ => execArpNdRequest_spine p cl rx data s
  | .delayReq p cl rx data, s, _ => execDelayReq_spine p cl rx data s
  | .syncTarget ix p ses, s, _ => execSyncTarget_spine ix p ses s
  | .announceTarget ix p ses, s, _ => execAnnounceTarget_spine ix p ses s
  | .followUp g h, s, _ => execFollowUp_spine g h s
  | .unicastNegotiation p cl rx data, s, _ => execUnicastNegotiation_spine p cl rx data s
  | .cancelUnicastTransmission p cl rx data, s, _ => execCancelUnicastTransmission_spine p cl rx data s
  | .grantExpire ses ty, s, _ => execGrantExpire_spine ses ty s
  | .quarantineEnd ses, s, _ => execQuarantineEnd_spine ses s
  | .upstreamRenew n, s, _ => execUpstreamRenew_spine n s
  | .upstreamMessage n rx data, s, _ => execUpstreamMessage_spine n rx data s
  | .upstreamAnnounceTimeout n, s, _ => execUpstreamAnnounceTimeout_spine n s
  | .transmitOpportunity p, s, _ => execTransmitOpportunity_spine p s
  | .class6Pass p, s, _ => execClass6Pass_spine p s
  | .shaperRefill, s, _ => execShaperRefill_spine s
  | .haltPinChange low, s, _ => execHaltPinChange_spine low s
  | .swhaltWrite m v, s, _ => execSwhaltWrite_spine m v s
  | .keyStage m v, s, _ => execKeyStage_spine m v s
  | .keyStaged, s, _ => execKeyStaged_spine s
  | .keyCommit m v, s, _ => execKeyCommit_spine m v s
  | .keyCommitted, s, _ => execKeyCommitted_spine s
  | .keyDiscard m v, s, _ => execKeyDiscard_spine m v s
  | .trngHealth apt, s, _ => execTrngHealth_spine apt s
  | .trngResumed, s, _ => execTrngResumed_spine s
  | .drbgReseed, s, _ => execDrbgReseed_spine s
  | .drbgWaitTimeout, s, _ => execDrbgWaitTimeout_spine s
  | .trnOutRead m, s, _ => execTrnOutRead_spine m s
  | .lcsChallenge m v, s, _ => execLcsChallenge_spine m v s
  | .lcsProvision m v, s, _ => execLcsProvision_spine m v s
  | .lcsField m v, s, _ => execLcsField_spine m v s
  | .lcsDebug m v, s, _ => execLcsDebug_spine m v s
  | .lcsRetire m v, s, _ => execLcsRetire_spine m v s
  | .mateLaneUp l, s, _ => execMateLaneUp_spine l s
  | .mateLaneDown l, s, _ => execMateLaneDown_spine l s
  | .matePpsPulse, s, _ => execMatePpsPulse_spine s
  | .healthPublish, s, _ => execHealthPublish_spine s
  | .healthInterval toggle, s, _ => execHealthInterval_spine toggle s
  | .healthFrame l data, s, _ => execHealthFrame_spine l data s
  | .timeFrame l data, s, _ => execTimeFrame_spine l data s
  | .mirrorFrame l data, s, _ => execMirrorFrame_spine l data s
  | .armHo l data, s, _ => execArmHo_spine l data s
  | .ackHo l data, s, _ => execAckHo_spine l data s
  | .abortHo l data, s, _ => execAbortHo_spine l data s
  | .resyncReq l data, s, _ => execResyncReq_spine l data s
  | .mirrorSend, s, _ => execMirrorSend_spine s
  | .mateResidUpdate, s, _ => execMateResidUpdate_spine s
  | .discoveryTimeout, s, _ => execDiscoveryTimeout_spine s
  | .activeInChange level, s, _ => execActiveInChange_spine level s
  | .mateRejoin m v, s, _ => execMateRejoin_spine m v s
  | .mateIsolate m v, s, _ => execMateIsolate_spine m v s
  | .hoDone, s, _ => execHoDone_spine s
  | .reversionArm, s, _ => execReversionArm_spine s
  | .selftestTimeout, s, _ => execSelftestTimeout_spine s
  | .shadowRestore, s, _ => execShadowRestore_spine s
  | .faultRise page n, s, _ => execFaultRise_spine page n s
  | .escalated n, s, _ => execEscalated_spine n s
  | .faultAck m n v, s, _ => execFaultAck_spine m n v s
  | .faultSeverityWrite m n v, s, _ => execFaultSeverityWrite_spine m n v s
  | .hmaskWrite m k v, s, _ => execHmaskWrite_spine m k v s
  | .pmuCounterHiWrite m addr v, s, _ => execPmuCounterHiWrite_spine m addr v s
  | .clrAll m v, s, _ => execClrAll_spine m v s
  | .matrixTimeout, s, _ => execMatrixTimeout_spine s
  | .lateResponse, s, _ => execLateResponse_spine s
  | .cfgRecalc m v, s, _ => execCfgRecalc_spine m v s
  | .recalcDone, s, _ => execRecalcDone_spine s
  | .ddrInit m ch v, s, _ => execDdrInit_spine m ch v s
  | .ddrTrained ch, s, _ => execDdrTrained_spine ch s
  | .scrubNow m ch v, s, _ => execScrubNow_spine m ch v s
  | .ddrScrubPass ch pages, s, _ => execDdrScrubPass_spine ch pages s
  | .mramScrubPass counts, s, _ => execMramScrubPass_spine counts s
  | .mramRemapRequest m pc v, s, _ => execMramRemapRequest_spine m pc v s
  | .journalWrite m v, s, _ => execJournalWrite_spine m v s
  | .jdone, s, _ => execJdone_spine s
  | .commandRingEntry r seq opcode, s, _ => execCommandRingEntry_spine r seq opcode s
  | .hostNop r, s, _ => execHostNop_spine r s
  | .copyIn r addr data hostErr, s, _ => execCopyIn_spine r addr data hostErr s
  | .copyOut r addr len res hostErr, s, _ => execCopyOut_spine r addr len res hostErr s
  | .mramWrite r ofs data hostErr, s, _ => execMramWrite_spine r ofs data hostErr s
  | .hostTxEntry r port flags tag data dmaErr, s, _ => execHostTxEntry_spine r port flags tag data dmaErr s
  | .pcieLinkChange up perst lanes gen, s, _ => execPcieLinkChange_spine up perst lanes gen s
  | .qspiCommand m v, s, _ => execQspiCommand_spine m v s
  | .qspiDone data, s, _ => execQspiDone_spine data s
  | .i2cTransfer m ix v, s, _ => execI2cTransfer_spine m ix v s
  | .i2cDone ix nack arbLost timeout data, s, _ => execI2cDone_spine ix nack arbLost timeout data s
  | .uartTransmit m u v, s, _ => execUartTransmit_spine m u v s
  | .uartReceive u ch fe pe brk, s, _ => execUartReceive_spine u ch fe pe brk s
  | .gpioEdge g level, s, _ => execGpioEdge_spine g level s
  | .invSearch m v, s, _ => execInvSearch_spine m v s
  | .inventorySearchDone presence bits complements, s, _ => execInventorySearchDone_spine presence bits complements s
  | .powerGoodRise .., _, h => nomatch h
  | .apllLock, _, h => nomatch h
  | .powerGoodFall, _, h => nomatch h
  | .resetNAssert, s, _ => execResetNAssert_spine s
  | .resetRelease straps flash, s, _ => execResetRelease_spine straps flash s
  | .tapReset, s, _ => execTapReset_spine s
  | .quiesce m v, s, _ => execQuiesce_spine m v s
  | .quiesceEntryDone, s, _ => execQuiesceEntryDone_spine s
  | .pwrRun m v, s, _ => execPwrRun_spine m v s
  | .wakeExitDone, s, _ => execWakeExitDone_spine s
  | .pwrChipReset m v, s, _ => execPwrChipReset_spine m v s
  | .avs target, s, _ => execAvs_spine target s
  | .geoWriteLand, s, _ => execGeoWriteLand_spine s
  | .geoSet m v, s, _ => execGeoSet_spine m v s
  | .geoSecond, s, _ => execGeoSecond_spine s
  | .geoTrimApply, s, _ => execGeoTrimApply_spine s
  | .geoAlarm, s, _ => execGeoAlarm_spine s
  | .tamper ix level, s, _ => execTamper_spine ix level s
  | .tamperClear m v, s, _ => execTamperClear_spine m v s
  | .geoPowerOnReset, s, _ => execGeoPowerOnReset_spine s
  | .xtalStop, s, _ => execXtalStop_spine s
  | .remoteFault p on, s, _ => execRemoteFault_spine p on s
  | .mramRemapDone, s, _ => execMramRemapDone_spine s

theorem spine_eq_iff {t : State} {b : BT80} {run : Bool} {l : List Instr} :
    t.spine = (b, run, l) ↔ t.bt = b ∧ t.btRun = run ∧ t.pending = l :=
  Prod.ext_iff.trans (and_congr Iff.rfl Prod.ext_iff)

/-! ### The commands that move Bedrock -/

theorem movesBedrock_iff {c : Instr} :
    movesBedrock c = true ↔
      c = .bedrockWrap ∨ (∃ mhz b4 pref, c = .powerGoodRise mhz b4 pref) ∨ c = .powerGoodFall ∨ c = .apllLock := by
  fun_cases movesBedrock c <;> simp_all

/-- The wrap returns Bedrock to 0 at the end of its range (R68). -/
theorem bedrockWrap_spine (s : State) :
    (bedrockWrap s).spine = if ¬ (s.bt.toNat / 65536 + 1 = 2 ^ 64 ∧ s.btRun) then s.spine else (0, s.btRun, s.pending) := by
  obtain ⟨-, hrun, hpend⟩ := spine_eq_iff.mp (endCycle_spine s)
  unfold bedrockWrap
  rw [ite_not]
  split
  · simp [State.atCycle, hrun, hpend]
  · rfl

/-- PWR_GOOD high brings a cold reset, in which Bedrock stands at 0 (R66, R917). -/
theorem powerRise_spine (mhz : Nat) (b4 pref : Bool) (s : State) :
    (powerRise mhz b4 pref s).spine = if s.pwr.good then s.spine else (0, false, s.pending) := by
  unfold powerRise
  split
  · rfl
  · exact (chipReset_spine true _).trans (by simp)

/-- Bedrock starts at 0 when the APLL locks with PWR_GOOD high (R66). -/
theorem apllLock_spine (s : State) :
    (apllLock s).spine = if s.pwr.good = false ∨ s.btRun ∨ s.pwr.oscRatio = 0 then s.spine else (0, true, s.pending) := by
  unfold apllLock
  split <;> rfl

/-- PWR_GOOD low stops Bedrock where it stands (R913). -/
theorem powerFall_spine (s : State) :
    (powerFall s).spine = if s.pwr.good = false then s.spine else (s.bt, false, s.pending) := by
  unfold powerFall
  split
  · rfl
  · obtain ⟨hbt, -, hpend⟩ := spine_eq_iff.mp (journalCut_spine s)
    simp [hbt, hpend]

theorem pending_and_bt_of_spine {s t : State} {p : Prop} [Decidable p] {b : BT80} {run : Bool} (hb : b = s.bt ∨ b = 0)
    (h : t.spine = if p then s.spine else (b, run, s.pending)) : t.pending = s.pending ∧ (t.bt = s.bt ∨ t.bt = 0) := by
  split at h
  · obtain ⟨hbt, -, hpend⟩ := spine_eq_iff.mp h
    exact ⟨hpend, .inl hbt⟩
  · obtain ⟨hbt, -, hpend⟩ := spine_eq_iff.mp h
    exact ⟨hpend, hbt ▸ hb⟩

/-- What every command keeps: the waiting commands, and Bedrock but for a return to 0. -/
theorem exec_pending_and_bt {c : Instr} {s t : State} (h : exec c s = .next t) : t.pending = s.pending ∧ (t.bt = s.bt ∨ t.bt = 0) := by
  cases hc : movesBedrock c with
  | false =>
    obtain ⟨hbt, -, hpend⟩ := spine_eq_iff.mp (exec_keepsSpine c s hc t h)
    exact ⟨hpend, .inl hbt⟩
  | true =>
    rcases movesBedrock_iff.mp hc with rfl | ⟨mhz, b4, pref, rfl⟩ | rfl | rfl <;> cases h
    · exact pending_and_bt_of_spine (.inr rfl) (bedrockWrap_spine s)
    · exact pending_and_bt_of_spine (.inr rfl) (powerRise_spine ..)
    · exact pending_and_bt_of_spine (.inl rfl) (powerFall_spine s)
    · exact pending_and_bt_of_spine (.inr rfl) (apllLock_spine s)

/-! ### A cycle of CD_TB -/

/-- Bedrock in whole cycles, with no next cycle in its range, stands one cycle below 2^80. -/
theorem bt_add_cycle_of_last {s : State} (hs : s.bedrockWhole) (hlast : s.bt.toNat / 65536 + 1 = 2 ^ 64) : s.bt + 0x10000 = 0 := by
  unfold State.bedrockWhole at hs
  bv_omega

/-- Bedrock counts one cycle, modulo 2^80: the wrap is its count beyond the last cycle (R64, R68). -/
theorem bedrockAdvance_bt {s : State} (hs : s.bedrockWhole) (hrun : s.btRun = true) : (bedrockAdvance s).bt = s.bt + 0x10000 := by
  unfold bedrockAdvance
  split
  case isTrue hlast =>
    have h := bedrockWrap_spine s
    rw [if_neg (not_not_intro ⟨hlast, hrun⟩)] at h
    exact (spine_eq_iff.mp h).1.trans (bt_add_cycle_of_last hs hlast).symm
  case isFalse => rfl

/-- Of what happens in a cycle of CD_TB only the advance of Bedrock touches the spine. -/
theorem tick_spine {s : State} (hrun : s.btRun = true) : (tick s).spine = (bedrockAdvance s).spine := by
  unfold tick
  rw [hrun, if_neg Bool.true_eq_false.mp]
  split
  · rfl
  · simp

theorem tick_bt {s : State} (hs : s.bedrockWhole) (hrun : s.btRun = true) : (tick s).bt = s.bt + 0x10000 :=
  (congrArg Prod.fst (tick_spine hrun)).trans (bedrockAdvance_bt hs hrun)

theorem tick_stopped {s : State} (hrun : s.btRun = false) : tick s = s := if_pos hrun

theorem whole_add_cycle {s : State} (hs : s.bedrockWhole) : (s.bt + 0x10000).toNat % 65536 = 0 := by
  unfold State.bedrockWhole at hs
  bv_omega

theorem tick_whole {s : State} (hs : s.bedrockWhole) : (tick s).bedrockWhole := by
  cases hrun : s.btRun with
  | false => rwa [tick_stopped hrun]
  | true =>
    unfold State.bedrockWhole
    rw [tick_bt hs hrun]
    exact whole_add_cycle hs

theorem exec_whole {c : Instr} {s t : State} (hs : s.bedrockWhole) (h : exec c s = .next t) : t.bedrockWhole := by
  unfold State.bedrockWhole
  rcases (exec_pending_and_bt h).2 with hbt | hbt <;> rw [hbt]
  · exact hs
  · rfl

/-! ### Steps -/

theorem step_empty {s : State} (h : s.pending = []) : step s = .next (tick s) := by
  unfold step
  rw [h]

theorem step_cons {s : State} {c : Instr} {rest : List Instr} (h : s.pending = c :: rest) : step s = exec c { s with pending := rest } := by
  unfold step
  rw [h]

/-! ### The obligations -/

/-- Settles O4: a command leaves Bedrock as it is or at 0, and a cycle adds one cycle to it, modulo 2^80. -/
theorem everyStepKeepsWholeCycles : Obligations.EveryStepKeepsWholeCycles := by
  refine ⟨fun s t hs h => ?_, fun s hs hp hrun => ⟨tick s, step_empty hp, tick_bt hs hrun, tick_whole hs⟩⟩
  cases hp : s.pending with
  | nil =>
    rw [step_empty hp] at h
    cases h
    exact tick_whole hs
  | cons c rest =>
    rw [step_cons hp] at h
    exact exec_whole (s := { s with pending := rest }) hs h

/-- Settles O5, by the arms of `exec` that keep the spine and what the four others leave of it. -/
theorem commandsLeaveBedrock : Obligations.CommandsLeaveBedrock := by
  refine ⟨fun s hgood hrun hosc => ?_, fun c s t hc h => ?_, fun c s t h => (exec_pending_and_bt h).1⟩
  · have hlock := apllLock_spine s
    rw [if_neg (by simp [hgood, hrun, hosc])] at hlock
    obtain ⟨hbt, hbtRun, -⟩ := spine_eq_iff.mp hlock
    exact ⟨apllLock s, rfl, hbt, hbtRun⟩
  · obtain ⟨hbt, hbtRun, -⟩ := spine_eq_iff.mp (exec_keepsSpine c s hc t h)
    exact ⟨hbt, hbtRun⟩

end Sys2Proof.Machine
end

section
/-! O8: the order of times, and the addresses of a calendar WRITE (R90, R106). -/
namespace Sys2Proof.Machine

/-- A difference modulo 2^N has its highest bit set when it is at least 2^(N-1) (R90). -/
theorem earlier_iff {N : Nat} (a b : BitVec N) :
    earlier a b = true ↔ 2 ^ (N - 1) ≤ (a.toNat + 2 ^ N - b.toNat) % 2 ^ N := by
  have hdiff : 2 ^ N - b.toNat + a.toNat = a.toNat + 2 ^ N - b.toNat := by
    have := b.isLt
    omega
  rw [earlier, BitVec.msb_eq_decide, BitVec.toNat_sub, hdiff, decide_eq_true_iff]

theorem writeAllowed_iff (a : Nat) :
    writeAllowed a = true ↔
      4 ∣ a ∧ a ≤ 0x07FFFFC ∧ ¬ (0x0011000 ≤ a ∧ a ≤ 0x0011FFF) ∧ ¬ (0x0020000 ≤ a ∧ a ≤ 0x002FFFF) := by
  simp only [writeAllowed, Bool.and_eq_true, Bool.not_eq_true', Bool.and_eq_false_iff, decide_eq_true_eq, decide_eq_false_iff_not]
  omega

/-- Settles O8: the highest bit of the difference orders two times, and the bounds of an address are those of R106. -/
theorem timesAndAddressesAreJudged : Obligations.TimesAndAddressesAreJudged :=
  ⟨fun _ a b _ => ⟨earlier_iff a b, rfl⟩, writeAllowed_iff⟩

end Sys2Proof.Machine
end

section
/-! The queue and the reset state (O1 to O3): which step runs a command, what a cycle of CD_TB leaves of Bedrock, and what the device
holds after reset (R64, R66, logs 1 to 3). -/
namespace Sys2Proof.Machine

/-- Settles O1: a step takes the front of the queue by definition. -/
theorem stepRunsFront : Obligations.StepRunsFront := fun _ _ => rfl

theorem tick_held {s : State} (hrun : s.btRun = true) (halive : s.alive = false) : tick s = bedrockAdvance s := by
  unfold tick
  rw [if_neg (by simp [hrun]), if_pos halive]

/-- Before the last cycle of its range Bedrock counts one cycle, and nothing that follows in the cycle touches it. -/
theorem tick_spine_of_lt {s : State} (hrun : s.btRun = true) (hlt : s.bt.toNat / 65536 + 1 < 2 ^ 64) :
    (tick s).spine = (s.bt + 0x10000, true, s.pending) := by
  obtain ⟨-, hr, hp⟩ := spine_eq_iff.mp (endCycle_spine s)
  rw [tick_spine hrun]
  unfold bedrockAdvance
  split
  case isTrue hlast => omega
  case isFalse => exact spine_eq_iff.mpr ⟨rfl, (State.atCycle_btRun ..).trans (hr.trans hrun), (State.atCycle_pending ..).trans hp⟩

/-- Settles O2: the spine of a cycle, and the two cases in which no more than that happens. -/
theorem emptyQueueTicks : Obligations.EmptyQueueTicks := by
  refine ⟨fun s hp hrun hlt => ?_, fun s hp hrun ha => ?_, fun s hp hrun => ?_⟩
  · obtain ⟨hbt, hr, hq⟩ := spine_eq_iff.mp (tick_spine_of_lt hrun hlt)
    exact ⟨tick s, step_empty hp, hbt, hr, hq.trans hp⟩
  · rw [step_empty hp, tick_held hrun ha]
  · rw [step_empty hp, tick_stopped hrun]

/-- Settles O3: every store is empty after reset, so that each entry of it is the default. -/
theorem resetLeavesDefaults : Obligations.ResetLeavesDefaults :=
  ⟨fun _ => rfl, ⟨rfl, rfl, rfl, rfl⟩, rfl, rfl, rfl, rfl, fun _ => rfl, fun _ r => by
    show (if r = 0 then (0 : DWord) else AMap.get 0 [] r) = 0
    split <;> rfl, fun _ => rfl, fun _ => rfl⟩

end Sys2Proof.Machine
end

section
/-! O34: the integer operations (R615, R616), as arithmetic facts. -/
namespace Sys2Proof.Machine

/-! ### Division -/

theorem divU_of_ne {x y : DWord} (h : y ≠ 0) : (divU x y).toNat = x.toNat / y.toNat := by
  rw [divU, if_neg h, BitVec.toNat_ofNat]
  exact Nat.mod_eq_of_lt (Nat.lt_of_le_of_lt (Nat.div_le_self ..) x.isLt)

theorem remU_of_ne {x y : DWord} (h : y ≠ 0) : (remU x y).toNat = x.toNat % y.toNat := by
  rw [remU, if_neg h, BitVec.toNat_ofNat]
  exact Nat.mod_eq_of_lt (Nat.lt_of_le_of_lt (Nat.mod_le ..) x.isLt)

/-- Only the most negative number over -1 has a quotient beyond 64 bits. -/
theorem divS_of_ne {x y : DWord} (h : y ≠ 0) (ho : ¬ (x = BitVec.intMin 64 ∧ y = BitVec.allOnes 64)) :
    (divS x y).toInt = x.toInt.tdiv y.toInt := by
  have hfit := BitVec.toInt_sdiv_of_ne_or_ne x y (by
    rw [BitVec.neg_one_eq_allOnes]
    exact Classical.not_and_iff_not_or_not.mp ho)
  rw [divS, if_neg h, BitVec.toInt_ofInt, ← hfit, BitVec.toInt_bmod_cancel]

theorem remS_of_ne {x y : DWord} (h : y ≠ 0) : (remS x y).toInt = x.toInt.tmod y.toInt := by
  rw [remS, if_neg h, BitVec.toInt_ofInt, ← BitVec.toInt_srem, BitVec.toInt_bmod_cancel]

/-- A remainder truncated towards 0 has the sign of the dividend, or is 0. -/
theorem tmod_mul_self_nonneg (a b : Int) : 0 ≤ a.tmod b * a := by
  rcases Int.le_total 0 a with h | h
  · exact Int.mul_nonneg (Int.tmod_nonneg b h) h
  · have hn := Int.tmod_nonneg b (Int.neg_nonneg.mpr h)
    rw [Int.neg_tmod] at hn
    exact Int.mul_nonneg_of_nonpos_of_nonpos (by omega) h

theorem natAbs_tmod_lt (a : Int) {b : Int} (h : b ≠ 0) : (a.tmod b).natAbs < b.natAbs := by
  rw [Int.natAbs_tmod]
  exact Nat.mod_lt _ (Int.natAbs_pos.mpr h)

/-! ### Counts of bits -/

/-- The places before the first that fails a test pass it, and the first beyond them fails. -/
theorem takeWhile_range_spec (f : Nat → Bool) (n : Nat) :
    ((List.range n).takeWhile f).length ≤ n ∧ (∀ i < ((List.range n).takeWhile f).length, f i = true) ∧
      (((List.range n).takeWhile f).length < n → f ((List.range n).takeWhile f).length = false) := by
  induction n with
  | zero => simp
  | succ n ih =>
    obtain ⟨hle, hpass, hfail⟩ := ih
    rw [List.range_succ, List.takeWhile_append]
    split
    case isTrue hall =>
      rw [List.length_range] at hall
      rw [hall] at hpass
      cases hn : f n
      · simpa [List.takeWhile_cons, hn] using hpass
      · simp only [List.takeWhile_cons, hn, if_true, List.takeWhile_nil, List.length_append, List.length_range, List.length_singleton]
        refine ⟨Nat.le_refl _, fun i hi => ?_, fun h => absurd h (Nat.lt_irrefl _)⟩
        rcases Nat.lt_succ_iff_lt_or_eq.mp hi with h | rfl
        · exact hpass i h
        · exact hn
    case isFalse hall =>
      rw [List.length_range] at hall
      exact ⟨by omega, hpass, fun _ => hfail (by omega)⟩

theorem leadZeros_spec (x : DWord) :
    leadZeros x ≤ 64 ∧ (∀ i < leadZeros x, x.getLsbD (63 - i) = false) ∧
      (leadZeros x < 64 → x.getLsbD (63 - leadZeros x) = true) := by
  obtain ⟨hle, hzero, hone⟩ := takeWhile_range_spec (fun i => !bit x (63 - i)) 64
  exact ⟨hle, fun i hi => by simpa [bit] using hzero i hi, fun h => by simpa [bit, leadZeros] using hone h⟩

theorem lt_of_leadZeros (x : DWord) : x.toNat < 2 ^ (64 - leadZeros x) := by
  obtain ⟨hle, hzero, -⟩ := leadZeros_spec x
  refine Nat.lt_pow_two_of_testBit _ fun i hi => ?_
  rw [BitVec.testBit_toNat]
  by_cases h : i < 64
  · have := hzero (63 - i) (by omega)
    rwa [show 63 - (63 - i) = i by omega] at this
  · exact BitVec.getLsbD_of_ge x i (by omega)

theorem le_of_leadZeros {x : DWord} (hx : x ≠ 0) : 2 ^ (63 - leadZeros x) ≤ x.toNat := by
  obtain ⟨hle, -, hone⟩ := leadZeros_spec x
  refine Nat.ge_two_pow_of_testBit ?_
  rw [BitVec.testBit_toNat]
  refine hone (Nat.lt_of_le_of_ne hle fun h => hx ?_)
  have hlt := lt_of_leadZeros x
  rw [h] at hlt
  exact BitVec.eq_of_toNat_eq (by simpa using hlt)

/-! ### Orders of bytes -/

theorem length_bytesLE (n v : Nat) : (bytesLE n v).length = n := by
  induction n generalizing v with
  | zero => rfl
  | succ n ih => simp [bytesLE, ih]

theorem getD_bytesLE (n v i : Nat) (hi : i < n) : (bytesLE n v).getD i 0 = BitVec.ofNat 8 (v >>> (8 * i)) := by
  induction n generalizing v i with
  | zero => omega
  | succ n ih =>
    cases i with
    | zero => simp [bytesLE]
    | succ i =>
      have hshift : (v / 256) >>> (8 * i) = v >>> (8 * (i + 1)) := by
        rw [show 8 * (i + 1) = 8 + 8 * i by omega, Nat.shiftRight_add, Nat.shiftRight_eq_div_pow v 8]
      rw [bytesLE, List.getD_cons_succ, ih _ _ (by omega), hshift]

/-- Bit i of the number that a list of bytes spells, its first byte lowest, is bit i mod 8 of byte i / 8. -/
theorem testBit_natLE (l : List Byte) (i : Nat) : (natLE l).testBit i = (l.getD (i / 8) 0).getLsbD (i % 8) := by
  induction l generalizing i with
  | nil => simp [natLE]
  | cons b t ih =>
    rw [natLE, show b.toNat + 256 * natLE t = 2 ^ 8 * natLE t + b.toNat by omega, Nat.testBit_two_pow_mul_add _ b.isLt]
    split
    case isTrue h =>
      rw [Nat.div_eq_of_lt h, Nat.mod_eq_of_lt h, BitVec.testBit_toNat]
      rfl
    case isFalse h =>
      obtain ⟨j, rfl⟩ := Nat.exists_eq_add_of_le' (Nat.not_lt.mp h)
      rw [Nat.add_sub_cancel, ih, Nat.add_div_right _ (by decide), Nat.add_mod_right]
      simp

/-- The low n bytes in the opposite order, and nothing above them. -/
theorem getLsbD_swapBytes {n : Nat} (x : DWord) (i : Nat) (hn : n ≤ 8) :
    (swapBytes n x).getLsbD i = (decide (i < 8 * n) && x.getLsbD (8 * (n - 1 - i / 8) + i % 8)) := by
  rw [swapBytes, BitVec.getLsbD_ofNat, natBE, testBit_natLE]
  by_cases h : i < 8 * n
  · have hrev : (bytesLE n x.toNat).reverse.getD (i / 8) 0 = (bytesLE n x.toNat).getD (n - 1 - i / 8) 0 := by
      rw [List.getD_eq_getElem?_getD, List.getElem?_reverse (by rw [length_bytesLE]; omega), length_bytesLE, List.getD_eq_getElem?_getD]
    have h64 : i < 64 := by omega
    have h8 : i % 8 < 8 := Nat.mod_lt _ (by decide)
    rw [hrev, getD_bytesLE _ _ _ (by omega), BitVec.getLsbD_ofNat, Nat.testBit_shiftRight, BitVec.testBit_toNat]
    simp only [h, h64, h8, decide_true, Bool.true_and]
  · have hout : (bytesLE n x.toNat).reverse.getD (i / 8) 0 = 0 :=
      (List.getD_eq_getElem?_getD ..).trans
        (congrArg (Option.getD · 0) (List.getElem?_eq_none (by rw [List.length_reverse, length_bytesLE]; omega)))
    rw [hout]
    simp [h]

/-- INSH replaces the halfword that it names. -/
theorem getLsbD_insertHalf (x : DWord) (imm : BitVec 16) (h : BitVec 2) (i : Nat) (hi : i < 64) :
    (insertHalf x imm h).getLsbD i = if i / 16 = h.toNat then imm.getLsbD (i % 16) else x.getLsbD i := by
  have hmask : (0xFFFF#64).getLsbD (i - 16 * h.toNat) = decide (i - 16 * h.toNat < 16) := by
    rw [show (0xFFFF#64) = (BitVec.allOnes 16).setWidth 64 from rfl, BitVec.getLsbD_setWidth, BitVec.getLsbD_allOnes]
    simp only [show i - 16 * h.toNat < 64 by omega, decide_true, Bool.true_and]
  simp only [insertHalf, BitVec.getLsbD_or, BitVec.getLsbD_and, BitVec.getLsbD_not, BitVec.getLsbD_shiftLeft, hmask, hi, decide_true,
    Bool.true_and, BitVec.getLsbD_setWidth]
  split
  case isTrue heq =>
    have hsub : i - 16 * h.toNat = i % 16 := by omega
    have hge : ¬ i < 16 * h.toNat := by omega
    have hlt : i % 16 < 16 := Nat.mod_lt _ (by decide)
    have h64 : i % 16 < 64 := by omega
    simp [hsub, hge, hlt, h64]
  case isFalse hne =>
    by_cases hlt : i < 16 * h.toNat
    · simp [hlt]
    · have hge : ¬ i - 16 * h.toNat < 16 := by omega
      have himm : imm.getLsbD (i - 16 * h.toNat) = false := BitVec.getLsbD_of_ge imm _ (by omega)
      simp [hlt, hge, himm]

/-- Settles O34, operation by operation. -/
theorem divisionAndBitCounts : Obligations.DivisionAndBitCounts := by
  refine ⟨fun x => ⟨rfl, rfl, rfl, rfl⟩, fun x y hy => ?_, fun x y hy ho => ?_, by decide, by decide,
    fun x hx => ⟨le_of_leadZeros hx, lt_of_leadZeros x⟩, fun x i => ?_, fun x i => getLsbD_swapBytes x i (by decide),
    fun x i => getLsbD_swapBytes x i (by decide), fun x imm h i => getLsbD_insertHalf x imm h i i.isLt⟩
  · have hpos : 0 < y.toNat := Nat.pos_of_ne_zero fun h => hy (BitVec.eq_of_toNat_eq h)
    rw [divU_of_ne hy, remU_of_ne hy]
    exact ⟨(Nat.div_add_mod' ..).symm, Nat.mod_lt _ hpos⟩
  · have hne : y.toInt ≠ 0 := fun h => hy (BitVec.eq_of_toInt_eq (by simpa using h))
    rw [divS_of_ne hy ho, remS_of_ne hy]
    exact ⟨(Int.tdiv_mul_add_tmod ..).symm, natAbs_tmod_lt _ hne, tmod_mul_self_nonneg ..⟩
  · have hi : i.val < 8 * 8 := i.isLt
    simpa [hi] using getLsbD_swapBytes (n := 8) x i (by decide)

end Sys2Proof.Machine
end

section
/-! O33, O37, O38, O42 and O44: the register instructions, the branches, the time instructions, the exceptions and the system
instructions (R605, R612 to R621, R637 to R639). Each operation's meaning is that of `runOp` once its instruction issues. -/
namespace Sys2Proof.Machine

/-! ### Integer results (R615) -/

theorem fld_zero {w : Nat} (x : BitVec w) (n : Nat) : fld x 0 n = x.toNat % 2 ^ n := rfl

/-- The low six bits of an immediate that holds a kind of shift and a count are the count, and the two above them the kind. -/
theorem fld_shift_imm (kind : Fin 4) (n : Fin 64) :
    fld (BitVec.ofNat 16 (64 * kind.val + n.val)) 0 6 = n.val ∧ fld (BitVec.ofNat 16 (64 * kind.val + n.val)) 6 2 = kind.val ∧
      fld (BitVec.ofNat 16 (64 * kind.val + n.val)) 8 8 = 0 := by
  simp only [fld, BitVec.toNat_ofNat, Nat.shiftRight_eq_div_pow]
  omega

theorem exec_shi {e : Fin 512} {t : Fin 4} {rd ra : GReg} {imm : BitVec 16} {s s1 : State} (h : Issues (thKey e t) false [ra] s s1)
    (himm : fld imm 8 8 = 0) :
    exec (.shi e t rd ra imm) s =
      .next (became s (next (thKey e t) (wrRg (thKey e t) rd.toNat (shiftImm ((s1.th (thKey e t)).r ra) imm) s1))) := by
  show execShi .. = _
  rw [execShi, decide_eq_false (not_not_intro himm)]
  exact runOp_issues h

/-- Settles O33: each instruction is `aluOp` with its function, and SHI an immediate shift of its kind. -/
theorem integerResultsAreWritten : Obligations.IntegerResultsAreWritten := by
  refine ⟨?_, ?_, ?_, fun e t rd imm s s1 h => show execLui .. = _ from aluOp_issues h, ?_, ?_⟩
  · rintro e t rd ra rb s s1 x y h rfl rfl
    exact ⟨show execAdd .. = _ from aluOp_issues h,
      show execSub .. = _ from aluOp_issues h,
      show execAndOp .. = _ from aluOp_issues h,
      show execOrOp .. = _ from aluOp_issues h,
      show execXorOp .. = _ from aluOp_issues h,
      show execSll .. = _ from aluOp_issues h,
      show execSrl .. = _ from aluOp_issues h,
      show execSra .. = _ from aluOp_issues h,
      show execSlt .. = _ from aluOp_issues h,
      show execSltu .. = _ from aluOp_issues h,
      show execMul .. = _ from aluOp_issues h,
      show execMulh .. = _ from aluOp_issues h,
      show execMulhu .. = _ from aluOp_issues h,
      show execDiv .. = _ from aluOp_issues h,
      show execDivu .. = _ from aluOp_issues h,
      show execRem .. = _ from aluOp_issues h,
      show execRemu .. = _ from aluOp_issues h⟩
  · rintro e t rd ra s s1 x h rfl
    exact ⟨show execClz .. = _ from aluOp_issues h,
      show execPopc .. = _ from aluOp_issues h,
      show execBswap .. = _ from aluOp_issues h,
      show execBswap32 .. = _ from aluOp_issues h,
      show execBswap16 .. = _ from aluOp_issues h⟩
  · rintro e t rd ra imm s s1 x h rfl
    have hsx : (sx imm).toInt = imm.toInt := BitVec.toInt_signExtend_of_le (by decide)
    rw [← hsx]
    exact ⟨show execAddi .. = _ from aluOp_issues h,
      show execSlti .. = _ from aluOp_issues h,
      show execSltiu .. = _ from aluOp_issues h,
      show execAndi .. = _ from aluOp_issues h,
      show execOri .. = _ from aluOp_issues h,
      show execXori .. = _ from aluOp_issues h⟩
  · rintro e t rd ra n s s1 x h rfl
    have hshift : ∀ kind : Fin 4, ∀ v, shiftImm ((s1.th (thKey e t)).r ra) (BitVec.ofNat 16 (64 * kind.val + n.val)) = v →
        exec (.shi e t rd ra (BitVec.ofNat 16 (64 * kind.val + n.val))) s =
          .next (became s (next (thKey e t) (wrRg (thKey e t) rd.toNat v s1))) := by
      rintro kind _ rfl
      exact exec_shi h (fld_shift_imm kind n).2.2
    have hkind : ∀ kind : Fin 4, shiftImm ((s1.th (thKey e t)).r ra) (BitVec.ofNat 16 (64 * kind.val + n.val)) =
        match kind with
        | 0 => (s1.th (thKey e t)).r ra <<< n.val
        | 1 => (s1.th (thKey e t)).r ra >>> n.val
        | 2 => ((s1.th (thKey e t)).r ra).sshiftRight n.val
        | 3 => ((s1.th (thKey e t)).r ra).rotateRight n.val := by
      intro kind
      obtain ⟨hcount, hk, -⟩ := fld_shift_imm kind n
      unfold shiftImm
      rw [hcount, hk]
      match kind with
      | 0 | 1 | 2 | 3 => rfl
    have hzero : BitVec.ofNat 16 n.val = BitVec.ofNat 16 (64 * (0 : Fin 4).val + n.val) := by simp
    rw [hzero]
    exact ⟨hshift 0 _ (hkind 0), hshift 1 _ (hkind 1), hshift 2 _ (hkind 2), hshift 3 _ (hkind 3)⟩
  · rintro e t rd imm p s s1 x h rfl
    exact show execInsh .. = _ from aluOp_issues h

/-! ### Branches and jumps (R605, R617) -/

theorem branchTo_aligned {k : Nat} {g : DWord} {link : State → State} {s : State} (h : g.toNat % 4 = 0) :
    branchTo k g link s = finish k g (link (pmuUnit (k / 4) 0x28 (k % 4) (s.th k).user s)) := by
  rw [branchTo, if_neg (not_not_intro h)]

theorem branchTo_misaligned {k : Nat} {g : DWord} {link : State → State} {s : State} (h : g.toNat % 4 ≠ 0) :
    branchTo k g link s = raiseExc k .align (some g) s := by
  rw [branchTo, if_pos h]

/-- A branch whose target is aligned, by the condition that its comparison decides. -/
theorem branchOp_aligned {e : Fin 512} {t : Fin 4} {rx ry : GReg} {off : BitVec 16} {c : DWord → DWord → Bool} {s s1 : State} {x y g : DWord}
    {p : Prop} [Decidable p] (h : Issues (thKey e t) false [rx, ry] s s1) (hx : (s1.th (thKey e t)).r rx = x)
    (hy : (s1.th (thKey e t)).r ry = y) (hg : (s1.th (thKey e t)).pc + (off.signExtend 64 <<< 2) = g) (ha : g.toNat % 4 = 0)
    (hp : c x y = decide p) :
    branchOp e t rx ry off c s = .next (became s (if p then
      finish (thKey e t) g (pmuUnit (thKey e t / 4) 0x28 (thKey e t % 4) (s1.th (thKey e t)).user s1) else next (thKey e t) s1)) := by
  subst hg
  rw [branchOp_issues h, hx, hy, hp, sx, branchTo_aligned ha, id]
  by_cases hc : p <;> simp [hc]

/-- Settles O37, by the condition of each branch. -/
theorem branchesAndJumps : Obligations.BranchesAndJumps := by
  refine ⟨fun e t rx ry off s s1 x y g h hx hy hg ha => ⟨?_, ?_, ?_, ?_, ?_, ?_⟩, ?_, ?_⟩
  · exact show execBeq .. = _ from branchOp_aligned h hx hy hg ha rfl
  · exact show execBne .. = _ from branchOp_aligned h hx hy hg ha (by rw [bne, decide_not]; rfl)
  · exact show execBlt .. = _ from branchOp_aligned h hx hy hg ha rfl
  · exact show execBge .. = _ from branchOp_aligned h hx hy hg ha (by rw [BitVec.slt, ← decide_not]; exact decide_eq_decide.mpr Int.not_lt)
  · exact show execBltu .. = _ from branchOp_aligned h hx hy hg ha rfl
  · exact show execBgeu .. = _ from branchOp_aligned h hx hy hg ha (by rw [BitVec.ult, ← decide_not]; exact decide_eq_decide.mpr Nat.not_lt)
  · rintro e t rd off s s1 _ _ h rfl rfl ha
    exact show execJal .. = _ from (runOp_issues h).trans (by rw [branchTo_aligned ha])
  · rintro e t rd ra imm s s1 _ _ h rfl rfl
    exact ⟨fun ha => show execJalr .. = _ from (runOp_issues h).trans (by rw [sx, branchTo_aligned ha]),
      fun ha => show execJalr .. = _ from (runOp_issues h).trans (by rw [sx, branchTo_misaligned ha])⟩

/-! ### Time instructions (R618 to R621) -/

/-- A word that is not an instruction raises ILLEGAL once it is fetched (R612). -/
theorem runOp_illegal {e : Fin 512} {t : Fin 4} {priv : Bool} {srcs : List GReg} {op : Nat → State → State} {s s1 : State}
    (hi : s.canIssue (thKey e t) = true) (hp : (s.th (thKey e t)).postErr = none) (hf : fetchAt (thKey e t) s = (true, s1)) :
    runOp e t true priv srcs op s = .next (became s (raiseExc (thKey e t) .illegal none s1)) := by
  simp only [runOp, stallOp, issue, hi, hp, hf, if_true, became]

/-- The signed 64-bit range as its two bounds. -/
theorem sat64_eq (x : Int) : sat64 x = BitVec.ofInt 64 (max (-2 ^ 63) (min (2 ^ 63 - 1) x)) := by
  unfold sat64 satS clampI
  congr 1
  omega

/-- Settles O38: the pair and register forms of the time instructions, each with its function. -/
theorem timeInstructionsGiveTimes : Obligations.TimeInstructionsGiveTimes := by
  refine ⟨fun e t pd s s1 h hd => ?_, ?_, ?_, fun e t rd pa pb s s1 h ha hb => ?_, fun e t pd pa rb s s1 h hd ha => ?_,
    fun e t pd pa s s1 hi hp hf hbad => ?_⟩
  · refine ⟨s1.freeVal % 3, by omega, ?_, ?_⟩
    · show execRdbt .. = _
      rw [execRdbt, hd]
      exact runOp_issues h
    · show execRdwt .. = _
      rw [execRdwt, hd]
      exact runOp_issues h
  · rintro e t pd pa s s1 x y h hd ha rfl rfl
    exact ⟨show execCvwt .. = _ from pairOp_issues h hd ha, show execTopt .. = _ from pairOp_issues h hd ha,
      show execFrpt .. = _ from pairOp_issues h hd ha⟩
  · rintro e t rd pa s s1 y h ha rfl
    exact ⟨show execTres .. = _ from timeOp_issues h ha, show execTont .. = _ from timeOp_issues h ha⟩
  · have hill : (badPair pa || badPair pb) = false := by rw [ha, hb]; rfl
    rw [← sat64_eq, ← sat64_eq]
    exact ⟨show execTdiff .. = _ from timeOp_issues h hill, show execTdiffb .. = _ from timeOp_issues h hill⟩
  · exact ⟨show execTadd .. = _ from pairOp_issues h hd ha, show execTaddb .. = _ from pairOp_issues h hd ha⟩
  · have hill : (badPair pd || badPair pa) = true := by simpa using hbad
    show execTopt .. = _
    rw [execTopt, pairOp, hill]
    exact runOp_illegal hi hp hf

/-! ### Exceptions (R557 to R560, R613) -/

/-- Settles O42: the three branches of `raiseExc`, and the codes of the causes. -/
theorem exceptionsAreTaken : Obligations.ExceptionsAreTaken := by
  rintro k c bad s _ _ rfl rfl
  refine ⟨fun hu => ?_, fun hu hc => ?_, fun hu hc => ?_, ?_⟩
  · unfold raiseExc
    simp only [hu, if_true]
  · unfold raiseExc
    simp only [hu, hc, if_true, Bool.false_eq_true, if_false]
  · unfold raiseExc
    simp only [hu, hc, Bool.false_eq_true, if_false]
  · cases c <;> decide

/-! ### System instructions (R637 to R639) -/

/-- MFSR of a listed register other than CYCLE gives the thread what the register reads. -/
theorem exec_mfsr {e : Fin 512} {t : Fin 4} {rd : GReg} {sr : BitVec 5} {v : DWord} {s s1 : State} (h : Issues (thKey e t) true [] s s1)
    (hsr : sr.toNat ≤ 6) (hne : sr ≠ 5) (hv : s1.srRead (thKey e t) sr.toNat = some v) :
    exec (.mfsr e t rd sr) s = .next (became s (next (thKey e t) (wrRg (thKey e t) rd.toNat v s1))) := by
  show execMfsr .. = _
  rw [execMfsr, decide_eq_false (Nat.not_lt.mpr hsr), runOp_issues h]
  simp only [hv, if_neg hne]

/-- MTSR of a register that is written. -/
theorem exec_mtsr {e : Fin 512} {t : Fin 4} {ra : GReg} {sr : BitVec 5} {s s1 u : State} (h : Issues (thKey e t) true [ra] s s1)
    (hsr : (decide (sr ≠ 0) && decide (sr ≠ 3) && decide (sr ≠ 6)) = false)
    (hu : srWrite (thKey e t) sr.toNat ((s1.th (thKey e t)).r ra) s1 = some u) :
    exec (.mtsr e t sr ra) s = .next (became s (next (thKey e t) u)) := by
  show execMtsr .. = _
  rw [execMtsr, hsr, runOp_issues h]
  simp only [hu]

theorem thKey_div_four (e : Fin 512) (t : Fin 4) : thKey e t / 4 = e.val := by
  unfold thKey
  omega

theorem thKey_div_cluster (e : Fin 512) (t : Fin 4) : thKey e t / 32 = e.val / 8 := by
  unfold thKey
  omega

theorem thKey_eq (e : Fin 512) (t : Fin 4) : thKey e t = 4 * e.val + t.val := by
  unfold thKey
  omega

theorem exec_illegalEncoding {e : Fin 512} {t : Fin 4} {w : Word} {s s1 : State} (hi : s.canIssue (thKey e t) = true)
    (hp : (s.th (thKey e t)).postErr = none) (hf : fetchAt (thKey e t) s = (true, s1)) (hw : listedWord w = false) :
    exec (.illegalEncoding e t w) s = .next (became s (raiseExc (thKey e t) .illegal none s1)) := by
  show execIllegalEncoding .. = _
  rw [execIllegalEncoding, hw]
  exact runOp_illegal hi hp hf

/-- Settles O44, instruction by instruction. -/
theorem systemInstructionsRun : Obligations.SystemInstructionsRun := by
  refine ⟨fun e t s s1 h => ⟨fun hu => ?_, fun hu => ?_, show execBreakOp .. = _ from runOp_issues h⟩, ?_, fun e t rd s s1 h => ?_, ?_, ?_,
    fun e t w s s1 hi hp hf hw => exec_illegalEncoding hi hp hf hw, fun k v s => ⟨fun hle => ?_, fun hlt => ?_⟩⟩
  · show execSysCall .. = _
    rw [execSysCall, hu]
    exact runOp_issues h
  · obtain ⟨hi, hp, hf, -, -⟩ := h
    show execSysCall .. = _
    rw [execSysCall, hu]
    exact runOp_illegal hi hp hf
  · rintro e t s s1 _ h rfl
    exact show execEret .. = _ from runOp_issues h
  · refine ⟨exec_mfsr h (by decide) (by decide) rfl, exec_mfsr h (by decide) (by decide) rfl,
      exec_mfsr h (by decide) (by decide) ?_, exec_mfsr h (by decide) (by decide) rfl, exec_mfsr h (by decide) (by decide) rfl,
      show execMfsr .. = _ from runOp_issues h, exec_mfsr h (by decide) (by decide) rfl⟩
    rw [← thKey_eq, ← thKey_div_cluster e t]
    rfl
  · rintro e t ra s s1 _ h rfl
    exact ⟨exec_mtsr h rfl rfl, exec_mtsr h rfl rfl, exec_mtsr h rfl rfl⟩
  · intro e t rd ra s s1 c h hu hc
    show execPmrd .. = _
    refine (runOp_issues h).trans ?_
    simp only [pmrdOp, hc, hu, Bool.false_eq_true, false_and, if_false]
  · unfold vecWrite
    exact if_neg (Nat.not_lt.mpr hle)
  · unfold vecWrite
    exact if_pos hlt

end Sys2Proof.Machine
end

section
/-! O35, O36 and O45: loads, stores and the frame of the integer instructions (R556, R603 to R605, R607, R610, R615, R617). -/
namespace Sys2Proof.Machine

/-! ### Loads and stores (R617) -/

theorem exec_load_reads {e : Fin 512} {t : Fin 4} {rd ra : GReg} {imm : BitVec 16} {n v : Nat} {signed : Bool} {s s1 s2 : State} {ea x : DWord}
    (h : Issues (thKey e t) false [ra] s s1) (hea : (s1.th (thKey e t)).r ra + imm.signExtend 64 = ea)
    (hx : extend n signed v = x) (hr : LoadReads (thKey e t) rd.toNat ea n signed s1 v s2) :
    loadOp e t rd ra imm n signed s = .next (became s (next (thKey e t) (wrRg (thKey e t) rd.toNat x s2))) := by
  rw [loadOp_issues h, Thread.ea, hea, load_reads hr, hx]

theorem exec_load_refused {e : Fin 512} {t : Fin 4} {rd ra : GReg} {imm : BitVec 16} {n : Nat} {signed : Bool} {s s1 : State} {ea : DWord}
    {c : Cause} (h : Issues (thKey e t) false [ra] s s1) (hea : (s1.th (thKey e t)).r ra + imm.signExtend 64 = ea)
    (hc : s1.access (thKey e t) ea.toNat n n false = .error c) :
    loadOp e t rd ra imm n signed s = .next (became s (raiseExc (thKey e t) c (some ea) s1)) := by
  rw [loadOp_issues h, Thread.ea, hea, load_refused hc]

/-- A store beyond the cluster while eight posted ones are outstanding is not yet taken (R610, log 75). -/
theorem store_full {k : Nat} {v ea : DWord} {n : Nat} {s : State} {g : Target} (ha : s.access k ea.toNat n n true = .ok g)
    (hfar : g.isFar = true) (hlen : 8 ≤ (s.th k).posted.length) : store k v ea n s = none := by
  unfold store
  rw [ha]
  exact if_pos ⟨hfar, hlen⟩

theorem exec_store {e : Fin 512} {t : Fin 4} {rs ra : GReg} {imm : BitVec 16} {n : Nat} {s s1 u : State} {ea : DWord}
    (h : Issues (thKey e t) false [rs, ra] s s1) (hea : (s1.th (thKey e t)).r ra + imm.signExtend 64 = ea)
    (hu : store (thKey e t) ((s1.th (thKey e t)).r rs) ea n s1 = some u) : storeOp e t rs ra imm n s = .next (became s u) := by
  rw [storeOp_issues h, Thread.ea, hea, hu, Option.getD_some]

theorem exec_store_waits {e : Fin 512} {t : Fin 4} {rs ra : GReg} {imm : BitVec 16} {n : Nat} {s s1 : State} {ea : DWord}
    (h : Issues (thKey e t) false [rs, ra] s s1) (hea : (s1.th (thKey e t)).r ra + imm.signExtend 64 = ea)
    (hn : store (thKey e t) ((s1.th (thKey e t)).r rs) ea n s1 = none) : storeOp e t rs ra imm n s = .next (became s s) := by
  rw [storeOp_issues h, Thread.ea, hea, hn, Option.getD_none]

theorem extend_signed (n v : Nat) : extend n true v = (BitVec.ofNat (8 * n) v).signExtend 64 := rfl
theorem extend_unsigned (n v : Nat) : extend n false v = BitVec.ofNat 64 v := rfl

/-- Settles O35: each load by its width and extension. -/
theorem loadsReadMemory : Obligations.LoadsReadMemory := by
  refine ⟨fun e t rd ra imm s s1 s2 v ea h hea => ?_, fun e t rd ra imm s s1 ea c h hea => ?_⟩
  · exact ⟨fun hr => show execLd .. = _ from exec_load_reads h hea (extend_unsigned ..) hr,
      fun hr => show execLw .. = _ from exec_load_reads h hea (extend_signed ..) hr,
      fun hr => show execLwu .. = _ from exec_load_reads h hea (extend_unsigned ..) hr,
      fun hr => show execLh .. = _ from exec_load_reads h hea (extend_signed ..) hr,
      fun hr => show execLhu .. = _ from exec_load_reads h hea (extend_unsigned ..) hr,
      fun hr => show execLb .. = _ from exec_load_reads h hea (extend_signed ..) hr,
      fun hr => show execLbu .. = _ from exec_load_reads h hea (extend_unsigned ..) hr⟩
  · exact ⟨fun hc => show execLd .. = _ from exec_load_refused h hea hc,
      fun hc => show execLw .. = _ from exec_load_refused h hea hc,
      fun hc => show execLwu .. = _ from exec_load_refused h hea hc,
      fun hc => show execLh .. = _ from exec_load_refused h hea hc,
      fun hc => show execLhu .. = _ from exec_load_refused h hea hc,
      fun hc => show execLb .. = _ from exec_load_refused h hea hc,
      fun hc => show execLbu .. = _ from exec_load_refused h hea hc⟩

/-- Settles O36: a store is taken, raises its exception or waits for room among the posted ones, whatever its width. -/
theorem storesWriteMemory : Obligations.StoresWriteMemory := by
  refine ⟨fun e t rs ra imm s s1 s2 ea h hea => ?_, fun e t rs ra imm s s1 ea c h hea => ?_,
    fun e t rs ra imm s s1 ea g h hea hfar hlen => ?_⟩
  · exact ⟨fun hw => show execSd .. = _ from exec_store h hea (store_writes hw),
      fun hw => show execSw .. = _ from exec_store h hea (store_writes hw),
      fun hw => show execSh .. = _ from exec_store h hea (store_writes hw),
      fun hw => show execSb .. = _ from exec_store h hea (store_writes hw)⟩
  · exact ⟨fun hc => show execSd .. = _ from exec_store h hea (store_refused hc),
      fun hc => show execSw .. = _ from exec_store h hea (store_refused hc),
      fun hc => show execSh .. = _ from exec_store h hea (store_refused hc),
      fun hc => show execSb .. = _ from exec_store h hea (store_refused hc)⟩
  · exact ⟨fun ha => show execSd .. = _ from exec_store_waits h hea (store_full ha hfar hlen),
      fun ha => show execSw .. = _ from exec_store_waits h hea (store_full ha hfar hlen),
      fun ha => show execSh .. = _ from exec_store_waits h hea (store_full ha hfar hlen),
      fun ha => show execSb .. = _ from exec_store_waits h hea (store_full ha hfar hlen)⟩

/-! ### The frame of an integer instruction (R603 to R605) -/

/-- An instruction that reads fewer registers issues where one that reads more does. -/
theorem Issues.mono {k : Nat} {priv : Bool} {l m : List GReg} {s s1 : State} (h : Issues k priv m s s1) (hl : l ⊆ m) :
    Issues k priv l s s1 := by
  obtain ⟨hi, hp, hf, hu, hb⟩ := h
  refine ⟨hi, hp, hf, hu, List.any_eq_false.mpr fun r hr => ?_⟩
  exact List.any_eq_false.mp hb r (List.map_subset _ hl hr)

theorem unitCtrs_off {s : State} {u c n : Nat} {user : Bool} (h : s.pmuOn = false) : s.unitCtrs u c n user = [] := by
  unfold State.unitCtrs
  simp [h]

theorem pmuUnit_off {s : State} {u c n : Nat} {user : Bool} (h : s.pmuOn = false) : pmuUnit u c n user s = s := by
  rw [pmuUnit, unitCtrs_off h]
  rfl

theorem sampleRetire_off {k : Nat} {pc : DWord} {user : Bool} {s : State} (h : s.samples (k / 4) = false) :
    sampleRetire k pc user s = s := by
  unfold sampleRetire
  rw [if_pos h]

/-- Where neither a counter nor a sampler watches, an instruction that completes only moves PC. -/
theorem next_unwatched {k : Nat} {s : State} (hp : s.pmuOn = false) (hs : s.samples (k / 4) = false) :
    next k s = s.setTh k { s.th k with pc := (s.th k).pc + 4 } := by
  have hpmu (x : Thread) : (s.setTh k x).pmuOn = false := hp
  have hsmp (x : Thread) : (s.setTh k x).samples (k / 4) = false := hs
  simp only [next, finish, retire]
  rw [pmuUnit_off (hpmu _), sampleRetire_off (hsmp _)]

theorem th_setTh (s : State) (k j : Nat) (x : Thread) : (s.setTh k x).th j = if k = j then x else s.th j := AMap.get_set ..

theorem rg_setRg {t : Thread} {r i : Nat} {v : DWord} (h : i ≠ r ∨ i = 0) : (t.setRg r v).rg i = t.rg i := by
  unfold Thread.setRg
  split
  · rfl
  · unfold Thread.rg
    split
    · rfl
    · rename_i hi
      exact (AMap.get_set ..).trans (if_neg (Ne.symm (h.resolve_right hi)))

/-- From s to u no more has changed than the general register r of thread k and its parity. -/
structure OnlyReg (k r : Nat) (s u : State) : Prop where
  rg : ∀ i, i ≠ r ∨ i = 0 → (u.th k).rg i = (s.th k).rg i
  thread : { u.th k with g := (s.th k).g } = s.th k
  others : ∀ j, j ≠ k → u.th j = s.th j
  state : { u with fct := s.fct, badWords := s.badWords } = s
  fct : { u.fct with threads := s.fct.threads } = s.fct
  parity : ∀ j, j ≠ rgKey k r → AMap.get false u.badWords j = AMap.get false s.badWords j

/-- A write of a register changes nothing else, and one of g0 nothing at all (R603). -/
theorem onlyReg_wrRg (k r : Nat) (v : DWord) (s : State) : OnlyReg k r s (wrRg k r v s) := by
  unfold wrRg
  split
  case isTrue => exact ⟨fun _ _ => rfl, rfl, fun _ _ => rfl, rfl, rfl, fun _ _ => rfl⟩
  case isFalse hr =>
    have hth (j : Nat) : (s.setTh k ((s.th k).setRg r v)).th j = if k = j then (s.th k).setRg r v else s.th j := th_setTh ..
    have hk : (s.setTh k ((s.th k).setRg r v)).th k = (s.th k).setRg r v := (hth k).trans (if_pos rfl)
    refine ⟨fun i hi => ?_, ?_, fun j hj => (hth j).trans (if_neg (Ne.symm hj)), rfl, rfl, fun j hj => ?_⟩
    · exact (congrArg (Thread.rg · i) hk).trans (rg_setRg hi)
    · show { (s.setTh k ((s.th k).setRg r v)).th k with g := (s.th k).g } = s.th k
      rw [hk, Thread.setRg, if_neg hr]
    · exact (AMap.get_set ..).trans (if_neg (Ne.symm hj))

/-- A change of the threads and of the parity of registers alone reaches nothing else in its cycle. -/
theorem became_of_onlyThreads {s s1 u : State} (hu : { u with fct := s1.fct, badWords := s1.badWords } = s1)
    (hts : s1.asy.ts = s.asy.ts) (hregs : s1.regs = s.regs) (hdpl : s1.dpl = s.dpl) : became s u = u := by
  have hasy : u.asy = s1.asy := by
    have h' := congrArg State.asy hu
    exact h'
  have hr : u.regs = s1.regs := by
    have h' := congrArg State.regs hu
    exact h'
  have hd : u.dpl = s1.dpl := by
    have h' := congrArg State.dpl hu
    exact h'
  exact settle_of_eq (by rw [hasy, hts]) (fun _ _ => State.reg_congr (hr.trans hregs) _) (hd.trans hdpl)

theorem fld_kind_zero (imm : BitVec 16) : fld (imm % 256) 8 8 = 0 := by
  simp only [fld, BitVec.toNat_umod, Nat.shiftRight_eq_div_pow, show (256 : BitVec 16).toNat = 256 from rfl]
  omega

/-- An integer instruction writes a value to rd and goes on to the next one. -/
theorem exec_integer {e : Fin 512} {t : Fin 4} {rd ra rb : GReg} {imm : BitVec 16} {h : BitVec 2} {s s1 : State}
    (hi : Issues (thKey e t) false [ra, rb, rd] s s1) :
    ∀ i ∈ [.add e t rd ra rb, .sub e t rd ra rb, .andOp e t rd ra rb, .orOp e t rd ra rb, .xorOp e t rd ra rb, .sll e t rd ra rb,
      .srl e t rd ra rb, .sra e t rd ra rb, .slt e t rd ra rb, .sltu e t rd ra rb, .mul e t rd ra rb, .mulh e t rd ra rb,
      .mulhu e t rd ra rb, .div e t rd ra rb, .divu e t rd ra rb, .rem e t rd ra rb, .remu e t rd ra rb, .clz e t rd ra,
      .popc e t rd ra, .bswap e t rd ra, .bswap32 e t rd ra, .bswap16 e t rd ra, .addi e t rd ra imm, .slti e t rd ra imm,
      .sltiu e t rd ra imm, .andi e t rd ra imm, .ori e t rd ra imm, .xori e t rd ra imm, .lui e t rd imm, .shi e t rd ra (imm % 256),
      .insh e t rd imm h],
      ∃ v, exec i s = .next (became s (next (thKey e t) (wrRg (thKey e t) rd.toNat v s1))) := by
  have h2 : Issues (thKey e t) false [ra, rb] s s1 := hi.mono (by simp)
  have h1 : Issues (thKey e t) false [ra] s s1 := hi.mono (by simp)
  have h0 : Issues (thKey e t) false [] s s1 := hi.mono (by simp)
  have hd : Issues (thKey e t) false [rd] s s1 := hi.mono (by simp)
  simp only [List.forall_mem_cons]
  exact ⟨⟨_, show execAdd .. = _ from aluOp_issues h2⟩,
    ⟨_, show execSub .. = _ from aluOp_issues h2⟩,
    ⟨_, show execAndOp .. = _ from aluOp_issues h2⟩,
    ⟨_, show execOrOp .. = _ from aluOp_issues h2⟩,
    ⟨_, show execXorOp .. = _ from aluOp_issues h2⟩,
    ⟨_, show execSll .. = _ from aluOp_issues h2⟩,
    ⟨_, show execSrl .. = _ from aluOp_issues h2⟩,
    ⟨_, show execSra .. = _ from aluOp_issues h2⟩,
    ⟨_, show execSlt .. = _ from aluOp_issues h2⟩,
    ⟨_, show execSltu .. = _ from aluOp_issues h2⟩,
    ⟨_, show execMul .. = _ from aluOp_issues h2⟩,
    ⟨_, show execMulh .. = _ from aluOp_issues h2⟩,
    ⟨_, show execMulhu .. = _ from aluOp_issues h2⟩,
    ⟨_, show execDiv .. = _ from aluOp_issues h2⟩,
    ⟨_, show execDivu .. = _ from aluOp_issues h2⟩,
    ⟨_, show execRem .. = _ from aluOp_issues h2⟩,
    ⟨_, show execRemu .. = _ from aluOp_issues h2⟩,
    ⟨_, show execClz .. = _ from aluOp_issues h1⟩,
    ⟨_, show execPopc .. = _ from aluOp_issues h1⟩,
    ⟨_, show execBswap .. = _ from aluOp_issues h1⟩,
    ⟨_, show execBswap32 .. = _ from aluOp_issues h1⟩,
    ⟨_, show execBswap16 .. = _ from aluOp_issues h1⟩,
    ⟨_, show execAddi .. = _ from aluOp_issues h1⟩,
    ⟨_, show execSlti .. = _ from aluOp_issues h1⟩,
    ⟨_, show execSltiu .. = _ from aluOp_issues h1⟩,
    ⟨_, show execAndi .. = _ from aluOp_issues h1⟩,
    ⟨_, show execOri .. = _ from aluOp_issues h1⟩,
    ⟨_, show execXori .. = _ from aluOp_issues h1⟩,
    ⟨_, show execLui .. = _ from aluOp_issues h0⟩,
    ⟨_, exec_shi h1 (fld_kind_zero imm)⟩,
    ⟨_, show execInsh .. = _ from aluOp_issues hd⟩,
    nofun⟩

/-- Settles O45: an integer instruction writes one register and moves PC, and neither reaches anything else. -/
theorem integerInstructionsFrame : Obligations.IntegerInstructionsFrame := by
  intro e t rd ra rb imm h s s1 i hi hp hs hts hregs hdpl hmem
  obtain ⟨v, hv⟩ := exec_integer hi i hmem
  obtain ⟨hrg, hth, hoth, hst, hfct, hbad⟩ := onlyReg_wrRg (thKey e t) rd.toNat v s1
  generalize wrRg (thKey e t) rd.toNat v s1 = w at *
  have hwregs : w.regs = s1.regs := by
    have h' := congrArg State.regs hst
    exact h'
  have hwflt : w.flt = s1.flt := by
    have h' := congrArg State.flt hst
    exact h'
  have hpmu : w.pmuOn = false := by
    rw [← hp]
    simp only [State.pmuOn, State.fltBit, State.rb, State.reg_congr hwregs]
  have hsmp : w.samples (thKey e t / 4) = false := by
    rw [← hs]
    simp only [State.samples, State.rb, State.reg_congr hwregs]
  rw [hv, next_unwatched hpmu hsmp,
    became_of_onlyThreads (s1 := s1) (u := w.setTh (thKey e t) { w.th (thKey e t) with pc := (w.th (thKey e t)).pc + 4 }) hst hts hregs hdpl]
  have hpc : (w.th (thKey e t)).pc = (s1.th (thKey e t)).pc := by
    have h' := congrArg Thread.pc hth
    exact h'
  have hk (x : Thread) : (w.setTh (thKey e t) x).th (thKey e t) = x := (th_setTh ..).trans (if_pos rfl)
  refine ⟨_, rfl, ?_, fun r hr => ?_, ?_, fun k hne => ?_, hst, hfct, hbad⟩
  · rw [hk, hpc]
  · rw [hk]
    exact hrg r hr
  · rw [hk]
    exact hpc ▸ hth
  · rw [th_setTh, if_neg (Ne.symm hne), hoth k hne]

end Sys2Proof.Machine
end

section
/-! O39 to O41: requests, queues and synchronisation as a thread uses them (R517, R569 to R583, R611, R618, R622 to R636). -/
namespace Sys2Proof.Machine

/-! ### Instructions that fence first (R611) -/

theorem fenced_empty {k : Nat} {op : State → State} {s : State} (h : (s.th k).posted = []) : fenced k op s = some (op s) := by
  rw [fenced, h]
  rfl

theorem fenced_outstanding {k : Nat} {op : State → State} {s : State} (h : (s.th k).posted ≠ []) : fenced k op s = none := by
  rw [fenced, if_neg (by simpa using h)]

/-- An instruction that fences first runs where no posted store is outstanding. -/
theorem stallOp_fenced {e : Fin 512} {t : Fin 4} {priv : Bool} {srcs : List GReg} {op : Nat → State → State → State} {s s1 : State}
    (h : Issues (thKey e t) priv srcs s s1) (hp : (s1.th (thKey e t)).posted = []) :
    stallOp e t false priv srcs (fun k a => fenced k (op k a) a) s = .next (became s (op (thKey e t) s1 s1)) := by
  rw [stallOp_issues h, fenced_empty hp, Option.getD_some]

/-! ### EVAL, RSV, RCAN and TARM (R517, R618, R622, R623, R636) -/

theorem writeResult_ok {k : Nat} {a : DWord} {l : List Byte} {t : Target} {done : State → State} {new old u : State}
    (h : memWrite (k / 32) t l new = (.ok, u)) : writeResult k a l t done new old = done u := by
  unfold writeResult
  rw [h]

theorem evalOp_noPort {k rd : Nat} {a b : DWord} {s s2 : State} {g h : Target} {q : List Byte}
    (ha : s.access k a.toNat 16 8 false = .ok g) (hb : s.access k b.toNat 32 8 true = .ok h)
    (hq : readRequest k a 16 g s = (some q, s2)) (hp : 16 ≤ leAt q 10 1 ∧ leAt q 10 1 ≤ 254) :
    evalOp k rd a b s = next k (wrRg k rd 1 s2) := by
  unfold evalOp
  rw [ha, hb]
  simp only [hq, if_pos hp]

theorem evalOp_port {k rd : Nat} {a b : DWord} {s s2 s3 : State} {g h : Target} {q : List Byte}
    (ha : s.access k a.toNat 16 8 false = .ok g) (hb : s.access k b.toNat 32 8 true = .ok h)
    (hq : readRequest k a 16 g s = (some q, s2)) (hp : ¬ (16 ≤ leAt q 10 1 ∧ leAt q 10 1 ≤ 254))
    (hw : memWrite (k / 32) h (evalResult s2 (BitVec.ofNat 80 (leAt q 0 10)) (if leAt q 10 1 = 0xFF then none else some (leAt q 10 1)))
      (noteEval (BitVec.ofNat 80 (leAt q 0 10)) (if leAt q 10 1 = 0xFF then none else some (leAt q 10 1))
        (evaluate s2 (BitVec.ofNat 80 (leAt q 0 10)) (if leAt q 10 1 = 0xFF then none else some (leAt q 10 1))).2.1
        (pmuChip 0x0D 0 (s2.count Reg.ASY_CNT_EVAL))) = (.ok, s3)) :
    evalOp k rd a b s = next k (wrRg k rd 0 s3) := by
  unfold evalOp
  rw [ha, hb]
  simp only [hq, if_neg hp, writeResult_ok hw]

theorem rsvOp_served {k rd ra rb : Nat} {s s2 s3 s4 : State} {g h : Target} {q : List Byte} {gr : Grant}
    (ha : s.access k ((s.th k).rg ra).toNat 24 8 false = .ok g) (hb : s.access k ((s.th k).rg rb).toNat 28 8 true = .ok h)
    (hq : readRequest k ((s.th k).rg ra) 24 g s = (some q, s2)) (hs : s2.pageStopped .tsu ((rsvReq q).port / 4) = false)
    (hk : s2.backed (masterOf k) (Reg.TSU_RQ_W ((rsvReq q).port / 4) 5) = false) (hr : reserve (rsvReq q) none s2 = (gr, s3))
    (hw : memWrite (k / 32) h (gr.words.flatMap (fun w => bytesLE 4 w.toNat)) s3 = (.ok, s4)) :
    rsvOp k rd ra rb s = next k (wrRg k rd (BitVec.ofNat 64 gr.status.code) s4) := by
  unfold rsvOp rsvAt
  dsimp only
  rw [ha, hb]
  simp only [hq, hs, hk, hr, Bool.and_false, Bool.or_self, Bool.false_eq_true, if_false, writeResult_ok hw]

/-- A timer that is not armed has nothing to post before it is armed again. -/
theorem timerFire_unarmed {e t : Nat} {s : State} (h : (s.th (4 * e + t)).tmrArmed = false) : timerFire e t s = s := by
  unfold timerFire
  simp only [h, Bool.false_and, Bool.false_eq_true, if_false]

/-- Settles O39, instruction by instruction. -/
theorem evaluationsAndReservations : Obligations.EvaluationsAndReservations := by
  refine ⟨?_, ?_, ?_, fun e t pa s s1 h hp ht => ?_⟩
  · rintro e t rd ra rb s s1 s2 _ _ g h q hi rfl rfl ha hb hq
    exact ⟨fun hp => show execEval .. = _ from (runOp_issues hi).trans (by rw [evalOp_noPort ha hb hq hp]),
      fun s3 hp hw => show execEval .. = _ from (runOp_issues hi).trans (by rw [evalOp_port ha hb hq hp hw])⟩
  · rintro e t rd ra rb s s1 s2 s3 s4 _ _ g h q _ gr hi rfl rfl ha hb hq rfl hs hk hr hw
    exact show execRsv .. = _ from (runOp_issues hi).trans (by rw [rsvOp_served ha hb hq hs hk hr hw])
  · rintro e t ra s s1 _ hi rfl hl
    exact show execRcan .. = _ from (runOp_issues hi).trans (by simp only [hl, if_true])
  · show execTarm .. = _
    rw [execTarm, hp, runOp_issues h, timerFire_unarmed (by rwa [← thKey_eq])]
    rfl

/-! ### Queue instructions (R569, R624 to R627) -/

theorem pushOp_disabled {k rd n : Nat} {a : DWord} {g : Target} {wait : Bool} {s : State} (hp : (s.th k).posted = [])
    (hc : queueCheck k n a false s = .ok g) (he : (s.queue n).en = false) : pushOp k rd n a wait s = some (queueDone k rd .disabled s) := by
  simp [pushOp, pushNow, hp, hc, he]

theorem pushOp_full {k rd n : Nat} {a : DWord} {g : Target} {wait : Bool} {s : State} (hp : (s.th k).posted = [])
    (hc : queueCheck k n a false s = .ok g) (he : (s.queue n).en = true) (hf : (s.queue n).cap ≤ (s.queue n).depth) :
    pushOp k rd n a wait s = some (if wait then queueWait k (.qpush rd n a) s else queueDone k rd .full s) := by
  cases wait <;> simp [pushOp, pushNow, hp, hc, he, hf]

theorem pushOp_room {k rd n : Nat} {a : DWord} {g : Target} {wait : Bool} {l : List Byte} {s s2 s3 : State} (hp : (s.th k).posted = [])
    (hc : queueCheck k n a false s = .ok g) (he : (s.queue n).en = true) (hr : (s.queue n).depth < (s.queue n).cap)
    (hm : memRead (k / 32) (s.queue n).size g s = (.ok, l, s2)) (hq : queuePush n l s2 = (.ok, none, s3)) :
    pushOp k rd n a wait s = some (queueDone k rd .ok s3) := by
  have hroom : ¬ (s.queue n).cap ≤ (s.queue n).depth := Nat.not_le.mpr hr
  simp [pushOp, pushNow, hp, hc, he, hroom, hm, hq]

theorem queuePop_disabled {n : Nat} {s : State} (he : (s.queue n).en = false) : queuePop n s = (.disabled, [], s) := by
  simp [queuePop, he]

theorem queuePop_empty {n : Nat} {s : State} (he : (s.queue n).en = true) (hd : (s.queue n).depth = 0) : queuePop n s = (.empty, [], s) := by
  simp [queuePop, he, hd]

/-- A pop that finds no element to wait for gives the status of the queue, or the element. -/
theorem popOp_now {k rd n : Nat} {a : DWord} {g : Target} {wait : Bool} {s : State} (hc : queueCheck k n a true s = .ok g)
    (hw : ¬ (wait ∧ (s.queue n).en ∧ (s.queue n).depth = 0)) : popOp k rd n a wait s = popNow k rd n a g s := by
  unfold popOp
  simp only [hc, if_neg hw]

theorem popNow_status {k rd n : Nat} {a : DWord} {g : Target} {st : QStatus} {s : State} (h : queuePop n s = (st, [], s)) (hs : st ≠ .ok) :
    popNow k rd n a g s = queueDone k rd st s := by
  unfold popNow
  rw [h]
  cases st
  case ok => exact absurd rfl hs
  all_goals rfl

theorem popNow_ok {k rd n : Nat} {a : DWord} {g : Target} {l : List Byte} {s s2 s3 : State} (h : queuePop n s = (.ok, l, s2))
    (hw : memWrite (k / 32) g l s2 = (.ok, s3)) : popNow k rd n a g s = queueDone k rd .ok s3 := by
  simp only [popNow, h, hw]

theorem popOp_waits {k rd n : Nat} {a : DWord} {g : Target} {s : State} (hc : queueCheck k n a true s = .ok g)
    (he : (s.queue n).en = true) (hd : (s.queue n).depth = 0) : popOp k rd n a true s = queueWait k (.qpop rd n a) s := by
  simp [popOp, hc, he, hd]

theorem stallOp_some {e : Fin 512} {t : Fin 4} {priv : Bool} {srcs : List GReg} {op : Nat → State → Option State} {s s1 u : State}
    (h : Issues (thKey e t) priv srcs s s1) (hu : op (thKey e t) s1 = some u) :
    stallOp e t false priv srcs op s = .next (became s u) := by
  rw [stallOp_issues h, hu, Option.getD_some]

/-- Settles O40, by the state of the queue that the instruction names. -/
theorem queueInstructionsRun : Obligations.QueueInstructionsRun := by
  refine ⟨?_, ?_, ?_⟩
  · rintro e t rd ra rb s s1 _ _ g hi rfl rfl hp hc
    refine ⟨fun he => ⟨?_, ?_⟩, fun he hf => ⟨?_, ?_⟩, fun l s2 s3 he hr hm hq => ⟨?_, ?_⟩⟩
    · exact show execQpush .. = _ from stallOp_some hi (pushOp_disabled hp hc he)
    · exact show execQpushw .. = _ from stallOp_some hi (pushOp_disabled hp hc he)
    · exact show execQpush .. = _ from stallOp_some hi (pushOp_full hp hc he hf)
    · exact show execQpushw .. = _ from stallOp_some hi (pushOp_full hp hc he hf)
    · exact show execQpush .. = _ from stallOp_some hi (pushOp_room hp hc he hr hm hq)
    · exact show execQpushw .. = _ from stallOp_some hi (pushOp_room hp hc he hr hm hq)
  · rintro e t rd ra rb s s1 _ _ g hi rfl rfl hc
    refine ⟨fun he => ?_, fun he hd => ⟨?_, ?_⟩, fun l s2 s3 hd hq hw => ?_⟩
    · have hnow (wait : Bool) := popOp_now (rd := rd.toNat) (wait := wait) hc (by simp [he])
      exact ⟨show execQpop .. = _ from (runOp_issues hi).trans (by rw [hnow, popNow_status (queuePop_disabled he) (by decide)]),
        show execQpopw .. = _ from (runOp_issues hi).trans (by rw [hnow, popNow_status (queuePop_disabled he) (by decide)])⟩
    · have hnow := popOp_now (rd := rd.toNat) (wait := false) hc (by simp)
      exact show execQpop .. = _ from (runOp_issues hi).trans (by rw [hnow, popNow_status (queuePop_empty he hd) (by decide)])
    · exact show execQpopw .. = _ from (runOp_issues hi).trans (by rw [popOp_waits hc he hd])
    · have hnow (wait : Bool) := popOp_now (rd := rd.toNat) (wait := wait) hc (by simp [hd])
      exact ⟨show execQpop .. = _ from (runOp_issues hi).trans (by rw [hnow, popNow_ok hq hw]),
        show execQpopw .. = _ from (runOp_issues hi).trans (by rw [hnow, popNow_ok hq hw])⟩
  · rintro e t rd ra s s1 _ hi rfl hu
    have hmay : ¬ ((s1.th (thKey e t)).user = true ∧ (s1.queue (queueOf ((s1.th (thKey e t)).r ra))).user = false) := by
      rcases hu with hu | hu <;> simp [hu]
    exact show execQstat .. = _ from (runOp_issues hi).trans (by simp only [if_neg hmay]; rfl)

/-! ### Events, barriers and semaphores (R573, R577 to R583, R628 to R635) -/

/-- A semaphore that is free is taken, broken or not (R582). -/
theorem semTry_free {id n : Nat} {s : State} (hf : s.fltBit Reg.SEM 0 = false) (ho : (s.sem n).owner = none) :
    semTry id n s = (if (s.sem n).broken then .okBroken else .ok, s.setSem n { s.sem n with owner := some id }) := by
  simp [semTry, hf, ho]

/-- The result of an acquire that takes a semaphore: 1 where it is broken. -/
theorem code_taken (b : Bool) : BitVec.ofNat 64 (if b then SemResult.okBroken else SemResult.ok).code = if b then 1 else 0 := by
  cases b <;> rfl

theorem semTry_held {id n j : Nat} {s : State} (hf : s.fltBit Reg.SEM 0 = false) (ho : (s.sem n).owner = some j) (hj : j ≠ id) :
    semTry id n s = (.busy, s) := by
  simp [semTry, hf, ho, hj]

theorem semRelease_owned {id n : Nat} {s : State} (ho : (s.sem n).owner = some id) :
    semRelease id n s = (.ok, semPass n (s.setSem n { s.sem n with owner := none, broken := false })) := by
  simp [semRelease, ho]

theorem acquireOp_free {k rd n : Nat} {s : State} (hf : s.fltBit Reg.SEM 0 = false) (ho : (s.sem n).owner = none) :
    acquireOp k rd n s = next k (wrRg k rd (if (s.sem n).broken then 1 else 0) (s.setSem n { s.sem n with owner := some k })) := by
  unfold acquireOp
  rw [semTry_free hf ho]
  cases (s.sem n).broken <;> rfl

theorem acquireOp_held {k rd n j : Nat} {s : State} (hf : s.fltBit Reg.SEM 0 = false) (ho : (s.sem n).owner = some j) (hj : j ≠ k) :
    acquireOp k rd n s = (beginWait k .sema (.sacq rd n) s).setSem n ((s.sem n).enqueue s.bt k) := by
  unfold acquireOp
  simp only [semTry_held hf ho hj, hf, Bool.false_eq_true, if_false]

/-- EPOST to an engine of the cluster that is enabled and out of reset (R628, R632). -/
theorem postOp_runs {k : Nat} {x y : DWord} {s : State} (hen : (next k s).engEn (8 * (k / 32) + fld x 2 3) = true)
    (hrst : (next k s).engRst (8 * (k / 32) + fld x 2 3) = false) :
    postOp k x y s = postTo (4 * (8 * (k / 32) + fld x 2 3) + fld x 0 2) 5 (fld y 0 24) (next k s) := by
  unfold postOp
  exact if_pos ⟨hen, hrst⟩

/-- A member arrives at a barrier at which it does not wait yet (R577). -/
theorem barOp_member {k rd b : Nat} {s s2 : State} (hm : s.barMember b k = true) (ha : (s.arrivedAt b).contains k = false)
    (h2 : (pmuUnit (512 + k / 32) 0x07 0 false (beginWait k .barrier (.bar rd b) s)).setArrived b
      ((pmuUnit (512 + k / 32) 0x07 0 false (beginWait k .barrier (.bar rd b) s)).arrivedAt b ++ [k]) = s2)
    (hf : s2.fltBit Reg.SEM 0 = false) : barOp k rd b s = barCheck b s2 := by
  unfold barOp
  rw [if_neg (by simp [hm]), if_neg (ha ▸ Bool.false_ne_true)]
  dsimp only
  rw [h2, if_neg (by simp [hf])]

theorem submitOp_now {k rd n : Nat} {a : DWord} {g : Target} {l : List Byte} {s s2 s3 : State} (ha : s.access k a.toNat 32 32 false = .ok g)
    (ht : (s.th k).tickets.length < 8) (hm : memRead (k / 32) 32 g s = (.ok, l, s2)) (hc : cryTake k l s2 = (n, s3)) :
    submitOp k rd a s = give k rd (BitVec.ofNat 64 n) (pmuUnit (k / 4) 0x25 (k % 4) (s3.th k).user s3) := by
  unfold submitOp submitNow
  simp only [ha, if_neg (Nat.not_le.mpr ht), hm, hc]

theorem collectOp_done {k rd n : Nat} {wait : Bool} {x : Ticket} {w : Word} {s : State}
    (hx : (s.th k).tickets.find? (fun y => decide (y.num = n)) = some x) (hd : x.done = some w) : collectOp k rd n wait s = collect k rd n w s := by
  unfold collectOp
  simp only [hx, hd]

theorem collectOp_none {k rd n : Nat} {wait : Bool} {s : State} (hx : (s.th k).tickets.find? (fun y => decide (y.num = n)) = none) :
    collectOp k rd n wait s = next k (wrRg k rd 0x8000000000000000 s) := by
  unfold collectOp
  simp only [hx, give]

/-- Settles O41, instruction by instruction. -/
theorem eventsAndSemaphoresRun : Obligations.EventsAndSemaphoresRun := by
  refine ⟨fun e t rd s s1 h => ⟨fun w rest hf => ?_, fun hf => ⟨?_, ?_⟩⟩, ?_, ?_, ?_, ?_, ?_, ?_, ?_, ?_, ?_, ?_, ?_⟩
  · exact ⟨show execEwait .. = _ from (runOp_issues h).trans (by rw [eventOp, hf]),
      show execEtry .. = _ from (runOp_issues h).trans (by rw [eventOp, hf])⟩
  · exact show execEwait .. = _ from (runOp_issues h).trans (by rw [eventOp, hf]; rfl)
  · exact show execEtry .. = _ from (runOp_issues h).trans (by rw [eventOp, hf]; rfl)
  · rintro e t ra rb s s1 _ _ _ h hp rfl rfl rfl hen hrst
    refine show execEpost .. = _ from (stallOp_fenced h hp).trans ?_
    rw [postOp_runs hen hrst]
  · rintro e t rd ra s s1 _ h rfl
    exact ⟨fun hm => show execBarArrive .. = _ from (runOp_issues h).trans (by rw [barOp, if_pos hm, give]),
      fun s2 hm ha hf h2 => show execBarArrive .. = _ from (runOp_issues h).trans (by rw [barOp_member hm ha h2 hf])⟩
  · rintro e t ra rb s s1 _ h hp rfl hm
    show execBcast .. = _
    rw [execBcast, hm, Bool.not_true]
    rw [stallOp_fenced (op := fun k a => bcastOp k (fld ((s.th (thKey e t)).r ra) 0 4) ((a.th k).r rb)) h hp, bcastOp]
  · rintro e t rd ra s s1 _ h rfl hf ho
    refine ⟨show execSacq .. = _ from (runOp_issues h).trans (by rw [acquireOp_free hf ho]), ?_⟩
    refine show execStry .. = _ from (runOp_issues h).trans ?_
    dsimp only
    rw [semTry_free hf ho]
    dsimp only
    rw [code_taken, give]
  · rintro e t rd ra s s1 _ j h rfl hf ho hj
    exact ⟨show execSacq .. = _ from (runOp_issues h).trans (by rw [acquireOp_held hf ho hj]; rfl),
      show execStry .. = _ from (runOp_issues h).trans (by rw [semTry_held hf ho hj]; rfl)⟩
  · rintro e t rd ra s s1 _ h hp rfl ho
    refine show execSrel .. = _ from (stallOp_fenced h hp).trans ?_
    rw [semRelease_owned ho]
    rfl
  · rintro e t rd ra s s1 s2 s3 _ g l n h hp rfl ha ht hm hc
    exact show execCsub .. = _ from (stallOp_fenced h hp).trans (by rw [submitOp_now ha ht hm hc, give])
  · rintro e t rd ra s s1 _ h rfl
    exact ⟨fun x w hx hd => ⟨show execCwait .. = _ from (runOp_issues h).trans (by rw [collectOp_done hx hd]),
        show execCtry .. = _ from (runOp_issues h).trans (by rw [collectOp_done hx hd])⟩,
      fun hx => ⟨show execCwait .. = _ from (runOp_issues h).trans (by rw [collectOp_none hx]),
        show execCtry .. = _ from (runOp_issues h).trans (by rw [collectOp_none hx])⟩⟩
  · exact fun e t ra s s1 h => show execJrnl .. = _ from runOp_issues h
  · exact fun e t s s1 h => ⟨fun hp => show execFence .. = _ from stallOp_some h (fenced_empty hp),
      fun hp => show execFence .. = _ from (stallOp_issues h).trans (by rw [fenced_outstanding hp, Option.getD_none])⟩
  · intro x b k hb
    simp [Sem.enqueue, insNat, hb]

end Sys2Proof.Machine
end

section
/-! O9 and O10: register accesses (R5 to R7, R10, R12 to R19, R25, R49, R662) and the common page header (R26 to R28, R37, R51 to R54,
R57). A write that arrives is one of the header or of the body of its page; a read is one of the first word of a value. -/
namespace Sys2Proof.Machine

/-! ### Accesses whose size a page does not take (R5, R6) -/

theorem sizeOk_page_ne {a n : Nat} (hw : windowOf a = .page) (hn : n ≠ 4) : sizeOk a n = false := by
  simp [sizeOk, hw, hn]

theorem writeCmd_wrongSize {m : Master} {a n v : Nat} {s : State} (ha : s.alive = true) (hw : windowOf a = .page) (hn : n ≠ 4) :
    writeCmd m a n v s = .next (settle s (busErr m a 1 true s)) := by
  simp [writeCmd, busWrite, ha, sizeOk_page_ne hw hn]

theorem readAt_wrongSize {m : Master} {a n : Nat} {s : State} (ha : s.alive = true) (hw : windowOf a = .page) (hn : n ≠ 4) :
    readAt m a n s = busErr m a 1 false s := by
  simp [readAt, busRead, ha, sizeOk_page_ne hw hn]

theorem exec_write_wrongSize {m : Master} {addr : BAddr} {v : DWord} {s : State} (ha : s.alive = true) (hw : windowOf addr.toNat = .page) :
    exec (.registerWrite m .byte addr v) s = .next (settle s (busErr m addr.toNat 1 true s)) ∧
    exec (.registerWrite m .half addr v) s = .next (settle s (busErr m addr.toNat 1 true s)) ∧
    (m ≠ .host → exec (.registerWrite m .double addr v) s = .next (settle s (busErr m addr.toNat 1 true s))) := by
  refine ⟨?_, ?_, fun hm => ?_⟩
  · exact show execRegisterWrite m .byte addr v s = _ from writeCmd_wrongSize ha hw (by decide)
  · exact show execRegisterWrite m .half addr v s = _ from writeCmd_wrongSize ha hw (by decide)
  · exact show execRegisterWrite m .double addr v s = _ from (if_neg hm).trans (writeCmd_wrongSize ha hw (by decide))

theorem exec_read_wrongSize {m : Master} {addr : BAddr} {s : State} (ha : s.alive = true) (hw : windowOf addr.toNat = .page) :
    exec (.multiwordLoRead m ⟨addr, .byte⟩) s = .next (settle s (busErr m addr.toNat 1 false s)) ∧
    exec (.multiwordLoRead m ⟨addr, .half⟩) s = .next (settle s (busErr m addr.toNat 1 false s)) ∧
    (m ≠ .host → exec (.multiwordLoRead m ⟨addr, .double⟩) s = .next (settle s (busErr m addr.toNat 1 false s))) := by
  refine ⟨?_, ?_, fun hm => ?_⟩
  · show execMultiwordLoRead m ⟨addr, .byte⟩ s = _
    simp only [execMultiwordLoRead, readAt_wrongSize ha hw (show 1 ≠ 4 by decide)]
  · show execMultiwordLoRead m ⟨addr, .half⟩ s = _
    simp only [execMultiwordLoRead, readAt_wrongSize ha hw (show 2 ≠ 4 by decide)]
  · show execMultiwordLoRead m ⟨addr, .double⟩ s = _
    simp only [execMultiwordLoRead, if_neg hm, readAt_wrongSize ha hw (show 8 ≠ 4 by decide)]

/-! ### Writes of a word -/

theorem ofNat_fld_low {v : DWord} : BitVec.ofNat 32 (fld v 0 32) = v.setWidth 32 := by
  rw [fld_zero]
  exact BitVec.eq_of_toNat_eq (by simp)

/-- A word written to the header of a page. -/
theorem writeCmd_header {m : Master} {a v : Nat} {p : PageRow} {inst off : Nat} {s : State} (h : Arrives m a s)
    (hp : pageAt a = some (p, inst, off)) (ho : off < 0x040) :
    writeCmd m a 4 v s = .next (settle s (hdrWrite m p.kind inst (a - off) off (BitVec.ofNat 32 v) s)) := by
  rw [writeCmd_arrives h, pageWrite_header hp ho]

/-- A word written to a register of the body of a page. -/
theorem writeCmd_body {m : Master} {a v : Nat} {p : PageRow} {inst off : Nat} {r : RegRow} {x : Nat × Nat × Nat} {s : State}
    (h : Arrives m a s) (hp : pageAt a = some (p, inst, off)) (ho : 0x040 ≤ off) (hr : rowAt p.kind off = some (r, x))
    (ht : r.takes = true) :
    writeCmd m a 4 v s = .next (wrote a s (bodyWrite m none p.kind inst off a (BitVec.ofNat 32 v) s)) := by
  rw [writeCmd_arrives h, pageWrite_body hp ho hr ht, wrote]

/-- A word of a register of the header or the body, as REGISTER_WRITE brings it. -/
theorem exec_registerWrite_word (m : Master) (addr : BAddr) (v : DWord) (s : State) :
    exec (.registerWrite m .word addr v) s = writeCmd m addr.toNat 4 (fld v 0 32) s := rfl

theorem sub_add_of_page {a off : Nat} {p : PageRow} {inst : Nat} (hp : pageAt a = some (p, inst, off)) : a - off + off = a :=
  Nat.sub_add_cancel (pageAt_off_le hp)

theorem ofNat_toNat_word (v : Word) : BitVec.ofNat 32 v.toNat = v := BitVec.ofNat_toNat 32 v

/-- The last word of a value of two commits the one staged before it (R19, R23). -/
theorem valueWrite_pair {m : Master} {a off inst : Nat} {v lo : Word} {s : State} {p : PageRow} {r : RegRow} {i j : Nat}
    (hp : pageAt a = some (p, inst, off)) (hr : rowAt p.kind off = some (r, i, j, 1)) (hw : r.words = 2)
    (hs : s.stagedOf m (a - 4) = some lo) (ha : 4 ≤ a) :
    valueWrite m a v s = ((s.setReg (a - 4) (r.merge (s.pgLock (a - off)) 0 (s.reg (a - 4)) lo)).setReg a
      (r.merge (s.pgLock (a - off)) 1 (s.reg a) v)).dropStaged m (a - 4) 2 := by
  have hlast : a - 4 + 4 = a := Nat.sub_add_cancel ha
  unfold valueWrite
  simp only [hp, hr, hw]
  rw [if_neg (by decide), if_neg (by decide)]
  simp [List.range_succ, hs, hlast]

/-! ### Reads of a value (R10, R13 to R18) -/

/-- The first word of a value of the body of a page, read at once: the other words go to the reader's shadow, and a read-clear counter
clears. -/
theorem readAt_value {m : Master} {a inst off i j v : Nat} {p : PageRow} {r : RegRow} {s : State} (hg : Reads m a s)
    (hwin : windowOf a = .page) (hz : a % 4 = 0) (hwait : s.readWaits a = false) (hp : pageAt a = some (p, inst, off)) (ho : 0x040 ≤ off)
    (h0 : s.readsZero p.kind inst off = false) (hpmu : p.kind ≠ .pmu) (htsu : p.kind ≠ .tsu) (hprt : p.kind ≠ .prt)
    (ht : takeRead m p.kind inst off a s = none) (hr : rowAt p.kind off = some (r, i, j, 0)) (hwo : r.wo = false)
    (hv : (s.liveVal m p.kind inst r.off i j).getD (s.regN a r.words) = v) :
    readAt m a 4 s =
      (if r.rc then (forN (r.words - 1) (fun n t => t.setShadow m (a + 4 * (n + 1)) (wordOf v (n + 1))) s).setRegN a 0 r.words
        else forN (r.words - 1) (fun n t => t.setShadow m (a + 4 * (n + 1)) (wordOf v (n + 1))) s).emit (.readData m a (wordOf v 0)) := by
  have hpres : s.present p.kind r v = v := if_neg fun h => htsu h.1
  have hread : pageRead m a s = rowRead m p.kind inst a r i j 0 s := by
    unfold pageRead
    simp only [hp, if_neg (Nat.not_lt.mpr ho), h0, Bool.false_eq_true, if_false, hpmu, false_and, ht, hr]
  have hrow : rowRead m p.kind inst a r i j 0 s = (wordOf v 0,
      if r.rc then (forN (r.words - 1) (fun n t => t.setShadow m (a + 4 * (n + 1)) (wordOf v (n + 1))) s).setRegN a 0 r.words
      else forN (r.words - 1) (fun n t => t.setShadow m (a + 4 * (n + 1)) (wordOf v (n + 1))) s) := by
    unfold rowRead readLow readEffect
    simp only [hwo, Bool.false_eq_true, if_false, ne_eq, not_true_eq_false, Nat.mul_zero, Nat.sub_zero, hv, hpres, htsu, hprt, false_and,
      if_true]
  rw [readAt_arrives hg hwin hz hwait, hread, hrow, ofNat_toNat_word]

theorem isRc_of_row {a inst off : Nat} {p : PageRow} {r : RegRow} {x : Nat × Nat × Nat} (hp : pageAt a = some (p, inst, off))
    (hr : rowAt p.kind off = some (r, x)) : isRc a = r.rc := by
  simp only [isRc, hp, hr]

/-! ### A word under a write of the calendar in the same cycle (R49) -/

theorem getLsbD_underCal (m : Master) (a : Nat) (v : Word) (s : State) (i : Nat) (hi : i < 32) :
    (s.underCal m a v).getLsbD i =
      if m ≠ .calendar ∧ (s.calOver a).1.getLsbD i = true then (s.calOver a).2.getLsbD i else v.getLsbD i := by
  unfold State.underCal
  by_cases hm : m = .calendar
  · simp [hm]
  · simp only [hm, if_false, ne_eq, not_false_eq_true, true_and, BitVec.getLsbD_or, BitVec.getLsbD_and, BitVec.getLsbD_not, hi, decide_true,
      Bool.true_and]
    cases (s.calOver a).1.getLsbD i <;> simp

theorem writeCmd_go {m : Master} {a v : Nat} {s : State} (hg : gateIn m a true s = .go) (hw : windowOf a = .page) (hz : a % 4 = 0) :
    writeCmd m a 4 v s = .next (settle s (masterWrite m none a (BitVec.ofNat 32 v) s)) := by
  have h2 : windowGateIn m a true s = .go := by simp [windowGateIn, windowGate, hw, gate_of_gateIn hg, backed_of_gateIn hg]
  simp [writeCmd, busWrite, writeNow, alive_of_gateIn hg, sizeOk, hw, hz, h2]

theorem hdrWrite_scratch (m : Master) (k : PageKind) (inst pg : Nat) (v : Word) (s : State) :
    hdrWrite m k inst pg 0x02C v s = s.setReg (pg + 0x02C) v := rfl

theorem hdrWrite_evtRaw (m : Master) (k : PageKind) (inst pg : Nat) (v : Word) (s : State) :
    hdrWrite m k inst pg 0x010 v s = w1cWrite (pg + 0x010) (evtMask k inst) v s := rfl

/-- Settles O9, access by access. -/
theorem registerAccessesAct : Obligations.RegisterAccessesAct := by
  refine ⟨fun m addr v s p inst off h hp => ⟨fun ho => ?_, fun ho => ?_, fun r x u ho hr ht => ⟨?_, ?_⟩⟩,
    fun m a off inst v lo s p r i j => valueWrite_pair, fun m addr v s => exec_write_wrongSize,
    fun addr v s => rfl,
    fun m addr s p inst off i j v r hg hwin hz hwait hp ho h0 hpmu htsu hprt ht hr hwo hv => ?_, ?_, ?_,
    fun m addr s => exec_read_wrongSize, fun addr s => rfl, ?_⟩
  · subst ho
    rw [exec_registerWrite_word, writeCmd_header h hp (by decide), ofNat_fld_low]
    rw [hdrWrite_scratch, sub_add_of_page hp]
  · subst ho
    rw [exec_registerWrite_word, writeCmd_header h hp (by decide), ofNat_fld_low]
    rw [hdrWrite_evtRaw, sub_add_of_page hp, w1cWrite]
  · rw [exec_registerWrite_word, writeCmd_body h hp ho hr ht, ofNat_fld_low]
  · exact show execMultiwordHiWrite .. = _ from (writeCmd_body h hp ho hr ht).trans (by rw [ofNat_toNat_word])
  · have hread := readAt_value hg hwin hz hwait hp ho h0 hpmu htsu hprt ht hr hwo hv
    refine ⟨fun hrc => show execMultiwordLoRead m ⟨addr, .word⟩ s = _ from ?_, fun hrc => show execReadClearCounterRead .. = _ from ?_,
      fun hrc hl => show execReadClearCounterRead .. = _ from ?_⟩
    · rw [execMultiwordLoRead, hread, hrc]
      rfl
    · rw [execReadClearCounterRead, hread, hrc]
      rfl
    · rw [execReadClearCounterRead, hread, isRc_of_row hp hr, hrc, hl]
      rfl
  · intro m page v s p inst h hp
    refine show execEvtForceWrite .. = _ from (writeCmd_header h hp (by decide)).trans ?_
    rw [ofNat_toNat_word, Nat.add_sub_cancel]
    rfl
  · intro m ofs v s p inst r x h hp hk ho hr ht
    refine show execServicePageWrite .. = _ from (writeCmd_body h hp ho (hk ▸ hr) ht).trans ?_
    rw [ofNat_toNat_word, hk]
    rfl
  · intro m addr v s p inst off r x hg hw hz hp ho hr ht
    refine ⟨s.underCal m addr.toNat (v.setWidth 32), fun i hi => ?_, ?_⟩
    · rw [getLsbD_underCal _ _ _ _ _ hi, BitVec.getLsbD_setWidth, decide_eq_true hi, Bool.true_and]
    · rw [exec_registerWrite_word, writeCmd_go hg hw hz, ofNat_fld_low, masterWrite, pageWrite_body hp ho hr ht]

/-! ### The page header (R26 to R28, R37, R51 to R54, R57) -/

/-- A word written to CTRL of a page. -/
theorem writeCmd_ctrl {m : Master} {page : BAddr} {v : Word} {p : PageRow} {inst : Nat} {s : State} (h : Arrives m (ctrlOf page) s)
    (hp : pageAt (ctrlOf page) = some (p, inst, 0x008)) :
    writeCmd m (ctrlOf page) 4 v.toNat s = .next (settle s (wrCtrl m p.kind inst (baseOf page) v s)) := by
  rw [writeCmd_header h hp (by decide), ofNat_toNat_word, ctrlOf, Nat.add_sub_cancel]
  rfl

theorem softReset_open {m : Master} {k : PageKind} {inst : Nat} {s : State} (h : k ≠ .clu ∨ inst ≠ 63 ∨ m = .host ∨ m = .jtag) :
    softReset m k inst s = resetPage k inst s :=
  if_neg fun ⟨hk, hi, hh, hj⟩ => by simp [hk, hi, hh, hj] at h

theorem softReset_closed {m : Master} {s : State} (hh : m ≠ .host) (hj : m ≠ .jtag) : softReset m .clu 63 s = s :=
  if_pos ⟨rfl, rfl, hh, hj⟩

theorem wrCtrl_reset {m : Master} {k : PageKind} {inst pg : Nat} {v : Word} {s : State} (h : bit v 1 = true) :
    wrCtrl m k inst pg v s = softReset m k inst s := if_pos h

theorem wrCtrl_bits {m : Master} {k : PageKind} {inst pg : Nat} {v : Word} {s : State} (h : bit v 1 = false) :
    wrCtrl m k inst pg v s =
      setEn k inst pg (bit v 0) (setFreeze k pg (bit v 2) (if bit v 3 then s.setRb (pg + 0x008) 3 true else s)) := by
  unfold wrCtrl
  rw [h]
  rfl

/-- Settles O10, by the bits of CTRL, and by the two ends that a page comes to by itself. -/
theorem pageHeadersAct : Obligations.PageHeadersAct := by
  refine ⟨fun m page v s p inst h hp => ⟨fun h1 hk => ?_, fun h1 h3 => ?_, fun h1 h3 => ?_⟩, fun page s p inst off hp ha hr hs => ?_,
    fun page s p inst off hl hp hf hs => ?_, fun m v s h hen => ?_, fun m page v s p inst h hp hk h1 => ⟨fun hm => ?_, fun hi hh hj => ?_⟩⟩
  · refine show execSoftReset .. = _ from (writeCmd_ctrl h hp).trans ?_
    rw [wrCtrl_reset h1, softReset_open (.inl hk)]
  · have hctrl := writeCmd_ctrl (v := v) h hp
    rw [wrCtrl_bits h1, h3] at hctrl
    exact ⟨show execBlockEnable .. = _ from hctrl, show execBlockFreeze .. = _ from hctrl⟩
  · refine show execCfgLock .. = _ from (writeCmd_ctrl h hp).trans ?_
    rw [wrCtrl_bits h1, h3, if_pos rfl]
  · show execSoftResetComplete .. = _
    simp [execSoftResetComplete, resetEnd, hp, ha, hr, hs]
  · refine show execFreezeSafePoint .. = _ from (cmdE_live hl).trans ?_
    simp [safePoint, hp, hf, hs]
  · rw [exec_b4modeWrite h, wrCompat_disabled hen]
  · refine show execSoftReset .. = _ from (writeCmd_ctrl h hp).trans ?_
    rw [wrCtrl_reset h1, softReset_open (.inr hm), hk]
  · refine show execSoftReset .. = _ from (writeCmd_ctrl h hp).trans ?_
    rw [wrCtrl_reset h1, hk, hi, softReset_closed hh hj, settle_self]

end Sys2Proof.Machine
end

section
/-! O11 and O12: the commits of the BDR (R73 to R98). -/
namespace Sys2Proof.Machine

/-! ### The writes of the BDR's registers -/

theorem wrBdrCmd_abort {m : Master} {v : Word} {s : State} (h0 : bit v 0 = true) (h1 : bit v 1 = false) :
    wrBdrCmd m v s = slewAbort m s := by
  simp [wrBdrCmd, h0, h1]

theorem wrBdrCmd_capture {m : Master} {v : Word} {s : State} (h1 : bit v 1 = true) (h0 : bit v 0 = false) :
    wrBdrCmd m v s = bdrCapture s := by
  simp [wrBdrCmd, h0, h1]

/-- A new UTC offset that is kept (R93). -/
theorem wrUtcOfs_new {v : Word} {s : State} (hmode : fld (v &&& 0x7FFFF#32) 16 2 ≠ 3) (hnew : v &&& 0x7FFFF#32 ≠ s.reg Reg.BDR_UTC_OFS)
    (hofs : fld (v &&& 0x7FFFF#32) 0 16 ≠ fld (s.reg Reg.BDR_UTC_OFS) 0 16) :
    wrUtcOfs v s = entEvalAll (raiseEvt Reg.BDR 3
      (let t := s.setReg Reg.BDR_UTC_OFS (v &&& 0x7FFFF#32)
       { t with bdr := { t.bdr with prevTai := some (s.now, bits (s.reg Reg.BDR_UTC_OFS) 0 16) } })) := by
  simp only [wrUtcOfs, if_neg hmode, if_neg hnew, if_neg hofs]

/-- Settles O11, register by register. -/
theorem bdrWritesTakeEffect : Obligations.BdrWritesTakeEffect := by
  refine ⟨fun m v s h _ => ?_, fun m v s h => ?_, fun m v s h => ?_, fun m v s h h0 h1 => ?_, fun m v s h h1 h0 => ?_, fun m v s h => ?_,
    fun m v s h hmode hnew hofs => ?_⟩
  · exact show execRateCommit .. = _ from cmdW_reaches h
  · exact show execStepCommit .. = _ from cmdW_reaches h
  · exact show execSlewCommit .. = _ from cmdW_reaches h
  · exact show execSlewAbort .. = _ from (cmdW_reaches h).trans (by rw [wrBdrCmd_abort h0 h1, slewAbort])
  · exact show execBdrCapture .. = _ from (cmdW_reaches h).trans (by rw [wrBdrCmd_capture h1 h0, bdrCapture])
  · exact ⟨wrCvtHi m v s, show execBdrConvert .. = _ from cmdW_reaches h, rfl⟩
  · exact show execUtcOfsWrite .. = _ from (cmdW_reaches h).trans (by rw [wrUtcOfs_new hmode hnew hofs])

/-! ### Commits -/

theorem CommitPart.store_bdr (p : CommitPart) (s : State) : (p.store s).bdr = s.bdr := by cases p <;> rfl

theorem CommitPart.store_bt (p : CommitPart) (s : State) : (p.store s).bt = s.bt := by cases p <;> rfl

/-- The words of a commit are none of the horizon's. -/
theorem CommitPart.store_hzn (p : CommitPart) (s : State) : (p.store s).hzn = s.hzn := by
  have hword : ∀ i < 3, (p.store s).reg (Reg.BDR_HZN + 4 * i) = s.reg (Reg.BDR_HZN + 4 * i) := by
    intro i hi
    cases p with
    | abort => rfl
    | rate v | step v | slew v => exact State.reg_setRegN_of_ne _ _ _ _ _ (fun j hj => by simp only [Reg.BDR_HZN, Reg.BDR_RATE, Reg.BDR_STEP, Reg.BDR_SLEW_AMT]; omega)
  simp only [State.hzn, State.regN, hword 0, hword 1, hword 2, Nat.reduceLT, Nat.lt_add_one]

theorem CommitPart.store_anchorNow (p : CommitPart) (s : State) : (p.store s).anchorNow = s.anchorNow := by
  simp only [State.anchorNow, p.store_hzn, p.store_bt]

theorem bdrPlace_bdr (a : BT80) (c : ChangeParts) (s : State) :
    (bdrPlace a c s).bdr = { s.bdr with pend := some (a, c), pendCyc := s.bt, pendCom := s.bt } := by
  unfold bdrPlace
  split <;> rfl

theorem bdrCommitNow_first {p : CommitPart} {s : State} (h : s.bdr.pend = none) :
    (bdrCommitNow p s).bdr = { s.bdr with pend := some (s.anchorNow, ChangeParts.of p), pendCyc := s.bt, pendCom := s.bt } := by
  simp only [bdrCommitNow, p.store_bdr, h, bdrPlace_bdr, p.store_anchorNow, p.store_bt]

theorem bdrCommitNow_joins {p : CommitPart} {s : State} {a : BT80} {c : ChangeParts} (h : s.bdr.pend = some (a, c))
    (hcyc : s.bdr.pendCyc = s.bt) (hq : s.bdr.queued = none) :
    (bdrCommitNow p s).bdr = { s.bdr with pend := some (a, c.merge p) } := by
  have hjoin : (p.store s).bdr.pendCyc = (p.store s).bt ∧ (p.store s).bdr.queued = none := by
    rw [p.store_bdr, p.store_bt]
    exact ⟨hcyc, hq⟩
  have hp : (p.store s).bdr.pend = some (a, c) := by rw [p.store_bdr, h]
  unfold bdrCommitNow
  dsimp only
  rw [hp]
  dsimp only
  rw [if_pos hjoin]
  cases p <;> rfl

theorem bdrCommitNow_queues {p : CommitPart} {s : State} {a : BT80} {c : ChangeParts} (h : s.bdr.pend = some (a, c))
    (hcyc : s.bdr.pendCyc ≠ s.bt) :
    (bdrCommitNow p s).bdr =
      { s.bdr with queued := some ((s.bdr.queued.map (fun q => q.merge p)).getD (ChangeParts.of p)), queCom := s.bt } := by
  simp only [bdrCommitNow, p.store_bdr, p.store_bt, h, hcyc, false_and, if_false]
  cases s.bdr.queued <;> rfl

/-- A commit that comes into force in its own cycle, in a state that differs in the ranks of the cycle alone. -/
theorem bdrCommit_now {m : Master} {p : CommitPart} {s : State} (hen : s.pgEn Reg.BDR = true) (hfrz : s.pgFrz Reg.BDR = false)
    (hr : AMap.get 0 s.thisCyc.rank p.index ≤ bdrRank m + 1) :
    ∃ t : State, bdrCommit m p s = bdrCommitNow p t ∧ t.bdr = s.bdr ∧ t.bt = s.bt ∧ t.anchorNow = s.anchorNow := by
  refine ⟨{ s with thisCyc := { s.thisCyc with rank := AMap.set 0 s.thisCyc.rank p.index (bdrRank m + 1) } }, ?_, rfl, rfl, rfl⟩
  simp [bdrCommit, bdrCommitBy, hen, hfrz, Nat.not_lt.mpr hr]

theorem bdrCommit_frozen {m : Master} {p : CommitPart} {s : State} (hen : s.pgEn Reg.BDR = true) (hfrz : s.pgFrz Reg.BDR = true) :
    (bdrCommit m p s).bdr = { s.bdr with held := holdCommit { part := p, at_ := s.bt, rank := bdrRank m } s.bdr.held } := by
  simp [bdrCommit, hen, hfrz]

/-- Behind the commits of earlier cycles. -/
theorem holdCommit_last {h : HeldCommit} {l : List HeldCommit} (hl : ∀ g ∈ l, g.at_ ≠ h.at_) : holdCommit h l = l ++ [h] := by
  induction l with
  | nil => rfl
  | cons g t ih =>
    rw [holdCommit, if_neg fun hg => hl g (.head t) hg.1, ih fun x hx => hl x (.tail g hx)]
    rfl

/-- Settles O12, by the state of the change that is pending. -/
theorem bdrCommitIsPlaced : Obligations.BdrCommitIsPlaced := by
  refine fun m p s => ⟨fun hen => ?_, fun hen hfrz => ?_, fun hen hfrz hr hnone => ?_, fun hen hfrz hr hpend hcyc => ?_,
    fun a c hen hfrz hr hpend hcyc hq => ?_, fun hen hfrz hr => ?_⟩
  · simp [bdrCommit, hen]
  · rw [bdrCommit_frozen hen hfrz]
    exact ⟨rfl, rfl, fun hl => holdCommit_last hl⟩
  · obtain ⟨t, hc, hbdr, hbt, hanchor⟩ := bdrCommit_now (p := p) hen hfrz hr
    rw [hc, bdrCommitNow_first (hbdr ▸ hnone), hbdr, hanchor]
    exact ⟨rfl, rfl, rfl⟩
  · obtain ⟨a, c, hac⟩ := hpend
    obtain ⟨t, hc, hbdr, hbt, -⟩ := bdrCommit_now (p := p) hen hfrz hr
    rw [hc, bdrCommitNow_queues (hbdr ▸ hac) (by rwa [hbdr, hbt]), hbdr]
    exact ⟨rfl, rfl⟩
  · obtain ⟨t, hc, hbdr, hbt, -⟩ := bdrCommit_now (p := p) hen hfrz hr
    rw [hc, bdrCommitNow_joins (hbdr ▸ hpend) (by rwa [hbdr, hbt]) (hbdr ▸ hq), hbdr]
    exact ⟨rfl, hq⟩
  · simp [bdrCommit, bdrCommitBy, hen, hfrz, hr]

end Sys2Proof.Machine
end

section
/-! The parameters of the BDR and the queued change of the ASY page are left alone by the events, the faults and the withdrawals that a
fault of a store of the time scale brings about (R71, R132, R141, R177, R532): one lemma for each operation on the way. -/
namespace Sys2Proof.Machine

/-- The BDR and the queued ASY change stand as they were. -/
structure TimeFrame (s t : State) : Prop where
  bdr : t.bdr = s.bdr
  queued : t.asy.queued = s.asy.queued

namespace TimeFrame

theorem refl (s : State) : TimeFrame s s := ⟨rfl, rfl⟩

theorem trans {s t u : State} (h : TimeFrame s t) (k : TimeFrame t u) : TimeFrame s u :=
  ⟨k.bdr.trans h.bdr, k.queued.trans h.queued⟩

theorem of_eq {s t : State} (hbdr : t.bdr = s.bdr) (hasy : t.asy = s.asy) : TimeFrame s t := ⟨hbdr, by rw [hasy]⟩

theorem ite {p : Prop} [Decidable p] {s t u : State} (ht : TimeFrame s t) (hu : TimeFrame s u) : TimeFrame s (if p then t else u) := by
  split
  · exact ht
  · exact hu

theorem foldl {α : Type} {f : State → α → State} (h : ∀ a x, TimeFrame a (f a x)) (l : List α) (s : State) :
    TimeFrame s (l.foldl f s) := by
  induction l generalizing s with
  | nil => exact refl s
  | cons x t ih => exact (h s x).trans (ih (f s x))

theorem setRegN (s : State) (a v n : Nat) : TimeFrame s (s.setRegN a v n) := of_eq (s.setRegN_bdr a v n) (s.setRegN_asy a v n)

theorem setAsy {s : State} (x : Asy) (h : x.queued = s.asy.queued) : TimeFrame s { s with asy := x } := ⟨rfl, h⟩

theorem setCyc {s : State} (x : ThisCyc) : TimeFrame s { s with thisCyc := x } := ⟨rfl, rfl⟩

theorem count (s : State) (a : Nat) : TimeFrame s (s.count a) := ⟨rfl, rfl⟩

theorem countBy (s : State) (a n : Nat) : TimeFrame s (s.countBy a n) := ⟨rfl, rfl⟩

theorem setRf (s : State) (a lo n v : Nat) : TimeFrame s (s.setRf a lo n v) := ⟨rfl, rfl⟩

theorem hwSet (s : State) (a i : Nat) : TimeFrame s (s.hwSet a i) := ite ⟨rfl, rfl⟩ ⟨rfl, rfl⟩

theorem raiseEvt (pg i : Nat) (s : State) : TimeFrame s (raiseEvt pg i s) := by
  unfold Machine.raiseEvt
  dsimp only
  split
  · exact hwSet ..
  · exact ite (hwSet ..) ((hwSet s (pg + 0x010) i).trans ⟨rfl, rfl⟩)

/-! ### Counters of the performance unit -/

theorem bumpCtr (k : Nat) (s : State) : TimeFrame s (bumpCtr k s).1 := by
  have hovf (t : State) (p : Bool) (h : TimeFrame s t) :
      TimeFrame s (if p then t.setReg Reg.PMU_OVF_UNIT (BitVec.ofNat 32 (k / 16)) else t) := ite (h.trans ⟨rfl, rfl⟩) h
  unfold Machine.bumpCtr
  refine hovf _ _ ?_
  dsimp only
  split <;> split <;> exact ⟨rfl, rfl⟩

theorem bumpChip (code inst : Nat) (s : State) : TimeFrame s (bumpChip code inst s).1 := by
  have hfold : ∀ (l : List Nat) (p : State × Bool), TimeFrame s p.1 →
      TimeFrame s (l.foldl (fun a k => let r := Machine.bumpCtr k a.1; (r.1, a.2 || r.2)) p).1 := by
    intro l
    induction l with
    | nil => exact fun _ h => h
    | cons k l ih => exact fun p h => ih _ (h.trans (bumpCtr k p.1))
  exact hfold _ _ (refl s)

theorem pmuChip (code inst : Nat) (s : State) : TimeFrame s (pmuChip code inst s) := by
  have h := bumpChip code inst s
  unfold Machine.pmuChip
  split
  · next s1 e => exact (show TimeFrame s s1 by rwa [e] at h).trans (raiseEvt ..)
  · next s1 e => rwa [e] at h

/-! ### A source that rises -/

theorem showPin (s : State) : TimeFrame s (showPin s) := by
  unfold Machine.showPin
  dsimp only
  split
  · exact refl s
  · exact of_eq rfl rfl

theorem srcRise (n : Nat) (s : State) : TimeFrame s (srcRise n s) := by
  have hshown : TimeFrame s (Machine.showPin (Machine.pmuChip 0x11 0 (s.setRf (Reg.FLT_SRC n) 29 3 4))) :=
    ((setRf ..).trans (pmuChip ..)).trans (showPin _)
  have haction (code : Nat) (t : State) : TimeFrame t (takeAction code n t) := ⟨rfl, rfl⟩
  have htimer (t : State) : TimeFrame t (startTimer n t) := ⟨rfl, rfl⟩
  unfold Machine.srcRise critAct
  dsimp only
  split
  · exact hshown.trans (haction ..)
  · exact hshown.trans (haction ..)
  · exact hshown.trans ((raiseEvt ..).trans (htimer _))
  · exact hshown.trans (haction ..)

theorem raiseFlt (pg i : Nat) (s : State) : TimeFrame s (raiseFlt pg i s) := by
  unfold Machine.raiseFlt
  dsimp only
  split
  · exact hwSet ..
  · exact (hwSet s (pg + 0x020) i).trans (ite (refl _) (srcRise ..))

/-! ### Completions and slots of the timestamp units -/

theorem postEvent (k source code : Nat) (s : State) : TimeFrame s (postEvent k source code s).1 := by
  unfold Machine.postEvent
  dsimp only
  split
  · exact ⟨rfl, rfl⟩
  · exact ⟨rfl, rfl⟩

theorem markBad (inj : Nat → Bool) (base off n : Nat) (s : State) : TimeFrame s (markBad inj base off n s) := by
  have hword (a : State) (m : AMap Bool) : TimeFrame a { a with badWords := m } := ⟨rfl, rfl⟩
  exact foldl (fun a _ => hword a _) _ s

theorem markDram (o n : Nat) (s : State) : TimeFrame s (markDram o n s) := ite (refl s) (markBad ..)

theorem sharedWr (s : State) (a : Nat) (l : List Byte) : TimeFrame s (s.sharedWr a l) := by
  unfold State.sharedWr
  refine ite ⟨rfl, rfl⟩ (ite ?_ (refl s))
  exact (show TimeFrame s (s.dramWr (a % eaDram) l) from ⟨rfl, rfl⟩).trans (markDram ..)

theorem queuePush (n : Nat) (data : List Byte) (s : State) : TimeFrame s (queuePush n data s).2.2 := by
  have hset (t : State) (q : Queue) : TimeFrame t (t.setQueue n q) := ⟨rfl, rfl⟩
  generalize ht : (Machine.queuePush n data s).2.2 = t
  unfold Machine.queuePush at ht
  dsimp only at ht
  split at ht
  · exact ht ▸ refl s
  split at ht
  · exact ht ▸ refl s
  split at ht
  · split at ht
    · next s3 e =>
      subst ht
      exact (sharedWr ..).trans ((hset ..).trans (e ▸ postEvent ..))
    · next s3 e =>
      subst ht
      exact (sharedWr ..).trans ((hset ..).trans (e ▸ postEvent ..))
  · subst ht
    exact (sharedWr ..).trans (hset ..)

theorem blockPush (q : Nat) (data : List Byte) (s : State) : TimeFrame s (blockPush q data s).2 := by
  have h := queuePush q data s
  unfold Machine.blockPush
  split
  · next st k s1 e => exact (show TimeFrame s s1 by rwa [e] at h).trans (raiseEvt ..)
  · next st s1 e => rwa [e] at h

theorem postCompletion (g cq : Nat) (data : List Byte) (s : State) : TimeFrame s (postCompletion g cq data s) := by
  have h := blockPush cq data s
  unfold Machine.postCompletion
  split
  · next s1 e => rwa [e] at h
  · next st s1 _ e => exact ((show TimeFrame s s1 by rwa [e] at h).trans (count ..)).trans (raiseEvt ..)

theorem freeBuffer (f : Option (Nat × Nat)) (s : State) : TimeFrame s (freeBuffer f s) := by
  unfold Machine.freeBuffer
  split
  · exact refl s
  · next buf q =>
    have h := blockPush q (bytesLE 16 buf) s
    split
    · next s1 e => rwa [e] at h
    · next st s1 _ e => exact ((show TimeFrame s s1 by rwa [e] at h).trans (count ..)).trans (raiseEvt ..)

theorem watchEnd (g h : Nat) (st : CplStatus) (s : State) : TimeFrame s (watchEnd g h st s) := by
  unfold Machine.watchEnd
  dsimp only
  split
  · exact refl s
  · exact ite ⟨rfl, rfl⟩ ((ite (sharedWr ..) (refl s) : TimeFrame s (if st = .missed then stat1 _ 11 s else s)).trans ⟨rfl, rfl⟩)

theorem endSlot (g h : Nat) (x : TsuSlot) (st : CplStatus) (cause : Nat) (s : State) : TimeFrame s (endSlot g h x st cause s) := by
  have hdone : TimeFrame s (Machine.postCompletion g x.cq (completion st cause x.port true x.tag x.tx x.wt)
      (Machine.watchEnd g h st (s.setSlot g h none))) :=
    (show TimeFrame s (s.setSlot g h none) from ⟨rfl, rfl⟩).trans ((watchEnd ..).trans (postCompletion ..))
  unfold Machine.endSlot
  dsimp only
  split
  · exact hdone.trans (freeBuffer ..)
  · exact hdone

theorem missSlot (g h : Nat) (c : MissCause) (s : State) : TimeFrame s (missSlot g h c s) := by
  unfold Machine.missSlot
  dsimp only
  split
  · exact refl s
  · exact ((((endSlot ..).trans (count ..)).trans (count ..)).trans (raiseEvt ..)).trans (pmuChip ..)

theorem missWhere (g : Nat) (c : MissCause) (pick : TsuSlot → Bool) (s : State) : TimeFrame s (missWhere g c pick s) :=
  foldl (fun a _ => ite (missSlot ..) (refl a)) _ s

theorem missAllTimeReset (s : State) : TimeFrame s (missAllTimeReset s) := foldl (fun _ _ => missWhere ..) _ s

theorem purgeReserved (s : State) : TimeFrame s (purgeReserved s) := by
  have hmissed : TimeFrame s (forN 4 (fun g => Machine.missWhere g .purge s.purges) s) := foldl (fun _ _ => missWhere ..) _ s
  unfold Machine.purgeReserved
  exact ite hmissed ((hmissed.trans (countBy ..)).trans (raiseEvt ..))

/-! ### The time status -/

theorem setStage (s : State) (l : List (Option StgEntry)) : TimeFrame s (s.setStage l) := ⟨rfl, rfl⟩

theorem sramWr (s : State) (a : Nat) (l : List Byte) : TimeFrame s (s.sramWr a l) := ⟨rfl, rfl⟩

theorem takeRecord (typ : Nat) (s : State) : TimeFrame s (takeRecord typ s) := by
  have hseq := setRegN s Reg.ASY_REC_SEQ ((s.regN Reg.ASY_REC_SEQ 2 + 1) % 2 ^ 64) 2
  unfold Machine.takeRecord
  dsimp only
  split
  · refine trans (trans ?_ (count ..)) (raiseEvt ..)
    exact hseq.trans (setAsy _ rfl)
  · refine trans ?_ (setStage ..)
    exact (hseq.trans (sramWr ..)).trans (setAsy _ rfl)

theorem changeRecord (typ i : Nat) (s : State) : TimeFrame s (changeRecord typ i s) := by
  have hnote : TimeFrame s (noteChange i s) := setAsy _ rfl
  unfold Machine.changeRecord
  refine ite hnote (ite ?_ (trans ?_ (takeRecord ..)))
  · exact trans hnote (setAsy _ (by rfl))
  · exact trans hnote (setAsy _ (by rfl))

theorem setStatus (t : TimeStatus) (s : State) : TimeFrame s (setStatus t s) := by
  unfold Machine.setStatus
  split
  · exact refl s
  · refine trans (trans ?_ (raiseEvt ..)) (changeRecord ..)
    exact setAsy _ rfl

theorem asyMove (t : TimeStatus) (s : State) : TimeFrame s (asyMove t s).1 := by
  have hset (x : Option (BT80 × TimeStatus)) : TimeFrame s (Machine.setStatus t { s with asy := { s.asy with cycTs := x } }) :=
    trans (setAsy _ (by rfl)) (setStatus ..)
  generalize hr : Machine.asyMove t s = r
  unfold Machine.asyMove at hr
  split at hr
  · split at hr
    · split at hr <;> subst hr
      · exact hset _
      · exact refl s
    · subst hr
      exact hset _
  · subst hr
    exact hset _

theorem applyUpdate (a : BT80) (s : State) : TimeFrame s (applyUpdate a s).1 := by
  generalize hr : Machine.applyUpdate a s = r
  unfold Machine.applyUpdate at hr
  dsimp only at hr
  split at hr
  · subst hr
    exact refl s
  · subst hr
    exact setAsy _ rfl
  · next t _ =>
    split at hr
    · next s2 e =>
      subst hr
      exact (e ▸ trans (setAsy _ (by rfl)) (asyMove t _) : TimeFrame s (s2, true).1)
    · subst hr
      exact refl s

theorem applyTs (a : BT80) (code : Nat) (now : TimeStatus) (upd : Option BT80) (s : State) : TimeFrame s (applyTs a code now upd s).1 := by
  generalize hr : Machine.applyTs a code now upd s = r
  unfold Machine.applyTs at hr
  dsimp only at hr
  split at hr
  · subst hr
    exact refl s
  · subst hr
    exact refl s
  · next t _ =>
    split at hr
    · subst hr
      exact refl s
    split at hr
    · next s2 e =>
      have h := asyMove t s
      rw [e] at h
      subst hr
      exact h
    · subst hr
      exact refl s

theorem asyParts (a : BT80) (p : AsyParts) (old : AsySet) (s : State) : TimeFrame s (asyParts a p old s).1 := by
  generalize hr : Machine.asyParts a p old s = r
  unfold Machine.asyParts at hr
  extract_lets s2 r3 now r4 s4 a5 s5 refused s6 at hr
  have h2 : TimeFrame s s2 := ite ⟨rfl, rfl⟩ (refl s)
  have h3 : TimeFrame s2 r3.1 := by
    simp only [r3, apply_ite Prod.fst]
    exact ite (applyUpdate ..) (refl s2)
  have h4 : TimeFrame r3.1 s4 := by
    simp only [s4, r4, apply_ite Prod.fst]
    exact ite (refl _) (applyTs ..)
  have h5 : TimeFrame s4 s5 := ite (refl s4) ⟨rfl, rfl⟩
  have h6 : TimeFrame s5 s6 := by
    clear_value s5 refused
    simp only [s6]
    split
    · next r => exact (setRf ..).trans (raiseEvt ..)
    · exact refl s5
  rw [← hr]
  exact (((h2.trans h3).trans h4).trans h5).trans h6

theorem asyNote (s : State) : TimeFrame s (asyNote s) := by
  unfold Machine.asyNote
  split
  · exact refl s
  · exact ⟨rfl, rfl⟩

theorem setReg (s : State) (a : Nat) (v : Word) : TimeFrame s (s.setReg a v) := ⟨rfl, rfl⟩

theorem asyBack (b : AsyBase) (s : State) : TimeFrame s (asyBack b s) := by
  unfold Machine.asyBack
  dsimp only
  refine trans (trans (trans (trans (trans ?_ (setStage ..)) (setRegN ..)) (setReg ..)) (setReg ..)) (setReg ..)
  exact setAsy _ rfl

theorem asyResolve (s : State) : TimeFrame s (asyResolve s) := by
  generalize hr : Machine.asyResolve s = r
  unfold Machine.asyResolve at hr
  dsimp only at hr
  split at hr
  · subst hr
    exact refl s
  · next b _ =>
    split at hr
    · split at hr <;> subst hr
      · exact ((asyBack ..).trans (asyMove ..)).trans (asyParts ..)
      · exact (asyBack ..).trans (asyParts ..)
    · split at hr <;> subst hr
      · exact (asyBack ..).trans (asyMove ..)
      · exact asyBack ..

theorem asyHwMove (t : TimeStatus) (s : State) : TimeFrame s (asyHwMove t s) := by
  have hnote := asyNote s
  unfold Machine.asyHwMove
  dsimp only
  split
  · split
    · exact hnote.trans (ite (asyResolve _) (refl _))
    · refine trans ?_ (asyResolve _)
      exact hnote.trans (setCyc _)
  · split
    · refine trans ?_ (asyResolve _)
      exact hnote.trans (setCyc _)
    · refine trans ?_ (asyMove ..)
      exact hnote.trans (setCyc _)

theorem asyWithdraw (s : State) : TimeFrame s (asyWithdraw s) := by
  unfold Machine.asyWithdraw asyFall asyInput
  dsimp only
  exact ite ((asyHwMove ..).trans (ite (purgeReserved _) (refl _))) (ite (asyResolve _) (refl s))

/-! ### The faults of the two parameter stores -/

theorem fault_bdr (s : State) : TimeFrame s (fault .bdr 0 0 s) := by
  unfold fault
  split
  · exact refl s
  · exact (raiseFlt ..).trans ((asyWithdraw _).trans (missAllTimeReset _))

theorem fault_asy (s : State) : TimeFrame s (fault .asy 0 0 s) := by
  unfold fault
  split
  · exact refl s
  · exact (raiseFlt ..).trans (asyWithdraw _)

/-- The store of a page whose parameters are checked as they are written. -/
theorem storeWrite {k : PageKind} (hstore : injStore k 0xFFC = some (0, 0, true)) (hpage : checkPage k = k)
    (hfault : ∀ t : State, TimeFrame t (fault k 0 0 t)) (s : State) : TimeFrame s (storeWrite k 0 s) := by
  have hword (m : AMap Bool) : TimeFrame s { s with badWords := m } := ⟨rfl, rfl⟩
  unfold Machine.storeWrite storeMark
  rw [hstore, hpage]
  exact ite ((hword _).trans (hfault _)) (hword _)

theorem storeWrite_bdr (s : State) : TimeFrame s (Machine.storeWrite .bdr 0 s) := storeWrite (by decide) (by decide) fault_bdr s

theorem storeWrite_asy (s : State) : TimeFrame s (Machine.storeWrite .asy 0 s) := storeWrite (by decide) (by decide) fault_asy s

end TimeFrame

end Sys2Proof.Machine
end

section
/-! O13: what time does to the BDR (R68, R71, R72, R77, R101). -/
namespace Sys2Proof.Machine

theorem slewDone_of_idle {p : TimeParams} (h : p.slewAct = false) (b : BT80) : p.slewDone b = false := by
  simp [TimeParams.slewDone, h]

/-- Without a slew in progress a change discards nothing of one. -/
theorem discards_of_idle {p : TimeParams} (h : p.slewAct = false) (a : BT80) (c : ChangeParts) (dur : Word) : p.discards a c dur = none := by
  simp [TimeParams.discards, h]

/-- The anchor of a change of the rate or of an abort, with no slew in progress. -/
theorem changeAnchor_takes {s : State} {a : BT80} {c : ChangeParts} (hpend : s.bdr.pend = some (a, c)) (hdue : earlier s.bt a = false)
    (hidle : s.bdr.par.slewAct = false) (hstep : c.step = none) (hslew : c.slew = none)
    (hnew : s.bdr.par.apply a c (s.reg Reg.BDR_SLEW_DUR) ≠ s.bdr.par) :
    changeAnchor s = placeQueued (storeWrite .bdr 0 (raiseEvt Reg.BDR 0
      (let q := s.bdr.par.apply a c (s.reg Reg.BDR_SLEW_DUR)
       { s with bdr := { s.bdr with par := q, pend := none, hist := retain a q s.bdr.hist, parCom := s.bdr.pendCom } }))) := by
  unfold changeAnchor
  simp only [hpend, hdue, slewDone_of_idle hidle, discards_of_idle hidle, hstep, hslew, hnew, Bool.false_eq_true, if_false, ne_eq,
    not_false_eq_true, decide_true, if_true]

theorem slewFinish_done {s : State} (h : s.bdr.par.slewDone s.bt = true) :
    slewFinish s = storeWrite .bdr 0 (raiseEvt Reg.BDR 1 { s with bdr := { s.bdr with par :=
      { s.bdr.par with ofs := s.bdr.par.ofs + s.bdr.par.amt.signExtend 96, slewAct := false } } }) := by
  rw [slewFinish, if_pos h]
  rfl

/-- The wrap moves the offset by the range of Bedrock, after the cycle has ended. -/
theorem bedrockWrap_ofs {s : State} (hrun : s.btRun = true) (hlast : s.bt.toNat / 65536 + 1 = 2 ^ 64) :
    (bedrockWrap s).bdr.par.ofs = (endCycle s).bdr.par.ofs + BitVec.ofNat 96 (2 ^ 80) := by
  rw [bedrockWrap, if_pos ⟨hlast, hrun⟩, (TimeFrame.storeWrite_bdr _).bdr]

theorem bedrockWrap_bt {s : State} (hrun : s.btRun = true) (hlast : s.bt.toNat / 65536 + 1 = 2 ^ 64) : (bedrockWrap s).bt = 0 :=
  (spine_eq_iff.mp ((bedrockWrap_spine s).trans (if_neg (not_not_intro ⟨hlast, hrun⟩)))).1

/-- Settles O13, event by event. -/
theorem bdrTimeTakesEffect : Obligations.BdrTimeTakesEffect := by
  refine ⟨fun s a c h hpend hdue hidle hstep hslew hnew => ?_, fun s h hd => ?_, fun s hrun hlast => ?_, fun s h => ?_⟩
  · exact show execChangeAnchor s = _ from (cmdE_live h).trans (by rw [changeAnchor_takes hpend hdue hidle hstep hslew hnew])
  · exact show execSlewEnd s = _ from (cmdE_live h).trans (by rw [slewFinish_done hd])
  · exact ⟨bedrockWrap s, rfl, bedrockWrap_bt hrun hlast, bedrockWrap_ofs hrun hlast⟩
  · exact show execBdrParamFault s = _ from cmdE_live h

end Sys2Proof.Machine
end

section
/-! O14 and O15: the slots of the action calendar (R102 to R117). -/
namespace Sys2Proof.Machine

/-! ### Arming (R104, R108, R114) -/

theorem exec_slotArm {m : Master} {n : BitVec 12} {v : Word} {s : State} (hg : slotGate m true s = .go) :
    exec (.slotArm m n v) s = .next (became s (wrSlotCtl n.toNat v s)) := by
  show execSlotArm m n v s = _
  simp only [execSlotArm, slotW, hg, wrSlotWord, became]

theorem wrSlotCtl_arms {n : Nat} {v : Word} {s : State} (hg : s.slotGoing n = false) (hv : fld v 28 4 ≠ 0) :
    wrSlotCtl n v s = actArm n (bits v 28 4) (bit v 23) (bits v 21 2) false s := by
  rw [wrSlotCtl, if_neg (by simp [hg]), if_neg hv]

theorem toNat_bits {w : Nat} (x : BitVec w) (lo n : Nat) : (bits x lo n).toNat = fld x lo n := by
  simp [bits, fld]

theorem bits_eq_iff {w : Nat} {x : BitVec w} {lo n : Nat} {y : BitVec n} : bits x lo n = y ↔ fld x lo n = y.toNat := by
  rw [← BitVec.toNat_inj, toNat_bits]

/-- The slot after ACT_DISARM: emptied if it is armed and not being taken. -/
def State.disarmedSlot (s : State) (n : Nat) : Slot :=
  if (s.actSlot n).st = .armed ∧ s.slotGoing n = false then { s.actSlot n with st := .empty, reason := 0, wasLate := false }
  else s.actSlot n

/-- What ACT_DISARM does to one slot. -/
def disarmSlot (a : State) (n : Nat) : State :=
  if (a.actSlot n).st = .armed ∧ a.slotGoing n = false then
    hoDrop n (a.setActSlot n { a.actSlot n with st := .empty, reason := 0, wasLate := false })
  else a

theorem wrDisarm_eq {v : Word} {s : State} (hv : bit v 0 = true) : wrDisarm v s = (s.act.slots.map (·.1)).foldl disarmSlot s := by
  simp only [wrDisarm, hv, not_true_eq_false, if_false]
  rfl

theorem actSlot_hoDrop_setActSlot (a : State) (n k : Nat) (x : Slot) :
    (hoDrop n (a.setActSlot n x)).actSlot k = if n = k then x else a.actSlot k := actSlot_setActSlot a n k x

theorem slotGoing_hoDrop_setActSlot (a : State) {n k : Nat} (x : Slot) (h : n ≠ k) :
    (hoDrop n (a.setActSlot n x)).slotGoing k = a.slotGoing k := by
  unfold State.slotGoing
  rw [actSlot_hoDrop_setActSlot, if_neg h]
  rfl

theorem actSlot_disarmSlot (a : State) (n k : Nat) :
    (disarmSlot a n).actSlot k = if n = k then a.disarmedSlot k else a.actSlot k := by
  unfold disarmSlot State.disarmedSlot
  by_cases h : n = k
  · subst h
    split <;> simp [actSlot_hoDrop_setActSlot]
  · split <;> simp [actSlot_hoDrop_setActSlot, h]

/-- To disarm twice is to disarm once. -/
theorem disarmedSlot_disarmSlot (a : State) (n k : Nat) : (disarmSlot a n).disarmedSlot k = a.disarmedSlot k := by
  by_cases hd : (a.actSlot n).st = .armed ∧ a.slotGoing n = false
  · by_cases h : n = k
    · subst h
      have hslot : (disarmSlot a n).actSlot n = a.disarmedSlot n := (actSlot_disarmSlot a n n).trans (if_pos rfl)
      have hempty : (a.disarmedSlot n).st = .empty := by rw [State.disarmedSlot, if_pos hd]
      rw [State.disarmedSlot, hslot, if_neg (by simp [hempty])]
    · have hslot : (disarmSlot a n).actSlot k = a.actSlot k := (actSlot_disarmSlot a n k).trans (if_neg h)
      have hgoing : (disarmSlot a n).slotGoing k = a.slotGoing k := by rw [disarmSlot, if_pos hd, slotGoing_hoDrop_setActSlot a _ h]
      rw [State.disarmedSlot, hslot, hgoing, State.disarmedSlot]
  · rw [disarmSlot, if_neg hd]

theorem actSlot_foldl_disarmSlot (l : List Nat) (a : State) (k : Nat) :
    (l.foldl disarmSlot a).actSlot k = if k ∈ l then a.disarmedSlot k else a.actSlot k := by
  induction l generalizing a with
  | nil => simp
  | cons n l ih =>
    rw [List.foldl_cons, ih, disarmedSlot_disarmSlot, actSlot_disarmSlot]
    by_cases hl : k ∈ l <;> by_cases hn : k = n <;> simp [hl, hn, eq_comm (a := n)]

theorem AMap.find_eq_none_of_not_mem {α : Type} {m : AMap α} {k : Nat} (h : k ∉ m.map (·.1)) : AMap.find m k = none := by
  induction m with
  | nil => rfl
  | cons p t ih =>
    obtain ⟨j, v⟩ := p
    simp only [List.map_cons, List.mem_cons, not_or] at h
    rw [AMap.find, if_neg (Ne.symm h.1), ih h.2]

/-- A slot that has no entry is empty. -/
theorem actSlot_of_not_mem {s : State} {k : Nat} (h : k ∉ s.act.slots.map (·.1)) : s.actSlot k = { } := by
  simp only [State.actSlot, AMap.get, AMap.getD, AMap.find_eq_none_of_not_mem h]
  rfl

theorem actSlot_wrDisarm {v : Word} {s : State} (hv : bit v 0 = true) (n : Nat) : (wrDisarm v s).actSlot n = s.disarmedSlot n := by
  rw [wrDisarm_eq hv, actSlot_foldl_disarmSlot]
  split
  · rfl
  · next h =>
    have hempty : (s.actSlot n).st ≠ .armed := by rw [actSlot_of_not_mem h]; decide
    rw [State.disarmedSlot, if_neg fun hd => hempty hd.1]

/-- Settles O14, write by write. -/
theorem slotsAreArmed : Obligations.SlotsAreArmed := by
  refine ⟨fun m n v s hg hgo hv h5 hr => ?_, fun m n v s r hg hgo hv hr => ?_, fun m n v s hg hgo hv ha hn => ?_,
    fun m v s h hv => ⟨wrDisarm v s, ?_, fun n => actSlot_wrDisarm hv n⟩⟩
  · rw [exec_slotArm hg, wrSlotCtl_arms hgo hv, actArm]
    have htyp : bits v 28 4 ≠ 5 := mt bits_eq_iff.mp h5
    simp only [hr, if_neg htyp]
  · rw [exec_slotArm hg, wrSlotCtl_arms hgo hv, actArm]
    simp only [hr]
  · rw [exec_slotClear hg, wrSlotCtl_empties hv hgo ha hn, became]
  · exact show execActDisarm m v s = _ from cmdW_reaches h

/-! ### Taking and acting (R111, R113, R116, R117) -/

/-- A slot whose due time has come is taken, late or not. -/
theorem slotTake_due {n : Nat} {s : State} (hst : (s.actSlot n).st = .armed) (htk : (s.actSlot n).taken = false)
    (hbad : (s.actSlot n).bad = false) (hact : s.actTakes = true) (hdue : earlier s.now (s.actSlot n).due = false) :
    slotTake n s =
      (let late := decide (s.rf Reg.ACT_LATE_TH 0 24 * 65536 < (s.now - (s.actSlot n).due).toNat)
       let a := showTaken n (s.setActSlot n { s.actSlot n with wasLate := late })
       let b := if late then raiseEvt Reg.ACT 2 (a.count Reg.ACT_CNT_LATE) else a
       if late ∧ (s.actSlot n).lateOk = false then slotEnd n .notApplied 1 (hoDrop n b)
       else
         let c := queueTaken n (b.setActSlot n { b.actSlot n with taken := true, result := none })
         { c with thisCyc := { c.thisCyc with judge := insNat c.thisCyc.judge n } }) := by
  unfold slotTake
  dsimp only
  rw [if_neg (by simp [hst, htk]), if_neg (by simp [hbad]), if_neg (by simp [hact, hdue])]

/-- The action at the head of the initiation queue begins, as its type says. -/
theorem initiate_begins {s u : State} {n : Nat} {rest : List Nat} (hj : judgeConds s = u) (hq : u.act.initQ = n :: rest)
    (hb : u.thisCyc.begun = false) :
    let s1 := { u with act := { u.act with initQ := rest }, thisCyc := { u.thisCyc with begun := true } }
    ((u.actSlot n).typ = 1 → initiate s = calWrite n (u.actSlot n) s1) ∧
    ((u.actSlot n).typ = 2 → initiate s = calPulse n (u.actSlot n) s1) ∧
    ((u.actSlot n).typ = 3 → initiate s = calCapture n (u.actSlot n) s1) ∧
    ((u.actSlot n).typ = 4 → initiate s = calEvent n (u.actSlot n) s1) ∧
    ((u.actSlot n).typ = 5 → initiate s = calHandover n s1) := by
  have hbegun : ¬ (u.thisCyc.begun = true) := by simp [hb]
  unfold initiate
  simp only [hj, hq, if_neg hbegun]
  refine ⟨fun hty => ?_, fun hty => ?_, fun hty => ?_, fun hty => ?_, fun hty => ?_⟩ <;> (rw [hty]; rfl)

theorem initiate_begun {s u : State} (hj : judgeConds s = u) (hq : u.act.initQ ≠ []) (hb : u.thisCyc.begun = true) : initiate s = s := by
  obtain ⟨n, rest, hcons⟩ := List.exists_cons_of_ne_nil hq
  unfold initiate
  simp only [hj, hcons, hb, if_true]

theorem gpioShow_lsp (old s : State) : (gpioShow old s).lsp = s.lsp := by
  suffices ∀ (l : List Nat) (a : State), (l.foldl (fun a g => match s.gpioOut g with
      | some b => if old.gpioOut g = some b then a else a.emit (.pin ("GPIO" ++ toString g) b)
      | none => a) a).lsp = a.lsp from this _ s
  intro l
  induction l with
  | nil => exact fun _ => rfl
  | cons g l ih =>
    intro a
    rw [List.foldl_cons, ih]
    split
    · split <;> rfl
    · rfl

/-- A PULSE drives its GPIO high. -/
theorem calPulse_gpioCal {n : Nat} {x : Slot} {s : State} (h : s.gpioFunc (fld x.w0 0 5) = 1) :
    (calPulse n x s).lsp.gpioCal = setBit s.lsp.gpioCal (fld x.w0 0 5) true := by
  rw [calPulse, if_neg (not_not_intro h), gpioShow_lsp]

theorem pulseEnd_last {g : Nat} {s : State} {p : Pulse} (hp : s.act.pulses = [p]) (hg : p.gpio = g)
    (hover : atOrAfter s.bt p.stop = true) (hc : p.counted = true) :
    pulseEnd g s = setResult p.slot .completed (gpioShow s { s with
      lsp := { s.lsp with gpioCal := setBit s.lsp.gpioCal g false }, act := { s.act with pulses := [] } }) := by
  simp [pulseEnd, hp, hg, hover, hc]

theorem actionOutcome_completed {n : Nat} {s : State} (ht : (s.actSlot n).taken = true) (hr : (s.actSlot n).result = some .completed) :
    actionOutcome n s = slotEnd n .applied 0 s := by
  simp [actionOutcome, ht, hr]

/-- The COND of the one slot taken in the cycle is not met. -/
theorem judgeConds_fails {s : State} {n : Nat} (hj : s.thisCyc.judge = [n]) (ht : (s.actSlot n).taken = true)
    (hc : s.condOk (s.actSlot n).cond = false) :
    judgeConds s = (let u := { s with thisCyc := { s.thisCyc with judge := [] } }
      slotEnd n .notApplied 2 (hoDrop n { u with act := { u.act with initQ := u.act.initQ.filter (fun k => decide (k ≠ n)) } })) := by
  have h : ¬ ((s.actSlot n).taken = false ∨ s.condOk (s.actSlot n).cond = true) := by simp [ht, hc]
  unfold judgeConds
  rw [hj]
  exact if_neg h

/-- Settles O15, by what becomes of the slot. -/
theorem slotsAreTaken : Obligations.SlotsAreTaken := by
  refine ⟨fun n s h hst htk hbad hact hdue hlate => ?_, fun n s h hst => ?_, fun n s h hst htk => ?_,
    fun s u n rest h hj hq hb hty => ?_, fun s u n rest h hj hq hb hty => ?_,
    fun s u n rest h hj hq hb hty hg => ⟨_, show execActionInitiate s = _ from cmdE_live h, ?_⟩,
    fun g s p h hp hg hover hc => ?_, fun n s h ht hr => ?_, fun n s h hst htk hbad hact hdue hlate hok => ?_,
    fun s n hj ht hc => judgeConds_fails hj ht hc, fun s u n rest h hj hq hb => ?_, fun s u h hj hq hb => ?_⟩
  · refine show execSlotTake n s = _ from (cmdE_live h).trans ?_
    simp only [slotTake_due hst htk hbad hact hdue, decide_eq_false (Nat.not_lt.mpr hlate), Bool.false_eq_true, false_and, if_false]
  · refine show execSlotStoreError n s = _ from (cmdE_live h).trans ?_
    rw [slotStoreError, if_neg fun ha => hst ha.1]
  · refine show execSlotStoreError n s = _ from (cmdE_live h).trans ?_
    rw [slotStoreError, if_pos ⟨hst, htk⟩]
  · obtain ⟨-, -, hcapture, -, -⟩ := initiate_begins hj hq hb
    exact show execActionInitiate s = _ from (cmdE_live h).trans (by rw [hcapture hty])
  · obtain ⟨-, -, -, hevent, -⟩ := initiate_begins hj hq hb
    exact show execActionInitiate s = _ from (cmdE_live h).trans (by rw [hevent hty])
  · obtain ⟨-, hpulse, -, -, -⟩ := initiate_begins hj hq hb
    rw [hpulse hty, calPulse_gpioCal (by exact hg)]
  · exact show execPulseWidthEnd g s = _ from (cmdA_alive h).trans (by rw [pulseEnd_last hp hg hover hc])
  · exact show execActionOutcome n s = _ from (cmdE_live h).trans (by rw [actionOutcome_completed ht hr])
  · refine show execSlotTake n s = _ from (cmdE_live h).trans ?_
    simp only [slotTake_due hst htk hbad hact hdue, decide_eq_true hlate, hok, and_self, if_true]
  · obtain ⟨hwrite, -, -, -, hhandover⟩ := initiate_begins hj hq hb
    exact ⟨fun hty => show execActionInitiate s = _ from (cmdE_live h).trans (by rw [hwrite hty]),
      fun hty => show execActionInitiate s = _ from (cmdE_live h).trans (by rw [hhandover hty])⟩
  · exact show execActionInitiate s = _ from (cmdE_live h).trans (by rw [initiate_begun hj hq hb])

end Sys2Proof.Machine
end

section
/-! O16 to O18: the commits of the ASY page, the time status and the time records (R131 to R177, R969 to R971). -/
namespace Sys2Proof.Machine

/-! ### ASY_CMD (R131, R132, R969) -/

/-- A write of ASY_CMD that commits nothing or reaches a disabled page. -/
theorem wrAsyCmd_disabled {v : Word} {s : State} (hen : s.pgEn Reg.ASY = false) : wrAsyCmd v s = s := by
  simp [wrAsyCmd, hen]

theorem wrAsyCmd_frozen {v : Word} {s : State} (hen : s.pgEn Reg.ASY = true) (hfrz : s.pgFrz Reg.ASY = true)
    (hpart : bit v 0 = true ∨ bit v 1 = true ∨ fld v 4 3 ≠ 0) :
    wrAsyCmd v s = { s with asy := { s.asy with held := s.asy.held ++ [asyPartsOf s v] } } := by
  have hsome : ¬ (¬ s.pgEn Reg.ASY = true ∨
      ((asyPartsOf s v).commit.isNone = true ∧ (asyPartsOf s v).update = false ∧ (asyPartsOf s v).ts = 0)) := by
    rcases hpart with h | h | h <;> simp [hen, asyPartsOf, h]
  simp only [wrAsyCmd, if_neg hsome, hfrz, if_true]

theorem wrAsyCmd_commits {v : Word} {s : State} (hen : s.pgEn Reg.ASY = true) (hfrz : s.pgFrz Reg.ASY = false)
    (hpart : bit v 0 = true ∨ bit v 1 = true ∨ fld v 4 3 ≠ 0) : wrAsyCmd v s = asyCommitNow (asyPartsOf s v) s := by
  have hsome : ¬ (¬ s.pgEn Reg.ASY = true ∨
      ((asyPartsOf s v).commit.isNone = true ∧ (asyPartsOf s v).update = false ∧ (asyPartsOf s v).ts = 0)) := by
    rcases hpart with h | h | h <;> simp [hen, asyPartsOf, h]
  simp only [wrAsyCmd, if_neg hsome, hfrz, Bool.false_eq_true, if_false]

theorem asyCommitNow_first {p : AsyParts} {s : State} (h : s.asy.pend = none) :
    asyCommitNow p s = { s with asy := { s.asy with pend := some (s.anchorNow, p) }, thisCyc := { s.thisCyc with asyNew := true } } := by
  simp only [asyCommitNow, h]

theorem asyCommitNow_joins {p q : AsyParts} {s : State} {x : BT80 × AsyParts} (h : s.asy.pend = some x) (hq : s.asy.queued = some q) :
    asyCommitNow p s = { s with asy := { s.asy with queued := some (q.merge p) } } := by
  simp only [asyCommitNow, h, hq]

/-- Settles O16, by the part that the write commits. -/
theorem asyCommandsArePlaced : Obligations.AsyCommandsArePlaced := by
  refine fun m v s h => ⟨fun hen hfrz hp h0 => ?_, fun hen hfrz hp h0 h1 => ?_, fun c hc hen hfrz hp h0 h1 => ?_, fun hen => ?_,
    fun hen hfrz h0 => ?_, fun hen hfrz h0 x q hx hq => ?_⟩
  · refine show execAsyCommit m v s = _ from (cmdW_reaches h).trans ?_
    rw [wrAsyCmd_commits hen hfrz (.inl h0), asyCommitNow_first hp, asyPartsOf, if_pos h0]
  · refine show execAsyUpdate m v s = _ from (cmdW_reaches h).trans ?_
    rw [wrAsyCmd_commits hen hfrz (.inr (.inl h1)), asyCommitNow_first hp, asyPartsOf, if_neg (by simp [h0]), h1]
  · have hw : ∀ o, o = cmdW m Reg.ASY_CMD v wrAsyCmd s → fld v 4 3 ≠ 0 → o = .next (wrote Reg.ASY_CMD s
        { s with thisCyc := { s.thisCyc with asyNew := true }, asy := { s.asy with
          pend := some (s.anchorNow, { commit := none, update := false, ts := fld v 4 3 }) } }) := by
      intro o ho hts
      rw [ho, cmdW_reaches h, wrAsyCmd_commits hen hfrz (.inr (.inr hts)), asyCommitNow_first hp, asyPartsOf, if_neg (by simp [h0]), h1]
    rcases hc with ⟨rfl, hts⟩ | ⟨rfl, hts⟩ | ⟨rfl, hts⟩
    · exact hw _ (show execSetCoarse m v s = _ from rfl) (by simp [hts])
    · exact hw _ (show execDeclareTraceable m v s = _ from rfl) (by simp [hts])
    · exact hw _ (show execDeclareUntraceable m v s = _ from rfl) (by simp [hts])
  · exact show execAsyCommit m v s = _ from (cmdW_reaches h).trans (by rw [wrAsyCmd_disabled hen])
  · refine show execAsyCommit m v s = _ from (cmdW_reaches h).trans ?_
    rw [wrAsyCmd_frozen hen hfrz (.inl h0), asyPartsOf, if_pos h0]
  · refine show execAsyCommit m v s = _ from (cmdW_reaches h).trans ?_
    rw [wrAsyCmd_commits hen hfrz (.inl h0), asyCommitNow_joins hx hq, asyPartsOf, if_pos h0, AsyParts.merge]

/-! ### The anchor of a COMMIT (R147) -/

theorem asyNote_asy (s : State) : (asyNote s).asy = s.asy := by
  unfold asyNote
  split <;> rfl

theorem asyNote_noted {s : State} (h : s.thisCyc.asyBase.isSome = true) : asyNote s = s := by
  obtain ⟨b, hb⟩ := Option.isSome_iff_exists.mp h
  simp only [asyNote, hb]

theorem bdrFirst_none {s : State} (h : s.bdr.pend = none) : bdrFirst s = s := by
  unfold bdrFirst
  rw [h]
  split
  · next hb => cases hb
  · rfl

/-- A change that commits values alone takes them, and is kept for the conversions of times before it. -/
theorem asyParts_commit {a : BT80} {v : AMap Word} {old : AsySet} {s : State} (h : s.asy.cur ≠ old) :
    asyParts a { commit := some v } old s =
      (let u := noteChange 3 s
       { u with asy := { u.asy with hist := retainSet a u.asy.cur u.asy.hist } }, true) := by
  have hcur : (noteChange 3 s).asy.cur ≠ old := h
  simp [asyParts, hcur]

theorem asyPlaceQueued_none {s : State} (h : s.asy.queued = none) : asyPlaceQueued s = s := by
  simp only [asyPlaceQueued, h]

theorem asyAnchor_commit {s : State} {a : BT80} {v : AMap Word} (hpend : s.asy.pend = some (a, { commit := some v }))
    (hdue : earlier s.bt a = false) (hv : v ≠ s.asy.cur.vals) (hbdr : s.bdr.pend = none) (hq : s.asy.queued = none) :
    asyAnchor s = storeWrite .asy 0 (raiseEvt Reg.ASY 2
      (let n := asyNote s
       let t := { n with asy := { n.asy with pend := none, cur := { n.asy.cur with vals := v } },
                         thisCyc := { n.thisCyc with asyNew := false, asyCmd := some (a, { commit := some v }, n.asy.cur) } }
       let u := noteChange 3 t
       { u with asy := { u.asy with hist := retainSet a u.asy.cur u.asy.hist } })) := by
  have hcur : { s.asy.cur with vals := v } ≠ s.asy.cur := fun h => hv (congrArg AsySet.vals h)
  unfold asyAnchor
  simp only [hpend, hdue, Bool.false_eq_true, if_false, bdrFirst_none hbdr]
  rw [asyParts_commit (by simpa only [asyNote_asy] using hcur)]
  simp only [Option.isSome_some, Bool.true_or, if_true]
  refine asyPlaceQueued_none ?_
  rw [(TimeFrame.storeWrite_asy _).queued, (TimeFrame.raiseEvt ..).queued]
  exact (congrArg Asy.queued (asyNote_asy s)).trans hq

/-! ### Transitions that time brings (R141) -/

theorem asyHwMove_outranked {s : State} {h t : TimeStatus} (hcmd : s.thisCyc.asyCmd = none) (hhw : s.thisCyc.asyHw = some h)
    (hbase : s.thisCyc.asyBase.isSome = true) (hrank : t.rank ≤ h.rank) : asyHwMove t s = s := by
  simp [asyHwMove, asyNote_noted hbase, hhw, hrank, hcmd]

theorem asyHwMove_first {s : State} {t : TimeStatus} (hcmd : s.thisCyc.asyCmd = none) (hhw : s.thisCyc.asyHw = none)
    (hbase : s.thisCyc.asyBase.isSome = true) (hcyc : s.asy.cycTs = none) (hts : t ≠ s.asy.ts) :
    asyHwMove t s = changeRecord 1 0 (raiseEvt Reg.ASY 0 { s with
      thisCyc := { s.thisCyc with asyHw := some t }
      asy := { s.asy with cycTs := some (s.bt, s.asy.ts), ts := t, updSince := none } }) := by
  simp [asyHwMove, asyNote_noted hbase, hhw, hcmd, asyMove, hcyc, setStatus, Ne.symm hts]

/-- Settles O17, event by event. -/
theorem asyTimeTakesEffect : Obligations.AsyTimeTakesEffect := by
  refine ⟨fun s a v h hpend hdue hv hbdr hq => ?_, fun s lu h hts hlu hel => ?_, fun s h hfrom hts hlim => ?_,
    fun s lu h hts hlu hel => ?_, fun s t h hsrc hlu => ?_, fun s h hel hheld => ?_, fun s h => ?_,
    fun s h t hcmd hhw hbase hrank => asyHwMove_outranked hcmd hhw hbase hrank,
    fun s t hcmd hhw hbase hcyc hts => ⟨_, asyHwMove_first hcmd hhw hbase hcyc hts, rfl⟩⟩
  · exact show execAsyChangeAnchor s = _ from (cmdE_live h).trans (by rw [asyAnchor_commit hpend hdue hv hbdr hq])
  · exact show execUpdateTimeout s = _ from (cmdE_live h).trans (by simp only [updateTimeout, hts, hlu, hel, if_true])
  · exact show execHoldoverLimitExceeded s = _ from (cmdE_live h).trans (by rw [limitExceeded, if_pos ⟨hfrom, hts, hlim⟩])
  · exact show execHoldoverMaxExpire s = _ from (cmdE_live h).trans (by simp only [holdoverExpire, hts, hlu, hel, if_true])
  · refine show execTempSample _ s = _ from (cmdE_live h).trans ?_
    simp [tempSample, hsrc, hlu]
  · exact show execTempLost s = _ from (cmdE_live h).trans (by rw [tempLost, if_pos ⟨hel, hheld⟩])
  · exact show execAsyStoreFault s = _ from cmdE_live h

/-! ### Time records (R158, R163, R165) -/

theorem recordStall_stalls {s : State} {k : Nat} {e : StgEntry} (he : s.asy.stage.getD k none = some e) (hs : e.signed = false)
    (hel : s.elapsed e.since 10000000 = true) : recordStall s = fault .asy 0 1 s := by
  have hmem : some e ∈ s.asy.stage := by
    rw [List.getD_eq_getElem?_getD] at he
    exact List.mem_of_getElem? ((Option.getD_eq_iff.mp he).resolve_right (by simp))
  rw [recordStall, if_pos (List.any_eq_true.mpr ⟨some e, hmem, by simp [hs, hel]⟩)]

theorem wrRecCtrl_off {v : Word} {s : State} (hoff : (plainWrite Reg.ASY_REC_CTRL v s).rb Reg.ASY_REC_CTRL 0 = false) :
    wrRecCtrl v s = (plainWrite Reg.ASY_REC_CTRL v s).setStage (List.replicate 16 none) := by
  simp [wrRecCtrl, hoff]

theorem recordPeriodic_first {s : State} (hen : s.rb Reg.ASY_REC_CTRL 0 = true) (hlast : s.asy.lastSec = none) :
    recordPeriodic s = takeRecord (if s.asy.startPend then 4 else 0)
      { s with asy := { s.asy with lastSec := some (wholeSec s.now), startPend := false } } := by
  simp [recordPeriodic, hen, hlast]

/-- Settles O18, event by event. -/
theorem asyRecordsAreKept : Obligations.AsyRecordsAreKept := by
  refine ⟨fun m s h => ?_, fun s h hen hlast => ?_, fun m v s e h he => ?_, fun s k e h he hs hel => ?_, fun m v s h hwas hoff => ?_⟩
  · have hlow : (rdAsyE m s).1 = BitVec.ofNat 32 s.eNow.e := by simp [rdAsyE, State.eWords]
    exact ⟨(rdAsyE m s).2, show execAsyERead m s = _ from (cmdRd_reaches h).trans (by rw [hlow])⟩
  · exact show execRecordPeriodic s = _ from (cmdE_live h).trans (by rw [recordPeriodic_first hen hlast])
  · exact show execRecordSigned m v s = _ from (cmdW_reaches h).trans (by simp only [wrStgDone, he])
  · exact show execRecordStall s = _ from (cmdE_live h).trans (by rw [recordStall_stalls he hs hel])
  · exact show execRecordEnableWrite m v s = _ from (cmdW_reaches h).trans (by rw [wrRecCtrl_off hoff])

end Sys2Proof.Machine
end

section
/-! O19 and O20: the monitors and the messages of a reference entry (R183 to R198, R978). O19 holds. O20 fails, in its clause of a whole
binary frame: see the counterexample below. -/
namespace Sys2Proof.Machine

theorem activityTimeout_fires {e : Nat} {s : State} (hen : s.entEn e = true) (hf : (s.ent e).actFail = false)
    (hl : s.laneClock e = false) (hw : s.actWindow e ≤ cycSince s.bt (s.ent e).lastAct) :
    activityTimeout e s = entEval e (s.setEnt e { s.ent e with actFail := true }) := by
  simp [activityTimeout, hen, hf, hl, Nat.not_lt.mpr hw]

/-- A lane clock has no activity monitor. -/
theorem activityTimeout_lane {e : Nat} {s : State} (hl : s.laneClock e = true) : activityTimeout e s = s := by
  simp [activityTimeout, hl]

theorem gateEnd_measured {e : Nat} {s : State} {k1 k2 : Nat} {b1 b2 : BT80} (hen : s.entEn e = true)
    (hlen : (s.ent e).gateLen ≤ cycSince s.bt (s.ent e).gateAt) (h1 : (s.ent e).gate1 = some (k1, b1)) (h2 : (s.ent e).gate2 = some (k2, b2))
    (hk : k1 ≠ k2) :
    gateEnd e s = entEval e
      ((s.setReg (Reg.REF_ENT_FOFS e) (BitVec.ofInt 32 (fofsOf (s.entNom e) k1 b1 k2 b2))).setEnt e
        { s.ent e with gateAt := (s.ent e).gateAt + cyc (s.ent e).gateLen,
                       gateLen := max ([10000000, 100000000, 1000000000, 10000000000, 100000000000].getD (s.rf (Reg.REF_ENT_MON e) 8 3)
                         1000000000) (cdiv 4000000000 (s.entNom e)),
                       gate1 := none, gate2 := none, gated := true,
                       freqFail := s.rb (Reg.REF_ENT_CFG e) 5 && decide (s.rf (Reg.REF_ENT_FLIM e) 0 20 < (fofsOf (s.entNom e) k1 b1 k2 b2).natAbs) }) := by
  have hdue : ¬ (¬ s.entEn e = true ∨ cycSince s.bt (s.ent e).gateAt < (s.ent e).gateLen) := by simp [hen, hlen]
  unfold gateEnd
  simp only [if_neg hdue, h1, h2, if_neg hk]

theorem messageTimeout_fires {e : Nat} {s : State} (hen : s.entEn e = true) (hst : (s.ent e).stale = false) (he : e < 44)
    (hto : s.msgTo e ≤ cycSince s.bt (s.ent e).msgAt) : messageTimeout e s = entEval e (s.setEnt e { s.ent e with stale := true }) := by
  simp [messageTimeout, hen, hst, Nat.not_le.mpr he, Nat.not_lt.mpr hto]

theorem qualExpire_qualifies {e : Nat} {s : State} {b : BT80} (hd : (s.ent e).due = some b) (hb : atOrAfter s.bt b = true)
    (hst : s.entSt e = .qualifying) : qualExpire e s = entFollow e (entMove e .qualified .none s) := by
  simp [qualExpire, hd, hb, hst]

/-- Settles O19, monitor by monitor. -/
theorem refMonitorsJudge : Obligations.RefMonitorsJudge := by
  refine ⟨fun n s h hen hf hl hw => ?_, fun n s k1 k2 b1 b2 h hen hlen h1 h2 hk => ?_, fun n s h hen hst hn hto => ?_,
    fun n s b h hd hb hst => ?_, fun m n v s h => ?_, fun s h => ?_, fun n s h hl => ?_⟩
  · exact show execActivityTimeout n s = _ from (cmdT_acts h).trans (by rw [activityTimeout_fires hen hf hl hw])
  · exact show execFrequencyGateEnd n s = _ from (cmdT_acts h).trans (by rw [gateEnd_measured hen hlen h1 h2 hk])
  · exact show execMessageTimeout n s = _ from (cmdT_acts h).trans (by rw [messageTimeout_fires hen hst hn hto])
  · exact show execQualificationTimerExpire n s = _ from (cmdT_acts h).trans (by rw [qualExpire_qualifies hd hb hst])
  · exact show execEntryCfgWrite m n v s = _ from cmdW_reaches h
  · exact show execRefTableFault s = _ from cmdE_live h
  · exact show execActivityTimeout n s = _ from (cmdT_acts h).trans (by rw [activityTimeout_lane hl])

/-! ### A frame on a UART that the store of parsers lists twice

The clause says that the parser of the UART keeps its buffer and waits for its pulse with the message, as one store over the state before.
The parser is stored once for each byte, and as the last byte empties its buffer it is, for an instant, the default one, whose storing
drops every entry of the UART. Where the store lists the UART twice, as no run from reset brings about but the clause does not exclude,
the second entry is gone then, while the one store of the clause leaves it. -/

/-- A whole ToD frame: its sync, type 1, length 18, a body of zeros and its CRC. -/
def zeroTodFrame : List Byte := [0xB5, 0x12, 1, 18] ++ List.replicate 18 0 ++ [0x5F, 0x49]

/-- UART 0 is bound to REFIN 0, EDGE is 0, and the store of the parsers lists UART 0 twice, each time with the parser after reset. -/
def twoParsers : State :=
  { State.reset.setReg (Reg.REF_TOD_CFG 0) 0x10 with ref := { State.reset.ref with tods := [(0, { }), (0, { })] } }

/-- What the frame says. -/
def zeroTodMsg : TodMsg := { sec := 0, taiUtc := 0, leap := 0, quality := 0, accuracy := 0, timeValid := false, ppsValid := false }

/-- The frame leaves one entry. -/
theorem tods_after_frame : (became twoParsers (todBytes 0 zeroTodFrame twoParsers)).ref.tods.length = 1 := by decide +kernel

/-- The state that the clause names has two. -/
theorem tods_of_clause : (became twoParsers (twoParsers.setTod 0 { twoParsers.tod 0 with
    waiting := (twoParsers.tod 0).waiting ++ [(zeroTodMsg, twoParsers.bt)] })).ref.tods.length = 2 := by decide +kernel

theorem twoParsers_bound : Live Reg.REF twoParsers ∧ twoParsers.todBound 0 = true ∧ twoParsers.rf (Reg.REF_TOD_CFG 0) 5 2 = 0 ∧
    (twoParsers.tod 0).buf = [] ∧ twoParsers.rb (Reg.REF_TOD_CFG 0) 7 = false := by decide +kernel

/-- Refutes O20: a whole frame on a UART whose parser stands twice in the store of parsers takes the second entry away. -/
theorem not_refMessagesAreTaken : ¬ Obligations.RefMessagesAreTaken := by
  rintro ⟨-, -, hframe, -⟩
  obtain ⟨hlive, hbound, hfmt, hbuf, hedge⟩ := twoParsers_bound
  have hclause := hframe 0 zeroTodFrame twoParsers zeroTodMsg hlive hbound hfmt hbuf (by decide) (by decide +kernel) hedge
  have hmodel : exec (.todBinaryFrame 0 zeroTodFrame) twoParsers = .next (became twoParsers (todBytes 0 zeroTodFrame twoParsers)) :=
    show execTodBinaryFrame 0 zeroTodFrame twoParsers = _ from (cmdE_live hlive).trans (by rw [if_pos ⟨hbound, hfmt⟩]; rfl)
  have hstates := Host.Outcome.next.inj (hmodel.symm.trans hclause)
  have hlength := congrArg (fun t : State => t.ref.tods.length) hstates
  exact absurd (tods_after_frame.symm.trans (hlength.trans tods_of_clause)) (by decide)

end Sys2Proof.Machine
end

section
/-! O21 and O22: selection and the loop units (R201 to R210, R223 to R270). -/
namespace Sys2Proof.Machine

/-! ### Selection -/

theorem onFail_none {l : Nat} {s : State} (h : AMap.get none s.ref.fbDue l = none) : onFail l s = s := by
  simp only [onFail, h]

theorem wrSel_takes {l : Nat} {v : Word} {s : State} (hv : bit v 8 = true) (hfb : AMap.get none s.ref.fbDue l = none)
    (hrej : (s.setReg (Reg.REF_LOOP_SEL l) (v &&& 0x13F#32)).selRej (fld v 0 6) = none) :
    wrSel l v s = raiseEvt Reg.REF 2 (setCur l (fld v 0 6) true .manual 0 ((s.setReg (Reg.REF_LOOP_SEL l) (v &&& 0x13F#32)).clearFb l)) := by
  unfold wrSel
  simp only [onFail_none hfb, if_pos hv, hrej]

theorem wrSel_refuses {l : Nat} {v : Word} {s : State} {r : SelRej} (hv : bit v 8 = true) (hfb : AMap.get none s.ref.fbDue l = none)
    (hrej : (s.setReg (Reg.REF_LOOP_SEL l) (v &&& 0x13F#32)).selRej (fld v 0 6) = some r) :
    wrSel l v s = raiseEvt Reg.REF 3
      (((s.setReg (Reg.REF_LOOP_SEL l) (v &&& 0x13F#32)).setRf (Reg.REF_LOOP_CUR l) 12 4 r.code).count Reg.REF_CNT_SELREJ) := by
  unfold wrSel
  simp only [onFail_none hfb, if_pos hv, hrej]

theorem wrSel_lets_go {l : Nat} {v : Word} {s : State} (hv : bit v 8 = false) (hfb : AMap.get none s.ref.fbDue l = none) :
    wrSel l v s = setCur l 0 false .none 0 ((s.setReg (Reg.REF_LOOP_SEL l) (v &&& 0x13F#32)).clearFb l) := by
  simp only [wrSel, onFail_none hfb, hv, Bool.false_eq_true, if_false]

/-- The loop still follows the entry whose failure is due: the entry is spent in its list, and the loop falls back. -/
theorem onFail_falls_back {l e : Nat} {s : State} {b : BT80} (hdue : AMap.get none s.ref.fbDue l = some (e, b))
    (hnext : s.nextScal b = true) (hvalid : (s.clearFb l).curValid l = true) (hcur : (s.clearFb l).curEntry l = e) :
    onFail l s = raiseEvt Reg.REF 1
      ((fallback l ((s.clearFb l).setRf (Reg.REF_LOOP_CUR l) 24 8 ((List.range 8).foldl (fun a i =>
        if (s.clearFb l).prio l i % 64 = e ∧ 128 ≤ (s.clearFb l).prio l i ∧ a / 2 ^ i % 2 = 0 then a + 2 ^ i else a)
        ((s.clearFb l).rf (Reg.REF_LOOP_CUR l) 24 8)))).count Reg.REF_CNT_FALLBACK) := by
  have hfollows : ¬ ¬ ((s.clearFb l).curValid l = true ∧ (s.clearFb l).curEntry l = e) := not_not_intro ⟨hvalid, hcur⟩
  unfold onFail
  simp only [hdue, hnext, not_true_eq_false, if_false, if_neg hfollows]

theorem rescan_takes {l i : Nat} {s t : State} {b : BT80} (hdue : AMap.get none s.ref.rescan l = some b) (hnext : s.nextScal b = true)
    (ht : { s with ref := { s.ref with rescan := AMap.set none s.ref.rescan l none } } = t) (hscan : t.scans l = true)
    (hpick : t.pickPrio l (t.rf (Reg.REF_LOOP_CUR l) 24 8) = some i) :
    rescan l s = setCur l (t.prio l i % 64) true .fallback (t.rf (Reg.REF_LOOP_CUR l) 24 8) t := by
  subst ht
  unfold rescan
  simp only [hdue, hnext, not_true_eq_false, if_false, if_pos hscan, hpick]

/-- Settles O21, by the way a selection comes about. -/
theorem refSelects : Obligations.RefSelects := by
  refine ⟨fun m l v s h hv hfb hrej => ?_, fun m l v s r h hv hfb hrej => ?_, fun m l v s h hv hfb => ?_, fun m l b v s h hlock => ?_,
    fun l s e b h hdue hnext hvalid hcur => ?_, fun l s b i h hdue hnext ⟨hscan, hpick⟩ => ?_⟩
  · exact show execRefSelect m l v s = _ from (cmdW_reaches h).trans (by rw [wrSel_takes hv hfb hrej])
  · exact show execRefSelect m l v s = _ from (cmdW_reaches h).trans (by rw [wrSel_refuses hv hfb hrej])
  · exact show execDeselect m l v s = _ from (cmdW_reaches h).trans (by rw [wrSel_lets_go hv hfb])
  · refine show execPrioWrite m l b v s = _ from (cmdW_reaches h).trans ?_
    rw [wrPrio, if_neg (by simp [hlock])]
  · exact show execFallback l s = _ from (cmdT_acts h).trans (by rw [onFail_falls_back hdue hnext hvalid hcur])
  · exact show execFallbackRescan l s = _ from (cmdT_acts h).trans (by rw [rescan_takes hdue hnext rfl hscan hpick])

/-! ### Commands of a loop unit (R236 to R239) -/

theorem wrDplCmd_reseeds {l : Nat} {v : Word} {s : State} (hv : bit v 2 = true) (hst : s.dplSt l ≠ .freerun) :
    wrDplCmd l v s = dplReseed l s := by
  rw [wrDplCmd, if_pos ⟨hv, hst⟩]

theorem wrDplCmd_forces {l : Nat} {v : Word} {s : State} (hv2 : bit v 2 = false) (hv0 : bit v 0 = true) (hho : s.hoValid l = true)
    (hst : s.dplSt l = .acquire ∨ s.dplSt l = .locked) :
    wrDplCmd l v s = (let t := setDplSt l .holdover s; t.setDpl l { t.dplS l with forced := true }) := by
  have hmay : s.mayForce l = true := by rcases hst with h | h <;> simp [State.mayForce, hho, h]
  rw [wrDplCmd, if_neg (by simp [hv2]), if_pos ⟨hv0, hmay⟩]

theorem wrDplCmd_refuses_force {l : Nat} {v : Word} {s : State} (hv0 : bit v 0 = true) (hv1 : bit v 1 = false) (hv2 : bit v 2 = false)
    (hho : s.hoValid l = false) : wrDplCmd l v s = s.setRf (Reg.DPL_STAT l) 24 4 1 := by
  simp [wrDplCmd, hv0, hv1, hv2, State.mayForce, hho]

theorem wrDplCmd_releases {l : Nat} {v : Word} {s : State} (hv1 : bit v 1 = true) (hv0 : bit v 0 = false) (hv2 : bit v 2 = false) :
    wrDplCmd l v s = dplRelease l s := by
  simp [wrDplCmd, hv0, hv1, hv2]

/-! ### Measurements, reports and history (R223, R225, R249, R262) -/

/-- A measurement of its entry updates a loop that acquires or is locked. -/
theorem loopTake_updates {l e edges : Nat} {b : BT80} {x : Option WT96} {s t : State} {v : Int} (hen : s.pgEn (Reg.DPL l) = true)
    (hvalid : s.curValid l = true) (hcur : s.curEntry l = e)
    (ht : s.setDpl l { s.dplS l with edges := (s.dplS l).edges + edges } = t) (hst : t.dplSt l = .locked ∨ t.dplSt l = .acquire)
    (hv : t.measX l e x = some v) : loopTake l e b x edges s = dplUpdate l b e v t := by
  have hown : ¬ ¬ (s.curValid l = true ∧ s.curEntry l = e) := not_not_intro ⟨hvalid, hcur⟩
  unfold loopTake
  rcases hst with h | h <;> simp only [hen, not_true_eq_false, if_false, if_neg hown, ht, h, hv]

/-- One that runs free or holds only notes its edges. -/
theorem loopTake_notes {l e edges : Nat} {b : BT80} {x : Option WT96} {s t : State} (hen : s.pgEn (Reg.DPL l) = true)
    (hvalid : s.curValid l = true) (hcur : s.curEntry l = e)
    (ht : s.setDpl l { s.dplS l with edges := (s.dplS l).edges + edges } = t) (hst : t.dplSt l = .freerun ∨ t.dplSt l = .holdover) :
    loopTake l e b x edges s = t := by
  have hown : ¬ ¬ (s.curValid l = true ∧ s.curEntry l = e) := not_not_intro ⟨hvalid, hcur⟩
  unfold loopTake
  rcases hst with h | h <;> simp only [hen, not_true_eq_false, if_false, if_neg hown, ht, h]

theorem loopTake_other {l e edges : Nat} {b : BT80} {x : Option WT96} {s : State} (hen : s.pgEn (Reg.DPL l) = true)
    (hcur : s.curEntry l ≠ e) : loopTake l e b x edges s = s.count (Reg.DPL_CNT_DISC l) := by
  simp [loopTake, hen, hcur]

theorem reportAt_holdover {l : Nat} {s : State} (hst : s.dplSt l = .holdover) (hen : s.pgEn (Reg.DPL l) = true) (hdue : s.rptDue l = true) :
    reportAt l s = dplReport l (dplAdvance l s).bt ((dplAdvance l s).dplS l).p ((dplAdvance l s).dplS l).y (dplAdvance l s) := by
  simp only [reportAt, hst, hen, hdue, and_self, if_true]

theorem histSample_due {l : Nat} {s : State} (hen : s.rb (Reg.DPL_HIST_CFG l) 8 = true) (hdue : (s.dplS l).hIdx < s.histNo l) :
    histSample l s = raiseEvt (Reg.DPL l) 3 (histBegin l (State.nextFree
      ((s.sramWr (s.rf (Reg.DPL_HIST_BASE l) 12 13 * 4096 + 64 * ((s.reg (Reg.DPL_HIST_WR l)).toNat % 2 ^ s.rf (Reg.DPL_HIST_BASE l) 0 4))
          (histBody l s ++ bytesBE 4 (crc32c (histBody l s)).toNat)).setReg (Reg.DPL_HIST_WR l) (BitVec.ofNat 32
        (((s.reg (Reg.DPL_HIST_WR l)).toNat % 2 ^ s.rf (Reg.DPL_HIST_BASE l) 0 4 + 1) % 2 ^ s.rf (Reg.DPL_HIST_BASE l) 0 4))))) := by
  rw [histSample, if_neg (by simp [hen, hdue])]

/-- Settles O22, by the event and the state it finds. -/
theorem loopsAct : Obligations.LoopsAct := by
  refine ⟨fun l n b x e s r t v h hr hen hvalid hcur ht hst hv => ?_, fun l n b x e s r h hr hen hcur => ?_, fun l s h hst hen hdue => ?_,
    fun m l v s h h0 h1 h2 hho hst => ?_, fun m l v s h h0 h1 h2 hho => ?_, fun m l v s h h1 h0 h2 hf hst => ?_,
    fun m l v s h h1 h0 h2 hf => ?_, fun m l v s h h2 h0 h1 hst => ?_, fun l s h hen hdue => ?_, fun l s h => ?_,
    fun m l v s h h2 hst => ?_, fun m l v s h h2 h0 hho hst => ?_, fun l n b x e s r t h hr hen hvalid hcur ht hst => ?_⟩
  · refine show execLoopMeasurement .. = _ from (cmdT_acts h).trans ?_
    rw [measArrive, hr, loopTake_updates hen hvalid hcur ht hst hv]
  · refine show execLoopMeasurement .. = _ from (cmdT_acts h).trans ?_
    rw [measArrive, hr, loopTake_other hen hcur]
  · refine show execReportInstant .. = _ from (cmdT_acts h).trans ?_
    rw [reportAt_holdover hst hen hdue]
    simp only [dplAdvance, hst]
    rfl
  · exact show execForceHo .. = _ from (cmdW_reaches h).trans (by rw [wrDplCmd_forces h2 h0 hho (.inr hst)])
  · exact show execForceHo .. = _ from (cmdW_reaches h).trans (by rw [wrDplCmd_refuses_force h0 h1 h2 hho])
  · refine show execRelease .. = _ from (cmdW_reaches h).trans ?_
    rw [wrDplCmd_releases h1 h0 h2, dplRelease, if_pos ⟨hf, hst⟩]
  · refine show execRelease .. = _ from (cmdW_reaches h).trans ?_
    rw [wrDplCmd_releases h1 h0 h2, dplRelease, if_neg (by simp [hf])]
  · exact show execReseed .. = _ from (cmdW_reaches h).trans (by rw [wrDplCmd_reseeds h2 hst, dplReseed])
  · exact show execHistorySample .. = _ from (cmdT_acts h).trans (by rw [histSample_due hen hdue])
  · exact show execDplStatePar .. = _ from cmdE_live h
  · exact ⟨show execForceHo m l v s = execReseed m l v s from rfl, show execRelease m l v s = execReseed m l v s from rfl⟩
  · exact show execForceHo .. = _ from (cmdW_reaches h).trans (by rw [wrDplCmd_forces h2 h0 hho (.inl hst)])
  · refine show execLoopMeasurement .. = _ from (cmdT_acts h).trans ?_
    rw [measArrive, hr, loopTake_notes hen hvalid hcur ht hst]

end Sys2Proof.Machine
end

section
/-! O23 and O24: synthesisers, clock outputs and pulse outputs (R274 to R317). -/
namespace Sys2Proof.Machine

/-! ### Synthesisers (R274, R276 to R283) -/

theorem wrSynCmd_lock {n : Nat} {v : Word} {s : State} (hen : s.pgEn (Reg.SYN n) = true) (h0 : bit v 0 = true) (h1 : bit v 1 = false)
    (h2 : bit v 2 = false) : wrSynCmd n v s = synLockCmd n s := by
  simp [wrSynCmd, hen, h0, h1, h2]

theorem synLockCmd_tries {n b : Nat} {s : State} (hnum : 16 ≤ s.regN (Reg.SYN_NUM n) 2 / 2 ^ 48) (hst : s.synSt n = .idle)
    (hb : s.pickBand n (s.reg (Reg.SYN_CFG n)) (s.regN (Reg.SYN_NUM n) 2) (s.bandTable n) = some b) :
    synLockCmd n s = setSyn n .locking ((synReject n 0 (s.setSynS n
      { s.synS n with cfg := s.reg (Reg.SYN_CFG n), num := s.regN (Reg.SYN_NUM n) 2, bands := s.bandTable n, trying := false })).setRf
        (Reg.SYN_STAT n) 8 6 b) := by
  unfold synLockCmd
  simp only [if_neg (Nat.not_lt.mpr hnum), hb, hst]

theorem synLockCmd_range {n : Nat} {s : State} (hnum : s.regN (Reg.SYN_NUM n) 2 / 2 ^ 48 < 16) : synLockCmd n s = synReject n 3 s :=
  if_pos hnum

theorem synLockCmd_noBand {n : Nat} {s : State} (hnum : 16 ≤ s.regN (Reg.SYN_NUM n) 2 / 2 ^ 48)
    (hb : s.pickBand n (s.reg (Reg.SYN_CFG n)) (s.regN (Reg.SYN_NUM n) 2) (s.bandTable n) = none) : synLockCmd n s = synReject n 1 s := by
  unfold synLockCmd
  simp only [if_neg (Nat.not_lt.mpr hnum), hb]

theorem wrSynCmd_stop {n : Nat} {v : Word} {s : State} (hen : s.pgEn (Reg.SYN n) = true) (h0 : bit v 0 = false) (h1 : bit v 1 = true)
    (h2 : bit v 2 = false) : wrSynCmd n v s = setSyn n .idle s := by
  simp [wrSynCmd, hen, h0, h1, h2, synStopCmd]

theorem wrSynCmd_measure {n : Nat} {v : Word} {s : State} (hen : s.pgEn (Reg.SYN n) = true) (h0 : bit v 0 = false) (h1 : bit v 1 = false)
    (h2 : bit v 2 = true) (hst : s.synSt n = .idle) :
    wrSynCmd n v s = setSyn n .measure ((s.setSynS n { s.synS n with mband := fld v 8 6 }).setRf (Reg.SYN_STAT n) 24 4 0) := by
  simp [wrSynCmd, hen, h0, h1, h2, synMeasure, hst, synReject]

theorem synRelock_tries {n b : Nat} {s t : State} (hst : s.synSt n = .lost) (hel : s.elapsed (s.synS n).since 2000000 = true)
    (ht : s.setSynS n { s.synS n with since := s.bt } = t)
    (hb : t.pickBand n (t.synS n).cfg (t.synS n).num (t.synS n).bands = some b) :
    synRelock n s = (t.setSynS n { t.synS n with trying := true }).setRf (Reg.SYN_STAT n) 8 6 b := by
  rw [synRelock, if_pos ⟨hst, hel⟩, ht]
  simp only [hb]

/-- Settles O23, by the command and the state it finds. -/
theorem synthesisersAct : Obligations.SynthesisersAct := by
  refine ⟨fun m n v s b h hen h0 h1 h2 hst hnum hb => ?_, fun m n v s h hen h0 h1 h2 hnum => ?_, fun m n v s h hen h0 h1 h2 => ?_,
    fun m n v s h hen h0 h1 h2 hst => ?_, fun n lo hi s h hst => ?_, fun n s h hst => ?_, fun n s h hst hel => ?_, fun n s h hst => ?_,
    fun n s b h hst hel hb => ?_, fun n s h hsl hel => ?_, fun m n v s h hen h0 h1 h2 hnum hb => ?_⟩
  · refine show execSynLock .. = _ from (cmdW_reaches h).trans ?_
    rw [wrSynCmd_lock hen h0 h1 h2, synLockCmd_tries hnum hst hb]
  · refine show execSynLock .. = _ from (cmdW_reaches h).trans ?_
    rw [wrSynCmd_lock hen h0 h1 h2, synLockCmd_range hnum, synReject]
  · exact show execSynStop .. = _ from (cmdW_reaches h).trans (by rw [wrSynCmd_stop hen h0 h1 h2])
  · exact show execBmeas .. = _ from (cmdW_reaches h).trans (by rw [wrSynCmd_measure hen h0 h1 h2 hst])
  · exact show execBmeasDone .. = _ from (cmdT_acts h).trans (by rw [synMeasured, if_pos hst, bandLimits])
  · exact show execSynLockAchieved .. = _ from (cmdE_live h).trans (by simp only [synAchieved, hst])
  · exact show execSynLockTimeout .. = _ from (cmdT_acts h).trans (by rw [synTimeout, if_pos ⟨hst, hel⟩])
  · exact show execSynLol .. = _ from (cmdE_live h).trans (by rw [synLol, if_pos hst, synLost])
  · exact show execSynRelockAttempt .. = _ from (cmdT_acts h).trans (by rw [synRelock_tries hst hel rfl hb])
  · exact show execSynSlewStep .. = _ from (cmdT_acts h).trans (by rw [synStep, if_pos ⟨hsl, hel⟩])
  · refine show execSynLock .. = _ from (cmdW_reaches h).trans ?_
    rw [wrSynCmd_lock hen h0 h1 h2, synLockCmd_noBand hnum hb, synReject]

/-! ### Clock outputs (R298) -/

/-- The running outputs of the mask of a write of OUT_CMD, as it computes them. -/
def runningOf (v : Word) (s : State) : Nat :=
  (List.range 12).foldl (fun a n => if bit v n && s.outRun n then a + 2 ^ n else a) 0

theorem runningOf_eq_zero {v : Word} {s : State} (h : ∀ n < 12, bit v n = true → s.outRun n = false) : runningOf v s = 0 := by
  have hnone : ∀ (l : List Nat), (∀ n ∈ l, n < 12) → l.foldl (fun a n => if bit v n && s.outRun n then a + 2 ^ n else a) 0 = 0 := by
    intro l
    induction l with
    | nil => exact fun _ => rfl
    | cons n l ih =>
      intro hl
      have hn : (bit v n && s.outRun n) = false := by
        cases hb : bit v n with
        | false => rfl
        | true => exact h n (hl n (.head l)) hb
      rw [List.foldl_cons, hn]
      exact ih fun k hk => hl k (.tail n hk)
  exact hnone _ fun n hn => List.mem_range.mp hn

theorem bit_of_fld_eq_zero {v : Word} {n : Nat} (h : fld v 0 12 = 0) (hn : n < 12) : bit v n = false := by
  have hb := testBit_fld v 0 12 n
  rw [h, Nat.zero_testBit, decide_eq_true hn, Bool.true_and, Nat.zero_add] at hb
  exact hb.symm

theorem wrOutCmd_aligns {v : Word} {s : State} (h : runningOf v s ≠ 0) :
    wrOutCmd v s = outsUpdate { s with outs := { s.outs with sync := s.outs.sync ||| runningOf v s } } :=
  if_neg fun hz => h hz.1

theorem wrOutCmd_idle {v : Word} {s : State} (h : runningOf v s = 0) (hsync : s.outs.sync = 0) :
    wrOutCmd v s = if fld v 0 12 = 0 then s else raiseEvt Reg.OUT 3 s :=
  if_pos ⟨h, hsync⟩

theorem syncDone_restarts {s : State} (hsync : s.outs.sync ≠ 0) (hready : s.syncReady = true) :
    syncDone s = raiseEvt Reg.OUT 3
      (let al := (List.range 12).foldl (fun m n => if s.outs.sync / 2 ^ n % 2 = 1 then AMap.set 0 m n s.bt else m) s.outs.align
       outsUpdate (forN 12 (fun n a => if s.outs.sync / 2 ^ n % 2 = 1 then outRestart n a else a)
        { s with outs := { s.outs with sync := 0, align := al } })) :=
  if_neg (by simp [hsync, hready])

/-! ### Pulse outputs (R300, R305 to R307) -/

theorem ppsEdge_leads {n : Nat} {s : State} {t : WT96} {b : BT80} (hrun : s.ppsRun n = true) (ht : (s.ppsS n).target = some t)
    (ha : (s.ppsS n).active = false) (hb : s.ppsDue n t = some b) :
    ppsEdge n s = (ppsDrive n true b s).setPps n { s.ppsS n with active := true, last := some t, width := s.ppsW n } := by
  unfold ppsEdge
  simp only [hrun, ht, ha, hb, Bool.false_eq_true, if_false]

theorem wrPpsCfg_arms {n : Nat} {v : Word} {s t : State} (ht : ppsHeld n (plainWrite (Reg.PPS_CFG n) v s) = t)
    (hpol : t.rb (Reg.PPS_CFG n) 4 = bit (s.reg (Reg.PPS_CFG n)) 4) (hon : t.rb (Reg.PPS_CFG n) 0 = true)
    (hwas : bit (s.reg (Reg.PPS_CFG n)) 0 = false) : wrPpsCfg n v s = ppsArm n t := by
  simp [wrPpsCfg, ht, hpol, hon, hwas]

/-- Settles O24, by the command or the edge. -/
theorem outputsAct : Obligations.OutputsAct := by
  refine ⟨fun m v s h hk => ?_, fun m v s h hsync hrun hv => ?_, fun s h hsync hready => ?_, fun s h => ?_,
    fun n s t b h hrun ht ha hb hu => ?_, fun m v s h => ?_, fun m n v s h hpol hon hwas => ?_, fun n s h hsw => ?_,
    fun m v s h hv hsync => ?_⟩
  · exact show execOutputSync .. = _ from (cmdW_reaches h).trans (by rw [wrOutCmd_aligns hk]; rfl)
  · refine show execOutputSync .. = _ from (cmdW_reaches h).trans ?_
    rw [wrOutCmd_idle (runningOf_eq_zero fun n _ _ => hrun n) hsync, if_neg hv]
  · exact show execSyncDone s = _ from (cmdT_acts h).trans (by rw [syncDone_restarts hsync hready])
  · exact show execOutCfgPar s = _ from cmdE_live h
  · refine show execPpsEdge n s = _ from (cmdT_acts h).trans ?_
    rw [ppsEdge_leads hrun ht ha hb, if_neg hu]
  · exact show execPpsAlign m v s = _ from cmdW_reaches h
  · exact show execPpsCfgWrite m n v s = _ from (cmdW_reaches h).trans (by rw [wrPpsCfg_arms rfl hpol hon hwas])
  · exact show execAligned n s = _ from (cmdT_acts h).trans (by rw [if_pos hsw])
  · refine show execOutputSync .. = _ from (cmdW_reaches h).trans ?_
    rw [wrOutCmd_idle (runningOf_eq_zero fun n hn hb => absurd hb (by simp [bit_of_fld_eq_zero hv hn])) hsync, if_pos hv]

end Sys2Proof.Machine
end

section
/-! O25: the sample interface, the antenna supplies and acquisition (R329 to R349). -/
namespace Sys2Proof.Machine

/-! ### The sample interface (R329, R332, R333, R337) -/

theorem wrSifCmd_trains {v : Word} {s : State} (hv : bit v 0 = true) (hidle : s.rb Reg.GNS_SIF_STAT 24 = false) :
    wrSifCmd v s =
      (let t := forN 8 (fun n a => if s.laneEn / 2 ^ n % 2 = 1 then laneDrop n (a.setRb Reg.GNS_SIF_STAT (16 + n) false) else a) s
       (State.setRb { t with gns := { t.gns with trainAt := some s.bt } } Reg.GNS_SIF_STAT 24 true).emit (.pin "GNSS_FRM" true)) :=
  if_neg (by simp [hv, hidle])

/-- The end of a training, in a state whose training has ended. -/
theorem trainEnd_over {found : Byte} {s : State} (hbusy : s.rb Reg.GNS_SIF_STAT 24 = true) (hover : s.trainOver = true) :
    ∃ t : State, trainEnd found s = raiseEvt Reg.GNS 1 ((State.setRb t Reg.GNS_SIF_STAT 24 false).emit (.pin "GNSS_FRM" false)) ∧
      t.gns.trainAt = none := by
  rw [trainEnd, if_neg (by simp [hbusy, hover])]
  exact ⟨_, rfl, rfl⟩

theorem stuckChange_stuck {n : Nat} {s : State} (ha : s.laneAligned n = true) (hst : s.rb Reg.GNS_SIF_STAT (8 + n) = false) :
    stuckChange n true s = fault .gns 0 0 (s.setRb Reg.GNS_SIF_STAT (8 + n) true) := by
  rw [stuckChange, if_pos rfl, if_pos ⟨ha, hst⟩]

theorem antFlt_cuts {a : Nat} {s t : State} {b : BT80} (hlow : AMap.get none s.gns.antLow a = some (b, false))
    (ht : s.setRb Reg.GNS_APWR (8 + a) true = t) (hel : t.elapsed b 1000000 = true) (hsw : t.rb Reg.GNS_APWR (4 + a) = true) :
    antFlt a true s = fault .gns 0 1 (raiseEvt Reg.GNS 4 (antDrive a false
      { t with gns := { t.gns with antLow := AMap.set none t.gns.antLow a (some (b, true)) } })) := by
  have hlow' : AMap.get none t.gns.antLow a = some (b, false) := by rw [← ht]; exact hlow
  unfold antFlt
  simp only [ht, hlow', hel, hsw, not_true_eq_false, if_false, and_self, if_true]

/-! ### Acquisition (R341 to R349) -/

/-- The software's request at the head of its queue, with no channel asking. -/
theorem acqTake_software {s u : State} {r : AcqReq} (hen : s.pgEn Reg.ACQ = true) (hidle : s.gns.acq.active = none)
    (hchq : s.gns.acq.chq = [])
    (hne : (s.reg Reg.ACQ_RQ_HEAD).toNat % 2 ^ s.rf Reg.ACQ_RQ_BASE 0 3 ≠ (s.reg Reg.ACQ_RQ_TAIL).toNat % 2 ^ s.rf Reg.ACQ_RQ_BASE 0 3)
    (hr : acqWords s (s.rf Reg.ACQ_RQ_BASE 12 13 * 4096 + 16 * ((s.reg Reg.ACQ_RQ_HEAD).toNat % 2 ^ s.rf Reg.ACQ_RQ_BASE 0 3)) = r)
    (hu : { s with gns := { s.gns with acq := { s.gns.acq with swLast := true, sw := true, noHand := false, begun := false } } } = u) :
    (acqRefusal u r = none →
      acqTake s = { u with gns := { u.gns with acq := { u.gns.acq with active := some (r, u.nextFrame) } } }) ∧
    (∀ st, acqRefusal u r = some st → acqTake s = acqAgain r false (acqAnswer r st false 0 0 0 0 0 (acqAdvance u))) := by
  subst hr hu
  refine ⟨fun hok => ?_, fun st hrej => ?_⟩
  · simp_all [acqTake]
  · simp_all [acqTake]

theorem acqAgain_software (r : AcqReq) (s : State) : acqAgain r false s = s := if_neg (by simp)

theorem acqRefusal_signal {s : State} {r : AcqReq} (h : sigOk r.sig r.prn = false) : acqRefusal s r = some 2 := by
  simp [acqRefusal, h]

/-- The end of a search that found its signal. -/
theorem acqEnd_found {ra cn : BitVec 16} {dop code : Word} {s t : State} {r : AcqReq} {b : BT80} (hinj : s.inject Reg.ACQ 0 = false)
    (ha : s.gns.acq.active = some (r, b)) (hb : s.gns.acq.begun = true) (hthr : r.thr ≤ ra.toNat)
    (ht : { s with gns := { s.gns with acq := { s.gns.acq with active := none, noHand := false, begun := false } } } = t) :
    (r.handoff = false → acqEnd ra cn dop code false s = acqAnswer r 0 false dop code ra cn b t) ∧
    (r.handoff = true → s.gns.acq.noHand = false → t.gchSt r.chan = .acqWait → (t.gch r.chan).sig = r.sig →
      (t.gch r.chan).prn = r.prn → (t.gch r.chan).ant = r.ant →
      acqEnd ra cn dop code false s = acqAnswer r 0 true dop code ra cn b (acqHandoff r.chan dop code b t)) := by
  refine ⟨fun hh => ?_, fun hh hn hst hsig hprn hant => ?_⟩
  · simp [acqEnd, hinj, ha, hb, hthr, hh, ht]
  · simp [acqEnd, hinj, ha, hb, hthr, hh, ht, hn, hst, hsig, hprn, hant]

/-- Settles O25, event by event. -/
theorem gnssAcquires : Obligations.GnssAcquires := by
  refine ⟨fun m v s h hv hidle => ?_, fun f s h hbusy hover => ?_, fun n s h ha => ?_, fun n s h ha hst => ?_, fun n s h => ?_,
    fun a s b h hlow hel hsw => ?_, fun s h hen hidle hchq hne hok => ?_, fun ra cn dop code s r b h hinj ha hb hh hthr => ?_,
    fun ra cn dop code s r b h hinj ha hb hh hthr hn hst hsig hprn hant => ?_, fun m v s h hv hidle => ?_,
    fun s h hen hidle hchq hne hsig => ?_⟩
  · exact show execGnsTrain m v s = _ from (cmdW_reaches h).trans (by rw [wrSifCmd_trains hv hidle])
  · obtain ⟨t, ht, hat⟩ := trainEnd_over (found := f) hbusy hover
    exact ⟨t, show execTrainDone f s = _ from (cmdT_acts h).trans (by rw [ht]), hat⟩
  · exact show execGnsSif n s = _ from (cmdE_live h).trans (by rw [sifLoss, if_pos ha])
  · exact show execLaneStuck n true s = _ from (cmdE_live h).trans (by rw [stuckChange_stuck ha hst])
  · exact show execLaneStuck n false s = _ from (cmdE_live h).trans (by rw [stuckChange, if_neg Bool.false_ne_true])
  · exact show execAntPwr a true s = _ from (cmdE_live h).trans (by rw [antFlt_cuts hlow rfl hel hsw])
  · exact show execAcqRequest s = _ from (cmdT_acts h).trans (by rw [(acqTake_software hen hidle hchq hne rfl rfl).1 hok])
  · exact show execAcqResult .. = _ from (cmdT_acts h).trans (by rw [(acqEnd_found hinj ha hb hthr rfl).1 hh])
  · refine show execAcqResult .. = _ from (cmdT_acts h).trans ?_
    rw [(acqEnd_found hinj ha hb hthr rfl).2 hh hn hst hsig hprn hant]
  · refine show execCancelAll m v s = _ from (cmdW_reaches h).trans ?_
    simp [wrAcqCmd, hv, hidle]
  · refine show execAcqRequest s = _ from (cmdT_acts h).trans ?_
    rw [(acqTake_software hen hidle hchq hne rfl rfl).2 2 (acqRefusal_signal hsig), acqAgain_software, acqAdvance]

end Sys2Proof.Machine
end

section

/-! # Proofs: the channels of the GNSS receiver (R350 to R377) -/

namespace Sys2Proof.Machine

/-! ### Writes of GCH_CMD (R350, R352) -/

theorem wrGchCmd_off {c : Nat} {v : Word} {s : State} (hon : s.gchOn c = false) : wrGchCmd c v s = s := by
  simp [wrGchCmd, hon]

theorem wrGchCmd_stops {c : Nat} {v : Word} {s : State} (hon : s.gchOn c = true) (hv : bit v 1 = true) :
    wrGchCmd c v s = gchStop c s := by
  simp [wrGchCmd, hon, hv]

theorem wrGchCmd_starts {c : Nat} {v : Word} {s : State} (hon : s.gchOn c = true) (hstart : bit v 0 = true) (hstop : bit v 1 = false)
    (hearlier : (s.gch c).stopAt ≠ some s.bt) : wrGchCmd c v s = gchStart c s := by
  simp [wrGchCmd, hon, hstart, hstop, hearlier]

theorem gchStart_allowed {c : Nat} {s : State} (hsig : sigOk (fld (s.reg (Reg.GCH_CFG c)) 12 4) (fld (s.reg (Reg.GCH_CFG c)) 16 8) = true)
    (htcoh : tcohOk (s.rf (Reg.GCH_LOOP c) 16 3) (fld (s.reg (Reg.GCH_CFG c)) 12 4) = true)
    (hlane : s.laneAligned (laneOf (fld (s.reg (Reg.GCH_CFG c)) 10 2) (fld (s.reg (Reg.GCH_CFG c)) 12 4)) = true) :
    gchStart c s = gchBegin c s := by
  simp [gchStart, hsig, htcoh, hlane]

theorem gchStart_badSignal {c : Nat} {s : State}
    (hsig : sigOk (fld (s.reg (Reg.GCH_CFG c)) 12 4) (fld (s.reg (Reg.GCH_CFG c)) 16 8) = false) : gchStart c s = gchReject c 1 s := by
  simp [gchStart, hsig]

/-! ### A channel through time (R351, R352, R361) -/

theorem gchAided_due {c n : Nat} {s t : State} (hsec : (s.gch c).startSec = some n) (hdue : n ≤ wholeSec s.now) (hon : s.gchOn c = true)
    (ht : setGchSt c .pullin s = t) :
    gchAided c s = t.setGch c { t.gch c with startSec := none, at_ := s.bt, code := (s.reg (Reg.GCH_AIDCODE c)).toNat,
                                             dop := (s.reg (Reg.GCH_AIDDOP c)).toInt } := by
  have hnot : ¬ wholeSec s.now < n := by omega
  simp [gchAided, hsec, hnot, hon, ht]

theorem gchIntegrate_fault {c : Nat} {x : Integration} {s : State} (hst : s.gchSt c = .pullin)
    (hlane : s.laneAligned (laneOf (s.gch c).ant (s.gch c).sig) = true) (hinj : s.inject (Reg.GCH c) 0 = true) :
    gchIntegrate c x s = fault .gch c 0 s := by
  simp [gchIntegrate, hst, hlane, hinj]

/-- An integration without synchronism, after which both locks of the channel stand: PULLIN leads to TRACK (R352, R361). -/
theorem gchIntegrate_tracks {c : Nat} {x : Integration} {s t u v : State} (hst : s.gchSt c = .pullin)
    (hlane : s.laneAligned (laneOf (s.gch c).ant (s.gch c).sig) = true) (hinj : s.inject (Reg.GCH c) 0 = false) (hsync : x.sync = false)
    (ht : (s.setGch c (gchLoops c x s)).setReg (Reg.GCH_CN0 c) (x.cn0.setWidth 32) = t) (hu : burstJudge c (gchLocks c t) = u)
    (hv : setGchSt c .track u = v) (hcode : u.rb (Reg.GCH_STAT c) 8 = true) (hsym : u.rb (Reg.GCH_STAT c) 10 = true) :
    gchIntegrate c x s = v.setGch c ((v.gch c).latch (v.reg (Reg.GCH_TRK c)) (v.reg (Reg.GCH_LOOP c)) (v.intMs c)) := by
  simp [gchIntegrate, hst, hlane, hinj, hsync, ht, hu, hv, hcode, hsym]

theorem pullinExpire_over {c : Nat} {s : State} (hst : s.gchSt c = .pullin) (hover : s.elapsed (s.gch c).since 3000000000 = true) :
    pullinExpire c s = gchLose c s := if_pos ⟨hst, hover⟩

theorem laneLoss_over {c : Nat} {s : State} {b : BT80} (hact : (s.gchSt c).active = true)
    (hdown : AMap.get none s.gns.down (laneOf (s.gch c).ant (s.gch c).sig) = some b)
    (hlane : s.laneAligned (laneOf (s.gch c).ant (s.gch c).sig) = false) (hover : s.elapsed b 20000000 = true) :
    laneLoss c s = gchLose c s := by
  simp [laneLoss, hact, hdown, hlane, hover]

theorem gchReacquire_again {c : Nat} {s : State} (hst : s.gchSt c = .lost) (hre : (s.gch c).reacq = true) (hon : s.gchOn c = true) :
    gchReacquire c s = setGchSt c .acqWait s := if_pos ⟨hst, hre, hon⟩

/-! ### Navigation records (R370) -/

theorem navUnit_fault {c : Nat} {x : NavUnit} {s : State} (hst : s.gchSt c = .track) (hcfg : s.rb Reg.NAV_CFG 0 = true)
    (hen : s.pgEn Reg.NAV = true) (herr : x.parErr = true) : navUnit c x s = fault .nav 0 0 s := by
  simp [navUnit, hst, hcfg, hen, herr]

/-- A unit that passes its checks is counted and recorded (R370, R372). -/
theorem navUnit_passes {c : Nat} {x : NavUnit} {s t u : State} (hst : s.gchSt c = .track) (hcfg : s.rb Reg.NAV_CFG 0 = true)
    (hen : s.pgEn Reg.NAV = true) (herr : x.parErr = false) (hinj : s.inject Reg.NAV 0 = false)
    (hchk : navCheck (s.gch c).sig (navPass (s.gch c).sig x) = 0) (ht : (navSync c 0 x.inverted s).count Reg.NAV_CNT_PASS = t)
    (hu : putNav (navBody t c x ++ bytesBE 4 (crc32c (navBody t c x)).toNat) t = u) :
    navUnit c x s = u.setGch c { u.gch c with stepNav := u.gns.stepNo } := by
  subst ht hu
  simp [navUnit, hst, hcfg, hen, herr, hinj, hchk]

/-! ### Economy and bursts (R376, R377) -/

/-- What the evaluation of economy does to one channel. -/
theorem economyAt_due {s : State} (hdue : s.gns.lastEco ≠ some (wholeSec s.now)) :
    economyAt s = forN 256 (fun c a =>
      let e := a.econ c
      let b := if a.rb (Reg.GCH_STAT c) 13 = e then a else a.setRb (Reg.GCH_STAT c) 13 e
      if b.gchSt c = .track ∧ e = true then burstEnter c b
      else if b.gchSt c = .burst ∧ e = false ∧ (b.gch c).burstSec = none then setGchSt c .pullin (b.setGch c (gchAt b c b.bt))
      else b) { s with gns := { s.gns with lastEco := some (wholeSec s.now) } } := by
  rw [economyAt, if_neg hdue]
  congr 1
  funext c a
  dsimp only
  generalize (if a.rb (Reg.GCH_STAT c) 13 = a.econ c then a else a.setRb (Reg.GCH_STAT c) 13 (a.econ c)) = b
  cases hst : b.gchSt c <;> cases he : a.econ c <;> cases hb : (b.gch c).burstSec <;> simp

theorem burstBegin_due {c sec : Nat} {s : State} {y : Gch} (hst : s.gchSt c = .burst) (hnone : (s.gch c).burstSec = none)
    (hsec : (s.now.toNat - s.rf Reg.GNS_BURST 0 10 * 1000000 * 65536) / (65536 * 1000000000) = sec)
    (hy : (gchAt s c s.bt).latch (s.reg (Reg.GCH_TRK c)) (s.reg (Reg.GCH_LOOP c)) (codeMs (s.gch c).sig) = y)
    (hlast : (s.gch c).lastBurst ≠ some sec) (hsince : after (s.servedAt (s.gch c).since) (s.burstTime sec 0) = false)
    (hover : after s.now (s.burstTime sec (s.rf Reg.GNS_BURST 16 5 * 20)) = false) :
    burstBegin c s = s.setGch c { y with burstSec := some sec, lastBurst := some sec, pred := some (s.bt, y.car) } := by
  subst hsec hy
  simp [burstBegin, hst, hnone, hlast, hsince, hover]

/-- Settles O26, event by event. -/
theorem gnssChannelsRun : Obligations.GnssChannelsRun := by
  refine ⟨fun m c v s h hon hstart hstop hearlier hsig htcoh hlane => ?_, fun m c v s h hon hstart hstop hearlier hsig => ?_,
    fun m c v s h hon hv => ?_, fun c s n h hsec hdue hon => ?_, fun c x s h hst hlane hinj => ?_,
    fun c x s h hst hlane hinj hsync hcode hsym => ?_, fun c s h hst hover => ?_, fun c s b h hact hdown hlane hover => ?_,
    fun c s h hst hre hon => ?_, fun c x s h hst hcfg hen herr => ?_, fun c x s h hst hcfg hen herr hinj hchk => ?_,
    fun s h hdue => ?_, fun c s h hst hnone hlast hsince hover => ?_, fun m c v s h hon => ⟨?_, ?_⟩⟩
  · exact show execChannelStart m c v s = _ from (cmdW_reaches h).trans (by
      rw [wrGchCmd_starts hon hstart hstop hearlier, gchStart_allowed hsig htcoh hlane])
  · exact show execChannelStart m c v s = _ from (cmdW_reaches h).trans (by
      rw [wrGchCmd_starts hon hstart hstop hearlier, gchStart_badSignal hsig, gchReject])
  · exact show execChannelStop m c v s = _ from (cmdW_reaches h).trans (by rw [wrGchCmd_stops hon hv])
  · exact show execAidedPullinStart c s = _ from (cmdT_acts h).trans (by rw [gchAided_due hsec hdue hon rfl])
  · exact show execChannelIntegration c x s = _ from (cmdT_acts h).trans (by rw [gchIntegrate_fault hst hlane hinj])
  · exact show execChannelIntegration c x s = _ from (cmdT_acts h).trans (by
      rw [gchIntegrate_tracks hst hlane hinj hsync rfl rfl rfl hcode hsym])
  · exact show execPullinTimeout c s = _ from (cmdT_acts h).trans (by rw [pullinExpire_over hst hover])
  · exact show execChannelLaneLoss c s = _ from (cmdT_acts h).trans (by rw [laneLoss_over hact hdown hlane hover])
  · exact show execChannelReacquire c s = _ from (cmdT_acts h).trans (by rw [gchReacquire_again hst hre hon])
  · exact show execNavRecord c x s = _ from (cmdT_acts h).trans (by rw [navUnit_fault hst hcfg hen herr])
  · exact show execNavRecord c x s = _ from (cmdT_acts h).trans (by rw [navUnit_passes hst hcfg hen herr hinj hchk rfl rfl])
  · exact show execEconomyEvaluate s = _ from (cmdT_acts h).trans (by rw [economyAt_due hdue])
  · exact show execBurstStart c s = _ from (cmdT_acts h).trans (by rw [burstBegin_due hst hnone rfl rfl hlast hsince hover])
  · exact show execChannelStart m c v s = _ from (cmdW_reaches h).trans (by rw [wrGchCmd_off hon])
  · exact show execChannelStop m c v s = _ from (cmdW_reaches h).trans (by rw [wrGchCmd_off hon])

end Sys2Proof.Machine
end

section

/-! # Proofs: GNSS time integrity (R365, R377, R395 to R418) -/

namespace Sys2Proof.Machine

/-! ### Solutions (R395, R396) -/

/-- A solution of enough quality for one of the entries 40 to 43. -/
theorem wrSolCtl_delivers {v : Word} {s t : State} {b : BT80} {x : WT96} (hlo : 40 ≤ fld v 0 6) (hhi : fld v 0 6 ≤ 43)
    (hst : fld v 8 8 ≤ 3) (hq : s.rf (Reg.REF_ENT_QTH (fld v 0 6)) 0 8 ≤ fld v 8 8)
    (ht : refMessage (fld v 0 6) (fld v 8 8) 0xFF none false s = t) (hb : BitVec.ofNat 80 (s.regN Reg.ANT_SOLB 3) = b)
    (hx : BitVec.ofNat 96 (s.regN Reg.ANT_SOLX 3) = x) :
    wrSolCtl v s = loopsTake (fld v 0 6) b (some x) 1 (refEdge (fld v 0 6) ((t.ent (fld v 0 6)).edges + 1) b t) := by
  have hok : ¬ (fld v 0 6 < 40 ∨ 43 < fld v 0 6 ∨ 3 < fld v 8 8) := by omega
  subst ht hb hx
  simp [wrSolCtl, hok, Nat.not_lt.mpr hq]

theorem wrSolCtl_rejects {v : Word} {s : State} (hlo : fld v 0 6 < 40) : wrSolCtl v s = s.count Reg.ANT_CNT_SOLREJ :=
  if_pos (Or.inl hlo)

/-! ### Epochs and bursts (R365, R377) -/

theorem measEpoch_due {s : State} {t : WT96} (hdue : s.epochDue = some t) :
    measEpoch s = epochCheck t (raiseEvt Reg.GNS 2 ((s.gns.chs.map (·.1)).foldl (fun a c =>
      if a.gchSt c = .pullin ∨ a.gchSt c = .track then
        measRecord c t (s.epochAt t) false (gather t (epRec a c (s.epochAt t)) a) else a)
      { s with gns := { s.gns with lastEpoch := some t } })) := by
  simp [measEpoch, hdue]

/-- The end of a burst whose channel is locked at its end. -/
theorem burstEnd_locked {c : Nat} {s u : State} {t : WT96} (hep : s.burstEpoch c = some t) (hst : s.gchSt c = .burst)
    (hnow : earlier s.now t = false) (hu : measRecord c t (s.epochAt t) true (gather t (epRec s c (s.epochAt t)) s) = u)
    (hlock : u.rb (Reg.GCH_STAT c) 8 = true) (hcn0 : fld (u.gch c).lp 20 8 * 256 ≤ u.rf (Reg.GCH_CN0 c) 0 16) :
    burstEnd c s = epochCheck t (u.setGch c { (gchAt u c u.bt).predictFrom u with burstSec := none, pred := none, missRow := 0 }) := by
  simp [burstEnd, hep, hst, hnow, hu, hlock, Nat.not_lt.mpr hcn0]

/-! ### The raw receiver pulse (R416 to R418) -/

theorem gppsArm_refused {t : BT80} {s : State} {r : Nat} (hrej : s.gppsRej t = some r) :
    gppsArm t s = raiseEvt Reg.ANT 4 (s.setRf Reg.ANT_PPS_STAT 4 3 r) := by
  simp [gppsArm, hrej]

theorem gppsEdge_leading {s : State} {a b : BT80} (hp : s.ant.pulse = some (a, b, false)) (hdue : atOrAfter s.bt a = true) :
    gppsEdge s = gppsDrive true { s with ant := { s.ant with pulse := some (a, b, true) } } := by
  simp [gppsEdge, hp, hdue]

theorem gppsEdge_trailing {s : State} {a b : BT80} (hp : s.ant.pulse = some (a, b, true)) (hdue : atOrAfter s.bt b = true) :
    gppsEdge s = gppsDrive false (State.setRb { s with ant := { s.ant with pulse := none } } Reg.ANT_PPS_STAT 0 false) := by
  simp [gppsEdge, hp, hdue]

/-- EN at 0 cancels a pulse that has not begun; the polarity is kept. -/
theorem wrGppsCfg_cancels {v : Word} {s t : State} {a b : BT80} (ht : plainWrite Reg.ANT_PPS_CFG v s = t)
    (hp : t.ant.pulse = some (a, b, false)) (hen : t.rb Reg.ANT_PPS_CFG 0 = false)
    (hpol : t.rb Reg.ANT_PPS_CFG 1 = s.rb Reg.ANT_PPS_CFG 1) :
    wrGppsCfg v s = State.setRb { t with ant := { t.ant with pulse := none } } Reg.ANT_PPS_STAT 0 false := by
  simp [wrGppsCfg, ht, hp, hpol, hen]

/-- Settles O27, event by event. -/
theorem gnssIntegrityActs : Obligations.GnssIntegrityActs := by
  refine ⟨fun m v s h hlo hhi hst hq => ?_, fun m v s h hlo => ?_, fun s t h hdue => ?_, fun c s t h hep hst hnow hlock hcn0 => ?_,
    fun l s h => ?_, fun m v s h => ⟨?_, fun r hrej => ?_⟩, fun s a b h hp hdue => ?_, fun s a b h hp hdue => ?_,
    fun m v s a b h hp hen hpol => ?_, fun s h => ?_⟩
  · exact show execSolutionDelivery m v s = _ from (cmdW_reaches h).trans (by rw [wrSolCtl_delivers hlo hhi hst hq rfl rfl rfl])
  · exact show execSolutionDelivery m v s = _ from (cmdW_reaches h).trans (by rw [wrSolCtl_rejects hlo])
  · exact show execMeasurementEpoch s = _ from (cmdT_acts h).trans (by rw [measEpoch_due hdue])
  · exact show execBurstEnd c s = _ from (cmdT_acts h).trans (by rw [burstEnd_locked hep hst hnow rfl hlock hcn0])
  · exact show execJamEvaluate l s = _ from (cmdT_acts h).trans (by rw [jamEvaluate])
  · exact show execGnssPpsArm m v s = _ from (cmdW_reaches h).trans (by rw [wrPpsBtHi])
  · exact show execGnssPpsArm m v s = _ from (cmdW_reaches h).trans (by rw [wrPpsBtHi, gppsArm_refused hrej])
  · exact show execGnssPpsEdge s = _ from (cmdT_acts h).trans (by rw [gppsEdge_leading hp hdue])
  · exact show execGnssPpsEdge s = _ from (cmdT_acts h).trans (by rw [gppsEdge_trailing hp hdue])
  · exact show execGnssPpsCfgWrite m v s = _ from (cmdW_reaches h).trans (by rw [wrGppsCfg_cancels rfl hp hen hpol])
  · exact show execAntCfgPar s = _ from cmdE_live h

end Sys2Proof.Machine
end

section

/-! # Proofs: time-interval measurement (R430 to R447) -/

namespace Sys2Proof.Machine

/-- A loop whose body changes nothing at the indices it takes. -/
theorem forN_unchanged {σ : Type} {n : Nat} {f : Nat → σ → σ} {s : σ} (h : ∀ i < n, f i s = s) : forN n f s = s := by
  unfold forN forEach
  suffices ∀ l : List Nat, (∀ i ∈ l, i < n) → l.foldl (fun a i => f i a) s = s from
    this _ (fun i hi => List.mem_range.mp hi)
  intro l hl
  induction l with
  | nil => rfl
  | cons i l ih =>
    rw [List.foldl_cons, h i (hl i List.mem_cons_self)]
    exact ih fun j hj => hl j (List.mem_cons_of_mem i hj)

theorem tdcCh_setTdcCh (s : State) (c : Nat) (x : TdcCh) : (s.setTdcCh c x).tdcCh c = x := by
  simp [State.tdcCh, State.setTdcCh]

/-! ### Captures (R431 to R434, R439) -/

/-- The edge due of a channel in CONTINUOUS mode that feeds no entry, far enough from the one before: it is captured. -/
theorem tdcCount_captures {c n raw : Nat} {s u : State} {k : Word} (hk : (s.tdcCh c).cnt + 1 = k) (hen : (s.tdcCh c).enAt < n)
    (hes : s.tdcEntries c = []) (hdue : k = (s.tdcCh c).due) (hu : s.setTdcCh c { s.tdcCh c with cnt := k } = u)
    (hmode : u.tdcMode c = 0) (hflt : u.fltBit Reg.TDC 1 = false) (hdead : pastDead (u.tdcCh c).lastCap (u.tdcTime c n raw) = true)
    (hsame : (u.tdcCh c).due = (s.tdcCh c).due) :
    tdcCount c n raw s = tdcStore c (u.tdcTime c n raw) (u.setTdcCh c
      { u.tdcCh c with due := k + BitVec.ofNat 32 (u.tdcDec c), lastCap := some (u.tdcTime c n raw) }) := by
  have hwindow : u.tdcWindow c n = true := by simp [State.tdcWindow, hmode]
  have harm : ¬ 2 ≤ u.tdcMode c := by rw [hmode]; decide
  have hk' : (u.tdcCh c).due = k := hsame.trans hdue.symm
  simp only [tdcCount, hk, hes, hu, Nat.not_le.mpr hen, if_false, hk', ne_eq, not_true_eq_false, hwindow, hflt, hdead, harm,
    List.foldl_nil, Bool.true_eq_false, Bool.false_eq_true, or_self, if_true]

theorem tdcRegain_nothingLost {c : Nat} {s : State} (h : (s.tdcCh c).lost = none) : tdcRegain c s = s := by
  simp [tdcRegain, h]

theorem tdcRegain_freed {c : Nat} {s : State} {r : TdcResult} {o : Bool} (hlost : (s.tdcCh c).lost = some (s.bt, r, o))
    (hroom : (s.tdcCh c).fifo.length < 16) :
    tdcRegain c s = raiseEvt Reg.TDC 0 (uncount Reg.TDC_CNT_OVF (s.setTdcCh c
      { s.tdcCh c with fifo := (s.tdcCh c).fifo ++ [r], ovf := false, dead := false, lost := none })) := by
  simp [tdcRegain, hlost, Nat.not_le.mpr hroom]

/-! ### Results (R438) -/

theorem rdTdcRes_empty {m : Master} {c : Nat} {s : State} (h : (s.tdcCh c).fifo = []) :
    (rdTdcRes m c s).1 = 0 ∧ (rdTdcRes m c s).2.tdc = s.tdc := by
  simp [rdTdcRes, h, bits]

theorem rdTdcRes_oldest {m : Master} {c : Nat} {s : State} {r : TdcResult} {l : List TdcResult} (hfifo : (s.tdcCh c).fifo = r :: l)
    (hgood : r.bad = false) (hlost : (s.tdcCh c).lost = none) :
    rdTdcRes m c s = (bits r.bt 0 32, ((((s.setTdcCh c { s.tdcCh c with fifo := l }).setShadow m
      (Reg.TDC_CH_RES_MID c) (bits r.bt 32 32)).setShadow m (Reg.TDC_CH_RES_HI c) (BitVec.ofNat 32 (fld r.bt 64 16))).setShadow m
        (Reg.TDC_CH_RES_CNT c) r.cnt).setShadow m (Reg.TDC_CH_RES_FLG c) r.flg) := by
  have hregain : tdcRegain c (s.setTdcCh c { s.tdcCh c with fifo := l }) = s.setTdcCh c { s.tdcCh c with fifo := l } :=
    tdcRegain_nothingLost (by rw [tdcCh_setTdcCh]; exact hlost)
  simp only [rdTdcRes, hfifo, hregain, hgood, Bool.false_eq_true, if_false]

/-! ### Gates, configuration and the linearity test (R442 to R447) -/

/-- A gate whose level stays inactive: only its pin is kept. -/
theorem gateEdge_inactive {g : Nat} {s : State} (hlvl : (AMap.get { } s.tdc.gates g : GatePin).lvl = false)
    (hpol : s.rb Reg.TDC_GATE_CFG g = true) :
    gateEdge g true s =
      (let p : GatePin := { AMap.get { } s.tdc.gates g with pin := true }
       { s with tdc := { s.tdc with gates := AMap.set { } s.tdc.gates g p } }) := by
  rw [gateEdge, gateSample, hpol]
  exact if_pos (by simp only [AMap.get_set, if_true, hlvl, bne_self_eq_false])

/-- A gate that becomes active while no channel is in TRIGGER mode. -/
theorem gateEdge_active {g : Nat} {s : State} (hlvl : (AMap.get { } s.tdc.gates g : GatePin).lvl = false)
    (hpol : s.rb Reg.TDC_GATE_CFG g = false) (hmode : ∀ c < 32, s.tdcMode c ≠ 2) :
    (AMap.get { } (gateEdge g true s).tdc.gates g : GatePin) = { pin := true, lvl := true, prev := false, at_ := s.bt } := by
  rw [gateEdge, gateSample, if_neg (by simp only [AMap.get_set, if_true, hlvl, hpol]; decide)]
  simp only [hpol, Bool.bne_false, Bool.true_eq_false, if_false]
  rw [forN_unchanged fun c hc => by
    have hne : ∀ x : Tdc, ({ s with tdc := x } : State).tdcMode c ≠ 2 := fun _ => hmode c hc
    simp [hne]]
  simp only [AMap.get_set, if_true, hlvl]

/-- An enabled channel keeps all fields but EN and the storing of results. -/
theorem wrChCfg_enabled {c : Nat} {v w : Word} {s : State} (htaken : s.tdcTaken c = false) (hcal : s.tdc.calCh = none)
    (hen : bit (s.reg (Reg.TDC_CH_CFG c)) 0 = true)
    (hw : (s.reg (Reg.TDC_CH_CFG c) &&& 0x3FFFFF3E#32) ||| (v &&& 0x41#32) = w) (hsrc : srcOk (fld w 24 6) = true) :
    wrChCfg c v s = plainWrite (Reg.TDC_CH_CFG c) w s := by
  simp [wrChCfg, htaken, hcal, hen, hw, hsrc]

theorem wrCalCmd_starts {v : Word} {s : State} (hv : bit v 8 = true) (hen : s.pgEn Reg.TDC = true)
    (hfree : s.tdcEn (fld v 0 5) = false) (hidle : s.tdc.calCh = none) :
    wrCalCmd v s = State.setRf { s with tdc := { s.tdc with calCh := some (fld v 0 5) } } Reg.TDC_GSTAT 1 3 1 := by
  simp [wrCalCmd, hv, hen, hfree, hidle]

theorem calEnd_running {l : List Byte} {s : State} {c : Nat} (h : s.tdc.calCh = some c) :
    calEnd l s = raiseEvt Reg.TDC 3 (forN 4 (fun i a => a.setReg (Reg.TDC_CAL_RES i) (BitVec.ofNat 32 (leAt l (4 * i) 4)))
      (State.setRb { s with tdc := { s.tdc with calCh := none } } Reg.TDC_GSTAT 1 false)) := by
  simp [calEnd, h]

theorem ocxoRdy_falls {s : State} (hwarm : s.warm = true) :
    ocxoRdy false s = asyWithdraw (raiseEvt Reg.TDC 4 (s.setRb Reg.TDC_GSTAT 0 false)) := by
  simp [ocxoRdy, hwarm]

/-- Settles O28, event by event. -/
theorem tdcMeasures : Obligations.TdcMeasures := by
  refine ⟨fun src rise n raw s h => ?_, fun c n raw s hen hes hdue _ _ hmode hflt hdead hsame => ?_, fun m c s h hfifo => ?_,
    fun m c s r l h hfifo hgood hlost => ?_, fun m v s h => ?_, fun g s h hlvl hpol => ?_, fun m c v s h htaken hcal hen hsrc => ?_,
    fun m v s h hv hen hfree hidle => ?_, fun l s c h hcal => ?_, fun s halive hwarm => ?_, fun g s h hlvl hpol hmode => ?_,
    fun c s r o hlost hroom => ?_⟩
  · exact show execTdcEdge src rise n raw s = _ from cmdE_live h
  · exact tdcCount_captures rfl hen hes hdue rfl hmode hflt hdead hsame
  · obtain ⟨hval, htdc⟩ := rdTdcRes_empty (m := m) hfifo
    exact ⟨_, show execTdcResultRead m c s = _ from (cmdRd_reaches h).trans (by rw [hval]), htdc⟩
  · exact show execTdcResultRead m c s = _ from (cmdRd_reaches h).trans (by rw [rdTdcRes_oldest hfifo hgood hlost])
  · exact show execTdcArm m v s = _ from (cmdW_reaches h).trans (by rw [wrTdcArm])
  · exact show execTdcGateEdge g true s = _ from (cmdE_live h).trans (by rw [gateEdge_inactive hlvl hpol])
  · exact show execTdcChannelCfgWrite m c v s = _ from (cmdW_reaches h).trans (by rw [wrChCfg_enabled htaken hcal hen rfl hsrc])
  · exact show execTdcCalStart m v s = _ from (cmdW_reaches h).trans (by rw [wrCalCmd_starts hv hen hfree hidle])
  · exact show execCalDone l s = _ from (cmdT_acts h).trans (by rw [calEnd_running hcal])
  · refine show execOcxoRdyChange false s = _ from ?_
    rw [execOcxoRdyChange, if_pos halive, ocxoRdy_falls hwarm, became]
  · exact ⟨_, show execTdcGateEdge g true s = _ from cmdE_live h, gateEdge_active hlvl hpol hmode⟩
  · exact tdcRegain_freed hlost hroom

end Sys2Proof.Machine
end

section

/-! # Proofs: the links, modes and frames of a port (R454 to R495) -/

namespace Sys2Proof.Machine

/-! ### A port's two sides -/

theorem prtPage_port {p : Nat} (h : p < 16) : prtPage p = Reg.PRT p := by
  rw [prtPage, if_neg (by omega)]

/-- A command on the receive side of a port that runs. -/
theorem cmdRx_on {p : Nat} {f : State → State} {s : State} (hrx : s.rxAlive p = true) (hon : s.portOn p = true) :
    cmdRx p f s = .next (became s (f s)) := by
  have halive : s.alive = true := (Bool.and_eq_true_iff.mp hrx).1
  rw [cmdRx, cmdA_alive halive]
  simp only [hrx, hon, Bool.and_self, if_true]

/-- A command by which a port that runs acts on its transmit side. -/
theorem cmdTx_on {p : Nat} {f : State → State} {s : State} (h : Acts (prtPage p) s) (hon : s.portOn p = true) :
    cmdTx p f s = .next (became s (f s)) := by
  rw [cmdTx, cmdT_acts h]
  simp only [hon, if_true]

theorem cmdTx_port {p : Fin 16} {f : State → State} {s : State} (h : Acts (Reg.PRT p) s) (hon : s.portOn p = true) :
    cmdTx p f s = .next (became s (f s)) := cmdTx_on (by rwa [prtPage_port p.isLt]) hon

/-! ### The link and the modes (R454 to R473) -/

theorem wrGmode_disabled {g : Nat} {v : Word} {s : State} (hoff : ∀ i, i < 4 → s.pgEn (Reg.PRT (4 * g + i)) = false)
    (hv : fld v 0 2 ≠ 3) :
    wrGmode g v s = forN 4 (fun i b => entEval (16 + 4 * g + i) b) (showTxClk g (plainWrite (Reg.PRT_GMODE (4 * g)) v s)) := by
  have hany : ((List.range 4).any fun i => s.pgEn (Reg.PRT (4 * g + i))) = false :=
    List.any_eq_false.mpr fun i hi => by simp [hoff i (List.mem_range.mp hi)]
  simp [wrGmode, hany, hv]

theorem linkGood_up {p : Nat} {s : State} (hp : p < 16) (hflt : s.fltBit (Reg.PRT p) 1 = false) (hclk : s.rb (Reg.PRT_LINK p) 4 = true) :
    linkGood p s = entEval (16 + p) (setLink p true ((s.setRf (Reg.PRT_LINK p) 0 3 7).setRb (Reg.PRT_LINK p) 6 false)) := by
  rw [linkGood, if_neg (by omega)]
  simp only [hflt, hclk, and_self, if_true]

theorem linkChange_unlocked {p : Nat} {al fec lf : Bool} {s : State} (hp : p < 16) :
    linkChange p false al fec lf s = entEval (16 + p) (setLink p false
      ((((s.setRb (Reg.PRT_LINK p) 0 false).setRb (Reg.PRT_LINK p) 1 (al || decide (s.gmode (p / 4) ≠ 2))).setRb (Reg.PRT_LINK p) 2
        (fec || decide (s.rf (Reg.PRT_CFG p) 0 2 ≠ 2))).setRb (Reg.PRT_LINK p) 6 lf)) := by
  rw [linkChange, if_neg (by omega)]
  simp only [Bool.false_and, Bool.false_eq_true, if_false]

/-- A port leaves NORMAL once both of its paths have the new mode. -/
theorem modeChange_leavesNormal {p new : Nat} {s : State} (hrx : (s.prtS p).rxMode = new) (htx : (s.prtS p).txMode = new)
    (hnew : s.rf (Reg.PRT_MODE p) 0 2 = new) (hold : s.modeAct p = 0) (hne : new ≠ 0) :
    modeChange p s = pauseEval p (missWhere (p / 4) .mode (fun y => decide (y.port = p))
      (entEval (16 + p) (s.setRf (Reg.PRT_LINK p) 12 2 new))) := by
  rw [modeChange, if_neg (by simp [hrx, htx, hnew, hold, hne.symm])]
  simp only [hnew, hold, hne, if_false, if_true]

/-- Settles O29, event by event. -/
theorem portLinksFollow : Obligations.PortLinksFollow := by
  refine ⟨fun m g v s h hoff hv => ?_, fun p s hrx hon hp hflt hclk => ?_, fun p al fec lf s hrx hon hp => ?_,
    fun p on s hrx hon hp => ?_, fun m p v s h => ?_, fun p s h hrx htx hold hne => ?_, fun g s halive hrun => ?_,
    fun g s halive hrun => ?_⟩
  · exact show execGroupModeWrite m g v s = _ from (cmdW_reaches h).trans (by rw [wrGmode_disabled hoff hv])
  · exact show execLinkUp p s = _ from (cmdRx_on hrx hon).trans (by rw [linkGood_up hp hflt hclk])
  · exact show execLinkDown p false al fec lf s = _ from (cmdRx_on hrx hon).trans (by rw [linkChange_unlocked hp])
  · exact show execRemoteFault p on s = _ from (cmdRx_on hrx hon).trans (by rw [if_neg (by omega)])
  · exact show execModeWrite m p v s = _ from (cmdW_reaches h).trans (by rw [wrPrtMode])
  · exact show execModeActChange p s = _ from (cmdT_acts h).trans (by rw [modeChange_leavesNormal hrx htx rfl hold hne])
  · exact show execTxClockStop g s = _ from (cmdA_alive halive).trans (by simp only [hrun, Bool.false_eq_true, if_false])
  · exact show execTxClockStart g s = _ from (cmdA_alive halive).trans (by simp only [hrun, if_true])

/-! ### Frames that arrive (R463, R466, R479) -/

theorem receive_looped {p : Nat} {x : RxFrame} {s : State} (hloop : s.looped p = true) : receive p x s = s := if_pos hloop

/-- Without a loopback a frame on the line reaches the receive path. -/
theorem receive_hears {p : Nat} {x : RxFrame} {s : State} (hloop : s.looped p = false) (hback : s.lpbk p ≠ 3) :
    receive p x s = hear p x s := by
  simp [receive, hloop, hback]

theorem hear_dead {p : Nat} {x : RxFrame} {s : State} (hrx : s.rxAlive p = false) : hear p x s = s := by
  simp [hear, hrx]

theorem hear_on {p : Nat} {x : RxFrame} {s u : State} (hrx : s.rxAlive p = true) (hon : s.portOn p = true) (hp : p < 16)
    (hu : pcsCount p x s = u) :
    (u.linkUp p = true → hear p x s = rxFrame p x u) ∧ (u.linkUp p = false → hear p x s = u) := by
  simp +contextual [hear, hrx, hon, hp, hu]

/-- A frame of less than four bytes is a fragment: it is short and has no FCS. -/
theorem rxFrame_fragment {p : Nat} {x : RxFrame} {s : State} (hlen : x.data.length < 4) : rxFrame p x s = stat p 7 1 s := by
  have hshort : x.data.length < 64 := by omega
  simp [rxFrame, hshort, Nat.not_le.mpr hlen]

/-- A frame that is whole and finds room is counted and goes on. -/
theorem rxFrame_whole {p : Nat} {x : RxFrame} {s : State} (hmin : 64 ≤ x.data.length) (hmax : x.data.length ≤ s.maxLen p)
    (hq : s.quiescent = false) (herr : x.err = false) (hecc : x.ecc = false) (hinj : s.inject (prtPage p) 0 = false)
    (hroom : x.occ.toNat + cdiv x.data.length 256 ≤ s.bufCells p)
    (hfcs : bytesLE 4 (crc32 (x.data.take (x.data.length - 4))).toNat = x.data.drop (x.data.length - 4)) :
    rxFrame p x s = setOcc p x.left.toNat (goodFrame p x.data x.blk.toNat
      (countGood p x.data (setOcc p (x.occ.toNat + cdiv x.data.length 256) s))) := by
  have h4 : 4 ≤ x.data.length := by omega
  simp only [rxFrame, Nat.not_lt.mpr hmin, Nat.not_lt.mpr hmax, Nat.not_lt.mpr hroom, hq, herr, hecc, hinj, hfcs, h4, decide_true,
    Bool.and_self, Bool.not_true, Bool.or_self, Bool.false_and, Bool.false_eq_true, if_false, Bool.not_false, decide_false, Bool.and_false]

theorem gotPause_loads {p q : Nat} {s : State} (hp : p < 16) (hmode : s.modeAct p ≠ 0) (hq : q ≠ 0) :
    gotPause p q s = (s.setPrt p { s.prtS p with pauseTo := some (s.bt + s.quanta p q) }).setRb (Reg.PRT_LINK p) 7 true := by
  rw [gotPause, if_neg (by simp [hmode]; omega)]
  simp only [hq, if_false, decide_not, decide_false, Bool.not_false, ne_eq]

/-! ### What a port sends (R476, R477, R483, R495) -/

theorem pauseExpire_over {p : Nat} {s : State} {b : BT80} (hto : (s.prtS p).pauseTo = some b) (hover : earlier s.bt b = false) :
    pauseExpire p s = (s.setPrt p { s.prtS p with pauseTo := none }).setRb (Reg.PRT_LINK p) 7 false := by
  simp [pauseExpire, hto, hover]

theorem pauseRefresh_due {p : Nat} {s : State} (hset : s.rb (Reg.PRT_LINK p) 8 = true)
    (hdue : atOrAfter s.bt ((s.prtS p).pauseAt + s.quanta p (s.rf (Reg.PRT_FC_CFG p) 0 16 / 2)) = true) :
    pauseRefresh p s = requestPause p true s := if_pos ⟨hset, hdue⟩

theorem pauseTx_sends {p : Nat} {s t : State} {r : Bool} (hreq : (s.prtS p).pauseReq = some r) (hcan : s.canSend p = true)
    (hfit : s.fitsGap p 64 = true) (hlast : (s.prtS p).lastPause ≠ some (s.pauseValue p))
    (ht : startTx p { kind := .pause (s.pauseValue p), data := pauseFrame (s.prtMac p) (s.pauseValue p), ts := none, free := none } s = t) :
    pauseTx p s = t.setPrt p { t.prtS p with pauseReq := none, lastPause := some (s.pauseValue p), pauseAt := t.bt } := by
  simp [pauseTx, hreq, hcan, hfit, hlast, ht]

theorem sendDone_sent {p blk : Nat} {s : State} {f : TxFrame} (htx : (s.prtS p).tx = some f) (hloop : s.looped p = false) :
    sendDone p blk s = txDone p blk s := by
  simp [sendDone, htx, hloop]

theorem sendDone_idle {p blk : Nat} {s : State} (htx : (s.prtS p).tx = none) : sendDone p blk s = s := by
  simp [sendDone, htx]

theorem esmcInfo_due {p : Nat} {s : State} (hready : s.esmcReady p = true) (hdue : s.infoDue p = true) :
    esmcInfo p s = sendEsmc p false (s.setPrt p { s.prtS p with
      infoSec := some (wholeSec s.now), codes := some ((s.prtS p).codes.getD (s.esmcCodes p)) }) := by
  simp [esmcInfo, hready, hdue]

theorem esmcEvent_changed {p : Nat} {s : State} (hready : s.esmcReady p = true) (hcodes : (s.prtS p).codes.isSome = true)
    (hne : (s.prtS p).codes ≠ some (s.esmcCodes p)) :
    esmcEvent p s = sendEsmc p true (s.setPrt p { s.prtS p with codes := some (s.esmcCodes p) }) := if_pos ⟨hready, hcodes, hne⟩

/-- Settles O30, event by event. -/
theorem portFramesPass : Obligations.PortFramesPass := by
  refine ⟨fun p f s halive hloop hback hrx => ?_, fun p f s hrx hon hp hloop hback hup hlen => ?_,
    fun p f s hrx hon hp hloop hback hup hmin hmax hq herr hecc hinj hroom hfcs => ?_, fun p q s halive => ?_,
    fun p q s hp hmode hq => gotPause_loads hp hmode hq, fun p s b h hon hto hover => ?_, fun p s h hon hset hdue => ?_,
    fun p s r h hon hreq hcan hfit hlast => ?_, fun p b s f h hon htx hloop => ?_, fun p d s halive => ?_,
    fun p s h hon hready hdue => ?_, fun p s h hon hready hcodes hne => ?_, fun p f s halive hloop => ?_,
    fun p f s hrx hon hp hloop hback hdown => ?_, fun p b s h hon htx => ?_⟩
  · exact show execFrameReceive p f s = _ from (cmdA_alive halive).trans (by rw [receive_hears hloop hback, hear_dead hrx])
  · have halive : s.alive = true := (Bool.and_eq_true_iff.mp hrx).1
    refine show execFrameReceive p f s = _ from (cmdA_alive halive).trans ?_
    rw [receive_hears hloop hback, (hear_on hrx hon hp rfl).1 hup, rxFrame_fragment hlen]
  · have halive : s.alive = true := (Bool.and_eq_true_iff.mp hrx).1
    refine show execFrameReceive p f s = _ from (cmdA_alive halive).trans ?_
    rw [receive_hears hloop hback, (hear_on hrx hon hp rfl).1 hup, rxFrame_whole hmin hmax hq herr hecc hinj hroom hfcs]
  · exact show execPauseReceive p q s = _ from cmdA_alive halive
  · exact show execPartnerPauseExpire p s = _ from (cmdTx_port h hon).trans (by rw [pauseExpire_over hto hover])
  · exact show execPauseRefresh p s = _ from (cmdTx_port h hon).trans (by rw [pauseRefresh_due hset hdue])
  · exact show execPauseTransmit p s = _ from (cmdTx_port h hon).trans (by rw [pauseTx_sends hreq hcan hfit hlast rfl])
  · exact show execFrameTransmit p b s = _ from (cmdTx_on h hon).trans (by rw [sendDone_sent htx hloop])
  · exact show execEsmcReceive p d s = _ from cmdA_alive halive
  · exact show execEsmcInfoTransmit p s = _ from (cmdTx_port h hon).trans (by rw [esmcInfo_due hready hdue])
  · exact show execEsmcEventTransmit p s = _ from (cmdTx_port h hon).trans (by rw [esmcEvent_changed hready hcodes hne])
  · exact show execFrameReceive p f s = _ from (cmdA_alive halive).trans (by rw [receive_looped hloop])
  · have halive : s.alive = true := (Bool.and_eq_true_iff.mp hrx).1
    refine show execFrameReceive p f s = _ from (cmdA_alive halive).trans ?_
    rw [receive_hears hloop hback, (hear_on hrx hon hp rfl).2 hdown]
  · exact show execFrameTransmit p b s = _ from (cmdTx_on h hon).trans (by rw [sendDone_idle htx])

end Sys2Proof.Machine
end

section

/-! # Proofs: the timestamp units (R510 to R545) -/

namespace Sys2Proof.Machine

/-! ### Models (R510, R511, R545) -/

theorem boundaryVisit_receive {l k per : Nat} {b : BT80} {s : State} (hlive : s.pageLive Reg.TDC = true)
    (hen : s.pgEn Reg.TDC = true) (hscan : s.rb Reg.TDC_GCFG 0 = true) :
    boundaryVisit l true k b per s =
      showPhases (l / 4) (s.setLane l 1 { valid := true, k0 := k, p0 := b, per := per, visit := s.bt }) := by
  simp [boundaryVisit, hlive, hen, hscan, b2n]

theorem laneExpire_over {l : Nat} {rx : Bool} {s : State} (h : s.elapsed (s.lane l (b2n rx)).visit 10000 = true) :
    laneExpire l rx s = loseLane l (b2n rx) s := if_pos h

theorem phaseLostAt_over {p : Nat} {s : State} {b : BT80} (hb : AMap.get none s.tsu.lostAt p = some b)
    (hover : s.elapsedMore b 100000 = true) (hen : s.pgEn (Reg.PRT p) = true) (hmodel : s.modelOk p 0 = false) :
    phaseLostAt p s = fault .tsu (p / 4) 1 s := by
  simp [phaseLostAt, hb, hover, hen, hmodel]

/-! ### Reservations (R518, R519, R530) -/

/-- The last word of a request issues it, and its grant is shown. -/
theorem wrReserve_shows {m : Master} {g w : Nat} {v : Word} {s t : State} {r : RsvReq}
    (hw : s.commitWords m (Reg.TSU_RQ_W g 0) 6 v = w)
    (ht : (s.setRegN (Reg.TSU_RQ_W g 0) w 6).dropStaged m (Reg.TSU_RQ_W g 0) 6 = t)
    (hr : RsvReq.ofWords (BitVec.ofNat 32 w) (BitVec.ofNat 32 (w >>> 32)) (BitVec.ofNat 32 (w >>> 64)) (BitVec.ofNat 96 (w >>> 96)) = r) :
    wrReserve m g v s = (List.range 7).foldl (fun a i =>
      a.setReg (Reg.TSU_GR_W g i) ((reserve r (some g) t).1.words.getD i 0)) (reserve r (some g) t).2 := by
  rw [wrReserve, hw, ht, hr]

theorem reserve_granted {r : RsvReq} {s : State} {k : Nat} (hok : refuseReq s r none = none) (hk : s.pickBoundary r = some k) :
    reserve r none s = grantAt r k s := by
  unfold reserve
  generalize s.pickBoundary r = o at hk ⊢
  generalize refuseReq s r none = q at hok ⊢
  subst hk hok
  rfl

theorem reserve_refused {r : RsvReq} {s : State} {st : GrantStatus} (h : refuseReq s r none = some st) :
    reserve r none s = ({ status := st, handle := 0, tx := 0, wt := 0 }, s.count (Reg.TSU_CNT_REFUSE (r.port / 4))) := by
  simp only [reserve, h, refuse, Option.getD_none]

/-- A cancellation of a reservation that has its frame. -/
theorem cancelSlot_submitted {g h : Nat} {s : State} {x : TsuSlot} (hx : s.slot g h = some x) (hdead : s.pastDeadline g x = false)
    (hsub : x.sub.isSome = true) : cancelSlot g h s = endSlot g h x .cancelled 0 s := by
  simp [cancelSlot, hx, hdead, hsub]

theorem cancelSlot_late {g h : Nat} {s : State} {x : TsuSlot} (hx : s.slot g h = some x) (hdead : s.pastDeadline g x = true) :
    cancelSlot g h s = s := by
  simp [cancelSlot, hx, hdead]

/-! ### Submissions (R527, R528) -/

theorem submit_joins {p : Nat} {d : List Byte} {s : State} {x : TsuSlot} (hx : s.slot (p / 4) (leAt d 16 2 % 2048) = some x)
    (hport : x.port = p) (hsub : x.sub = none) (hdead : s.pastDeadline (p / 4) x = false) (hlen : wireLen (descLen d) ≤ x.len)
    (hmem : s.memBad (descBuf d) (descLen d) = false) :
    submit p d s = s.setSlot (p / 4) (leAt d 16 2 % 2048) (some { x with sub := some (submitted d s) }) := by
  simp [submit, hx, hport, hsub, hdead, Nat.not_lt.mpr hlen, hmem]

theorem submit_unreserved {p : Nat} {d : List Byte} {s : State} (hx : s.slot (p / 4) (leAt d 16 2 % 2048) = none)
    (hcan : s.thisCyc.cancelled = []) : submit p d s = badSubmission (p / 4) d s := by
  simp [submit, hx, hcan]

theorem class6_passes {p i : Nat} {d : List Byte} {s t : State} (ht : cleanHead p 6 (s.clsDepth p 6) s = t)
    (hhead : t.headOf p 6 = some (i, d)) : class6 p s = submit p d (takeHead p 6 i t) := by
  simp [class6, ht, hhead]

/-! ### Deadlines and launches (R527 to R538) -/

theorem slotEcc_good {g : Nat} {x : TsuSlot} {s : State} (h : x.bad = false) : slotEcc g x s = s := by
  simp [slotEcc, h]

theorem slotDeadline_missed {g h : Nat} {s : State} {x : TsuSlot} (hx : s.slot g h = some x) (hbegun : x.begun = false)
    (hdead : s.pastDeadline g x = true) (hbad : x.bad = false) (hsub : x.sub = none) :
    slotDeadline g h s = missSlot g h .notReady s := by
  simp [slotDeadline, hx, hbegun, hdead, slotEcc_good hbad, hsub]

/-- The start block of a slot comes: it launches, or is missed with the cause found. -/
theorem launch_due {g h : Nat} {s : State} {x : TsuSlot} (hx : s.slot g h = some x) (hbegun : x.begun = false)
    (hdue : earlier s.bt ((s.txAt x.port (x.k - 1) >>> 16) <<< 16) = false) (hbad : x.bad = false) :
    (s.launchCause g x = none → launch g h s = s.setSlot g h (some { x with begun := true })) ∧
    (∀ c, s.launchCause g x = some c → launch g h s = missSlot g h c s) := by
  refine ⟨fun hc => ?_, fun c hc => ?_⟩
  · simp only [launch, hx, hbegun, hdue, Bool.or_self, Bool.false_eq_true, if_false, slotEcc_good hbad, hc]
  · simp only [launch, hx, hbegun, hdue, Bool.or_self, Bool.false_eq_true, if_false, slotEcc_good hbad, hc]

/-- The last block of a launched frame whose sending nobody stamps. -/
theorem launched_over {g h : Nat} {s : State} {x : TsuSlot} {u : Submission} (hx : s.slot g h = some x) (hsub : x.sub = some u)
    (hbegun : x.begun = true) (hts : u.ts = none)
    (hdue : earlier s.bt ((s.txAt x.port (x.k + cdiv ((withFcs u.data).length + 1) 8) >>> 16) <<< 16) = false) :
    launched g h s = pathFree x.port (endSlot g h x .sent 0
      ((stat x.port 21 1 (stat x.port 20 (withFcs u.data).length (s.emit (.frame x.port (withFcs u.data))))).count
        (Reg.TSU_CNT_SENT g))) := by
  simp only [launched, hx, hsub, hbegun, hts, hdue, Bool.not_true, Bool.or_self, Bool.false_eq_true, if_false]

/-- Settles O31, event by event. -/
theorem timestampUnitsAct : Obligations.TimestampUnitsAct := by
  refine ⟨fun l k b per s h hlive hscan hen => ?_, fun l rx s h hover => ?_, fun m g v s h => ?_,
    fun r s k hok hk => reserve_granted hok hk, fun r s st hr => reserve_refused hr, fun m g v s x h hx hdead hsub => ?_,
    fun p d s x hp h hx hport hsub hdead hlen hmem => ?_, fun p d s hp h hx hcan => ?_, fun g k s x h hx hbegun hdead hbad hsub => ?_,
    fun g k s x h hx hbegun hdue hbad hc => ?_, fun g k s x c h hx hbegun hdue hbad hc => ?_,
    fun g k s x u h hx hsub hbegun hts hdue => ?_, fun g t s h => ?_, fun p s b h hb hover hen hmodel => ?_,
    fun p s i d h hhead => ?_, fun m g v s x h hx hdead => ?_⟩
  · exact show execBoundaryVisit l true k b per s = _ from (cmdE_live h).trans (by rw [boundaryVisit_receive hlive hen hscan])
  · exact show execLaneModelExpire l rx s = _ from (cmdE_live h).trans (by rw [laneExpire_over hover])
  · exact show execTsuReserve m g v s = _ from (cmdW_reaches h).trans (by rw [wrReserve_shows rfl rfl rfl])
  · exact show execReservationCancel m g v s = _ from (cmdW_reaches h).trans (by rw [wrCancel, cancelSlot_submitted hx hdead hsub])
  · refine show execTsuSubmission p d s = _ from ?_
    rw [execTsuSubmission, if_neg (by omega), cmdE_live h, submit_joins hx hport hsub hdead hlen hmem]
  · refine show execTsuSubmission p d s = _ from ?_
    rw [execTsuSubmission, if_neg (by omega), cmdE_live h, submit_unreserved hx hcan]
  · exact show execSubmitDeadline g k s = _ from (cmdE_live h).trans (by rw [slotDeadline_missed hx hbegun hdead hbad hsub])
  · exact show execTsuLaunch g k s = _ from (cmdE_live h).trans (by rw [(launch_due hx hbegun hdue hbad).1 hc])
  · exact show execTsuLaunch g k s = _ from (cmdE_live h).trans (by rw [(launch_due hx hbegun hdue hbad).2 c hc])
  · exact show execLaunchComplete g k s = _ from (cmdE_live h).trans (by rw [launched_over hx hsub hbegun hts hdue])
  · exact show execTsuTempSample g t s = _ from (cmdE_live h).trans (by rw [tsuSample])
  · exact show execPhaseLost p s = _ from (cmdE_live h).trans (by rw [phaseLostAt_over hb hover hen hmodel])
  · exact show execClass6Pass p s = _ from (cmdT_acts h).trans (by rw [class6_passes rfl hhead])
  · exact show execReservationCancel m g v s = _ from (cmdW_reaches h).trans (by rw [wrCancel, cancelSlot_late hx hdead])

end Sys2Proof.Machine
end

section

/-! # Proofs: threads, queues and semaphores as masters reach them (R549 to R610) -/

namespace Sys2Proof.Machine

/-! ### Control of a thread (R549, R550) -/

theorem wrThCtl_starts {e t : Nat} {s : State} (hst : (s.th (4 * e + t)).st = .halt) :
    wrThCtl e t 1 s = s.setTh (4 * e + t) { s.th (4 * e + t) with st := .run, user := false } := by
  have hbit : bit 1#32 0 = true := by decide
  simp [wrThCtl, hst, hbit]

theorem wrThCtl_halts {e t : Nat} {s : State} (hst : (s.th (4 * e + t)).st = .run) :
    wrThCtl e t 2 s = thHalt (4 * e + t) (dropLoads (4 * e + t) s) := by
  have hbit : bit 2#32 1 = true := by decide
  simp [wrThCtl, haltThread, hst, hbit]

theorem wrThCtl_clears {e t : Nat} {s : State} (hst : (s.th (4 * e + t)).st = .fault) : wrThCtl e t 4 s = thHalt (4 * e + t) s := by
  have hbit : bit 4#32 2 = true := by decide
  simp [wrThCtl, hst, hbit]

/-- A wait that is over ends, and a thread that nobody has halted meanwhile goes on. -/
theorem waitResume_done {k rd : Nat} {v : DWord} {s : State} (hdone : (s.th k).waiting = .done rd v)
    (hdue : ((thDone k rd v s).th k).haltDue = false) : haltAfter k (resume k s) = thDone k rd v s := by
  have hres : resume k s = thDone k rd v s := by simp only [resume, hdone]
  rw [hres, haltAfter, if_pos hdue]

/-! ### Images (R562) -/

theorem wrLoadCmd_refused {m : Master} {c : Nat} {v : Word} {s : State} {r : LoadRej} (hv : bit v 0 = true)
    (hmay : s.mayLoad m c = true) (hrej : s.loadRej c = some r) : wrLoadCmd m c v s = loadRefused c r s := by
  simp [wrLoadCmd, hv, hmay, hrej]

theorem wrLoadCmd_starts {m : Master} {c : Nat} {v : Word} {s : State} (hv : bit v 0 = true) (hmay : s.mayLoad m c = true)
    (hrej : s.loadRej c = none) (hc : c ≠ 63) :
    wrLoadCmd m c v s = (s.setClu c { s.clu c with load := some (s.imgAt c) }).setRf (Reg.CLU_LOAD_STAT c) 0 8
      (1 + s.rf (Reg.CLU_LOAD_STAT c) 0 8 % 8 / 2 * 2) := by
  simp [wrLoadCmd, hv, hmay, hrej, hc]

theorem wrLoadCmd_barred {m : Master} {c : Nat} {v : Word} {s : State} (hmay : s.mayLoad m c = false) : wrLoadCmd m c v s = s :=
  if_pos (Or.inr hmay)

theorem loadEnd_cluster {c : Nat} {s : State} (hc : c ≠ 63) : loadEnd c s = loadDone c s := by
  simp [loadEnd, hc]

/-! ### Queues, timers, semaphores and samples (R566, R576, R582, R591) -/

/-- The address words of a queue that is disabled. -/
theorem queueW_disabled {m : Master} {n : Nat} {v : Word} {s : State} (hgo : queueGate m s = .go) (hoff : (s.queue n).en = false) :
    queueW m n 0 v s = s.setQueue n { s.queue n with base := v } ∧
    queueW m n 2 v s = s.setQueue n { s.queue n with head := fld v 0 21 } ∧
    queueW m n 3 v s = s.setQueue n { s.queue n with tail := fld v 0 21 } := by
  simp [queueW, hgo, wrQueue, hoff]

theorem timerFire_due {e t : Nat} {s : State} (harm : (s.th (4 * e + t)).tmrArmed = true)
    (hdue : atOrAfter s.now (s.th (4 * e + t)).tmr = true) :
    timerFire e t s = postTo (4 * e + t) 3 0 (s.setTh (4 * e + t) { s.th (4 * e + t) with tmrArmed := false }) := by
  simp [timerFire, harm, hdue]

/-- The three writes of SEM_Nn by a master that has an identity. -/
theorem wrSem_acts {m : Master} {n id : Nat} {s : State} (hid : semId m = some id) :
    wrSem m n 1 s = (semTry id n s).2 ∧ wrSem m n 2 s = (semRelease id n s).2 ∧ wrSem m n 3 s = semBreak n s := by
  refine ⟨?_, ?_, ?_⟩ <;> simp [wrSem, hid, fld]

theorem sampleRead_oldest {m : Master} {c : Nat} {s : State} {w : List Word} {l : List (List Word)}
    (h : (s.clu c).samples = w :: l) :
    sampleRead m c s = (w.getD 0 0, forN 7 (fun i a => a.setShadow m (Reg.CLU_SMP_D c (i + 1)) (w.getD (i + 1) 0))
      (s.setClu c { s.clu c with samples := l, smpFull := false })) := by
  simp only [sampleRead, h]

theorem postedError_kept {k : Nat} {a : DWord} {s : State} (hout : (s.th k).posted.contains a = true) (hheld : s.held k a = false) :
    postedError k a s = postFailed k a s := if_pos ⟨hout, hheld⟩

/-- The three commands on a semaphore by a master that has an identity. -/
theorem semCommands {m : Master} {n : BitVec 8} {id : Nat} {s : State} (h : Reaches m (Reg.SEM_N n.toNat) s) (hid : semId m = some id) :
    exec (.semTryAcquire m n) s = .next (wrote (Reg.SEM_N n.toNat) s (semTry id n.toNat s).2) ∧
    exec (.semRelease m n) s = .next (wrote (Reg.SEM_N n.toNat) s (semRelease id n.toNat s).2) ∧
    exec (.semForce m n) s = .next (wrote (Reg.SEM_N n.toNat) s (semBreak n.toNat s)) := by
  obtain ⟨htry, hrel, hforce⟩ := wrSem_acts (n := n.toNat) (s := s) hid
  refine ⟨?_, ?_, ?_⟩
  · exact show execSemTryAcquire m n s = _ from (cmdW_reaches h).trans (by rw [htry])
  · exact show execSemRelease m n s = _ from (cmdW_reaches h).trans (by rw [hrel])
  · exact show execSemForce m n s = _ from (cmdW_reaches h).trans (by rw [hforce])

/-- Settles O32, event by event. -/
theorem threadsAreReached : Obligations.ThreadsAreReached := by
  refine ⟨fun m e t s h hst => ?_, fun m e t s h hst => ?_, fun m e t s h hst => ?_, fun m c v s r h hv hmay hrej => ?_,
    fun m c v s h hv hmay hrej hc => ?_, fun c s h hc => ?_, fun m q v s hgo hoff => ?_, fun m e t v s h => ?_, fun m e t v s h => ?_,
    fun e t s h harm hdue => ?_, fun n s h => semCommands h rfl, fun m c s w l h hl => ?_, fun e t s rd v hrun hwait hdone hdue => ?_,
    fun e t a s halive hout hheld => ?_, fun m n id s h hid => semCommands h hid, fun m c v s h hv hmay => ?_⟩
  · exact show execThreadStart m e t s = _ from (cmdW_reaches h).trans (by rw [wrThCtl_starts hst])
  · exact show execThreadHalt m e t s = _ from (cmdW_reaches h).trans (by rw [wrThCtl_halts hst])
  · exact show execClrflt m e t s = _ from (cmdW_reaches h).trans (by rw [wrThCtl_clears hst])
  · exact show execImageLoad m c v s = _ from (cmdW_reaches h).trans (by rw [wrLoadCmd_refused hv hmay hrej, loadRefused])
  · exact show execImageLoad m c v s = _ from (cmdW_reaches h).trans (by rw [wrLoadCmd_starts hv hmay hrej hc])
  · exact show execLoadDone c s = _ from (cmdE_live h).trans (by rw [loadEnd_cluster hc])
  · obtain ⟨hbase, hhead, htail⟩ := queueW_disabled (v := v) hgo hoff
    exact ⟨congrArg Host.Outcome.next hbase, congrArg Host.Outcome.next hhead, congrArg Host.Outcome.next htail⟩
  · exact show execDoorbell m e t v s = _ from cmdW_reaches h
  · exact show execTimerArm m e t v s = _ from (cmdW_reaches h).trans (by rw [wrTmr])
  · exact show execTimerFire e t s = _ from (cmdE_live h).trans (by rw [timerFire_due harm hdue])
  · exact show execSampleRead m c s = _ from (cmdRd_reaches h).trans (by rw [sampleRead_oldest hl])
  · refine show execWaitResume e t s = _ from ?_
    rw [execWaitResume, if_pos ⟨hrun, hwait⟩, waitResume_done hdone hdue, became]
  · refine show execPostedStoreError e t a s = _ from ?_
    rw [execPostedStoreError, if_pos halive, postedError_kept hout hheld, became]
  · exact show execImageLoad m c v s = _ from (cmdW_reaches h).trans (by rw [wrLoadCmd_barred hmay])

end Sys2Proof.Machine
end

section

/-! # Proofs: the record cache and the NTP service (R651 to R670) -/

namespace Sys2Proof.Machine

/-! ### Seeds and cache commands (R656, R660) -/

theorem quarrySeed_draws {s s1 s2 : State} {b : List Byte} (hnone : s.svc.seeds = none) (htry : earlier s.bt s.svc.seedTry = false)
    (hdrbg : drbg 16 s = (some b, s1))
    (hs2 : raiseEvt Reg.QRY 3 ({ s1 with svc := { s1.svc with
      seeds := some (BitVec.ofNat 64 (beAt b 0 8), BitVec.ofNat 64 (beAt b 8 8)) } }.setRb Reg.QRY_STAT 2 true) = s2) :
    quarrySeed s = if s2.mrole = .active then mateSeeds s2 else s2 := by
  rw [quarrySeed, if_neg (by simp [hnone, htry]), hdrbg]
  simp only [hs2]

theorem wrQryCmd_flush {v : Word} {s : State} (h0 : bit v 0 = true) (h1 : bit v 1 = false) (h2 : bit v 2 = false) :
    wrQryCmd v s = { s with svc := { s.svc with flushAt := some s.bt } }.setRb Reg.QRY_STAT 0 true := by
  simp [wrQryCmd, h0, h1, h2]

/-- CLEAR or RESEED, alone in its write, on a disabled page. -/
theorem wrQryCmd_clear {v : Word} {s : State} (h0 : bit v 0 = false) (hoff : s.pgEn Reg.QRY = false)
    (hcmd : (bit v 1 || bit v 2) = true) :
    wrQryCmd v s = (dropCache { s with svc := { s.svc with clearAt := some (s.bt, bit v 2) } }).setRb Reg.QRY_STAT 1 true := by
  simp only [wrQryCmd, h0, hoff, hcmd, Bool.false_eq_true, if_false, Bool.not_false, Bool.and_self, if_true]

theorem flushDone_pending {s s1 : State} {b : BT80} (hat : s.svc.flushAt = some b)
    (hs1 : s.svc.cache.foldl (fun a e => writeBack e.1 a) s = s1) :
    flushDone s = raiseEvt Reg.QRY 0 ({ s1 with svc := { s1.svc with flushAt := none } }.setRb Reg.QRY_STAT 0 false) := by
  rw [flushDone, if_neg (by simp [hat]), hs1]

theorem clearDone_pending {s s1 s2 : State} {b : BT80} {re : Bool} (hat : s.svc.clearAt = some (b, re))
    (hs1 : zeroTable (dropCache s) = s1)
    (hs2 : raiseEvt Reg.QRY 1 ({ s1 with svc := { s1.svc with clearAt := none } }.setRb Reg.QRY_STAT 1 false) = s2) :
    clearDone s = if re then
      quarrySeed ({ s2 with svc := { s2.svc with seeds := none, seedTry := s2.bt } }.setRb Reg.QRY_STAT 2 false) else s2 := by
  simp only [clearDone, hat, hs1, hs2]

/-! ### Messages on UDP port 123 (R664, R670) -/

section Ntp
variable {p cl : Nat} {rx : BT80} {d : List Byte} {swapped : Bool} {s s1 : State} {r : Req} (hr : s.request p cl rx d = r)
  (hs1 : takeRx 2 r d s = s1)
include hr hs1

theorem serveNtp_notServing (hserve : s1.servesAt (r.at_ s1) = false) : serveNtp p cl rx d swapped s = notServed r s1 := by
  simp only [serveNtp, hr, hs1]
  rw [if_pos hserve]

theorem serveNtp_exception (hserve : s1.servesAt (r.at_ s1) = true) (hmode : beAt r.pay 0 1 % 8 = 6 ∨ beAt r.pay 0 1 % 8 = 7) :
    serveNtp p cl rx d swapped s = toException 2 r d s1 := by
  simp only [serveNtp, hr, hs1]
  rw [if_neg (by simp [hserve]), if_pos hmode]

/-- A well-formed request of the modes served goes to plain NTP or to NTS, by its extension fields. -/
theorem serveNtp_wellFormed {efs : List Ef} (hserve : s1.servesAt (r.at_ s1) = true)
    (hmode : beAt r.pay 0 1 % 8 = 3 ∨ beAt r.pay 0 1 % 8 = 1) (hver : beAt r.pay 0 1 / 8 % 8 = 3 ∨ beAt r.pay 0 1 / 8 % 8 = 4)
    (hlen : 48 ≤ r.pay.length) (hefs : parseEfs r.pay (r.pay.length + 1) 48 = some efs)
    (hrec : ∀ x, s1.recReq efs = some x → 12 ≤ x.len) :
    serveNtp p cl rx d swapped s =
      if efs.any (fun x => ntsTypes.contains x.typ) then serveNts r efs swapped s1 else servePlain r efs s1 := by
  have hshort : (match s1.recReq efs with | some x => decide (x.len < 12) | none => false) = false := by
    cases hx : s1.recReq efs with
    | none => rfl
    | some x => simp [hrec x hx]
  simp only [serveNtp, hr, hs1]
  rw [if_neg (by simp [hserve]), if_neg (by omega), hefs]
  refine if_neg ?_
  rintro (h | h | h | h)
  · omega
  · omega
  · omega
  · exact Bool.false_ne_true (hshort.symm.trans h)

end Ntp

/-! ### ARP and ND (R651) -/

section ArpNd
variable {p cl : Nat} {rx : BT80} {d : List Byte} {s s1 : State} {r : Req} (hr : s.request p cl rx d = r)
  (hs1 : takeRx 3 r d s = s1) (hserve : s1.servesAt (r.at_ s1) = true)
include hr hs1 hserve

theorem serveArpNd_arp (hetype : r.h.etype = 0x0806) (hproto : beAt r.f (r.h.l3 + 2) 2 = 0x0800) (hhard : beAt r.f r.h.l3 2 = 1)
    (hop : beAt r.f (r.h.l3 + 6) 2 = 1) (hsvc : s1.svcFor p r.h.vid 4 (sliceB r.f (r.h.l3 + 24) 4) = true) :
    serveArpNd p cl rx d s = arpAnswer r s1 := by
  simp only [serveArpNd, hr, hs1]
  rw [if_neg (by simp [hserve]), if_pos hetype, if_pos ⟨hhard, hproto, hop, hsvc⟩]

theorem serveArpNd_nd (hetype : r.h.etype ≠ 0x0806) (hv : r.n.v = 6) (hproto : r.n.proto = 58) (htype : beAt r.f r.n.l4 1 = 135)
    (hsvc : s1.svcFor p r.h.vid 6 (sliceB r.f (r.n.l4 + 8) 16) = true) : serveArpNd p cl rx d s = ndAnswer r s1 := by
  simp only [serveArpNd, hr, hs1]
  rw [if_neg (by simp [hserve]), if_neg hetype, if_pos ⟨hv, hproto, htype, hsvc⟩]

end ArpNd

/-- Settles O48, event by event. -/
theorem cacheAndNtpServe : Obligations.CacheAndNtpServe := by
  refine ⟨fun s s1 s2 b h hnone htry hdrbg hs2 => ?_, fun m v s h h0 h1 h2 => ?_, fun b s s1 h hat hs1 => ?_,
    fun m v s h h0 hoff => ⟨fun h1 h2 => ?_, fun h1 h2 => ?_⟩, fun b re s s1 s2 h hat hs1 hs2 => ?_,
    fun p cl rx d s s1 r h hr hs1 => ⟨fun hserve => ?_, fun hserve hmode => ?_,
      fun hserve hmode hver hlen efs hefs hrec => ⟨fun hplain => ?_, fun swapped hnts => ?_⟩⟩,
    fun p cl rx d s s1 r h hr hs1 hserve => ⟨fun hetype hproto hhard hop hsvc => ?_, fun hetype hv hproto htype hsvc => ?_⟩⟩
  · exact show execQuarrySeed s = _ from (cmdT_acts h).trans (by rw [quarrySeed_draws hnone htry hdrbg hs2])
  · exact show execQryFlush m v s = _ from (cmdW_reaches h).trans (by rw [wrQryCmd_flush h0 h1 h2])
  · exact show execFlushDone s = _ from (cmdT_acts h).trans (by rw [flushDone_pending hat hs1])
  · exact show execQryClear m v s = _ from (cmdW_reaches h).trans (by rw [wrQryCmd_clear h0 hoff (by simp [h1]), h2])
  · exact show execQuarryReseed m v s = _ from (cmdW_reaches h).trans (by rw [wrQryCmd_clear h0 hoff (by simp [h2]), h2])
  · exact show execClearDone s = _ from (cmdT_acts h).trans (by rw [clearDone_pending hat hs1 hs2])
  · exact show execNtpRequest p cl rx d s = _ from (cmdT_acts h).trans (by rw [serveNtp_notServing hr hs1 hserve])
  · exact show execNtpRequest p cl rx d s = _ from (cmdT_acts h).trans (by rw [serveNtp_exception hr hs1 hserve hmode])
  · exact show execNtpRequest p cl rx d s = _ from (cmdT_acts h).trans (by
      rw [serveNtp_wellFormed hr hs1 hserve hmode hver hlen hefs hrec, if_neg (Bool.eq_false_iff.mp hplain)])
  · exact show execNtsRequest p cl rx d swapped s = _ from (cmdT_acts h).trans (by
      rw [serveNtp_wellFormed hr hs1 hserve hmode hver hlen hefs hrec, if_pos hnts])
  · exact show execArpNdRequest p cl rx d s = _ from (cmdT_acts h).trans (by
      rw [serveArpNd_arp hr hs1 hserve hetype hproto hhard hop hsvc])
  · exact show execArpNdRequest p cl rx d s = _ from (cmdT_acts h).trans (by
      rw [serveArpNd_nd hr hs1 hserve hetype hv hproto htype hsvc])

end Sys2Proof.Machine
end

section

/-! # Proofs: the PTP service and its upstream sessions (R683 to R699) -/

namespace Sys2Proof.Machine

/-! ### Messages of clients (R685, R692, R694) -/

section Client
variable {p cl i : Nat} {rx : BT80} {d m : List Byte} {l : List Tlv} {c : Option (Nat × QRec)} {r : Req} {s s1 s2 s3 : State}
  (henter : ptpEnter p cl rx d s = (some (r, m, l, i), s1)) (hpolice : policeReq r 1 s1 = (true, c, s2))
include henter hpolice

/-- A Delay_Req that the policer passes, by its authenticity. -/
theorem serveDelay_policed (htype : beAt m 0 1 % 16 = 1) :
    (ptpAuth i m l s2 = (true, s3) → serveDelay p cl rx d s = answerDelay r i m s3) ∧
    (ptpAuth i m l s2 = (false, s3) → serveDelay p cl rx d s = clientFault r 7 .dropped 1 s3) := by
  refine ⟨fun hauth => ?_, fun hauth => ?_⟩
  · simp only [serveDelay, henter, htype, hpolice, hauth, ne_eq, not_true_eq_false, if_false]
  · simp only [serveDelay, henter, htype, hpolice, hauth, ne_eq, not_true_eq_false, if_false]

/-- An authentic Signaling message that requests or cancels grants, where the PTP domain has profile 2. -/
theorem serveSignal_negotiates {b : List Byte} {s4 : State} (htype : beAt m 0 1 % 16 = 0xC) (hrec : l.any (s1.isRecTlv m) = false)
    (hauth : ptpAuth i m l s2 = (true, s3)) (hprof : s3.profile i = 2)
    (hnego : l.any (fun t => decide (t.typ = 4 ∨ t.typ = 6)) = true) (hanswer : answerTlvs r i m c l s3 = (b, s4)) :
    serveSignal p cl rx d s = replySignal r i m b s4 := by
  simp only [serveSignal, henter, htype, hrec, Bool.false_eq_true, if_false, hpolice, hauth, hprof, hnego, hanswer, ne_eq,
    not_true_eq_false, Bool.true_eq_false, false_and]

end Client

/-! ### Scheduled messages (R683, R684, R686) -/

/-- A target that has been tried is not tried again. -/
theorem schedTarget_tried {i p : Nat} {ses : Option Nat} {ann : Bool} {x : Sched} {s : State} {t : WT96}
    (hx : s.schedOf i p ses ann = some x)
    (ht : (let u := s.nextFree.nextFree; nextTarget x.log x.phase (u.servedAt (u.bt + cyc (u.rf (Reg.TSU_LEAD (p / 4)) 0 16)))) = t)
    (htried : AMap.get none s.svc.tried (schedKey i p ses ann) = some t) : schedTarget i p ses ann s = s := by
  simp only [schedTarget, hx]
  exact if_pos (Or.inr (by rw [htried, ← ht]))

/-- A new target that is granted its launch: the message is built. -/
theorem schedTarget_granted {i p : Nat} {ses : Option Nat} {ann : Bool} {x : Sched} {s s1 s2 : State} {t : WT96} {n : Nat} {g : Grant}
    (hx : s.schedOf i p ses ann = some x) (hs1 : s.nextFree.nextFree = s1)
    (ht : nextTarget x.log x.phase (s1.servedAt (s1.bt + cyc (s1.rf (Reg.TSU_LEAD (p / 4)) 0 16))) = t) (hserve : s1.servesAt t = true)
    (htried : AMap.get none s.svc.tried (schedKey i p ses ann) ≠ some t)
    (hn : x.env.ptpLen ((if ann then 64 else 44) + (if s1.rb Reg.ASY_PTLV_CTRL (if ann then 7 else 4) then 30 else 0) +
      (if (s1.instAuth i).isSome then 26 else 0)) = n)
    (hgrant : reserve { port := p, at_ := true, len := wireLen n, tag := BitVec.ofNat 32 s1.nextFree.freeVal, cq := x.cq, target := t } none
      (let y := AMap.set none s1.svc.tried (schedKey i p ses ann) (some t)
       State.nextFree (State.nextFree { s1 with svc := { s1.svc with tried := y } })) = (g, s2)) (hok : g.status = .granted) :
    schedTarget i p ses ann s =
      if ann then buildAnnounce s1.someCluster i p ses x g s2 else buildSync s1.someCluster i p ses x g s2 := by
  have hfree : ∀ v : Svc, ({ s1 with svc := v } : State).nextFree.freeVal = s1.nextFree.freeVal := fun _ => rfl
  simp only [schedTarget, hx, hs1, ht, hserve, htried, hn, hfree, Bool.true_eq_false, or_self, if_false]
  dsimp only at hgrant
  rw [hgrant]
  simp only [hok, ne_eq, not_true_eq_false, if_false]

theorem followUp_sent {g h : Nat} {w : Watch} {f : List Byte} {s s1 : State} (hw : AMap.get none s.svc.watch (2048 * g + h) = some w)
    (hfup : w.fup = some f) (hsent : w.sent = true)
    (hs1 : { s with svc := { s.svc with watch := AMap.set none s.svc.watch (2048 * g + h) none } } = s1) :
    followUp g h s = stat1 w.cl 15 (sendWeighted w.port f s1).2 := by
  obtain ⟨cl, port, fup, sent⟩ := w
  subst hs1 hfup hsent
  simp only [followUp, hw]

/-! ### Grants that end (R694, R695) -/

theorem grantExpire_due {n ty : Nat} {s : State} (hok : s.sessOk n = true) (hst : (s.sess n).st = 1)
    (hgrant : (s.sess n).ivs.getD ty noGrant ≠ noGrant)
    (hdue : atOrAfter (BitVec.ofNat 32 (wholeSec s.now)) (BitVec.ofNat 32 ((s.sess n).exp.getD ty 0)) = true) :
    grantExpire n ty s = endGrant n ty s := by
  simp only [grantExpire, hok, hst, hdue, decide_eq_true hgrant, decide_true, Bool.and_self, if_true]

theorem quarantineEnd_over {n : Nat} {t : WT96} {s s1 : State} (hq : AMap.get none s.svc.quar n = some t) (hover : earlier s.now t = false)
    (hok : s.sessOk n = true) (hs1 : (if (s.sess n).st = 2 then putSess n { s.sess n with st := 0 } s else s) = s1) :
    quarantineEnd n s = setSessEnv n none { s1 with svc := { s1.svc with quar := AMap.set none s1.svc.quar n none } } := by
  simp only [quarantineEnd, hq, hover, hok, hs1, Bool.false_eq_true, Bool.true_eq_false, or_self, if_false]

/-! ### Upstream sessions (R698, R699) -/

/-- The first request of an upstream session, whose grandmaster is not yet known. -/
theorem upRenew_first {n q : Nat} {e : Env} {rq : Nat → Nat → List Byte} {m : List Byte} {s s1 s2 : State}
    (hrq : ∀ mt lg, rq mt lg = bytesBE 2 4 ++ bytesBE 2 6 ++ bytesBE 1 (mt * 16) ++ bytesBE 1 lg ++ bytesBE 4 300)
    (hen : bit (s.reg (Reg.QRY_UP_CFG n)) 4 = true) (huni : bit (s.reg (Reg.QRY_UP_CFG n)) 24 = true) (hasked : (s.up n).asked = none)
    (he : s.upEnv n = some e) (hseq : upSeq n 0xC (setUp n { s.up n with asked := some (wholeSec s.now) } s.nextFree) = (q, s1))
    (hsrc : (s1.up n).src = none)
    (hm : ptpMessage { typ := 0xC, dom := fld (s.reg (Reg.QRY_UP_CFG n)) 8 8, flags := 0x0400, cf := 0, port := e.port, seq := q, log := 0x7F }
        (List.replicate 10 0xFF ++ rq 0xB 0 ++ rq 0x0 (fld (s.reg (Reg.QRY_UP_CFG n)) 16 8) ++
          rq 0x9 (fld (s.reg (Reg.QRY_UP_CFG n)) 16 8)) (s1.upAuth n) s1 = (some m, s2)) :
    upRenew n s = (sendWeighted e.port (s2.ptpFrame e s2.freeVal 0xC m) s2.nextFree).2 := by
  simp only [hrq] at hm
  simp only [upRenew, hen, huni, hasked, Bool.not_true, Bool.or_self, Bool.false_eq_true, if_false, he, hseq, hsrc, hm]

/-- A message that matches its session, which takes messages without authentication. -/
theorem upMessage_matches {n : Nat} {rx : BT80} {d m : List Byte} {l : List Tlv} {r : Req} {s s1 : State}
    (hr : s.request (fld (s.reg (Reg.QRY_UP_CFG n)) 0 4) s.someCluster rx d = r) (hs1 : takeRx r.ptpQueue r d s.nextFree = s1)
    (hen : bit (s.reg (Reg.QRY_UP_CFG n)) 4 = true) (hauth : bit (s.reg (Reg.QRY_UP_CFG n)) 25 = false)
    (hserve : s1.servesAt (r.at_ s1) = true) (hm : r.ptp = some (m, l)) (htr : fld (s.reg (Reg.QRY_UP_CFG n)) 5 2 = r.transport)
    (hfrom : r.transport = 0 ∧ r.n.v = 0 ∧ beAt r.f 6 6 = s1.regN (Reg.QRY_UP_ADDR n 0) 2 % 2 ^ 48 ∨
      r.transport ≠ 0 ∧ r.n.src = s1.addrOf (Reg.QRY_UP_ADDR n 0) r.transport)
    (hdom : beAt m 4 1 = fld (s.reg (Reg.QRY_UP_CFG n)) 8 8)
    (hgm : beAt m 0 1 % 16 = 0xB → ∀ g, (s1.up n).gm = some g → g = beAt m 53 8)
    (hseq : (s1.up n).seqOk (beAt m 0 1 % 16) (beAt m 30 2) = true) : upMessage n rx d s = upTake n m l s1 := by
  have hsender : (match fld (s.reg (Reg.QRY_UP_CFG n)) 5 2 with
      | 0 => decide (r.n.v = 0) && decide (beAt r.f 6 6 = s1.regN (Reg.QRY_UP_ADDR n 0) 2 % 2 ^ 48)
      | k => decide (r.n.src = s1.addrOf (Reg.QRY_UP_ADDR n 0) k)) = true := by
    rw [htr]
    cases htr0 : r.transport with
    | zero => simpa [htr0] using hfrom
    | succ k => simpa [htr0] using hfrom
  have hmaster : (decide (beAt m 0 1 % 16 = 0xB) && (match (s1.up n).gm with
      | some g => decide (g ≠ beAt m 53 8)
      | none => false)) = false := by
    cases hg : (s1.up n).gm with
    | none => simp
    | some g => simpa using fun ht => hgm ht g hg
  simp only [upMessage, hr, hs1]
  rw [if_neg (by simp [hen]), if_neg (by simp [hserve]), hm]
  simp only [hauth, Bool.false_eq_true, Bool.true_eq_false, if_false]
  refine if_neg fun hbad => ?_
  simp only [Bool.or_eq_true, Bool.not_eq_true', decide_eq_true_eq] at hbad
  obtain (((hbad | hbad) | hbad) | hbad) | hbad := hbad
  · exact Bool.false_ne_true (hbad.symm.trans hsender)
  · exact hbad htr.symm
  · exact hbad hdom
  · exact Bool.false_ne_true (hmaster.symm.trans hbad)
  · exact Bool.false_ne_true (hbad.symm.trans hseq)

/-- Three intervals without an Announce. -/
theorem upTimeout_over {n : Nat} {b : BT80} {s : State} (hat : (s.up n).annAt = some b) (hen : s.rb (Reg.QRY_UP_CFG n) 4 = true)
    (hlost : (s.up n).lost = false) (hlog : 0 ≤ (s.up n).annLog)
    (hover : s.elapsed b (3 * (1000000000 * 2 ^ (s.up n).annLog.toNat)) = true) : upTimeout n s = upLost n s := by
  simp only [upTimeout, hat, hen, hlost, Int.not_lt.mpr hlog, if_false, hover, Bool.not_false, Bool.and_self, if_true]

/-- Settles O49, event by event. -/
theorem ptpServes : Obligations.PtpServes := by
  refine ⟨fun p cl rx d m l i c r s s1 s2 h henter htype hpolice => ⟨fun s3 hauth => ?_, fun s3 hauth => ?_⟩,
    fun i p ses ann x s s1 s2 t n g h hx hs1 ht hserve htried hn hgrant hok => ⟨fun hann => ?_, fun hann => ?_⟩,
    fun g k w f s s1 h hw hfup hsent hs1 => ?_,
    fun p cl rx d m b l i c r s s1 s2 s3 s4 h henter htype hrec hpolice hauth hprof hnego hanswer => ⟨?_, ?_⟩,
    fun n ty s h hok hst hgrant hdue => ?_, fun n t s s1 h hq hover hok hs1 => ?_,
    fun n e q rq s s1 h hrq hen huni hasked he hseq hsrc m s2 hm => ?_,
    fun n rx d m l r s s1 h hr hs1 hen hauth hserve hm htr hfrom hdom hgm hseq => ?_, fun n b s h hat hen hlost hlog hover => ?_,
    fun i p ses x s ann t h hx ht htried => ⟨fun hann => ?_, fun hann => ?_⟩⟩
  · exact show execDelayReq p cl rx d s = _ from (cmdT_acts h).trans (by rw [(serveDelay_policed henter hpolice htype).1 hauth])
  · exact show execDelayReq p cl rx d s = _ from (cmdT_acts h).trans (by rw [(serveDelay_policed henter hpolice htype).2 hauth])
  · subst hann
    exact show execSyncTarget i p ses s = _ from (cmdT_acts h).trans (by
      rw [schedTarget_granted hx hs1 ht hserve htried hn hgrant hok, if_neg Bool.false_ne_true])
  · subst hann
    exact show execAnnounceTarget i p ses s = _ from (cmdT_acts h).trans (by
      rw [schedTarget_granted hx hs1 ht hserve htried hn hgrant hok, if_pos rfl])
  · exact show execFollowUp g k s = _ from (cmdT_acts h).trans (by rw [followUp_sent hw hfup hsent hs1])
  · exact show execUnicastNegotiation p cl rx d s = _ from (cmdT_acts h).trans (by
      rw [serveSignal_negotiates henter hpolice htype hrec hauth hprof hnego hanswer])
  · exact show execCancelUnicastTransmission p cl rx d s = _ from (cmdT_acts h).trans (by
      rw [serveSignal_negotiates henter hpolice htype hrec hauth hprof hnego hanswer])
  · exact show execGrantExpire n ty s = _ from (cmdT_acts h).trans (by rw [grantExpire_due hok hst hgrant hdue])
  · exact show execQuarantineEnd n s = _ from (cmdT_acts h).trans (by rw [quarantineEnd_over hq hover hok hs1])
  · exact show execUpstreamRenew n s = _ from (cmdT_acts h).trans (by rw [upRenew_first hrq hen huni hasked he hseq hsrc hm])
  · exact show execUpstreamMessage n rx d s = _ from (cmdT_acts h).trans (by
      rw [upMessage_matches hr hs1 hen hauth hserve hm htr hfrom hdom hgm hseq])
  · exact show execUpstreamAnnounceTimeout n s = _ from (cmdT_acts h).trans (by rw [upTimeout_over hat hen hlost hlog hover])
  · subst hann
    exact show execSyncTarget i p ses s = _ from (cmdT_acts h).trans (by rw [schedTarget_tried hx ht htried])
  · subst hann
    exact show execAnnounceTarget i p ses s = _ from (cmdT_acts h).trans (by rw [schedTarget_tried hx ht htried])

end Sys2Proof.Machine
end

section

/-! # Proofs: scheduling and policing (R721 to R736) -/

namespace Sys2Proof.Machine

/-- A port that may send starts the head of the class chosen, where it fits before the next reserved span. -/
theorem txOpportunity_starts {p c i : Nat} {d : List Byte} {s t : State} (hcan : s.canSend p = true) (hpaused : s.paused p = false)
    (hpause : (s.prtS p).pauseReq = none) (hchoose : choose p s = (some c, t)) (hhead : t.headOf p c = some (i, d))
    (hfit : t.fitsGap p (wireLen (descLen d)) = true) :
    txOpportunity p s = startTx p (descFrame d t) (chargeStart p c (charge d) (takeHead p c i t)) := by
  simp only [txOpportunity, hcan, hpaused, hpause, hchoose, hhead, hfit, Bool.not_true, Option.isSome_none, Bool.or_self,
    Bool.false_eq_true, if_false, if_true]

/-- A halted port serves class 7 alone. -/
theorem choose_halted {p : Nat} {s t : State} (hhalt : (s.schHalted || s.fltBit Reg.SCH 0) = true) (ht : cleanHeads p [7] s = t) :
    choose p s = if (t.headOf p 7).isSome then (some 7, t) else (none, t) := by
  simp only [choose, hhalt, if_true, ht]

theorem refillClass_adds {per p c n : Nat} {s : State} (hrate : (s.cls p c).rate ≠ 0)
    (hn : (s.cls p c).rate * per * 8192 + (s.cls p c).rem = n) :
    refillClass per p c s = s.setCls p c { s.cls p c with
      tok := min ((s.cls p c).burst * 65536 : Int) ((s.cls p c).tok + (n / 1000000 : Nat)), rem := n % 1000000 } := by
  have hmin : ∀ a b : Int, (if a < b then a else b) = min a b := fun a b => by omega
  simp only [refillClass, hrate, if_false, hn, hmin]

theorem shaperRefill_due {np : Nat} {s t u : State} (hdue : s.elapsed s.sch.refillAt s.sch.period = true)
    (hnp : (if s.stagedDue Reg.SCH_REFILL then s.rf Reg.SCH_REFILL 0 16 else s.sch.period) = np)
    (ht : forN 17 (fun p a => forN 6 (fun c b => applyClass p c b) a) s = t) (hrun : t.schHalted = false)
    (hu : forN 17 (fun p a => forN 6 (fun c b => refillClass np p c b) a) t = u) :
    shaperRefill s = { u with sch := { u.sch with refillAt := u.sch.refillAt + cyc s.sch.period, period := np,
                                                  wrAt := u.sch.wrAt.filter (fun e => decide (e.2 = some u.bt)) } } := by
  rw [shaperRefill, if_neg (by simp [hdue])]
  simp only [hnp, ht, hrun, Bool.false_eq_true, if_false, hu]

theorem policerRefill_due {s : State} (hdue : s.elapsed s.pol.refillAt 1000 = true) :
    policerRefill s =
      (let t := forN 17 (fun p a => forN 5 (fun i b =>
         if b.rb (Reg.POL_RATE p i) 31 then
           let num := b.rf (Reg.POL_RATE p i) 0 24 * 65536 + AMap.get 0 b.pol.rem (8 * p + i)
           let lvl := min (b.rf (Reg.POL_BURST p i) 0 16 * 65536) (AMap.get 0 b.pol.tok (8 * p + i) + num / 1000000)
           { b with pol := { b.pol with tok := AMap.set 0 b.pol.tok (8 * p + i) lvl, rem := AMap.set 0 b.pol.rem (8 * p + i) (num % 1000000) } }
         else b) a) s
       { t with pol := { t.pol with refillAt := t.pol.refillAt + cyc 1000 } }) := by
  rw [policerRefill, if_neg (by simp [hdue])]

/-- Settles O50, event by event. -/
theorem schedulerActs : Obligations.SchedulerActs := by
  refine ⟨fun p s t c i d h hcan hpaused hpause hchoose hhead hfit => ?_, fun p s hhalt => choose_halted hhalt rfl,
    fun s h hdue hrun => ?_, fun per p c s hrate => refillClass_adds hrate rfl, fun low s h => ?_, fun m v s h => ?_,
    fun s h hdue => ?_, fun m v s h => ?_⟩
  · exact show execTransmitOpportunity p s = _ from (cmdT_acts h).trans (by
      rw [txOpportunity_starts hcan hpaused hpause hchoose hhead hfit])
  · exact show execShaperRefill s = _ from (cmdT_acts h).trans (by rw [shaperRefill_due hdue rfl rfl hrun rfl])
  · refine show execHaltPinChange low s = _ from ?_
    rw [execHaltPinChange, if_pos h, haltPin]
  · exact show execSwhaltWrite m v s = _ from (cmdW_reaches h).trans (by rw [wrSchCtl])
  · exact show execPolicerRefill s = _ from (cmdT_acts h).trans (by rw [policerRefill_due hdue])
  · exact show execCommandBufferRelease m v s = _ from (cmdW_reaches h).trans (by rw [cmdRelease])

end Sys2Proof.Machine
end

section

/-! # Proofs: keys, random numbers, crypto operations and the life cycle (R753 to R786) -/

namespace Sys2Proof.Machine

/-! ### Writes of KEY_CMD (R753 to R759) -/

/-- A write that comes after the writes of its cycle in the order of the writers. -/
theorem wrKeyCmd_inOrder {m : Master} {v : Word} {s : State} (h : KeyCmdInOrder m s) : wrKeyCmd m v s = keyNoted m v s (keyCmd v s) :=
  if_pos (List.all_eq_true.mpr fun c hc => decide_eq_true (h c hc))

/-- A write that another of its cycle should have followed: the writes of the cycle act again in order. -/
theorem wrKeyCmd_outOfOrder {m : Master} {v : Word} {s : State} (h : ¬ KeyCmdInOrder m s) :
    wrKeyCmd m v s = keyNoted m v s ((s.keyCmds m v).foldl (fun t c => keyCmd c.2 t) (keyBack s.keyBase s)) :=
  if_neg fun hall => h fun c hc => of_decide_eq_true (List.all_eq_true.mp hall c hc)

theorem keyCmd_stage {v : Word} {s : State} (h0 : bit v 0 = true) (h1 : bit v 1 = false) (h2 : bit v 2 = false) :
    keyCmd v s = keyStage s := by
  simp [keyCmd, h0, h1, h2]

theorem keyCmd_commit {v : Word} {s : State} (h0 : bit v 0 = false) (h1 : bit v 1 = true) (h2 : bit v 2 = false) :
    keyCmd v s = keyCommit s := by
  simp [keyCmd, h0, h1, h2]

theorem keyCmd_discard {v : Word} {s : State} (h0 : bit v 0 = false) (h1 : bit v 1 = false) (h2 : bit v 2 = true) :
    keyCmd v s = keyDiscard s := by
  simp [keyCmd, h0, h1, h2]

theorem keyStage_accepts {s : State} {k : List Byte} {ctr : Nat} (h : stageCheck s = .ok (k, ctr)) :
    keyStage s = { s with key := { s.key with accepted := some (BitVec.ofNat 256 (natBE k), ctr) } } := by
  simp only [keyStage, h]

theorem keyStage_refuses {s : State} {r : KeyRej} (h : stageCheck s = .error r) :
    keyStage s = raiseEvt Reg.KEY 2 ((s.setRf Reg.KEY_STAT 8 4 r.code).count Reg.KEY_CNT_REJ) := by
  simp only [keyStage, h, keyRefuse]

theorem keyStaged_accepted {s u : State} {k : BitVec 256} {ctr : Nat} (h : s.key.accepted = some (k, ctr))
    (hu : { s with key := { s.key with accepted := none, staged := some (k, ctr) }, thisCyc := { s.thisCyc with key := none } } = u) :
    keyStaged s = raiseEvt Reg.KEY 0 ((u.setRb Reg.KEY_STAT 1 true).setReg Reg.KEY_STG_CTR (BitVec.ofNat 32 ctr)) := by
  simp only [keyStaged, h, hu]

theorem keyCommit_staged {s s1 : State} {k : BitVec 256} {ctr : Nat} (hbusy : s.rb Reg.KEY_STAT 2 = false)
    (hstaged : s.key.staged = some (k, ctr))
    (hs1 : { s with key := { s.key with committing := some (k, ctr) } }.setRb Reg.KEY_STAT 2 true = s1) :
    keyCommit s = if s.lifeCycle = 3 then s1 else commitStore k ctr s1 := by
  subst hs1
  rw [keyCommit, if_neg (by simp [hbusy])]
  split
  next hnone => cases hstaged.symm.trans hnone
  next h => cases hstaged.symm.trans h; rfl

theorem keyDiscard_idle {s : State} (hbusy : s.rb Reg.KEY_STAT 2 = false) :
    keyDiscard s = { s with key := { s.key with staged := none } }.setRb Reg.KEY_STAT 1 false := by
  simp only [keyDiscard, hbusy, Bool.false_eq_true, if_false]

/-- The last phase of a commit in the field, after what is left of the second. -/
theorem keyCommitted_field {s s0 s1 : State} {k : BitVec 256} {ctr : Nat} (hcom : s.key.committing = some (k, ctr))
    (hs0 : commitCount (commitCount s) = s0)
    (hs1 : setLode (some k) { s0 with key := { s0.key with committing := none, staged := none },
                                      thisCyc := { s0.thisCyc with key := none } } = s1) (hlc : s.lifeCycle ≠ 3) :
    keyCommitted s = raiseEvt Reg.KEY 1 ((((s1.setReg Reg.KEY_GEN (s1.reg Reg.KEY_GEN + 1)).setReg Reg.KEY_CTR
      (BitVec.ofNat 32 ctr)).setRf Reg.KEY_STAT 1 2 0).setRf Reg.KEY_CSW 0 2 3) := by
  simp only [keyCommitted, hcom, hs0, hs1, hlc, if_false]

/-- In DEBUG no counter is written. -/
theorem commitCount_debug {s : State} (hlc : s.lifeCycle = 3) : commitCount s = s := by
  cases hcom : s.key.committing with
  | none => simp only [commitCount, hcom]
  | some p => simp only [commitCount, hcom, hlc, if_true]

theorem keyCommitted_debug {s s1 : State} {k : BitVec 256} {ctr : Nat} (hcom : s.key.committing = some (k, ctr)) (hlc : s.lifeCycle = 3)
    (hs1 : setLode (some k) { s with key := { s.key with committing := none, staged := none },
                                     thisCyc := { s.thisCyc with key := none } } = s1) :
    keyCommitted s = raiseEvt Reg.KEY 1
      (((s1.setReg Reg.KEY_GEN (s1.reg Reg.KEY_GEN + 1)).setRf Reg.KEY_STAT 1 2 0).setRf Reg.KEY_CSW 0 2 3) := by
  simp only [keyCommitted, hcom, commitCount_debug hlc, hs1, hlc, if_true]

/-! ### The TRNG (R774 to R778) -/

/-- The start-up test passes while TRN_FAIL is latched: the DRBG goes on withholding. -/
theorem trnResumed_latched {s s1 : State} (htest : s.rb Reg.TRN_STAT 0 = true) (hinj : s.inject Reg.TRN 1 = false)
    (hs1 : { s with trn := { s.trn with passAt := some s.bt } }.setRb Reg.TRN_STAT 0 false = s1) (hfail : s.rb Reg.TRN_STAT 2 = true) :
    trnResumed s = s1 := by
  rw [trnResumed, if_neg (by simp [htest, hinj])]
  simp only [hs1, hfail, if_true]

theorem trnReseed_due {s : State} (hout : s.withheld = false) (hdue : s.elapsed s.trn.reseedAt 10000000 = true) :
    trnReseed s = { s with trn := { s.trn with reseedAt := s.bt, requests := 0 } }.count Reg.TRN_CNT_RESEED := by
  simp only [trnReseed, hout, hdue, Bool.false_eq_true, if_false, Bool.true_or, if_true]

theorem trnOutRead_draws {m : Master} {s s1 : State} {l : List Byte} (h : drbg 4 s = (some l, s1)) :
    trnOutRead m s = (BitVec.ofNat 32 (natLE l), s1.setShadow m (Reg.TRN_OUT + 4) 1) := by
  simp only [trnOutRead, h]

theorem trnOutRead_withheld {m : Master} {s s1 : State} (h : drbg 4 s = (none, s1)) :
    trnOutRead m s = (0, s1.setShadow m (Reg.TRN_OUT + 4) 0) := by
  simp only [trnOutRead, h]

/-! ### Crypto operations (R771, R777) -/

theorem cryComplete_refused {k num : Nat} {s : State} {op : CryOp} {st : CryStatus}
    (hop : s.cry.find? (fun x => decide (x.th = k ∧ x.num = num)) = some op)
    (href : s.cryRefuse (cryDesc op.desc) k op.user op.access = some st) :
    cryComplete k num false s = cryDone op (cryDesc op.desc) st s := by
  simp only [cryComplete, hop, href]

/-- An operation that draws nothing from the DRBG and that no memory fails. -/
theorem cryComplete_runs {k num : Nat} {s s1 : State} {op : CryOp} {st : CryStatus}
    (hop : s.cry.find? (fun x => decide (x.th = k ∧ x.num = num)) = some op)
    (href : s.cryRefuse (cryDesc op.desc) k op.user op.access = none)
    (hwait : s.trn.waits.any (fun x => decide (x.2 = DrbgUser.crypto k num)) = false) (hdrbg : (cryDesc op.desc).op ≠ 0x0B)
    (hinj : s.inject Reg.CRY 0 = false) (hrun : cryRun op (cryDesc op.desc) s = (st, s1)) (hst : st ≠ .memErr) :
    cryComplete k num false s = cryDone op (cryDesc op.desc) st s1 := by
  simp only [cryComplete, hop, href, hwait, hdrbg, hinj, Bool.false_eq_true, if_false, false_and, or_self]
  rw [hrun]
  cases st with
  | memErr => exact absurd rfl hst
  | _ => rfl

/-- The one request that waits for the DRBG has waited too long. -/
theorem drbgTimeout_one {b : BT80} {k n : Nat} {s : State} {op : CryOp} (hout : s.withheld = true)
    (hwaits : s.trn.waits = [(b, .crypto k n)]) (hdue : s.elapsed b 50000 = true)
    (hop : s.cry.find? (fun x => decide (x.th = k ∧ x.num = n)) = some op) :
    drbgTimeout s = cryDone op (cryDesc op.desc) .noEntropy (s.count Reg.TRN_CNT_NOENT) := by
  simp only [drbgTimeout, hout, hwaits, Bool.true_eq_false, if_false, List.filter_cons, hdue, if_true, List.filter_nil,
    List.foldl_cons, List.foldl_nil, hop]

/-- Settles O51, event by event. -/
theorem keysAndEntropyAct : Obligations.KeysAndEntropyAct := by
  refine ⟨fun m v s h hord h0 h1 h2 => ⟨fun k ctr hk => ?_, fun r hr => ?_⟩, fun k ctr s h hacc => ?_,
    fun m v k ctr s s1 h hord h0 h1 h2 hbusy hstaged hs1 => ⟨fun hlc => ?_, fun hlc => ?_⟩,
    fun k ctr s s0 s1 h hcom hs0 hs1 hlc => ?_, fun m v s h hord h0 h1 h2 hbusy => ?_, fun apt s h => ?_,
    fun s s1 h htest hinj hs1 hfail => ?_, fun s h hout hdue => ?_, fun m s s1 h => ⟨fun l hl => ?_, fun hl => ?_⟩,
    fun e t n op s h hop => ⟨fun st href => ?_, fun st s1 href hwait hdrbg hinj hrun hst => ?_⟩,
    fun b k n op s h hout hwaits hdue hop => ?_, fun m v s h hord => ?_, fun k ctr s s1 h hcom hlc hs1 => ?_⟩
  · exact show execKeyStage m v s = _ from (cmdW_reaches h).trans (by
      rw [wrKeyCmd_inOrder hord, keyCmd_stage h0 h1 h2, keyStage_accepts hk])
  · exact show execKeyStage m v s = _ from (cmdW_reaches h).trans (by
      rw [wrKeyCmd_inOrder hord, keyCmd_stage h0 h1 h2, keyStage_refuses hr])
  · exact show execKeyStaged s = _ from (cmdE_live h).trans (by rw [keyStaged_accepted hacc rfl])
  · exact show execKeyCommit m v s = _ from (cmdW_reaches h).trans (by
      rw [wrKeyCmd_inOrder hord, keyCmd_commit h0 h1 h2, keyCommit_staged hbusy hstaged hs1, if_pos hlc])
  · exact show execKeyCommit m v s = _ from (cmdW_reaches h).trans (by
      rw [wrKeyCmd_inOrder hord, keyCmd_commit h0 h1 h2, keyCommit_staged hbusy hstaged hs1, if_neg hlc])
  · exact show execKeyCommitted s = _ from (cmdE_live h).trans (by rw [keyCommitted_field hcom hs0 hs1 hlc])
  · exact show execKeyDiscard m v s = _ from (cmdW_reaches h).trans (by
      rw [wrKeyCmd_inOrder hord, keyCmd_discard h0 h1 h2, keyDiscard_idle hbusy])
  · exact show execTrngHealth apt s = _ from (cmdE_live h).trans (by rw [trnHealth])
  · exact show execTrngResumed s = _ from (cmdE_live h).trans (by rw [trnResumed_latched htest hinj hs1 hfail])
  · exact show execDrbgReseed s = _ from (cmdE_live h).trans (by rw [trnReseed_due hout hdue])
  · exact show execTrnOutRead m s = _ from (cmdRd_reaches h).trans (by rw [trnOutRead_draws hl])
  · exact show execTrnOutRead m s = _ from (cmdRd_reaches h).trans (by rw [trnOutRead_withheld hl])
  · exact show execCryptoComplete e t n false s = _ from (cmdE_live h).trans (by rw [cryComplete_refused hop href])
  · exact show execCryptoComplete e t n false s = _ from (cmdE_live h).trans (by
      rw [cryComplete_runs hop href hwait hdrbg hinj hrun hst])
  · exact show execDrbgWaitTimeout s = _ from (cmdE_live h).trans (by rw [drbgTimeout_one hout hwaits hdue hop])
  · exact show execKeyCommit m v s = _ from (cmdW_reaches h).trans (by rw [wrKeyCmd_outOfOrder hord])
  · exact show execKeyCommitted s = _ from (cmdE_live h).trans (by rw [keyCommitted_debug hcom hlc hs1])

/-! ### The life cycle (R779 to R786) -/

/-- A write of LCS_CMD by the host that is confirmed: the transition, or its refusal. -/
theorem wrLcsCmd_confirmed {v : Word} {cmd : Nat} {s : State} (hcmd : fld v 0 3 = cmd) (hlo : 2 ≤ cmd) (hconf : fld v 16 16 = 0x4C43) :
    (∀ st, lcsTransition cmd s = .ok st → wrLcsCmd .host v s = lifeCycleTo st s) ∧
    (∀ r, lcsTransition cmd s = .error r →
      wrLcsCmd .host v s = lcsRefuse r (if cmd = 4 ∨ cmd = 5 then dropChallenge s else s)) := by
  have h0 : cmd ≠ 0 := by omega
  have h1 : cmd ≠ 1 := by omega
  refine ⟨fun st hst => ?_, fun r hr => ?_⟩
  · simp only [wrLcsCmd, hcmd, h0, h1, hconf, hst, ne_eq, not_true_eq_false, false_and, and_false, if_false]
  · simp only [wrLcsCmd, hcmd, h0, h1, hconf, hr, ne_eq, not_true_eq_false, false_and, and_false, if_false]

theorem lcsTransition_provision {s : State} (hlc : s.lifeCycle = 0) (howner : ∃ i < 8, s.reg (Reg.LCS_OWNER i) ≠ 0) :
    lcsTransition 2 s = .ok 1 := by
  obtain ⟨i, hi, hne⟩ := howner
  have hall : ((List.range 8).all fun i => s.reg (Reg.LCS_OWNER i) == 0) = false :=
    List.all_eq_false.mpr ⟨i, List.mem_range.mpr hi, by simpa using hne⟩
  unfold lcsTransition
  rw [hlc]
  exact if_neg (by rw [hall]; exact Bool.false_ne_true)

theorem lcsTransition_debug {s : State} (h : s.lifeCycle = 1 ∨ s.lifeCycle = 2 ∧ tokenRej s 1 = none) : lcsTransition 4 s = .ok 3 := by
  unfold lcsTransition
  obtain hlc | ⟨hlc, htok⟩ := h
  · rw [hlc]; rfl
  · simp only [hlc, htok]

theorem lcsTransition_retire {s : State} (h : s.lifeCycle = 0 ∨ (s.lifeCycle = 1 ∨ s.lifeCycle = 2) ∧ tokenRej s 2 = none) :
    lcsTransition 5 s = .ok 4 := by
  unfold lcsTransition
  obtain hlc | ⟨hlc | hlc, htok⟩ := h
  · rw [hlc]; rfl
  · simp only [hlc, htok]
  · simp only [hlc, htok]

theorem wrLcsCmd_challenge {v : Word} {l : List Byte} {s s1 : State} (hcmd : fld v 0 3 = 1) (hdrbg : drbg 16 s = (some l, s1)) :
    wrLcsCmd .host v s = raiseEvt Reg.LCS 1
      (((forN 4 (fun i a => a.setReg (Reg.LCS_CHAL i) (keyWord l i)) s1).setRb Reg.LCS_STAT 8 true).setRf Reg.LCS_STAT 0 4 0) := by
  have hchal : wrLcsCmd .host v s = lcsChallenge s := by
    simp only [wrLcsCmd, hcmd, Nat.reduceEqDiff, ne_eq, not_true_eq_false, false_and, if_false, if_true]
  rw [hchal, lcsChallenge, hdrbg]

/-- FIELD by the calendar is refused for its source. -/
theorem wrLcsCmd_source {v : Word} {s : State} (hcmd : fld v 0 3 = 3) : wrLcsCmd .calendar v s = lcsRefuse .source s := by
  simp only [wrLcsCmd, hcmd, ne_eq, reduceCtorEq, not_false_eq_true, and_self, Nat.reduceEqDiff, or_self, if_false,
    if_true]

theorem wrLcsCmd_unconfirmed {v : Word} {s : State} (hcmd : fld v 0 3 = 3) (hconf : fld v 16 16 ≠ 0x4C43) :
    wrLcsCmd .host v s = lcsRefuse .confirm s := by
  simp only [wrLcsCmd, hcmd, hconf, ne_eq, not_true_eq_false, not_false_eq_true, false_and,
    Nat.reduceLeDiff, and_self, Nat.reduceEqDiff, or_self, if_false, if_true]

/-- Settles O52, command by command. -/
theorem lifeCycleActs : Obligations.LifeCycleActs := by
  refine ⟨fun v l s s1 h hcmd hdrbg => ?_, fun v s h hconf => ⟨fun hcmd hlc howner => ?_, fun hcmd hlc => ?_, fun hcmd hlc => ?_,
    fun hcmd hlc => ?_, fun hcmd hlc r hr => ?_⟩, fun v s h hcmd => ?_, fun v s h hcmd hconf => ?_⟩
  · exact show execLcsChallenge .host v s = _ from (cmdW_reaches h).trans (by rw [wrLcsCmd_challenge hcmd hdrbg])
  · exact show execLcsProvision .host v s = _ from (cmdW_reaches h).trans (by
      rw [(wrLcsCmd_confirmed hcmd (by decide) hconf).1 1 (lcsTransition_provision hlc howner)])
  · exact show execLcsField .host v s = _ from (cmdW_reaches h).trans (by
      rw [(wrLcsCmd_confirmed hcmd (by decide) hconf).1 2 (by unfold lcsTransition; rw [hlc]; rfl)])
  · exact show execLcsDebug .host v s = _ from (cmdW_reaches h).trans (by
      rw [(wrLcsCmd_confirmed hcmd (by decide) hconf).1 3 (lcsTransition_debug hlc)])
  · exact show execLcsRetire .host v s = _ from (cmdW_reaches h).trans (by
      rw [(wrLcsCmd_confirmed hcmd (by decide) hconf).1 4 (lcsTransition_retire hlc)])
  · exact show execLcsDebug .host v s = _ from (cmdW_reaches h).trans (by
      rw [(wrLcsCmd_confirmed hcmd (by decide) hconf).2 r (by unfold lcsTransition; simp only [hlc, hr]), if_pos (Or.inl rfl), lcsRefuse])
  · exact show execLcsField .calendar v s = _ from (cmdW_reaches h).trans (by rw [wrLcsCmd_source hcmd, lcsRefuse, LcsRej.code])
  · exact show execLcsField .host v s = _ from (cmdW_reaches h).trans (by rw [wrLcsCmd_unconfirmed hcmd hconf, lcsRefuse, LcsRej.code])

end Sys2Proof.Machine
end

section

/-! # Proofs: the frames, the time and the roles of the mate (R794 to R816) -/

namespace Sys2Proof.Machine

/-! ### Frames received (R798 to R800, R810 to R812) -/

section Receive
variable {l : Nat} {d : List Byte} {s s1 : State} (hon : s.mateOn = true) (hup : s.rb Reg.MATE_STAT (6 + l) = true)
include hon hup

theorem mateReceive_malformed (hbad : s.mateOk d = false) : mateReceive l d s = mateMalf l d s := by
  simp only [mateReceive, hon, hup, hbad, Bool.not_true, Bool.or_self, Bool.false_eq_true, if_false, if_true]

variable (hok : s.mateOk d = true) (hs1 : mateValid l s = s1)
include hok hs1

/-- A valid frame on a lane that is up is taken by its type. -/
theorem mateReceive_valid :
    (beAt d 0 1 = 1 → mateReceive l d s = mateHealth d s1) ∧
    (beAt d 0 1 = 2 → mateReceive l d s = mateTime (BitVec.ofNat 96 (beAt d 16 12)) s1) ∧
    (beAt d 0 1 = 3 → mateReceive l d s = mateMirrored d s1) ∧
    (beAt d 0 1 = 4 → mateReceive l d s = mateCtrlFrame d s1) := by
  have hgo : ¬ (!s.mateOn || !s.rb Reg.MATE_STAT (6 + l)) = true := by rw [hon, hup]; decide
  have hgood : ¬ s.mateOk d = false := by rw [hok]; decide
  refine ⟨fun ht => ?_, fun ht => ?_, fun ht => ?_, fun ht => ?_⟩
  · rw [mateReceive, if_neg hgo, if_neg hgood, hs1, ht]; rfl
  · rw [mateReceive, if_neg hgo, if_neg hgood, hs1, ht]; rfl
  · rw [mateReceive, if_neg hgo, if_neg hgood, hs1, ht]; rfl
  · rw [mateReceive, if_neg hgo, if_neg hgood, hs1, ht]; rfl

end Receive

/-- A CTRL frame by its op. -/
theorem mateCtrlFrame_op {d : List Byte} {s : State} {due : WT96} (hdue : BitVec.ofNat 96 (beAt d 20 12) = due) :
    (beAt d 16 1 = 1 → mateCtrlFrame d s = mateArmed due s) ∧
    (beAt d 16 1 = 2 → mateCtrlFrame d s = mateAcked due s) ∧
    (beAt d 16 1 = 3 → mateCtrlFrame d s =
      { s with mate := { s.mate with ho := s.mate.ho.filter (fun h => decide (h.due ≠ due)) } }) ∧
    (beAt d 16 1 = 4 → mateCtrlFrame d s = raiseEvt Reg.MATE 9 s) := by
  refine ⟨fun ho => ?_, fun ho => ?_, fun ho => ?_, fun ho => ?_⟩
  · simp only [mateCtrlFrame, hdue, ho]
  · simp only [mateCtrlFrame, hdue, ho]
  · simp only [mateCtrlFrame, hdue, ho]
  · simp only [mateCtrlFrame, ho]

/-! ### Mirrored state that the active sends (R810) -/

theorem mirrorSend_queued {b : List Byte} {l : List (List Byte)} {s : State} (hon : s.mateOn = true) (hrole : s.mrole = .active)
    (hq : s.mate.mirrorQ = b :: l) : mirrorSend s = mateSend .mirror b { s with mate := { s.mate with mirrorQ := l } } := by
  simp [mirrorSend, hon, hrole, hq]

theorem mirrorSend_popped {e : List Byte} {s s1 : State} (hon : s.mateOn = true) (hrole : s.mrole = .active)
    (hq : s.mate.mirrorQ = []) (hpop : queuePop (s.rf Reg.MATE_MQ 0 18) s = (.ok, e, s1)) :
    mirrorSend s = mateSend .mirror (bytesBE 1 3 ++ [0, 0, 0] ++ sliceB e 0 64) s1 := by
  simp [mirrorSend, hon, hrole, hq, hpop]

/-- Settles O53, frame by frame. -/
theorem mateFramesAreTaken : Obligations.MateFramesAreTaken := by
  refine ⟨fun l d s s1 h hon hup hok hs1 ht => ?_, fun l d s s1 h hon hup hok hs1 ht => ?_, fun l d s s1 h hon hup hok hs1 ht => ?_,
    fun l d s s1 h hon hup hok hs1 ht ho => ?_, fun l d s s1 h hon hup hok hs1 ht ho => ?_, fun l d s s1 h hon hup hok hs1 ht ho => ?_,
    fun l d s s1 h hon hup hok hs1 ht ho => ?_, fun l d s h hon hup hbad => ?_, fun l s h => ⟨?_, ?_⟩,
    fun s h hon hrole => ⟨fun b l hq => ?_, fun e s1 hq hpop => ?_⟩⟩
  · exact show execHealthFrame l d s = _ from (cmdT_acts h).trans (by rw [(mateReceive_valid hon hup hok hs1).1 ht])
  · exact show execTimeFrame l d s = _ from (cmdT_acts h).trans (by rw [(mateReceive_valid hon hup hok hs1).2.1 ht])
  · exact show execMirrorFrame l d s = _ from (cmdT_acts h).trans (by rw [(mateReceive_valid hon hup hok hs1).2.2.1 ht])
  · exact show execArmHo l d s = _ from (cmdT_acts h).trans (by
      rw [(mateReceive_valid hon hup hok hs1).2.2.2 ht, (mateCtrlFrame_op rfl).1 ho])
  · exact show execAckHo l d s = _ from (cmdT_acts h).trans (by
      rw [(mateReceive_valid hon hup hok hs1).2.2.2 ht, (mateCtrlFrame_op rfl).2.1 ho])
  · exact show execAbortHo l d s = _ from (cmdT_acts h).trans (by
      rw [(mateReceive_valid hon hup hok hs1).2.2.2 ht, (mateCtrlFrame_op rfl).2.2.1 ho])
  · exact show execResyncReq l d s = _ from (cmdT_acts h).trans (by
      rw [(mateReceive_valid hon hup hok hs1).2.2.2 ht, (mateCtrlFrame_op rfl).2.2.2 ho])
  · exact show execHealthFrame l d s = _ from (cmdT_acts h).trans (by rw [mateReceive_malformed hon hup hbad])
  · exact show execMateLaneUp l s = _ from (cmdE_live h).trans (by rw [mateLane])
  · exact show execMateLaneDown l s = _ from (cmdE_live h).trans (by rw [mateLane])
  · exact show execMirrorSend s = _ from (cmdT_acts h).trans (by rw [mirrorSend_queued hon hrole hq])
  · exact show execMirrorSend s = _ from (cmdT_acts h).trans (by rw [mirrorSend_popped hon hrole hq hpop])

end Sys2Proof.Machine
end

section

/-! # Proofs: the time, the health and the roles of the mate (R797 to R816) -/

namespace Sys2Proof.Machine

/-! ### Pulses, publication and intervals (R797, R801, R803) -/

/-- The pulse of a millisecond that served time reaches in this cycle. -/
theorem matePulse_due {s : State} {t : WT96} {b b2 : BT80} (hon : s.mateOn = true)
    (ht : BitVec.ofNat 96 ((s.bdr.par.served (s.bt + 65535)).toNat / 65536000000 * 65536000000) = t)
    (hdue : earlier (s.bdr.par.served (s.bt - 1)) t = true) (hb : s.bt + BitVec.ofNat 80 (leastReach s.bdr.par t s.bt 17 0 65535) = b)
    (hb2 : b + BitVec.ofNat 80 (leastReach s.bdr.par (t + wtNs 100000) b 34 0 (2 ^ 34)) = b2) :
    matePulse s = mateTimeFrame t (matePin false b2 (matePin true b s)) := by
  simp only [matePulse, hon, Nat.reduceMul, ht, hdue, hb, hb2, Bool.not_true, Bool.or_self, Bool.false_eq_true, if_false]

theorem healthPublish_due {s s1 s2 : State} (hon : s.mateOn = true) (hgrid : s.onGrid = true)
    (hs1 : mateSend .health (bytesBE 4 s.healthWord.toNat ++ bytesBE 12 s.now.toNat) (s.setReg Reg.MATE_HW s.healthWord) = s1)
    (hs2 : (if bit s.healthWord 2 then { s1 with mate := { s1.mate with healthOut := !s1.mate.healthOut } }.emit
      (.pin "MATE_HEALTH_OUT" (!s1.mate.healthOut)) else s1) = s2) :
    healthPublish s = if s2.inject Reg.MATE 0 then fault .mate 0 4 s2 else s2 := by
  subst hs1 hs2
  rw [healthPublish, if_neg (by simp [hon, hgrid])]

section Interval
variable {s : State} (hon : s.mateOn = true) (hgrid : s.onGrid = true)
include hon hgrid

/-- An interval in which a word of the peer was heard. -/
theorem healthInterval_heard (hheard : s.mate.heard = true) :
    healthInterval false s =
      mateEval ({ s with mate := { s.mate with heard := false, missRow := 0 } }.setRb Reg.MATE_STAT 5 true) := by
  rw [healthInterval, if_neg (by simp [hon, hgrid])]
  simp only [Bool.false_eq_true, if_false, hheard, Bool.or_false, if_true]

/-- An interval without a sign of the peer. -/
theorem healthInterval_silent (hheard : s.mate.heard = false) :
    healthInterval false s = mateEval (raiseEvt Reg.MATE 1
      (({ s with mate := { s.mate with missRow := s.mate.missRow + 1 } }.setRb Reg.MATE_STAT 5 false).count Reg.MATE_CNT_MISS)) := by
  rw [healthInterval, if_neg (by simp [hon, hgrid])]
  simp only [Bool.false_eq_true, if_false, hheard, Bool.or_self]

/-- An interval in which MATE_HEALTH_IN toggled. -/
theorem healthInterval_toggled {u : State} (hu : s.setRb Reg.MATE_STAT 10 (!s.rb Reg.MATE_STAT 10) = u) :
    healthInterval true s =
      mateEval ({ u with mate := { u.mate with heard := false, missRow := 0, lastHeard := u.bt } }.setRb Reg.MATE_STAT 5 true) := by
  rw [healthInterval, if_neg (by simp [hon, hgrid])]
  simp only [if_true, hu, Bool.or_true]

end Interval

/-- The mean of the captures paired in the served second just ended. -/
theorem residUpdate_mean {mean : Int} {s : State} (hsec : s.mate.residSec < wholeSec s.now) (hcnt : s.mate.residCnt ≠ 0)
    (hmean : rne (s.mate.residSum * 1000) (s.mate.residCnt * 65536) = mean) :
    residUpdate s =
      (let m := { s.mate with residSec := wholeSec s.now, residSum := 0, residCnt := 0, paired := s.mate.residCnt }
       mateEval ({ s with mate := m }.setReg Reg.MATE_RESID (BitVec.ofInt 32 mean))) := by
  simp only [residUpdate, Nat.not_le.mpr hsec, hcnt, hmean, if_false]

/-! ### Roles (R804, R811, R814, R816) -/

theorem discoveryTimeout_over {s : State} (hon : s.mateOn = true) (hrole : s.mrole = .solo) (hin : s.activeIn = false)
    (hlow : s.mate.activeLow = none) (hover : s.elapsed s.mate.lastHeard (s.rf Reg.MATE_CFG 16 16 * 10000000) = true) :
    discoveryTimeout s = setRole .active .discovery s := by
  simp only [discoveryTimeout, hon, hrole, hin, hlow, hover, decide_true, Bool.not_false, Bool.and_self, if_true]

theorem activeInChange_high {s : State} :
    activeInChange true s = mateEval ({ s with mate := { s.mate with activeLow := none } }.setRb Reg.MATE_STAT 9 true) := rfl

theorem activeInChange_low {s : State} (hin : s.activeIn = true) :
    activeInChange false s = mateEval ({ s with mate := { s.mate with activeLow := some s.bt } }.setRb Reg.MATE_STAT 9 false) := by
  simp only [activeInChange, hin, Bool.true_or, if_true, Bool.false_eq_true, if_false]

theorem wrMateCmd_rejoin {v : Word} {s : State} (h0 : bit v 0 = true) (h1 : bit v 1 = false) (hrole : s.mrole = .isolated) :
    wrMateCmd v s = mateEval (if s.activeIn then setRole .standby .command s else setRole .solo .command s) := by
  simp only [wrMateCmd, h0, h1, hrole, Bool.false_eq_true, if_false, decide_true, Bool.and_self, if_true]

theorem wrMateCmd_isolate {v : Word} {s : State} (h0 : bit v 0 = false) (h1 : bit v 1 = true) :
    wrMateCmd v s = mateEval (mateIsolate .command s) := by
  simp only [wrMateCmd, h0, h1, if_true, Bool.false_and, Bool.false_eq_true, if_false]

theorem hoLeave_due {s s1 : State} {b : BT80} (hat : s.mate.leaveAt = some b) (hdue : earlier s.bt b = false)
    (hs1 : { s with mate := { s.mate with leaveAt := none, oldWord := true } } = s1) (hrole : s1.mrole = .active) :
    hoLeave s = mateEval (raiseEvt Reg.MATE 7 (setRole .standby (if s.mate.hoRev then .reversion else .handover) s1)) := by
  simp only [hoLeave, hat, hdue, Bool.false_eq_true, if_false, hs1, hrole, if_true]

theorem reversionArm_due {w : Word} {s : State} (hon : s.mateOn = true) (hcfg : s.rb Reg.MATE_CFG 1 = true)
    (hpref : s.preferred = true) (hrole : s.mrole = .standby) (hhold : s.holdoffDone = true) (hpeer : s.mate.peerHw = some w)
    (hact : fld w 0 2 = 1) (hnone : s.mate.ho.any (fun h => h.reversion) = false) :
    reversionArm s = actArm (s.rf Reg.MATE_REV 0 12) 5 false 0 true (s.setRegN (slotAddr (s.rf Reg.MATE_REV 0 12) 0)
      ((cdiv s.now.toNat (65536 * 1000000000) + s.rf Reg.MATE_REV 16 8) * 1000000000 * 65536) 3) := by
  simp only [reversionArm, hon, hcfg, hpref, hrole, hhold, hpeer, hact, hnone, decide_true, Bool.not_false, Bool.and_self, if_true]

theorem selftestTimeout_over {s : State} {b : BT80} (hat : s.mate.stAt = some b)
    (hover : s.elapsed b (s.rf Reg.MATE_SWGOOD 16 16 * 1000000) = true) :
    selftestTimeout s = mateEval ({ s with mate := { s.mate with stAt := none } }.setRb Reg.MATE_SWGOOD 0 false) := by
  simp only [selftestTimeout, hat, hover, if_true]

theorem shadowRestore_over {s : State} {b : BT80} (hat : s.mate.shadowBad = some b) (hover : s.elapsed b 10000000000 = true) :
    shadowRestore s = mateEval { s with mate := { s.mate with shadowBad := none } } := by
  simp only [shadowRestore, hat, hover, if_true]

theorem State.slaveOk_iff (s : State) : s.slaveOk = true ↔ s.mrole = .standby ∧ 900 ≤ s.mate.paired ∧
    (s.reg Reg.MATE_RESID).toInt.natAbs ≤ s.rf Reg.MATE_SLV_LIM 0 16 := by
  simp only [State.slaveOk, Bool.and_eq_true, decide_eq_true_eq, and_assoc]

theorem State.shadowOk_iff (s : State) : s.shadowOk = true ↔ s.mrole = .standby ∧ s.mate.shadowBad = none := by
  simp only [State.shadowOk, Bool.and_eq_true, decide_eq_true_eq, Option.isNone_iff_eq_none]

/-- Settles O54, event by event. -/
theorem mateRolesChange : Obligations.MateRolesChange := by
  refine ⟨fun s t b b2 h hon ht hdue hb hb2 => ?_, fun s s1 s2 h hon hgrid hs1 hs2 => ?_,
    fun s h hon hgrid => ⟨fun hheard => ?_, fun hheard => ?_⟩, fun mean s h hsec hcnt hmean => ?_,
    fun s h hon hrole hin hlow hover => ?_, fun s h => ⟨?_, fun hin => ?_⟩, fun m v s h h0 h1 hrole => ?_, fun m v s h h0 h1 => ?_,
    fun b s s1 h hat hdue hs1 hrole => ?_, fun w s h hon hcfg hpref hrole hhold hpeer hact hnone => ?_, fun b s h hat hover => ?_,
    fun b s h hat hover => ?_, fun s => ⟨s.slaveOk_iff, s.shadowOk_iff⟩, fun s h hon hgrid => ?_⟩
  · exact show execMatePpsPulse s = _ from (cmdT_acts h).trans (by rw [matePulse_due hon ht hdue hb hb2])
  · exact show execHealthPublish s = _ from (cmdT_acts h).trans (by rw [healthPublish_due hon hgrid hs1 hs2])
  · exact show execHealthInterval false s = _ from (cmdT_acts h).trans (by rw [healthInterval_heard hon hgrid hheard])
  · exact show execHealthInterval false s = _ from (cmdT_acts h).trans (by rw [healthInterval_silent hon hgrid hheard])
  · exact show execMateResidUpdate s = _ from (cmdT_acts h).trans (by rw [residUpdate_mean hsec hcnt hmean])
  · exact show execDiscoveryTimeout s = _ from (cmdT_acts h).trans (by rw [discoveryTimeout_over hon hrole hin hlow hover])
  · exact show execActiveInChange true s = _ from (cmdE_live h).trans (by rw [activeInChange_high])
  · exact show execActiveInChange false s = _ from (cmdE_live h).trans (by rw [activeInChange_low hin])
  · exact show execMateRejoin m v s = _ from (cmdW_reaches h).trans (by rw [wrMateCmd_rejoin h0 h1 hrole])
  · exact show execMateIsolate m v s = _ from (cmdW_reaches h).trans (by rw [wrMateCmd_isolate h0 h1])
  · exact show execHoDone s = _ from (cmdT_acts h).trans (by rw [hoLeave_due hat hdue hs1 hrole])
  · exact show execReversionArm s = _ from (cmdT_acts h).trans (by
      rw [reversionArm_due hon hcfg hpref hrole hhold hpeer hact hnone])
  · exact show execSelftestTimeout s = _ from (cmdT_acts h).trans (by rw [selftestTimeout_over hat hover])
  · exact show execShadowRestore s = _ from (cmdT_acts h).trans (by rw [shadowRestore_over hat hover])
  · exact show execHealthInterval true s = _ from (cmdT_acts h).trans (by rw [healthInterval_toggled hon hgrid rfl])

end Sys2Proof.Machine
end

section

/-! # Proofs: faults and their handling (R822 to R830) -/

namespace Sys2Proof.Machine

/-! ### Rise and expiry (R823, R825) -/

theorem faultRise_source {pg n inst i : Nat} {k : PageKind} {s : State} (hpage : pageKindOf pg = some (k, inst))
    (hsrc : srcOf k inst n = some i) (hk : k ≠ .trn) : faultRise pg n s = fault k inst n s := by
  simp only [faultRise, hpage, hsrc, hk, Option.isNone_some, Bool.false_eq_true, if_false, false_and]

theorem escDue_of_elapsed {n : Nat} {b : BT80} {s : State} (htimer : AMap.get none s.flt.timers n = some b)
    (hover : s.elapsed b (1000 * s.rf Reg.FLT_ESC 0 20) = true) (hack : s.rb (Reg.FLT_SRC n) 30 = false) (hsev : s.sevNow n = 2) :
    s.escDue n = true := by
  simp only [State.escDue, htimer, hover, hack, hsev, decide_true, Bool.not_false, Bool.and_self]

theorem escalateDue_due {n : Nat} {s : State} (hdue : s.escDue n = true) :
    escalateDue n s = { s with flt := { s.flt with escs := insNat s.flt.escs n } } := if_pos hdue

/-! ### Writes of a source's register (R826, R827, R830) -/

theorem fltAck_raised {n : Nat} {s : State} (hup : s.rb (Reg.FLT_SRC n) 31 = true) (hsev : s.sevNow n = 2)
    (hesc : s.rb (Reg.FLT_SRC n) 29 = false) : fltAck n s = cancelTimer n (s.setRb (Reg.FLT_SRC n) 30 true) :=
  if_pos ⟨hup, hsev, hesc⟩

/-- ACK of a raised MAJOR source that stays MAJOR. -/
theorem wrFltSrc_ack {n : Nat} {v : Word} {s s2 : State} (hbit : bit v 28 = true) (hup : s.rb (Reg.FLT_SRC n) 31 = true)
    (hsev : s.sevNow n = 2) (hesc : s.rb (Reg.FLT_SRC n) 29 = false) (hv : fld v 0 2 = 2) (hdom : domOk (fld v 16 6) = true)
    (hs2 : (((cancelTimer n (s.setRb (Reg.FLT_SRC n) 30 true)).setRf (Reg.FLT_SRC n) 0 2 2).setRf (Reg.FLT_SRC n) 16 6
      (fld v 16 6)) = s2) (hsame : s2.sevNow n = 2) : wrFltSrc n v s = s2 := by
  have hkeep : ¬ (s.rf (Reg.FLT_SRC n) 0 2 = 2 ∧ fld v 0 2 ≠ 2) := fun h => h.2 hv
  rw [wrFltSrc, if_pos hbit, fltAck_raised hup hsev hesc, if_neg hkeep, if_pos hdom, hv, hs2, hsev, hsame, if_pos rfl]

section Severity
variable {n : Nat} {v : Word} {s s1 s2 : State} (hbit : bit v 28 = false) (hdom : domOk (fld v 16 6) = true)
  (hs1 : s.setRf (Reg.FLT_SRC n) 0 2 (fld v 0 2) = s1)
  (hs2 : (if s.rf (Reg.FLT_SRC n) 0 2 = 2 ∧ fld v 0 2 ≠ 2 then cancelTimer n s1 else s1).setRf (Reg.FLT_SRC n) 16 6 (fld v 16 6) = s2)
include hbit hdom hs1 hs2

/-- A write of SEV and DOM that keeps the severity in force. -/
theorem wrFltSrc_same (hsame : s2.sevNow n = s.sevNow n) : wrFltSrc n v s = s2 := by
  rw [wrFltSrc, if_neg (Bool.eq_false_iff.mp hbit), hs1, if_pos hdom, hs2, hsame, if_pos rfl]

/-- A raised source whose severity becomes CRITICAL. -/
theorem wrFltSrc_critical (hnew : s2.sevNow n = 3) (hold : s.sevNow n = 1) (hup : (showPin s2).rb (Reg.FLT_SRC n) 31 = true) :
    wrFltSrc n v s = critAct n (showPin s2) := by
  simp only [wrFltSrc, hbit, Bool.false_eq_true, if_false, hs1, hdom, if_true, hs2, hnew, hold, hup]
  rfl

end Severity

/-! ### The end of the cycle (R825, R828) -/

/-- The only source that escalates in a cycle. -/
theorem endFaults_single {n : Nat} {s s1 : State} (hescs : s.flt.escs = [n]) (hdue : s.escDue n = true)
    (hs1 : { s with flt := { s.flt with escs := [] } } = s1) (hacts : (escalate n s1).flt.acts ≠ []) :
    endFaults s = takeActions (escalate n s1) := by
  have hdue1 : s1.escDue n = true := hs1 ▸ hdue
  have hne : ¬ (escalate n s1).flt.acts.isEmpty = true := by simpa using hacts
  simp only [endFaults, hescs, hs1, List.foldl_cons, List.foldl_nil, hdue1, if_true, hne, Bool.false_eq_true, if_false]

/-- Raising an event changes one word: EVT_RAW of its page. -/
theorem reg_raiseEvt_of_ne {pg i b : Nat} {s : State} (hb : pg + 0x010 ≠ b) : (raiseEvt pg i s).reg b = s.reg b := by
  have hset : (s.hwSet (pg + 0x010) i).reg b = s.reg b := by
    unfold State.hwSet
    split
    · exact (State.reg_setRb ..).trans (if_neg hb)
    · exact (State.reg_setRb ..).trans (if_neg hb)
  unfold raiseEvt
  dsimp only
  split
  · exact hset
  · split
    · exact hset
    · exact hset

theorem rb_takeAction (code n a i : Nat) (s : State) : (takeAction code n s).rb a i = s.rb a i := rfl

theorem fltSrc_ne_of_lt {n b : Nat} (h : b < 0x00D0400) : Reg.FLT_SRC n ≠ b := by
  unfold Reg.FLT_SRC
  omega

/-- The words that an escalation of source n leaves alone up to the choice of its action. -/
theorem reg_escalated {n b : Nat} {s : State} (hevt : Reg.FLT + 0x010 ≠ b) (hcnt : Reg.FLT_CNT_ESC ≠ b) :
    (raiseEvt Reg.FLT 1 ((s.setRb (Reg.FLT_SRC n) 29 true).count Reg.FLT_CNT_ESC)).reg b =
      (s.setRb (Reg.FLT_SRC n) 29 true).reg b := by
  rw [reg_raiseEvt_of_ne hevt, State.reg_count, if_neg hcnt]

/-- No source has CRITICAL severity by FLT STORE while one is MAJOR (R834). -/
theorem fltStore_clear_of_major {n : Nat} {s : State} (h : s.sevNow n = 2) : s.fltBit Reg.FLT 0 = false := by
  cases hset : s.fltBit Reg.FLT 0
  · rfl
  · rw [State.sevNow, if_pos hset] at h
    exact absurd h (by decide)

theorem actFor_major {s : State} (h : s.fltBit Reg.FLT 0 = false) : s.actFor 2 = s.rf Reg.FLT_ACT 8 3 :=
  if_neg (Bool.eq_false_iff.mp h)

/-- The action that an escalation makes due is the one programmed for MAJOR. -/
theorem escalate_acts {n : Nat} {s : State} (h : s.fltBit Reg.FLT 0 = false) :
    (escalate n s).flt.acts.head? = some (n, s.rf Reg.FLT_ACT 8 3) := by
  obtain ⟨s1, hs1⟩ : ∃ s1 : State, { s with flt := { s.flt with timers := AMap.set none s.flt.timers n none } } = s1 := ⟨_, rfl⟩
  have hregs (b : Nat) : s1.reg b = s.reg b := by rw [← hs1]; rfl
  have hkeep (b : Nat) (hlow : b < 0x00D0400) (hevt : Reg.FLT + 0x010 ≠ b) (hcnt : Reg.FLT_CNT_ESC ≠ b) :
      (raiseEvt Reg.FLT 1 ((s1.setRb (Reg.FLT_SRC n) 29 true).count Reg.FLT_CNT_ESC)).reg b = s.reg b := by
    have hsrc : Reg.FLT_SRC n ≠ b := fltSrc_ne_of_lt hlow
    rw [reg_escalated hevt hcnt, State.reg_setRb, if_neg hsrc, hregs]
  have hstore := (congrArg (bit · 0) (hkeep (Reg.FLT + 0x020) (by decide) (by decide) (by decide))).trans h
  have hact := congrArg (fld · 8 3) (hkeep Reg.FLT_ACT (by decide) (by decide) (by decide))
  simp only [escalate, hs1, takeAction, List.head?_cons, actFor_major hstore]
  exact congrArg (fun x => some (n, x)) hact

/-- An escalation marks its source escalated. -/
theorem escalate_marks {n : Nat} {s : State} : (escalate n s).rb (Reg.FLT_SRC n) 29 = true := by
  obtain ⟨s1, hs1⟩ : ∃ s1 : State, { s with flt := { s.flt with timers := AMap.set none s.flt.timers n none } } = s1 := ⟨_, rfl⟩
  have hevt : Reg.FLT + 0x010 ≠ Reg.FLT_SRC n := (fltSrc_ne_of_lt (by decide)).symm
  have hcnt : Reg.FLT_CNT_ESC ≠ Reg.FLT_SRC n := (fltSrc_ne_of_lt (by decide)).symm
  rw [escalate, hs1, rb_takeAction, State.rb, reg_escalated hevt hcnt]
  exact (s1.rb_setRb_same (Reg.FLT_SRC n) 29 29 true (by decide)).trans (if_pos rfl)

/-- Settles O55: every clause but the last is the case of the collector's operation that its premises select; the action of an
escalation rests on the words that escalating leaves alone. -/
theorem faultsAreHandled : Obligations.FaultsAreHandled := by
  unfold Obligations.FaultsAreHandled
  refine ⟨?rise, ?expiry, ?ack, ?severity, ?atEnd, ?action⟩
  case rise =>
    intro page n s k inst i h hpage hsrc hk
    exact show execFaultRise page n s = _ from (cmdE_live h).trans (by rw [faultRise_source hpage hsrc hk])
  case expiry =>
    intro n b s h htimer hover hack hsev
    exact show execEscalated n s = _ from
      (cmdT_acts h).trans (by rw [escalateDue_due (escDue_of_elapsed htimer hover hack hsev)])
  case ack =>
    intro m n v s s2 h hbit hup hsev hesc hv hdom hs2 hsame
    exact show execFaultAck m n v s = _ from
      (cmdW_reaches h).trans (by rw [wrFltSrc_ack hbit hup hsev hesc hv hdom hs2 hsame])
  case severity =>
    intro m n v s s1 s2 h hbit hdom hs1 hs2
    refine ⟨fun hsame => ?_, fun hnew hold hup => ?_⟩
    · exact show execFaultSeverityWrite m n v s = _ from (cmdW_reaches h).trans (by rw [wrFltSrc_same hbit hdom hs1 hs2 hsame])
    · exact show execFaultSeverityWrite m n v s = _ from
        (cmdW_reaches h).trans (by rw [wrFltSrc_critical hbit hdom hs1 hs2 hnew hold hup])
  case atEnd =>
    intro n s s1 hescs hdue hs1 hacts
    exact endFaults_single hescs hdue hs1 hacts
  case action =>
    intro n s hsev
    exact ⟨escalate_acts (fltStore_clear_of_major hsev), escalate_marks⟩

end Sys2Proof.Machine

end

section

/-! # Proofs: masks, counters and the matrix (R836 to R873) -/

namespace Sys2Proof.Machine

/-! ### Performance counters (R843, R854) -/

theorem wrPmuCtr_hi {m : Master} {a c : Nat} {v : Word} {s : State} (hat : s.pmuAt m (a % 0x1000) = some (c, 2)) :
    wrPmuCtr m a v s = ((noteCtr c s).setCtr c { s.ctr c with
      count := BitVec.ofNat 48 (((s.stagedOf m (a - 4)).getD (s.pmuWord c 1)).toNat + 2 ^ 32 * fld v 0 16)
      ovf := bit v 31 || s.thisCyc.ctrWrap.contains c }).dropStaged m (a - 4) 2 := by
  simp only [wrPmuCtr, hat]
  rfl

theorem wrPmuCtl_clear {v : Word} {s s1 s2 : State} (hbit : bit v 1 = true) (hs1 : plainWrite Reg.PMU_CTL v s = s1)
    (hs2 : (s1.flt.counters.map (·.1)).foldl
      (fun a k => (noteCtr k a).setCtr k { a.ctr k with count := 0, ovf := s1.thisCyc.ctrWrap.contains k }) s1 = s2) :
    wrPmuCtl v s = { s2 with thisCyc := { s2.thisCyc with ctrClr := true } } := by
  simp only [wrPmuCtl, hs1, hbit, hs2, Bool.true_eq_false, if_false]

/-! ### The matrix (R860, R864, R865, R873) -/

/-- The request at the head of the matrix has waited too long. -/
theorem mtxTimeout_head {r : MtxReq} {rest : List MtxReq} {s : State} (hmtx : s.mtx = r :: rest) (hstage : r.stage ≠ .port)
    (hover : s.elapsed r.issued (s.rf Reg.MTX_TO 0 20 * 1000) = true) :
    mtxTimeout s = fault .mtx 0 0 (answeredErr r (busErr r.who r.addr 2 r.write (showHeld { s with mtx := rest }))) := by
  have hfind : s.mtx.find? (fun q => decide (q.stage ≠ .port)) = some r := by
    simp only [hmtx, List.find?_cons, hstage, ne_eq, not_false_eq_true, decide_true]
  simp only [mtxTimeout, hfind, hover, Bool.true_eq_false, if_false]
  rw [hmtx, List.erase_cons_head]

theorem pageAt_mtxCmd : ∃ p, pageAt Reg.MTX_CMD = some (p, 0, 0x044) ∧ p.kind = .mtx := by
  have h : (pageAt Reg.MTX_CMD).map (fun x => (x.1.kind, x.2)) = some (.mtx, 0, 0x044) := by decide +kernel
  obtain ⟨⟨p, x⟩, hp, hx⟩ := Option.map_eq_some_iff.mp h
  obtain ⟨hkind, rfl⟩ := Prod.mk.injEq .. ▸ hx
  exact ⟨p, hp, hkind⟩

theorem rowAt_mtxCmd : ∃ r x, rowAt .mtx 0x044 = some (r, x) ∧ r.takes = true := by
  have h : (rowAt .mtx 0x044).map (fun x => x.1.takes) = some true := by decide +kernel
  obtain ⟨⟨r, x⟩, hr, ht⟩ := Option.map_eq_some_iff.mp h
  exact ⟨r, x, hr, ht⟩

/-- A write of MTX_CMD.RECALC is shown in MTX_STAT until the sums stand. -/
theorem execCfgRecalc_starts {m : Master} {v : Word} {s : State} (h : Reaches m Reg.MTX_CMD s) (hbit : bit v 0 = true) :
    execCfgRecalc m v s = .next (wrote Reg.MTX_CMD s (s.setRb Reg.MTX_STAT 0 true)) := by
  obtain ⟨p, hp, hkind⟩ := pageAt_mtxCmd
  obtain ⟨r, x, hr, ht⟩ := rowAt_mtxCmd
  have hwin : windowOf Reg.MTX_CMD = .page := by decide
  have hbody : bodyWrite m none .mtx 0 0x044 Reg.MTX_CMD v s = s.setRb Reg.MTX_STAT 0 true := if_pos hbit
  have hcmd := writeCmd_body (v := v.toNat) ⟨h, hwin, by decide⟩ hp (by decide) (hkind ▸ hr) ht
  rw [hkind, ofNat_toNat_word, hbody] at hcmd
  exact hcmd

/-- What stands behind a request that need wait no longer. -/
theorem reqReady_spec {s : State} {pre : List MtxReq} {r : MtxReq} (h : s.reqReady pre r = true) :
    r.stage = .sent ∧ (∀ q ∈ pre, q.who = r.who → q.id ≠ r.id) ∧ s.reqDomain r = none := by
  simp only [State.reqReady, Bool.and_eq_true, decide_eq_true_eq, Bool.not_eq_true', List.any_eq_false, Option.isNone_iff_eq_none,
    not_and] at h
  obtain ⟨⟨⟨hstage, hfirst⟩, hdomain⟩, -⟩ := h
  exact ⟨hstage, hfirst, hdomain⟩

/-- Settles O56, clause by clause; RECALC as a word written to the body of the MTX page. -/
theorem countersAndMatrixAct : Obligations.CountersAndMatrixAct := by
  unfold Obligations.CountersAndMatrixAct
  refine ⟨?mask, ?counter, ?clear, ?timeout, ?late, ?recalc, ?recalcDone, ?events, ?ready⟩
  case mask =>
    intro m k v s h
    exact show execHmaskWrite m k v s = _ from cmdW_reaches h
  case counter =>
    intro m addr v s a c ha h hat
    subst ha
    exact show execPmuCounterHiWrite m addr v s = _ from (cmdW_reaches h).trans (by rw [wrPmuCtr_hi hat])
  case clear =>
    intro m v s s1 s2 h hbit hs1 hs2
    exact show execClrAll m v s = _ from (cmdW_reaches h).trans (by rw [wrPmuCtl_clear hbit hs1 hs2])
  case timeout =>
    intro r rest s h hmtx hstage hover
    exact show execMatrixTimeout s = _ from (cmdA_alive h).trans (by rw [mtxTimeout_head hmtx hstage hover])
  case late =>
    intro s h
    exact show execLateResponse s = _ from cmdE_live h
  case recalc =>
    intro m v s h _ hbit
    exact show execCfgRecalc m v s = _ from execCfgRecalc_starts h hbit
  case recalcDone =>
    intro s h
    exact show execRecalcDone s = _ from cmdE_live h
  case events =>
    intro s
    rfl
  case ready =>
    intro s pre r h
    exact reqReady_spec h

end Sys2Proof.Machine

end

section

/-! # Proofs: the memories are trained, scrubbed, remapped and journalled (R876 to R885, R919) -/

namespace Sys2Proof.Machine

/-! ### DRAM channels (R876, R877, R919) -/

theorem wrDdrCmd_init {ch : Nat} {v : Word} {s : State} (h0 : bit v 0 = true) (h1 : bit v 1 = false) :
    wrDdrCmd ch v s = (s.setDdrC ch { s.ddrC ch with training := true }).setRb (Reg.DDR_STAT ch) 0 false := by
  simp only [wrDdrCmd, h0, h1, if_true, Bool.false_eq_true, if_false]

theorem wrDdrCmd_scrub {ch : Nat} {v : Word} {s : State} (h0 : bit v 0 = false) (h1 : bit v 1 = true) :
    wrDdrCmd ch v s = s.setDdrC ch { s.ddrC ch with scrub := true } := by
  simp only [wrDdrCmd, h0, h1, if_true, Bool.false_eq_true, if_false]

theorem ddrTrained_training {ch : Nat} {s : State} (h : (s.ddrC ch).training = true) :
    ddrTrained ch s = ((if (s.ddrC ch).zeroed then s else ddrZero ch s).setDdrC ch
      { s.ddrC ch with training := false, zeroed := true }).setRf (Reg.DDR_STAT ch) 0 2 1 := by
  simp only [ddrTrained, h, Bool.true_eq_false, if_false]

/-- A pass that is due reports the uncorrectable words and then tracks the pages that it corrected. -/
theorem ddrScrub_due {ch : Nat} {pages : List (BitVec 24)} {s : State} (hup : s.ddrUp ch = true)
    (hdue : s.rf (Reg.DDR_SCRUB ch) 0 24 ≠ 0 ∨ (s.ddrC ch).scrub = true) :
    ddrScrub ch pages s = pages.foldl (fun a p => ddrCe ch p.toNat a)
      ((s.badWords.filter (fun p => p.2 && decide (2 ^ 40 + eaDram ≤ p.1) && decide (p.1 < 2 ^ 40 + eaDram + 2 ^ 35) &&
        inChannel ch (p.1 % 2 ^ 35))).foldl (fun a p => ddrUe (p.1 % 2 ^ 35) a) (s.setDdrC ch { s.ddrC ch with scrub := false })) := by
  have hgo : ¬ (s.ddrUp ch = false ∨ (s.rf (Reg.DDR_SCRUB ch) 0 24 = 0 ∧ (s.ddrC ch).scrub = false)) := by
    rintro (h | ⟨hperiod, hasked⟩)
    · exact Bool.eq_false_iff.mp h hup
    · exact hdue.elim (fun h => h hperiod) (Bool.eq_false_iff.mp hasked)
  rw [ddrScrub, if_neg hgo]

/-! ### The MRAM's scrub and remaps (R881 to R884) -/

theorem mramScrub_on {counts : List (Fin 128 × Byte)} {cnt : Nat → Nat} {s s1 : State} (hon : s.rf Reg.MRM_SCRUB 0 24 ≠ 0)
    (hcnt : ∀ k, cnt k = ((counts.find? (fun p => decide (p.1.val = k))).map (fun p => p.2.toNat)).getD 0)
    (hs1 : (s.badWords.filter (fun p => p.2 && decide (2 ^ 40 + eaMram ≤ p.1) && decide (p.1 < 2 ^ 40 + eaMram + 2 ^ 24))).foldl
      (fun a _ => fault .mrm 0 1 (a.count Reg.MRM_CNT_UE)) s = s1) :
    mramScrub counts s = forN 128 (fun (k : Nat) (a : State) => if s.rf Reg.MRM_WEAR_TH 0 8 ≤ cnt k then wearOut k a else a)
      (raiseEvt Reg.MRM 2 (forN 128 (fun k a => (a.setRf (Reg.MRM_WEAR (k / 4)) (8 * (k % 4)) 8 (cnt k)).countBy
        Reg.MRM_CNT_CORR (cnt k)) s1)) := by
  obtain rfl := funext hcnt
  simp only [mramScrub, hon, hs1, decide_eq_true_eq, if_false]

theorem wrMrmCmd_accepted {pc : Option DWord} {v : Word} {s : State} (hbit : bit v 8 = true) (hrej : s.remapRej pc (fld v 0 7) = 0) :
    wrMrmCmd pc v s = remapStart (fld v 0 7) (s.setRf Reg.MRM_STAT 12 4 0) := by
  simp only [wrMrmCmd, hbit, hrej, Bool.true_eq_false, if_false, if_true]

theorem wrMrmCmd_refused {pc : Option DWord} {v : Word} {s : State} (hbit : bit v 8 = true) (hrej : s.remapRej pc (fld v 0 7) ≠ 0) :
    wrMrmCmd pc v s = s.setRf Reg.MRM_STAT 12 4 (s.remapRej pc (fld v 0 7)) := by
  simp only [wrMrmCmd, hbit, hrej, Bool.true_eq_false, if_false]

/-- The end of a remap for which no write was held and behind which none waits. -/
theorem remapDone_last {k : Nat} {s s1 s2 : State} (hremap : s.mrm.remap = some k)
    (hs1 : (copySector (s.mramSector k) (128 + s.mrm.spares) s).setRf (Reg.MRM_MAP (k / 4)) (8 * (k % 4)) 8 (128 + s.mrm.spares) = s1)
    (hheld : s1.mrm.heldWr = [])
    (hs2 : raiseEvt Reg.MRM 0 ({ s1 with mrm := { s1.mrm with remap := none, spares := s1.mrm.spares + 1, heldWr := [] } }.setRb
      Reg.MRM_STAT 8 false) = s2) (hq : s2.mrm.remapQ = []) : remapDone s = s2 := by
  simp only [remapDone, hremap, hs1, hheld, List.foldl_nil, hs2, hq]

/-! ### Journalled writes (R885) -/

/-- Cluster 63 asks for a journalled write that is allowed and whose bytes can be read. -/
theorem wrJCmd_asks {v : Word} {s : State} (hbit : bit v 0 = true)
    (hok : journalOk (s.reg Reg.MRM_J_DST).toNat (s.rf Reg.MRM_J_LEN 0 13) = true)
    (hsrc : (s.reg Reg.MRM_J_SRC).toNat + s.rf Reg.MRM_J_LEN 0 13 ≤ 2 ^ 25)
    (hgood : s.memBad (eaSram + (s.reg Reg.MRM_J_SRC).toNat) (s.rf Reg.MRM_J_LEN 0 13) = false) :
    wrJCmd (.cluster 63) v s = journalAsk
      { ring := none, dst := (s.reg Reg.MRM_J_DST).toNat, data := s.sramRd (s.reg Reg.MRM_J_SRC).toNat (s.rf Reg.MRM_J_LEN 0 13) } s := by
  have hby : (decide ((63 : Fin 64).val = 63)) = true := by decide
  simp only [wrJCmd, hby, hbit, hok, Nat.not_lt.mpr hsrc, hgood, Bool.true_eq_false, Bool.false_eq_true, or_self, if_false]

theorem journalDone_software {w : JWrite} {s : State} (hactive : s.mrm.active = some w) (hring : w.ring = none) :
    journalDone s = journalEnd s := by
  simp only [journalDone, hactive, hring]

theorem journalAsk_idle {w : JWrite} {s : State} (h : s.mrm.active = none) :
    journalAsk w s = { s with mrm := { s.mrm with active := some w } }.setRf Reg.MRM_J_STAT 0 4 4 := by
  rw [journalAsk, if_neg (by simp [h]), journalStart]

theorem journalAsk_busy {w : JWrite} {s : State} (h : s.mrm.active.isSome = true) :
    journalAsk w s = { s with mrm := { s.mrm with waiting := s.mrm.waiting ++ [w] } } := if_pos h

/-- Settles O57, clause by clause. -/
theorem memoriesAreKept : Obligations.MemoriesAreKept := by
  unfold Obligations.MemoriesAreKept
  refine ⟨?init, ?trained, ?scrubNow, ?ddrPass, ?mramPass, ?remap, ?remapEnd, ?journal, ?journalEnd, ?journalAsk⟩
  case init =>
    intro m ch v s h h0 h1
    exact show execDdrInit m ch v s = _ from (cmdW_reaches h).trans (by rw [wrDdrCmd_init h0 h1])
  case trained =>
    intro ch s h ht
    refine ⟨fun hz => ?_, fun hz => ?_⟩
    · exact show execDdrTrained ch s = _ from (cmdE_live h).trans (by rw [ddrTrained_training ht, if_pos hz])
    · exact show execDdrTrained ch s = _ from
        (cmdE_live h).trans (by rw [ddrTrained_training ht, if_neg (Bool.eq_false_iff.mp hz)])
  case scrubNow =>
    intro m ch v s h h0 h1
    exact show execScrubNow m ch v s = _ from (cmdW_reaches h).trans (by rw [wrDdrCmd_scrub h0 h1])
  case ddrPass =>
    intro ch pages s h hup hdue
    exact show execDdrScrubPass ch pages s = _ from (cmdT_acts h).trans (by rw [ddrScrub_due hup hdue])
  case mramPass =>
    intro counts cnt s s1 h hon hcnt hs1
    exact show execMramScrubPass counts s = _ from (cmdT_acts h).trans (by rw [mramScrub_on hon hcnt hs1])
  case remap =>
    intro m pc v s h hbit
    refine ⟨fun hrej => ?_, fun hrej => ?_⟩
    · exact show execMramRemapRequest m pc v s = _ from (cmdW_reaches h).trans (by rw [wrMrmCmd_accepted hbit hrej])
    · exact show execMramRemapRequest m pc v s = _ from (cmdW_reaches h).trans (by rw [wrMrmCmd_refused hbit hrej])
  case remapEnd =>
    intro k s s1 s2 h hremap hs1 hheld hs2 hq
    exact show execMramRemapDone s = _ from (cmdT_acts h).trans (by rw [remapDone_last hremap hs1 hheld hs2 hq])
  case journal =>
    intro v s h hbit hok hsrc hgood
    exact show execJournalWrite (.cluster 63) v s = _ from (cmdW_reaches h).trans (by rw [wrJCmd_asks hbit hok hsrc hgood])
  case journalEnd =>
    intro w s h hactive hring
    exact show execJdone s = _ from (cmdT_acts h).trans (by rw [journalDone_software hactive hring])
  case journalAsk =>
    intro w s
    exact ⟨journalAsk_idle, journalAsk_busy⟩

end Sys2Proof.Machine

end

section

/-! # Proofs: the host's rings and its link (R887 to R893) -/

namespace Sys2Proof.Machine

/-! ### Command rings (R889, R891) -/

/-- The ring whose turn it is starts its next entry; an opcode that no command has ends the entry. -/
theorem ringStart_next {r : Nat} {seq : Word} {opcode : Nat} {s s1 : State} (hnext : s.crNext = some r)
    (hs1 : ringPartial r { seq := seq, opcode := opcode } 0 1 ({ s with pci := { s.pci with rr := r } }.setRingCmd r
      (some { seq := seq, opcode := opcode })) = s1) :
    ringStart r seq opcode s = if ringOps.contains opcode then s1 else ringEnd r 1 0 s1 := by
  simp only [ringStart, hnext, hs1, ne_eq, not_true_eq_false, if_false]

theorem ringDo_op {r op : Nat} {f : State → State} {c : RingCmd} {s : State} (hc : s.ringCmd r = some c) (hop : c.opcode = op) :
    ringDo r op f s = f s := by
  simp only [ringDo, hc, hop, if_true]

theorem ringOnce_running {r status : Nat} {c : RingCmd} {s : State} (hc : s.ringCmd r = some c) :
    ringOnce r status s = ringEnd r status 1 (ringPartial r c 1 1 s) := by
  simp only [ringOnce, hc]

theorem copyIn_sram {r addr : Nat} {data : List Byte} {s : State} (hlen : data.length ≤ 2 ^ 20)
    (hin : inSram addr data.length = true) : copyIn r addr data false s = ringOnce r 0 (s.sharedWr addr data) := by
  simp only [copyIn, hin, Nat.not_lt.mpr hlen, Bool.false_eq_true, if_false, if_true]

theorem copyOut_sram {r addr n res : Nat} {c : RingCmd} {s : State} (hc : s.ringCmd r = some c) (hlen : n ≤ 2 ^ 20)
    (hin : inSram addr n = true) (hgood : s.memBad addr n = false) :
    copyOut r addr n res false s = ringOnce r 0 (ringWr c res (s.sharedRd addr n) s) := by
  simp only [copyOut, hin, hgood, hc, Nat.not_lt.mpr hlen, Bool.false_eq_true, if_false, if_true]

/-- A journalled write has a length that MRAM_WRITE takes. -/
theorem length_of_journalOk {dst n : Nat} (h : journalOk dst n = true) : ¬ (n < 8 ∨ 4096 < n ∨ n % 8 ≠ 0) := by
  simp only [journalOk, Bool.and_eq_true, decide_eq_true_eq] at h
  omega

theorem mramWrite_journalled {r ofs : Nat} {data : List Byte} {s : State} (h : journalOk ofs data.length = true) :
    mramWrite r ofs data false s = journalAsk { ring := some r, dst := ofs, data := data } s := by
  simp only [mramWrite, length_of_journalOk h, h, Bool.false_eq_true, Bool.true_eq_false, if_false]

theorem mramWrite_badLength {r ofs : Nat} {data : List Byte} {s : State}
    (h : data.length < 8 ∨ 4096 < data.length ∨ data.length % 8 ≠ 0) : mramWrite r ofs data false s = ringEnd r 2 0 s := by
  simp only [mramWrite, h, Bool.false_eq_true, if_false, if_true]

/-- An MRAM_WRITE of a ring for which no journalled write is under way or waits. -/
theorem execMramWrite_runs {r : Fin 4} {ofs : Word} {data : List Byte} {c : RingCmd} {s : State} (h : Live Reg.PCI s)
    (hc : s.ringCmd r = some c) (hop : c.opcode = 0x0020) (hactive : s.mrm.active = none) (hwaiting : s.mrm.waiting = []) :
    execMramWrite r ofs data false s = .next (became s (mramWrite r ofs.toNat data false s)) := by
  refine (cmdE_live h).trans ?_
  rw [ringDo_op hc hop]
  simp only [hactive, hwaiting, Option.toList_none, List.any_nil, Bool.or_self, Bool.false_eq_true, if_false]

theorem ntsMint_minted {r addr : Nat} {block l : List Byte} {c1 : RingCmd} {st : MintStatus} {s s1 : State}
    (hlen : block.length = 72) (hmint : mint block s = (st, l, s1)) (hc1 : s1.ringCmd r = some c1) :
    ntsMint r block addr s = ringOnce r (if st = .ok then 0 else 4) (ringWr c1 addr l s1) := by
  simp only [ntsMint, hlen, hmint, hc1, ne_eq, not_true_eq_false, if_false]

/-! ### Transmit rings and the link (R887, R893) -/

/-- The entry of a transmit ring for which there is a buffer and room in the transmit queue. -/
theorem hostTx_queued {r port : Nat} {flags : Byte} {tag : Word} {data e : List Byte} {s s1 s2 : State} (hready : s.txReady r = true)
    (hpop : queuePop (s.rf (Reg.PCI_TX_FBQ r) 0 18) s = (.ok, e, s1))
    (hpush : blockPush (s.rf (Reg.PCI_TX_Q r) 0 18) (s.hostDesc r (leAt e 0 5) port data.length flags tag)
      (s1.sharedWr (leAt e 0 5) data) = (.ok, s2)) : hostTx r port flags tag data false s = txAdvance r s2 := by
  simp only [hostTx, hready, hpop, hpush, Bool.true_eq_false, Bool.false_eq_true, if_false]

theorem pcieLink_rises {lanes gen : Nat} {s : State} (hlink : s.pci.linkUp = false) :
    pcieLink true false lanes gen s = raiseEvt Reg.PCI 0
      ({ s with pci := { s.pci with linkUp := true, perst := false } }.setReg Reg.PCI_STAT
        (BitVec.ofNat 32 (1 + lanes * 2 + gen * 32))) := by
  have hstat : b2n true + (lanes * 2 + gen * 32) + b2n false * 256 = 1 + lanes * 2 + gen * 32 :=
    (Nat.add_assoc 1 (lanes * 2) (gen * 32)).symm
  simp only [pcieLink, hlink, hstat, Bool.not_false, Bool.and_true, Bool.false_and, Bool.false_eq_true, if_true, if_false]

end Sys2Proof.Machine

end

section

/-! # Proofs: the low-speed interfaces, with the obligation that takes them together with the host's rings (R887 to R900) -/

namespace Sys2Proof.Machine

/-! ### QSPI and I2C (R894, R895) -/

/-- A QSPI read command without an address phase. -/
theorem wrQspiCmd_read {v : Word} {s : State} (hgo : bit v 31 = true) (hwr : bit v 13 = false) (haddr : bit v 8 = false)
    (hidle : s.lsp.qspi = none) :
    wrQspiCmd v s = { s.emit (.qspi (fld v 0 8) none (fld v 9 4) []) with
      lsp := { s.lsp with qspi := some (false, (s.reg Reg.QSPI_BUF).toNat, s.rf Reg.QSPI_LEN 0 17) } }.setReg Reg.QSPI_STAT 1 := by
  simp only [wrQspiCmd, hgo, hwr, haddr, hidle, Option.isSome_none, Bool.true_eq_false, Bool.false_eq_true, or_self, if_false,
    State.emit_lsp]

theorem qspiDone_write {data : List Byte} {buf n : Nat} {s : State} (h : s.lsp.qspi = some (true, buf, n)) :
    qspiDone data s = raiseEvt Reg.LSP 2 ({ s with lsp := { s.lsp with qspi := none } }.setReg Reg.QSPI_STAT 2) := by
  simp only [qspiDone, h, if_true]

theorem wrI2cXfer_starts {i : Nat} {v : Word} {s : State} (hgo : bit v 31 = true) (hidle : AMap.get none s.lsp.i2c i = none)
    (hen : s.rb (Reg.I2C_CFG i) 4 = true) (hwl : fld v 8 5 ≤ 16) (hrl : fld v 16 5 ≤ 16) :
    wrI2cXfer i v s = { s.emit (.i2c i (fld v 0 7) ((s.i2cBytes i).take (fld v 8 5)) (fld v 16 5)) with
      lsp := { s.lsp with i2c := AMap.set none s.lsp.i2c i (some (fld v 16 5)) } }.setReg (Reg.I2C_STAT i) 1 := by
  simp only [wrI2cXfer, hgo, hidle, hen, Nat.not_lt.mpr hwl, Nat.not_lt.mpr hrl, Option.isSome_none, Bool.true_eq_false,
    Bool.false_eq_true, or_self, if_false, State.emit_lsp]

theorem i2cDone_nack {i rl : Nat} {data : List Byte} {s : State} (h : AMap.get none s.lsp.i2c i = some rl) :
    i2cDone i true false false data s = raiseEvt Reg.LSP 0
      ({ s with lsp := { s.lsp with i2c := AMap.set none s.lsp.i2c i none } }.setReg (Reg.I2C_STAT i) 2) := by
  simp only [i2cDone, h, Bool.true_or, if_true]
  rfl

/-! ### UARTs and GPIO (R896 to R898) -/

theorem wrUartTx_joins {u : Nat} {v : Word} {s : State} (hen : s.rb (Reg.UART_CFG u) 31 = true) (hown : s.txTaken u = false)
    (hroom : (s.uart u).tx.length < 64) :
    wrUartTx u v s = s.setUart u { s.uart u with
      tx := (s.uart u).tx ++ [s.uartData u (bits v 0 8)]
      txAt := if (s.uart u).tx = [] then s.bt else (s.uart u).txAt } := by
  simp only [wrUartTx, hen, hown, Nat.not_le.mpr hroom, Bool.true_eq_false, Bool.false_eq_true, or_self, if_false]

theorem uartReceive_fifo {u : Nat} {ch : Byte} {fe pe brk : Bool} {s : State} (hen : s.rb (Reg.UART_CFG u) 31 = true)
    (hfree : s.todBound u = false) (hroom : (s.uart u).rx.length < 64) :
    uartReceive u ch fe pe brk s = raiseEvt Reg.LSP 1 (s.setUart u { s.uart u with
      rx := (s.uart u).rx ++ [BitVec.ofNat 32 ((s.uartData u ch).toNat + 256 + 512 * b2n fe + 1024 * b2n pe +
        2048 * b2n (s.uart u).ovr)]
      ovr := false
      brk := brk }) := by
  simp only [uartReceive, hen, hfree, Nat.not_le.mpr hroom, Bool.true_eq_false, Bool.false_eq_true, if_false]

/-- A rising edge on an input that software reads and whose rise it watches. -/
theorem gpioEdge_rise {g : Nat} {s s1 : State} (hlow : bit s.lsp.gpioIn g = false)
    (hs1 : { s with lsp := { s.lsp with gpioIn := setBit s.lsp.gpioIn g true } } = s1) (hfunc : s1.gpioFunc g = 0)
    (hrise : s1.rb Reg.GPIO_RISE g = true) :
    gpioEdge g true s = wakeRequest 17 (raiseEvt Reg.LSP 3 (s1.hwSet Reg.GPIO_EVT g)) := by
  simp only [gpioEdge, hlow, hs1, hfunc, hrise, Bool.false_eq_true, if_false, if_true]

/-! ### The inventory wire (R899, R900) -/

theorem wrInvCmd_search {v : Word} {s : State} (hbit : bit v 0 = true) (hidle : s.lsp.invBusy = false) :
    wrInvCmd v s = ({ s with lsp := { s.lsp with invBusy := true } }.resetRegs (Reg.INV_ID 0) 64).setReg Reg.INV_STAT 0x10 :=
  if_neg (by simp [hbit, hidle])

/-- A search whose attempts end it, and not as INCOMPLETE. -/
theorem invDone_complete {pr : List Bool} {bs cs : List (List Bool)} {x : InvWalk} {s s1 : State} (hbusy : s.lsp.invBusy = true)
    (hx : (pr.zip (List.zipWith List.zip bs cs)).foldl InvWalk.attempt {} = x) (hended : x.ended = true) (hinc : x.incomplete = false)
    (hs1 : x.ids.zipIdx.foldl (fun a p => a.setRegN (Reg.INV_ID p.2) p.1.toNat 2) { s with lsp := { s.lsp with invBusy := false } } = s1) :
    invDone pr bs cs s = raiseEvt Reg.LSP 4 (s1.setReg Reg.INV_STAT
      (BitVec.ofNat 32 (x.ids.length + 64 * x.restarts + 256 * b2n x.more))) := by
  have hzero : 32 * b2n false = 0 := rfl
  simp only [invDone, hx, hbusy, hended, hinc, hs1, hzero, Nat.add_zero, Bool.true_eq_false, Bool.false_eq_true, or_self, if_false]

namespace InvWalk
variable {x : InvWalk} {l : List (Bool × Bool)} (hrun : x.ended = false)
include hrun

/-- A walk without open branches finds the last identity. -/
theorem attempt_last {bs : List Bool} (hwalk : walkFrom x.path 0 l = some (bs, [])) (hlen : bs.length = 64)
    (hgood : idGood (idOf bs) = true) : x.attempt (true, l) = { x with ids := x.ids ++ [idOf bs], ended := true } := by
  simp only [attempt, hrun, hwalk, hlen, hgood, List.getLast?_nil, Bool.true_eq_false, Bool.false_eq_true, ne_eq, not_true_eq_false,
    or_self, if_false, if_true]

theorem attempt_restart (h : x.restarts < 3) : x.attempt (false, l) = { restarts := x.restarts + 1 } := by
  simp only [attempt, hrun, Nat.ne_of_lt h, Bool.false_eq_true, if_false]

theorem attempt_giveUp (h : x.restarts = 3) : x.attempt (false, l) = { x with ended := true, incomplete := true } := by
  simp only [attempt, hrun, h, Bool.false_eq_true, if_false, if_true]

end InvWalk

/-- Settles O58, clause by clause. -/
theorem hostAndSerialAct : Obligations.HostAndSerialAct := by
  unfold Obligations.HostAndSerialAct
  refine ⟨?ringEntry, ?nop, ?copyIn, ?copyOut, ?mram, ?mint, ?transmit, ?link, ?qspi, ?qspiEnd, ?i2c, ?i2cEnd, ?uartSend, ?uartGet,
    ?gpio, ?search, ?searchEnd, ?walkLast, ?walkAgain, ?walkGivenUp⟩
  case ringEntry =>
    intro r seq opcode s s1 h hnext hs1
    have hops : (ringOps.contains opcode.toNat = true) = (opcode.toNat ∈ [0x0001, 0x0010, 0x0011, 0x0020, 0x0031]) :=
      propext List.contains_iff_mem
    refine show execCommandRingEntry r seq opcode s = _ from (cmdT_acts h).trans ?_
    simp only [ringStart_next hnext hs1, hops]
  case nop =>
    intro r c s h hc hop
    exact show execHostNop r s = _ from (cmdE_live h).trans (by rw [ringDo_op hc hop, ringOnce_running hc])
  case copyIn =>
    intro r c addr data s h hc hop hlen hin
    exact show execCopyIn r addr data false s = _ from (cmdE_live h).trans (by rw [ringDo_op hc hop, copyIn_sram hlen hin])
  case copyOut =>
    intro r c addr res n s h hc hop hlen hin hgood
    exact show execCopyOut r addr n res false s = _ from
      (cmdE_live h).trans (by rw [ringDo_op hc hop, copyOut_sram hc hlen hin hgood])
  case mram =>
    intro r c ofs data s h hc hop hactive hwaiting
    refine ⟨fun hok => ?_, fun hbad => ?_⟩
    · exact show execMramWrite r ofs data false s = _ from
        (execMramWrite_runs h hc hop hactive hwaiting).trans (by rw [mramWrite_journalled hok])
    · exact show execMramWrite r ofs data false s = _ from
        (execMramWrite_runs h hc hop hactive hwaiting).trans (by rw [mramWrite_badLength hbad])
  case mint =>
    intro r c c1 block l addr st s s1 h hc hop hlen hmint hc1
    exact show execNtsMint r block addr s = _ from (cmdE_live h).trans (by rw [ringDo_op hc hop, ntsMint_minted hlen hmint hc1])
  case transmit =>
    intro r port flags tag data e s s1 s2 h hready hpop hpush
    exact show execHostTxEntry r port flags tag data false s = _ from (cmdT_acts h).trans (by rw [hostTx_queued hready hpop hpush])
  case link =>
    intro lanes gen s h hlink _
    exact show execPcieLinkChange true false lanes gen s = _ from (cmdE_live h).trans (by rw [pcieLink_rises hlink])
  case qspi =>
    intro m v s h hgo hwr haddr hidle
    exact show execQspiCommand m v s = _ from (cmdW_reaches h).trans (by rw [wrQspiCmd_read hgo hwr haddr hidle])
  case qspiEnd =>
    intro data buf n s h hq
    exact show execQspiDone data s = _ from (cmdE_live h).trans (by rw [qspiDone_write hq])
  case i2c =>
    intro m i v s h hgo hidle hen hwl hrl
    exact show execI2cTransfer m i v s = _ from (cmdW_reaches h).trans (by rw [wrI2cXfer_starts hgo hidle hen hwl hrl])
  case i2cEnd =>
    intro i data rl s h hrl
    exact show execI2cDone i true false false data s = _ from (cmdE_live h).trans (by rw [i2cDone_nack hrl])
  case uartSend =>
    intro m u v s h hen hown hroom
    exact show execUartTransmit m u v s = _ from (cmdW_reaches h).trans (by rw [wrUartTx_joins hen hown hroom])
  case uartGet =>
    intro u ch fe pe brk s h hen hfree hroom
    exact show execUartReceive u ch fe pe brk s = _ from (cmdE_live h).trans (by rw [uartReceive_fifo hen hfree hroom])
  case gpio =>
    intro g s s1 h hlow hs1 hfunc hrise
    exact show execGpioEdge g true s = _ from (cmdE_live h).trans (by rw [gpioEdge_rise hlow hs1 hfunc hrise])
  case search =>
    intro m v s h hbit hidle
    exact show execInvSearch m v s = _ from (cmdW_reaches h).trans (by rw [wrInvCmd_search hbit hidle])
  case searchEnd =>
    intro pr bs cs x s s1 h hbusy hx hended hinc hs1
    exact show execInventorySearchDone pr bs cs s = _ from (cmdE_live h).trans (by rw [invDone_complete hbusy hx hended hinc hs1])
  case walkLast =>
    intro x l bs hrun hwalk hlen hgood
    exact InvWalk.attempt_last hrun hwalk hlen hgood
  case walkAgain =>
    intro x l hrun h
    exact InvWalk.attempt_restart hrun h
  case walkGivenUp =>
    intro x l hrun h
    exact InvWalk.attempt_giveUp hrun h

end Sys2Proof.Machine

end

section

/-! # Proofs: the supply, the resets, the boot and the power states (R909 to R926, R941) -/

namespace Sys2Proof.Machine

/-! ### The supply, the time base and the resets (R59, R66, R917) -/

theorem powerRise_off {mhz : Nat} {b4 pref : Bool} {s s1 : State} (hoff : s.pwr.good = false)
    (hs1 : chipReset true { (s.resetRegs Reg.FLT_RSTCAUSE 0x10).setReg Reg.PWR_RSTCAUSE 0 with bt := 0, btRun := false } = s1) :
    powerRise mhz b4 pref s = { s1 with pwr := { s1.pwr with
      good := true
      goodAt := 0
      strapB4 := b4
      strapPref := pref
      oscRatio := if mhz = 10 then 100 else if 19 ≤ mhz ∧ mhz ≤ 21 then 50 else 0 } } := by
  simp only [powerRise, hoff, hs1, Bool.false_eq_true, if_false]

theorem apllLock_starts {s : State} (hgood : s.pwr.good = true) (hstill : s.btRun = false) (hratio : s.pwr.oscRatio ≠ 0) :
    apllLock s = { s.atCycle 0 with btRun := true } := if_neg (by simp [hgood, hstill, hratio])

theorem powerFall_on {s : State} (hgood : s.pwr.good = true) :
    powerFall s = { journalCut s with btRun := false, mtx := [], pwr := { (journalCut s).pwr with good := false } }.emit (.allPins true) :=
  if_neg (by simp [hgood])

theorem powerFall_off {s : State} (hoff : s.pwr.good = false) : powerFall s = s := if_pos hoff

theorem resetAssert_on {s : State} (hgood : s.pwr.good = true) :
    resetAssert s = chipReset true (s.setReg Reg.PWR_RSTCAUSE 1) := if_pos hgood

/-! ### The boot (R923 to R926) -/

section Boot
variable {b4 pref : Bool} {primary secondary : List Byte} {s s1 s2 s3 : State} (hgood : s.pwr.good = true) (hrun : s.btRun = true)
  (hpend : s.pwr.bootPend = true)
  (hs1 : bdrLeave (geoLeave (bootPrepare b4 pref { s with pwr := { s.pwr with held := false }, fct := { s.fct with since := s.bt } })) = s1)
  (hs2 : showPin { s1 with pwr := { s1.pwr with bootPend := false, coldPend := false }, flt := { s1.flt with chipRst := false } } = s2)
include hgood hrun hpend hs1 hs2

theorem boot_primary (h1 : bootImage primary s2 = (none, s3)) : boot b4 pref primary secondary s = bootStart 1 s3 := by
  rw [boot, if_neg (by simp [hgood, hrun, hpend])]
  simp only [hs1, hs2, h1]

variable {r : LoadRej} (h1 : bootImage primary s2 = (some r, s3))
include h1

theorem boot_secondary {s4 : State} (h2 : bootImage secondary (s3.setRf Reg.PWR_BOOT 4 4 r.code) = (none, s4)) :
    boot b4 pref primary secondary s = bootStart 2 s4 := by
  rw [boot, if_neg (by simp [hgood, hrun, hpend])]
  simp only [hs1, hs2, h1, h2]

theorem boot_failed {q : LoadRej} {s4 : State} (h2 : bootImage secondary (s3.setRf Reg.PWR_BOOT 4 4 r.code) = (some q, s4)) :
    boot b4 pref primary secondary s =
      fault .pwr 0 0 (raiseEvt Reg.PWR 3 ((s4.setRf Reg.PWR_BOOT 8 4 q.code).setRb Reg.PWR_BOOT 18 true)) := by
  rw [boot, if_neg (by simp [hgood, hrun, hpend])]
  simp only [hs1, hs2, h1, h2]

end Boot

/-! ### What the writes of PWR_CMD of a cycle come to (R914, R916, R941) -/

section Judge
variable {s : State} {k : Nat} (hquies : s.thisCyc.quies = false)
include hquies

/-- The only command of the cycle is refused before it is judged. -/
theorem judgePwr_barred {cmd bar : Nat} (hcmds : s.thisCyc.pwrCmds = [(k, cmd, bar)]) (hbar : bar ≠ 0) :
    judgePwr s = s.setRf Reg.PWR_STAT 0 4 bar := by
  simp only [judgePwr, hcmds, hquies, hbar, List.isEmpty_cons, List.foldl_cons, List.foldl_nil, Bool.not_false, Bool.and_true,
    Bool.or_false, Bool.false_eq_true, ne_eq, not_false_eq_true, if_true, if_false]
  rw [← hcmds, ← hquies]

/-- RUN is the only command of a cycle of a quiescent device. -/
theorem judgePwr_run (hcmds : s.thisCyc.pwrCmds = [(k, 2, 0)]) (hq : s.quiescent = true) :
    judgePwr s = s.setRf Reg.PWR_STAT 0 4 0 := by
  simp only [judgePwr, hcmds, hquies, hq, List.isEmpty_cons, List.foldl_cons, List.foldl_nil, Bool.not_false, Bool.and_true,
    Bool.or_false, Bool.true_or, Bool.false_eq_true, ne_eq, not_true_eq_false, if_true, if_false]
  rw [← hcmds, ← hquies]

/-- QUIESCE is the only command of the cycle and nothing refuses it. -/
theorem judgePwr_quiesce (hcmds : s.thisCyc.pwrCmds = [(k, 1, 0)]) (hrej : s.quiesceRej s.pwr.entering = 0) :
    judgePwr s = { s with pwr := { s.pwr with entering := true }, thisCyc := { s.thisCyc with quies := true } }.setRf
      Reg.PWR_STAT 0 4 0 := by
  simp only [judgePwr, hcmds, hquies, hrej, List.isEmpty_cons, List.foldl_cons, List.foldl_nil, Bool.not_false, Bool.and_true,
    Bool.or_false, Bool.or_true, Bool.false_eq_true, ne_eq, not_true_eq_false, decide_true, if_false]

/-- QUIESCE is the only command of the cycle and is refused. -/
theorem judgePwr_quiesceRefused (hcmds : s.thisCyc.pwrCmds = [(k, 1, 0)]) (hrej : s.quiesceRej s.pwr.entering ≠ 0) :
    judgePwr s = s.setRf Reg.PWR_STAT 0 4 (s.quiesceRej s.pwr.entering) := by
  simp only [judgePwr, hcmds, hquies, hrej, List.isEmpty_cons, List.foldl_cons, List.foldl_nil, Bool.not_false, Bool.and_true,
    Bool.or_false, Bool.false_eq_true, ne_eq, not_true_eq_false, decide_false, if_false]
  rw [← hcmds, ← hquies]

end Judge

/-! ### Writes of PWR_CMD -/

/-- The commands of a cycle with one more, in the order of their writers. -/
def pwrCmdsWith (m : Master) (cmd bar : Nat) (l : List (Nat × Nat × Nat)) : List (Nat × Nat × Nat) :=
  l.takeWhile (fun c => decide (c.1 ≤ bdrRank m)) ++ (bdrRank m, cmd, bar) :: l.dropWhile (fun c => decide (c.1 ≤ bdrRank m))

theorem pwrCmdsWith_nil (m : Master) (cmd bar : Nat) : pwrCmdsWith m cmd bar [] = [(bdrRank m, cmd, bar)] := rfl

theorem pwrBarred_quiesce {m : Master} {v : Word} (h : fld v 0 2 = 1) : pwrBarred m v = if mayQuiesce m then 0 else 1 := by
  simp only [pwrBarred, h]

theorem wrPwrCmd_quiesce {m : Master} {v : Word} {s : State} (h : fld v 0 2 = 1) :
    wrPwrCmd m v s = judgePwr { s with thisCyc := { s.thisCyc with
      pwrCmds := pwrCmdsWith m 1 (if mayQuiesce m then 0 else 1) s.thisCyc.pwrCmds } } := by
  simp only [wrPwrCmd, h, pwrBarred_quiesce h, pwrCmdsWith, or_true, if_true, Nat.reduceEqDiff, if_false]

/-- QUIESCE by a master that may ask for it, as the only command of its cycle. -/
theorem wrPwrCmd_quiesceFirst {m : Master} {v : Word} {s s1 : State} (h : fld v 0 2 = 1) (hfirst : s.thisCyc.pwrCmds = [])
    (hmay : mayQuiesce m = true) (hs1 : { s with thisCyc := { s.thisCyc with pwrCmds := [(bdrRank m, 1, 0)] } } = s1) :
    wrPwrCmd m v s = judgePwr s1 := by
  rw [wrPwrCmd_quiesce h, hmay, hfirst, pwrCmdsWith_nil, if_pos rfl, hs1]

section Run
variable {v : Word} {s s1 : State} (h : fld v 0 2 = 2) (hfirst : s.thisCyc.pwrCmds = [])
include h hfirst

theorem wrPwrCmd_runByHost (hs1 : { s with thisCyc := { s.thisCyc with pwrCmds := [(bdrRank .host, 2, 0)] } } = s1) :
    wrPwrCmd .host v s = wakeRequest 18 (judgePwr s1) := by
  have hbar : pwrBarred .host v = 0 := by simp [pwrBarred, h, mayQuiesce]
  simp only [wrPwrCmd, h, hbar, hfirst, List.takeWhile_nil, List.dropWhile_nil, List.nil_append, hs1, ne_eq, not_true_eq_false,
    Nat.reduceEqDiff, or_self, if_true, if_false]

theorem wrPwrCmd_runByCalendar (hs1 : { s with thisCyc := { s.thisCyc with pwrCmds := [(bdrRank .calendar, 2, 1)] } } = s1) :
    wrPwrCmd .calendar v s = judgePwr s1 := by
  have hbar : pwrBarred .calendar v = 1 := by simp [pwrBarred, h]
  simp only [wrPwrCmd, h, hbar, hfirst, List.takeWhile_nil, List.dropWhile_nil, List.nil_append, hs1, ne_eq, Nat.reduceEqDiff,
    not_false_eq_true, true_or, if_true, if_false]

end Run

theorem wrPwrCmd_chipReset {v : Word} {s : State} (h : fld v 0 2 = 3) (hkey : fld v 16 16 = 0x5253) :
    wrPwrCmd .host v s = chipReset false (s.setReg Reg.PWR_RSTCAUSE 3) := by
  have hbar : pwrBarred .host v = 0 := by simp [pwrBarred, h, hkey]
  simp only [wrPwrCmd, h, hbar, ne_eq, not_true_eq_false, Nat.reduceEqDiff, or_self, if_false]

/-! ### Entry to QUIESCENT and exit from it (R912, R914 to R916) -/

section Entry
variable {s s1 s2 : State} (hentering : s.pwr.entering = true)
  (hs1 : forN 2 (fun ch a => if a.rb (Reg.DDR_STAT ch) 0 then a.setRb (Reg.DDR_STAT ch) 1 true else a) (forN 8 laneDrop s) = s1)
  (hs2 : (s1.setRf Reg.PWR_STATE 0 2 1).count Reg.PWR_CNT_QUIESCE = s2)
include hentering hs1 hs2

theorem quiesceDone_rests (hheld : s.pwr.wakeHeld = false) :
    quiesceDone s = raiseEvt Reg.PWR 0 { pwrSettled s2 with pwr := { s2.pwr with
      entering := false
      wakeHeld := false
      exiting := false
      stopAt := s.bt } } := by
  simp only [quiesceDone, hentering, hheld, hs1, hs2, Bool.true_eq_false, Bool.false_eq_true, if_false]

/-- A wake request came during the entry. -/
theorem quiesceDone_wakes (hheld : s.pwr.wakeHeld = true) :
    quiesceDone s = raiseEvt Reg.PWR 1 (raiseEvt Reg.PWR 0 { pwrSettled s2 with pwr := { s2.pwr with
      entering := false
      wakeHeld := false
      exiting := true
      stopAt := s.bt } }) := by
  simp only [quiesceDone, hentering, hheld, hs1, hs2, Bool.true_eq_false, if_true, if_false]

end Entry

theorem exitDone_exiting {s s1 s2 : State} (hexit : s.pwr.exiting = true) (hq : s.quiescent = true)
    (hs1 : forN 2 (fun ch a => if a.rb (Reg.DDR_STAT ch) 0 then a.setRb (Reg.DDR_STAT ch) 1 false else a) (s.setRf Reg.PWR_STATE 0 2 2) = s1)
    (hs2 : { s1 with pwr := { s1.pwr with exiting := false }, fct := { s1.fct with stopped := s1.fct.stopped + (s1.bt - s1.pwr.stopAt) } } = s2) :
    exitDone s = deliverHeld (raiseEvt Reg.PWR 0 (pwrSettled s2)) := by
  simp only [exitDone, hexit, hq, hs1, hs2, Bool.true_eq_false, or_self, if_false]

theorem avsChange_new {t : Nat} {s : State} (hlo : 720 ≤ t) (hhi : t ≤ 800) (hnew : t ≠ s.rf Reg.PWR_AVS 0 10) :
    avsChange t s = raiseEvt Reg.PWR 2 (s.setReg Reg.PWR_AVS (BitVec.ofNat 32 t)) :=
  if_neg (by rintro (h | h | h) <;> omega)

theorem quiesceRej_woken {s : State} (hq : s.quiescent = false) (hwake : s.pwr.wakeAt = some s.bt) : s.quiesceRej false = 6 := by
  simp only [State.quiesceRej, hq, hwake, Bool.or_self, Bool.false_eq_true, if_true, if_false]

/-- Settles O59, clause by clause; the writes of PWR_CMD by what the commands of their cycle come to. -/
theorem powerAndBootAct : Obligations.PowerAndBootAct := by
  unfold Obligations.PowerAndBootAct
  refine ⟨?rise, ?lock, ?fall, ?resetPin, ?release, ?tap, ?quiesce, ?entry, ?run, ?chipReset, ?supply, ?exit, ?order, ?runBarred,
    ?woken, ?offFall⟩
  case rise =>
    intro mhz b4 pref s s1 hoff hs1
    exact show execPowerGoodRise mhz b4 pref s = _ from congrArg Host.Outcome.next (powerRise_off hoff hs1)
  case lock =>
    intro s hgood hstill hratio
    exact show execApllLock s = _ from congrArg Host.Outcome.next (apllLock_starts hgood hstill hratio)
  case fall =>
    intro s s1 hgood hs1
    subst hs1
    exact show execPowerGoodFall s = _ from congrArg Host.Outcome.next (powerFall_on hgood)
  case resetPin =>
    intro s hgood
    exact show execResetNAssert s = _ from congrArg Host.Outcome.next (resetAssert_on hgood)
  case release =>
    intro straps b4 pref primary secondary s s1 s2 s3 hgood hrun hpend hstraps hs1 hs2
    have hexec : exec (.resetRelease straps (primary, secondary)) s = .next (boot b4 pref primary secondary s) := by
      show execResetRelease straps (primary, secondary) s = _
      rw [execResetRelease, hstraps]
    refine ⟨fun h1 => ?_, fun r s4 h1 h2 => ?_, fun r q s4 h1 h2 => ?_⟩
    · rw [hexec, boot_primary hgood hrun hpend hs1 hs2 h1]
    · rw [hexec, boot_secondary hgood hrun hpend hs1 hs2 h1 h2]
    · rw [hexec, boot_failed hgood hrun hpend hs1 hs2 h1 h2]
  case tap =>
    intro s h
    exact show execTapReset s = _ from cmdA_alive h
  case quiesce =>
    intro m v s s1 h hcmd hfirst hquies hs1
    have hcmds : s1.thisCyc.pwrCmds = [(bdrRank m, 1, 0)] := hs1 ▸ rfl
    have hquies1 : s1.thisCyc.quies = false := hs1 ▸ hquies
    have hrej1 : s1.quiesceRej s1.pwr.entering = s.quiesceRej s.pwr.entering := hs1 ▸ rfl
    have hpwr1 : s1.pwr = s.pwr := hs1 ▸ rfl
    refine ⟨fun hmay hrej => ?_, fun hmay hrej => ?_⟩
    · exact show execQuiesce m v s = _ from (cmdW_reaches h).trans
        (by rw [wrPwrCmd_quiesceFirst hcmd hfirst hmay hs1, judgePwr_quiesce hquies1 hcmds (hrej1.trans hrej)])
    · exact show execQuiesce m v s = _ from (cmdW_reaches h).trans
        (by rw [wrPwrCmd_quiesceFirst hcmd hfirst hmay hs1, judgePwr_quiesceRefused hquies1 hcmds (hrej1 ▸ hrej), hrej1])
  case entry =>
    intro s s1 s2 h hentering hs1 hs2
    refine ⟨fun hheld => ?_, fun hheld => ?_⟩
    · exact show execQuiesceEntryDone s = _ from (cmdA_alive h).trans (by rw [quiesceDone_rests hentering hs1 hs2 hheld])
    · exact show execQuiesceEntryDone s = _ from (cmdA_alive h).trans (by rw [quiesceDone_wakes hentering hs1 hs2 hheld])
  case run =>
    intro v s s1 h hcmd hq hfirst hquies hs1
    have hcmds : s1.thisCyc.pwrCmds = [(bdrRank .host, 2, 0)] := hs1 ▸ rfl
    have hquies1 : s1.thisCyc.quies = false := hs1 ▸ hquies
    have hq1 : s1.quiescent = true := hs1 ▸ hq
    exact show execPwrRun .host v s = _ from
      (cmdW_reaches h).trans (by rw [wrPwrCmd_runByHost hcmd hfirst hs1, judgePwr_run hquies1 hcmds hq1])
  case chipReset =>
    intro v s h hcmd hkey
    exact show execPwrChipReset .host v s = _ from (cmdW_reaches h).trans (by rw [wrPwrCmd_chipReset hcmd hkey])
  case supply =>
    intro t s h hlo hhi hnew
    exact show execAvs t s = _ from (cmdE_live h).trans (by rw [avsChange_new hlo hhi hnew])
  case exit =>
    intro s s1 s2 h hexit hq hs1 hs2
    exact show execWakeExitDone s = _ from (cmdA_alive h).trans (by rw [exitDone_exiting hexit hq hs1 hs2])
  case order =>
    intro m v s h hcmd
    exact show execQuiesce m v s = _ from (cmdW_reaches h).trans (by rw [wrPwrCmd_quiesce hcmd]; rfl)
  case runBarred =>
    intro v s s1 h hcmd hfirst hquies hs1
    have hcmds : s1.thisCyc.pwrCmds = [(bdrRank .calendar, 2, 1)] := hs1 ▸ rfl
    have hquies1 : s1.thisCyc.quies = false := hs1 ▸ hquies
    exact show execPwrRun .calendar v s = _ from
      (cmdW_reaches h).trans (by rw [wrPwrCmd_runByCalendar hcmd hfirst hs1, judgePwr_barred hquies1 hcmds (by decide)])
  case woken =>
    intro s hq hwake
    exact quiesceRej_woken hq hwake
  case offFall =>
    intro s hoff
    exact show execPowerGoodFall s = _ from congrArg Host.Outcome.next (powerFall_off hoff)

end Sys2Proof.Machine

end

section

/-! # Proofs: the Geode (R927 to R938, R945) -/

namespace Sys2Proof.Machine

/-! ### Writes across the crossing (R929, R930, R938) -/

theorem geoSend_idle {off val : Nat} {s : State} (h : s.geo.busy = none) :
    geoSend off val s = { s with geo := { s.geo with busy := some (off, val) } }.setRb Reg.GEO_STAT 5 true := if_neg (by simp [h])

theorem geoLand_busy {off val : Nat} {s s1 : State} (hbusy : s.geo.busy = some (off, val))
    (hs1 : { s with geo := { s.geo with busy := none } }.setRb Reg.GEO_STAT 5 false = s1) :
    geoLand s = showWake (geoApply off val s1) := by
  simp only [geoLand, hbusy, hs1]

/-- The last word of GEO_SET sends the three words of the value. -/
theorem wrGeo_setLast {m : Master} {v : Word} {s : State} :
    wrGeo m (Reg.GEO + 0x05C) v s =
      geoSend 0x054 (s.commitWords m (Reg.GEO + 0x054) 3 v) (s.dropStaged m (Reg.GEO + 0x054) 3) := by
  rw [wrGeo, if_pos (by decide)]
  exact if_neg (by decide)

theorem wrGeo_stat {m : Master} {v : Word} {s : State} : wrGeo m Reg.GEO_STAT v s = geoSend 0x044 v.toNat s := by
  rw [wrGeo, if_neg (by decide), if_neg (by decide)]
  exact if_pos (by decide)

/-! ### Counter, trim and alarm (R931 to R934) -/

section Second
variable {s s1 : State} (hruns : s.geoRuns = true)
  (hs1 : { s with geo := { s.geo with secs := s.geo.secs + 1, sub := 0, holdTicks := 0, turned := true } } = s1)
include hruns hs1

theorem geoSecond_still (hstill : s.btRun = false) : geoSecond s = s1 := by
  rw [geoSecond, if_neg (by simp [hruns])]
  simp only [hs1]
  rw [if_pos hstill]

/-- A second that passes while Bedrock runs captures it. -/
theorem geoSecond_captures (hrun : s.btRun = true) :
    geoSecond s = (s1.nextFree.setRegN Reg.GEO_BTCAP (s.bt + cyc (s.freeVal % 5) - cyc 2).toNat 3).setReg Reg.GEO_BTSEC
      (BitVec.ofNat 32 (s.geo.secs + 1).toNat) := by
  have hfree : s1.freeVal = s.freeVal := hs1 ▸ rfl
  rw [geoSecond, if_neg (by simp [hruns])]
  simp only [hs1, hfree]
  rw [if_neg (by simp [hrun])]

end Second

section Trim
variable {s : State} (hruns : s.geoRuns = true) (hturn : s.geo.secs.toNat % 32 = 0) (hsub : s.geo.sub = 0) (hhold : s.geo.holdTicks = 0)
include hruns hturn hsub hhold

theorem geoTrim_ahead (h : 0 ≤ (bits (s.reg Reg.GEO_TRIM) 0 8).toInt) :
    geoTrim s = { s with geo := { s.geo with sub := BitVec.ofNat 15 (bits (s.reg Reg.GEO_TRIM) 0 8).toInt.toNat } } := by
  rw [geoTrim, if_neg (by simp [hruns, hturn, hsub, hhold]), if_pos h]

theorem geoTrim_behind (h : (bits (s.reg Reg.GEO_TRIM) 0 8).toInt < 0) :
    geoTrim s = { s with geo := { s.geo with holdTicks := (-(bits (s.reg Reg.GEO_TRIM) 0 8).toInt).toNat } } := by
  rw [geoTrim, if_neg (by simp [hruns, hturn, hsub, hhold]), if_neg (Int.not_le.mpr h)]

end Trim

theorem geoAlarm_fires {s s1 : State} (hen : s.rb Reg.GEO_CFG 0 = true) (hruns : s.geoRuns = true) (hturned : s.geo.turned = true)
    (hsec : s.geo.secs.toNat = s.regN Reg.GEO_ALARM 2)
    (hs1 : showWake ({ s with geo := { s.geo with turned := false } }.hwSet Reg.GEO_STAT 0) = s1) :
    geoAlarm s = if s1.alive then wakeRequest 16 (raiseEvt Reg.GEO 0 s1) else s1 := by
  rw [geoAlarm, if_neg (by simp [hen, hruns, hturned, hsec])]
  simp only [hs1]

/-! ### Tamper and the power-on reset (R927, R936, R937) -/

/-- An enabled input that is active high goes high. -/
theorem geoTamper_detects {i : Nat} {s s1 s2 s3 : State} (hen : s.rb Reg.GEO_TCFG (2 * i) = true)
    (hhigh : s.rb Reg.GEO_TCFG (2 * i + 1) = true) (hs1 : (s.hwSet Reg.GEO_STAT 1).hwSet Reg.GEO_STAT (8 + i) = s1)
    (hs2 : s1.setRegN Reg.GEO_TTIME s.geo.secs.toNat 2 = s2)
    (hs3 : showWake (if s.rb Reg.GEO_TCFG 8 then s2.resetRegs (Reg.GEO_BKP 0) 0x100 else s2) = s3) :
    geoTamper i true s = if s3.alive then fault .geo 0 0 (raiseEvt Reg.GEO 1 s3) else s3 := by
  rw [geoTamper, if_neg (by simp [hen, hhigh])]
  simp only [hs1, hs2, hs3]

theorem geoPor_off {s s1 : State} (hoff : s.pwr.good = false) (hs1 : s.resetRegs (Reg.GEO + 0x040) 0xFC0 = s1) :
    geoPor s = showWake { s1 with geo := { Geo.reset with wakeOut := s.geo.wakeOut }, key := { s1.key with geoCtr := none } } := by
  rw [geoPor, if_neg (Bool.eq_false_iff.mp hoff)]
  simp only [hs1]

/-- Settles O60, clause by clause; the capture of a second lies within the five values that the free choice of the cycle gives. -/
theorem geodeActs : Obligations.GeodeActs := by
  unfold Obligations.GeodeActs
  refine ⟨?land, ?set, ?second, ?trim, ?alarm, ?tamper, ?tamperClear, ?powerOnReset, ?stop⟩
  case land =>
    intro off val s s1 hbusy hs1
    exact show execGeoWriteLand s = _ from congrArg Host.Outcome.next (geoLand_busy hbusy hs1)
  case set =>
    intro m v s s1 h hs1 hidle
    subst hs1
    exact show execGeoSet m v s = _ from (cmdW_reaches h).trans (by rw [wrGeo_setLast, geoSend_idle hidle])
  case second =>
    intro s s1 hruns hs1
    refine ⟨fun hstill => ?_, fun hrun => ⟨s.freeVal % 5, Nat.le_of_lt_succ (Nat.mod_lt _ (by decide)), ?_⟩⟩
    · exact show execGeoSecond s = _ from congrArg Host.Outcome.next (geoSecond_still hruns hs1 hstill)
    · exact show execGeoSecond s = _ from congrArg Host.Outcome.next (geoSecond_captures hruns hs1 hrun)
  case trim =>
    intro s hruns hturn hsub hhold
    refine ⟨fun hpos => ?_, fun hneg => ?_⟩
    · exact show execGeoTrimApply s = _ from congrArg Host.Outcome.next (geoTrim_ahead hruns hturn hsub hhold hpos)
    · exact show execGeoTrimApply s = _ from congrArg Host.Outcome.next (geoTrim_behind hruns hturn hsub hhold hneg)
  case alarm =>
    intro s s1 hen hruns hturned hsec hs1
    exact show execGeoAlarm s = _ from congrArg Host.Outcome.next (geoAlarm_fires hen hruns hturned hsec hs1)
  case tamper =>
    intro i s s1 s2 s3 hen hhigh hs1 hs2 hs3
    exact show execTamper i true s = _ from congrArg Host.Outcome.next (geoTamper_detects hen hhigh hs1 hs2 hs3)
  case tamperClear =>
    intro m v s h hidle
    exact show execTamperClear m v s = _ from (cmdW_reaches h).trans (by rw [wrGeo_stat, geoSend_idle hidle])
  case powerOnReset =>
    intro s s1 hoff hs1
    exact show execGeoPowerOnReset s = _ from congrArg Host.Outcome.next (geoPor_off hoff hs1)
  case stop =>
    intro s h
    exact show execXtalStop s = _ from cmdE_live h

end Sys2Proof.Machine

end
